-- ==== Sys2Proof/Word.lean ====
section
/-! DEFINITION. The words of the block: a byte. -/

namespace Sys2Proof

/-- A byte of a structure, a frame or a memory. -/
abbrev Byte := BitVec 8

end Sys2Proof
end

