-- ==== Sys2Proof/Config.lean ====
section
/-! DEFINITION. Free values: what the specification leaves open, as constants without a body. Nothing in Lean can
evaluate one or prove a value of it. -/

namespace Sys2Proof.Config

/-- The cache set a translation maps to: tag, page size and virtual page (R102 names 8 ways, not the hash). -/
opaque xlSet : Nat → Nat → Nat → Nat

/-- The rate adjustment in ppm that the time servo chooses (R36 gives its bounds, not its law). -/
opaque servoRate : Int → Int

/-- The bin of an exact receive: endpoint, context, source node, source endpoint and tag (R149 names the inputs of the
hash, not the hash). -/
opaque mxBin : Nat → Nat → Nat → Nat → Nat → Nat

/-- The cache set of a window line: window and line (R332 names 16 ways, not the hash). -/
opaque wnSet : Nat → Nat → Nat

/-- The drop in mV that one trim step adds to the feed above its share, from the group's currents and SHARE_A (R358 gives
its bound of 250 mV, not its law). -/
opaque feedTrim : Nat → Nat → Nat → Nat

/-- SHARE_NOW of a group that carries no current: feed A's percentage of nothing (R365). -/
opaque idleShare : Nat

/-- The payload of a KIND 5 mirror record (R373 and R379 give no layout). -/
opaque resyncPayload : Nat → Nat

/-- A SHA-512 digest as a little-endian number (R440 refers to FIPS 180-4). -/
opaque sha512 : List Byte → Nat

/-- A point encoding is canonical; a public key has small order; the equation of RFC 8032 section 5.1.7 holds for a key,
a message, R and S (R440 refers to RFC 8032). -/
opaque edCanonical : Nat → Bool
opaque edSmallOrder : Nat → Bool
opaque edEquation : Nat → List Byte → Nat → Nat → Bool

/-- The public key of a private seed, and a signature with it (R443, R454 refer to RFC 8032). -/
opaque edPublic : Nat → Nat
opaque edSign : Nat → List Byte → Nat

/-- The public key whose digest a fuse holds: a statement carries no key (R441, R449 do not say where the device takes it
from). -/
opaque keyOf : Nat → Nat

/-- The fabric port map that a configuration image sets: first lane and width of each port (R20 and R465 name no record
that carries it). -/
opaque portMap : List Byte → List (Nat × Nat)

/-- A fresh nonce (R450). -/
opaque nonce : Nat → Nat

/-- What a debug read returns: the number of the read, and the byte. The internal address space is not documented (R486). -/
opaque debugData : Nat → Nat → Byte

/-- What GETSTATUS and GETMXDS return, 16 bits each: R478 names them and gives no value. -/
opaque i3cStatus : Nat → Nat
opaque i3cSpeed : Nat

/-- What host memory holds: the number of the reading, the function, and the address of a byte. Host memory lies outside the
device, and no command brings the payload that a packet reads there (R138, R251). -/
opaque hostByte : Nat → Nat → Nat → Byte

end Sys2Proof.Config
end

