-- ==== Sys2Proof/Machine/Bits.lean ====
section
/-! DEFINITION. Bit fields, signed numbers and byte order (R2, R3), and the counting helpers every block uses. -/

namespace Sys2Proof.Machine

/-- The field of `len` bits at bit `lo` of a word (R2). -/
def field (w lo len : Nat) : Nat := (w >>> lo) % 2 ^ len

/-- One bit of a word, as a truth value. -/
def flag (w lo : Nat) : Bool := w.testBit lo

/-- `w` with its field of `len` bits at `lo` replaced by `v`. -/
def setField (w lo len v : Nat) : Nat :=
  w - field w lo len * 2 ^ lo + (v % 2 ^ len) * 2 ^ lo

/-- A word from fields laid side by side, the first in the lowest bits: each item is a width and a value. -/
def pack : List (Nat × Nat) → Nat
  | [] => 0
  | (len, v) :: rest => v % 2 ^ len + 2 ^ len * pack rest

/-- 1 for a true condition. -/
def bit (b : Bool) : Nat := if b then 1 else 0

/-- A two's complement reading of a field of `len` bits. -/
def signed (w len : Nat) : Int :=
  if w % 2 ^ len < 2 ^ (len - 1) then (w % 2 ^ len : Nat) else ((w % 2 ^ len : Nat) : Int) - 2 ^ len

/-- The two's complement word of `len` bits of an integer. -/
def unsigned (v : Int) (len : Nat) : Nat := (v % (2 ^ len : Int)).toNat

/-- The number that little-endian bytes spell (R3). -/
def ofBytes : List Byte → Nat
  | [] => 0
  | b :: rest => b.toNat + 256 * ofBytes rest

/-- The `n` little-endian bytes of a number (R3). -/
def toBytes : Nat → Nat → List Byte
  | 0, _ => []
  | n + 1, v => BitVec.ofNat 8 v :: toBytes n (v / 256)

/-- A count one higher that stays at its largest value. -/
def satInc (max v : Nat) : Nat := if v < max then v + 1 else max

/-- A sum that stays at its largest value. -/
def satAdd (max v n : Nat) : Nat := min max (v + n)

/-- A field where 0 acts as 1. -/
def orOne (v : Nat) : Nat := if v = 0 then 1 else v

/-- The ticks from `t` to `now` in the 48-bit tick index (R46). -/
def since48 (now t : Nat) : Nat := (now + 2 ^ 48 - t % 2 ^ 48) % 2 ^ 48

/-- The first item of a list that a test accepts. -/
def firstThat {α : Type} : List α → (α → Bool) → Option α
  | [], _ => none
  | a :: rest, p => if p a then some a else firstThat rest p

/-- A list with its first accepted item removed. -/
def removeFirst {α : Type} : List α → (α → Bool) → List α
  | [], _ => []
  | a :: rest, p => if p a then rest else a :: removeFirst rest p

/-- A list with every accepted item changed by `f`. -/
def mapWhere {α : Type} : List α → (α → Bool) → (α → α) → List α
  | [], _, _ => []
  | a :: rest, p, f => (if p a then f a else a) :: mapWhere rest p f

/-- A list with its first accepted item changed by `f`. -/
def mapFirst {α : Type} : List α → (α → Bool) → (α → α) → List α
  | [], _, _ => []
  | a :: rest, p, f => if p a then f a :: rest else a :: mapFirst rest p f

/-- How many items a test accepts. -/
def countWhere {α : Type} : List α → (α → Bool) → Nat
  | [], _ => 0
  | a :: rest, p => (if p a then 1 else 0) + countWhere rest p

/-- The numbers from `lo`, `n` of them. -/
def upFrom (lo : Nat) : Nat → List Nat
  | 0 => []
  | n + 1 => lo :: upFrom (lo + 1) n

/-- The bits of a word that a mask does not name. -/
def clearBits (w mask : Nat) : Nat := w - (w &&& mask)

/-- The lowest number below `lo + n`, from `lo` on, that a test accepts. -/
def lowest (p : Nat → Bool) (lo n : Nat) : Option Nat := firstThat (upFrom lo n) p

/-- Apply a state change once for each item, in list order. -/
def forEach {α σ : Type} (l : List α) (f : α → σ → σ) (s : σ) : σ :=
  match l with
  | [] => s
  | a :: rest => forEach rest f (f a s)

end Sys2Proof.Machine
end

