-- ==== Sys2Proof/Machine/Tbl.lean ====
section
/-! DEFINITION. Sparse tables: a list of (key, value) pairs in one canonical form, keys strictly rising and no entry
equal to what an unlisted key reads as. Registers, ports, lanes, slots, locks, counters, node tables, flash and Kiln
are all held so. -/

namespace Sys2Proof.Machine

/-- A sparse table. -/
abbrev Tbl (α : Type) := List (Nat × α)

/-- The value at key `k`; an unlisted key reads as `dflt`. -/
def Tbl.get {α : Type} (dflt : α) : Tbl α → Nat → α
  | [], _ => dflt
  | (j, v) :: rest, k => if j = k then v else Tbl.get dflt rest k

/-- Put `v` at key `k`, keeping the keys rising. -/
def Tbl.insert {α : Type} (k : Nat) (v : α) : Tbl α → Tbl α
  | [] => [(k, v)]
  | (j, w) :: rest =>
    if k < j then (k, v) :: (j, w) :: rest
    else if k = j then (k, v) :: rest
    else (j, w) :: Tbl.insert k v rest

/-- Remove key `k`. -/
def Tbl.erase {α : Type} (k : Nat) : Tbl α → Tbl α
  | [] => []
  | (j, w) :: rest => if j = k then rest else (j, w) :: Tbl.erase k rest

/-- Write `v` at key `k`: a value equal to what an unlisted key reads as removes the entry. -/
def Tbl.put {α : Type} [DecidableEq α] (dflt : α) (k : Nat) (v : α) (t : Tbl α) : Tbl α :=
  if v = dflt then Tbl.erase k t else Tbl.insert k v t

/-- Change the value at key `k`. -/
def Tbl.upd {α : Type} [DecidableEq α] (dflt : α) (k : Nat) (f : α → α) (t : Tbl α) : Tbl α :=
  Tbl.put dflt k (f (Tbl.get dflt t k)) t

/-- The keys listed. -/
def Tbl.keys {α : Type} : Tbl α → List Nat
  | [] => []
  | (k, _) :: rest => k :: Tbl.keys rest

/-- Keys strictly rising from above `lo`. -/
def Tbl.rising {α : Type} : Nat → Tbl α → Bool
  | _, [] => true
  | lo, (k, _) :: rest => decide (lo ≤ k) && Tbl.rising (k + 1) rest

/-- No entry equals what an unlisted key reads as. -/
def Tbl.noDefault {α : Type} [DecidableEq α] (dflt : α) : Tbl α → Bool
  | [] => true
  | (_, v) :: rest => !decide (v = dflt) && Tbl.noDefault dflt rest

/-- The canonical form. -/
def Tbl.wf {α : Type} [DecidableEq α] (dflt : α) (t : Tbl α) : Bool :=
  Tbl.rising 0 t && Tbl.noDefault dflt t

end Sys2Proof.Machine
end

