-- ==== Sys2Proof/Machine/UnitsNet.lean ====
section
/-! DEFINITION. The state of the network interface: endpoint rings (HQ), address translation (XL), reliable transport
(TP) and message matching (MX). -/

namespace Sys2Proof.Machine

/-- A ring position: an index and its lap value (R54). -/
structure Pos where
  index : Nat := 0
  lap : Bool := true
  deriving DecidableEq, Repr

/-- An event that waits for a free slot (R73, R75): its 32 bytes and whether it asks for an interrupt. -/
structure WaitingEvent where
  words : List Nat
  irq : Bool
  deriving DecidableEq, Repr

/-- An event ring: the device writes it, the host consumes it (R52 to R55, R59, R71). -/
structure EvtRing where
  /-- Host physical base (R53). -/
  base : Nat := 0
  /-- The ring holds 2^log2 entries (R52). -/
  log2 : Nat := 6
  /-- Device producer position (R54). -/
  prod : Pos := {}
  /-- Last accepted host consumer position (R58). -/
  host : Pos := {}
  /-- Slots reserved and not yet posted (R71). -/
  rsv : Nat := 0
  /-- The interrupt is armed (R59). -/
  armed : Bool := false
  /-- Events that wait for a slot, oldest first (R73, R75). -/
  waiting : List WaitingEvent := []
  deriving DecidableEq, Repr

/-- A command or control ring: the host writes it, the device consumes it (R52 to R58, R75). -/
structure CmdRing where
  /-- Host physical base (R53). -/
  base : Nat := 0
  /-- The ring holds 2^log2 entries (R52). -/
  log2 : Nat := 6
  /-- Device consumer position (R54). -/
  cons : Pos := {}
  /-- Last accepted doorbell position (R58). -/
  door : Pos := {}
  /-- Entries whose reads are issued and which are not yet accepted (R515). -/
  issued : Nat := 0
  /-- The ring is stopped, with its reason (R75, R76). -/
  stopped : Option Nat := none
  /-- EVT_WAIT has been raised for the present wait (R71). -/
  waitRaised : Bool := false
  /-- Re-reads of the entry at the consumer position (R56). -/
  retries : Nat := 0
  /-- The entry at the consumer position was stale and is to be read again (R56). -/
  stale : Bool := false
  /-- Accepted doorbells that still show entries: position and network time (R426). -/
  shownAt : List (Pos × Nat) := []
  deriving DecidableEq, Repr

/-- An endpoint context (R52, R78, R82, R84). -/
structure EpCtx where
  /-- The owning host function (R53). -/
  fn : Nat
  /-- Address-space tag (R78). -/
  asTag : Nat
  /-- Traffic classes permitted (R78). -/
  tcMask : Nat
  /-- Arrival interrupts (R59, R78). -/
  irqEn : Bool
  /-- User counter page (R78, R421). -/
  ctrPage : Bool
  /-- Keep the context on die (R78). -/
  pin : Bool
  /-- EP_CTL.ENABLE (R82). -/
  enable : Bool
  /-- MSI-X vector (R78). -/
  msix : Nat
  /-- The command ring. -/
  cmd : CmdRing
  /-- The event ring. -/
  evt : EvtRing
  /-- The context is on die (R84). -/
  onDie : Bool := true
  /-- Stamp of the last use, for the least recently used choice (R84). -/
  lastUse : Nat := 0
  /-- The endpoint is fenced, with its reason (R84, R408). -/
  fenced : Option Nat := none
  /-- A fetch from the Cask runs since this tick (R84). -/
  fetching : Option Nat := none
  /-- CASK_SLOW has been raised for the running fetch (R84). -/
  slow : Bool := false
  /-- Doorbells that wait for the context to be on die: register (0 command, 1 event) and value (R84). -/
  heldDoors : List (Nat × Nat) := []
  /-- IDLE as last seen, so that EP_IDLE is raised when it rises (R83). -/
  idleSeen : Bool := true
  deriving DecidableEq, Repr

/-- A host function's control page state (R77 to R81). -/
structure FnCtx where
  /-- The control ring (R77). -/
  cmd : CmdRing := {}
  /-- The control event ring (R77). -/
  evt : EvtRing := {}
  /-- FN_CTRL_CFG.ENABLE (R77). -/
  enable : Bool := false
  /-- FN_CTRL_CFG.MSIX_VECTOR (R77). -/
  msix : Nat := 0
  /-- FN_CASK_BASE (R77). -/
  cask : Nat := 0
  /-- The function is fenced: reason and index of FN_STATUS (R80). -/
  fenced : Option (Nat × Nat) := none
  deriving DecidableEq, Repr

/-- A maintenance queue (R86). -/
structure MqState where
  /-- Entries waiting (R86): true for one the firmware finds malformed. -/
  entries : List Bool := []
  /-- Credit left in the running round (R86). -/
  credit : Nat := 0
  /-- Tick of the last service, or of the first entry's arrival (R86). -/
  since : Nat := 0
  /-- The MQ_STALL condition holds (R86, R87). -/
  stalled : Bool := false
  deriving DecidableEq, Repr

/-- Endpoint rings and contexts. -/
structure HqUnit where
  /-- The endpoints that exist (R78, R79). -/
  eps : Tbl (Option EpCtx) := []
  /-- Per host function: the control page state. -/
  fns : Tbl FnCtx := []
  /-- The maintenance queue set (R86). -/
  mq : Tbl MqState := []
  /-- The queue the running pass has reached (R86), and the entries left of its burst. -/
  mqPos : Nat := 0
  mqBurst : Nat := 0
  /-- Fetch slots given to the endpoint rings since the maintenance set had one (R85). -/
  mqSlots : Nat := 0
  /-- Use stamps given so far (R84). -/
  useClock : Nat := 0
  deriving DecidableEq, Repr

/-- The kinds of access that are translated (R98). -/
inductive AccessKind where
  | read | write | atomic
  deriving DecidableEq, Repr

/-- The code of an access kind in a PAGE_REQUEST event (R113). -/
def AccessKind.code : AccessKind → Nat
  | .read => 1 | .write => 2 | .atomic => 3

/-- One access to translate (R95, R97, R98). -/
structure Access where
  /-- The endpoint whose tag and function apply. -/
  ep : Nat
  /-- First virtual address. -/
  va : Nat
  /-- Bytes. -/
  len : Nat
  /-- Rights needed (R98). -/
  kind : AccessKind
  /-- The right REMOTE is needed as well (R98). -/
  remote : Bool
  /-- The key named, when the access takes a key check (R97). -/
  key : Option Nat
  /-- Only the key is checked, and no page is looked up (R155). -/
  keyOnly : Bool := false
  deriving DecidableEq, Repr

/-- A cached leaf translation (R102, R104). -/
structure Leaf where
  tag : Nat
  /-- First virtual address of the page. -/
  va : Nat
  /-- Base-2 logarithm of the page size: 12, 16, 21 or 30. -/
  log2 : Nat
  /-- Physical address of the page. -/
  pa : Nat
  /-- Bits [5:2] of the entry: R, W, A, REMOTE (R93). -/
  rights : Nat
  /-- The translation is pinned (R102). -/
  pinned : Bool
  /-- Local tick of the fill (R104). -/
  fill : Nat
  deriving DecidableEq, Repr

/-- A cached non-leaf entry: the table it points to (R102). -/
structure WalkEntry where
  tag : Nat
  /-- Level of the entry. -/
  level : Nat
  /-- The virtual address bits above what the entry maps. -/
  prefix_ : Nat
  /-- The next table. -/
  table : Nat
  deriving DecidableEq, Repr

/-- A cached key entry (R96). -/
structure KeyEntry where
  tag : Nat
  index : Nat
  raw : Nat
  deriving DecidableEq, Repr

/-- A cached tag descriptor (R91). -/
structure DescEntry where
  tag : Nat
  raw : Nat
  deriving DecidableEq, Repr

/-- What a walk waits to read (R91, R93, R94, R96). -/
inductive WalkStage where
  | desc
  | key (index : Nat)
  | table (level va addr : Nat)
  | group (va addr entry : Nat)
  deriving DecidableEq, Repr

/-- Who waits for a translation. -/
inductive XlOwner where
  | send (msg : Nat)
  | again (msg off len : Nat)
  | arrival (slot : Nat)
  | getResp (slot : Nat)
  | copy (recv : Nat)
  | rdv (ep index : Nat) (lap : Bool)
  | result (group step member : Nat)
  | contrib (ep index : Nat) (lap : Bool)
  deriving DecidableEq, Repr

/-- A walk in progress for one waiting access (R100, R107, R108). -/
structure Walk where
  /-- The walk's number. -/
  num : Nat
  owner : XlOwner
  access : Access
  fn : Nat
  tag : Nat
  stage : WalkStage
  /-- Translations this access has found, used even where no cache holds them (R102). -/
  leaves : List Leaf := []
  desc : Option Nat := none
  keyRaws : List (Nat × Nat) := []
  /-- Non-leaf entries read, which the walk cache takes when the walk has ended without an error (R100). -/
  tables : List WalkEntry := []
  /-- An invalidate covers the walk: its result is discarded and it walks again (R108). -/
  discard : Bool := false
  deriving DecidableEq, Repr

/-- The states of a page-request record (R110 to R112). -/
inductive PrqState where
  | pending | resumed | failed
  deriving DecidableEq, Repr

/-- A page-request record: one endpoint, one 4 KiB page, one side (R110). -/
structure PrqRecord where
  ep : Nat
  page : Nat
  target : Bool
  state : PrqState := .pending
  /-- Tick from which XL_PRQ_TIMEOUT counts (R111, R112). -/
  since : Nat
  /-- Tick the record turned FAILED (R112). -/
  failedAt : Nat := 0
  /-- Resumes that found the page still not present (R111). -/
  resumes : Nat := 0
  /-- Who is stalled on the page (R110). -/
  waiters : List (XlOwner × Access) := []
  deriving DecidableEq, Repr

/-- An invalidate interface: the device's own, or a function's (R105 to R107). -/
structure InvState where
  busy : Bool := false
  /-- SEQ of the running invalidate. -/
  seq : Nat := 0
  /-- DONE_SEQ (R107). -/
  done : Nat := 0
  /-- Tick it began, for INV_SLOW (R107). -/
  since : Nat := 0
  /-- INV_SLOW has been raised for it. -/
  slow : Bool := false
  /-- Walks that were in progress at its start (R107). -/
  walks : List Nat := []
  deriving DecidableEq, Repr

/-- Address translation. -/
structure XlUnit where
  /-- The translation cache, most recently used first (R102). -/
  leaves : List Leaf := []
  /-- The walk cache, most recently used first (R102). -/
  walkCache : List WalkEntry := []
  /-- The key cache, most recently used first (R102). -/
  keys : List KeyEntry := []
  /-- The descriptor cache, most recently used first (R102). -/
  descs : List DescEntry := []
  /-- Walks in progress. -/
  walks : List Walk := []
  /-- The number the next walk takes. -/
  nextWalk : Nat := 0
  /-- Page-request records by REQ_ID (R110). -/
  prq : Tbl (Option PrqRecord) := []
  /-- Initiator accesses that wait for a free record (R110). -/
  prqQueue : List (XlOwner × Access) := []
  /-- Invalidate interfaces: function h at h, the device's at 32 (R105). -/
  inv : Tbl InvState := []
  /-- The cache set that the ageing sweep visits next, and the sets of earlier ticks that it still owes (R48, R104, R510). -/
  sweep : Nat := 0
  behind : Nat := 0
  /-- The model's own: the owners whose next data access meets a bus error (R69; log entry 183). -/
  busOn : List XlOwner := []
  deriving DecidableEq, Repr

/-- Who owns a message of the operation table. -/
inductive MsgOwner where
  | cmd (ep index : Nat) (lap : Bool) (k : Nat)
  | rts (ep index : Nat) (lap : Bool)
  | pull (num k : Nat)
  | fin
  | lockReq (ep index : Nat) (lap : Bool)
  | lockGrant (lock cookie : Nat)
  | forward
  | fill (window num : Nat)
  | writeBack (window line : Nat)
  | winReply
  deriving DecidableEq, Repr

/-- Where a message's payload comes from: bytes the device holds, or pieces of host memory, each an address and a length, with
zero bytes where a piece has no address (R66). `read` numbers the reading of host memory. -/
inductive Payload where
  | none
  | bytes (b : List Byte)
  | host (fn read : Nat) (pieces : List (Option Nat × Nat))
  deriving DecidableEq, Repr

/-- What a message is doing (R110, R128, R138). -/
inductive MsgPhase where
  | waiting
  | sending
  | sent
  | backoff (until_ reason : Nat)
  | stalled
  | paced
  deriving DecidableEq, Repr

/-- A message (R118 to R138). `id` and `fst` are set when it is first sent (R42, R125). -/
structure Msg where
  /-- The model's own number for the message, in order of making. -/
  num : Nat
  owner : MsgOwner
  type : Nat
  srcEp : Nat
  dstNode : Nat
  dstEp : Nat
  tc : Nat
  ordered : Bool := false
  /-- MSG_ID once first sent (R125). -/
  id : Option Nat := none
  /-- First-send tick once first sent (R125). -/
  fst : Nat := 0
  /-- Number of the ordered predecessor without a final outcome at first send: its MSG_ID and FST (R137). -/
  prev : Option (Nat × Nat) := none
  /-- MSG_LEN. -/
  len : Nat
  /-- Remote address, or MATCH_TAG. -/
  addr : Nat
  /-- RKEY or context. -/
  key : Nat
  /-- Byte 19 of a request: SUBOP or SIG. -/
  sub : Nat := 0
  /-- Signal key, address and addend (R122). -/
  sigKey : Nat := 0
  sigAddr : Nat := 0
  sigAdd : Nat := 0
  /-- Local pieces in message order: virtual address, bytes, key; a zero-fill piece has no address (R66, R67). -/
  pieces : List (Option Nat × Nat × Nat) := []
  /-- Payload carried in the entry or built by the device. -/
  inline_ : List Byte := []
  /-- The fragment table of the message's command, its address and bytes; and whether the present copy still needs to read it
  (R65, R66). -/
  table : Option (Nat × Nat) := none
  tableDue : Bool := false
  /-- The fragment table, once read, breaks R67. -/
  badTable : Bool := false
  /-- ATTEMPT (R122, R138). -/
  attempt : Nat := 0
  /-- The next packet of the present copy to leave. -/
  nextPkt : Nat := 0
  /-- The credits the message holds (R128). -/
  credits : Nat := 0
  /-- Tick of the last packet sent (R138). -/
  lastSend : Nat := 0
  /-- Tick from which the timeout of rule 1 counts (R138). -/
  rtoFrom : Nat := 0
  phase : MsgPhase := .waiting
  /-- Reason of the last NACK, when it was the last reply (R138). -/
  lastNack : Option Nat := none
  /-- A GET's bitmap of filled packets and Baton counter (R133, R136). -/
  bitmap : Nat := 0
  baton : Nat := 0
  /-- MSG_WAIT has been raised for a window message (R339). -/
  waitRaised : Bool := false
  /-- Local tick from which the wait of R42 or R516 counts. -/
  since : Nat := 0
  deriving DecidableEq, Repr

/-- The outcome of one message of a command (R136, R138): its number, status, fault kind and UNREACHABLE reason. -/
structure MsgOutcome where
  k : Nat
  status : Nat
  kind : Nat := 0
  reason : Nat := 0
  deriving DecidableEq, Repr

/-- What a fetched command has come to (R62, R65, R110, R155). -/
inductive CmdPhase where
  | held
  | running
  | lockWait
  | rdvWait
  | rdvOpen (rtsId rtsFst acked : Nat)
  | rdvStarted
  deriving DecidableEq, Repr

/-- A fetched command without a posted event (R65, R83, R136). -/
structure Cmd where
  ep : Nat
  index : Nat
  lap : Bool
  entry : Nat
  /-- The fragment table as read (R66). -/
  frags : List Nat
  /-- Local tick of the fetch (R42). -/
  fetched : Nat
  phase : CmdPhase := .held
  /-- Messages the command splits into (R118). -/
  total : Nat := 0
  /-- Messages already made. -/
  made : Nat := 0
  outcomes : List MsgOutcome := []
  /-- Fetched 16 bytes of an ATOMIC (R119). -/
  result : Nat := 0
  /-- What the source buffer of a collective command holds when it is read (R173). -/
  data : List Byte := []
  deriving DecidableEq, Repr

/-- The states of a target record (R134, R139). -/
inductive RecState where
  | inProgress
  | signalWait
  | completed (status kind : Nat)
  deriving DecidableEq, Repr

/-- The receive a message is bound to (R149, R152). -/
structure Binding where
  bufAddr : Nat
  key : Nat
  len : Nat
  recvId : Nat
  deriving DecidableEq, Repr

/-- A message record at the target (R131 to R139). -/
structure TgtRec where
  srcNode : Nat
  srcEp : Nat
  msgId : Nat
  fst : Nat
  dstEp : Nat
  type : Nat
  tc : Nat
  state : RecState := .inProgress
  bitmap : Nat := 0
  baton : Nat := 0
  msgLen : Nat
  /-- Packet at OFFSET 0 performed (R137). -/
  firstDone : Bool := false
  /-- A reservation of the endpoint's event ring is held (R72). -/
  rsv : Bool := false
  /-- A fence, a function reset or DESTROY_EP has ended the message (R131). -/
  ended : Bool := false
  /-- The result of an ATOMIC (R133). -/
  result : List Byte := []
  /-- Signal address and addend of a PUT_SIGNAL (R134). -/
  sigKey : Nat := 0
  sigAddr : Nat := 0
  sigAdd : Nat := 0
  sig : Bool := false
  /-- MATCH_TAG and context of a SEND or RTS (R143). -/
  tag : Nat := 0
  ctx : Nat := 0
  /-- The bound receive (R152). -/
  bound : Option Binding := none
  /-- The message is stored unexpected under this header number (R150). -/
  header : Option Nat := none
  /-- Tick it became COMPLETED (R139). -/
  doneAt : Nat := 0
  /-- Tick of its creation (R74). -/
  since : Nat := 0
  deriving DecidableEq, Repr

/-- An arriving packet, as the target holds it (R122). -/
structure Packet where
  port : Nat
  tc : Nat
  hdr : Nat
  payload : List Byte
  crc : Nat
  /-- What the target memory holds at the address an atomic or a signal works on. -/
  mem : Nat
  deriving DecidableEq, Repr

/-- The window entry of a destination node (R127). -/
structure WinEntry where
  adv : Nat
  held : Nat
  deriving DecidableEq, Repr

/-- Reliable transport. -/
structure TpUnit where
  /-- Messages waiting to be first sent, in fetch order, and messages in flight (R125 to R130). -/
  msgs : List Msg := []
  /-- The model's number of the next message. -/
  nextNum : Nat := 0
  /-- TP_MSG_ID_NEXT (R125). -/
  nextId : Nat := 0
  /-- Fetched commands without a posted event, in fetch order. -/
  cmds : List Cmd := []
  /-- Window entries by node (R127). -/
  wins : Tbl (Option WinEntry) := []
  /-- Message records at the target (R117, R139). -/
  recs : List TgtRec := []
  /-- Packets staged per endpoint, oldest first (R140). -/
  staged : List (Nat × Packet) := []
  /-- Packets that wait for a walk: slot number and packet. -/
  parked : Tbl (Option Packet) := []
  /-- The next parking slot. -/
  nextSlot : Nat := 0
  /-- OPS_FULL has been raised for the present wait (R130). -/
  opsFullRaised : Bool := false
  /-- WIN_CACHE_FULL has been raised for the present wait (R127). -/
  winFullRaised : Bool := false
  /-- START_TICK: transport is in service since this tick (R470). -/
  service : Option Nat := none
  deriving DecidableEq, Repr

/-- A posted receive (R143, R146). -/
structure Posted where
  ep : Nat
  /-- Post sequence (R147). -/
  seq : Nat
  bufAddr : Nat
  tag : Nat
  len : Nat
  ctx : Nat
  key : Nat
  srcNode : Nat
  srcEp : Nat
  nodeMask : Nat
  epMask : Nat
  tagMask : Nat
  recvId : Nat
  deriving DecidableEq, Repr

/-- An unexpected header (R150, R151). -/
structure UnexpHdr where
  num : Nat
  ep : Nat
  srcNode : Nat
  srcEp : Nat
  ctx : Nat
  tag : Nat
  tc : Nat
  /-- The message is an RTS. -/
  rts : Bool
  /-- Eager length, or TOTAL_LEN of an RTS. -/
  len : Nat
  /-- MSG_ID and FST of the message. -/
  msgId : Nat
  fst : Nat
  /-- SRC_ADDR and RKEY of an RTS (R155). -/
  srcAddr : Nat := 0
  rkey : Nat := 0
  /-- Offset of its area allocation (R151). -/
  areaOff : Nat := 0
  /-- All of its bytes have arrived (R154). -/
  complete : Bool := false
  /-- A receive is bound to it and its copy is owed (R154). -/
  bound : Option Binding := none
  /-- The endpoint was disabled: discard it on completion (R164). -/
  discard : Bool := false
  deriving DecidableEq, Repr

/-- An endpoint's unexpected area and post sequence (R147, R151). -/
structure MxEp where
  /-- Next post sequence (R147). -/
  seq : Nat := 0
  /-- Area base, base-2 logarithm of its size and key; none when no area is set (R151). -/
  area : Option (Nat × Nat × Nat) := none
  /-- Offset of the next allocation (R151). -/
  next : Nat := 0
  /-- Allocations held, oldest first: header number, offset, bytes, freed (R151). -/
  alloc : List (Nat × Nat × Nat × Bool) := []
  deriving DecidableEq, Repr

/-- A running rendezvous pull (R157). -/
structure Pull where
  num : Nat
  ep : Nat
  srcNode : Nat
  srcEp : Nat
  tc : Nat
  rtsId : Nat
  rtsFst : Nat
  srcAddr : Nat
  rkey : Nat
  totalLen : Nat
  ctx : Nat
  tag : Nat
  bound : Binding
  unexp : Bool
  /-- Bytes to pull, and GET messages made so far (R157). -/
  want : Nat
  made : Nat := 0
  outcomes : List MsgOutcome := []
  deriving DecidableEq, Repr

/-- Message matching. -/
structure MxUnit where
  /-- Posted receives in posting order (R147, R149). -/
  posted : List Posted := []
  /-- Unexpected headers in arrival order (R150). -/
  unexp : List UnexpHdr := []
  /-- The next header number. -/
  nextHdr : Nat := 0
  /-- Per endpoint: post sequence and unexpected area. -/
  eps : Tbl MxEp := []
  /-- Running pulls (R157). -/
  pulls : List Pull := []
  /-- The next pull number. -/
  nextPull : Nat := 0
  /-- Copies from an unexpected area in progress: header number (R154). -/
  copies : List Nat := []
  /-- A SEND waits for a rendezvous table entry, and has raised RDV_TABLE_FULL (R155). -/
  rdvFullRaised : Bool := false
  deriving DecidableEq, Repr

end Sys2Proof.Machine
end

