-- ==== Sys2Proof/Machine/UnitsHost.lean ====
section
/-! DEFINITION. The state of the CXL memory fabric with Malthouse (CX) and of the remote memory windows (WN). -/

namespace Sys2Proof.Machine

/-- The link states of CX_PORT_STATE.LINK, R327. -/
inductive CxLink where
  | disabled | training | up | contained | fenced
  deriving DecidableEq, Repr

/-- The code of a link state. -/
def CxLink.code : CxLink → Nat
  | .disabled => 0 | .training => 1 | .up => 2 | .contained => 3 | .fenced => 4

/-- A CXL.mem request outstanding at a device-facing port (R313, R322, R323): host, tag, read or write, and the tick it
was sent. -/
structure MemReq where
  host : Nat
  tag : Nat
  ld : Nat
  read : Bool
  since : Nat
  /-- Its host's link went down, so its answer is discarded (R325). -/
  orphan : Bool := false
  deriving DecidableEq, Repr

/-- A dynamic capacity region: base, length and block size in bytes (R324). -/
structure DcRegion where
  base : Nat
  len : Nat
  block : Nat
  deriving DecidableEq, Repr

/-- A logical device (R312, R320, R327). -/
structure LdState where
  present : Bool := false
  /-- Host and vPPB it is bound to. -/
  bound : Option (Nat × Nat) := none
  /-- Capacity in bytes. -/
  capacity : Nat := 0
  deriving DecidableEq, Repr

/-- A CXL port (R306 to R310, R322 to R327). -/
structure CxPort where
  link : CxLink := .disabled
  /-- Rate code and trained width of CX_PORT_STATE. -/
  rate : Nat := 0
  width : Nat := 0
  /-- 0 none or host, 1 SLD, 2 MLD, 3 refused (R327). -/
  kind : Nat := 0
  dcd : Bool := false
  ldCount : Nat := 0
  /-- Capacity of the device and the block its allocations are multiples of, in bytes (R316, R320). -/
  total : Nat := 0
  block : Nat := 1
  regions : List DcRegion := []
  /-- Logical devices by LD-ID. -/
  lds : Tbl LdState := []
  /-- Requests outstanding at the port, oldest first. -/
  reqs : List MemReq := []
  /-- MEM_TIMEOUTs in the running tick (R323). -/
  timeouts : Nat := 0
  /-- The bindings of the port are to be removed at the next boundary: the tick of the removal (R322). -/
  removeAfter : Option Nat := none
  /-- POISON_SENT has been raised for the removal that stands (R322). -/
  poisonTold : Bool := false
  deriving DecidableEq, Repr

/-- An HDM decoder of an upstream port or of the window device (R313, R330). `dpa` is used by the window device only. -/
structure Hdm where
  base : Nat
  size : Nat
  /-- Interleave ways and granularity in bytes. -/
  ways : Nat
  gran : Nat
  /-- The vPPB of each way, or the way of the window device. -/
  targets : List Nat
  dpa : Nat := 0
  committed : Bool
  deriving DecidableEq, Repr

/-- The states of CX_VPPB_STATE.STATE, R327. -/
inductive VppbUse where
  | unbound | binding | bound | unbinding
  deriving DecidableEq, Repr

/-- The code of a vPPB state. -/
def VppbUse.code : VppbUse → Nat
  | .unbound => 0 | .binding => 1 | .bound => 2 | .unbinding => 3

/-- A bindable vPPB (R311, R317, R319, R322). -/
structure Vppb where
  use : VppbUse := .unbound
  /-- Port and LD-ID bound; port 0xFF is the window device. -/
  target : Option (Nat × Nat) := none
  /-- DPC is triggered (R322). -/
  dpc : Bool := false
  /-- Presence Detect State and Data Link Layer Link Active (R317, R322). -/
  presence : Bool := false
  active : Bool := false
  /-- Attention Button Pressed (R319). -/
  attention : Bool := false
  /-- Host software has disabled the link or turned slot power off (R319). -/
  hostOff : Bool := false
  /-- Tick of the last change (R327). -/
  since : Nat := 0
  deriving DecidableEq, Repr

/-- What a host has programmed into its virtual switch and its hub function (R57, R311, R313, R330, R421). -/
structure CxHost where
  /-- HDM decoders of the upstream port, by number (R313). -/
  decoders : Tbl (Option Hdm) := []
  /-- HDM decoders of the window device in this host's view, by number (R330). -/
  winDecoders : Tbl (Option Hdm) := []
  /-- Bases and sizes of the hub function's memory spaces in the host's addresses: the doorbell window and the counter
  pages (R57, R99, R421). -/
  bars : List (Nat × Nat) := []
  deriving DecidableEq, Repr

/-- What a Malthouse request in progress waits for (R315, R317, R319, R324). -/
inductive MhPhase where
  | staged (tick : Nat)
  | attention (tick : Nat)
  | hostWait (since : Nat)
  | dcWait (since : Nat)
  | forwarded (seq : Nat)
  deriving DecidableEq, Repr

/-- A Malthouse request in progress: its queue, its 32 bytes, the SEQ of its mirror record, and its phase. -/
structure MhWork where
  queue : Nat
  raw : Nat
  mirror : Option Nat := none
  phase : MhPhase
  deriving DecidableEq, Repr

/-- An extent held (R320). -/
structure Extent where
  port : Nat
  ld : Nat
  region : Nat
  dpa : Nat
  len : Nat
  deriving DecidableEq, Repr

/-- The CXL memory fabric and Malthouse. -/
structure CxUnit where
  /-- CXL ports (R308). -/
  ports : Tbl CxPort := []
  /-- The binding table by 128 × host + vPPB (R311, R317). -/
  vppbs : Tbl Vppb := []
  /-- Per host: decoders and memory spaces. -/
  hosts : Tbl CxHost := []
  /-- Requests in progress, in the order taken (R315). -/
  work : List MhWork := []
  /-- Extents held, at most 4,096 (R320). -/
  extents : List Extent := []
  /-- LAST_TAG, LAST_STATUS and LAST_TICK of CX_MH_STATUS. -/
  lastTag : Nat := 0
  lastStatus : Nat := 0
  lastTick : Nat := 0
  /-- CXL tiles fenced, one bit each (R326). -/
  fencedTiles : Nat := 0
  /-- The policy section of the configuration image: its 40-byte records (R313, R465). -/
  policy : List Nat := []
  deriving DecidableEq, Repr

/-- The states of a window, R341. -/
inductive WinUse where
  | off | active | draining | fenced
  deriving DecidableEq, Repr

/-- The code of a window state. -/
def WinUse.code : WinUse → Nat
  | .off => 0 | .active => 1 | .draining => 2 | .fenced => 3

/-- A window's state (R340, R341). -/
structure WinState where
  use : WinUse := .off
  refuse : Nat := 0
  fenceReason : Nat := 0
  /-- A write-back failed while the window drained (R340). -/
  failed : Bool := false
  deriving DecidableEq, Repr

/-- What a cached line is doing (R332, R334, R336). -/
inductive LineUse where
  | clean | filling | wb
  deriving DecidableEq, Repr

/-- A line of the line cache: two sectors of 64 bytes, sector 0 in the low half (R332). -/
structure WnLine where
  window : Nat
  /-- DPA / 128. -/
  line : Nat
  valid0 : Bool := false
  valid1 : Bool := false
  dirty0 : Bool := false
  dirty1 : Bool := false
  data0 : Nat := 0
  data1 : Nat := 0
  use : LineUse := .clean
  /-- Boundaries passed at the fill or at the last completed write-back: ageing counts local ticks (R335). -/
  stamp : Nat := 0
  /-- Tick at which the line first became dirty (R336). -/
  dirtySince : Nat := 0
  /-- A flush or a drain has asked for a second write-back after the running one (R336, R338). -/
  again : Bool := false
  deriving DecidableEq, Repr

/-- A request that waits for a fill (R333, R334): a read, or a partial write with its byte mask and data. -/
structure WnWait where
  host : Nat
  tag : Nat
  dpa : Nat
  write : Option (Nat × Nat) := none
  since : Nat
  deriving DecidableEq, Repr

/-- A fill in flight, or held for a write-back (R334). -/
structure WnFill where
  /-- Its number, which its message names. -/
  num : Nat
  /-- Its window. -/
  window : Nat
  /-- First DPA of the block, and its bytes. -/
  block : Nat
  len : Nat
  /-- Its WN_FILL message is made; until then a write-back holds it back (R334). -/
  sent : Bool := false
  /-- Tick at which the miss began it. -/
  since : Nat
  /-- The host accesses that wait for it. -/
  waits : List WnWait := []
  /-- Its window has left ACTIVE since: the answer is discarded (R335). -/
  stale : Bool := false
  deriving DecidableEq, Repr

/-- A write-back in flight (R336). -/
structure WnWb where
  window : Nat
  line : Nat
  /-- Home address and bytes, kept for the check of R334. -/
  home : Nat
  len : Nat
  deriving DecidableEq, Repr

/-- A function's flush interface (R338). -/
structure WnFlush where
  busy : Bool := false
  seq : Nat := 0
  done : Nat := 0
  fail : Bool := false
  /-- The running command has met a write-back failure. -/
  failNow : Bool := false
  inv : Bool := false
  /-- Lines dirty in scope when the command was written, each with the write-back outcomes it still needs. -/
  owed : List (Nat × Nat × Nat) := []
  /-- Lines the command covers, to drop for INV. -/
  covered : List (Nat × Nat) := []
  deriving DecidableEq, Repr

/-- The remote memory windows. -/
structure WnUnit where
  wins : Tbl WinState := []
  /-- The line cache, most recently used first (R332). -/
  lines : List WnLine := []
  fills : List WnFill := []
  /-- Number of the next fill. -/
  nextFill : Nat := 0
  /-- Write-backs in flight (R336). -/
  wbs : List WnWb := []
  /-- Requests that wait for a way of a set whose lines all fill or are written back, oldest first (R332). -/
  blocked : List WnWait := []
  /-- Per function: the flush interface. -/
  flush : Tbl WnFlush := []
  /-- DIRTY_HIGH has been raised for the present crossing (R342). -/
  dirtyHigh : Bool := false
  deriving DecidableEq, Repr

end Sys2Proof.Machine
end

