-- ==== Sys2Proof/Machine/Inputs.lean ====
section
/-! DEFINITION. What commands bring from outside the device: records of several values that a command names, as plain data. -/

namespace Sys2Proof.Machine

/-- A CXL.mem request of a host: read, or write with its byte mask and data. `other`: another M2S opcode, without data
(R333). -/
structure MemOp where
  host : Nat
  tag : Nat
  hpa : Nat
  write : Option (Nat × Nat)
  other : Bool := false
  deriving DecidableEq, Repr

/-- A TICK_IN edge: its kind, and the network time at which it comes, in ns (R38). -/
structure TickEdge where
  falling : Bool
  at_ : Nat
  deriving DecidableEq, Repr

/-- What a partner shows as its port trains (R306, R324). -/
structure CxPartner where
  /-- It is a Type 3 device with 256-byte flits that the table of R306 supports. -/
  accepted : Bool
  mld : Bool
  dcd : Bool
  /-- Capacities of the logical devices, in bytes, by LD-ID. -/
  lds : List Nat
  total : Nat
  block : Nat
  regions : List DcRegion
  rate : Nat
  width : Nat
  deriving DecidableEq, Repr

/-- A CXL.io transaction of a host, as far as it reaches this device: programming of the virtual switch and of the hub
function, a function-level reset, or a transaction for a vPPB. -/
inductive IoReq where
  | setDecoder (n : Nat) (x : Option Hdm)
  | setWinDecoder (n : Nat) (x : Option Hdm)
  | setBars (l : List (Nat × Nat))
  | functionReset
  | forVppb (v id tc len : Nat)
  deriving DecidableEq, Repr

/-- What a tick's samples of a slot come to: current in 4 mA, output and rails in mV, mean power in mW, and whether its gate
stands on. -/
structure SlotMeas where
  current : Nat
  vout : Nat
  vinA : Nat
  vinB : Nat
  power : Nat
  gateOn : Bool
  deriving DecidableEq, Repr

/-- What the end of a step brings: its duration in ms; the Tun self-test found a fault that its spare rows cannot repair; the
lanes that failed calibration, CXL lanes from 256; a flash read of the firmware image or of the configuration image failed;
the retained copy failed its check. -/
structure StepEnd where
  ms : Nat
  bistFail : Bool
  calFail : List Nat
  fwFail : Bool
  cfgFail : Bool
  copyBad : Bool
  deriving DecidableEq, Repr

/-- What the surroundings bring to a request: ms since the last start began, the sensors' readings in 1/16 °C, whether the flash
failed to answer, and whether a debug access falls on the Kiln or a key slot. -/
structure EbInputs where
  ms : Nat
  temps : List Int
  flashFail : Bool
  kiln : Bool
  deriving DecidableEq, Repr

/-- How a register write comes: from a management core to an address of the control space, from a host to its control page,
or from a host to a doorbell page of its range (R4, R57, R77). -/
inductive RegPath where
  | core (addr : Nat)
  | control (h off : Nat)
  | door (h ep off : Nat)
  deriving DecidableEq, Repr

/-- How a Malthouse request comes: an entry of a maintenance queue, or an Eboury frame (R314, R486). -/
inductive MhFrom where
  | queue (number word : Nat)
  | frame (bytes : List Byte)
  deriving DecidableEq, Repr

/-- How a BT command comes: a management core's write of BT_CMD, or an Eboury frame (R476, R486). -/
inductive BtFrom where
  | core (value : Nat)
  | frame (bytes : List Byte)
  deriving DecidableEq, Repr

/-- How a function reset comes: FN_RESET of a host, HQ_FN_RESET, or a function-level reset over CXL.io (R81). -/
inductive ResetFrom where
  | page | management | cxlIo
  deriving DecidableEq, Repr

/-- What the device's own checks and its surroundings report in a tick, where no command of the table names it. -/
inductive Finding where
  /-- An entry of a cache, by its place, fails its check: 0 the translation, 1 the walk, 2 the key, 3 the descriptor cache
  (R116, source 46). -/
  | cacheParity (cache place : Nat)
  /-- A target record fails its check (source 61). -/
  | recordParity
  /-- A bin, list or header entry of an endpoint fails its check (source 77). -/
  | matchParity (ep : Nat)
  /-- A step's reserve data fails its check (R193, source 94). -/
  | reserveParity (group : Nat)
  /-- A bit of a table entry has flipped, in the active copy or the other one (R202, R517). -/
  | tableFlip (other : Bool) (node place : Nat)
  /-- A single-bit cell error is corrected; a cell of a stored frame cannot be corrected (R245). -/
  | cellCorrected
  | cellUncorr (frame : Nat)
  /-- A free-list or reference-count check fails (R247); a scheduled read waits for its bank group (R227). -/
  | cellAccount (port tc : Nat)
  | bankWait (port tc : Nat)
  /-- A flow entry, an output's scheduler state fails its check (R300, R305). -/
  | flowParity (flow : Nat)
  | schedParity (output : Nat)
  /-- A CXL port's flit retries exceed 1 in 4,096 (R328, source 190). -/
  | retryHigh (port : Nat)
  /-- A line error is corrected, or cannot be; a line tag fails its check (R337, R342). -/
  | lineCorrected
  | lineUncorr (window line : Nat)
  | tagParity (window line : Nat)
  /-- Lock or waiter state fails its check (R396). -/
  | lockParity (group : Nat)
  /-- A scratchpad access; a register access, and other work, that reaches the memories of a domain (R433). -/
  | scratchWait
  | accessWake (domain : Nat)
  | domainWork (domain : Nat)
  /-- A key slot fails its check (R442); a Kiln access from another path is refused (R451). -/
  | keyParity (slot : Nat)
  | kilnRefused
  /-- A counter fails its check (R428). -/
  | counterParity (counter : Nat)
  /-- The retained state of BT fails its check (R457). -/
  | retainedBad
  /-- Firmware assigns work to management cores 2 and 3, or ends it: bits 2 and 3 (R429). -/
  | coreWork (cores : Nat)
  /-- The write of an event meets a bus error, in the ring of an endpoint or of a function (R75, R80). -/
  | eventBus (ep : Nat)
  | controlBus (h : Nat)
  /-- A local access of a message meets a bus error (R69). -/
  | dataBus (msg : Nat)
  /-- The next data access of the copy of an unexpected message, of a collective's read of its source, or of the write of its
  result, meets a bus error (R69, R154, R177, R185). -/
  | copyBus (header : Nat)
  | contribBus (ep index : Nat) (lap : Bool)
  | resultBus (group step member : Nat)
  /-- The write of a context to its Cask slot returns a bus error (R84). -/
  | caskBus (ep : Nat)
  /-- A host reads `bytes` bytes of its window (R57, R77). -/
  | hostRead (path : RegPath) (bytes : Nat)
  deriving DecidableEq, Repr

/-- What a tick boundary brings: the samples of slots, the measured offsets of the lane references in 1/16 ppm, the bit errors
of PRBS checkers, the eye openings of lanes, and findings. -/
structure TickIn where
  slots : List (Nat × SlotMeas) := []
  refs : List (Nat × Nat) := []
  prbs : List (Nat × Nat) := []
  eyes : List (Nat × Nat) := []
  /-- Idle flits that ports have sent in the tick that ended: port and number (R251, R255). -/
  idle : List (Nat × Nat) := []
  /-- The TW unit failed to issue its heartbeat (R369). -/
  twWedged : Bool := false
  findings : List Finding := []
  deriving DecidableEq, Repr

end Sys2Proof.Machine
end

