-- ==== Sys2Proof/Machine/Regs.lean ====
section
/-! DEFINITION. The register tables of the specification: every register of every block, its place, width, reset
value and fields with their access codes and apply classes (R4 to R8, and each chapter's register table). -/

namespace Sys2Proof.Machine

/-- Access codes of R6. -/
inductive AccessCode where
  | ro | rw | w1c | w1s | wo | rc
  deriving DecidableEq, Repr

/-- Apply classes of R7; `none` for a field no write sets. -/
inductive Apply where
  | s | q | t | l | none
  deriving DecidableEq, Repr

/-- One field of a register: bits `[lo + len - 1 : lo]`. -/
structure FieldDesc where
  lo : Nat
  len : Nat
  acc : AccessCode
  cls : Apply
  deriving DecidableEq, Repr

/-- Where a register stands: the control space of R14, the doorbell page of an endpoint (R57), the control page of
a function (R77). -/
inductive Space where
  | blk | ep | fn
  deriving DecidableEq, Repr

/-- The names of the registers. -/
inductive RegName where
  | stCtl | stStatus | stTimeNow | stTickNow | stRootSeconds | stOffset | stSkewEst | stTickoutCtl
  | stConservCtl | stOverrunStatus | stHoldover | stParentMask | stAsym | epCmdDb | epEvtDb | epCtl
  | epPageDb | fnCtrlBase | fnCtrlEvtBase | fnCtrlCfg | fnCaskBase | fnCtrlDb | fnCtrlEvtDb | fnStatus
  | fnReset | hqCtl | hqStatus | hqPinMax | hqErrLatch | hqFnRange | hqFnState | hqFnReset
  | hqMqCfg | hqMqStatus | hqEpSel | hqEpState | fnXlTagBase | fnXlInvStart | fnXlInvLen | fnXlInvCmd
  | xlCtl | xlAgeLimit | xlPrqTimeout | xlPinMax | xlStatus | xlFaultLatch | xlFaultVa | xlInvStart
  | xlInvLen | xlInvCmd | xlFnTags | tpCtl | tpLmax | tpWinCtl | tpStatus | tpStageStatus
  | tpErrLatch | tpMsgIdNext | tpWinSel | tpWinState | mxCtl | mxRdvLimit | mxStatus | mxErrLatch
  | mxFnQuota | mxEpSel | mxEpState | mxUbufState | rlCtl | rlStatus | rlErrLatch | rlGrpSel
  | rlGrpCfg | rlGrpTree | rlGrpCmd | rlGrpState | rlChild | rtCtl | rtAdapt | rtNode
  | rtEpochNext | rtEpochStatus | rtTblIndex | rtTblData | rtShadowCmd | rtErrLatch | rtPortUp | rtPortExcl
  | rtScoreSel | rtScoreRx | rtScoreTx | rtScoreNode | tnCtl | tnStatus | tnRelayCells | tnWater
  | tnErrLatch | tnPeak | tnClass | tnAcctSel | tnAcct | tnQueueSel | tnQueue | tnPortMir
  | tnRuleMatch | tnRuleMask | tnRuleCtl | tnSesCtl | tnSesBase | tnSesProd | tnSesLost | lkCtl
  | lkSharedAdv | lkStatus | lkErrLatch | lkPortSel | lkPortState | lkChanState | lkPortCtl | lnCtl
  | lnStatus | lnErrLatch | lnRefStatus | lnLaneSel | lnLaneState | lnFecSym | lnFecCw | lnFecUncorr
  | lnEye | lnPrbsErr | lnPortRef | lnTxEq | lnPrbsCtl | scCtl | scStatus | scErrLatch
  | scPortSel | scPortCfg | scPortWeight | scGateSwitch | scGateStatus | scGateBank | scFlowSel | scFlowCfg
  | scFlowState | scGateEntry | scQflow | scEpFlow | cxCtl | cxMhCfg | cxStatus | cxErrLatch
  | cxMhStatus | cxPortCfg | cxPortSel | cxPortState | cxVcsSel | cxVppbState | cxLdSel | cxLdState
  | cxPortCtl | wnCtl | wnStatus | wnErrLatch | wnErrDpa | wnWinSel | wnWinCfg | wnWinHome
  | wnWinAddr | wnWinHosts | wnWinLimit | wnWinCmd | wnWinState | spCtl | spStatus | spErrLatch
  | spOwn | spSlotCfg | spSlotLim | spSlotCtl | spSlotState | spSlotMeas | spSlotPower | spSlotEnergy
  | spFgCfg | spFgState | spFgCtl | twCfg | twCtl | twStatus | twLease | twMirror
  | twCmd | twErrLatch | lsCtl | lsLease | lsStatus | lsErrLatch | lsGrpAcl | lsGrpNodes
  | lsLockSel | lsLockState | lsLockCmd | feCtl | feStatus | feErr | feErrLatch | feHostMask
  | feFenceCmd | feLatch | feLatchTick | fePend | feHistPop | feHistStatus | feFence | feSrcCfg
  | pcSampCtl | pcSampFilter | pcSampProd | pcSampCons | pcSampStatus | pcSnapTick | pcErrLatch | pcFnPage
  | pcNbrOfs | pcCtr | pcSnap | pcSampRec | pdCtl | pdStatus | pdErrLatch | pdVote
  | pdDomSel | pdDomCfg | pdDomState | pdWakeLast | seCtl | seStatus | seAlarm | seErrLatch
  | seSvn | seCounts | seIdPub | seSerial | btCtl | btStatus | btErrLatch | btPartStatus
  | btCmd | btSetStatus | btStartTick | btStepMs | idPart | idPid | idSerial0 | idSerial1
  | mgCtl | mgStatus | mgErrLatch | mgFrames | fnCapCi | fnWnStart | fnWnLen | fnWnCmd
  deriving DecidableEq, Repr

/-- One register, or an array of registers of one layout (`count1` by `count2` places, `stride1` and `stride2` bytes
apart). `sel` names the select register that says which of its banked values a register shows. -/
structure Reg where
  name : RegName
  space : Space
  base : Nat
  stride1 : Nat := 0
  count1 : Nat := 1
  stride2 : Nat := 0
  count2 : Nat := 1
  width : Nat
  reset : Nat
  sel : Option RegName := none
  fields : List FieldDesc
  deriving DecidableEq, Repr

/-- ST_CTL (02). -/
def rStCtl : Reg :=
  { name := .stCtl, space := .blk, base := 0x100000, width := 32, reset := 0x1,
    fields := [⟨0, 2, .rw, .s⟩, ⟨2, 1, .rw, .s⟩, ⟨3, 1, .rw, .s⟩] }

/-- ST_STATUS (02). -/
def rStStatus : Reg :=
  { name := .stStatus, space := .blk, base := 0x100008, width := 64, reset := 0x0,
    fields := [⟨0, 3, .ro, .none⟩, ⟨3, 1, .ro, .none⟩, ⟨4, 6, .ro, .none⟩, ⟨10, 8, .ro, .none⟩,
      ⟨18, 18, .ro, .none⟩] }

/-- ST_TIME_NOW (02). -/
def rStTimeNow : Reg :=
  { name := .stTimeNow, space := .blk, base := 0x100010, width := 64, reset := 0x0,
    fields := [⟨0, 64, .ro, .none⟩] }

/-- ST_TICK_NOW (02). -/
def rStTickNow : Reg :=
  { name := .stTickNow, space := .blk, base := 0x100018, width := 64, reset := 0x0,
    fields := [⟨0, 48, .ro, .none⟩] }

/-- ST_ROOT_SECONDS (02). -/
def rStRootSeconds : Reg :=
  { name := .stRootSeconds, space := .blk, base := 0x100020, width := 64, reset := 0x0,
    fields := [⟨0, 64, .rw, .l⟩] }

/-- ST_OFFSET (02). -/
def rStOffset : Reg :=
  { name := .stOffset, space := .blk, base := 0x100028, width := 32, reset := 0x0,
    fields := [⟨0, 32, .ro, .none⟩] }

/-- ST_SKEW_EST (02). -/
def rStSkewEst : Reg :=
  { name := .stSkewEst, space := .blk, base := 0x100030, width := 32, reset := 0xffffffff,
    fields := [⟨0, 32, .ro, .none⟩] }

/-- ST_TICKOUT_CTL (02). -/
def rStTickoutCtl : Reg :=
  { name := .stTickoutCtl, space := .blk, base := 0x100038, width := 32, reset := 0x0,
    fields := [⟨0, 2, .rw, .l⟩, ⟨2, 5, .rw, .l⟩] }

/-- ST_CONSERV_CTL (02). -/
def rStConservCtl : Reg :=
  { name := .stConservCtl, space := .blk, base := 0x100040, width := 32, reset := 0x400,
    fields := [⟨0, 1, .rw, .t⟩, ⟨8, 24, .rw, .t⟩] }

/-- ST_OVERRUN_STATUS (02). -/
def rStOverrunStatus : Reg :=
  { name := .stOverrunStatus, space := .blk, base := 0x100048, width := 32, reset := 0x0,
    fields := [⟨0, 12, .w1c, .l⟩] }

/-- ST_HOLDOVER (02). -/
def rStHoldover : Reg :=
  { name := .stHoldover, space := .blk, base := 0x100050, width := 32, reset := 0x4000,
    fields := [⟨0, 24, .rw, .t⟩] }

/-- ST_PARENT_MASK (02). -/
def rStParentMask : Reg :=
  { name := .stParentMask, space := .blk, base := 0x100100, stride1 := 8, count1 := 4, width := 64, reset := 0xffffffffffffffff,
    fields := [⟨0, 64, .rw, .t⟩] }

/-- ST_ASYM (02). -/
def rStAsym : Reg :=
  { name := .stAsym, space := .blk, base := 0x101000, stride1 := 4, count1 := 256, width := 32, reset := 0x0,
    fields := [⟨0, 32, .rw, .t⟩] }

/-- EP_CMD_DB (03). -/
def rEpCmdDb : Reg :=
  { name := .epCmdDb, space := .ep, base := 0x0, width := 64, reset := 0x10000,
    fields := [⟨0, 16, .wo, .l⟩, ⟨16, 1, .wo, .l⟩, ⟨0, 16, .ro, .none⟩, ⟨16, 1, .ro, .none⟩,
      ⟨17, 1, .ro, .none⟩, ⟨18, 1, .ro, .none⟩, ⟨19, 8, .ro, .none⟩] }

/-- EP_EVT_DB (03). -/
def rEpEvtDb : Reg :=
  { name := .epEvtDb, space := .ep, base := 0x8, width := 64, reset := 0x10000,
    fields := [⟨0, 16, .wo, .l⟩, ⟨16, 1, .wo, .l⟩, ⟨17, 1, .wo, .l⟩, ⟨0, 16, .ro, .none⟩, ⟨16, 1, .ro, .none⟩,
      ⟨17, 17, .ro, .none⟩] }

/-- EP_CTL (03). -/
def rEpCtl : Reg :=
  { name := .epCtl, space := .ep, base := 0x10, width := 32, reset := 0x0,
    fields := [⟨0, 1, .rw, .l⟩, ⟨1, 1, .wo, .l⟩] }

/-- EP_PAGE_DB (03). -/
def rEpPageDb : Reg :=
  { name := .epPageDb, space := .ep, base := 0x18, width := 64, reset := 0x0,
    fields := [⟨0, 12, .wo, .l⟩, ⟨12, 1, .wo, .l⟩, ⟨0, 13, .ro, .none⟩] }

/-- FN_CTRL_BASE (03). -/
def rFnCtrlBase : Reg :=
  { name := .fnCtrlBase, space := .fn, base := 0x0, width := 64, reset := 0x0,
    fields := [⟨0, 64, .rw, .q⟩] }

/-- FN_CTRL_EVT_BASE (03). -/
def rFnCtrlEvtBase : Reg :=
  { name := .fnCtrlEvtBase, space := .fn, base := 0x8, width := 64, reset := 0x0,
    fields := [⟨0, 64, .rw, .q⟩] }

/-- FN_CTRL_CFG (03). -/
def rFnCtrlCfg : Reg :=
  { name := .fnCtrlCfg, space := .fn, base := 0x10, width := 32, reset := 0x606,
    fields := [⟨0, 5, .rw, .q⟩, ⟨8, 5, .rw, .q⟩, ⟨16, 1, .rw, .l⟩, ⟨17, 1, .ro, .none⟩, ⟨18, 11, .rw, .l⟩] }

/-- FN_CASK_BASE (03). -/
def rFnCaskBase : Reg :=
  { name := .fnCaskBase, space := .fn, base := 0x18, width := 64, reset := 0x0,
    fields := [⟨0, 64, .rw, .q⟩] }

/-- FN_CTRL_DB (03). -/
def rFnCtrlDb : Reg :=
  { name := .fnCtrlDb, space := .fn, base := 0x20, width := 64, reset := 0x10000,
    fields := [⟨0, 16, .wo, .l⟩, ⟨16, 1, .wo, .l⟩, ⟨0, 16, .ro, .none⟩, ⟨16, 1, .ro, .none⟩,
      ⟨17, 1, .ro, .none⟩, ⟨18, 1, .ro, .none⟩, ⟨19, 8, .ro, .none⟩] }

/-- FN_CTRL_EVT_DB (03). -/
def rFnCtrlEvtDb : Reg :=
  { name := .fnCtrlEvtDb, space := .fn, base := 0x28, width := 64, reset := 0x10000,
    fields := [⟨0, 16, .wo, .l⟩, ⟨16, 1, .wo, .l⟩, ⟨17, 1, .wo, .l⟩, ⟨0, 16, .ro, .none⟩, ⟨16, 1, .ro, .none⟩,
      ⟨17, 17, .ro, .none⟩] }

/-- FN_STATUS (03). -/
def rFnStatus : Reg :=
  { name := .fnStatus, space := .fn, base := 0x30, width := 64, reset := 0x0,
    fields := [⟨0, 1, .ro, .none⟩, ⟨1, 8, .ro, .none⟩, ⟨16, 16, .ro, .none⟩] }

/-- FN_RESET (03). -/
def rFnReset : Reg :=
  { name := .fnReset, space := .fn, base := 0x38, width := 32, reset := 0x0,
    fields := [⟨0, 1, .wo, .l⟩] }

/-- HQ_CTL (03). -/
def rHqCtl : Reg :=
  { name := .hqCtl, space := .blk, base := 0x200000, width := 32, reset := 0x100804,
    fields := [⟨0, 8, .rw, .t⟩, ⟨8, 8, .rw, .t⟩, ⟨16, 8, .rw, .t⟩] }

/-- HQ_STATUS (03). -/
def rHqStatus : Reg :=
  { name := .hqStatus, space := .blk, base := 0x200008, width := 64, reset := 0x0,
    fields := [⟨0, 14, .ro, .none⟩, ⟨14, 14, .ro, .none⟩, ⟨28, 32, .ro, .none⟩] }

/-- HQ_PIN_MAX (03). -/
def rHqPinMax : Reg :=
  { name := .hqPinMax, space := .blk, base := 0x200010, width := 32, reset := 0x1000,
    fields := [⟨0, 14, .rw, .t⟩] }

/-- HQ_ERR_LATCH (03). -/
def rHqErrLatch : Reg :=
  { name := .hqErrLatch, space := .blk, base := 0x200018, width := 64, reset := 0x0,
    fields := [⟨0, 16, .ro, .none⟩, ⟨16, 16, .ro, .none⟩, ⟨32, 8, .ro, .none⟩, ⟨40, 5, .ro, .none⟩,
      ⟨62, 1, .ro, .none⟩, ⟨63, 1, .w1c, .l⟩] }

/-- HQ_FN_RANGE (03). -/
def rHqFnRange : Reg :=
  { name := .hqFnRange, space := .blk, base := 0x200100, stride1 := 8, count1 := 32, width := 64, reset := 0x0,
    fields := [⟨0, 16, .rw, .s⟩, ⟨16, 17, .rw, .s⟩] }

/-- HQ_FN_STATE (03). -/
def rHqFnState : Reg :=
  { name := .hqFnState, space := .blk, base := 0x200200, stride1 := 8, count1 := 32, width := 64, reset := 0x0,
    fields := [⟨0, 1, .ro, .none⟩, ⟨1, 1, .ro, .none⟩, ⟨2, 8, .ro, .none⟩, ⟨16, 16, .ro, .none⟩] }

/-- HQ_FN_RESET (03). -/
def rHqFnReset : Reg :=
  { name := .hqFnReset, space := .blk, base := 0x200300, width := 32, reset := 0x0,
    fields := [⟨0, 5, .rw, .l⟩, ⟨31, 1, .wo, .l⟩] }

/-- HQ_MQ_CFG (03). -/
def rHqMqCfg : Reg :=
  { name := .hqMqCfg, space := .blk, base := 0x200400, stride1 := 4, count1 := 16, width := 32, reset := 0x710,
    fields := [⟨0, 8, .rw, .t⟩, ⟨8, 6, .rw, .t⟩] }

/-- HQ_MQ_STATUS (03). -/
def rHqMqStatus : Reg :=
  { name := .hqMqStatus, space := .blk, base := 0x200480, width := 32, reset := 0x0,
    fields := [⟨0, 16, .ro, .none⟩, ⟨16, 16, .ro, .none⟩] }

/-- HQ_EP_SEL (03). -/
def rHqEpSel : Reg :=
  { name := .hqEpSel, space := .blk, base := 0x200500, width := 32, reset := 0x0,
    fields := [⟨0, 16, .rw, .l⟩] }

/-- HQ_EP_STATE (03). -/
def rHqEpState : Reg :=
  { name := .hqEpState, space := .blk, base := 0x200508, width := 64, reset := 0x0,
    fields := [⟨0, 1, .ro, .none⟩, ⟨1, 1, .ro, .none⟩, ⟨2, 1, .ro, .none⟩, ⟨3, 1, .ro, .none⟩,
      ⟨4, 1, .ro, .none⟩, ⟨5, 1, .ro, .none⟩, ⟨6, 16, .ro, .none⟩, ⟨22, 1, .ro, .none⟩, ⟨23, 16, .ro, .none⟩,
      ⟨39, 1, .ro, .none⟩, ⟨40, 17, .ro, .none⟩] }

/-- FN_XL_TAG_BASE (04). -/
def rFnXlTagBase : Reg :=
  { name := .fnXlTagBase, space := .fn, base := 0x100, width := 64, reset := 0x0,
    fields := [⟨0, 64, .rw, .q⟩] }

/-- FN_XL_INV_START (04). -/
def rFnXlInvStart : Reg :=
  { name := .fnXlInvStart, space := .fn, base := 0x108, width := 64, reset := 0x0,
    fields := [⟨0, 64, .rw, .l⟩] }

/-- FN_XL_INV_LEN (04). -/
def rFnXlInvLen : Reg :=
  { name := .fnXlInvLen, space := .fn, base := 0x110, width := 64, reset := 0x0,
    fields := [⟨0, 64, .rw, .l⟩] }

/-- FN_XL_INV_CMD (04). -/
def rFnXlInvCmd : Reg :=
  { name := .fnXlInvCmd, space := .fn, base := 0x118, width := 64, reset := 0x0,
    fields := [⟨0, 2, .wo, .l⟩, ⟨16, 16, .wo, .l⟩, ⟨32, 16, .wo, .l⟩, ⟨32, 16, .ro, .none⟩, ⟨48, 1, .ro, .none⟩] }

/-- XL_CTL (04). -/
def rXlCtl : Reg :=
  { name := .xlCtl, space := .blk, base := 0x300000, width := 32, reset := 0x310,
    fields := [⟨0, 8, .rw, .t⟩, ⟨8, 4, .rw, .t⟩] }

/-- XL_AGE_LIMIT (04). -/
def rXlAgeLimit : Reg :=
  { name := .xlAgeLimit, space := .blk, base := 0x300008, width := 32, reset := 0x10000,
    fields := [⟨0, 21, .rw, .t⟩] }

/-- XL_PRQ_TIMEOUT (04). -/
def rXlPrqTimeout : Reg :=
  { name := .xlPrqTimeout, space := .blk, base := 0x300010, width := 32, reset := 0x4000,
    fields := [⟨0, 21, .rw, .t⟩] }

/-- XL_PIN_MAX (04). -/
def rXlPinMax : Reg :=
  { name := .xlPinMax, space := .blk, base := 0x300018, width := 32, reset := 0x2000,
    fields := [⟨0, 16, .rw, .t⟩] }

/-- XL_STATUS (04). -/
def rXlStatus : Reg :=
  { name := .xlStatus, space := .blk, base := 0x300020, width := 64, reset := 0x0,
    fields := [⟨0, 16, .ro, .none⟩, ⟨16, 16, .ro, .none⟩, ⟨32, 13, .ro, .none⟩] }

/-- XL_FAULT_LATCH (04). -/
def rXlFaultLatch : Reg :=
  { name := .xlFaultLatch, space := .blk, base := 0x300028, width := 64, reset := 0x0,
    fields := [⟨0, 8, .ro, .none⟩, ⟨8, 16, .ro, .none⟩, ⟨24, 5, .ro, .none⟩, ⟨29, 1, .ro, .none⟩,
      ⟨63, 1, .w1c, .l⟩] }

/-- XL_FAULT_VA (04). -/
def rXlFaultVa : Reg :=
  { name := .xlFaultVa, space := .blk, base := 0x300030, width := 64, reset := 0x0,
    fields := [⟨0, 64, .ro, .none⟩] }

/-- XL_INV_START (04). -/
def rXlInvStart : Reg :=
  { name := .xlInvStart, space := .blk, base := 0x300040, width := 64, reset := 0x0,
    fields := [⟨0, 64, .rw, .l⟩] }

/-- XL_INV_LEN (04). -/
def rXlInvLen : Reg :=
  { name := .xlInvLen, space := .blk, base := 0x300048, width := 64, reset := 0x0,
    fields := [⟨0, 64, .rw, .l⟩] }

/-- XL_INV_CMD (04). -/
def rXlInvCmd : Reg :=
  { name := .xlInvCmd, space := .blk, base := 0x300050, width := 64, reset := 0x0,
    fields := [⟨0, 2, .wo, .l⟩, ⟨2, 5, .wo, .l⟩, ⟨16, 16, .wo, .l⟩, ⟨32, 16, .wo, .l⟩, ⟨32, 16, .ro, .none⟩,
      ⟨48, 1, .ro, .none⟩] }

/-- XL_FN_TAGS (04). -/
def rXlFnTags : Reg :=
  { name := .xlFnTags, space := .blk, base := 0x300100, stride1 := 8, count1 := 32, width := 64, reset := 0x0,
    fields := [⟨0, 16, .rw, .s⟩, ⟨16, 17, .rw, .s⟩] }

/-- TP_CTL (05). -/
def rTpCtl : Reg :=
  { name := .tpCtl, space := .blk, base := 0x400000, width := 32, reset := 0x104840,
    fields := [⟨0, 8, .rw, .t⟩, ⟨8, 4, .rw, .t⟩, ⟨12, 8, .rw, .t⟩, ⟨20, 8, .rw, .t⟩] }

/-- TP_LMAX (05). -/
def rTpLmax : Reg :=
  { name := .tpLmax, space := .blk, base := 0x400008, width := 32, reset := 0x1000,
    fields := [⟨0, 16, .rw, .s⟩] }

/-- TP_WIN_CTL (05). -/
def rTpWinCtl : Reg :=
  { name := .tpWinCtl, space := .blk, base := 0x400010, width := 32, reset := 0x1000040,
    fields := [⟨0, 10, .rw, .t⟩, ⟨16, 10, .rw, .t⟩] }

/-- TP_STATUS (05). -/
def rTpStatus : Reg :=
  { name := .tpStatus, space := .blk, base := 0x400018, width := 64, reset := 0x0,
    fields := [⟨0, 17, .ro, .none⟩, ⟨17, 21, .ro, .none⟩, ⟨38, 15, .ro, .none⟩, ⟨53, 1, .ro, .none⟩] }

/-- TP_STAGE_STATUS (05). -/
def rTpStageStatus : Reg :=
  { name := .tpStageStatus, space := .blk, base := 0x400020, width := 32, reset := 0x0,
    fields := [⟨0, 15, .ro, .none⟩, ⟨16, 14, .ro, .none⟩] }

/-- TP_ERR_LATCH (05). -/
def rTpErrLatch : Reg :=
  { name := .tpErrLatch, space := .blk, base := 0x400028, width := 64, reset := 0x0,
    fields := [⟨0, 18, .ro, .none⟩, ⟨18, 8, .ro, .none⟩, ⟨26, 4, .ro, .none⟩, ⟨30, 16, .ro, .none⟩,
      ⟨63, 1, .w1c, .l⟩] }

/-- TP_MSG_ID_NEXT (05). -/
def rTpMsgIdNext : Reg :=
  { name := .tpMsgIdNext, space := .blk, base := 0x400030, width := 32, reset := 0x0,
    fields := [⟨0, 32, .ro, .none⟩] }

/-- TP_WIN_SEL (05). -/
def rTpWinSel : Reg :=
  { name := .tpWinSel, space := .blk, base := 0x400038, width := 32, reset := 0x0,
    fields := [⟨0, 18, .rw, .l⟩] }

/-- TP_WIN_STATE (05). -/
def rTpWinState : Reg :=
  { name := .tpWinState, space := .blk, base := 0x400040, width := 64, reset := 0x0,
    fields := [⟨0, 1, .ro, .none⟩, ⟨1, 10, .ro, .none⟩, ⟨11, 16, .ro, .none⟩, ⟨27, 17, .ro, .none⟩,
      ⟨44, 17, .ro, .none⟩] }

/-- MX_CTL (06). -/
def rMxCtl : Reg :=
  { name := .mxCtl, space := .blk, base := 0x500000, width := 32, reset := 0x10010,
    fields := [⟨0, 5, .rw, .t⟩, ⟨8, 16, .rw, .t⟩] }

/-- MX_RDV_LIMIT (06). -/
def rMxRdvLimit : Reg :=
  { name := .mxRdvLimit, space := .blk, base := 0x500008, width := 32, reset := 0x0,
    fields := [⟨0, 24, .rw, .t⟩] }

/-- MX_STATUS (06). -/
def rMxStatus : Reg :=
  { name := .mxStatus, space := .blk, base := 0x500010, width := 64, reset := 0x0,
    fields := [⟨0, 21, .ro, .none⟩, ⟨21, 20, .ro, .none⟩, ⟨41, 17, .ro, .none⟩] }

/-- MX_ERR_LATCH (06). -/
def rMxErrLatch : Reg :=
  { name := .mxErrLatch, space := .blk, base := 0x500018, width := 64, reset := 0x0,
    fields := [⟨0, 16, .ro, .none⟩, ⟨16, 18, .ro, .none⟩, ⟨34, 4, .ro, .none⟩, ⟨63, 1, .w1c, .l⟩] }

/-- MX_FN_QUOTA (06). -/
def rMxFnQuota : Reg :=
  { name := .mxFnQuota, space := .blk, base := 0x500100, stride1 := 8, count1 := 32, width := 64, reset := 0x0,
    fields := [⟨0, 21, .rw, .s⟩, ⟨21, 20, .rw, .s⟩] }

/-- MX_EP_SEL (06). -/
def rMxEpSel : Reg :=
  { name := .mxEpSel, space := .blk, base := 0x500200, width := 32, reset := 0x0,
    fields := [⟨0, 16, .rw, .l⟩] }

/-- MX_EP_STATE (06). -/
def rMxEpState : Reg :=
  { name := .mxEpState, space := .blk, base := 0x500208, width := 64, reset := 0x0,
    fields := [⟨0, 21, .ro, .none⟩, ⟨21, 21, .ro, .none⟩, ⟨42, 20, .ro, .none⟩, ⟨62, 1, .ro, .none⟩] }

/-- MX_UBUF_STATE (06). -/
def rMxUbufState : Reg :=
  { name := .mxUbufState, space := .blk, base := 0x500210, width := 64, reset := 0x0,
    fields := [⟨0, 5, .ro, .none⟩, ⟨5, 31, .ro, .none⟩] }

/-- RL_CTL (07). -/
def rRlCtl : Reg :=
  { name := .rlCtl, space := .blk, base := 0x600000, width := 32, reset := 0x2100810,
    fields := [⟨0, 8, .rw, .t⟩, ⟨8, 4, .rw, .t⟩, ⟨12, 12, .rw, .t⟩, ⟨24, 8, .rw, .t⟩] }

/-- RL_STATUS (07). -/
def rRlStatus : Reg :=
  { name := .rlStatus, space := .blk, base := 0x600008, width := 64, reset := 0x0,
    fields := [⟨0, 13, .ro, .none⟩, ⟨13, 16, .ro, .none⟩, ⟨29, 17, .ro, .none⟩, ⟨46, 18, .ro, .none⟩] }

/-- RL_ERR_LATCH (07). -/
def rRlErrLatch : Reg :=
  { name := .rlErrLatch, space := .blk, base := 0x600010, width := 64, reset := 0x0,
    fields := [⟨0, 12, .ro, .none⟩, ⟨12, 4, .ro, .none⟩, ⟨16, 18, .ro, .none⟩, ⟨63, 1, .w1c, .l⟩] }

/-- RL_GRP_SEL (07). -/
def rRlGrpSel : Reg :=
  { name := .rlGrpSel, space := .blk, base := 0x600100, width := 32, reset := 0x0,
    fields := [⟨0, 12, .rw, .l⟩] }

/-- RL_GRP_CFG (07). -/
def rRlGrpCfg : Reg :=
  { name := .rlGrpCfg, space := .blk, base := 0x600108, width := 64, reset := 0x60000000, sel := some .rlGrpSel,
    fields := [⟨0, 16, .rw, .q⟩, ⟨16, 9, .rw, .q⟩, ⟨25, 3, .rw, .q⟩, ⟨28, 1, .rw, .q⟩, ⟨29, 3, .rw, .q⟩,
      ⟨32, 8, .rw, .q⟩] }

/-- RL_GRP_TREE (07). -/
def rRlGrpTree : Reg :=
  { name := .rlGrpTree, space := .blk, base := 0x600110, width := 64, reset := 0x0, sel := some .rlGrpSel,
    fields := [⟨0, 18, .rw, .q⟩, ⟨18, 8, .rw, .q⟩, ⟨26, 16, .rw, .q⟩] }

/-- RL_GRP_CMD (07). -/
def rRlGrpCmd : Reg :=
  { name := .rlGrpCmd, space := .blk, base := 0x600118, width := 32, reset := 0x0,
    fields := [⟨0, 2, .wo, .l⟩] }

/-- RL_GRP_STATE (07). -/
def rRlGrpState : Reg :=
  { name := .rlGrpState, space := .blk, base := 0x600120, width := 64, reset := 0x0,
    fields := [⟨0, 2, .ro, .none⟩, ⟨2, 4, .ro, .none⟩, ⟨6, 4, .ro, .none⟩, ⟨10, 4, .ro, .none⟩,
      ⟨14, 32, .ro, .none⟩, ⟨46, 18, .ro, .none⟩] }

/-- RL_CHILD (07). -/
def rRlChild : Reg :=
  { name := .rlChild, space := .blk, base := 0x680000, stride1 := 8, count1 := 65536, width := 64, reset := 0x0,
    fields := [⟨0, 18, .rw, .q⟩, ⟨18, 1, .rw, .q⟩, ⟨63, 1, .rw, .q⟩] }

/-- RT_CTL (08). -/
def rRtCtl : Reg :=
  { name := .rtCtl, space := .blk, base := 0x700000, width := 32, reset := 0x4100818,
    fields := [⟨0, 6, .rw, .t⟩, ⟨8, 8, .rw, .t⟩, ⟨16, 8, .rw, .t⟩, ⟨24, 8, .rw, .t⟩] }

/-- RT_ADAPT (08). -/
def rRtAdapt : Reg :=
  { name := .rtAdapt, space := .blk, base := 0x700008, width := 32, reset := 0x12024,
    fields := [⟨0, 4, .rw, .t⟩, ⟨4, 4, .rw, .t⟩, ⟨8, 8, .rw, .t⟩, ⟨16, 1, .rw, .t⟩] }

/-- RT_NODE (08). -/
def rRtNode : Reg :=
  { name := .rtNode, space := .blk, base := 0x700010, width := 32, reset := 0x0,
    fields := [⟨0, 18, .rw, .s⟩] }

/-- RT_EPOCH_NEXT (08). -/
def rRtEpochNext : Reg :=
  { name := .rtEpochNext, space := .blk, base := 0x700018, width := 64, reset := 0x0,
    fields := [⟨0, 48, .rw, .l⟩, ⟨62, 1, .wo, .l⟩, ⟨63, 1, .wo, .l⟩] }

/-- RT_EPOCH_STATUS (08). -/
def rRtEpochStatus : Reg :=
  { name := .rtEpochStatus, space := .blk, base := 0x700020, width := 64, reset := 0x0,
    fields := [⟨0, 1, .ro, .none⟩, ⟨1, 1, .ro, .none⟩, ⟨2, 1, .ro, .none⟩, ⟨3, 5, .ro, .none⟩,
      ⟨8, 3, .ro, .none⟩, ⟨16, 48, .ro, .none⟩] }

/-- RT_TBL_INDEX (08). -/
def rRtTblIndex : Reg :=
  { name := .rtTblIndex, space := .blk, base := 0x700028, width := 32, reset := 0x0,
    fields := [⟨0, 18, .rw, .l⟩, ⟨30, 1, .rw, .l⟩, ⟨31, 1, .rw, .l⟩] }

/-- RT_TBL_DATA (08). -/
def rRtTblData : Reg :=
  { name := .rtTblData, space := .blk, base := 0x700030, width := 64, reset := 0x0,
    fields := [⟨0, 32, .rw, .q⟩, ⟨32, 4, .rw, .q⟩, ⟨36, 2, .rw, .q⟩, ⟨38, 1, .rw, .q⟩, ⟨40, 7, .ro, .none⟩] }

/-- RT_SHADOW_CMD (08). -/
def rRtShadowCmd : Reg :=
  { name := .rtShadowCmd, space := .blk, base := 0x700038, width := 32, reset := 0x0,
    fields := [⟨0, 2, .wo, .q⟩, ⟨2, 1, .ro, .none⟩] }

/-- RT_ERR_LATCH (08). -/
def rRtErrLatch : Reg :=
  { name := .rtErrLatch, space := .blk, base := 0x700040, width := 64, reset := 0x0,
    fields := [⟨0, 18, .ro, .none⟩, ⟨18, 8, .ro, .none⟩, ⟨26, 4, .ro, .none⟩, ⟨30, 1, .ro, .none⟩,
      ⟨63, 1, .w1c, .l⟩] }

/-- RT_PORT_UP (08). -/
def rRtPortUp : Reg :=
  { name := .rtPortUp, space := .blk, base := 0x700100, stride1 := 8, count1 := 4, width := 64, reset := 0x0,
    fields := [⟨0, 64, .ro, .none⟩] }

/-- RT_PORT_EXCL (08). -/
def rRtPortExcl : Reg :=
  { name := .rtPortExcl, space := .blk, base := 0x700120, stride1 := 8, count1 := 4, width := 64, reset := 0x0,
    fields := [⟨0, 64, .rw, .t⟩] }

/-- RT_SCORE_SEL (08). -/
def rRtScoreSel : Reg :=
  { name := .rtScoreSel, space := .blk, base := 0x700200, width := 32, reset := 0x0,
    fields := [⟨0, 8, .rw, .l⟩] }

/-- RT_SCORE_RX (08). -/
def rRtScoreRx : Reg :=
  { name := .rtScoreRx, space := .blk, base := 0x700208, width := 64, reset := 0x0,
    fields := [⟨0, 64, .ro, .none⟩] }

/-- RT_SCORE_TX (08). -/
def rRtScoreTx : Reg :=
  { name := .rtScoreTx, space := .blk, base := 0x700210, width := 64, reset := 0x0,
    fields := [⟨0, 64, .ro, .none⟩] }

/-- RT_SCORE_NODE (08). -/
def rRtScoreNode : Reg :=
  { name := .rtScoreNode, space := .blk, base := 0x700218, width := 32, reset := 0x0,
    fields := [⟨0, 18, .ro, .none⟩, ⟨30, 1, .ro, .none⟩, ⟨31, 1, .ro, .none⟩] }

/-- TN_CTL (09). -/
def rTnCtl : Reg :=
  { name := .tnCtl, space := .blk, base := 0x800000, width := 32, reset := 0x1,
    fields := [⟨0, 1, .rw, .t⟩] }

/-- TN_STATUS (09). -/
def rTnStatus : Reg :=
  { name := .tnStatus, space := .blk, base := 0x800008, width := 64, reset := 0x0,
    fields := [⟨0, 20, .ro, .none⟩, ⟨20, 20, .ro, .none⟩, ⟨40, 20, .ro, .none⟩] }

/-- TN_RELAY_CELLS (09). -/
def rTnRelayCells : Reg :=
  { name := .tnRelayCells, space := .blk, base := 0x800010, width := 32, reset := 0x8000,
    fields := [⟨0, 17, .rw, .q⟩] }

/-- TN_WATER (09). -/
def rTnWater : Reg :=
  { name := .tnWater, space := .blk, base := 0x800018, width := 32, reset := 0x8000400,
    fields := [⟨0, 16, .rw, .t⟩, ⟨16, 16, .rw, .t⟩] }

/-- TN_ERR_LATCH (09). -/
def rTnErrLatch : Reg :=
  { name := .tnErrLatch, space := .blk, base := 0x800020, width := 64, reset := 0x0,
    fields := [⟨0, 9, .ro, .none⟩, ⟨9, 4, .ro, .none⟩, ⟨13, 3, .ro, .none⟩, ⟨63, 1, .w1c, .l⟩] }

/-- TN_PEAK (09). -/
def rTnPeak : Reg :=
  { name := .tnPeak, space := .blk, base := 0x800028, width := 32, reset := 0x0,
    fields := [⟨0, 20, .rc, .none⟩] }

/-- TN_CLASS (09). -/
def rTnClass : Reg :=
  { name := .tnClass, space := .blk, base := 0x800100, stride1 := 4, count1 := 8, width := 32, reset := 0x1010103,
    fields := [⟨0, 4, .rw, .t⟩, ⟨4, 8, .rw, .s⟩, ⟨12, 8, .rw, .s⟩, ⟨20, 8, .rw, .s⟩] }

/-- TN_ACCT_SEL (09). -/
def rTnAcctSel : Reg :=
  { name := .tnAcctSel, space := .blk, base := 0x800200, width := 32, reset := 0x0,
    fields := [⟨0, 9, .rw, .l⟩, ⟨16, 3, .rw, .l⟩] }

/-- TN_ACCT (09). -/
def rTnAcct : Reg :=
  { name := .tnAcct, space := .blk, base := 0x800208, width := 64, reset := 0x0,
    fields := [⟨0, 8, .ro, .none⟩, ⟨8, 20, .ro, .none⟩, ⟨28, 20, .ro, .none⟩] }

/-- TN_QUEUE_SEL (09). -/
def rTnQueueSel : Reg :=
  { name := .tnQueueSel, space := .blk, base := 0x800210, width := 32, reset := 0x0,
    fields := [⟨0, 9, .rw, .l⟩, ⟨16, 4, .rw, .l⟩] }

/-- TN_QUEUE (09). -/
def rTnQueue : Reg :=
  { name := .tnQueue, space := .blk, base := 0x800218, width := 64, reset := 0x0,
    fields := [⟨0, 20, .ro, .none⟩, ⟨20, 20, .ro, .none⟩] }

/-- TN_PORT_MIR (09). -/
def rTnPortMir : Reg :=
  { name := .tnPortMir, space := .blk, base := 0x801000, stride1 := 4, count1 := 304, width := 32, reset := 0x0,
    fields := [⟨0, 1, .rw, .t⟩, ⟨1, 2, .rw, .t⟩, ⟨3, 1, .rw, .t⟩, ⟨4, 2, .rw, .t⟩] }

/-- TN_RULE_MATCH (09). -/
def rTnRuleMatch : Reg :=
  { name := .tnRuleMatch, space := .blk, base := 0x802000, stride1 := 32, count1 := 256, width := 64, reset := 0x0,
    fields := [⟨0, 18, .rw, .t⟩, ⟨18, 18, .rw, .t⟩, ⟨36, 3, .rw, .t⟩, ⟨39, 8, .rw, .t⟩, ⟨47, 16, .rw, .t⟩] }

/-- TN_RULE_MASK (09). -/
def rTnRuleMask : Reg :=
  { name := .tnRuleMask, space := .blk, base := 0x802008, stride1 := 32, count1 := 256, width := 64, reset := 0x0,
    fields := [⟨0, 63, .rw, .t⟩] }

/-- TN_RULE_CTL (09). -/
def rTnRuleCtl : Reg :=
  { name := .tnRuleCtl, space := .blk, base := 0x802010, stride1 := 32, count1 := 256, width := 32, reset := 0x0,
    fields := [⟨0, 1, .rw, .t⟩, ⟨1, 2, .rw, .t⟩] }

/-- TN_SES_CTL (09). -/
def rTnSesCtl : Reg :=
  { name := .tnSesCtl, space := .blk, base := 0x804000, stride1 := 32, count1 := 4, width := 64, reset := 0x10003d200,
    fields := [⟨0, 1, .rw, .l⟩, ⟨1, 5, .rw, .q⟩, ⟨6, 4, .rw, .q⟩, ⟨10, 5, .rw, .q⟩, ⟨15, 3, .rw, .q⟩,
      ⟨20, 20, .rw, .q⟩] }

/-- TN_SES_BASE (09). -/
def rTnSesBase : Reg :=
  { name := .tnSesBase, space := .blk, base := 0x804008, stride1 := 32, count1 := 4, width := 64, reset := 0x0,
    fields := [⟨0, 64, .rw, .q⟩] }

/-- TN_SES_PROD (09). -/
def rTnSesProd : Reg :=
  { name := .tnSesProd, space := .blk, base := 0x804010, stride1 := 32, count1 := 4, width := 64, reset := 0x1000000,
    fields := [⟨0, 24, .ro, .none⟩, ⟨24, 1, .ro, .none⟩, ⟨25, 1, .ro, .none⟩] }

/-- TN_SES_LOST (09). -/
def rTnSesLost : Reg :=
  { name := .tnSesLost, space := .blk, base := 0x804018, stride1 := 32, count1 := 4, width := 32, reset := 0x0,
    fields := [⟨0, 32, .rc, .none⟩] }

/-- LK_CTL (10). -/
def rLkCtl : Reg :=
  { name := .lkCtl, space := .blk, base := 0x900000, width := 32, reset := 0x100840,
    fields := [⟨0, 8, .rw, .t⟩, ⟨8, 8, .rw, .t⟩, ⟨16, 8, .rw, .t⟩] }

/-- LK_SHARED_ADV (10). -/
def rLkSharedAdv : Reg :=
  { name := .lkSharedAdv, space := .blk, base := 0x900008, width := 32, reset := 0x800,
    fields := [⟨0, 16, .rw, .t⟩] }

/-- LK_STATUS (10). -/
def rLkStatus : Reg :=
  { name := .lkStatus, space := .blk, base := 0x900010, width := 64, reset := 0x0,
    fields := [⟨0, 9, .ro, .none⟩, ⟨9, 9, .ro, .none⟩, ⟨18, 12, .ro, .none⟩] }

/-- LK_ERR_LATCH (10). -/
def rLkErrLatch : Reg :=
  { name := .lkErrLatch, space := .blk, base := 0x900018, width := 64, reset := 0x0,
    fields := [⟨0, 8, .ro, .none⟩, ⟨8, 4, .ro, .none⟩, ⟨12, 5, .ro, .none⟩, ⟨63, 1, .w1c, .l⟩] }

/-- LK_PORT_SEL (10). -/
def rLkPortSel : Reg :=
  { name := .lkPortSel, space := .blk, base := 0x900100, width := 32, reset := 0x0,
    fields := [⟨0, 8, .rw, .l⟩, ⟨8, 5, .rw, .l⟩] }

/-- LK_PORT_STATE (10). -/
def rLkPortState : Reg :=
  { name := .lkPortState, space := .blk, base := 0x900108, width := 64, reset := 0x0,
    fields := [⟨0, 3, .ro, .none⟩, ⟨3, 4, .ro, .none⟩, ⟨7, 1, .ro, .none⟩, ⟨8, 18, .ro, .none⟩,
      ⟨26, 8, .ro, .none⟩, ⟨34, 3, .ro, .none⟩, ⟨37, 8, .ro, .none⟩, ⟨45, 8, .ro, .none⟩, ⟨53, 11, .ro, .none⟩] }

/-- LK_CHAN_STATE (10). -/
def rLkChanState : Reg :=
  { name := .lkChanState, space := .blk, base := 0x900110, width := 64, reset := 0x0,
    fields := [⟨0, 16, .ro, .none⟩, ⟨16, 16, .ro, .none⟩, ⟨32, 16, .ro, .none⟩, ⟨48, 16, .ro, .none⟩] }

/-- LK_PORT_CTL (10). -/
def rLkPortCtl : Reg :=
  { name := .lkPortCtl, space := .blk, base := 0x901000, stride1 := 4, count1 := 256, width := 32, reset := 0x1,
    fields := [⟨0, 1, .rw, .l⟩, ⟨1, 1, .wo, .l⟩, ⟨2, 1, .rw, .l⟩] }

/-- LN_CTL (11). -/
def rLnCtl : Reg :=
  { name := .lnCtl, space := .blk, base := 0xa00000, width := 32, reset := 0x40081000,
    fields := [⟨0, 16, .rw, .t⟩, ⟨16, 8, .rw, .t⟩, ⟨24, 8, .rw, .t⟩] }

/-- LN_STATUS (11). -/
def rLnStatus : Reg :=
  { name := .lnStatus, space := .blk, base := 0xa00008, width := 64, reset := 0x0,
    fields := [⟨0, 9, .ro, .none⟩, ⟨9, 4, .ro, .none⟩, ⟨13, 9, .ro, .none⟩] }

/-- LN_ERR_LATCH (11). -/
def rLnErrLatch : Reg :=
  { name := .lnErrLatch, space := .blk, base := 0xa00010, width := 64, reset := 0x0,
    fields := [⟨0, 8, .ro, .none⟩, ⟨8, 4, .ro, .none⟩, ⟨63, 1, .w1c, .l⟩] }

/-- LN_REF_STATUS (11). -/
def rLnRefStatus : Reg :=
  { name := .lnRefStatus, space := .blk, base := 0xa00018, width := 64, reset := 0x0,
    fields := [⟨0, 16, .ro, .none⟩, ⟨16, 16, .ro, .none⟩, ⟨32, 16, .ro, .none⟩, ⟨48, 16, .ro, .none⟩] }

/-- LN_LANE_SEL (11). -/
def rLnLaneSel : Reg :=
  { name := .lnLaneSel, space := .blk, base := 0xa00100, width := 32, reset := 0x0,
    fields := [⟨0, 8, .rw, .l⟩] }

/-- LN_LANE_STATE (11). -/
def rLnLaneState : Reg :=
  { name := .lnLaneState, space := .blk, base := 0xa00108, width := 64, reset := 0x0, sel := some .lnLaneSel,
    fields := [⟨0, 2, .ro, .none⟩, ⟨2, 1, .ro, .none⟩, ⟨3, 4, .ro, .none⟩, ⟨7, 8, .ro, .none⟩,
      ⟨15, 15, .ro, .none⟩, ⟨32, 16, .ro, .none⟩] }

/-- LN_FEC_SYM (11). -/
def rLnFecSym : Reg :=
  { name := .lnFecSym, space := .blk, base := 0xa00110, width := 32, reset := 0x0, sel := some .lnLaneSel,
    fields := [⟨0, 32, .rc, .none⟩] }

/-- LN_FEC_CW (11). -/
def rLnFecCw : Reg :=
  { name := .lnFecCw, space := .blk, base := 0xa00118, width := 32, reset := 0x0, sel := some .lnLaneSel,
    fields := [⟨0, 32, .rc, .none⟩] }

/-- LN_FEC_UNCORR (11). -/
def rLnFecUncorr : Reg :=
  { name := .lnFecUncorr, space := .blk, base := 0xa00120, width := 32, reset := 0x0, sel := some .lnLaneSel,
    fields := [⟨0, 32, .rc, .none⟩] }

/-- LN_EYE (11). -/
def rLnEye : Reg :=
  { name := .lnEye, space := .blk, base := 0xa00128, width := 64, reset := 0x0, sel := some .lnLaneSel,
    fields := [⟨0, 10, .ro, .none⟩, ⟨10, 10, .ro, .none⟩, ⟨20, 10, .ro, .none⟩, ⟨32, 6, .ro, .none⟩,
      ⟨63, 1, .ro, .none⟩] }

/-- LN_PRBS_ERR (11). -/
def rLnPrbsErr : Reg :=
  { name := .lnPrbsErr, space := .blk, base := 0xa00130, width := 32, reset := 0x0, sel := some .lnLaneSel,
    fields := [⟨0, 32, .rc, .none⟩] }

/-- LN_PORT_REF (11). -/
def rLnPortRef : Reg :=
  { name := .lnPortRef, space := .blk, base := 0xa01000, stride1 := 4, count1 := 256, width := 32, reset := 0x0,
    fields := [⟨0, 2, .rw, .s⟩] }

/-- LN_TX_EQ (11). -/
def rLnTxEq : Reg :=
  { name := .lnTxEq, space := .blk, base := 0xa02000, stride1 := 8, count1 := 256, width := 64, reset := 0xfc34f800,
    fields := [⟨0, 8, .rw, .q⟩, ⟨8, 8, .rw, .q⟩, ⟨16, 8, .rw, .q⟩, ⟨24, 8, .rw, .q⟩, ⟨32, 1, .rw, .s⟩] }

/-- LN_PRBS_CTL (11). -/
def rLnPrbsCtl : Reg :=
  { name := .lnPrbsCtl, space := .blk, base := 0xa03000, stride1 := 4, count1 := 256, width := 32, reset := 0x0,
    fields := [⟨0, 2, .rw, .q⟩, ⟨2, 2, .rw, .q⟩, ⟨4, 1, .ro, .none⟩] }

/-- SC_CTL (12). -/
def rScCtl : Reg :=
  { name := .scCtl, space := .blk, base := 0xb00000, width := 32, reset := 0x208,
    fields := [⟨0, 8, .rw, .t⟩, ⟨8, 1, .rw, .t⟩, ⟨9, 1, .rw, .t⟩] }

/-- SC_STATUS (12). -/
def rScStatus : Reg :=
  { name := .scStatus, space := .blk, base := 0xb00008, width := 64, reset := 0x0,
    fields := [⟨0, 15, .ro, .none⟩, ⟨15, 15, .ro, .none⟩] }

/-- SC_ERR_LATCH (12). -/
def rScErrLatch : Reg :=
  { name := .scErrLatch, space := .blk, base := 0xb00010, width := 64, reset := 0x0,
    fields := [⟨0, 9, .ro, .none⟩, ⟨9, 4, .ro, .none⟩, ⟨13, 14, .ro, .none⟩, ⟨63, 1, .w1c, .l⟩] }

/-- SC_PORT_SEL (12). -/
def rScPortSel : Reg :=
  { name := .scPortSel, space := .blk, base := 0xb00100, width := 32, reset := 0x0,
    fields := [⟨0, 9, .rw, .l⟩] }

/-- SC_PORT_CFG (12). -/
def rScPortCfg : Reg :=
  { name := .scPortCfg, space := .blk, base := 0xb00108, width := 32, reset := 0x200000, sel := some .scPortSel,
    fields := [⟨0, 8, .rw, .t⟩, ⟨8, 9, .rw, .t⟩, ⟨17, 6, .rw, .t⟩] }

/-- SC_PORT_WEIGHT (12). -/
def rScPortWeight : Reg :=
  { name := .scPortWeight, space := .blk, base := 0xb00110, width := 64, reset := 0x1010101010101010, sel := some .scPortSel,
    fields := [⟨0, 8, .rw, .t⟩, ⟨8, 8, .rw, .t⟩, ⟨16, 8, .rw, .t⟩, ⟨24, 8, .rw, .t⟩, ⟨32, 8, .rw, .t⟩,
      ⟨40, 8, .rw, .t⟩, ⟨48, 8, .rw, .t⟩, ⟨56, 8, .rw, .t⟩] }

/-- SC_GATE_SWITCH (12). -/
def rScGateSwitch : Reg :=
  { name := .scGateSwitch, space := .blk, base := 0xb00118, width := 64, reset := 0x0,
    fields := [⟨0, 48, .rw, .l⟩, ⟨63, 1, .wo, .l⟩] }

/-- SC_GATE_STATUS (12). -/
def rScGateStatus : Reg :=
  { name := .scGateStatus, space := .blk, base := 0xb00120, width := 64, reset := 0x1fe000,
    fields := [⟨0, 1, .ro, .none⟩, ⟨1, 1, .ro, .none⟩, ⟨2, 8, .ro, .none⟩, ⟨10, 3, .ro, .none⟩,
      ⟨13, 8, .ro, .none⟩] }

/-- SC_GATE_BANK (12). -/
def rScGateBank : Reg :=
  { name := .scGateBank, space := .blk, base := 0xb00128, stride1 := 8, count1 := 2, width := 64, reset := 0x100000000, sel := some .scPortSel,
    fields := [⟨0, 32, .rw, .q⟩, ⟨32, 9, .rw, .q⟩] }

/-- SC_FLOW_SEL (12). -/
def rScFlowSel : Reg :=
  { name := .scFlowSel, space := .blk, base := 0xb00200, width := 32, reset := 0x0,
    fields := [⟨0, 14, .rw, .l⟩] }

/-- SC_FLOW_CFG (12). -/
def rScFlowCfg : Reg :=
  { name := .scFlowCfg, space := .blk, base := 0xb00208, width := 64, reset := 0x0, sel := some .scFlowSel,
    fields := [⟨0, 32, .rw, .t⟩, ⟨32, 20, .rw, .t⟩, ⟨52, 9, .rw, .t⟩, ⟨63, 1, .rw, .t⟩] }

/-- SC_FLOW_STATE (12). -/
def rScFlowState : Reg :=
  { name := .scFlowState, space := .blk, base := 0xb00210, width := 64, reset := 0x0,
    fields := [⟨0, 1, .ro, .none⟩, ⟨1, 1, .ro, .none⟩, ⟨16, 16, .ro, .none⟩] }

/-- SC_GATE_ENTRY (12). -/
def rScGateEntry : Reg :=
  { name := .scGateEntry, space := .blk, base := 0xb01000, stride1 := 1024, count1 := 2, stride2 := 4, count2 := 256, width := 32, reset := 0x7dff, sel := some .scPortSel,
    fields := [⟨0, 8, .rw, .q⟩, ⟨8, 16, .rw, .q⟩] }

/-- SC_QFLOW (12). -/
def rScQflow : Reg :=
  { name := .scQflow, space := .blk, base := 0xb04000, stride1 := 32, count1 := 304, stride2 := 4, count2 := 8, width := 32, reset := 0x0,
    fields := [⟨0, 14, .rw, .t⟩, ⟨15, 1, .rw, .t⟩] }

/-- SC_EP_FLOW (12). -/
def rScEpFlow : Reg :=
  { name := .scEpFlow, space := .blk, base := 0xb10000, stride1 := 4, count1 := 65536, width := 32, reset := 0x0,
    fields := [⟨0, 14, .rw, .t⟩, ⟨15, 1, .rw, .t⟩] }

/-- CX_CTL (13). -/
def rCxCtl : Reg :=
  { name := .cxCtl, space := .blk, base := 0xc00000, width := 32, reset := 0x40040008,
    fields := [⟨0, 8, .rw, .t⟩, ⟨8, 12, .rw, .t⟩, ⟨20, 12, .rw, .t⟩] }

/-- CX_MH_CFG (13). -/
def rCxMhCfg : Reg :=
  { name := .cxMhCfg, space := .blk, base := 0xc00008, width := 32, reset := 0x4c0,
    fields := [⟨0, 5, .rw, .s⟩, ⟨5, 1, .rw, .s⟩, ⟨6, 1, .rw, .s⟩, ⟨7, 1, .rw, .s⟩, ⟨8, 8, .rw, .s⟩,
      ⟨16, 1, .rw, .s⟩] }

/-- CX_STATUS (13). -/
def rCxStatus : Reg :=
  { name := .cxStatus, space := .blk, base := 0xc00010, width := 64, reset := 0x0,
    fields := [⟨0, 6, .ro, .none⟩, ⟨6, 6, .ro, .none⟩, ⟨12, 12, .ro, .none⟩, ⟨24, 10, .ro, .none⟩,
      ⟨34, 13, .ro, .none⟩, ⟨47, 2, .ro, .none⟩] }

/-- CX_ERR_LATCH (13). -/
def rCxErrLatch : Reg :=
  { name := .cxErrLatch, space := .blk, base := 0xc00018, width := 64, reset := 0x0,
    fields := [⟨0, 6, .ro, .none⟩, ⟨8, 4, .ro, .none⟩, ⟨12, 5, .ro, .none⟩, ⟨20, 4, .ro, .none⟩,
      ⟨63, 1, .w1c, .l⟩] }

/-- CX_MH_STATUS (13). -/
def rCxMhStatus : Reg :=
  { name := .cxMhStatus, space := .blk, base := 0xc00020, width := 64, reset := 0x0,
    fields := [⟨0, 8, .ro, .none⟩, ⟨8, 16, .ro, .none⟩, ⟨24, 8, .ro, .none⟩, ⟨32, 32, .ro, .none⟩] }

/-- CX_PORT_CFG (13). -/
def rCxPortCfg : Reg :=
  { name := .cxPortCfg, space := .blk, base := 0xc00100, stride1 := 8, count1 := 48, width := 64, reset := 0x0,
    fields := [⟨0, 7, .rw, .s⟩, ⟨8, 2, .rw, .s⟩, ⟨10, 2, .rw, .s⟩, ⟨12, 5, .rw, .s⟩, ⟨17, 5, .rw, .s⟩,
      ⟨22, 1, .rw, .s⟩] }

/-- CX_PORT_SEL (13). -/
def rCxPortSel : Reg :=
  { name := .cxPortSel, space := .blk, base := 0xc00200, width := 32, reset := 0x0,
    fields := [⟨0, 6, .rw, .l⟩] }

/-- CX_PORT_STATE (13). -/
def rCxPortState : Reg :=
  { name := .cxPortState, space := .blk, base := 0xc00208, width := 64, reset := 0x0,
    fields := [⟨0, 3, .ro, .none⟩, ⟨3, 2, .ro, .none⟩, ⟨5, 5, .ro, .none⟩, ⟨10, 2, .ro, .none⟩,
      ⟨12, 1, .ro, .none⟩, ⟨13, 5, .ro, .none⟩] }

/-- CX_VCS_SEL (13). -/
def rCxVcsSel : Reg :=
  { name := .cxVcsSel, space := .blk, base := 0xc00300, width := 32, reset := 0x0,
    fields := [⟨0, 5, .rw, .l⟩, ⟨8, 7, .rw, .l⟩] }

/-- CX_VPPB_STATE (13). -/
def rCxVppbState : Reg :=
  { name := .cxVppbState, space := .blk, base := 0xc00308, width := 64, reset := 0x0,
    fields := [⟨0, 2, .ro, .none⟩, ⟨2, 1, .ro, .none⟩, ⟨3, 6, .ro, .none⟩, ⟨9, 4, .ro, .none⟩,
      ⟨13, 1, .ro, .none⟩, ⟨14, 48, .ro, .none⟩] }

/-- CX_LD_SEL (13). -/
def rCxLdSel : Reg :=
  { name := .cxLdSel, space := .blk, base := 0xc00400, width := 32, reset := 0x0,
    fields := [⟨0, 6, .rw, .l⟩, ⟨8, 4, .rw, .l⟩] }

/-- CX_LD_STATE (13). -/
def rCxLdState : Reg :=
  { name := .cxLdState, space := .blk, base := 0xc00408, width := 64, reset := 0x0,
    fields := [⟨0, 1, .ro, .none⟩, ⟨1, 1, .ro, .none⟩, ⟨2, 5, .ro, .none⟩, ⟨7, 7, .ro, .none⟩,
      ⟨16, 32, .ro, .none⟩, ⟨48, 13, .ro, .none⟩] }

/-- CX_PORT_CTL (13). -/
def rCxPortCtl : Reg :=
  { name := .cxPortCtl, space := .blk, base := 0xc01000, stride1 := 4, count1 := 48, width := 32, reset := 0x1,
    fields := [⟨0, 1, .rw, .l⟩, ⟨1, 1, .wo, .l⟩, ⟨2, 1, .rw, .l⟩] }

/-- WN_CTL (14). -/
def rWnCtl : Reg :=
  { name := .wnCtl, space := .blk, base := 0xd00000, width := 32, reset := 0x3000080,
    fields := [⟨0, 8, .rw, .t⟩, ⟨8, 19, .rw, .t⟩] }

/-- WN_STATUS (14). -/
def rWnStatus : Reg :=
  { name := .wnStatus, space := .blk, base := 0xd00008, width := 64, reset := 0x0,
    fields := [⟨0, 19, .ro, .none⟩, ⟨19, 19, .ro, .none⟩, ⟨38, 9, .ro, .none⟩, ⟨47, 9, .ro, .none⟩] }

/-- WN_ERR_LATCH (14). -/
def rWnErrLatch : Reg :=
  { name := .wnErrLatch, space := .blk, base := 0xd00010, width := 64, reset := 0x0,
    fields := [⟨0, 8, .ro, .none⟩, ⟨8, 4, .ro, .none⟩, ⟨12, 5, .ro, .none⟩, ⟨24, 8, .ro, .none⟩,
      ⟨63, 1, .w1c, .l⟩] }

/-- WN_ERR_DPA (14). -/
def rWnErrDpa : Reg :=
  { name := .wnErrDpa, space := .blk, base := 0xd00018, width := 64, reset := 0x0,
    fields := [⟨0, 64, .ro, .none⟩] }

/-- WN_WIN_SEL (14). -/
def rWnWinSel : Reg :=
  { name := .wnWinSel, space := .blk, base := 0xd00100, width := 32, reset := 0x0,
    fields := [⟨0, 8, .rw, .l⟩] }

/-- WN_WIN_CFG (14). -/
def rWnWinCfg : Reg :=
  { name := .wnWinCfg, space := .blk, base := 0xd00108, width := 64, reset := 0x20000000000, sel := some .wnWinSel,
    fields := [⟨0, 18, .rw, .q⟩, ⟨18, 18, .rw, .q⟩, ⟨36, 2, .rw, .q⟩, ⟨38, 3, .rw, .q⟩, ⟨41, 3, .rw, .q⟩,
      ⟨48, 5, .rw, .q⟩] }

/-- WN_WIN_HOME (14). -/
def rWnWinHome : Reg :=
  { name := .wnWinHome, space := .blk, base := 0xd00110, width := 64, reset := 0x0, sel := some .wnWinSel,
    fields := [⟨0, 18, .rw, .q⟩, ⟨18, 16, .rw, .q⟩, ⟨34, 24, .rw, .q⟩] }

/-- WN_WIN_ADDR (14). -/
def rWnWinAddr : Reg :=
  { name := .wnWinAddr, space := .blk, base := 0xd00118, width := 64, reset := 0x0, sel := some .wnWinSel,
    fields := [⟨0, 64, .rw, .q⟩] }

/-- WN_WIN_HOSTS (14). -/
def rWnWinHosts : Reg :=
  { name := .wnWinHosts, space := .blk, base := 0xd00120, width := 32, reset := 0x0, sel := some .wnWinSel,
    fields := [⟨0, 32, .rw, .q⟩] }

/-- WN_WIN_LIMIT (14). -/
def rWnWinLimit : Reg :=
  { name := .wnWinLimit, space := .blk, base := 0xd00128, width := 64, reset := 0x1000010000000, sel := some .wnWinSel,
    fields := [⟨0, 19, .rw, .t⟩, ⟨24, 8, .rw, .t⟩, ⟨32, 24, .rw, .t⟩] }

/-- WN_WIN_CMD (14). -/
def rWnWinCmd : Reg :=
  { name := .wnWinCmd, space := .blk, base := 0xd00130, width := 32, reset := 0x0,
    fields := [⟨0, 2, .wo, .l⟩] }

/-- WN_WIN_STATE (14). -/
def rWnWinState : Reg :=
  { name := .wnWinState, space := .blk, base := 0xd00138, width := 64, reset := 0x0,
    fields := [⟨0, 2, .ro, .none⟩, ⟨2, 4, .ro, .none⟩, ⟨6, 19, .ro, .none⟩, ⟨25, 19, .ro, .none⟩,
      ⟨44, 4, .ro, .none⟩] }

/-- SP_CTL (15). -/
def rSpCtl : Reg :=
  { name := .spCtl, space := .blk, base := 0xe00000, width := 32, reset := 0xa02,
    fields := [⟨0, 8, .rw, .t⟩, ⟨8, 8, .rw, .t⟩] }

/-- SP_STATUS (15). -/
def rSpStatus : Reg :=
  { name := .spStatus, space := .blk, base := 0xe00008, width := 64, reset := 0x0,
    fields := [⟨0, 32, .ro, .none⟩, ⟨32, 32, .ro, .none⟩] }

/-- SP_ERR_LATCH (15). -/
def rSpErrLatch : Reg :=
  { name := .spErrLatch, space := .blk, base := 0xe00010, width := 64, reset := 0x0,
    fields := [⟨0, 5, .ro, .none⟩, ⟨5, 1, .ro, .none⟩, ⟨6, 4, .ro, .none⟩, ⟨63, 1, .w1c, .l⟩] }

/-- SP_OWN (15). -/
def rSpOwn : Reg :=
  { name := .spOwn, space := .blk, base := 0xe00018, width := 64, reset := 0xfffffffff,
    fields := [⟨0, 32, .rw, .s⟩, ⟨32, 4, .rw, .s⟩] }

/-- SP_SLOT_CFG (15). -/
def rSpSlotCfg : Reg :=
  { name := .spSlotCfg, space := .blk, base := 0xe01000, stride1 := 64, count1 := 32, width := 64, reset := 0x4740000103e8,
    fields := [⟨0, 16, .rw, .s⟩, ⟨16, 1, .rw, .s⟩, ⟨17, 1, .rw, .s⟩, ⟨24, 10, .rw, .s⟩, ⟨36, 12, .rw, .q⟩] }

/-- SP_SLOT_LIM (15). -/
def rSpSlotLim : Reg :=
  { name := .spSlotLim, space := .blk, base := 0xe01008, stride1 := 64, count1 := 32, width := 64, reset := 0x3e844c5030321f4,
    fields := [⟨0, 12, .rw, .q⟩, ⟨12, 10, .rw, .q⟩, ⟨22, 7, .rw, .q⟩, ⟨29, 7, .rw, .q⟩, ⟨36, 12, .rw, .q⟩,
      ⟨48, 12, .rw, .q⟩] }

/-- SP_SLOT_CTL (15). -/
def rSpSlotCtl : Reg :=
  { name := .spSlotCtl, space := .blk, base := 0xe01010, stride1 := 64, count1 := 32, width := 32, reset := 0x0,
    fields := [⟨0, 1, .rw, .l⟩, ⟨1, 1, .wo, .l⟩] }

/-- SP_SLOT_STATE (15). -/
def rSpSlotState : Reg :=
  { name := .spSlotState, space := .blk, base := 0xe01018, stride1 := 64, count1 := 32, width := 64, reset := 0x0,
    fields := [⟨0, 3, .ro, .none⟩, ⟨3, 1, .ro, .none⟩, ⟨4, 1, .ro, .none⟩, ⟨5, 1, .ro, .none⟩,
      ⟨6, 4, .ro, .none⟩, ⟨10, 1, .ro, .none⟩, ⟨11, 1, .ro, .none⟩, ⟨12, 1, .ro, .none⟩, ⟨13, 3, .ro, .none⟩,
      ⟨16, 48, .ro, .none⟩] }

/-- SP_SLOT_MEAS (15). -/
def rSpSlotMeas : Reg :=
  { name := .spSlotMeas, space := .blk, base := 0xe01020, stride1 := 64, count1 := 32, width := 64, reset := 0x0,
    fields := [⟨0, 16, .ro, .none⟩, ⟨16, 16, .ro, .none⟩, ⟨32, 16, .ro, .none⟩, ⟨48, 16, .ro, .none⟩] }

/-- SP_SLOT_POWER (15). -/
def rSpSlotPower : Reg :=
  { name := .spSlotPower, space := .blk, base := 0xe01028, stride1 := 64, count1 := 32, width := 32, reset := 0x0,
    fields := [⟨0, 20, .ro, .none⟩] }

/-- SP_SLOT_ENERGY (15). -/
def rSpSlotEnergy : Reg :=
  { name := .spSlotEnergy, space := .blk, base := 0xe01030, stride1 := 64, count1 := 32, width := 64, reset := 0x0,
    fields := [⟨0, 48, .ro, .none⟩, ⟨48, 1, .w1c, .l⟩] }

/-- SP_FG_CFG (15). -/
def rSpFgCfg : Reg :=
  { name := .spFgCfg, space := .blk, base := 0xe02000, stride1 := 32, count1 := 4, width := 64, reset := 0x4322581432,
    fields := [⟨0, 8, .rw, .t⟩, ⟨8, 8, .rw, .t⟩, ⟨16, 12, .rw, .t⟩, ⟨28, 10, .rw, .t⟩, ⟨38, 1, .rw, .t⟩] }

/-- SP_FG_STATE (15). -/
def rSpFgState : Reg :=
  { name := .spFgState, space := .blk, base := 0xe02008, stride1 := 32, count1 := 4, width := 64, reset := 0x0,
    fields := [⟨0, 1, .ro, .none⟩, ⟨1, 1, .ro, .none⟩, ⟨2, 1, .ro, .none⟩, ⟨3, 1, .ro, .none⟩,
      ⟨8, 16, .ro, .none⟩, ⟨24, 16, .ro, .none⟩, ⟨40, 8, .ro, .none⟩] }

/-- SP_FG_CTL (15). -/
def rSpFgCtl : Reg :=
  { name := .spFgCtl, space := .blk, base := 0xe02010, stride1 := 32, count1 := 4, width := 32, reset := 0x0,
    fields := [⟨0, 1, .wo, .l⟩] }

/-- TW_CFG (16). -/
def rTwCfg : Reg :=
  { name := .twCfg, space := .blk, base := 0xf00000, width := 64, reset := 0xffffffff00000000,
    fields := [⟨0, 8, .rw, .s⟩, ⟨8, 1, .rw, .s⟩, ⟨10, 18, .rw, .s⟩, ⟨32, 32, .rw, .s⟩] }

/-- TW_CTL (16). -/
def rTwCtl : Reg :=
  { name := .twCtl, space := .blk, base := 0xf00008, width := 32, reset := 0x40004,
    fields := [⟨0, 8, .rw, .t⟩, ⟨8, 24, .rw, .t⟩] }

/-- TW_STATUS (16). -/
def rTwStatus : Reg :=
  { name := .twStatus, space := .blk, base := 0xf00010, width := 64, reset := 0x0,
    fields := [⟨0, 3, .ro, .none⟩, ⟨3, 1, .ro, .none⟩, ⟨4, 1, .ro, .none⟩, ⟨5, 3, .ro, .none⟩,
      ⟨8, 1, .ro, .none⟩, ⟨16, 48, .ro, .none⟩] }

/-- TW_LEASE (16). -/
def rTwLease : Reg :=
  { name := .twLease, space := .blk, base := 0xf00018, width := 64, reset := 0x0,
    fields := [⟨0, 32, .ro, .none⟩, ⟨32, 1, .ro, .none⟩, ⟨33, 1, .ro, .none⟩] }

/-- TW_MIRROR (16). -/
def rTwMirror : Reg :=
  { name := .twMirror, space := .blk, base := 0xf00020, width := 64, reset := 0x0,
    fields := [⟨0, 32, .ro, .none⟩, ⟨32, 32, .ro, .none⟩] }

/-- TW_CMD (16). -/
def rTwCmd : Reg :=
  { name := .twCmd, space := .blk, base := 0xf00028, width := 64, reset := 0x0,
    fields := [⟨0, 48, .rw, .l⟩, ⟨62, 1, .wo, .l⟩, ⟨63, 1, .wo, .l⟩] }

/-- TW_ERR_LATCH (16). -/
def rTwErrLatch : Reg :=
  { name := .twErrLatch, space := .blk, base := 0xf00030, width := 64, reset := 0x0,
    fields := [⟨0, 4, .ro, .none⟩, ⟨63, 1, .w1c, .l⟩] }

/-- LS_CTL (17). -/
def rLsCtl : Reg :=
  { name := .lsCtl, space := .blk, base := 0x1000000, width := 32, reset := 0x100,
    fields := [⟨0, 12, .rw, .t⟩] }

/-- LS_LEASE (17). -/
def rLsLease : Reg :=
  { name := .lsLease, space := .blk, base := 0x1000008, width := 32, reset := 0x1000,
    fields := [⟨0, 24, .rw, .t⟩] }

/-- LS_STATUS (17). -/
def rLsStatus : Reg :=
  { name := .lsStatus, space := .blk, base := 0x1000010, width := 64, reset := 0x0,
    fields := [⟨0, 13, .ro, .none⟩, ⟨13, 15, .ro, .none⟩, ⟨28, 16, .ro, .none⟩] }

/-- LS_ERR_LATCH (17). -/
def rLsErrLatch : Reg :=
  { name := .lsErrLatch, space := .blk, base := 0x1000018, width := 64, reset := 0x0,
    fields := [⟨0, 12, .ro, .none⟩, ⟨12, 4, .ro, .none⟩, ⟨16, 18, .ro, .none⟩, ⟨34, 16, .ro, .none⟩,
      ⟨63, 1, .w1c, .l⟩] }

/-- LS_GRP_ACL (17). -/
def rLsGrpAcl : Reg :=
  { name := .lsGrpAcl, space := .blk, base := 0x1000100, stride1 := 8, count1 := 16, width := 64, reset := 0x0,
    fields := [⟨0, 32, .rw, .q⟩, ⟨32, 1, .rw, .q⟩, ⟨33, 1, .rw, .q⟩] }

/-- LS_GRP_NODES (17). -/
def rLsGrpNodes : Reg :=
  { name := .lsGrpNodes, space := .blk, base := 0x1000180, stride1 := 8, count1 := 16, width := 64, reset := 0x3ffff00000000,
    fields := [⟨0, 18, .rw, .q⟩, ⟨32, 18, .rw, .q⟩] }

/-- LS_LOCK_SEL (17). -/
def rLsLockSel : Reg :=
  { name := .lsLockSel, space := .blk, base := 0x1000200, width := 32, reset := 0x0,
    fields := [⟨0, 12, .rw, .l⟩] }

/-- LS_LOCK_STATE (17). -/
def rLsLockState : Reg :=
  { name := .lsLockState, space := .blk, base := 0x1000208, width := 64, reset := 0x0,
    fields := [⟨0, 2, .ro, .none⟩, ⟨2, 2, .ro, .none⟩, ⟨4, 18, .ro, .none⟩, ⟨22, 16, .ro, .none⟩,
      ⟨38, 15, .ro, .none⟩, ⟨53, 1, .ro, .none⟩, ⟨54, 10, .ro, .none⟩] }

/-- LS_LOCK_CMD (17). -/
def rLsLockCmd : Reg :=
  { name := .lsLockCmd, space := .blk, base := 0x1000210, width := 32, reset := 0x0,
    fields := [⟨0, 1, .wo, .l⟩] }

/-- FE_CTL (18). -/
def rFeCtl : Reg :=
  { name := .feCtl, space := .blk, base := 0x1100000, width := 32, reset := 0x2,
    fields := [⟨0, 6, .rw, .l⟩, ⟨6, 1, .rw, .l⟩, ⟨7, 1, .rw, .s⟩, ⟨8, 1, .rw, .t⟩] }

/-- FE_STATUS (18). -/
def rFeStatus : Reg :=
  { name := .feStatus, space := .blk, base := 0x1100008, width := 64, reset := 0x0,
    fields := [⟨0, 1, .ro, .none⟩, ⟨1, 7, .ro, .none⟩, ⟨8, 1, .ro, .none⟩, ⟨9, 1, .ro, .none⟩,
      ⟨10, 1, .ro, .none⟩, ⟨16, 8, .ro, .none⟩, ⟨24, 32, .ro, .none⟩] }

/-- FE_ERR (18). -/
def rFeErr : Reg :=
  { name := .feErr, space := .blk, base := 0x1100010, width := 32, reset := 0x0,
    fields := [⟨0, 1, .rw, .l⟩, ⟨1, 1, .wo, .l⟩, ⟨16, 16, .rc, .none⟩] }

/-- FE_ERR_LATCH (18). -/
def rFeErrLatch : Reg :=
  { name := .feErrLatch, space := .blk, base := 0x1100018, width := 64, reset := 0x0,
    fields := [⟨0, 4, .ro, .none⟩, ⟨63, 1, .w1c, .l⟩] }

/-- FE_HOST_MASK (18). -/
def rFeHostMask : Reg :=
  { name := .feHostMask, space := .blk, base := 0x1100020, width := 32, reset := 0x0,
    fields := [⟨0, 32, .rw, .t⟩] }

/-- FE_FENCE_CMD (18). -/
def rFeFenceCmd : Reg :=
  { name := .feFenceCmd, space := .blk, base := 0x1100028, width := 32, reset := 0x0,
    fields := [⟨0, 6, .wo, .l⟩, ⟨31, 1, .wo, .l⟩] }

/-- FE_LATCH (18). -/
def rFeLatch : Reg :=
  { name := .feLatch, space := .blk, base := 0x1100040, stride1 := 16, count1 := 4, width := 64, reset := 0x0,
    fields := [⟨0, 9, .ro, .none⟩, ⟨12, 4, .ro, .none⟩, ⟨16, 20, .ro, .none⟩, ⟨36, 1, .ro, .none⟩,
      ⟨37, 1, .ro, .none⟩, ⟨40, 8, .ro, .none⟩, ⟨63, 1, .w1c, .l⟩] }

/-- FE_LATCH_TICK (18). -/
def rFeLatchTick : Reg :=
  { name := .feLatchTick, space := .blk, base := 0x1100048, stride1 := 16, count1 := 4, width := 64, reset := 0x0,
    fields := [⟨0, 48, .ro, .none⟩] }

/-- FE_PEND (18). -/
def rFePend : Reg :=
  { name := .fePend, space := .blk, base := 0x1100080, stride1 := 8, count1 := 5, width := 64, reset := 0x0,
    fields := [⟨0, 64, .w1c, .l⟩] }

/-- FE_HIST_POP (18). -/
def rFeHistPop : Reg :=
  { name := .feHistPop, space := .blk, base := 0x1100100, width := 64, reset := 0x0,
    fields := [⟨0, 9, .rc, .none⟩, ⟨9, 2, .rc, .none⟩, ⟨12, 20, .rc, .none⟩, ⟨32, 16, .rc, .none⟩,
      ⟨63, 1, .rc, .none⟩] }

/-- FE_HIST_STATUS (18). -/
def rFeHistStatus : Reg :=
  { name := .feHistStatus, space := .blk, base := 0x1100108, width := 32, reset := 0x0,
    fields := [⟨0, 5, .ro, .none⟩, ⟨5, 1, .w1c, .l⟩] }

/-- FE_FENCE (18). -/
def rFeFence : Reg :=
  { name := .feFence, space := .blk, base := 0x1100200, stride1 := 8, count1 := 64, width := 64, reset := 0x0,
    fields := [⟨0, 4, .ro, .none⟩, ⟨4, 20, .ro, .none⟩, ⟨24, 9, .ro, .none⟩, ⟨33, 1, .ro, .none⟩,
      ⟨63, 1, .ro, .none⟩] }

/-- FE_SRC_CFG (18). -/
def rFeSrcCfg : Reg :=
  { name := .feSrcCfg, space := .blk, base := 0x1101000, stride1 := 4, count1 := 320, width := 32, reset := 0x0,
    fields := [⟨0, 1, .rw, .l⟩, ⟨1, 2, .rw, .l⟩, ⟨3, 1, .wo, .l⟩, ⟨4, 1, .rw, .l⟩, ⟨5, 1, .rw, .l⟩,
      ⟨6, 1, .rw, .l⟩, ⟨8, 4, .ro, .none⟩, ⟨12, 1, .ro, .none⟩] }

/-- PC_SAMP_CTL (19). -/
def rPcSampCtl : Reg :=
  { name := .pcSampCtl, space := .blk, base := 0x1200000, width := 32, reset := 0x10,
    fields := [⟨0, 5, .rw, .t⟩, ⟨31, 1, .rw, .t⟩] }

/-- PC_SAMP_FILTER (19). -/
def rPcSampFilter : Reg :=
  { name := .pcSampFilter, space := .blk, base := 0x1200008, width := 64, reset := 0xffff0000ffffffff,
    fields := [⟨0, 32, .rw, .t⟩, ⟨32, 16, .rw, .t⟩, ⟨48, 16, .rw, .t⟩] }

/-- PC_SAMP_PROD (19). -/
def rPcSampProd : Reg :=
  { name := .pcSampProd, space := .blk, base := 0x1200010, width := 32, reset := 0x1000,
    fields := [⟨0, 12, .ro, .none⟩, ⟨12, 1, .ro, .none⟩] }

/-- PC_SAMP_CONS (19). -/
def rPcSampCons : Reg :=
  { name := .pcSampCons, space := .blk, base := 0x1200018, width := 32, reset := 0x1000,
    fields := [⟨0, 12, .rw, .l⟩, ⟨12, 1, .rw, .l⟩] }

/-- PC_SAMP_STATUS (19). -/
def rPcSampStatus : Reg :=
  { name := .pcSampStatus, space := .blk, base := 0x1200020, width := 64, reset := 0x0,
    fields := [⟨0, 7, .ro, .none⟩, ⟨8, 24, .rc, .none⟩, ⟨32, 24, .rc, .none⟩] }

/-- PC_SNAP_TICK (19). -/
def rPcSnapTick : Reg :=
  { name := .pcSnapTick, space := .blk, base := 0x1200028, width := 64, reset := 0x0,
    fields := [⟨0, 48, .ro, .none⟩, ⟨48, 16, .ro, .none⟩] }

/-- PC_ERR_LATCH (19). -/
def rPcErrLatch : Reg :=
  { name := .pcErrLatch, space := .blk, base := 0x1200030, width := 64, reset := 0x0,
    fields := [⟨0, 11, .ro, .none⟩, ⟨63, 1, .w1c, .l⟩] }

/-- PC_FN_PAGE (19). -/
def rPcFnPage : Reg :=
  { name := .pcFnPage, space := .blk, base := 0x1200100, stride1 := 8, count1 := 32, width := 64, reset := 0x0,
    fields := [⟨0, 5, .rw, .t⟩, ⟨5, 5, .rw, .t⟩, ⟨10, 5, .rw, .t⟩, ⟨15, 5, .rw, .t⟩, ⟨20, 5, .rw, .t⟩,
      ⟨25, 5, .rw, .t⟩, ⟨30, 5, .rw, .t⟩, ⟨35, 1, .rw, .t⟩, ⟨36, 1, .rw, .t⟩, ⟨37, 1, .rw, .t⟩,
      ⟨38, 1, .rw, .t⟩, ⟨39, 1, .rw, .t⟩, ⟨40, 1, .rw, .t⟩, ⟨41, 1, .rw, .t⟩] }

/-- PC_NBR_OFS (19). -/
def rPcNbrOfs : Reg :=
  { name := .pcNbrOfs, space := .blk, base := 0x1200400, stride1 := 4, count1 := 256, width := 32, reset := 0x0,
    fields := [⟨0, 32, .ro, .none⟩] }

/-- PC_CTR (19). -/
def rPcCtr : Reg :=
  { name := .pcCtr, space := .blk, base := 0x1210000, stride1 := 8, count1 := 1536, width := 64, reset := 0x0,
    fields := [⟨0, 48, .ro, .none⟩, ⟨63, 1, .w1c, .l⟩] }

/-- PC_SNAP (19). -/
def rPcSnap : Reg :=
  { name := .pcSnap, space := .blk, base := 0x1220000, stride1 := 8, count1 := 1536, width := 64, reset := 0x0,
    fields := [⟨0, 48, .ro, .none⟩, ⟨63, 1, .ro, .none⟩] }

/-- PC_SAMP_REC (19). -/
def rPcSampRec : Reg :=
  { name := .pcSampRec, space := .blk, base := 0x1280000, stride1 := 128, count1 := 4096, stride2 := 8, count2 := 16, width := 64, reset := 0x0,
    fields := [⟨0, 64, .ro, .none⟩] }

/-- PD_CTL (20). -/
def rPdCtl : Reg :=
  { name := .pdCtl, space := .blk, base := 0x1300000, width := 32, reset := 0x0,
    fields := [⟨0, 1, .rw, .t⟩] }

/-- PD_STATUS (20). -/
def rPdStatus : Reg :=
  { name := .pdStatus, space := .blk, base := 0x1300008, width := 64, reset := 0x0,
    fields := [⟨0, 2, .ro, .none⟩, ⟨2, 2, .ro, .none⟩, ⟨4, 2, .ro, .none⟩, ⟨6, 2, .ro, .none⟩,
      ⟨8, 2, .ro, .none⟩, ⟨10, 2, .ro, .none⟩, ⟨12, 2, .ro, .none⟩, ⟨14, 2, .ro, .none⟩, ⟨16, 2, .ro, .none⟩,
      ⟨18, 2, .ro, .none⟩, ⟨20, 2, .ro, .none⟩] }

/-- PD_ERR_LATCH (20). -/
def rPdErrLatch : Reg :=
  { name := .pdErrLatch, space := .blk, base := 0x1300010, width := 64, reset := 0x0,
    fields := [⟨0, 4, .ro, .none⟩, ⟨4, 4, .ro, .none⟩, ⟨63, 1, .w1c, .l⟩] }

/-- PD_VOTE (20). -/
def rPdVote : Reg :=
  { name := .pdVote, space := .blk, base := 0x1300018, width := 32, reset := 0x0,
    fields := [⟨0, 11, .rw, .l⟩] }

/-- PD_DOM_SEL (20). -/
def rPdDomSel : Reg :=
  { name := .pdDomSel, space := .blk, base := 0x1300100, width := 32, reset := 0x0,
    fields := [⟨0, 4, .rw, .l⟩] }

/-- PD_DOM_CFG (20). -/
def rPdDomCfg : Reg :=
  { name := .pdDomCfg, space := .blk, base := 0x1300108, width := 32, reset := 0xa02, sel := some .pdDomSel,
    fields := [⟨0, 2, .rw, .t⟩, ⟨8, 8, .rw, .t⟩] }

/-- PD_DOM_STATE (20). -/
def rPdDomState : Reg :=
  { name := .pdDomState, space := .blk, base := 0x1300110, width := 64, reset := 0x0,
    fields := [⟨0, 2, .ro, .none⟩, ⟨2, 1, .ro, .none⟩, ⟨3, 1, .ro, .none⟩, ⟨8, 8, .ro, .none⟩,
      ⟨16, 32, .ro, .none⟩] }

/-- PD_WAKE_LAST (20). -/
def rPdWakeLast : Reg :=
  { name := .pdWakeLast, space := .blk, base := 0x1300120, width := 32, reset := 0x0,
    fields := [⟨0, 32, .ro, .none⟩] }

/-- SE_CTL (21). -/
def rSeCtl : Reg :=
  { name := .seCtl, space := .blk, base := 0x1400000, width := 32, reset := 0x4000001,
    fields := [⟨0, 1, .rw, .t⟩, ⟨16, 16, .rw, .t⟩] }

/-- SE_STATUS (21). -/
def rSeStatus : Reg :=
  { name := .seStatus, space := .blk, base := 0x1400008, width := 64, reset := 0x0,
    fields := [⟨0, 3, .ro, .none⟩, ⟨3, 1, .ro, .none⟩, ⟨4, 1, .ro, .none⟩, ⟨5, 1, .ro, .none⟩,
      ⟨6, 1, .ro, .none⟩, ⟨7, 1, .ro, .none⟩, ⟨8, 2, .ro, .none⟩, ⟨10, 4, .ro, .none⟩, ⟨16, 32, .ro, .none⟩] }

/-- SE_ALARM (21). -/
def rSeAlarm : Reg :=
  { name := .seAlarm, space := .blk, base := 0x1400010, width := 32, reset := 0x0,
    fields := [⟨0, 1, .wo, .l⟩, ⟨4, 4, .ro, .none⟩] }

/-- SE_ERR_LATCH (21). -/
def rSeErrLatch : Reg :=
  { name := .seErrLatch, space := .blk, base := 0x1400018, width := 64, reset := 0x0,
    fields := [⟨0, 4, .ro, .none⟩, ⟨4, 3, .ro, .none⟩, ⟨63, 1, .w1c, .l⟩] }

/-- SE_SVN (21). -/
def rSeSvn : Reg :=
  { name := .seSvn, space := .blk, base := 0x1400020, width := 64, reset := 0x0,
    fields := [⟨0, 32, .ro, .none⟩, ⟨32, 32, .ro, .none⟩] }

/-- SE_COUNTS (21). -/
def rSeCounts : Reg :=
  { name := .seCounts, space := .blk, base := 0x1400028, width := 64, reset := 0x0,
    fields := [⟨0, 32, .ro, .none⟩, ⟨32, 32, .ro, .none⟩] }

/-- SE_ID_PUB (21). -/
def rSeIdPub : Reg :=
  { name := .seIdPub, space := .blk, base := 0x1400100, stride1 := 8, count1 := 4, width := 64, reset := 0x0,
    fields := [⟨0, 64, .ro, .none⟩] }

/-- SE_SERIAL (21). -/
def rSeSerial : Reg :=
  { name := .seSerial, space := .blk, base := 0x1400200, stride1 := 8, count1 := 2, width := 64, reset := 0x0,
    fields := [⟨0, 64, .ro, .none⟩] }

/-- BT_CTL (22). -/
def rBtCtl : Reg :=
  { name := .btCtl, space := .blk, base := 0x1500000, width := 32, reset := 0x3e80a,
    fields := [⟨0, 8, .rw, .s⟩, ⟨8, 16, .rw, .s⟩] }

/-- BT_STATUS (22). -/
def rBtStatus : Reg :=
  { name := .btStatus, space := .blk, base := 0x1500008, width := 64, reset := 0x0,
    fields := [⟨0, 2, .ro, .none⟩, ⟨2, 4, .ro, .none⟩, ⟨6, 2, .ro, .none⟩, ⟨8, 1, .ro, .none⟩,
      ⟨9, 1, .ro, .none⟩, ⟨10, 1, .ro, .none⟩, ⟨16, 8, .ro, .none⟩, ⟨32, 32, .ro, .none⟩] }

/-- BT_ERR_LATCH (22). -/
def rBtErrLatch : Reg :=
  { name := .btErrLatch, space := .blk, base := 0x1500010, width := 64, reset := 0x0,
    fields := [⟨0, 4, .ro, .none⟩, ⟨4, 2, .ro, .none⟩, ⟨8, 8, .ro, .none⟩, ⟨63, 1, .w1c, .l⟩] }

/-- BT_PART_STATUS (22). -/
def rBtPartStatus : Reg :=
  { name := .btPartStatus, space := .blk, base := 0x1500018, width := 32, reset := 0x0,
    fields := [⟨0, 8, .ro, .none⟩, ⟨8, 8, .ro, .none⟩, ⟨16, 8, .ro, .none⟩] }

/-- BT_CMD (22). -/
def rBtCmd : Reg :=
  { name := .btCmd, space := .blk, base := 0x1500020, width := 32, reset := 0x0,
    fields := [⟨0, 1, .wo, .l⟩, ⟨1, 1, .wo, .l⟩, ⟨2, 1, .wo, .l⟩, ⟨3, 1, .wo, .l⟩, ⟨4, 1, .wo, .l⟩,
      ⟨5, 1, .wo, .l⟩] }

/-- BT_SET_STATUS (22). -/
def rBtSetStatus : Reg :=
  { name := .btSetStatus, space := .blk, base := 0x1500028, width := 64, reset := 0x0,
    fields := [⟨0, 1, .ro, .none⟩, ⟨1, 2, .ro, .none⟩, ⟨3, 1, .ro, .none⟩, ⟨4, 13, .ro, .none⟩,
      ⟨32, 32, .ro, .none⟩] }

/-- BT_START_TICK (22). -/
def rBtStartTick : Reg :=
  { name := .btStartTick, space := .blk, base := 0x1500030, width := 64, reset := 0x0,
    fields := [⟨0, 48, .ro, .none⟩] }

/-- BT_STEP_MS (22). -/
def rBtStepMs : Reg :=
  { name := .btStepMs, space := .blk, base := 0x1500104, stride1 := 4, count1 := 9, width := 32, reset := 0x0,
    fields := [⟨0, 32, .ro, .none⟩] }

/-- ID_PART (23). -/
def rIdPart : Reg :=
  { name := .idPart, space := .blk, base := 0x0, width := 32, reset := 0xb05120,
    fields := [⟨0, 16, .ro, .none⟩, ⟨16, 8, .ro, .none⟩] }

/-- ID_PID (23). -/
def rIdPid : Reg :=
  { name := .idPid, space := .blk, base := 0x8, width := 64, reset := 0x0,
    fields := [⟨0, 48, .ro, .none⟩] }

/-- ID_SERIAL0 (23). -/
def rIdSerial0 : Reg :=
  { name := .idSerial0, space := .blk, base := 0x10, width := 64, reset := 0x0,
    fields := [⟨0, 64, .ro, .none⟩] }

/-- ID_SERIAL1 (23). -/
def rIdSerial1 : Reg :=
  { name := .idSerial1, space := .blk, base := 0x18, width := 64, reset := 0x0,
    fields := [⟨0, 64, .ro, .none⟩] }

/-- MG_CTL (23). -/
def rMgCtl : Reg :=
  { name := .mgCtl, space := .blk, base := 0x1600000, width := 32, reset := 0xa0064,
    fields := [⟨0, 16, .rw, .t⟩, ⟨16, 8, .rw, .t⟩] }

/-- MG_STATUS (23). -/
def rMgStatus : Reg :=
  { name := .mgStatus, space := .blk, base := 0x1600008, width := 64, reset := 0x0,
    fields := [⟨0, 7, .ro, .none⟩, ⟨7, 1, .ro, .none⟩, ⟨8, 1, .ro, .none⟩, ⟨9, 1, .ro, .none⟩,
      ⟨10, 4, .ro, .none⟩, ⟨14, 1, .ro, .none⟩, ⟨15, 4, .ro, .none⟩, ⟨19, 4, .ro, .none⟩] }

/-- MG_ERR_LATCH (23). -/
def rMgErrLatch : Reg :=
  { name := .mgErrLatch, space := .blk, base := 0x1600010, width := 64, reset := 0x0,
    fields := [⟨0, 4, .ro, .none⟩, ⟨4, 2, .ro, .none⟩, ⟨8, 32, .ro, .none⟩, ⟨63, 1, .w1c, .l⟩] }

/-- MG_FRAMES (23). -/
def rMgFrames : Reg :=
  { name := .mgFrames, space := .blk, base := 0x1600018, width := 64, reset := 0x0,
    fields := [⟨0, 32, .ro, .none⟩, ⟨32, 32, .ro, .none⟩] }

/-- FN_CAP_CI (09). -/
def rFnCapCi : Reg :=
  { name := .fnCapCi, space := .fn, base := 0x200, stride1 := 8, count1 := 4, width := 64, reset := 0x1000000,
    fields := [⟨0, 24, .rw, .l⟩, ⟨24, 1, .rw, .l⟩] }

/-- FN_WN_START (14). -/
def rFnWnStart : Reg :=
  { name := .fnWnStart, space := .fn, base := 0x300, width := 64, reset := 0x0,
    fields := [⟨0, 64, .rw, .l⟩] }

/-- FN_WN_LEN (14). -/
def rFnWnLen : Reg :=
  { name := .fnWnLen, space := .fn, base := 0x308, width := 64, reset := 0x0,
    fields := [⟨0, 64, .rw, .l⟩] }

/-- FN_WN_CMD (14). -/
def rFnWnCmd : Reg :=
  { name := .fnWnCmd, space := .fn, base := 0x310, width := 64, reset := 0x0,
    fields := [⟨0, 2, .wo, .l⟩, ⟨2, 1, .wo, .l⟩, ⟨8, 8, .wo, .l⟩, ⟨32, 16, .wo, .l⟩, ⟨32, 16, .ro, .none⟩,
      ⟨48, 1, .ro, .none⟩, ⟨49, 1, .ro, .none⟩] }

/-- The registers of chapter 02. -/
def regsSt : List Reg :=
  [rStCtl, rStStatus, rStTimeNow, rStTickNow, rStRootSeconds, rStOffset, rStSkewEst, rStTickoutCtl,
   rStConservCtl, rStOverrunStatus, rStHoldover, rStParentMask, rStAsym]

/-- The registers of chapter 03. -/
def regsHq : List Reg :=
  [rEpCmdDb, rEpEvtDb, rEpCtl, rEpPageDb, rFnCtrlBase, rFnCtrlEvtBase, rFnCtrlCfg, rFnCaskBase, rFnCtrlDb,
   rFnCtrlEvtDb, rFnStatus, rFnReset, rHqCtl, rHqStatus, rHqPinMax, rHqErrLatch, rHqFnRange, rHqFnState,
   rHqFnReset, rHqMqCfg, rHqMqStatus, rHqEpSel, rHqEpState]

/-- The registers of chapter 04. -/
def regsXl : List Reg :=
  [rFnXlTagBase, rFnXlInvStart, rFnXlInvLen, rFnXlInvCmd, rXlCtl, rXlAgeLimit, rXlPrqTimeout, rXlPinMax,
   rXlStatus, rXlFaultLatch, rXlFaultVa, rXlInvStart, rXlInvLen, rXlInvCmd, rXlFnTags]

/-- The registers of chapter 05. -/
def regsTp : List Reg :=
  [rTpCtl, rTpLmax, rTpWinCtl, rTpStatus, rTpStageStatus, rTpErrLatch, rTpMsgIdNext, rTpWinSel, rTpWinState]

/-- The registers of chapter 06. -/
def regsMx : List Reg :=
  [rMxCtl, rMxRdvLimit, rMxStatus, rMxErrLatch, rMxFnQuota, rMxEpSel, rMxEpState, rMxUbufState]

/-- The registers of chapter 07. -/
def regsRl : List Reg :=
  [rRlCtl, rRlStatus, rRlErrLatch, rRlGrpSel, rRlGrpCfg, rRlGrpTree, rRlGrpCmd, rRlGrpState, rRlChild]

/-- The registers of chapter 08. -/
def regsRt : List Reg :=
  [rRtCtl, rRtAdapt, rRtNode, rRtEpochNext, rRtEpochStatus, rRtTblIndex, rRtTblData, rRtShadowCmd, rRtErrLatch,
   rRtPortUp, rRtPortExcl, rRtScoreSel, rRtScoreRx, rRtScoreTx, rRtScoreNode]

/-- The registers of chapter 09. -/
def regsTn : List Reg :=
  [rTnCtl, rTnStatus, rTnRelayCells, rTnWater, rTnErrLatch, rTnPeak, rTnClass, rTnAcctSel, rTnAcct,
   rTnQueueSel, rTnQueue, rTnPortMir, rTnRuleMatch, rTnRuleMask, rTnRuleCtl, rTnSesCtl, rTnSesBase, rTnSesProd,
   rTnSesLost, rFnCapCi]

/-- The registers of chapter 10. -/
def regsLk : List Reg :=
  [rLkCtl, rLkSharedAdv, rLkStatus, rLkErrLatch, rLkPortSel, rLkPortState, rLkChanState, rLkPortCtl]

/-- The registers of chapter 11. -/
def regsLn : List Reg :=
  [rLnCtl, rLnStatus, rLnErrLatch, rLnRefStatus, rLnLaneSel, rLnLaneState, rLnFecSym, rLnFecCw, rLnFecUncorr,
   rLnEye, rLnPrbsErr, rLnPortRef, rLnTxEq, rLnPrbsCtl]

/-- The registers of chapter 12. -/
def regsSc : List Reg :=
  [rScCtl, rScStatus, rScErrLatch, rScPortSel, rScPortCfg, rScPortWeight, rScGateSwitch, rScGateStatus,
   rScGateBank, rScFlowSel, rScFlowCfg, rScFlowState, rScGateEntry, rScQflow, rScEpFlow]

/-- The registers of chapter 13. -/
def regsCx : List Reg :=
  [rCxCtl, rCxMhCfg, rCxStatus, rCxErrLatch, rCxMhStatus, rCxPortCfg, rCxPortSel, rCxPortState, rCxVcsSel,
   rCxVppbState, rCxLdSel, rCxLdState, rCxPortCtl]

/-- The registers of chapter 14. -/
def regsWn : List Reg :=
  [rWnCtl, rWnStatus, rWnErrLatch, rWnErrDpa, rWnWinSel, rWnWinCfg, rWnWinHome, rWnWinAddr, rWnWinHosts,
   rWnWinLimit, rWnWinCmd, rWnWinState, rFnWnStart, rFnWnLen, rFnWnCmd]

/-- The registers of chapter 15. -/
def regsSp : List Reg :=
  [rSpCtl, rSpStatus, rSpErrLatch, rSpOwn, rSpSlotCfg, rSpSlotLim, rSpSlotCtl, rSpSlotState, rSpSlotMeas,
   rSpSlotPower, rSpSlotEnergy, rSpFgCfg, rSpFgState, rSpFgCtl]

/-- The registers of chapter 16. -/
def regsTw : List Reg :=
  [rTwCfg, rTwCtl, rTwStatus, rTwLease, rTwMirror, rTwCmd, rTwErrLatch]

/-- The registers of chapter 17. -/
def regsLs : List Reg :=
  [rLsCtl, rLsLease, rLsStatus, rLsErrLatch, rLsGrpAcl, rLsGrpNodes, rLsLockSel, rLsLockState, rLsLockCmd]

/-- The registers of chapter 18. -/
def regsFe : List Reg :=
  [rFeCtl, rFeStatus, rFeErr, rFeErrLatch, rFeHostMask, rFeFenceCmd, rFeLatch, rFeLatchTick, rFePend,
   rFeHistPop, rFeHistStatus, rFeFence, rFeSrcCfg]

/-- The registers of chapter 19. -/
def regsPc : List Reg :=
  [rPcSampCtl, rPcSampFilter, rPcSampProd, rPcSampCons, rPcSampStatus, rPcSnapTick, rPcErrLatch, rPcFnPage,
   rPcNbrOfs, rPcCtr, rPcSnap, rPcSampRec]

/-- The registers of chapter 20. -/
def regsPd : List Reg :=
  [rPdCtl, rPdStatus, rPdErrLatch, rPdVote, rPdDomSel, rPdDomCfg, rPdDomState, rPdWakeLast]

/-- The registers of chapter 21. -/
def regsSe : List Reg :=
  [rSeCtl, rSeStatus, rSeAlarm, rSeErrLatch, rSeSvn, rSeCounts, rSeIdPub, rSeSerial]

/-- The registers of chapter 22. -/
def regsBt : List Reg :=
  [rBtCtl, rBtStatus, rBtErrLatch, rBtPartStatus, rBtCmd, rBtSetStatus, rBtStartTick, rBtStepMs]

/-- The identity registers. -/
def regsId : List Reg :=
  [rIdPart, rIdPid, rIdSerial0, rIdSerial1]

/-- The registers of chapter 23. -/
def regsMg : List Reg :=
  [rMgCtl, rMgStatus, rMgErrLatch, rMgFrames]

/-- Every register of the device. -/
def allRegs : List Reg :=
  regsSt ++ regsHq ++ regsXl ++ regsTp ++ regsMx ++ regsRl ++ regsRt ++ regsTn ++ regsLk ++ regsLn ++ regsSc ++ regsCx ++
  regsWn ++ regsSp ++ regsTw ++ regsLs ++ regsFe ++ regsPc ++ regsPd ++ regsSe ++ regsBt ++ regsId ++ regsMg

end Sys2Proof.Machine
end

