-- ==== Sys2Proof/Machine/Sources.lean ====
section
/-! DEFINITION. The 320 event sources (R16): their numbers, default severities (each chapter's event table), the unit
each names (R401) and whether its own block fences that unit (R518). -/

namespace Sys2Proof.Machine

/-- The kinds of unit of R408. -/
inductive UnitKind where
  | none | port | ring | function | endpoint | rlGroup | window | slot | feedGroup | lockGroup | fabricTile | cxlTile
  | device
  deriving DecidableEq, Repr

/-- The code of a unit kind, R408. -/
def UnitKind.code : UnitKind → Nat
  | .none => 0 | .port => 1 | .ring => 2 | .function => 3 | .endpoint => 4 | .rlGroup => 5 | .window => 6 | .slot => 7
  | .feedGroup => 8 | .lockGroup => 9 | .fabricTile => 10 | .cxlTile => 11 | .device => 15

/-- One event source: its number, its default severity (0 INFO, 1 CORR, 2 FENCE, 3 FATAL), the kind of unit it names
and whether it is a block-fence source. -/
structure SourceRow where
  num : Nat
  sev : Nat
  unit : UnitKind
  bfence : Bool
  deriving DecidableEq, Repr

/-- Event ST TICK_OVERRUN. -/
def evStTickOverrun : Nat := 0
/-- Event ST SKEW_LIMIT. -/
def evStSkewLimit : Nat := 1
/-- Event ST SKEW_RESTORED. -/
def evStSkewRestored : Nat := 2
/-- Event ST NEIGHBOUR_SKEW. -/
def evStNeighbourSkew : Nat := 3
/-- Event ST PARENT_CHANGE. -/
def evStParentChange : Nat := 4
/-- Event ST HOLDOVER. -/
def evStHoldover : Nat := 5
/-- Event ST TICKIN_LOST. -/
def evStTickinLost : Nat := 6
/-- Event ST TICKIN_JUMP. -/
def evStTickinJump : Nat := 7
/-- Event ST ROOT_CONFLICT. -/
def evStRootConflict : Nat := 8
/-- Event ST PERIOD_MISMATCH. -/
def evStPeriodMismatch : Nat := 9
/-- Event ST STRATUM_LIMIT. -/
def evStStratumLimit : Nat := 10
/-- Event ST LOCK_ACQUIRED. -/
def evStLockAcquired : Nat := 11
/-- Event ST TIME_STEP. -/
def evStTimeStep : Nat := 12
/-- Event ST SERVO_RAIL. -/
def evStServoRail : Nat := 13
/-- Event ST TIME_MSG_ERROR. -/
def evStTimeMsgError : Nat := 14
/-- Event ST OVERRUN_PERSIST. -/
def evStOverrunPersist : Nat := 15
/-- Event HQ CMD_MALFORMED. -/
def evHqCmdMalformed : Nat := 16
/-- Event HQ CTRL_MALFORMED. -/
def evHqCtrlMalformed : Nat := 17
/-- Event HQ DOORBELL_BAD. -/
def evHqDoorbellBad : Nat := 18
/-- Event HQ DB_IGNORED. -/
def evHqDbIgnored : Nat := 19
/-- Event HQ LAP_REREAD. -/
def evHqLapReread : Nat := 20
/-- Event HQ EVT_WAIT. -/
def evHqEvtWait : Nat := 21
/-- Event HQ RNR_SENT. -/
def evHqRnrSent : Nat := 22
/-- Event HQ INCOMPLETE_POSTED. -/
def evHqIncompletePosted : Nat := 23
/-- Event HQ FN_RESET_DONE. -/
def evHqFnResetDone : Nat := 24
/-- Event HQ CASK_SLOW. -/
def evHqCaskSlow : Nat := 25
/-- Event HQ CASK_BUS. -/
def evHqCaskBus : Nat := 26
/-- Event HQ RING_BUS. -/
def evHqRingBus : Nat := 27
/-- Event HQ EP_IDLE. -/
def evHqEpIdle : Nat := 28
/-- Event HQ PIN_LIMIT. -/
def evHqPinLimit : Nat := 29
/-- Event HQ MQ_ERROR. -/
def evHqMqError : Nat := 30
/-- Event HQ MQ_STALL. -/
def evHqMqStall : Nat := 31
/-- Event XL PAGE_REQUEST. -/
def evXlPageRequest : Nat := 32
/-- Event XL PRQ_TIMEOUT. -/
def evXlPrqTimeout : Nat := 33
/-- Event XL PRQ_FULL. -/
def evXlPrqFull : Nat := 34
/-- Event XL PERMISSION_FAULT. -/
def evXlPermissionFault : Nat := 35
/-- Event XL WALK_BUS. -/
def evXlWalkBus : Nat := 36
/-- Event XL WALK_REGION. -/
def evXlWalkRegion : Nat := 37
/-- Event XL WALK_FORMAT. -/
def evXlWalkFormat : Nat := 38
/-- Event XL KEY_FAULT. -/
def evXlKeyFault : Nat := 39
/-- Event XL RANGE_FAULT. -/
def evXlRangeFault : Nat := 40
/-- Event XL PAGE_BUSY_SENT. -/
def evXlPageBusySent : Nat := 41
/-- Event XL INV_DONE. -/
def evXlInvDone : Nat := 42
/-- Event XL INV_DROPPED. -/
def evXlInvDropped : Nat := 43
/-- Event XL INV_SLOW. -/
def evXlInvSlow : Nat := 44
/-- Event XL PIN_FULL. -/
def evXlPinFull : Nat := 45
/-- Event XL CACHE_PARITY. -/
def evXlCacheParity : Nat := 46
/-- Event XL PRQ_STRAY. -/
def evXlPrqStray : Nat := 47
/-- Event TP UNREACHABLE. -/
def evTpUnreachable : Nat := 48
/-- Event TP RETRANSMIT. -/
def evTpRetransmit : Nat := 49
/-- Event TP STALE_DROP. -/
def evTpStaleDrop : Nat := 50
/-- Event TP DUP_DISCARD. -/
def evTpDupDiscard : Nat := 51
/-- Event TP LATE_RESPONSE. -/
def evTpLateResponse : Nat := 52
/-- Event TP E2E_CRC_ERROR. -/
def evTpE2eCrcError : Nat := 53
/-- Event TP PKT_MALFORMED. -/
def evTpPktMalformed : Nat := 54
/-- Event TP RECORD_BUSY. -/
def evTpRecordBusy : Nat := 55
/-- Event TP STAGING_BUSY. -/
def evTpStagingBusy : Nat := 56
/-- Event TP ORDER_WAIT. -/
def evTpOrderWait : Nat := 57
/-- Event TP NACK_RECEIVED. -/
def evTpNackReceived : Nat := 58
/-- Event TP OPS_FULL. -/
def evTpOpsFull : Nat := 59
/-- Event TP WIN_CACHE_FULL. -/
def evTpWinCacheFull : Nat := 60
/-- Event TP RECORD_PARITY. -/
def evTpRecordParity : Nat := 61
/-- Event TP SIGNAL_FAULT. -/
def evTpSignalFault : Nat := 62
/-- Event TP REMOTE_FAULT. -/
def evTpRemoteFault : Nat := 63
/-- Event MX POST_FULL. -/
def evMxPostFull : Nat := 64
/-- Event MX UNEXP_FULL. -/
def evMxUnexpFull : Nat := 65
/-- Event MX UBUF_FULL. -/
def evMxUbufFull : Nat := 66
/-- Event MX TRUNCATED. -/
def evMxTruncated : Nat := 67
/-- Event MX LONG_SCAN. -/
def evMxLongScan : Nat := 68
/-- Event MX RDV_TABLE_FULL. -/
def evMxRdvTableFull : Nat := 69
/-- Event MX RDV_EXPIRED. -/
def evMxRdvExpired : Nat := 70
/-- Event MX FIN_STRAY. -/
def evMxFinStray : Nat := 71
/-- Event MX PULL_FAILED. -/
def evMxPullFailed : Nat := 72
/-- Event MX RECV_FAULT. -/
def evMxRecvFault : Nat := 73
/-- Event MX CANCEL_MISS. -/
def evMxCancelMiss : Nat := 74
/-- Event MX UNEXP_DISCARDED. -/
def evMxUnexpDiscarded : Nat := 75
/-- Event MX QUOTA_HIT. -/
def evMxQuotaHit : Nat := 76
/-- Event MX MATCH_PARITY. -/
def evMxMatchParity : Nat := 77
/-- Event MX RTS_FORM. -/
def evMxRtsForm : Nat := 78
/-- Event MX UBUF_FAULT. -/
def evMxUbufFault : Nat := 79
/-- Event RL GROUP_ABORT. -/
def evRlGroupAbort : Nat := 80
/-- Event RL CHILD_LOST. -/
def evRlChildLost : Nat := 81
/-- Event RL PARENT_LOST. -/
def evRlParentLost : Nat := 82
/-- Event RL MEMBER_GONE. -/
def evRlMemberGone : Nat := 83
/-- Event RL MISMATCH. -/
def evRlMismatch : Nat := 84
/-- Event RL GEN_STALE. -/
def evRlGenStale : Nat := 85
/-- Event RL RL_RETRANSMIT. -/
def evRlRlRetransmit : Nat := 86
/-- Event RL RESERVE_FULL. -/
def evRlReserveFull : Nat := 87
/-- Event RL STEP_WAIT. -/
def evRlStepWait : Nat := 88
/-- Event RL OVERFLOW. -/
def evRlOverflow : Nat := 89
/-- Event RL RL_MALFORMED. -/
def evRlRlMalformed : Nat := 90
/-- Event RL DUP_DISCARD. -/
def evRlDupDiscard : Nat := 91
/-- Event RL NOT_READY_NACK. -/
def evRlNotReadyNack : Nat := 92
/-- Event RL COLL_FORM. -/
def evRlCollForm : Nat := 93
/-- Event RL ACC_PARITY. -/
def evRlAccParity : Nat := 94
/-- Event RL CONFIG_REFUSED. -/
def evRlConfigRefused : Nat := 95
/-- Event RT EPOCH_SWITCH. -/
def evRtEpochSwitch : Nat := 96
/-- Event RT EPOCH_DROP. -/
def evRtEpochDrop : Nat := 97
/-- Event RT EPOCH_ARMED. -/
def evRtEpochArmed : Nat := 98
/-- Event RT EPOCH_REFUSED. -/
def evRtEpochRefused : Nat := 99
/-- Event RT NO_ROUTE. -/
def evRtNoRoute : Nat := 100
/-- Event RT NO_LIVE_PORT. -/
def evRtNoLivePort : Nat := 101
/-- Event RT HOP_LIMIT. -/
def evRtHopLimit : Nat := 102
/-- Event RT HDR_CRC. -/
def evRtHdrCrc : Nat := 103
/-- Event RT ESC_TIMEOUT. -/
def evRtEscTimeout : Nat := 104
/-- Event RT ESC_REROUTE. -/
def evRtEscReroute : Nat := 105
/-- Event RT SCORE_STALE. -/
def evRtScoreStale : Nat := 106
/-- Event RT NEIGHBOUR_CHANGE. -/
def evRtNeighbourChange : Nat := 107
/-- Event RT TABLE_ECC. -/
def evRtTableEcc : Nat := 108
/-- Event RT TABLE_ECC_UNCORR. -/
def evRtTableEccUncorr : Nat := 109
/-- Event RT PORT_FLUSH. -/
def evRtPortFlush : Nat := 110
/-- Event RT RESP_DISCARD. -/
def evRtRespDiscard : Nat := 111
/-- Event TN SHARED_LOW. -/
def evTnSharedLow : Nat := 112
/-- Event TN THRESH_HIT. -/
def evTnThreshHit : Nat := 113
/-- Event TN QUEUE_HIGH. -/
def evTnQueueHigh : Nat := 114
/-- Event TN ADMIT_WAIT. -/
def evTnAdmitWait : Nat := 115
/-- Event TN RESP_ADMIT_WAIT. -/
def evTnRespAdmitWait : Nat := 116
/-- Event TN STAGING_HIGH. -/
def evTnStagingHigh : Nat := 117
/-- Event TN RELAY_RES_FULL. -/
def evTnRelayResFull : Nat := 118
/-- Event TN CREDIT_OVERRUN. -/
def evTnCreditOverrun : Nat := 119
/-- Event TN CELL_ECC. -/
def evTnCellEcc : Nat := 120
/-- Event TN CELL_ECC_UNCORR. -/
def evTnCellEccUncorr : Nat := 121
/-- Event TN CELL_ACCOUNT. -/
def evTnCellAccount : Nat := 122
/-- Event TN MIRROR_DROP. -/
def evTnMirrorDrop : Nat := 123
/-- Event TN CAPTURE_FULL. -/
def evTnCaptureFull : Nat := 124
/-- Event TN CAPTURE_BUS. -/
def evTnCaptureBus : Nat := 125
/-- Event TN CONFIG_REFUSED. -/
def evTnConfigRefused : Nat := 126
/-- Event TN INPUT_CUT. -/
def evTnInputCut : Nat := 127
/-- Event LK LINK_UP. -/
def evLkLinkUp : Nat := 128
/-- Event LK LINK_BROKEN. -/
def evLkLinkBroken : Nat := 129
/-- Event LK CREDIT_TIMEOUT. -/
def evLkCreditTimeout : Nat := 130
/-- Event LK AUDIT_MISMATCH. -/
def evLkAuditMismatch : Nat := 131
/-- Event LK AUDIT_PERSIST. -/
def evLkAuditPersist : Nat := 132
/-- Event LK PEER_SILENT. -/
def evLkPeerSilent : Nat := 133
/-- Event LK FLIT_BAD. -/
def evLkFlitBad : Nat := 134
/-- Event LK FRAME_CUT. -/
def evLkFrameCut : Nat := 135
/-- Event LK ORPHAN_FLIT. -/
def evLkOrphanFlit : Nat := 136
/-- Event LK BAD_MARKED. -/
def evLkBadMarked : Nat := 137
/-- Event LK LEN_MISMATCH. -/
def evLkLenMismatch : Nat := 138
/-- Event LK CTL_BAD. -/
def evLkCtlBad : Nat := 139
/-- Event LK BYP_UNKNOWN. -/
def evLkBypUnknown : Nat := 140
/-- Event LK BYP_OVERRUN. -/
def evLkBypOverrun : Nat := 141
/-- Event LK HELLO_MISMATCH. -/
def evLkHelloMismatch : Nat := 142
/-- Event LK LINK_FLAP. -/
def evLkLinkFlap : Nat := 143
/-- Event LN LANE_ALIGNED. -/
def evLnLaneAligned : Nat := 144
/-- Event LN ALIGN_LOST. -/
def evLnAlignLost : Nat := 145
/-- Event LN COMMA_MISS. -/
def evLnCommaMiss : Nat := 146
/-- Event LN FEC_CORR_HIGH. -/
def evLnFecCorrHigh : Nat := 147
/-- Event LN FEC_UNCORR. -/
def evLnFecUncorr : Nat := 148
/-- Event LN STUFF_ERR. -/
def evLnStuffErr : Nat := 149
/-- Event LN STUFF_HIGH. -/
def evLnStuffHigh : Nat := 150
/-- Event LN LANE_ID_BAD. -/
def evLnLaneIdBad : Nat := 151
/-- Event LN DESKEW_LIMIT. -/
def evLnDeskewLimit : Nat := 152
/-- Event LN ELASTIC_SLIP. -/
def evLnElasticSlip : Nat := 153
/-- Event LN POLARITY_INV. -/
def evLnPolarityInv : Nat := 154
/-- Event LN REF_LOST. -/
def evLnRefLost : Nat := 155
/-- Event LN REF_PPM. -/
def evLnRefPpm : Nat := 156
/-- Event LN PRBS_LOCK_LOST. -/
def evLnPrbsLockLost : Nat := 157
/-- Event LN TRAIN_TIMEOUT. -/
def evLnTrainTimeout : Nat := 158
/-- Event LN D2D_FAULT. -/
def evLnD2dFault : Nat := 159
/-- Event SC GATE_SWITCH. -/
def evScGateSwitch : Nat := 160
/-- Event SC GATE_REFUSED. -/
def evScGateRefused : Nat := 161
/-- Event SC GATE_SKIP. -/
def evScGateSkip : Nat := 162
/-- Event SC GATE_OVERRUN. -/
def evScGateOverrun : Nat := 163
/-- Event SC GATE_CLOSED_CYCLE. -/
def evScGateClosedCycle : Nat := 164
/-- Event SC GATES_FORCED_OPEN. -/
def evScGatesForcedOpen : Nat := 165
/-- Event SC AGE_BURST. -/
def evScAgeBurst : Nat := 166
/-- Event SC AGE_REPEAT. -/
def evScAgeRepeat : Nat := 167
/-- Event SC PACE_LATE. -/
def evScPaceLate : Nat := 168
/-- Event SC PACE_PARK. -/
def evScPacePark : Nat := 169
/-- Event SC FLOW_PARITY. -/
def evScFlowParity : Nat := 170
/-- Event SC SCHED_PARITY. -/
def evScSchedParity : Nat := 171
/-- Event SC CONFIG_REFUSED. -/
def evScConfigRefused : Nat := 172
/-- Event SC ESC_HELD. -/
def evScEscHeld : Nat := 173
/-- Event SC GUARD_HOLD. -/
def evScGuardHold : Nat := 174
/-- Event SC STRICT_HOG. -/
def evScStrictHog : Nat := 175
/-- Event CX DEV_ADDED. -/
def evCxDevAdded : Nat := 176
/-- Event CX DEVICE_REFUSED. -/
def evCxDeviceRefused : Nat := 177
/-- Event CX SURPRISE_REMOVAL. -/
def evCxSurpriseRemoval : Nat := 178
/-- Event CX POISON_SENT. -/
def evCxPoisonSent : Nat := 179
/-- Event CX MEM_TIMEOUT. -/
def evCxMemTimeout : Nat := 180
/-- Event CX DECODE_MISS. -/
def evCxDecodeMiss : Nat := 181
/-- Event CX BIND_DONE. -/
def evCxBindDone : Nat := 182
/-- Event CX UNBIND_DONE. -/
def evCxUnbindDone : Nat := 183
/-- Event CX UNBIND_TIMEOUT. -/
def evCxUnbindTimeout : Nat := 184
/-- Event CX MH_REFUSED. -/
def evCxMhRefused : Nat := 185
/-- Event CX DC_CHANGE. -/
def evCxDcChange : Nat := 186
/-- Event CX LINK_DEGRADED. -/
def evCxLinkDegraded : Nat := 187
/-- Event CX CXL_LINK_DOWN. -/
def evCxCxlLinkDown : Nat := 188
/-- Event CX HOST_DOWN. -/
def evCxHostDown : Nat := 189
/-- Event CX LINK_RETRY_HIGH. -/
def evCxLinkRetryHigh : Nat := 190
/-- Event CX D2D_FAULT. -/
def evCxD2dFault : Nat := 191
/-- Event WN RO_WRITE. -/
def evWnRoWrite : Nat := 192
/-- Event WN NO_WINDOW. -/
def evWnNoWindow : Nat := 193
/-- Event WN FILL_FAIL. -/
def evWnFillFail : Nat := 194
/-- Event WN READ_TIMEOUT. -/
def evWnReadTimeout : Nat := 195
/-- Event WN WB_FAIL. -/
def evWnWbFail : Nat := 196
/-- Event WN DIRTY_LOST. -/
def evWnDirtyLost : Nat := 197
/-- Event WN LINE_REFETCH. -/
def evWnLineRefetch : Nat := 198
/-- Event WN CACHE_ECC. -/
def evWnCacheEcc : Nat := 199
/-- Event WN FLUSH_DONE. -/
def evWnFlushDone : Nat := 200
/-- Event WN CMD_DROPPED. -/
def evWnCmdDropped : Nat := 201
/-- Event WN CONFIG_REFUSED. -/
def evWnConfigRefused : Nat := 202
/-- Event WN LINE_QUOTA. -/
def evWnLineQuota : Nat := 203
/-- Event WN MSG_WAIT. -/
def evWnMsgWait : Nat := 204
/-- Event WN LATE_FILL. -/
def evWnLateFill : Nat := 205
/-- Event WN DIRTY_HIGH. -/
def evWnDirtyHigh : Nat := 206
/-- Event WN TAG_PARITY. -/
def evWnTagParity : Nat := 207
/-- Event SP SLOT_ON. -/
def evSpSlotOn : Nat := 208
/-- Event SP SLOT_OFF. -/
def evSpSlotOff : Nat := 209
/-- Event SP OVERCURRENT_TRIP. -/
def evSpOvercurrentTrip : Nat := 210
/-- Event SP SHORT_TRIP. -/
def evSpShortTrip : Nat := 211
/-- Event SP RAMP_TIMEOUT. -/
def evSpRampTimeout : Nat := 212
/-- Event SP PG_RETRACTED. -/
def evSpPgRetracted : Nat := 213
/-- Event SP PG_REFUSED. -/
def evSpPgRefused : Nat := 214
/-- Event SP OUTPUT_UV. -/
def evSpOutputUv : Nat := 215
/-- Event SP FEED_LOST. -/
def evSpFeedLost : Nat := 216
/-- Event SP INPUT_WARN. -/
def evSpInputWarn : Nat := 217
/-- Event SP HOLDUP_SHORT. -/
def evSpHoldupShort : Nat := 218
/-- Event SP FEED_IMBALANCE. -/
def evSpFeedImbalance : Nat := 219
/-- Event SP FEED_GROUP_TRIP. -/
def evSpFeedGroupTrip : Nat := 220
/-- Event SP GATE_FAULT. -/
def evSpGateFault : Nat := 221
/-- Event SP TAKEOVER. -/
def evSpTakeover : Nat := 222
/-- Event SP OWN_CONFLICT. -/
def evSpOwnConflict : Nat := 223
/-- Event TW HB_MISS. -/
def evTwHbMiss : Nat := 224
/-- Event TW PROBING. -/
def evTwProbing : Nat := 225
/-- Event TW TAKEOVER. -/
def evTwTakeover : Nat := 226
/-- Event TW SPLIT. -/
def evTwSplit : Nat := 227
/-- Event TW PAIRED. -/
def evTwPaired : Nat := 228
/-- Event TW RESYNC_DONE. -/
def evTwResyncDone : Nat := 229
/-- Event TW LEASE_LOST. -/
def evTwLeaseLost : Nat := 230
/-- Event TW SELF_FENCE. -/
def evTwSelfFence : Nat := 231
/-- Event TW MIRROR_GAP. -/
def evTwMirrorGap : Nat := 232
/-- Event TW MIRROR_CANCEL. -/
def evTwMirrorCancel : Nat := 233
/-- Event TW MIRROR_REFUSED. -/
def evTwMirrorRefused : Nat := 234
/-- Event TW PEER_MISMATCH. -/
def evTwPeerMismatch : Nat := 235
/-- Event TW HB_MALFORMED. -/
def evTwHbMalformed : Nat := 236
/-- Event TW TERM_COMMIT_FAIL. -/
def evTwTermCommitFail : Nat := 237
/-- Event TW HANDOVER. -/
def evTwHandover : Nat := 238
/-- Event TW RELAY_FWD. -/
def evTwRelayFwd : Nat := 239
/-- Event LS LOCK_ABANDONED. -/
def evLsLockAbandoned : Nat := 240
/-- Event LS LEASE_LAPSE. -/
def evLsLeaseLapse : Nat := 241
/-- Event LS HOLDER_LOST. -/
def evLsHolderLost : Nat := 242
/-- Event LS GRANT_UNDELIVERED. -/
def evLsGrantUndelivered : Nat := 243
/-- Event LS ACCESS_DENIED. -/
def evLsAccessDenied : Nat := 244
/-- Event LS NOT_HOLDER. -/
def evLsNotHolder : Nat := 245
/-- Event LS WAITERS_FULL. -/
def evLsWaitersFull : Nat := 246
/-- Event LS QUEUE_LONG. -/
def evLsQueueLong : Nat := 247
/-- Event LS LOCK_MALFORMED. -/
def evLsLockMalformed : Nat := 248
/-- Event LS CANCEL_MISS. -/
def evLsCancelMiss : Nat := 249
/-- Event LS FORCE_RELEASE. -/
def evLsForceRelease : Nat := 250
/-- Event LS MIRROR_WAIT. -/
def evLsMirrorWait : Nat := 251
/-- Event LS TAKEOVER_ABANDON. -/
def evLsTakeoverAbandon : Nat := 252
/-- Event LS FORWARDED. -/
def evLsForwarded : Nat := 253
/-- Event LS CONFIG_REFUSED. -/
def evLsConfigRefused : Nat := 254
/-- Event LS LOCK_PARITY. -/
def evLsLockParity : Nat := 255
/-- Event PD DOM_ENTER. -/
def evPdDomEnter : Nat := 256
/-- Event PD DOM_WAKE. -/
def evPdDomWake : Nat := 257
/-- Event PD WAKE_SLOW. -/
def evPdWakeSlow : Nat := 258
/-- Event PD HOLD_LONG. -/
def evPdHoldLong : Nat := 259
/-- Event PD LATE_VOTE. -/
def evPdLateVote : Nat := 260
/-- Event PD BIAS_FAULT. -/
def evPdBiasFault : Nat := 261
/-- Event PD ASSIST_FAULT. -/
def evPdAssistFault : Nat := 262
/-- Event PD RETAIN_LOST. -/
def evPdRetainLost : Nat := 263
/-- Event PD RAIL_UV. -/
def evPdRailUv : Nat := 264
/-- Event PD WAKE_STORM. -/
def evPdWakeStorm : Nat := 265
/-- Event PD SCRATCH_WAIT. -/
def evPdScratchWait : Nat := 266
/-- Event PD ACCESS_WAKE. -/
def evPdAccessWake : Nat := 267
/-- Event PD FORCE_ON_ACTIVE. -/
def evPdForceOnActive : Nat := 268
/-- Event PD CONFIG_REFUSED. -/
def evPdConfigRefused : Nat := 269
/-- Event PD PD_PARITY. -/
def evPdPdParity : Nat := 270
/-- Event PD DOM_STUCK. -/
def evPdDomStuck : Nat := 271
/-- Event SE VIOLATION_A. -/
def evSeViolationA : Nat := 272
/-- Event SE VIOLATION_B. -/
def evSeViolationB : Nat := 273
/-- Event SE SIG_FAIL_FW. -/
def evSeSigFailFw : Nat := 274
/-- Event SE SIG_FAIL_CFG. -/
def evSeSigFailCfg : Nat := 275
/-- Event SE ROLLBACK. -/
def evSeRollback : Nat := 276
/-- Event SE DEBUG_UNLOCK. -/
def evSeDebugUnlock : Nat := 277
/-- Event SE DEBUG_DENIED. -/
def evSeDebugDenied : Nat := 278
/-- Event SE LC_CHANGE. -/
def evSeLcChange : Nat := 279
/-- Event SE LC_REFUSED. -/
def evSeLcRefused : Nat := 280
/-- Event SE SPARGE_DONE. -/
def evSeSpargeDone : Nat := 281
/-- Event SE SPARGE_FAIL. -/
def evSeSpargeFail : Nat := 282
/-- Event SE KILN_ACCESS. -/
def evSeKilnAccess : Nat := 283
/-- Event SE ATTEST. -/
def evSeAttest : Nat := 284
/-- Event SE OWNER_ROTATE. -/
def evSeOwnerRotate : Nat := 285
/-- Event SE FUSE_REPAIR. -/
def evSeFuseRepair : Nat := 286
/-- Event SE KEY_PARITY. -/
def evSeKeyParity : Nat := 287
/-- Event BT START_DONE. -/
def evBtStartDone : Nat := 288
/-- Event BT PART_REFUSED. -/
def evBtPartRefused : Nat := 289
/-- Event BT GOLDEN_BOOT. -/
def evBtGoldenBoot : Nat := 290
/-- Event BT SAFE_MODE. -/
def evBtSafeMode : Nat := 291
/-- Event BT START_TIMEOUT. -/
def evBtStartTimeout : Nat := 292
/-- Event BT FLASH_ERROR. -/
def evBtFlashError : Nat := 293
/-- Event BT BIST_FAIL. -/
def evBtBistFail : Nat := 294
/-- Event BT CAL_FAIL. -/
def evBtCalFail : Nat := 295
/-- Event BT SETTINGS_APPLIED. -/
def evBtSettingsApplied : Nat := 296
/-- Event BT SETTINGS_STALE. -/
def evBtSettingsStale : Nat := 297
/-- Event BT SETTINGS_BAD. -/
def evBtSettingsBad : Nat := 298
/-- Event BT STORE_DONE. -/
def evBtStoreDone : Nat := 299
/-- Event BT STORE_FAIL. -/
def evBtStoreFail : Nat := 300
/-- Event BT NVM_ERROR. -/
def evBtNvmError : Nat := 301
/-- Event BT WARM_TO_COLD. -/
def evBtWarmToCold : Nat := 302
/-- Event BT START_INTERRUPTED. -/
def evBtStartInterrupted : Nat := 303
/-- Event MG UNMAPPED_ACCESS. -/
def evMgUnmappedAccess : Nat := 304
/-- Event MG FE_FAULT. -/
def evMgFeFault : Nat := 305
/-- Event MG PC_FAULT. -/
def evMgPcFault : Nat := 306
/-- Event MG FRAME_CRC. -/
def evMgFrameCrc : Nat := 307
/-- Event MG FRAME_FORM. -/
def evMgFrameForm : Nat := 308
/-- Event MG OPCODE_UNKNOWN. -/
def evMgOpcodeUnknown : Nat := 309
/-- Event MG NOT_SERVED. -/
def evMgNotServed : Nat := 310
/-- Event MG MC_WEDGED. -/
def evMgMcWedged : Nat := 311
/-- Event MG IBI_NACKED. -/
def evMgIbiNacked : Nat := 312
/-- Event MG ADDR_ASSIGNED. -/
def evMgAddrAssigned : Nat := 313
/-- Event MG LEGACY_I2C. -/
def evMgLegacyI2c : Nat := 314
/-- Event MG BUS_ERROR. -/
def evMgBusError : Nat := 315
/-- Event MG RESET_REQUESTED. -/
def evMgResetRequested : Nat := 316
/-- Event MG ISLAND_SLOT_OFF. -/
def evMgIslandSlotOff : Nat := 317
/-- Event MG DEBUG_CMD. -/
def evMgDebugCmd : Nat := 318
/-- Event MG ISLAND_PARITY. -/
def evMgIslandParity : Nat := 319

/-- The sources of block ST. -/
def sourcesSt : List SourceRow :=
  [⟨0, 0, .none, false⟩, ⟨1, 1, .none, false⟩, ⟨2, 0, .none, false⟩, ⟨3, 0, .port, false⟩,
   ⟨4, 0, .none, false⟩, ⟨5, 1, .none, false⟩, ⟨6, 1, .none, false⟩, ⟨7, 1, .none, false⟩,
   ⟨8, 1, .none, false⟩, ⟨9, 1, .port, false⟩, ⟨10, 1, .none, false⟩, ⟨11, 0, .none, false⟩,
   ⟨12, 1, .none, false⟩, ⟨13, 1, .none, false⟩, ⟨14, 0, .port, false⟩, ⟨15, 1, .none, false⟩]

/-- The sources of block HQ. -/
def sourcesHq : List SourceRow :=
  [⟨16, 2, .ring, true⟩, ⟨17, 2, .function, true⟩, ⟨18, 2, .ring, true⟩, ⟨19, 0, .function, false⟩,
   ⟨20, 0, .ring, false⟩, ⟨21, 0, .ring, false⟩, ⟨22, 0, .endpoint, false⟩, ⟨23, 0, .endpoint, false⟩,
   ⟨24, 0, .none, false⟩, ⟨25, 1, .endpoint, false⟩, ⟨26, 2, .endpoint, true⟩, ⟨27, 2, .ring, true⟩,
   ⟨28, 0, .none, false⟩, ⟨29, 0, .function, false⟩, ⟨30, 1, .none, false⟩, ⟨31, 1, .none, false⟩]

/-- The sources of block XL. -/
def sourcesXl : List SourceRow :=
  [⟨32, 0, .function, false⟩, ⟨33, 1, .function, false⟩, ⟨34, 1, .function, false⟩, ⟨35, 0, .function, false⟩,
   ⟨36, 1, .function, false⟩, ⟨37, 1, .function, false⟩, ⟨38, 1, .function, false⟩, ⟨39, 0, .function, false⟩,
   ⟨40, 0, .function, false⟩, ⟨41, 0, .function, false⟩, ⟨42, 0, .none, false⟩, ⟨43, 1, .function, false⟩,
   ⟨44, 1, .function, false⟩, ⟨45, 0, .none, false⟩, ⟨46, 1, .none, false⟩, ⟨47, 0, .function, false⟩]

/-- The sources of block TP. -/
def sourcesTp : List SourceRow :=
  [⟨48, 0, .endpoint, false⟩, ⟨49, 0, .endpoint, false⟩, ⟨50, 0, .port, false⟩, ⟨51, 0, .port, false⟩,
   ⟨52, 0, .endpoint, false⟩, ⟨53, 1, .port, false⟩, ⟨54, 1, .port, false⟩, ⟨55, 1, .endpoint, false⟩,
   ⟨56, 0, .endpoint, false⟩, ⟨57, 0, .endpoint, false⟩, ⟨58, 0, .endpoint, false⟩, ⟨59, 1, .none, false⟩,
   ⟨60, 1, .none, false⟩, ⟨61, 3, .none, false⟩, ⟨62, 0, .endpoint, false⟩, ⟨63, 0, .endpoint, false⟩]

/-- The sources of block MX. -/
def sourcesMx : List SourceRow :=
  [⟨64, 0, .function, false⟩, ⟨65, 1, .endpoint, false⟩, ⟨66, 0, .endpoint, false⟩, ⟨67, 0, .endpoint, false⟩,
   ⟨68, 0, .endpoint, false⟩, ⟨69, 1, .none, false⟩, ⟨70, 1, .endpoint, false⟩, ⟨71, 0, .none, false⟩,
   ⟨72, 0, .endpoint, false⟩, ⟨73, 0, .endpoint, false⟩, ⟨74, 0, .endpoint, false⟩, ⟨75, 0, .endpoint, false⟩,
   ⟨76, 0, .function, false⟩, ⟨77, 2, .endpoint, true⟩, ⟨78, 1, .none, false⟩, ⟨79, 1, .endpoint, false⟩]

/-- The sources of block RL. -/
def sourcesRl : List SourceRow :=
  [⟨80, 1, .rlGroup, false⟩, ⟨81, 1, .rlGroup, false⟩, ⟨82, 1, .rlGroup, false⟩, ⟨83, 0, .rlGroup, false⟩,
   ⟨84, 1, .rlGroup, false⟩, ⟨85, 0, .rlGroup, false⟩, ⟨86, 0, .rlGroup, false⟩, ⟨87, 1, .rlGroup, false⟩,
   ⟨88, 0, .rlGroup, false⟩, ⟨89, 0, .rlGroup, false⟩, ⟨90, 1, .rlGroup, false⟩, ⟨91, 0, .rlGroup, false⟩,
   ⟨92, 0, .rlGroup, false⟩, ⟨93, 0, .endpoint, false⟩, ⟨94, 2, .rlGroup, true⟩, ⟨95, 0, .none, false⟩]

/-- The sources of block RT. -/
def sourcesRt : List SourceRow :=
  [⟨96, 0, .none, false⟩, ⟨97, 0, .port, false⟩, ⟨98, 0, .none, false⟩, ⟨99, 0, .none, false⟩,
   ⟨100, 1, .port, false⟩, ⟨101, 1, .port, false⟩, ⟨102, 1, .port, false⟩, ⟨103, 1, .port, false⟩,
   ⟨104, 1, .port, false⟩, ⟨105, 0, .port, false⟩, ⟨106, 0, .port, false⟩, ⟨107, 0, .port, false⟩,
   ⟨108, 1, .none, false⟩, ⟨109, 1, .none, false⟩, ⟨110, 0, .port, false⟩, ⟨111, 0, .none, false⟩]

/-- The sources of block TN. -/
def sourcesTn : List SourceRow :=
  [⟨112, 0, .none, false⟩, ⟨113, 0, .port, false⟩, ⟨114, 0, .port, false⟩, ⟨115, 1, .none, false⟩,
   ⟨116, 0, .none, false⟩, ⟨117, 0, .none, false⟩, ⟨118, 0, .none, false⟩, ⟨119, 1, .port, false⟩,
   ⟨120, 1, .none, false⟩, ⟨121, 1, .port, false⟩, ⟨122, 3, .none, false⟩, ⟨123, 0, .none, false⟩,
   ⟨124, 0, .none, false⟩, ⟨125, 1, .none, false⟩, ⟨126, 0, .none, false⟩, ⟨127, 1, .port, false⟩]

/-- The sources of block LK. -/
def sourcesLk : List SourceRow :=
  [⟨128, 0, .port, false⟩, ⟨129, 1, .port, false⟩, ⟨130, 1, .port, false⟩, ⟨131, 0, .port, false⟩,
   ⟨132, 1, .port, false⟩, ⟨133, 1, .port, false⟩, ⟨134, 0, .port, false⟩, ⟨135, 0, .port, false⟩,
   ⟨136, 0, .port, false⟩, ⟨137, 0, .port, false⟩, ⟨138, 1, .port, false⟩, ⟨139, 1, .port, false⟩,
   ⟨140, 0, .port, false⟩, ⟨141, 1, .port, false⟩, ⟨142, 1, .port, false⟩, ⟨143, 1, .port, false⟩]

/-- The sources of block LN. -/
def sourcesLn : List SourceRow :=
  [⟨144, 0, .port, false⟩, ⟨145, 1, .port, false⟩, ⟨146, 0, .port, false⟩, ⟨147, 0, .port, false⟩,
   ⟨148, 1, .port, false⟩, ⟨149, 0, .port, false⟩, ⟨150, 0, .port, false⟩, ⟨151, 1, .port, false⟩,
   ⟨152, 1, .port, false⟩, ⟨153, 1, .port, false⟩, ⟨154, 0, .port, false⟩, ⟨155, 1, .none, false⟩,
   ⟨156, 1, .none, false⟩, ⟨157, 0, .port, false⟩, ⟨158, 1, .port, false⟩, ⟨159, 2, .fabricTile, true⟩]

/-- The sources of block SC. -/
def sourcesSc : List SourceRow :=
  [⟨160, 0, .port, false⟩, ⟨161, 0, .port, false⟩, ⟨162, 1, .port, false⟩, ⟨163, 0, .port, false⟩,
   ⟨164, 1, .port, false⟩, ⟨165, 0, .port, false⟩, ⟨166, 0, .port, false⟩, ⟨167, 1, .port, false⟩,
   ⟨168, 0, .none, false⟩, ⟨169, 0, .none, false⟩, ⟨170, 1, .none, false⟩, ⟨171, 2, .port, true⟩,
   ⟨172, 0, .port, false⟩, ⟨173, 1, .port, false⟩, ⟨174, 0, .port, false⟩, ⟨175, 0, .port, false⟩]

/-- The sources of block CX. -/
def sourcesCx : List SourceRow :=
  [⟨176, 0, .port, false⟩, ⟨177, 1, .port, false⟩, ⟨178, 1, .port, false⟩, ⟨179, 0, .port, false⟩,
   ⟨180, 1, .port, false⟩, ⟨181, 0, .port, false⟩, ⟨182, 0, .none, false⟩, ⟨183, 0, .none, false⟩,
   ⟨184, 1, .port, false⟩, ⟨185, 0, .none, false⟩, ⟨186, 0, .none, false⟩, ⟨187, 0, .port, false⟩,
   ⟨188, 1, .port, false⟩, ⟨189, 1, .port, false⟩, ⟨190, 0, .port, false⟩, ⟨191, 2, .cxlTile, true⟩]

/-- The sources of block WN. -/
def sourcesWn : List SourceRow :=
  [⟨192, 0, .window, false⟩, ⟨193, 0, .function, false⟩, ⟨194, 1, .window, false⟩, ⟨195, 1, .window, false⟩,
   ⟨196, 2, .window, true⟩, ⟨197, 2, .window, true⟩, ⟨198, 0, .window, false⟩, ⟨199, 1, .none, false⟩,
   ⟨200, 0, .function, false⟩, ⟨201, 0, .function, false⟩, ⟨202, 0, .window, false⟩, ⟨203, 0, .window, false⟩,
   ⟨204, 1, .window, false⟩, ⟨205, 0, .window, false⟩, ⟨206, 0, .none, false⟩, ⟨207, 2, .window, true⟩]

/-- The sources of block SP. -/
def sourcesSp : List SourceRow :=
  [⟨208, 0, .slot, false⟩, ⟨209, 0, .slot, false⟩, ⟨210, 2, .slot, true⟩, ⟨211, 2, .slot, true⟩,
   ⟨212, 1, .slot, true⟩, ⟨213, 1, .slot, false⟩, ⟨214, 0, .slot, false⟩, ⟨215, 1, .slot, false⟩,
   ⟨216, 1, .feedGroup, false⟩, ⟨217, 1, .slot, false⟩, ⟨218, 0, .slot, false⟩, ⟨219, 0, .feedGroup, false⟩,
   ⟨220, 2, .feedGroup, true⟩, ⟨221, 1, .slot, true⟩, ⟨222, 0, .none, false⟩, ⟨223, 1, .none, false⟩]

/-- The sources of block TW. -/
def sourcesTw : List SourceRow :=
  [⟨224, 0, .port, false⟩, ⟨225, 1, .none, false⟩, ⟨226, 1, .none, false⟩, ⟨227, 1, .none, false⟩,
   ⟨228, 0, .none, false⟩, ⟨229, 0, .none, false⟩, ⟨230, 1, .none, false⟩, ⟨231, 1, .none, false⟩,
   ⟨232, 0, .port, false⟩, ⟨233, 1, .none, false⟩, ⟨234, 1, .none, false⟩, ⟨235, 1, .port, false⟩,
   ⟨236, 0, .port, false⟩, ⟨237, 1, .none, false⟩, ⟨238, 0, .none, false⟩, ⟨239, 0, .port, false⟩]

/-- The sources of block LS. -/
def sourcesLs : List SourceRow :=
  [⟨240, 1, .lockGroup, false⟩, ⟨241, 0, .lockGroup, false⟩, ⟨242, 0, .lockGroup, false⟩, ⟨243, 1, .lockGroup, false⟩,
   ⟨244, 0, .lockGroup, false⟩, ⟨245, 0, .lockGroup, false⟩, ⟨246, 1, .lockGroup, false⟩, ⟨247, 0, .lockGroup, false⟩,
   ⟨248, 1, .lockGroup, false⟩, ⟨249, 0, .lockGroup, false⟩, ⟨250, 0, .lockGroup, false⟩, ⟨251, 0, .lockGroup, false⟩,
   ⟨252, 1, .lockGroup, false⟩, ⟨253, 0, .lockGroup, false⟩, ⟨254, 0, .none, false⟩, ⟨255, 2, .lockGroup, true⟩]

/-- The sources of block PD. -/
def sourcesPd : List SourceRow :=
  [⟨256, 0, .none, false⟩, ⟨257, 0, .none, false⟩, ⟨258, 1, .none, false⟩, ⟨259, 0, .none, false⟩,
   ⟨260, 0, .none, false⟩, ⟨261, 1, .none, false⟩, ⟨262, 1, .none, false⟩, ⟨263, 3, .none, false⟩,
   ⟨264, 1, .none, false⟩, ⟨265, 0, .none, false⟩, ⟨266, 0, .none, false⟩, ⟨267, 0, .none, false⟩,
   ⟨268, 0, .none, false⟩, ⟨269, 0, .none, false⟩, ⟨270, 1, .none, false⟩, ⟨271, 1, .none, false⟩]

/-- The sources of block SE. -/
def sourcesSe : List SourceRow :=
  [⟨272, 1, .none, false⟩, ⟨273, 0, .none, false⟩, ⟨274, 1, .none, false⟩, ⟨275, 1, .none, false⟩,
   ⟨276, 1, .none, false⟩, ⟨277, 0, .none, false⟩, ⟨278, 1, .none, false⟩, ⟨279, 0, .none, false⟩,
   ⟨280, 0, .none, false⟩, ⟨281, 0, .none, false⟩, ⟨282, 3, .none, false⟩, ⟨283, 1, .none, false⟩,
   ⟨284, 0, .none, false⟩, ⟨285, 0, .none, false⟩, ⟨286, 1, .none, false⟩, ⟨287, 1, .none, false⟩]

/-- The sources of block BT. -/
def sourcesBt : List SourceRow :=
  [⟨288, 0, .none, false⟩, ⟨289, 1, .none, false⟩, ⟨290, 1, .none, false⟩, ⟨291, 1, .none, false⟩,
   ⟨292, 1, .none, false⟩, ⟨293, 1, .none, false⟩, ⟨294, 3, .none, false⟩, ⟨295, 1, .none, false⟩,
   ⟨296, 0, .none, false⟩, ⟨297, 0, .none, false⟩, ⟨298, 1, .none, false⟩, ⟨299, 0, .none, false⟩,
   ⟨300, 1, .none, false⟩, ⟨301, 1, .none, false⟩, ⟨302, 0, .none, false⟩, ⟨303, 0, .none, false⟩]

/-- The sources of block MG. -/
def sourcesMg : List SourceRow :=
  [⟨304, 0, .none, false⟩, ⟨305, 1, .none, false⟩, ⟨306, 1, .none, false⟩, ⟨307, 0, .none, false⟩,
   ⟨308, 0, .none, false⟩, ⟨309, 0, .none, false⟩, ⟨310, 1, .none, false⟩, ⟨311, 1, .none, false⟩,
   ⟨312, 0, .none, false⟩, ⟨313, 0, .none, false⟩, ⟨314, 0, .none, false⟩, ⟨315, 1, .none, false⟩,
   ⟨316, 0, .none, false⟩, ⟨317, 0, .none, false⟩, ⟨318, 0, .none, false⟩, ⟨319, 3, .none, false⟩]

/-- Every source, in source number order. -/
def sourceRows : List SourceRow :=
  sourcesSt ++ sourcesHq ++ sourcesXl ++ sourcesTp ++ sourcesMx ++ sourcesRl ++ sourcesRt ++ sourcesTn ++ sourcesLk ++ sourcesLn ++
  sourcesSc ++ sourcesCx ++ sourcesWn ++ sourcesSp ++ sourcesTw ++ sourcesLs ++ sourcesPd ++ sourcesSe ++ sourcesBt ++ sourcesMg

/-- The row of a source. -/
def sourceRow (n : Nat) : SourceRow := (firstThat sourceRows (fun r => r.num == n)).getD ⟨n, 0, .none, false⟩

/-- Reset value of FE_SRC_CFG[7:0] by severity (R400). -/
def severityReset : Nat → Nat
  | 0 => 0x01 | 1 => 0x13 | 2 => 0x75 | _ => 0x77

/-- Reset value of FE_SRC_CFG[n]: R400 in the low byte, UNIT in [11:8], BFENCE in [12]. -/
def sourceReset (n : Nat) : Nat :=
  severityReset (sourceRow n).sev + 256 * (sourceRow n).unit.code + 4096 * bit (sourceRow n).bfence

end Sys2Proof.Machine
end

