-- ==== Sys2Proof/Machine/UnitsCore.lean ====
section
/-! DEFINITION. The state of network time (ST), fault collection (FE) and counting (PC): what their chapters give the
device beside the words its register file holds. -/

namespace Sys2Proof.Machine

/-- The states of the time unit, R40. -/
inductive LockState where
  | unlocked | locking | locked | holdover
  deriving DecidableEq, Repr

/-- The code of a time state in ST_STATUS.STATE. -/
def LockState.code : LockState → Nat
  | .unlocked => 0 | .locking => 1 | .locked => 2 | .holdover => 3

/-- What the time unit keeps for one fabric port (R34, R35, R509). -/
structure StPort where
  /-- SEQ of the next time message on the port (R34). -/
  seqTx : Nat := 0
  /-- Sequence numbers and transmit stamps, in 1/65,536 ns, of the last messages sent (R35). -/
  txStamps : List (Nat × Nat) := []
  /-- SEQ and receive stamp of the last time message received, returned as RX_SEQ and RX_NS (R34). -/
  rx : Option (Nat × Nat) := none
  /-- Local tick of the last valid time message (R40, R509). -/
  lastTick : Option Nat := none
  /-- STRATUM of that message (R34). -/
  stratum : Nat := 63
  /-- ROOT of that message (R34). -/
  root : Nat := 0
  /-- SKEW_EST of that message (R34). -/
  skewEst : Nat := 0
  /-- The conservative flag of that message (R34, R44). -/
  conserv : Bool := false
  /-- FLAGS[2] of that message: the root is disciplined by TICK_IN (R34). -/
  disc : Bool := false
  /-- The neighbour offset and the delay of the last exchange in 1/16 ns; none before an exchange (R35). -/
  offset : Option Int := none
  delay : Option Int := none
  /-- The offset stands beyond 20 ns, so NEIGHBOUR_SKEW has been raised for this crossing (R51). -/
  beyond : Bool := false
  /-- The port has left the time tree for a period mismatch (R32). -/
  outOfTree : Bool := false
  deriving DecidableEq, Repr

/-- The time unit. -/
structure StUnit where
  /-- Network time, whole nanoseconds (R31); a cold start sets 0. -/
  ns : Nat := 0
  /-- Fraction of network time in 1/65,536 ns (R31). -/
  frac : Nat := 0
  /-- The tick number, 48 bits (R31). -/
  tick : Nat := 0
  /-- The lock state (R40); UNLOCKED after a cold start. -/
  lock : LockState := .unlocked
  /-- Conservative mode (R44). -/
  conserv : Bool := false
  /-- The parent port followed (R34). -/
  parent : Option Nat := none
  /-- The node ID of the root followed (R50). -/
  root : Nat := 0
  /-- This device's stratum (R34, R50, R509). -/
  stratum : Nat := 0
  /-- The root followed is disciplined by TICK_IN, as the parent says (R34). -/
  disc : Bool := false
  /-- Offset to the parent in 1/16 ns (R35). -/
  offset : Int := 0
  /-- The skew estimate E in half nanoseconds; none while undefined (R43). -/
  skew : Option Nat := none
  /-- The smallest and the largest offset to the parent measured in the present tick (R40, R43). -/
  offTick : Option (Int × Int) := none
  /-- The same of the 15 ticks before it, newest first (R43). -/
  offHist : List (Option (Int × Int)) := []
  /-- Consecutive ticks with the offset within 20 ns (R40). -/
  lockRun : Nat := 0
  /-- Consecutive ticks with E at or below 200 ns (R44). -/
  exitRun : Nat := 0
  /-- The rate adjustment in ppm (R36). -/
  rate : Int := 0
  /-- The device slews at -1,000 ppm (R36, R41). -/
  slewing : Bool := false
  /-- LOCKING has used its one forward step (R41). -/
  stepped : Bool := false
  /-- Ticks spent in HOLDOVER (R41). -/
  holdTicks : Nat := 0
  /-- ST_ROOT_SECONDS is armed for the next TICK_IN edge (R38). -/
  armedSeconds : Option Nat := none
  /-- Network time of the last TICK_IN edge, and the second of network time that it stood for (R38). -/
  lastEdge : Nat := 0
  edgeSec : Option Nat := none
  /-- TICKIN_LOST stands since the last edge (R38). -/
  tickinLost : Bool := false
  /-- The device has yielded to another root and follows the tree (R37). -/
  yielded : Bool := false
  /-- Boundaries taken, which forward steps do not add to: the count of local ticks (R41, R42, R104, R380, R516). -/
  boundaries : Nat := 0
  /-- Per activity of the budget table: quota used in the current tick (R48, R49). -/
  quotaUsed : Tbl Nat := []
  /-- Per activity: consecutive ticks with deferred work (R49). -/
  deferRun : Tbl Nat := []
  /-- Per activity: OVERRUN_PERSIST is owed for a run that reached 64 ticks (R49). -/
  persistOwed : Tbl Bool := []
  /-- Per activity: units of work of its oldest unfinished tick that are deferred, and how many whole ticks of work are
  deferred behind them (R49, R510). -/
  owedRest : Tbl (List Nat) := []
  owedTicks : Tbl Nat := []
  /-- Ticks passed by forward steps since the last boundary (R510). -/
  passed : Nat := 0
  /-- What the time unit keeps per fabric port. -/
  ports : Tbl StPort := []
  deriving DecidableEq, Repr

/-- A delivery record, R414. -/
structure DeliveryRecord where
  source : Nat
  sev : Nat
  forced : Bool
  fenced : Bool
  unit : Nat
  inst : Nat
  tick : Nat
  count : Nat
  deriving DecidableEq, Repr

/-- The two sinks of R415. -/
inductive Sink where
  | i3c | host
  deriving DecidableEq, Repr

/-- What one source has sent one sink in the current tick: its first record has left, and later occurrences gather
in `held` (R414). -/
structure SinkTick where
  sink : Sink
  source : Nat
  held : Option DeliveryRecord
  deriving DecidableEq, Repr

/-- An entry of the fence table, R409. -/
structure FenceEntry where
  kind : UnitKind
  inst : Nat
  source : Nat
  byCollector : Bool
  deriving DecidableEq, Repr

/-- The ERR_N driver, R412 and R413. -/
inductive ErrPin where
  | high | pulse | held | gap
  deriving DecidableEq, Repr

/-- An entry of the SX2560 history queue, R407. -/
structure HistEntry where
  source : Nat
  sev : Nat
  inst : Nat
  tick : Nat
  deriving DecidableEq, Repr

/-- The fault collector. Its latches, pending bits and error latch are words of the register file. -/
structure FeUnit where
  /-- The SX2560 history queue, oldest first (R407). -/
  hist : List HistEntry := []
  /-- The fence table: entry number and what it fences (R409). -/
  fence : Tbl (Option FenceEntry) := []
  /-- A unit was fenced without an entry (R409). -/
  tableOvf : Bool := false
  /-- FE_STATUS.FATAL (R411). -/
  fatal : Bool := false
  /-- A warm start is requested 1 ms after a FATAL occurrence (R411). -/
  restartOwed : Bool := false
  /-- The ERR_N driver (R412). -/
  pin : ErrPin := .high
  /-- FE_ERR.HOLD (R412). -/
  hold : Bool := false
  /-- A repeat pulse is owed (R413). -/
  repeatOwed : Bool := false
  /-- FE_ERR.PULSES (R413, R416). -/
  pulses : Nat := 0
  /-- The I3C record queue, oldest first, at most 64 records (R415). -/
  i3c : List DeliveryRecord := []
  /-- FE_STATUS.LOST (R415). -/
  lost : Nat := 0
  /-- Per function: DEV_FAULT records dropped since its last one posted (R415). -/
  hostLost : Tbl Nat := []
  /-- Sources that have sent a record in the current tick (R414). -/
  sinkTick : List SinkTick := []
  /-- Follow-up records that leave at this boundary (R414). -/
  due : List (Sink × DeliveryRecord) := []
  deriving DecidableEq, Repr

/-- A command the sampler follows, with its stamps in network time (R424, R426, R427). -/
structure SampleRef where
  ep : Nat
  index : Nat
  lap : Bool
  desc : Nat
  ringAddr : Nat
  fn : Nat
  /-- The doorbell that showed the entry was accepted. -/
  t0 : Nat
  /-- The entry arrived on die. -/
  fetched : Nat
  /-- The last local translation of the first message ended. -/
  translated : Option Nat := none
  /-- The first packet left, and the last first-send packet. -/
  firstOut : Option Nat := none
  lastOut : Option Nat := none
  isLocal : Bool := false
  msgs : Nat := 0
  retries : Nat := 0
  /-- SEQ of the record. -/
  seq : Nat := 0
  deriving DecidableEq, Repr

/-- The precise sampler (R423 to R427). The counters and snapshots are words of the register file. -/
structure PcUnit where
  /-- Admitted commands counted since the count last restarted (R423). -/
  count : Nat := 0
  /-- A sample is due and waits for room among the 64 followed (R424). -/
  due : Bool := false
  /-- Sampled commands followed (R424). -/
  follow : List SampleRef := []
  /-- Producer position of the sample buffer: index and lap (R425). -/
  prodIndex : Nat := 0
  prodLap : Bool := true
  /-- PC_SAMP_STATUS.LOST (R424, R425). -/
  lost : Nat := 0
  /-- PC_SAMP_STATUS.SKIPPED (R424). -/
  skipped : Nat := 0
  /-- Samples taken since EN last rose (R426). -/
  seq : Nat := 0
  /-- EN as it stood at the last boundary, to see it fall or rise (R423, R424). -/
  enabled : Bool := false
  deriving DecidableEq, Repr

end Sys2Proof.Machine
end

