-- ==== Sys2Proof/Machine/UnitsPair.lean ====
section
/-! DEFINITION. The state of the lock service (LS) and of the twin pair (TW). -/

namespace Sys2Proof.Machine

/-- The master classes of R383. -/
inductive LockClass where
  | host | remote | core
  deriving DecidableEq, Repr

/-- The code of a class in LS_LOCK_STATE.CLASS and in a KIND 3 record (R391, R395). -/
def LockClass.code : LockClass → Nat
  | .host => 0 | .remote => 1 | .core => 2

/-- A requester (R383): its class, its node or host number, its endpoint, and whether it is an endpoint of the twin
(R385, R392). -/
structure Party where
  cls : LockClass
  node : Nat
  ep : Nat
  ofTwin : Bool := false
  deriving DecidableEq, Repr

/-- A waiting request (R383, R389). -/
structure Waiter where
  who : Party
  cookie : Nat
  /-- Class of the request, in which a grant travels (R388). -/
  tc : Nat
  deriving DecidableEq, Repr

/-- The states of a lock, R383. -/
inductive LockUse where
  | free | held | granting
  deriving DecidableEq, Repr

/-- A lock (R383, R389 to R393). -/
structure LockCell where
  use : LockUse := .free
  /-- The holder, or the waiter that is being granted. -/
  holder : Option Party := none
  /-- The tick at which the lease of a remote holder starts (R393). -/
  lease : Nat := 0
  /-- The next grant carries ABANDONED (R392). -/
  abandonNext : Bool := false
  /-- The last grant carried ABANDONED (R395). -/
  abandoned : Bool := false
  /-- Waiting requests, the head first (R389). -/
  waiters : List Waiter := []
  /-- A grant that waits for MIRROR_ACK: the record's SEQ, the tick it began to wait, MIRROR_WAIT raised, the waiter and
  its ABANDONED flag (R389). -/
  grantWait : Option (Nat × Nat × Bool × Waiter × Bool) := none
  deriving DecidableEq, Repr

/-- The lock service. -/
structure LsUnit where
  /-- The 4,096 locks (R383). -/
  locks : Tbl LockCell := []
  /-- Groups fenced for LOCK_PARITY or by the collector, one bit each (R395, R396). -/
  fenced : Nat := 0
  /-- Lock commands that wait because the twin has not acknowledged 4,096 mirror records (R374): ring positions. -/
  blocked : List (Nat × Nat × Bool) := []
  /-- Requests the standby has forwarded: SEQ of the KIND 6 record, and the command's ring position (R385). -/
  forwarded : List (Nat × Nat × Nat × Bool) := []
  /-- LS_REQs of remote endpoints that the standby has forwarded: SEQ of the KIND 6 record, and the packet (R385). -/
  asked : List (Nat × Packet) := []
  deriving DecidableEq, Repr

/-- The states of TW_STATUS.STATE, R376. -/
inductive TwState where
  | alone | forming | paired | probing | split | sole
  deriving DecidableEq, Repr

/-- The code of a pair state (R381). -/
def TwState.code : TwState → Nat
  | .alone => 0 | .forming => 1 | .paired => 2 | .probing => 3 | .split => 4 | .sole => 5

/-- A mirror record (R373). -/
structure Mirror where
  kind : Nat
  len : Nat
  seq : Nat
  tick : Nat
  payload : Nat
  deriving DecidableEq, Repr

/-- A lease record, R368. -/
structure Lease where
  term : Nat := 0
  holder : Nat := 0
  valid : Bool := false
  deriving DecidableEq, Repr

/-- The twin pair. -/
structure TwUnit where
  /-- TW_STATUS.STATE (R376). -/
  state : TwState := .alone
  /-- This device is primary (R367). -/
  primary : Bool := false
  /-- The miss count (R372). -/
  misses : Nat := 0
  /-- The safety island has released the lease (R369). -/
  selfFenced : Bool := false
  /-- Tick of the last change of STATE, and the count of local ticks then (R380, R381). -/
  since : Nat := 0
  entered : Nat := 0
  /-- The lease record as the NVM holds it (R368). -/
  lease : Lease := {}
  /-- SEQ of the last heartbeat issued (R371). -/
  hbSeq : Nat := 0
  /-- A valid heartbeat has arrived in the running tick (R372). -/
  heard : Bool := false
  /-- A heartbeat has been issued since the pair last stood in FORMING (R379). -/
  issued : Bool := false
  /-- Boundaries in a row at which no heartbeat was issued (R369). -/
  silent : Nat := 0
  /-- The twin port is declared broken (R372). -/
  broken : Bool := false
  /-- The twin's state, slots, groups and ownership as its last heartbeat gave them (R371). -/
  peer : Nat := 0
  /-- SEQ of the last mirror record sent (R373). -/
  seqTx : Nat := 0
  /-- The last record the twin has acknowledged (R371). -/
  ackRx : Nat := 0
  /-- Unacknowledged records, oldest first (R374). -/
  unacked : List Mirror := []
  /-- SEQ of the last record accepted (R374). -/
  seqRx : Nat := 0
  /-- Accepted records that wait for their tick, oldest first (R375). -/
  heldRecs : List Mirror := []
  /-- Records applied whose cancel would return the bindings they changed: the record's SEQ and the request that undoes
  it (R375). -/
  applied : List (Nat × Nat) := []
  /-- SEQs of cancelled records whose change is returned at the next boundary (R375). -/
  undo : List Nat := []
  /-- KIND 5 payloads received, whose layout the specification does not give (R373, R379). -/
  resync : List Nat := []
  /-- The SEQ of the last KIND 5 record of a running resync (R379). -/
  resyncSeq : Option Nat := none
  /-- The armed GIVE_BACK or HANDOVER: its tick and the two flags (R379, R381). -/
  armed : Option (Nat × Bool × Bool) := none
  /-- SEQ of the last probe (R377). -/
  probeSeq : Nat := 0
  /-- The count of local ticks as FORMING began, for ALONE_WAIT (R379). -/
  formSince : Nat := 0
  /-- Probes of the running ALONE_WAIT have been answered (R379). -/
  answered : Bool := false
  /-- The twins have compared SP_OWN, and their leases, since the pair last stood in FORMING (R364, R379). -/
  compared : Bool := false
  formed : Bool := false
  /-- The pair was PAIRED as the running start began (R459). -/
  fenceOwed : Bool := false
  deriving DecidableEq, Repr

end Sys2Proof.Machine
end

