-- ==== Sys2Proof/Machine/UnitsSlot.lean ====
section
/-! DEFINITION. The state of the slot-power controller (SP). -/

namespace Sys2Proof.Machine

/-- The states of a slot, R345. -/
inductive SlotUse where
  | off | warnWait | ramp | on | latched | standby
  deriving DecidableEq, Repr

/-- The code of a slot state (R345). -/
def SlotUse.code : SlotUse → Nat
  | .off => 0 | .warnWait => 1 | .ramp => 2 | .on => 3 | .latched => 4 | .standby => 5

/-- The state a code names. -/
def slotUseOf (n : Nat) : SlotUse :=
  match n with
  | 0 => .off | 1 => .warnWait | 2 => .ramp | 3 => .on | 4 => .latched | _ => .standby

/-- A slot channel (R343 to R365). -/
structure SpSlot where
  use : SlotUse := .off
  /-- This device owns the channel: it charges the gates (R361). -/
  owned : Bool := true
  /-- Power-good (R350). -/
  pg : Bool := false
  /-- SLOT_EN_N has been low through its filter (R346). -/
  pinEn : Bool := false
  /-- An input warning holds (R356). -/
  inputWarn : Bool := false
  /-- Local boundary at which the SLOT_WARN_N pulse of a retraction ends, at least 100 µs after its start (R351). -/
  pulseEnd : Nat := 0
  /-- TRIP_REASON (R352, R365). -/
  reason : Nat := 0
  /-- The ORing MOSFETs conduct (R355). -/
  oringA : Bool := true
  oringB : Bool := true
  /-- HOLDUP_SHORT (R357). -/
  holdup : Bool := false
  /-- The owner's state and CMD_EN, from the twin heartbeat (R361, R371). -/
  mirror : SlotUse := .off
  mirrorEn : Bool := false
  /-- Tick of the last state change (R365). -/
  since : Nat := 0
  /-- The gate is sensed 7 V or more above its source (R362). -/
  gateOn : Bool := false
  /-- Energy in 10^-6 µJ below the counter's unit (R360). -/
  energyRest : Nat := 0
  deriving DecidableEq, Repr

/-- A feed group controller (R355 to R359). -/
structure SpGroup where
  owned : Bool := true
  latched : Bool := false
  /-- Feed A, feed B has fallen below 10.8 V (R355). -/
  lostA : Bool := false
  lostB : Bool := false
  /-- Bulk switch A, B has turned off for reverse current (R355). -/
  revA : Bool := false
  revB : Bool := false
  /-- Measured currents in 20 mA (R365). -/
  iA : Nat := 0
  iB : Nat := 0
  /-- Trims in mV (R358). -/
  trimA : Nat := 0
  trimB : Nat := 0
  /-- SHARE_NOW (R365). -/
  share : Nat := 0
  /-- Consecutive ticks with the share more than 10 points off (R358). -/
  offRun : Nat := 0
  /-- LATCHED and SHARE_NOW of the owner, from the twin heartbeat (R361, R371). -/
  mirrorLatched : Bool := false
  mirrorShare : Nat := 0
  deriving DecidableEq, Repr

/-- The slot-power controller. -/
structure SpUnit where
  slots : Tbl SpSlot := []
  groups : Tbl SpGroup := []
  /-- The charge pumps are high-impedance: supply failed, RESET_N low, or the lease lost (R363). -/
  released : Bool := true
  deriving DecidableEq, Repr

end Sys2Proof.Machine
end

