-- ==== Sys2Proof/Machine/UnitsMgmt.lean ====
section
/-! DEFINITION. The state of the power domains (PD), of security (SE), of start and configuration (BT) and of the
management interface (MG); and what the device keeps when its power is off: fuses, on-chip NVM and flash. -/

namespace Sys2Proof.Machine

/-! ### Power domains -/

/-- What a domain does: its states of R430, entry to a floor (1 GATED, 2 RETAIN), and a wake from one (R431, R433). -/
inductive DomUse where
  | on | gated | retain
  | entering (floor : Nat)
  | waking (floor : Nat)
  deriving DecidableEq, Repr

/-- The code of a domain state in PD_STATUS (R438). -/
def DomUse.code : DomUse → Nat
  | .on => 0 | .gated => 1 | .retain => 2 | .entering _ => 3 | .waking _ => 3

/-- A power domain. -/
structure PdDom where
  /-- What it does (R430). -/
  use : DomUse := .on
  /-- IDLE_DELAY runs (R431). -/
  idle : Bool := false
  /-- A vote arrived during entry (R434). -/
  late : Bool := false
  /-- A withdrawn software vote waits on a transfer (R432). -/
  swHeld : Bool := false
  /-- PD_DOM_STATE.WAKES (R438). -/
  wakes : Nat := 0
  /-- Local ticks of the wakes of the last 1,024 µs (R435). -/
  recent : List Nat := []
  /-- PD_PARITY holds the domain ON (R439). -/
  stuckOn : Bool := false
  deriving DecidableEq, Repr

/-- The power domains. -/
structure PdUnit where
  /-- The eleven domains (R429). -/
  doms : Tbl PdDom := []
  /-- Firmware has assigned work to core 2, core 3 (R429): bits 2 and 3. -/
  work : Nat := 0
  deriving DecidableEq, Repr

/-! ### Security -/

/-- Why a sparge runs: a Class A alarm, the repair of a lifecycle word, the SPARGE command with its TAG, or a transition
to a lifecycle state with the owner digest it burns (R444, R447, R453, R487). -/
inductive SpargeFor where
  | alarm
  | repair
  | command (tag : Nat)
  | transition (state : Nat) (owner : Option Nat)
  deriving DecidableEq, Repr

/-- A debug unlock: its scope, the tick it began and its length in ticks (R450). -/
structure Unlock where
  scope : Nat
  since : Nat
  ticks : Nat
  deriving DecidableEq, Repr

/-- The security block. -/
structure SeUnit where
  /-- The 16 key slots (R442). -/
  keys : Tbl Nat := []
  /-- The Kiln's 256 KiB (R436, R453). -/
  kiln : Tbl Nat := []
  /-- An alarm since the last start: ALARM of an attestation report (R454). -/
  alarm : Bool := false
  /-- SE_STATUS.ALARM (R452, R455). -/
  shown : Bool := false
  /-- A Class A alarm stands (R452). -/
  alarmA : Bool := false
  /-- ALARM_N is driven low (R452). -/
  pinLow : Bool := false
  /-- CAUSE (R452). -/
  cause : Nat := 0
  /-- The identity key is in slot 0 (R443). -/
  idReady : Bool := false
  /-- The identity public key (R443). -/
  idPub : Nat := 0
  /-- The nonce that stands, and the tick it was issued (R450). -/
  nonce : Option (Nat × Nat) := none
  /-- The debug unlock that stands (R450). -/
  unlock : Option Unlock := none
  /-- The sparge that runs (R453). -/
  sparge : Option SpargeFor := none
  /-- SE_COUNTS.ATTESTS (R455). -/
  attests : Nat := 0
  /-- The lifecycle state read at step 2 (R444). -/
  life : Nat := 0
  /-- M0 to M3 as taken at start (R454). -/
  m0 : Nat := 0
  m1 : Nat := 0
  m2 : Nat := 0
  m3 : Nat := 0
  deriving DecidableEq, Repr

/-! ### What the power does not erase -/

/-- The one-time fuses (R441, R444). -/
structure Fuses where
  /-- SHA-512 digests of the Wevik root keys, by number; revoke fuses, one bit each. -/
  root : Tbl Nat := []
  rootRevoked : Nat := 0
  /-- SHA-512 digests of the owner keys in written slots; revoke fuses. -/
  owner : Tbl (Option Nat) := []
  ownerRevoked : Nat := 0
  /-- The lifecycle words of PROVISIONED, MISSION, RETURN and SCRAPPED, by state code, 16 bits each. -/
  lc : Tbl Nat := []
  /-- Burnt fuses of FW_SVN and CFG_SVN. -/
  fwSvn : Nat := 0
  cfgSvn : Nat := 0
  /-- The on-die secret. -/
  secret : Nat := 0
  deriving DecidableEq, Repr

/-- A boot record (R475). -/
structure BootRec where
  /-- PREFER: 0 A, 1 B. -/
  prefer : Nat := 0
  failCount : Nat := 0
  /-- The partition of the last start that reached RUNNING. -/
  lastPart : Nat := 3
  /-- Starts. -/
  starts : Nat := 0
  deriving DecidableEq, Repr

/-- A record of a settings page (R472). -/
structure SetRec where
  block : Nat
  offset : Nat
  value : Nat
  mask : Nat
  deriving DecidableEq, Repr

/-- A settings page (R472, R474): erased, invalid, or valid with its GEN, CFG_DIGEST and records. -/
inductive SetPage where
  | erased
  | invalid
  | valid (gen digest : Nat) (recs : List SetRec)
  deriving DecidableEq, Repr

/-- The on-chip NVM, the fuses, what is set at manufacture, and the flash (R441, R443, R461, R472, R475). The lease
stands in `TwUnit.lease`. -/
structure NvUnit where
  fuses : Fuses := {}
  /-- The 112-byte identity certificate (R443). -/
  cert : Nat := 0
  /-- The serial number, 16 bytes, and PID bits [47:4] (R455, R490). -/
  serial : Nat := 0
  pid : Nat := 0
  /-- ALARM_COUNT (R452). -/
  alarms : Nat := 0
  /-- The two copies of the boot record, none where a copy fails its CRC-32C, and whether copy 1 was written last (R475). -/
  boot0 : Option BootRec := none
  boot1 : Option BootRec := none
  bootLast1 : Bool := false
  /-- Settings pages 0 and 1 (R472). -/
  page0 : SetPage := .erased
  page1 : SetPage := .erased
  /-- The flash, by byte; an erased byte is 0xFF (R461). -/
  flash : Tbl Nat := []
  deriving DecidableEq, Repr

/-! ### Start -/

/-- An image whose digest and SVN the last start retained (R469). -/
structure Retained where
  digest : Nat
  svn : Nat
  deriving DecidableEq, Repr

/-- Start and configuration. -/
structure BtUnit where
  /-- BT_STATUS.KIND, PHASE, PART (R476). -/
  kind : Nat := 0
  phase : Nat := 0
  part : Nat := 0
  /-- Partitions left in the chain, the one being tried first (R462). -/
  chain : List Nat := []
  /-- STRAP[3:0] and TWIN_ID as sampled (R480). -/
  straps : Nat := 0
  twinId : Bool := false
  /-- PWROK is high (R457). -/
  pwrok : Bool := false
  /-- RESET_N is low (R457, R497). -/
  resetLow : Bool := false
  /-- A core rail or CORE_REFCLK has failed (R497). -/
  supplyBad : Bool := false
  /-- The thermal hold stands (R501). -/
  hot : Bool := false
  /-- A Tun self-test and a full lane calibration have completed since PWROK rose (R457). -/
  calDone : Bool := false
  /-- The retained state of BT has failed its check (R457). -/
  retainBad : Bool := false
  /-- Lanes that failed calibration, fabric lanes 0 to 255 and CXL lanes from 256 (R463). -/
  badLanes : List Nat := []
  /-- The slots' gates stand as they were until step 8 (R459). -/
  slotsHeld : Bool := false
  /-- Retained digests and SVNs, and the retained copy of the configuration image (R469). -/
  fw : Option Retained := none
  cfg : Option Retained := none
  copy : List Byte := []
  /-- Images of the partition being tried that have been accepted, as retained (R467). -/
  tryFw : Option Retained := none
  tryCfg : Option Retained := none
  /-- The configuration image being tried. -/
  image : List Byte := []
  /-- DIGEST and SVN of the running images (R454, R474). -/
  runFw : Option Retained := none
  runCfg : Option Retained := none
  /-- BT_STATUS.SETTINGS (R476), and the page in use. -/
  settings : Bool := false
  page : Nat := 0
  /-- Values that the running image set, by register key, for STORE (R473). -/
  base : Tbl Nat := []
  /-- The store that runs: the page it writes and what it writes (R473). -/
  store : Option (Nat × SetPage) := none
  /-- BT_SET_STATUS.RESULT (R476). -/
  storeResult : Nat := 0
  /-- The running start's duration in ms, and the last start's (R476). -/
  ms : Nat := 0
  startMs : Nat := 0
  /-- STABLE has passed, or the device runs no image: FAIL_COUNT is settled (R463). -/
  stable : Bool := false
  /-- The window of R470 in which early arrivals are refused runs. -/
  window : Bool := false
  /-- A warm start that RESET_REQ or RSTACT has asked for waits: KIND (R487). -/
  resetReq : Option Nat := none
  deriving DecidableEq, Repr

/-! ### Management -/

/-- A request that has been forwarded and not answered: opcode, TAG, and the TAG of the Malthouse request it carries
(R483, R488). -/
structure EbWait where
  opcode : Nat
  tag : Nat
  mhTag : Nat
  deriving DecidableEq, Repr

/-- A response that waits to be read (R483): its bytes, and the opcode it answers. -/
structure EbResp where
  opcode : Nat
  bytes : List Byte
  deriving DecidableEq, Repr

/-- What a management core does (R486). -/
inductive CoreUse where
  | running | halted
  deriving DecidableEq, Repr

/-- The management interface. -/
structure MgUnit where
  /-- The dynamic address (R478, R491). -/
  addr : Option Nat := none
  /-- The legacy fallback has been used (R480, R491). -/
  legacy : Bool := false
  /-- Target events that ENEC and DISEC set: interrupts and Hot-Join (R478, R484). -/
  ibiOff : Bool := false
  hotJoinOff : Bool := false
  /-- MWL and MRL (R479). -/
  mwl : Nat := 4108
  mrl : Nat := 4108
  /-- MC_ALIVE (R488). -/
  alive : Bool := false
  /-- Requests forwarded and not answered, oldest first (R483). -/
  waits : List EbWait := []
  /-- Responses that wait to be read, oldest first (R483). -/
  ready : List EbResp := []
  /-- How many of them an acknowledged IBI has announced (R484). -/
  told : Nat := 0
  /-- The mandatory byte of the IBI that has been requested and not acknowledged (R484). -/
  ibiAsked : Option Nat := none
  /-- IBI requests NACKed in a row (R492). -/
  nacks : Nat := 0
  /-- The flash command that runs: opcode, TAG, address and bytes (R486). -/
  flash : Option (Nat × Nat × Nat × List Byte) := none
  /-- The management cores (R486). -/
  cores : Tbl CoreUse := []
  /-- The eight sensor readings in 1/16 °C, as the island last took them (R487). -/
  temps : List Int := []
  deriving DecidableEq, Repr

end Sys2Proof.Machine
end

