-- ==== Sys2Proof/Machine/UnitsPlane.lean ====
section
/-! DEFINITION. The state of the data plane: routing and epochs (RT), the Tun (TN), the link layer (LK), the serial
lanes (LN) and the port schedulers (SC); and what leaves the device. -/

namespace Sys2Proof.Machine

/-- A transport packet as it leaves: where to, in which class, its route select, its header and its payload. -/
structure OutPacket where
  node : Nat
  tc : Nat
  rsel : Nat
  ordered : Bool
  hdr : Nat
  payload : Payload
  deriving DecidableEq, Repr

/-- A CXL frame that crosses the switch (R310). A request carries the byte mask and the data of a write as they came (R30). -/
inductive CxlFrame where
  | req (port ld tag opcode addr : Nat) (data : Option (Nat × Nat)) (poison : Bool)
  | rsp (host tag : Nat) (poison : Bool) (data : Option Nat)
  | io (port host id : Nat)
  | unsupported (host id : Nat)
  deriving DecidableEq, Repr

/-- What a stored frame holds: a packet an engine of this device built, the bytes of a packet in transit after its route
header, a CXL frame, data of an arriving packet for a host (R229), or the capture write of a session (R241). -/
inductive FrameBody where
  | built (p : OutPacket)
  | transit (bytes : List Byte)
  | cxl (f : CxlFrame)
  | hostData (fn : Nat) (pieces : List (Nat × Nat)) (data : List Byte)
  | capture (ses fn addr : Nat) (header : List Nat) (hdr : Nat) (body : FrameBody) (len : Nat) (bus : Bool)
  deriving DecidableEq, Repr

/-- What leaves the device, newest first. -/
inductive Out where
  /-- A write of words to host memory (R70). -/
  | hostWrite (fn addr : Nat) (words : List Nat)
  /-- A write of bytes to host memory. -/
  | hostBytes (fn : Nat) (pieces : List (Nat × Nat)) (data : List Byte)
  /-- A read of host memory is issued; its answer is a later command's operand. -/
  | hostRead (fn addr len : Nat)
  /-- The same where the host's virtual switch binds the address to a local memory device, through that vPPB (R99). -/
  | boundRead (fn vppb addr len : Nat)
  | boundBytes (fn vppb addr : Nat) (data : List Byte)
  /-- Data of a packet that came by a fabric port, in a class, goes to a host's memory as a frame for the host's port (R229). -/
  | hostData (port tc fn : Nat) (pieces : List (Nat × Nat)) (data : List Byte)
  /-- A copy within host memory (R154). -/
  | hostCopy (fn : Nat) (src dst : List (Nat × Nat))
  /-- An MSI-X message (R59). -/
  | msix (fn vector : Nat)
  /-- A context is written to the Cask (R84). -/
  | caskSpill (fn addr ep : Nat)
  /-- An engine builds a packet (R205). -/
  | packet (p : OutPacket)
  /-- A flit leaves on a fabric port: a control, bypass, data or idle flit (R250). -/
  | flit (port flit : Nat)
  /-- Line symbols leave on a fabric lane, as levels: a codeword with its stuffed pairs, or a filler block (R269 to R274). -/
  | line (lane : Nat) (levels : List Nat)
  /-- A packet for this node is handed to its own engines (R205). -/
  | toEngines (port tc : Nat) (bytes : List Byte)
  /-- A bypass message is ready to leave (R257). -/
  | bypass (port type : Nat) (body : Nat)
  /-- A received flit is handed to the link layer; `failed` marks one that has a byte in an uncorrectable codeword (R270,
  R278). -/
  | rxFlit (port flit : Nat) (failed : Bool)
  /-- The TICK_OUT pulse (R39). -/
  | tickOut (tick : Nat)
  /-- A CXL frame leaves on a CXL port (R310). -/
  | cxl (f : CxlFrame)
  /-- A capture slot is written: session, host function, address, header words, and the frame with the bytes kept (R242). -/
  | capture (ses fn addr : Nat) (header : List Nat) (hdr : Nat) (body : FrameBody) (len : Nat)
  /-- A hot-plug interrupt of a vPPB (R317). -/
  | hotPlug (host vppb cause : Nat)
  /-- A capacity event to a host (R324). -/
  | mediaEvent (host addr len : Nat)
  /-- A Malthouse response (R316). -/
  | mhResponse (queue word : Nat)
  /-- A command through the FM-owned logical device (R320). -/
  | fmTunnel (port ld op value : Nat)
  /-- A register read is answered. -/
  | regValue (value : Nat)
  /-- A write is refused under R8. -/
  | applyRefused
  /-- An Eboury response is read by the controller, or a CCC is answered (R478, R483). -/
  | i3c (bytes : List Byte)
  /-- The device NACKs the address of a transfer, or does not respond (R478, R483). -/
  | i3cNack
  /-- An in-band interrupt is requested: mandatory byte and payload (R484). -/
  | ibi (byte : Nat) (payload : List Nat)
  /-- A Hot-Join request (R478). -/
  | hotJoin
  /-- A command names a tick less than two ticks ahead (R47). -/
  | tickPast
  deriving DecidableEq, Repr

/-! ### Routing (RT) -/

/-- The scores of one fabric port (R210, R224). -/
structure RtPort where
  /-- The scores in use, one per class. -/
  scores : List Nat := [0, 0, 0, 0, 0, 0, 0, 0]
  /-- Local tick of the last valid score message, or of the port's coming up (R210). -/
  since : Nat := 0
  /-- Scores are taken as 255 (R210). -/
  stale : Bool := false
  /-- Last NODE received (R210). -/
  node : Option Nat := none
  /-- SEQ of the next score message on the port (R209). -/
  seqTx : Nat := 0
  /-- Per class: network time, in ns, since which the adaptive channel has shown no free credit (R212). -/
  dry : Tbl (Option Nat) := []
  deriving DecidableEq, Repr

/-- Routing. -/
structure RtUnit where
  /-- The active copy of the node table: 47-bit entries with their check bits (R202, R517). -/
  active : Tbl Nat := []
  /-- The other copy: the shadow copy, or the former copy while the grace runs (R202, R221). -/
  shadow : Tbl Nat := []
  /-- The active epoch E (R218). -/
  epoch : Nat := 0
  /-- The tick of an armed switch (R220). -/
  armed : Option Nat := none
  /-- The grace runs: the tick of the switch (R221). -/
  grace : Option Nat := none
  /-- The running grace is 16 ticks: conservative mode was seen (R221). -/
  long : Bool := false
  /-- LAST_SWITCH and REFUSE of RT_EPOCH_STATUS (R224). -/
  lastSwitch : Nat := 0
  refuse : Nat := 0
  /-- The running shadow command: 1 CLEAR, 2 COPY (R219). -/
  cmd : Option Nat := none
  /-- This device's own scores at the last boundary (R209). -/
  own : List Nat := [0, 0, 0, 0, 0, 0, 0, 0]
  ports : Tbl RtPort := []
  deriving DecidableEq, Repr

/-! ### The Tun (TN) -/

/-- A frame stored in the Tun (R226, R230, R231, R234). -/
structure Frame where
  /-- The order of admission. -/
  num : Nat
  /-- Input 0 to 307 and output 0 to 303 (R229). -/
  input : Nat
  output : Nat
  /-- Channel 0 to 15 of a fabric output, or the class at a CXL output (R230). -/
  chan : Nat
  tc : Nat
  /-- PKT_LEN, or the bytes of a CXL frame (R226). -/
  bytes : Nat
  /-- The route header (R199); 0 for a CXL frame. -/
  hdr : Nat := 0
  body : FrameBody
  /-- Cells charged to the input's reserved minimum, to the shared remainder and to the escape floor (R232, R234, R254). -/
  rsv : Nat := 0
  shared : Nat := 0
  floor : Nat := 0
  /-- The input has written the whole frame (R228). -/
  whole : Bool := true
  /-- The output has begun to read it (R228, R287). -/
  started : Bool := false
  /-- The output read has ended or is cancelled; mirror reads may still be pending (R231). -/
  gone : Bool := false
  /-- Tick at which the frame came to the head of its queue, and the count of local ticks and the network time in ns then (R214,
  R294, R301). -/
  headAt : Option Nat := none
  headLocal : Nat := 0
  headNs : Nat := 0
  /-- ESC_HELD has been raised for the frame (R301). -/
  heldRaised : Bool := false
  /-- The bank group of its first cell; the others follow modulo 64 (R227). -/
  bank : Nat := 0
  /-- The stored frame whose cells this one reads, for a downward send of a Relay result and for a capture write (R231). -/
  of : Option Nat := none
  /-- Bytes that have left in flits (R251). -/
  sent : Nat := 0
  deriving DecidableEq, Repr

/-- A pending mirror copy (R239 to R243). -/
structure MirrorCopy where
  frame : Nat
  egress : Bool
  rule : Option Nat
  /-- Input or output number (R242). -/
  port : Nat
  /-- Network time at admission (R242). -/
  time : Nat
  deriving DecidableEq, Repr

/-- A capture session (R241 to R244). -/
structure TnSession where
  pending : List MirrorCopy := []
  /-- Producer and consumer positions of the capture ring (R241, R244). -/
  prod : Pos := {}
  cons : Pos := {}
  /-- Copies dropped since the previous slot was written (R242). -/
  lostNext : Nat := 0
  deriving DecidableEq, Repr

/-- A packet that waits at an internal input (R236). -/
structure WaitPacket where
  p : OutPacket
  /-- Tick at which it began to wait. -/
  since : Nat
  /-- ADMIT_WAIT or RESP_ADMIT_WAIT has been raised for the wait. -/
  raised : Bool := false
  deriving DecidableEq, Repr

/-- The Tun. -/
structure TnUnit where
  /-- Stored frames in order of admission. -/
  frames : List Frame := []
  nextNum : Nat := 0
  /-- The bank group at which the cells of the next frame begin (R227). -/
  nextBank : Nat := 0
  /-- The internal input at which the next round of admission begins, 304 + this (R234). -/
  turn : Nat := 0
  /-- Shared cells promised to a CXL input and class by flow-control credit and not yet used, by 8 × input + class (R235). -/
  cxPromise : Tbl Nat := []
  /-- Packets that wait at the internal inputs 304 to 307, oldest first (R236). -/
  waits : Tbl (List WaitPacket) := []
  sessions : Tbl TnSession := []
  /-- Input and class pairs, 8 × input + class, that raised THRESH_HIT in this tick (R234). -/
  threshHit : List Nat := []
  /-- F stood below TN_WATER.LOW, the staging reserve above 12,288 cells, and outputs' queues above QUEUE_WARN, when last looked at (R249). -/
  low : Bool := false
  stage : Bool := false
  high : List Nat := []
  deriving DecidableEq, Repr

/-! ### The link layer (LK) -/

/-- The states of a fabric port, R265. -/
inductive LkState where
  | disabled | down | training | hello | up | broken
  deriving DecidableEq, Repr

/-- The code of a port state (R265). -/
def LkState.code : LkState → Nat
  | .disabled => 0 | .down => 1 | .training => 2 | .hello => 3 | .up => 4 | .broken => 5

/-- What has become of a frame in reception: not yet routed, stored in the Tun, stored for this node's own engines, or dropped
(R205, R235, R259). -/
inductive RxStage where
  | fresh
  | stored (num : Nat)
  | here (num : Nat)
  | dropped
  deriving DecidableEq, Repr

/-- A frame in reception on a channel (R259): its bytes so far, the route header first. Until it is routed it holds the cells it
was charged as it started (R254). -/
structure OpenRx where
  bytes : List Byte
  stage : RxStage := .fresh
  rsv : Nat := 0
  shared : Nat := 0
  floor : Nat := 0
  deriving DecidableEq, Repr

/-- A fabric port of the link layer (R252 to R266). -/
structure LkPort where
  state : LkState := .disabled
  /-- LAST_REASON (R267). -/
  reason : Nat := 0
  /-- Count of local ticks at the entry to UP, and at the declaration broken (R264). -/
  upAt : Nat := 0
  brokenAt : Nat := 0
  /-- The current holddown in ticks; 0 stands for LK_CTL.HOLDDOWN (R264). -/
  holddown : Nat := 0
  /-- Broken for FENCE, so held until release (R264). -/
  held : Bool := false
  /-- SENT and RCVD per channel 0 to 16 (R253). -/
  sent : Tbl Nat := []
  rcvd : Tbl Nat := []
  /-- Limits received: escape and bypass channels by number, the shared pool at 17 (R253). -/
  limRx : Tbl Nat := []
  /-- Limits as they now stand for the peer, and as last sent (R253 to R255). -/
  lim : Tbl Nat := []
  limTx : Tbl Nat := []
  /-- The first limits received after UP: the peer's escape reserves (R254). -/
  peerRsv : Tbl Nat := []
  /-- Control flits have been received since UP. -/
  limSeen : Bool := false
  /-- HOLD bits last received and last sent (R254). -/
  holdRx : Nat := 0
  holdTx : Nat := 0
  /-- Flits sent since the last control flit (R255). -/
  flits : Nat := 0
  /-- Classes starved at the last boundary, and their runs (R263). -/
  starved : Nat := 0
  starveRun : Tbl Nat := []
  /-- A valid bypass message has arrived in this tick, and in the previous one (R258). -/
  heard : Bool := false
  heardBefore : Bool := false
  /-- Consecutive boundaries without a living peer (R263). -/
  silent : Nat := 0
  /-- Frames in reception by channel (R259). -/
  rx : Tbl (Option OpenRx) := []
  /-- A run of orphan flits is under way (R259). -/
  orphan : Bool := false
  /-- Network times, in ns, at which bypass flits arrived whose units are not yet free (R254, R257). -/
  bypBusy : List Nat := []
  /-- Bypass messages that wait for bypass credit, oldest first: TYPE and body (R252, R257). -/
  bypQueue : List (Nat × Nat) := []
  /-- HELLO: SEQ of the next one, a valid peer HELLO has arrived, HELLO_MISMATCH stands (R266). -/
  helloSeq : Nat := 0
  seen : Bool := false
  peerNode : Nat := 0
  peerPort : Nat := 0
  /-- Audits: SEQ of the next one, and AUDIT_RUN (R261, R262). -/
  auditSeq : Nat := 0
  auditRun : Nat := 0
  deriving DecidableEq, Repr

/-- The link layer. -/
structure LkUnit where
  ports : Tbl LkPort := []
  deriving DecidableEq, Repr

/-! ### The serial lanes (LN) -/

/-- The states of a lane, LN_LANE_STATE (R285). -/
inductive LaneState where
  | off | hunt | aligned | prbs
  deriving DecidableEq, Repr

/-- The code of a lane state. -/
def LaneState.code : LaneState → Nat
  | .off => 0 | .hunt => 1 | .aligned => 2 | .prbs => 3

/-- A fabric lane (R269 to R285). -/
structure LnLane where
  state : LaneState := .off
  /-- An inverted comma has been detected (R277). -/
  inv : Bool := false
  /-- LANE and SEQ of the last filler block (R274). -/
  lane : Nat := 0
  seq : Nat := 0
  /-- Position, in line symbols after stuff removal, of the last correct comma (R276). -/
  comma : Option Nat := none
  /-- Consecutive expected commas that did not appear (R276). -/
  missed : Nat := 0
  /-- Arrival of the last filler block in symbols, for skew (R277, R285). -/
  arrived : Nat := 0
  /-- The state of the descrambler (R271). -/
  scram : Nat := 0
  /-- The run of identical symbols that the next one may lengthen (R273): level and length. -/
  runLevel : Nat := 0
  runLen : Nat := 0
  /-- Symbols, after stuff removal, of a codeword that has begun (R270, R273). -/
  syms : List Nat := []
  /-- Codewords since the last filler block (R270, R274). -/
  words : Nat := 0
  /-- Received blocks that wait to be joined with those of the other lanes: bytes, and whether they failed correction (R270,
  R278). -/
  blocks : List (List Byte × Bool) := []
  /-- The transmitter: state of the scrambler, level and length of the run of identical symbols, and the stuffed pairs inserted
  in this tick (R271, R273, R281). -/
  txScram : Nat := 0
  txLevel : Nat := 0
  txRun : Nat := 0
  txPairs : Nat := 0
  /-- Corrected symbols and uncorrectable codewords of this tick (R276, R286). -/
  corrTick : Nat := 0
  uncorrTick : Nat := 0
  /-- Stuffed pairs received in this tick and in the last (R285). -/
  stuffTick : Nat := 0
  stuffLast : Nat := 0
  /-- The PRBS checker is locked (R283). -/
  prbsLock : Bool := false
  deriving DecidableEq, Repr

/-- Per fabric port, what the lane layer keeps (R277, R282). -/
structure LnPort where
  /-- The port has been reported aligned (R277). -/
  aligned : Bool := false
  /-- Local tick at which the port entered TRAINING, and TRAIN_TIMEOUT raised (R282). -/
  since : Nat := 0
  timeout : Bool := false
  /-- SEQ of the last filler block at which the port's elastic buffers acted: true for a deletion, false for a repeat
  (R280). -/
  rate : Option (Nat × Bool) := none
  /-- The transmitter: bytes of the flit stream that fill no block yet, blocks since the last filler block, and SEQ of the next
  one (R270, R274). -/
  txBytes : List Byte := []
  txBlocks : Nat := 0
  txSeq : Nat := 0
  /-- The receiver: the lane index whose block comes next, and bytes of the stream that fill no flit yet, each with whether its
  codeword failed (R270, R278). -/
  rxNext : Nat := 0
  rxBytes : List (Byte × Bool) := []
  deriving DecidableEq, Repr

/-- The serial lanes. -/
structure LnUnit where
  lanes : Tbl LnLane := []
  ports : Tbl LnPort := []
  /-- References present, one bit each (R279, R285). -/
  refOk : Nat := 0
  /-- References beyond 250 ppm when last measured (R279). -/
  refFar : Nat := 0
  deriving DecidableEq, Repr

/-! ### The port schedulers (SC) -/

/-- One output's scheduler (R287 to R301). -/
structure ScOut where
  /-- Deficit per class (R290). -/
  deficit : Tbl Nat := []
  /-- The class whose turn of the round is under way (R290). -/
  turn : Option Nat := none
  /-- The class at which the next round step begins (R290). -/
  at_ : Nat := 0
  /-- Active gate bank (R292). -/
  bank : Nat := 0
  /-- Tick of an armed gate switch, and REFUSE (R293). -/
  armed : Option Nat := none
  refuse : Nat := 0
  /-- Classes passed over and classes that started a frame in this tick (R301). -/
  passed : Nat := 0
  served : Nat := 0
  /-- Consecutive ticks passed over, by class (R301). -/
  age : Tbl Nat := []
  /-- Classes in a guaranteed burst: class, bytes left, and whether it has begun to send (R301). -/
  burst : List (Nat × Nat × Bool) := []
  /-- Consecutive checks at which a class needed a burst (R301). -/
  needRun : Tbl Nat := []
  /-- GUARD_HOLD has been raised in this tick (R294). -/
  guardHeld : Bool := false
  /-- A weighted class was eligible and nothing but the strict tier was served in this tick (R305). -/
  weightedWaits : Bool := false
  weightedServed : Bool := false
  strictServed : Bool := false
  /-- Per class: network time since which it has had a frame queued behind a closed gate (R295). -/
  closedAt : Tbl (Option Nat) := []
  deriving DecidableEq, Repr

/-- A shaped flow (R297 to R299). TE is in 1/65,536 of a slot of 8 ns. -/
structure ScFlow where
  te : Int := 0
  /-- The slot of the pace wheel the flow stands in, and whether it is parked there (R299). -/
  slot : Option Nat := none
  parked : Bool := false
  deriving DecidableEq, Repr

/-- The port schedulers and the pace wheel. -/
structure ScUnit where
  outs : Tbl ScOut := []
  flows : Tbl ScFlow := []
  /-- Gates are forced open (R296). -/
  forced : Bool := false
  deriving DecidableEq, Repr

end Sys2Proof.Machine
end

