-- ==== Sys2Proof/Machine/UnitsRelay.lean ====
section
/-! DEFINITION. The state of Relay: groups, open steps, member commands and Relay messages (R168 to R197). -/

namespace Sys2Proof.Machine

/-- The states of a group, R170. -/
inductive GrpState where
  | off | ready | running | aborted
  deriving DecidableEq, Repr

/-- The code of a group state. -/
def GrpState.code : GrpState → Nat
  | .off => 0 | .ready => 1 | .running => 2 | .aborted => 3

/-- What a step is doing (R182 to R184). -/
inductive StepPhase where
  | gathering
  | due
  | waitDown
  | down
  deriving DecidableEq, Repr

/-- What one child has contributed to a step (R182, R189): the bitmap of packets, the bytes counted and the partial
elements so far, as one number. -/
structure RlPart where
  child : Nat
  bitmap : Nat := 0
  baton : Nat := 0
  data : Nat := 0
  full : Bool := false
  deriving DecidableEq, Repr

/-- A local member's command in a step (R176, R185). -/
structure RlMember where
  child : Nat
  ep : Nat
  index : Nat
  lap : Bool
  deriving DecidableEq, Repr

/-- An open step (R176, R182 to R186). -/
structure RlStep where
  num : Nat
  /-- 0 ALLREDUCE, 1 REDUCE, 2 BARRIER (R188). -/
  kind : Nat
  dtype : Nat
  op : Nat
  count : Nat
  parts : List RlPart := []
  members : List RlMember := []
  phase : StepPhase := .gathering
  /-- Tick of its opening, from which waiting on a child counts (R192). -/
  openedAt : Nat := 0
  /-- Tick it became due, later the tick of its close (R183, R192). -/
  since : Nat := 0
  /-- The result in host elements, as one number, once known (R184). -/
  result : Nat := 0
  /-- OVERFLOW (R179, R185). -/
  overflow : Bool := false
  /-- Remote children whose RL_ACK of the RL_DOWN is missing (R184). -/
  acks : List Nat := []
  /-- Packets and bytes of the RL_DOWN so far (R189). -/
  downBitmap : Nat := 0
  downBaton : Nat := 0
  deriving DecidableEq, Repr

/-- Why a group is to abort at the next boundary (R193 to R195). -/
structure RlCause where
  reason : Nat
  origin : Nat
  /-- FAILED, and whether it names a local endpoint of ORIGIN (R196). -/
  failed : Nat
  localFailed : Bool
  /-- The peer that is lost: a child index, or 256 for the parent (R195). -/
  lost : Option Nat := none
  /-- Tick of the detection. -/
  at_ : Nat
  deriving DecidableEq, Repr

/-- A group. Its configuration stands in the register file. -/
structure RlGroup where
  state : GrpState := .off
  /-- Reason, origin and step of the abort (R195, R197). -/
  reason : Nat := 0
  origin : Nat := 0
  abortStep : Nat := 0
  /-- Code of the last refused action (R171, R197). -/
  refuse : Nat := 0
  /-- The oldest step not finished at this device (R176). -/
  base : Nat := 0
  /-- Later steps that have finished before it. -/
  finished : List Nat := []
  /-- Per child index of a local member: its next step (R176). -/
  next : Tbl Nat := []
  steps : List RlStep := []
  /-- Commands that wait for the step window or for reserve room, with their steps (R176). -/
  waits : List (RlMember × Nat) := []
  /-- An abort is to happen (R195). -/
  cause : Option RlCause := none
  /-- The cause has been detected in the running step, so that another of the same cycle may rank before it (R195). -/
  fresh : Bool := false
  /-- The peers lost since ENABLE, which no RL_ABORT is sent to (R195). -/
  gone : List Nat := []
  /-- Tick of the last probe to a peer: child index, or 256 for the parent (R192). -/
  probed : Tbl (Option Nat) := []
  deriving DecidableEq, Repr

/-- A Relay message in flight or waiting to be first sent (R187 to R191). -/
structure RlMsg where
  /-- The model's number of the message. -/
  num : Nat
  type : Nat
  group : Nat
  gen : Nat
  node : Nat
  /-- The peer: a child index, or 256 for the parent. -/
  peer : Nat
  tc : Nat
  step : Nat := 0
  /-- CHILD_INDEX of the header. -/
  childIndex : Nat := 0
  dtype : Nat := 0
  op : Nat := 0
  kind : Nat := 0
  count : Nat := 0
  /-- Bytes of an element, and the payload as one number (R189). -/
  elem : Nat := 1
  data : Nat := 0
  reason : Nat := 0
  origin : Nat := 0
  failed : Nat := 0
  /-- MSG_ID and first-send tick once first sent (R191). -/
  id : Option Nat := none
  fst : Nat := 0
  /-- Reissues and NOT_READY answers counted against RETRY_MAX; its low bits are ATTEMPT (R191). -/
  attempt : Nat := 0
  lastSend : Nat := 0
  /-- Tick from which the timeout counts (R138, R191). -/
  rtoFrom : Nat := 0
  /-- End of a back-off (R191). -/
  backoff : Option Nat := none
  /-- Tick from which the wait of R516 counts. -/
  since : Nat := 0
  deriving DecidableEq, Repr

/-- Relay. -/
structure RlUnit where
  /-- The group table (R168). -/
  groups : Tbl RlGroup := []
  /-- Relay messages (R191). -/
  msgs : List RlMsg := []
  nextNum : Nat := 0
  /-- Steps that are due, group and step, in the order in which they became due (R183). -/
  due : List (Nat × Nat) := []
  deriving DecidableEq, Repr

end Sys2Proof.Machine
end

