-- ==== Sys2Proof/Syntax.lean ====
section
/-! DEFINITION. The commands: one constructor for each row of the opcode table, in its order. -/

namespace Sys2Proof

open Machine

/-- A command of the device: a write or a read of a register, an arrival, an operation of a protocol, a timer that ends, or an
event at a pin. -/
inductive Instr where
  /-- Network time reaches n × P and tick n begins; the fixed per-tick work of every block runs (R31). -/
  | tickBoundary (x : TickIn)
  /-- One activity's run of ticks with deferred work reaches 64 (R49). -/
  | overrunPersist (activity : Nat)
  /-- A write to a register that has no row of its own is judged as a whole and accepted or refused under the apply
  classes (R8). -/
  | registerWrite (path : RegPath) (bytes value : Nat)
  /-- A time message arrives on a port; the device validates it, computes offset and delay, and steers its time (R35). -/
  | timeMessage (p w rx : Nat)
  /-- The offset to the parent has stayed within ±20 ns for 16 consecutive ticks, and the device enters LOCKED (R40). -/
  | lockAcquired
  /-- No time message has come from the parent for 3 ticks; the device changes parent, enters HOLDOVER or enters UNLOCKED
  (R40). -/
  | parentSilent
  /-- HOLDOVER has lasted ST_HOLDOVER.TICKS ticks, and the device enters UNLOCKED (R41). -/
  | holdoverTimeout
  /-- A TICK_IN edge at the root marks an exact second, loads an armed seconds count and steers the rate (R38). -/
  | tickInEdge (edge : Machine.TickEdge)
  /-- No TICK_IN edge has arrived for 1.5 s, and the root runs at its last learned rate (R38). -/
  | tickinLost
  /-- A write of ST_ROOT_SECONDS arms a seconds count to load at the next TICK_IN edge (R38). -/
  | rootSecondsArm (value : Nat)
  /-- E has stayed at or below 200 ns for the exit delay, and the device leaves conservative mode (R44). -/
  | skewRestored
  /-- A command that has waited L_max ticks for the time unit to lock posts UNREACHABLE with reason NOT_LOCKED (R42). -/
  | notLockedExpiry (ep index : Nat) (lap : Bool)
  /-- A message that the device builds itself has waited L_max ticks for lock and is not sent (R516). -/
  | selfMsgNotLocked (relay : Bool) (num : Nat)
  /-- A write of EP_CMD_DB is checked and records a new producer position, from which entries are reserved and fetched
  (R58). -/
  | commandDoorbell (h ep value : Nat)
  /-- A write of EP_EVT_DB advances the host consumer position of the event ring and frees slots (R58). -/
  | eventDoorbell (h ep value : Nat)
  /-- ARM in an event doorbell arms the endpoint's MSI-X interrupt for the next event that asks for one (R59). -/
  | interruptArm (h ep value : Nat)
  /-- A write of EP_CTL.ENABLE 1 lets the endpoint fetch commands and accept arrivals (R82). -/
  | endpointEnable (h ep value : Nat)
  /-- A write of EP_CTL.ENABLE 0 stops fetching, discards unaccepted entries and refuses new arrivals (R82). -/
  | endpointDisable (h ep value : Nat)
  /-- A write of EP_CTL.RESUME restarts a stopped command ring (R76). -/
  | ringResume (h ep value : Nat)
  /-- After 256 ns the device reads a command entry with a stale lap bit again; after LAP_RETRY reads it is LAP_STALE
  (R56). -/
  | lapReread (ring : Nat)
  /-- A NOP entry is accepted and posts CMD_DONE OK (R512). -/
  | nop (ep entry : Nat) (frags : List Nat) (err : Bool)
  /-- A PUT entry is accepted and split into messages (R118). -/
  | put (ep entry : Nat) (frags : List Nat) (err : Bool)
  /-- A GET entry is accepted and split into messages (R118). -/
  | get (ep entry : Nat) (frags : List Nat) (err : Bool)
  /-- A SEND entry is accepted as one eager message or an RTS (R118). -/
  | send (ep entry : Nat) (frags : List Nat) (err : Bool)
  /-- An ATOMIC entry is accepted as one message (R118). -/
  | atomic (ep entry : Nat) (frags : List Nat) (err : Bool)
  /-- A PUT_SIGNAL entry is accepted; its last message carries the signal (R120). -/
  | putSignal (ep entry : Nat) (frags : List Nat) (err : Bool)
  /-- A write of FN_CTRL_DB shows control entries to fetch, or fences the function when it breaks R58 (R80). -/
  | controlDoorbell (h value : Nat)
  /-- A write of FN_CTRL_EVT_DB advances the control event ring consumer and may arm its interrupt (R77). -/
  | controlEventDoorbell (h value : Nat)
  /-- A CREATE_EP control entry creates an endpoint (R79). -/
  | createEp (h entry : Nat) (err : Bool)
  /-- A DESTROY_EP control entry destroys an idle endpoint (R79). -/
  | destroyEp (h entry : Nat) (err : Bool)
  /-- A MODIFY_EP control entry changes endpoint fields whole or not at all (R79). -/
  | modifyEp (h entry : Nat) (err : Bool)
  /-- A QUERY_EP control entry writes a 64-byte copy of the context's public state (R514). -/
  | queryEp (h entry : Nat) (err copyErr : Bool)
  /-- FN_RESET.GO, HQ_FN_RESET.GO or a function-level reset destroys every endpoint of the function and ends its fence
  (R81). -/
  | functionReset (from_ : ResetFrom) (h : Nat)
  /-- A context fetch from the Cask completes; an LRU context is evicted and staged packets continue (R84). -/
  | caskFetchDone (ep : Nat) (err : Bool)
  /-- A context fetch exceeds 8 µs (R84). -/
  | caskSlow (ep : Nat)
  /-- The maintenance queue set issues entries by weighted round robin (R86). -/
  | maintenanceEntry (entries : List (Nat × Bool))
  /-- A maintenance queue has waited 64 ticks without service (R86). -/
  | mqStall (queue : Nat)
  /-- An arriving message reaches the age limit unfinished; its record completes INCOMPLETE and its reservation posts
  (R74). -/
  | incompletePosted (node id fst : Nat)
  /-- A read of a descriptor, table entry or key entry returns, and the walk continues, fills the cache or faults
  (R100). -/
  | tableWalkRead (walk : Nat) (err : Bool) (data mem : Nat)
  /-- The ageing sweep removes an unpinned entry whose age has reached XL_AGE_LIMIT (R104). -/
  | translationAgeOut (place : Nat)
  /-- An invalidate command of scope range removes the leaves, walk entries and key entries of a tag that overlap the
  range (R106). -/
  | invalidateRange (h value : Nat)
  /-- An invalidate command of scope tag removes every entry of one tag (R106). -/
  | invalidateTag (h value : Nat)
  /-- An invalidate command of scope function removes every entry of every tag of the function (R106). -/
  | invalidateFunction (h value : Nat)
  /-- XL_INV_CMD with scope 3 removes every entry of the whole device (R106). -/
  | invalidateDevice (value : Nat)
  /-- An invalidate completes; DONE_SEQ takes SEQ and BUSY clears (R107). -/
  | invDone (unit_ : Nat)
  /-- An invalidate is still BUSY after 64 ticks (R107). -/
  | invSlow (unit_ : Nat)
  /-- An EP_PAGE_DB write with FAIL 0 resumes a page request (R111). -/
  | pageResume (h ep value : Nat)
  /-- An EP_PAGE_DB write with FAIL 1 fails a page request (R111). -/
  | pageFail (h ep value : Nat)
  /-- A page-request record reaches XL_PRQ_TIMEOUT unanswered (R111). -/
  | prqTimeout (id : Nat)
  /-- A FAILED target record has been kept for L_max + 2 ticks and is freed (R112). -/
  | pageFailedExpiry (id : Nat)
  /-- A message takes window credit, a MSG_ID and its first-send tick, and sends its packets (R128). -/
  | messageFirstSend (node : Nat)
  /-- A transport request packet arrives at the target and runs the arrival steps (R131). -/
  | requestArrival (p : Packet)
  /-- An ACK arrives at the initiator, ends its message and may post the command's CMD_DONE (R136). -/
  | ackArrival (p : Packet)
  /-- A GET_RESP packet arrives, is written and counted in the GET's Baton counter (R136). -/
  | getRespArrival (p : Packet)
  /-- A NACK stops the message's sending and schedules a resend after its hint (R138). -/
  | nackArrival (p : Packet)
  /-- RTO passes with no reply, and the message is reissued or fails UNREACHABLE (R138). -/
  | retransmitTimeout (id : Nat)
  /-- The NACK hint passes, and the whole message is sent again (R138). -/
  | backoffExpiry (id : Nat)
  /-- A message's age reaches L_max + 2 ticks without an outcome and it fails UNREACHABLE (R138). -/
  | messageLifetimeExpiry (id : Nat)
  /-- A COMPLETED record has been kept L_max + 8 ticks and is freed (R139). -/
  | recordExpiry (node id fst : Nat)
  /-- A POST_RECV command binds to an unexpected header or inserts a receive (R147). -/
  | postRecv (ep entry : Nat) (frags : List Nat) (err : Bool)
  /-- A CANCEL_RECV command removes one unbound posted receive (R148). -/
  | cancelRecv (ep entry : Nat) (frags : List Nat) (err : Bool)
  /-- A SET_UBUF command sets or removes the endpoint's unexpected area (R148). -/
  | setUbuf (ep entry : Nat) (frags : List Nat) (err : Bool)
  /-- A CANCEL_ALL command removes every unbound posted receive of a context or all contexts (R148). -/
  | cancelAll (ep entry : Nat) (frags : List Nat) (err : Bool)
  /-- The copy of an unexpected eager message into its receive buffer ends, the area is freed and RECV posts (R154). -/
  | unexpCopyDone (num : Nat)
  /-- A FIN arrives at the sender and ends its rendezvous SEND (R159). -/
  | fin (p : Packet)
  /-- A rendezvous SEND stays open MX_RDV_LIMIT ticks and posts RDV_EXPIRED (R160). -/
  | rdvExpired (ep index : Nat) (lap : Bool)
  /-- RL_GRP_CMD ENABLE puts an OFF group into READY after its checks (R171). -/
  | groupEnable (value : Nat)
  /-- RL_GRP_CMD DISABLE turns a group OFF and frees its steps (R170). -/
  | groupDisable (value : Nat)
  /-- RL_GRP_CMD ABORT aborts a group with reason MGMT (R170). -/
  | groupAbortCmd (value : Nat)
  /-- An ALLREDUCE command contributes to a group step (R172). -/
  | allreduce (ep entry : Nat) (frags : List Nat) (data : List Byte) (err : Bool)
  /-- A REDUCE command contributes to a group step (R172). -/
  | reduce (ep entry : Nat) (frags : List Nat) (data : List Byte) (err : Bool)
  /-- A BARRIER command contributes to a group step (R172). -/
  | barrier (ep entry : Nat) (frags : List Nat) (data : List Byte) (err : Bool)
  /-- A COLL_ABORT command aborts the group with reason HOST (R172). -/
  | collAbort (ep entry : Nat) (frags : List Nat) (data : List Byte) (err : Bool)
  /-- At a boundary a due step closes: a non-root sends RL_UP, the root finishes and starts downward delivery (R183). -/
  | stepClose
  /-- An upward partial arrives and is combined, refused or acknowledged (R190). -/
  | rlUp (p : Packet)
  /-- A downward result arrives and is forwarded to children and written to members (R184). -/
  | rlDown (p : Packet)
  /-- An RL_ACK arrives and may finish a step (R184). -/
  | rlAck (p : Packet)
  /-- An RL_NACK arrives and the sender backs off (R191). -/
  | rlNack (p : Packet)
  /-- A Relay message's timeout passes; it is reissued or the peer is lost (R191). -/
  | rlRetransmit (num : Nat)
  /-- PROBE ticks pass while waiting on a peer, and an RL_PROBE is sent (R192). -/
  | probeInterval (group peer : Nat)
  /-- An RL_PROBE arrives and is answered with RL_PROBE_ACK (R190). -/
  | rlProbe (p : Packet)
  /-- An RL_PROBE_ACK arrives; an aborted or OFF peer makes the device abort (R192). -/
  | rlProbeAck (p : Packet)
  /-- An RL_ABORT arrives and is acknowledged (R195). -/
  | rlAbort (p : Packet)
  /-- At the first boundary after a detected failure the group aborts and spreads RL_ABORT (R195). -/
  | abortAtBoundary (group : Nat)
  /-- RT_EPOCH_NEXT with ARM 1 arms an epoch switch at tick n (R220). -/
  | epochArm (value : Nat)
  /-- RT_EPOCH_NEXT with CANCEL 1 disarms an armed switch (R220). -/
  | epochCancel (value : Nat)
  /-- At tick n the shadow copy becomes active and the grace starts (R221). -/
  | epochSwitch
  /-- The grace ends and the former copy becomes the shadow (R221). -/
  | epochGraceEnd
  /-- RT_SHADOW_CMD CLEAR invalidates every shadow entry (R219). -/
  | shadowClear (value : Nat)
  /-- RT_SHADOW_CMD COPY copies the active table into the shadow (R219). -/
  | shadowCopy (value : Nat)
  /-- A shadow command completes and BUSY clears (R219). -/
  | shadowCmdDone
  /-- A write of RT_TBL_DATA writes a shadow entry with ECC, checked under R203 (R203). -/
  | tableWrite (value : Nat)
  /-- A read of RT_TBL_DATA returns an entry and auto-increments the index (R224). -/
  | tableRead
  /-- A congestion-score message arrives and updates the port's scores (R210). -/
  | scoreMessage (p w : Nat)
  /-- A port has delivered no valid score for 4 ticks; its scores become 255 (R210). -/
  | scoreStale (p : Nat)
  /-- A packet at the head of an escape channel waits ESC_TIMEOUT ticks and is dropped (R214). -/
  | escTimeout (p tc : Nat)
  /-- A response not admitted within RESP_WAIT ticks is discarded (R215). -/
  | respDiscard
  /-- An internal-input frame waits more than 1 tick for admission (R236). -/
  | admitWait (input : Nat)
  /-- A data flit arrives on a fabric port and is stored, forwarded or dropped (R259). -/
  | flitReceive (p t w : Nat) (failed ok : Bool)
  /-- At a frame start an output's scheduler picks the next eligible frame and reads it from the Tun (R289). -/
  | schedulerDecision (output t : Nat) (cxl : Bool)
  /-- A pending mirror copy takes its turn and is written into the session's capture ring (R241). -/
  | captureCopy (session : Nat) (bus : Bool)
  /-- A write of FN_CAP_CI frees capture slots (R244). -/
  | captureConsumerWrite (h session value : Nat)
  /-- A write of TN_SES_CTL.EN 0 discards the session's pending copies (R243). -/
  | sessionDisable (session value : Nat)
  /-- A read of TN_PEAK returns and clears the peak cell count (R248). -/
  | tnPeakRead
  /-- A read of TN_SES_LOST returns and clears the lost-copy count (R248). -/
  | sesLostRead (session : Nat)
  /-- A control flit arrives and updates the sender's credit limits and HOLD bits (R256). -/
  | controlFlit (p w : Nat)
  /-- A bypass flit arrives and its messages are taken in order (R257). -/
  | bypassFlit (p rx w : Nat) (failed ok : Bool)
  /-- A credit audit arrives and absorbs any SENT and RCVD difference (R262). -/
  | creditAudit (p w : Nat)
  /-- AUDIT_RUN reaches 4 and the port is declared broken (R263). -/
  | auditPersist (p : Nat)
  /-- The peer is not alive at 4 consecutive boundaries and the port is declared broken (R263). -/
  | peerSilent (p : Nat)
  /-- A class is starved for CREDIT_TO boundaries and the port is declared broken (R263). -/
  | creditTimeout (p : Nat)
  /-- A write of LK_PORT_CTL.RETRAIN breaks the port with reason MGMT (R264). -/
  | portRetrain (p value : Nat)
  /-- A write of LK_PORT_CTL.ENABLE lets the port train or takes it to DISABLED (R265). -/
  | portEnable (p value : Nat)
  /-- A write of LK_PORT_CTL.HOLD keeps the port in DISABLED or releases it (R265). -/
  | portHold (p value : Nat)
  /-- The holddown ends and the port retrains (R264). -/
  | holddownEnd (p : Nat)
  /-- A HELLO arrives; the checks pass and the port enters UP, or it stays in HELLO (R266). -/
  | hello (p w : Nat)
  /-- A filler block with its comma arrives on a lane and drives alignment and rate matching (R276). -/
  | fillerBlock (l pos arrived fill : Nat) (levels : List Nat)
  /-- A codeword is destuffed, corrected and descrambled (R272). -/
  | codewordReceive (l : Nat) (levels : List Nat)
  /-- A lane reference stops for 1 µs and its ports lose alignment (R279). -/
  | refLost (r : Nat)
  /-- A port stays in TRAINING for TRAIN_TO (R282). -/
  | trainTimeout (p : Nat)
  /-- A PRBS checker loses lock and resumes its search (R283). -/
  | prbsLockLost (l : Nat)
  /-- A read of LN_FEC_SYM returns and clears the corrected-symbol count (R285). -/
  | fecSymRead
  /-- A read of LN_FEC_CW returns and clears the corrected-codeword count (R285). -/
  | fecCwRead
  /-- A read of LN_FEC_UNCORR returns and clears the uncorrectable count (R285). -/
  | fecUncorrRead
  /-- A read of LN_PRBS_ERR returns and clears the PRBS error count (R283). -/
  | prbsErrRead
  /-- A fabric tile's die-to-die link fails and every port of the tile is fenced (R286). -/
  | fabricD2dFault (tile : Nat)
  /-- A CXL tile's die-to-die link fails and every CXL port of the tile is fenced (R326). -/
  | cxlD2dFault (tile : Nat)
  /-- SC_GATE_SWITCH with ARM 1 arms a gate-bank switch at tick n (R293). -/
  | gateSwitchArm (value : Nat)
  /-- At tick n the inactive gate bank becomes active (R293). -/
  | gateSwitch (output : Nat)
  /-- An entry's duration ends and the next gate entry opens and closes classes (R292). -/
  | gateEntryChange (output t : Nat)
  /-- A pace-wheel slot passes and its flows are released (R299). -/
  | paceSlot (t : Nat)
  /-- A passed-over class reaches AGE_LIMIT and is granted a guaranteed burst (R301). -/
  | ageBurst (output tc : Nat)
  /-- A gate or flow holds an escape frame for half of ESC_TIMEOUT (R301). -/
  | escHeld (p tc : Nat)
  /-- A host CXL.mem request is decoded and forwarded to its bound target, or answered as a decode miss (R313). -/
  | cxlMemRequest (k tc len : Nat) (m : MemOp)
  /-- A CXL.io transaction ends at the device's own functions or is routed to a vPPB (R30). -/
  | cxlIoRequest (k : Nat) (r : IoReq)
  /-- A memory device's response is forwarded to its host (R30). -/
  | cxlMemResponse (q host tag tc len : Nat) (poison : Bool) (data : Option Nat)
  /-- A CXL.mem request is not answered within MEM_TO and completes with poison or Cmp (R323). -/
  | memTimeout (k host tag : Nat)
  /-- A Malthouse BIND request is checked and staged (R317). -/
  | bind (from_ : MhFrom)
  /-- A Malthouse UNBIND request runs its selected removal option (R319). -/
  | unbind (from_ : MhFrom)
  /-- A Malthouse LD_ALLOC request sets a logical device's capacity (R320). -/
  | ldAlloc (from_ : MhFrom)
  /-- A Malthouse DC_ADD request offers an extent to the host (R324). -/
  | dcAdd (from_ : MhFrom)
  /-- A Malthouse DC_RELEASE request asks the host to release an extent (R324). -/
  | dcRelease (from_ : MhFrom)
  /-- At its boundary a staged binding change takes effect and the host gets its hot-plug interrupt (R317). -/
  | bindingApply (queue tag : Nat)
  /-- Host software disables the vPPB's link or slot power, letting a pending unbind proceed (R319). -/
  | unbindHostAction (h v : Nat)
  /-- Host software does not act within UNBIND_TO, and the request completes HOST_TIMEOUT (R319). -/
  | unbindTimeout (h v : Nat)
  /-- Host software accepts, declines or releases a capacity extent (R324). -/
  | dcHostResponse (h action port ld dpa len : Nat)
  /-- Host software does not answer an extent change within DC_TO (R324). -/
  | dcTimeout (h : Nat)
  /-- A device-facing port's link or presence goes, or its slot fails; the port is contained and outstanding requests
  complete with poison (R322). -/
  | surpriseRemoval (k : Nat) (link : Bool)
  /-- At the next boundary the bindings of a contained port are removed and DPC triggered (R322). -/
  | containmentUnbind (k : Nat)
  /-- A device-facing port trains and Malthouse identifies the device (R324). -/
  | cxlPortTrained (k : Nat) (partner : CxPartner)
  /-- A host-facing port's link goes down (R325). -/
  | hostDown (k : Nat)
  /-- A write of CX_PORT_CTL.CONTAIN_CLEAR takes a port out of CONTAINED (R322). -/
  | containClear (k value : Nat)
  /-- A CXL.mem read to the window device hits the line cache or misses and fills (R333). -/
  | windowRead (host tag dpa : Nat)
  /-- A CXL.mem write to the window device writes the line cache or is discarded (R333). -/
  | windowWrite (host tag dpa mask data : Nat)
  /-- Fill data arrives and fills untouched sectors; waiting reads complete (R334). -/
  | fillResponse (p : Packet)
  /-- A window read waits READ_TO ticks and completes with poison (R335). -/
  | readTimeout (host tag : Nat)
  /-- WB_DELAY ticks after a line first became dirty, it is written back (R336). -/
  | wbDelayExpiry (window line : Nat)
  /-- FN_WN_CMD scope range flushes, or flushes and drops, the lines of a host range (R338). -/
  | wnFlushRange (h value : Nat)
  /-- FN_WN_CMD scope window flushes one window (R338). -/
  | wnFlushWindow (h value : Nat)
  /-- FN_WN_CMD scope 2 flushes every window that serves the function (R338). -/
  | wnFlushFunction (h value : Nat)
  /-- Every covered dirty line is written back and the flush command completes (R338). -/
  | flushDone (h : Nat)
  /-- WN_WIN_CMD ENABLE makes an OFF window ACTIVE after its checks (R340). -/
  | windowEnable (value : Nat)
  /-- WN_WIN_CMD DISABLE drains an ACTIVE window or turns a FENCED window OFF (R340). -/
  | windowDisable (value : Nat)
  /-- WN_WIN_CMD FLUSH flushes one ACTIVE window (R340). -/
  | windowFlush (value : Nat)
  /-- A DRAINING window's write-backs end; it becomes OFF or FENCED (R340). -/
  | drainDone (window : Nat)
  /-- A window message waits more than 1 tick for a table entry or credit (R339). -/
  | msgWait (num : Nat)
  /-- A WN_FILL arrives at the home and is answered with GET_RESP (R339). -/
  | wnFill (p : Packet)
  /-- A WN_WRITE arrives at the home and is written and acknowledged like a PUT (R339). -/
  | wnWrite (p : Packet)
  /-- SLOT_EN_N changes through its 10 µs filter; the slot becomes wanted on, stops being wanted, or its latch clears
  (R346). -/
  | slotEnPin (slot : Nat) (low : Bool)
  /-- A write of SP_SLOT_CTL.CMD_EN starts or stops a slot or clears its latch (R352). -/
  | slotCmdEn (slot value : Nat)
  /-- A write of OFF_NOW pulls the gate off within 1 µs and clears CMD_EN (R353). -/
  | slotOffNow (slot value : Nat)
  /-- The output has stayed at PG_ON for PG_DELAY after the ramp, and power-good asserts (R350). -/
  | slotOn (slot fault : Nat)
  /-- RAMP_TO elapses before the ramp ends and the slot trips (R347). -/
  | rampTimeout (slot : Nat)
  /-- The fault timer reaches FAULT_TIME and the slot latches off (R348). -/
  | overcurrentTrip (slot : Nat)
  /-- The short comparator sees twice I_TRIP and pulls the gate off within 1 µs (R349). -/
  | shortTrip (slot : Nat)
  /-- A slot output falls below UV_OUT (R351). -/
  | outputUv (slot : Nat)
  /-- Current flows 10 µs with the hot-swap gate commanded off, and the slot trips (R354). -/
  | gateFault (slot : Nat)
  /-- WARN_LEAD elapses in WARN_WAIT and the slot's gate turns off (R353). -/
  | warnLeadExpiry (slot : Nat)
  /-- A feed falls below 10.8 V (R355). -/
  | feedLost (group : Nat) (feedB : Bool)
  /-- Reverse current through an ORing or bulk MOSFET turns it off within 300 ns (R355). -/
  | oringReverse (bulk : Bool) (num : Nat) (feedB : Bool)
  /-- Both rails of a group fall below WARN_LEVEL and SLOT_WARN_N goes low (R356). -/
  | inputWarn (slot : Nat)
  /-- Every 1 µs the group trim adjusts bulk switch drop toward SHARE_A (R358). -/
  | feedTrim (group iA iB : Nat)
  /-- The share stays more than 10 points off for 64 ticks (R358). -/
  | feedImbalance (group : Nat)
  /-- Group current exceeds FG_TRIP for FG_FAULT_TIME and both bulk switches latch off (R359). -/
  | feedGroupTrip (group : Nat)
  /-- A write of SP_FG_CTL.CLEAR clears a group latch (R359). -/
  | feedGroupClear (group value : Nat)
  /-- A twin heartbeat arrives, resets the miss count and carries the twin's state and mirror acknowledgement (R371). -/
  | twinHeartbeat (p w : Nat) (ok : Bool)
  /-- The miss count reaches 4 and the pair enters PROBING (R376). -/
  | heartbeatMissLimit
  /-- The TW unit issues no heartbeat at 2 boundaries while PAIRED; the island releases the charge pumps and the lease
  (R369). -/
  | selfFence
  /-- A twin probe arrives and is answered, forwarded or discarded (R377). -/
  | twinProbe (p w : Nat)
  /-- PROBE_WAIT passes with no reply and the survivor takes over (R378). -/
  | probeWaitExpiry (ok : Bool)
  /-- A mirror record arrives and is accepted in SEQ order or discarded (R374). -/
  | mirrorRecord (p w : Nat)
  /-- A held mirror record's tick arrives and the standby applies it (R375). -/
  | mirrorApply (seq : Nat)
  /-- At the boundary before its tick an unacknowledged Malthouse change is cancelled (R375). -/
  | mirrorCancel (seq : Nat)
  /-- No pair forms within ALONE_WAIT and the device takes over alone (R379). -/
  | aloneWaitExpiry (ok : Bool)
  /-- TW_CMD.GIVE_BACK schedules the return of adopted slots and groups at a tick (R379). -/
  | giveBack (value : Nat)
  /-- TW_CMD.HANDOVER schedules the twin to become primary at a tick with TERM + 1 (R381). -/
  | handover (value : Nat)
  /-- The tick of a GIVE_BACK or HANDOVER arrives and the action takes effect (R379). -/
  | twinCmdApply (ok : Bool)
  /-- A LOCK_ACQUIRE command grants, queues or refuses a lock request (R386). -/
  | lockAcquire (ep entry : Nat) (frags : List Nat) (err : Bool)
  /-- A LOCK_RELEASE command frees the lock and grants the head waiter (R386). -/
  | lockRelease (ep entry : Nat) (frags : List Nat) (err : Bool)
  /-- A LOCK_RENEW command restarts a remote holder's lease (R386). -/
  | lockRenew (ep entry : Nat) (frags : List Nat) (err : Bool)
  /-- A LOCK_CANCEL command removes the endpoint's waiting request (R386). -/
  | lockCancel (ep entry : Nat) (frags : List Nat) (err : Bool)
  /-- A remote lock request arrives and is served like the matching command (R388). -/
  | lsReq (p : Packet)
  /-- A lock grant arrives at a remote waiter and posts LOCK_GRANT (R389). -/
  | lsGrant (p : Packet)
  /-- A remote holder's lease reaches LS_LEASE at a boundary; the lock is freed and abandoned (R393). -/
  | leaseLapse (lock : Nat)
  /-- LS_LOCK_CMD.FORCE_RELEASE frees the selected lock as abandoned (R392). -/
  | forceRelease (value : Nat)
  /-- A grant waits more than 1 tick for MIRROR_ACK (R389). -/
  | mirrorWait (lock : Nat)
  /-- FE_SRC_CFG.FORCE raises a source once as a forced occurrence (R403). -/
  | forceEvent (source value : Nat)
  /-- A write of 1 to FE_LATCH VALID clears the latch, keeping a same-cycle occurrence (R404). -/
  | latchClear (sev value : Nat)
  /-- A write of 1 to FE_PEND clears pending bits unless their source fires that cycle (R405). -/
  | pendClear (k value : Nat)
  /-- FE_FENCE_CMD with RELEASE 1 releases a PORT, LOCK_GROUP or tile fence entry (R410). -/
  | fenceRelease (value : Nat)
  /-- 1 ms after a FATAL, with FATAL_RESTART set, the device requests a warm start (R411). -/
  | fatalRestart
  /-- An ERR_N pulse ends; ERR_N rises unless HOLD is 1 (R412). -/
  | errPulseEnd
  /-- ERR_N has been high 1 µs after an owed release and gives a new pulse (R413). -/
  | errRepeatPulse
  /-- A write of FE_ERR.HOLD holds or releases ERR_N (R412). -/
  | errHold (value : Nat)
  /-- A write of FE_ERR.ASSERT starts an ERR_N pulse with no occurrence (R413). -/
  | errAssert (value : Nat)
  /-- A read of FE_ERR returns and clears PULSES (R416). -/
  | errPulsesRead
  /-- At the next boundary a follow-up record carries later occurrences of a source in the tick (R414). -/
  | deliveryFollowup
  /-- A read of FE_HIST_POP returns and removes the oldest history entry (R407). -/
  | histPop
  /-- A write of PC_SAMP_CONS frees sample records (R425). -/
  | sampleConsumerWrite (value : Nat)
  /-- A read of PC_SAMP_STATUS returns and clears LOST and SKIPPED (R428). -/
  | sampStatusRead
  /-- A write of PD_VOTE casts or withdraws software votes for domains (R432). -/
  | pdVote (value : Nat)
  /-- IDLE_DELAY passes after the last vote is withdrawn and the domain begins entry to its floor (R431). -/
  | domainIdleExpiry (k : Nat)
  /-- Entry to GATED or RETAIN ends (R434). -/
  | domainEntryDone (k : Nat)
  /-- A domain's wake ends; its retention is checked and waiting work proceeds (R433). -/
  | domWake (k ns : Nat) (good : Bool)
  /-- A withdrawal waits on transfers for 1,024 µs (R432). -/
  | holdLong (k : Nat)
  /-- A domain stays in transition for 100 µs (R439). -/
  | domStuck (k : Nat)
  /-- A body-bias generator leaves regulation (R439). -/
  | biasFault (k : Nat)
  /-- A memory-assist circuit fails its self-check (R439). -/
  | assistFault (k : Nat)
  /-- A retention rail falls below 0.57 V (R439). -/
  | railUv (k : Nat)
  /-- Vote or state logic fails its check and the domain is held ON (R439). -/
  | pdParity (k : Nat)
  /-- The SE_CHALLENGE command returns a fresh nonce and replaces the old one (R450). -/
  | seChallenge (bytes : List Byte)
  /-- The ATTEST command returns a signed 432-byte report (R454). -/
  | attest (bytes : List Byte)
  /-- The CERT_READ command returns the Wevik identity certificate (R443). -/
  | certRead (bytes : List Byte)
  /-- LC_ENROLL burns the owner key and moves BLANK to PROVISIONED (R446). -/
  | lcEnroll (bytes : List Byte)
  /-- A signed statement with CMD 1 moves PROVISIONED to MISSION (R446). -/
  | lcToMission (bytes : List Byte)
  /-- A signed statement with CMD 2 moves the device to RETURN (R447). -/
  | lcToReturn (bytes : List Byte)
  /-- A statement with CMD 3 moves the device to SCRAPPED (R446). -/
  | lcToScrapped (bytes : List Byte)
  /-- A signed statement with CMD 4 burns a new owner slot and revokes the previous one (R448). -/
  | ownerRotate (bytes : List Byte)
  /-- A signed statement with CMD 5 opens debug commands within SCOPE for DURATION (R450). -/
  | debugUnlock (bytes : List Byte)
  /-- A debug unlock's DURATION ends (R450). -/
  | debugUnlockEnd
  /-- The nonce's lifetime ends (R450). -/
  | nonceExpiry
  /-- A sparge's read-back ends; a clean Kiln completes it, otherwise it writes zeros again (R453). -/
  | spargeDone (clean : Bool)
  /-- A write of SE_ALARM.CLEAR releases a Class B alarm (R452). -/
  | alarmClear (value : Nat)
  /-- PWROK rises, straps are sampled and a cold start begins (R457). -/
  | coldStart (straps : Nat) (twinId : Bool)
  /-- RESET_N low for at least 1 µs releases the charge pumps and, on release, begins a warm start (R457). -/
  | resetN (low : Bool)
  /-- A numbered start step ends and the start goes on to the next step, partition or safe mode (R458). -/
  | startStepDone (e : StepEnd)
  /-- The start watchdog expires before RUNNING and a warm start begins (R462). -/
  | startTimeout
  /-- The device has stayed RUNNING for STABLE with MC_ALIVE, and FAIL_COUNT is set (R463). -/
  | stableReached
  /-- L_max + 2 ticks after START_TICK the early-arrival refusal window ends (R470). -/
  | startWindowEnd
  /-- BT_CMD.SET_PREFER writes PREFER into the boot record (R476). -/
  | setPrefer (from_ : BtFrom)
  /-- BT_CMD.CLEAR_FAILS sets FAIL_COUNT to 0 (R463). -/
  | clearFails (from_ : BtFrom)
  /-- BT_CMD.RESTART begins a warm start (R457). -/
  | restart (from_ : BtFrom)
  /-- BT_CMD.STORE or the Eboury command starts a settings store (R473). -/
  | storeSettings (from_ : BtFrom)
  /-- BT_CMD.ERASE_SETTINGS invalidates both settings pages (R473). -/
  | eraseSettings (from_ : BtFrom)
  /-- A settings page write and read-back end (R473). -/
  | storeDone (ok : Bool)
  /-- PWROK falls; any start ends and the charge pumps are released (R496). -/
  | pwrokFall
  /-- A core rail or CORE_REFCLK fails and the device holds in step 1 as though PWROK had fallen (R497). -/
  | supplyFault
  /-- A sensor reads 115 °C for 1 ms and the device is held in step 1 of a warm start (R501). -/
  | thermalHold
  /-- Every sensor has read below 95 °C for 1 s and the warm start proceeds (R501). -/
  | thermalRelease
  /-- The island answers the STATUS command (R487). -/
  | status (bytes : List Byte) (ms : Nat) (temps : List Int)
  /-- The island returns a part of the collector's state and may clear latches or pending bits (R487). -/
  | faultRead (bytes : List Byte)
  /-- The island returns the on-die temperatures (R487). -/
  | temp (bytes : List Byte) (temps : List Int)
  /-- The island switches off the named owned slots as OFF_NOW does (R487). -/
  | slotOff (bytes : List Byte)
  /-- The island starts the key-slot and Kiln sparge (R487). -/
  | sparge (bytes : List Byte)
  /-- The island accepts a warm-start request and sends its response (R487). -/
  | resetReq (bytes : List Byte)
  /-- The response is read or 1 ms passes, and the requested warm start begins (R487). -/
  | resetReqDelay
  /-- The REG_READ command returns a run of registers (R486). -/
  | regRead (bytes : List Byte)
  /-- The REG_WRITE command writes one register (R486). -/
  | regWrite (bytes : List Byte)
  /-- A frame with an unlisted opcode is answered OPCODE (R485). -/
  | opcodeUnknown (bytes : List Byte)
  /-- The FLASH_READ command returns flash data (R486). -/
  | flashRead (bytes : List Byte) (fail : Bool)
  /-- The FLASH_ERASE command erases a 64 KiB block (R486). -/
  | flashErase (bytes : List Byte)
  /-- The FLASH_WRITE command writes flash data (R486). -/
  | flashWrite (bytes : List Byte)
  /-- The DBG_READ command reads the internal address space under a debug unlock (R486). -/
  | dbgRead (bytes : List Byte) (kiln : Bool)
  /-- The DBG_WRITE command writes the internal address space (R486). -/
  | dbgWrite (bytes : List Byte) (kiln : Bool)
  /-- DBG_CORE action 1 halts a management core (R486). -/
  | dbgCoreHalt (bytes : List Byte)
  /-- DBG_CORE action 2 steps a management core (R486). -/
  | dbgCoreStep (bytes : List Byte)
  /-- DBG_CORE action 3 resumes a management core (R486). -/
  | dbgCoreResume (bytes : List Byte)
  /-- An I3C private read returns the oldest ready response whole and removes it (R483). -/
  | responseRead (whole : Bool)
  /-- The controller acknowledges an IBI; a fault IBI removes one record (R484). -/
  | ibiAck
  /-- IBI_GAP passes after a NACKed IBI and the device requests again (R484). -/
  | ibiRetry
  /-- With no dynamic address the device requests Hot-Join on its timer (R478). -/
  | hotJoin
  /-- The ENEC CCC enables target events (R478). -/
  | enec (bits : Nat)
  /-- The DISEC CCC disables target events (R478). -/
  | disec (bits : Nat)
  /-- The RSTDAA CCC resets the dynamic address (R478). -/
  | rstdaa
  /-- The ENTDAA CCC assigns a dynamic address (R478). -/
  | entdaa (addr : Nat)
  /-- The SETDASA CCC assigns a dynamic address from the static address (R480). -/
  | setdasa (static addr : Nat)
  /-- The SETNEWDA CCC changes the dynamic address (R478). -/
  | setnewda (addr : Nat)
  /-- The GETPID CCC returns the provisional ID (R479). -/
  | getpid
  /-- The GETBCR CCC returns BCR 0x26 (R479). -/
  | getbcr
  /-- The GETDCR CCC returns DCR 0x00 (R479). -/
  | getdcr
  /-- The GETSTATUS CCC returns the target status (R478). -/
  | getstatus
  /-- The GETMXDS CCC returns the maximum data speed (R478). -/
  | getmxds
  /-- The SETMWL CCC sets the maximum write length (R479). -/
  | setmwl (v : Nat)
  /-- The GETMWL CCC returns the maximum write length (R479). -/
  | getmwl
  /-- The SETMRL CCC sets the maximum read length (R479). -/
  | setmrl (v : Nat)
  /-- The GETMRL CCC returns the maximum read length (R479). -/
  | getmrl
  /-- The RSTACT CCC resets the I3C target or requests a warm start (R479). -/
  | rstact (action : Nat)
  /-- An I2C transfer at the static address carries an Eboury frame under the legacy fallback (R480). -/
  | legacyI2c (write : Option (List Byte)) (x : EbInputs)
  /-- The target detects an I3C error condition (R492). -/
  | busError
  /-- The management complex has not signalled for WEDGE_MS; MC_ALIVE falls and forwarded requests get NOT_SERVED
  (R488). -/
  | mcWedged
  /-- The management complex signals again; MC_ALIVE rises and forwarding resumes (R488). -/
  | mcSignalReturn
  /-- Safety-island state fails its check (R492). -/
  | islandParity
  /-- A core rail or CORE_REFCLK that had failed comes back, and the device leaves its hold in step 1 and makes a cold
  start (R497). -/
  | supplyRestored
  /-- A lane reference REFCLKr starts or returns, REF_OK rises and the ports on it may train again (R279). -/
  | refclkPresent (r : Nat)
  /-- A PRBS checker sees 31 error-free bits, locks and starts counting bit errors (R283). -/
  | prbsLock (l : Nat)
  /-- A lost feed or group rail returns: ORing and bulk switches conduct again, trims resume and the input warning ends so
  SLOT_WARN_N can be released (R356). -/
  | feedRestored (group : Nat) (feedB : Bool)
  /-- A host-facing CXL port's link trains and comes up, counting in HOSTS_UP and raising LINK_DEGRADED when below rate or
  width (R307). Its partner shows no rate where R306 does not support it. -/
  | hostPortTrained (k : Nat) (rate : Option Nat) (width : Nat)
  /-- A flash erase or write finishes, its response is sent, and other flash commands are no longer answered BUSY
  (R486). -/
  | flashCommandDone (fail : Bool)
  deriving DecidableEq, Repr

end Sys2Proof
end

