-- ==== Sys2Proof/Machine/State.lean ====
section
/-! DEFINITION. The state of the machine: the units of every block, the register file, and the queue of commands that
wait; the outcomes that are no next state; and the state before power comes. -/

namespace Sys2Proof.Machine

/-- Work that a step still owes within itself. -/
inductive Todo where
  | fence (kind : UnitKind) (inst src : Nat)
  | fatal (src : Nat)
  | feFault (reason : Nat)
  | pcFault (ctr : Nat)
  | msgEnd (m : Msg) (status kind reason : Nat) (result : List Byte)
  | startCmds (ep : Nat)
  | epIdle (ep : Nat)
  | sampleDone (c : Cmd) (status : Nat)
  | mirrorAcked
  | timeStep (old : Nat)
  | prqWake
  | rlWake
  deriving DecidableEq, Repr

/-- The device, but for what its power does not erase. -/
structure Dev where
  /-- The register file: values by place, a register at its reset value unlisted (R4, R14). -/
  regs : Tbl Nat := []
  /-- Values of T fields staged for the next boundary (R7, R10). -/
  staged : Tbl (Option Nat) := []
  /-- The units of the blocks ST, FE, PC, HQ, XL, TP, MX, LS, TW, CX, WN and RL. -/
  st : StUnit := {}
  fe : FeUnit := {}
  pc : PcUnit := {}
  hq : HqUnit := {}
  xl : XlUnit := {}
  tp : TpUnit := {}
  mx : MxUnit := {}
  ls : LsUnit := {}
  tw : TwUnit := {}
  cx : CxUnit := {}
  wn : WnUnit := {}
  rl : RlUnit := {}
  /-- The fabric port map: the width of the port at each first lane (R20). -/
  map : Tbl Nat := []
  /-- The units of the blocks RT, TN, LK, LN, SC, SP, PD, SE, BT and MG. -/
  rt : RtUnit := {}
  tn : TnUnit := {}
  lk : LkUnit := {}
  ln : LnUnit := {}
  sc : ScUnit := {}
  sp : SpUnit := {}
  pd : PdUnit := {}
  se : SeUnit := {}
  bt : BtUnit := {}
  mg : MgUnit := {}
  /-- Work owed within the running step. -/
  todo : List Todo := []
  /-- What the last command sent out of the device, the newest first. -/
  out : List Out := []
  /-- The model's own counter of free values drawn. -/
  free : Nat := 0
  deriving DecidableEq, Repr

/-- The chip: the device, and its fuses, NVM and flash. -/
structure Chip where
  dev : Dev := {}
  nv : NvUnit := {}
  deriving DecidableEq, Repr

/-- The machine: the commands that wait, first in, first out, and the chip. -/
structure State where
  pending : List Instr := []
  chip : Chip := {}
  deriving DecidableEq, Repr

/-- Faults: none. No command of this block stops it. -/
inductive Fault where
  deriving DecidableEq, Repr

/-- Refusals. -/
inductive Refusal where
  /-- Raised by an arm of `exec` whose command has no meaning yet; safe. -/
  | notModelled (mnemonic : String)
  deriving DecidableEq, Repr

/-- The state before power comes: every register and unit at its reset value, no command waiting. A cold start begins with
the command COLD_START (R457). -/
def State.reset : State := {}

end Sys2Proof.Machine
end

