-- ==== Sys2Proof/Machine/Ops.lean ====
section
/-! DEFINITION. The operations every block shares: registers and their fields, first-error latches, counters, the event
collector that takes each occurrence of a source, event rings and the output trace. -/

namespace Sys2Proof.Machine

/-- A register shows one of several banked values: chosen by a select register, or by the page it stands on. -/
def Reg.banked (r : Reg) : Bool := r.sel.isSome || decide (r.space ≠ .blk)

/-- The place of a register's value in the register file: array index `i`, bank `bank` (R14, R57, R77). -/
def Reg.key (r : Reg) (i bank : Nat) : Nat :=
  r.base + r.stride1 * (i / r.count2) + r.stride2 * (i % r.count2)
    + (if r.banked then 2 ^ 32 * (bank + 1) else 0)
    + (match r.space with | .blk => 0 | .ep => 2 ^ 60 | .fn => 2 ^ 61)

/-- Reset value of a register; FE_SRC_CFG resets per source (R400, R416). -/
def Reg.resetAt (r : Reg) (i : Nat) : Nat := if r.name = .feSrcCfg then sourceReset i else r.reset

/-- The active value of a register. -/
def Dev.rd (d : Dev) (r : Reg) (i : Nat := 0) (bank : Nat := 0) : Nat :=
  Tbl.get (r.resetAt i) d.regs (r.key i bank)

/-- Set the active value of a register. -/
def Dev.wr (d : Dev) (r : Reg) (v : Nat) (i : Nat := 0) (bank : Nat := 0) : Dev :=
  { d with regs := Tbl.put (r.resetAt i) (r.key i bank) (v % 2 ^ r.width) d.regs }

/-- A field of the active value of a register. -/
def Dev.fld (d : Dev) (r : Reg) (lo len : Nat) (i : Nat := 0) (bank : Nat := 0) : Nat :=
  field (d.rd r i bank) lo len

/-- Set a field of the active value of a register. -/
def Dev.wrFld (d : Dev) (r : Reg) (lo len v : Nat) (i : Nat := 0) (bank : Nat := 0) : Dev :=
  d.wr r (setField (d.rd r i bank) lo len v) i bank

/-- Latch a first error: an error latch whose VALID, bit 63, is 1 keeps what it holds. -/
def Dev.latch (d : Dev) (r : Reg) (word : Nat) : Dev :=
  if flag (d.rd r) 63 then d else d.wr r (word % 2 ^ 63 + 2 ^ 63)

/-- Append to the output trace. -/
def Dev.emit (d : Dev) (o : Out) : Dev := { d with out := o :: d.out }

/-- Owe a piece of work within this step. -/
def Dev.owe (d : Dev) (t : Todo) : Dev := { d with todo := d.todo ++ [t] }

/-- A fresh number for a free value. -/
def Dev.fresh (d : Dev) : Nat × Dev := (d.free, { d with free := d.free + 1 })

/-- ST_TICK_NOW. -/
def Dev.now (d : Dev) : Nat := d.st.tick

/-- Ticks from `t` to now (R46). -/
def Dev.since (d : Dev) (t : Nat) : Nat := since48 d.now t

/-- Local ticks since the local tick `t` (R41, R42, R104, R380, R516). -/
def Dev.waited (d : Dev) (t : Nat) : Nat := d.st.boundaries - t

/-- The device is LOCKED or in HOLDOVER, so messages may be first sent (R42, R516). -/
def Dev.timeOk (d : Dev) : Bool := d.st.lock = .locked || d.st.lock = .holdover

/-- This device's node ID (R28). -/
def Dev.node (d : Dev) : Nat := d.fld rRtNode 0 18

/-! ### Counters (R417, R418) -/

/-- Add `n` to counter `i`: 48 bits that wrap and set WRAP, bit 63 (R418). -/
def Dev.count (d : Dev) (i n : Nat) : Dev :=
  let w := d.rd rPcCtr i
  let c := field w 0 48 + n
  d.wr rPcCtr (c % 2 ^ 48 + 2 ^ 63 * bit (flag w 63 || decide (2 ^ 48 ≤ c))) i

/-! ### Ring positions (R54, R55) -/

/-- Entries between a consumer and a producer position of a ring of `size` entries (R55). -/
def ringCount (size : Nat) (c p : Pos) : Nat :=
  if c.lap = p.lap then p.index - c.index else size - c.index + p.index

/-- The position `n` entries on, at most one lap further (R54). -/
def Pos.advance (p : Pos) (size n : Nat) : Pos :=
  if p.index + n < size then ⟨p.index + n, p.lap⟩ else ⟨p.index + n - size, !p.lap⟩

/-- Entries of an event ring. -/
def EvtRing.size (r : EvtRing) : Nat := 2 ^ r.log2

/-- Free count of an event ring: its size less the posted entries not consumed and the reservations held (R71). -/
def EvtRing.freeCount (r : EvtRing) : Nat := r.size - ringCount r.size r.host r.prod - r.rsv

/-- Post an event at the producer position: the write to host memory, with the lap bit, and the MSI-X message of an
armed ring for an event that asks for one (R54, R59, R70). -/
def EvtRing.post (r : EvtRing) (fn vector : Nat) (words : List Nat) (irq : Bool) : EvtRing × List Out :=
  let w := match words with
    | [] => []
    | w0 :: rest => (w0 % 2 ^ 63 + 2 ^ 63 * bit r.prod.lap) :: rest
  let outs := (if irq && r.armed then [Out.msix fn vector] else [])
    ++ [Out.hostWrite fn (r.base + 32 * r.prod.index) w]
  ({ r with prod := r.prod.advance r.size 1, armed := r.armed && !irq }, outs)

/-- Post waiting events while slots are free, oldest first (R73, R75). -/
def EvtRing.drain (r : EvtRing) (fn vector : Nat) : Nat → EvtRing × List Out
  | 0 => (r, [])
  | n + 1 =>
    match r.waiting with
    | [] => (r, [])
    | e :: rest =>
      if r.freeCount = 0 then (r, [])
      else
        let (r1, o1) := ({ r with waiting := rest }).post fn vector e.words e.irq
        let (r2, o2) := r1.drain fn vector n
        (r2, o2 ++ o1)

/-- The context of an endpoint. -/
def Dev.ep (d : Dev) (ep : Nat) : Option EpCtx := Tbl.get none d.hq.eps ep

/-- Store the context of an endpoint. -/
def Dev.setEp (d : Dev) (ep : Nat) (c : Option EpCtx) : Dev :=
  { d with hq := { d.hq with eps := Tbl.put none ep c d.hq.eps } }

/-- The control page state of a host function. -/
def Dev.fn (d : Dev) (h : Nat) : FnCtx := Tbl.get {} d.hq.fns h

/-- Store the control page state of a host function. -/
def Dev.setFn (d : Dev) (h : Nat) (f : FnCtx) : Dev :=
  { d with hq := { d.hq with fns := Tbl.put {} h f d.hq.fns } }

/-- Add to the output trace, the newest first. -/
def Dev.emits (d : Dev) (o : List Out) : Dev := { d with out := o ++ d.out }

/-! ### The event collector (R397 to R415) -/

/-- The configuration word of a source. -/
def Dev.srcCfg (d : Dev) (n : Nat) : Nat := d.rd rFeSrcCfg n

/-- The 16 bytes of a delivery record as two words (R414). -/
def DeliveryRecord.words (r : DeliveryRecord) : List Nat :=
  [pack [(9, r.source), (2, r.sev), (1, bit r.forced), (1, bit r.fenced), (3, 0), (8, r.unit), (8, 0), (20, r.inst),
      (12, 0)],
    pack [(48, r.tick), (16, min r.count 0xFFFF)]]

/-- Queue a record for the management controller, or count it lost (R415). -/
def Dev.sendI3c (d : Dev) (r : DeliveryRecord) : Dev :=
  if d.fe.i3c.length < 64 then { d with fe := { d.fe with i3c := d.fe.i3c ++ [r] } }
  else { (d.owe (.feFault 2)) with fe := { d.fe with lost := satInc (2 ^ 32 - 1) d.fe.lost } }

/-- Post a DEV_FAULT event to function `h`, or count it lost (R415). It never waits for a slot. -/
def Dev.sendHost (r : DeliveryRecord) (h : Nat) (d : Dev) : Dev :=
  let f := d.fn h
  if flag (d.rd rFeHostMask) h && f.enable && f.fenced.isNone then
    if f.evt.freeCount = 0 then
      { d with fe := { d.fe with hostLost := Tbl.upd 0 h (satInc (2 ^ 32 - 1)) d.fe.hostLost } }
    else
      let words := [0x090000] ++ r.words ++ [Tbl.get 0 d.fe.hostLost h]
      let (e, o) := f.evt.post h f.msix words true
      { ((d.setFn h { f with evt := e }).emits o) with
        fe := { d.fe with hostLost := Tbl.put 0 h 0 d.fe.hostLost } }
  else d

/-- Send a delivery record to one sink (R415). -/
def Dev.sendRecord (d : Dev) (s : Sink) (r : DeliveryRecord) : Dev :=
  match s with
  | .i3c => d.sendI3c r
  | .host => forEach (upFrom 0 32) (Dev.sendHost r) d

/-- Take a delivery record to a sink: the first of a source in a tick leaves at once, later ones gather (R414). -/
def Dev.deliver (d : Dev) (s : Sink) (r : DeliveryRecord) : Dev :=
  match firstThat d.fe.sinkTick (fun t => t.sink = s && t.source == r.source) with
  | none => ({ d with fe := { d.fe with sinkTick := d.fe.sinkTick ++ [SinkTick.mk s r.source none] } }).sendRecord s r
  | some _ =>
    let add (t : SinkTick) : SinkTick := match t.held with
      | none => { t with held := some r }
      | some h => { t with held := some { h with count := satInc 0xFFFF h.count } }
    { d with fe := { d.fe with
      sinkTick := mapFirst d.fe.sinkTick (fun t => t.sink = s && t.source == r.source) add } }

/-- Start an ERR_N pulse (R412); AUTO_HOLD sets HOLD at its start. -/
def Dev.startPulse (d : Dev) : Dev :=
  { d with fe := { d.fe with
    pin := .pulse, pulses := satInc 0xFFFF d.fe.pulses, hold := d.fe.hold || flag (d.rd rFeCtl) 6 } }

/-- An ERRN reaction (R412, R413): a pulse from high, otherwise a repeat pulse is owed. -/
def Dev.errN (d : Dev) : Dev :=
  match d.fe.pin with
  | .high => d.startPulse
  | _ => { d with fe := { d.fe with repeatOwed := true } }

/-- The unit whose fence entry an occurrence takes: source 27 for a control ring fences the function (R518). -/
def fencedUnit (src inst : Nat) : UnitKind × Nat :=
  if src = evHqRingBus ∧ 0x10000 ≤ inst then (.function, inst - 0x10000) else ((sourceRow src).unit, inst)

/-- A unit has an entry in the fence table. -/
def Dev.fenceHeld (d : Dev) (k : UnitKind) (inst : Nat) : Bool :=
  d.fe.fence.any (fun p => match p.2 with | some e => e.kind = k && e.inst == inst | none => false)

/-- Record a fenced unit in the fence table (R409). A unit that holds an entry takes no other; a full table is
reported. -/
def Dev.addFence (d : Dev) (k : UnitKind) (inst src : Nat) (byCollector : Bool) : Dev :=
  if d.fenceHeld k inst then d
  else
    match lowest (fun i => (Tbl.get none d.fe.fence i).isNone) 0 64 with
    | some i => { d with fe := { d.fe with fence := Tbl.put none i (some (FenceEntry.mk k inst src byCollector)) d.fe.fence } }
    | none => ({ d with fe := { d.fe with tableOvf := true } }).owe (.feFault 1)

/-- Power has come: before the first start a status field shows the reset value of its table (DEDUCED, log entry 201). -/
def Dev.powered (d : Dev) : Bool := decide (d.bt.phase ≠ 0)

/-- Clear the fence entry of a unit that is released (R409). -/
def Dev.clearFence (d : Dev) (k : UnitKind) (inst : Nat) : Dev :=
  { d with fe := { d.fe with
    fence := d.fe.fence.filter (fun p => match p.2 with | some e => !(e.kind = k && e.inst == inst) | none => false) } }

/-- The first-source latch of a severity takes an occurrence (R404). -/
def Dev.takeLatch (d : Dev) (src inst sev : Nat) (forced : Bool) : Dev :=
  let w := d.rd rFeLatch sev
  if flag w 63 then
    d.wr rFeLatch (setField (setField w 37 1 1) 40 8 (satInc 255 (field w 40 8))) sev
  else
    (d.wr rFeLatch (pack [(9, src), (3, 0), (4, (sourceRow src).unit.code), (20, inst), (1, bit forced), (26, 0),
      (1, 1)]) sev).wr rFeLatchTick d.now sev

/-- Append to the SX2560 history queue when COMPAT is 1 (R407). -/
def Dev.takeHistory (d : Dev) (src inst sev : Nat) : Dev :=
  if flag (d.rd rFeCtl) 7 && decide (1 ≤ sev) then
    if d.fe.hist.length < 16 then
      { d with fe := { d.fe with hist := d.fe.hist ++ [HistEntry.mk src sev inst (d.now % 2 ^ 16)] } }
    else d.wrFld rFeHistStatus 5 1 1
  else d

/-- The instance an occurrence names: 0 for a source without a unit (R401). -/
def occInstance (src inst : Nat) : Nat := if (sourceRow src).unit = .none then 0 else inst % 2 ^ 20

/-- An occurrence that the collector itself must fence for: severity FENCE, not forced, not of a block-fence source,
and naming a unit of the kind the source fences (R401, R408). -/
def collectorFences (src inst sev : Nat) (forced : Bool) : Bool :=
  decide (sev = 2) && !forced && !(sourceRow src).bfence
    && decide ((sourceRow src).unit ≠ .none)
    && !(decide ((sourceRow src).unit = .port) && decide (inst = 0xFFFFF))
    && !(decide ((sourceRow src).unit = .ring) && decide (0x10000 ≤ inst))

/-- One occurrence of a source (R397 to R415). -/
def Dev.occur (d : Dev) (src inst0 : Nat) (forced : Bool) : Dev :=
  let inst := occInstance src inst0
  let cfg := d.srcCfg src
  let sev := field cfg 1 2
  let d := d.count src 1
  if !(flag cfg 0) then d
  else
    let blockFence := (sourceRow src).bfence && !forced
    let colFence := collectorFences src inst sev forced
    let fatal := decide (sev = 3) && !forced
    let u := fencedUnit src inst
    let d := d.takeLatch src inst sev forced
    let d := d.wr rFePend (d.rd rFePend (src / 64) ||| 2 ^ (src % 64)) (src / 64)
    let d := d.takeHistory src inst sev
    let d := if blockFence then d.addFence u.1 u.2 src false else d
    let d := if colFence then (d.addFence u.1 u.2 src true).owe (.fence u.1 u.2 src) else d
    let d := if fatal then
        ({ d with fe := { d.fe with fatal := true, restartOwed := true } }).owe (.fatal src) else d
    let d := if flag cfg 5 then d.errN else d
    let r : DeliveryRecord :=
      ⟨src, sev, forced, blockFence || colFence || fatal, (sourceRow src).unit.code, inst, d.now, 1⟩
    let d := if flag cfg 4 then d.deliver .i3c r else d
    if flag cfg 6 then d.deliver .host r else d

/-- An event source fires, naming a unit (R397). -/
def Dev.raise (d : Dev) (src inst : Nat) : Dev := d.occur src inst false

/-- An event source fires when a condition holds. -/
def Dev.raiseIf (d : Dev) (c : Bool) (src inst : Nat) : Dev := if c then d.raise src inst else d

end Sys2Proof.Machine
end

