-- ==== Sys2Proof/Machine/RegMap.lean ====
section
/-! DEFINITION. Where the registers stand: the register at an address of the control space or of a page (R4, R14, R15); how the fields
of one take a written value (R6 to R8). -/

namespace Sys2Proof.Machine

/-- The place of an offset from a register's base among its array elements. -/
def Reg.place (r : Reg) (off : Nat) : Option Nat :=
  let i := if r.stride1 = 0 then 0 else off / r.stride1
  let rest := off - i * r.stride1
  let j := if r.stride2 = 0 then 0 else rest / r.stride2
  if i < r.count1 ∧ j < r.count2 ∧ rest = j * r.stride2 then some (i * r.count2 + j) else none

/-- The register at an address of a space, and which element of its array. -/
def regAt (sp : Space) (addr : Nat) : List Reg → Option (Reg × Nat)
  | [] => none
  | r :: rest =>
    if r.space = sp ∧ r.base ≤ addr then
      match r.place (addr - r.base) with
      | some i => some (r, i)
      | none => regAt sp addr rest
    else regAt sp addr rest

/-- The register at an address of the control space, accessed at its full width (R4, R15). -/
def ctlReg (addr bytes : Nat) : Option (Reg × Nat) :=
  match regAt .blk addr allRegs with
  | some (r, i) => if r.width = 8 * bytes ∧ addr % bytes = 0 then some (r, i) else none
  | none => none

/-! ### Fields that take a written value (R6 to R8, R10) -/

/-- A field that is kept apart from its active value until the next boundary. -/
def FieldDesc.staged (f : FieldDesc) : Bool := decide (f.acc = .rw) && decide (f.cls = .t)

/-- One field of a register takes a written value: RW sets it, W1C clears the bits written 1; T fields are staged, or set at
once where `now` says so (R6, R7, R468). -/
def FieldDesc.take (f : FieldDesc) (now : Bool) (value w : Nat) : Nat :=
  match f.acc with
  | .rw => if f.staged && !now then w else setField w f.lo f.len (field value f.lo f.len)
  | .w1c => setField w f.lo f.len (clearBits (field w f.lo f.len) (field value f.lo f.len))
  | .w1s => setField w f.lo f.len (field w f.lo f.len ||| field value f.lo f.len)
  | _ => w

/-- Every field of a register takes its written value under its own apply class (R8). -/
def Dev.take (d : Dev) (r : Reg) (i bank : Nat) (now : Bool) (value : Nat) : Dev :=
  let w := r.fields.foldl (fun w f => f.take now value w) (d.rd r i bank)
  let st := (r.fields.filter (fun f => f.staged)).foldl
    (fun w f => setField w f.lo f.len (field value f.lo f.len)) 0
  let d := d.wr r w i bank
  if r.fields.any (fun f => f.staged) && !now then
    { d with staged := Tbl.put none (r.key i bank) (some st) d.staged }
  else if now then { d with staged := Tbl.put none (r.key i bank) none d.staged }
  else d

/-- A value with the S fields of a register as they stand: only the configuration image sets them (R7). -/
def Dev.keepS (d : Dev) (r : Reg) (i bank value : Nat) : Nat :=
  (r.fields.filter (fun f => decide (f.cls = .s))).foldl (fun w f => setField w f.lo f.len (d.fld r f.lo f.len i bank)) value

end Sys2Proof.Machine
end

