-- ==== Sys2Proof/Machine/Budget.lean ====
section
/-! DEFINITION. The tick period and the per-tick budget (R31, R48, R49). An activity is numbered by its row in the budget
table, which is its bit in ST_OVERRUN_STATUS. -/

namespace Sys2Proof.Machine

/-- The tick period in nanoseconds (R31, R32, R34). -/
def Dev.period (d : Dev) : Nat := 512 * 2 ^ d.fld rStCtl 0 2

/-- The rows of the budget table (R48). -/
def actTime : Nat := 0
def actEpoch : Nat := 1
def actScore : Nat := 2
def actAudit : Nat := 3
def actRelay : Nat := 4
def actGate : Nat := 5
def actEnergy : Nat := 6
def actHeartbeat : Nat := 7
def actAgeing : Nat := 8
def actExpiry : Nat := 9
def actLease : Nat := 10
def actSnapshot : Nat := 11

/-- The quota of an activity per tick at 1.024 us (R48). -/
def quotaBase (a : Nat) : Nat :=
  match a with
  | 0 => 256 | 1 => 1 | 2 => 256 | 3 => 256 | 4 => 512 | 5 => 256 | 6 => 32 | 7 => 1 | 8 => 1024 | 9 => 4096
  | 10 => 4096 | _ => 1536

/-- The quotas marked with a dagger, halved at a period of 0.512 us (R48). -/
def quotaHalved (a : Nat) : Bool := a == actRelay || a == actAgeing || a == actExpiry || a == actLease

/-- The quota of an activity. -/
def Dev.quota (d : Dev) (a : Nat) : Nat :=
  if quotaHalved a && d.fld rStCtl 0 2 == 0 then quotaBase a / 2 else quotaBase a

/-- The activity has quota left in this tick. -/
def Dev.quotaLeft (d : Dev) (a : Nat) : Bool := decide (Tbl.get 0 d.st.quotaUsed a < d.quota a)

/-- Take one unit of an activity's quota. -/
def Dev.useQuota (d : Dev) (a : Nat) : Dev :=
  { d with st := { d.st with quotaUsed := Tbl.upd 0 a (· + 1) d.st.quotaUsed } }

/-- Do one unit of an activity's work, where its quota allows (R48). -/
def Dev.within (d : Dev) (a : Nat) (f : Dev → Dev) : Dev := if d.quotaLeft a then f (d.useQuota a) else d

/-! ### Rounds over ports: the score exchange and the audit (R48, R49, R510) -/

/-- Do the units of an activity in order while its quota lasts; what is left. -/
def Dev.doUnits (a : Nat) (f : Nat → Dev → Dev) : List Nat → Dev → List Nat × Dev
  | [], d => ([], d)
  | p :: rest, d => if d.quotaLeft a then Dev.doUnits a f rest (f p (d.useQuota a)) else (p :: rest, d)

/-- Whole rounds of an activity, the oldest first, while its quota lasts: what is left of the round under way, and the rounds behind
it. -/
def Dev.doRounds (a : Nat) (ports : List Nat) (f : Nat → Dev → Dev) : Nat → Nat → Dev → List Nat × Nat × Dev
  | 0, n, d => ([], n, d)
  | _ + 1, 0, d => ([], 0, d)
  | k + 1, n + 1, d =>
    match Dev.doUnits a f ports d with
    | ([], d) => if d.quotaLeft a then Dev.doRounds a ports f k n d else ([], n, d)
    | (rest, d) => (rest, n, d)

/-- At a boundary an activity that visits every port serves, within its quota, first the work that is deferred, then that of passed
ticks, then the present tick's own; what is left is deferred (R48, R49, R510). -/
def Dev.portRounds (d : Dev) (a : Nat) (ports : List Nat) (f : Nat → Dev → Dev) : Dev :=
  let rounds := if ports.isEmpty then 0 else Tbl.get 0 d.st.owedTicks a + d.st.passed + 1
  let (rest, n, d) := match Dev.doUnits a f (Tbl.get [] d.st.owedRest a) d with
    | ([], d) => Dev.doRounds a ports f (quotaBase a) rounds d
    | (rest, d) => (rest, rounds, d)
  { d with st := { d.st with owedRest := Tbl.put [] a rest d.st.owedRest, owedTicks := Tbl.put 0 a n d.st.owedTicks } }

end Sys2Proof.Machine
end

