-- ==== Sys2Proof/Machine/HostMap.lean ====
section
/-! DEFINITION. Where the addresses of a host lead: its upstream port's decoders, the window device's decoders and the
hub function's own memory spaces (R57, R99, R308, R311, R313, R330, R421). -/

namespace Sys2Proof.Machine

/-- ROLE of a CXL port (R327): 0 unused, 1 host-facing, 2 device-facing. -/
def Dev.cxRole (d : Dev) (k : Nat) : Nat := d.fld rCxPortCfg 10 2 k

/-- The host number of a host-facing port (R308). -/
def Dev.cxPortHost (d : Dev) (k : Nat) : Nat := d.fld rCxPortCfg 12 5 k

/-- The host-facing port of a host (R308). -/
def Dev.hostPort (d : Dev) (h : Nat) : Option Nat :=
  lowest (fun k => decide (d.cxRole k = 1) && d.cxPortHost k == h) 0 48

/-- What a host has programmed. -/
def Dev.cxHost (d : Dev) (h : Nat) : CxHost := Tbl.get {} d.cx.hosts h

/-- A bindable vPPB of a host (R311). -/
def Dev.vppb (d : Dev) (h v : Nat) : Vppb := Tbl.get {} d.cx.vppbs (128 * h + v)

/-- Store a vPPB. -/
def Dev.setVppb (d : Dev) (h v : Nat) (x : Vppb) : Dev :=
  { d with cx := { d.cx with vppbs := Tbl.put {} (128 * h + v) x d.cx.vppbs } }

/-- A committed decoder claims a host physical address (R313). -/
def Hdm.claims (x : Hdm) (hpa : Nat) : Bool := x.committed && decide (x.base ≤ hpa) && decide (hpa < x.base + x.size)

/-- The vPPB a decoder routes an address to (R313). -/
def Hdm.route (x : Hdm) (hpa : Nat) : Nat := ((x.targets.drop ((hpa - x.base) / x.gran % x.ways)).head?).getD 0

/-- The decoders of a table. -/
def hdmList (t : Tbl (Option Hdm)) : List Hdm := t.filterMap (fun p => p.2)

/-- The vPPB that a host's decoders route an address to; none where no committed decoder claims it (R313). -/
def Dev.hdmRoute (d : Dev) (h hpa : Nat) : Option Nat :=
  (firstThat (hdmList (d.cxHost h).decoders) (fun x => x.claims hpa)).map (fun x => x.route hpa)

/-- The device address of the window device that a host address decodes to (R330). -/
def Hdm.toDpa (x : Hdm) (hpa : Nat) : Nat :=
  let off := hpa - x.base
  x.dpa + off / (x.gran * x.ways) * x.gran + off % x.gran

/-- The host address that decodes to a device address, none outside the decoder (R330, R338). -/
def Hdm.toHpa (x : Hdm) (dpa : Nat) : Option Nat :=
  if x.committed ∧ x.dpa ≤ dpa ∧ dpa < x.dpa + x.size / x.ways then
    some (x.base + (dpa - x.dpa) / x.gran * (x.gran * x.ways) + (x.targets.head?).getD 0 * x.gran + (dpa - x.dpa) % x.gran)
  else none

/-- The window device's address for a host address; none where no decoder of this host's view claims it (R330). -/
def Dev.winDpa (d : Dev) (h hpa : Nat) : Option Nat :=
  (firstThat (hdmList (d.cxHost h).winDecoders) (fun x => x.claims hpa)).map (fun x => x.toDpa hpa)

/-- A vPPB is bound to the window device (R311). -/
def Vppb.isWindow (v : Vppb) : Bool := match v.target with | some (p, _) => p == 0xFF | none => false

/-- The vPPB through which a host address leads to a local memory device (R99, R313). -/
def Dev.boundAt (d : Dev) (h pa : Nat) : Option Nat :=
  match d.hdmRoute h pa with
  | some v => (match (d.vppb h v).target with
    | some (p, _) => if p = 0xFF then none else some v
    | none => none)
  | none => none

/-- A read of `len` bytes of a host's memory is issued, through a binding where the address lies in one (R99). -/
def Dev.readMem (d : Dev) (h pa len : Nat) : Dev :=
  match d.boundAt h pa with
  | some v => d.emit (.boundRead h v pa len)
  | none => d.emit (.hostRead h pa len)

/-- Bytes go to physical pieces one by one, each through its binding (R99). -/
def Dev.writePieces (d : Dev) (h : Nat) (data : List Byte) : List (Nat × Nat) → Dev
  | [] => d
  | (pa, n) :: rest =>
    (match d.boundAt h pa with
      | some v => d.emit (.boundBytes h v pa (data.take n))
      | none => d.emit (.hostBytes h [(pa, n)] (data.take n))).writePieces h (data.drop n) rest

/-- A write of bytes to physical pieces of a host's memory (R99). -/
def Dev.writeMem (d : Dev) (h : Nat) (pieces : List (Nat × Nat)) (data : List Byte) : Dev :=
  if pieces.any (fun p => (d.boundAt h p.1).isSome) then d.writePieces h data pieces else d.emit (.hostBytes h pieces data)

/-- Data of an arriving packet is written to a host's memory; it reaches the host's port as a frame from the packet's own fabric port
(R229). -/
def Dev.writeFrom (d : Dev) (p : Packet) (h : Nat) (pieces : List (Nat × Nat)) (data : List Byte) : Dev :=
  let d := d.writeMem h pieces data
  if p.port < 256 then d.emit (.hostData p.port p.tc h pieces data) else d

/-- An address of a host that decodes to a device register window or to a remote window: a walk or a leaf there is
refused with WALK_REGION (R99). -/
def Dev.refusedAddr (d : Dev) (h pa : Nat) : Bool :=
  (d.cxHost h).bars.any (fun b => decide (b.1 ≤ pa) && decide (pa < b.1 + b.2))
    || (match d.hdmRoute h pa with | some v => (d.vppb h v).isWindow | none => false)

end Sys2Proof.Machine
end

