-- ==== Sys2Proof/Machine/Entries.lean ====
section
/-! DEFINITION. Command entries: their fields (R60 to R63, R145, R146, R172, R173, R386) and the checks that make one
malformed (R64, R512). An entry is the number its 64 bytes spell. -/

namespace Sys2Proof.Machine

/-- OPCODE (R60). -/
def entOpcode (e : Nat) : Nat := field e 0 8
/-- INLINE (R62). -/
def entInline (e : Nat) : Bool := flag e 8
/-- INDIRECT (R62). -/
def entIndirect (e : Nat) : Bool := flag e 9
/-- FENCE (R62). -/
def entFence (e : Nat) : Bool := flag e 10
/-- ORDERED (R62). -/
def entOrdered (e : Nat) : Bool := flag e 11
/-- IRQ (R62). -/
def entIrq (e : Nat) : Bool := flag e 12
/-- TC (R60). -/
def entTc (e : Nat) : Nat := field e 16 3
/-- TARGET_NODE (R60). -/
def entNode (e : Nat) : Nat := field e 24 18
/-- TARGET_EP (R60). -/
def entEp (e : Nat) : Nat := field e 42 16
/-- LAP (R54, R60). -/
def entLap (e : Nat) : Bool := flag e 63
/-- LOCAL_ADDR, BUF_ADDR or SRC_ADDR: bytes 8 to 15. -/
def entLocal (e : Nat) : Nat := field e 64 64
/-- REMOTE_ADDR, TAG or DST_ADDR: bytes 16 to 23. -/
def entRemote (e : Nat) : Nat := field e 128 64
/-- LENGTH: bytes 24 to 27. -/
def entLen (e : Nat) : Nat := field e 192 32
/-- Eight bytes of the entry. -/
def entU64 (e byte : Nat) : Nat := field e (8 * byte) 64
/-- LOCAL_KEY: bytes 32 to 34 (R63). -/
def entLocalKey (e : Nat) : Nat := field e 256 24
/-- FRAG_COUNT (R63). -/
def entFragCount (e : Nat) : Nat := field e 256 13

/-- The bits that places, each a bit number and a width, cover. -/
def maskOf : List (Nat × Nat) → Nat
  | [] => 0
  | (lo, len) :: rest => (2 ^ len - 1) <<< lo ||| maskOf rest

/-- Every bit of a 64-byte entry outside the places is zero. -/
def zeroOutside (e : Nat) (places : List (Nat × Nat)) : Bool :=
  e &&& (2 ^ 512 - 1 - maskOf places) == 0

/-- The opcode is listed in R61. -/
def opcodeListed (op : Nat) : Bool :=
  decide (op ≤ 5) || (decide (8 ≤ op) && decide (op ≤ 0xB)) || (decide (0x10 ≤ op) && decide (op ≤ 0x13))
    || (decide (0x18 ≤ op) && decide (op ≤ 0x1B))

/-- Word 0 places of opcode, flags and lap bit that every command has. -/
def word0Common : List (Nat × Nat) := [(0, 8), (8, 5), (63, 1)]

/-- Word 0 places in use, by opcode (R60, R145, R172, R386, R512). -/
def word0Places (op : Nat) : List (Nat × Nat) :=
  if op = 0 then [(0, 8), (8, 3), (12, 1), (63, 1)]
  else if op = 4 then word0Common ++ [(16, 3), (20, 4), (24, 34)]
  else if op ≤ 5 then word0Common ++ [(16, 3), (24, 34)]
  else if op ≤ 0xB then [(0, 8), (8, 3), (12, 1), (63, 1), (16, 3), (24, 18)]
  else if op = 0x10 then [(0, 8), (8, 3), (12, 1), (63, 1), (24, 34)]
  else if op ≤ 0x13 then [(0, 8), (8, 3), (12, 1), (63, 1)]
  else [(0, 8), (8, 3), (12, 1), (63, 1), (16, 20)]

/-- Operand places in use, by opcode and flags (R60, R63, R146, R148, R173, R386). -/
def operandPlaces (e : Nat) : List (Nat × Nat) :=
  let op := entOpcode e
  let addrs := [(64, 64), (128, 64), (192, 32)]
  let localKey := if entIndirect e then [(256, 13)] else [(256, 24)]
  if op = 0 then []
  else if op = 1 then
    addrs ++ [(224, 24)] ++ (if entInline e then [(256, 8 * min 32 (entLen e))] else localKey)
  else if op = 2 then addrs ++ [(224, 24)] ++ localKey
  else if op = 3 then
    addrs ++ [(224, 16)] ++ (if entInline e then [(256, 8 * min 32 (entLen e))] else localKey)
  else if op = 4 then
    let n := if flag e 22 then 128 else 64
    [(128, 64), (192, 32), (224, 24), (256, n)] ++ (if field e 20 2 = 2 then [(384, n)] else [])
  else if op = 5 then addrs ++ [(224, 24)] ++ localKey ++ [(288, 24), (320, 64), (384, 64)]
  else if op ≤ 0xB then [(64, 12), (80, 1), (96, 32)]
  else if op = 0x10 then addrs ++ [(224, 16), (256, 24), (288, 18), (320, 16), (352, 32), (384, 64)]
  else if op = 0x11 then [(352, 32)]
  else if op = 0x12 then [(64, 64), (192, 32), (256, 24)]
  else if op = 0x13 then [(224, 17)]
  else [(64, 64), (128, 64), (192, 11), (256, 24), (288, 24)]

/-- The flag combination is one that reason 3 names (R64, R145, R386, R512). -/
def badFlags (e : Nat) : Bool :=
  let op := entOpcode e
  (entInline e && entIndirect e) || (entInline e && !(op == 1 || op == 3))
    || (entIndirect e && !(op == 1 || op == 2 || op == 3 || op == 5))

/-- Word 0 with every bit outside its places zero. -/
def word0Ok (e : Nat) : Bool :=
  zeroOutside (e % 2 ^ 64) (word0Places (entOpcode e))

/-- LFLAGS.TRY of a lock command belongs to LOCK_ACQUIRE only (R386). -/
def tryOk (e : Nat) : Bool :=
  !(decide (9 ≤ entOpcode e) && decide (entOpcode e ≤ 0xB) && flag e 80)

/-- RESERVED, reason 2: a bit shown as zero is not zero (R64). -/
def badReserved (e : Nat) : Bool :=
  !(word0Ok e)
    || (!(badFlags e) && !(zeroOutside e ([(0, 64)] ++ operandPlaces e) && tryOk e))

/-- Operand bytes of an ATOMIC: 8 or 16 (R60). -/
def atomicSize (e : Nat) : Nat := if flag e 22 then 16 else 8

/-- ATOMIC, reason 5 (R64). -/
def badAtomic (e : Nat) : Bool :=
  decide (entOpcode e = 4) &&
    (decide (2 < field e 20 2) || decide (1 < field e 22 2) || decide (entLen e ≠ atomicSize e)
      || decide (entRemote e % atomicSize e ≠ 0))

/-- FRAG_DESC, reason 6 (R64). -/
def badFragDesc (e : Nat) : Bool :=
  entIndirect e && (decide (entFragCount e = 0) || decide (4096 < entFragCount e) || decide (entLocal e % 16 ≠ 0))

/-- The class an entry is checked against TC_MASK for: none where the CLASS check does not apply (R64, R145, R172,
R512). `groupTc` is the class of the group of a collective command, when the check applies to it. -/
def classChecked (e : Nat) (groupTc : Option Nat) : Option Nat :=
  let op := entOpcode e
  if (1 ≤ op ∧ op ≤ 5) ∨ (8 ≤ op ∧ op ≤ 0xB) then some (entTc e)
  else if 0x18 ≤ op then groupTc
  else none

/-- A collective command that breaks the first check of R175 takes no CLASS check (R172); `formBad` says so. -/
def badClass (e tcMask : Nat) (groupTc : Option Nat) : Bool :=
  match classChecked e groupTc with
  | none => false
  | some tc => !(flag tcMask tc)

/-- The first reason of R64, past the lap bit, that makes an entry malformed. -/
def entryReason (e tcMask : Nat) (groupTc : Option Nat) : Option Nat :=
  if !(opcodeListed (entOpcode e)) then some 1
  else if badReserved e then some 2
  else if badFlags e then some 3
  else if entInline e && decide (32 < entLen e) then some 4
  else if badAtomic e then some 5
  else if badFragDesc e then some 6
  else if badClass e tcMask groupTc then some 7
  else none

/-- The flags of a command use the ordered class: PUT and GET with ORDERED, and every SEND (R62). -/
def usesOrdered (e : Nat) : Bool :=
  entOpcode e == 3 || ((entOpcode e == 1 || entOpcode e == 2) && entOrdered e)

end Sys2Proof.Machine
end

