-- ==== Sys2Proof/Machine/Rings.lean ====
section
/-! DEFINITION. Command and event rings: doorbells, fetch with its reservation, posting, stops and idleness (R54 to R59,
R71 to R76, R82, R83, R515). -/

namespace Sys2Proof.Machine

/-- Status codes of R69 that many rules post. -/
def stOk : Nat := 0x00
def stUnreachable : Nat := 0x01
def stRemoteAccess : Nat := 0x02
def stRemoteDisabled : Nat := 0x03
def stLocalFault : Nat := 0x04
def stFragFormat : Nat := 0x05
def stPageFailed : Nat := 0x06
def stIncomplete : Nat := 0x07
def stMalformed : Nat := 0x08
def stLocalBus : Nat := 0x09

/-- The function is fenced (R80). -/
def Dev.fnFenced (d : Dev) (h : Nat) : Bool := (d.fn h).fenced.isSome

/-- Word 0 of an event entry (R68). -/
def eventWord0 (cmdIndex type status opcode : Nat) : Nat :=
  pack [(16, cmdIndex), (8, type), (8, status), (8, opcode)]

/-- The words of an event are a PAGE_REQUEST (R113). -/
def isPageRequest (words : List Nat) : Bool := field (words.headD 0) 16 8 == 5

/-- Post an event into an endpoint's event ring. With `reserved`, into a reservation held; otherwise into a free slot,
or it waits for one (R70, R73, R75). A PAGE_REQUEST that posts raises its event (R116). Nothing is written for a fenced
function or endpoint (R80, R84). -/
def Dev.postEvent (d : Dev) (ep : Nat) (words : List Nat) (irq reserved : Bool) : Dev :=
  match d.ep ep with
  | none => d
  | some c =>
    let held : EvtRing := if reserved then { c.evt with rsv := c.evt.rsv - 1 } else c.evt
    if d.fnFenced c.fn || c.fenced.isSome then d.setEp ep (some { c with evt := held })
    else if reserved || (decide (0 < held.freeCount) && held.waiting.isEmpty) then
      let (e, o) := held.post c.fn c.msix words irq
      (((d.setEp ep (some { c with evt := e })).emits o).raiseIf (isPageRequest words) evXlPageRequest c.fn).owe (.epIdle ep)
    else d.setEp ep (some { c with evt := { held with waiting := held.waiting ++ [⟨words, irq⟩] } })

/-- Events that wait take the slots that have become free, oldest first (R73, R75). -/
def Dev.drainEvt (d : Dev) (ep : Nat) : Dev :=
  match d.ep ep with
  | none => d
  | some c =>
    if c.evt.waiting.isEmpty || decide (c.evt.freeCount = 0) || d.fnFenced c.fn || c.fenced.isSome then d
    else
      let (e, o) := c.evt.drain c.fn c.msix c.evt.waiting.length
      let posted := c.evt.waiting.take (c.evt.waiting.length - e.waiting.length)
      (forEach (posted.filter (fun w => isPageRequest w.words)) (fun _ d => d.raise evXlPageRequest c.fn)
        ((d.setEp ep (some { c with evt := e })).emits o)).owe (.epIdle ep)

/-- Give back a reservation without an event; an event that waits takes its slot (R73). -/
def Dev.unreserve (d : Dev) (ep : Nat) : Dev :=
  match d.ep ep with
  | none => d
  | some c => ((d.setEp ep (some { c with evt := { c.evt with rsv := c.evt.rsv - 1 } })).drainEvt ep).owe (.epIdle ep)

/-- Reserve one slot for an arriving message (R72): none when no slot is free. -/
def Dev.reserve (d : Dev) (ep : Nat) : Option Dev :=
  match d.ep ep with
  | none => none
  | some c =>
    if c.evt.freeCount = 0 then none
    else some (d.setEp ep (some { c with evt := { c.evt with rsv := c.evt.rsv + 1 } }))

/-- Commands of an endpoint fetched and without a posted event (R83). -/
def Dev.openCmds (d : Dev) (ep : Nat) : List Cmd := d.tp.cmds.filter (fun c => c.ep == ep)

/-- The endpoint holds a page-request record (R83). -/
def Dev.holdsPrq (d : Dev) (ep : Nat) : Bool :=
  d.xl.prq.any (fun p => match p.2 with | some r => r.ep == ep | none => false)

/-- IDLE of an endpoint (R83). -/
def Dev.idle (d : Dev) (ep : Nat) : Bool :=
  match d.ep ep with
  | none => false
  | some c => !c.enable && (d.openCmds ep).isEmpty && c.evt.rsv == 0 && c.evt.waiting.isEmpty && !(d.holdsPrq ep)

/-- Raise EP_IDLE when IDLE has risen (R83). -/
def Dev.checkIdle (d : Dev) (ep : Nat) : Dev :=
  match d.ep ep with
  | none => d
  | some c =>
    let now := d.idle ep
    if now = c.idleSeen then d
    else (d.setEp ep (some { c with idleSeen := now })).raiseIf now evHqEpIdle ep

/-- The distance from one ring position to a later one, none where the second is not later by at most one ring
(R55, R58). -/
def ringDist (size : Nat) (a b : Pos) : Option Nat :=
  if a.lap = b.lap then (if a.index ≤ b.index then some (b.index - a.index) else none)
  else if b.index ≤ a.index then some (size - a.index + b.index) else none

/-- Entries of a command ring. -/
def CmdRing.size (r : CmdRing) : Nat := 2 ^ r.log2

/-- Entries shown and not yet consumed (R55, R56). -/
def CmdRing.shown (r : CmdRing) : Nat := ringCount r.size r.cons r.door

/-- The reads of command entries from the first not issued: one each (R515). -/
def CmdRing.reads (r : CmdRing) (fn n : Nat) : List Out :=
  (upFrom r.issued n).map (fun k => Out.hostRead fn (r.base + 64 * (r.cons.advance r.size k).index) 64)

/-- An endpoint's command ring may be fetched from (R75, R80, R82, R84). -/
def Dev.canFetch (d : Dev) (c : EpCtx) : Bool :=
  c.enable && c.cmd.stopped.isNone && c.fenced.isNone && c.onDie && !(d.fnFenced c.fn)

/-! ### Maintenance queues (R85, R86) -/

/-- A maintenance queue. -/
def Dev.mq (d : Dev) (q : Nat) : MqState := Tbl.get {} d.hq.mq q

/-- Store a maintenance queue. -/
def Dev.setMq (d : Dev) (q : Nat) (m : MqState) : Dev := { d with hq := { d.hq with mq := Tbl.put {} q m d.hq.mq } }

/-- WEIGHT and burst of a queue, and MQ_SHARE as it acts (R85, R87). -/
def Dev.mqWeight (d : Dev) (q : Nat) : Nat := d.fld rHqMqCfg 0 8 q
def Dev.mqBurst (d : Dev) (q : Nat) : Nat := d.fld rHqMqCfg 8 6 q + 1
def Dev.mqShare (d : Dev) : Nat := max 2 (d.fld rHqCtl 16 8)

/-- The firmware puts an entry into a maintenance queue; `bad` says that it will find it malformed (R86). -/
def Dev.mqPut (d : Dev) (q : Nat) (bad : Bool) : Dev :=
  let m := d.mq q
  d.setMq q { m with entries := m.entries ++ [bad], since := if m.entries.isEmpty then d.now else m.since }

/-- Some queue has credit and entries waiting (R86). -/
def Dev.mqReady (d : Dev) : Bool :=
  (upFrom 0 16).any (fun q => decide (0 < (d.mq q).credit) && !(d.mq q).entries.isEmpty)

/-- The maintenance set has work: an entry waits in a queue whose WEIGHT is not 0 (R85, R86). -/
def Dev.mqWork (d : Dev) : Bool :=
  d.hq.mq.any (fun p => !p.2.entries.isEmpty) && (upFrom 0 16).any (fun q => decide (0 < d.mqWeight q) && !(d.mq q).entries.isEmpty)

/-- A new round: credit of every queue is its weight (R86). -/
def Dev.mqRound (d : Dev) : Dev :=
  let d := forEach (upFrom 0 16) (fun q (d : Dev) => d.setMq q { (d.mq q) with credit := d.mqWeight q }) d
  { d with hq := { d.hq with mqPos := 0 } }

/-- The queue that the running pass serves next, from `mqPos` on, wrapping once. -/
def Dev.mqNext (d : Dev) : Option Nat :=
  firstThat (upFrom d.hq.mqPos (16 - d.hq.mqPos) ++ upFrom 0 d.hq.mqPos)
    (fun q => decide (0 < (d.mq q).credit) && !(d.mq q).entries.isEmpty)

/-- The next queue of the pass begins its burst, unless one runs (R86). -/
def Dev.mqBegin (d : Dev) : Dev :=
  if d.hq.mqBurst ≠ 0 then d
  else
    let d := if d.mqReady then d else d.mqRound
    match d.mqNext with
    | none => d
    | some q =>
      let m := d.mq q
      { d with hq := { d.hq with mqPos := q, mqBurst := min (min (d.mqBurst q) m.credit) m.entries.length } }

/-- One fetch slot of the maintenance set: the next entry of the burst issues; a malformed one is skipped with MQ_ERROR
(R86). -/
def Dev.mqIssue (d : Dev) : Dev :=
  let d := d.mqBegin
  let q := d.hq.mqPos
  let m := d.mq q
  match m.entries with
  | [] => d
  | bad :: rest =>
    if d.hq.mqBurst = 0 then d
    else
      let d := d.setMq q { m with entries := rest, credit := m.credit - 1, since := d.now, stalled := false }
      ({ d with hq := { d.hq with
          mqBurst := d.hq.mqBurst - 1, mqPos := if d.hq.mqBurst = 1 then (q + 1) % 16 else q } }).raiseIf bad evHqMqError 0

/-- The queue set is served while the endpoint rings have no work: a burst issues back to back (R85, R86). -/
def Dev.mqServe (d : Dev) : Dev :=
  let d := d.mqBegin
  forEach (upFrom 0 d.hq.mqBurst) (fun _ (d : Dev) => d.mqIssue) { d with hq := { d.hq with mqSlots := 0 } }

/-- Fetch slots of the endpoint rings: while the maintenance set has work, it receives one slot in every MQ_SHARE (R85). -/
def Dev.fetchSlots (d : Dev) : Nat → Dev
  | 0 => d
  | n + 1 =>
    if !d.mqWork then { d with hq := { d.hq with mqSlots := 0 } }
    else if d.mqShare ≤ d.hq.mqSlots + 2 then
      (({ d with hq := { d.hq with mqSlots := 0 } }).mqIssue).fetchSlots n
    else ({ d with hq := { d.hq with mqSlots := d.hq.mqSlots + 1 } }).fetchSlots n

/-- A queue has waited 64 ticks without service (R86). -/
def Dev.mqStall (d : Dev) (q : Nat) : Dev :=
  let m := d.mq q
  if !m.entries.isEmpty && !m.stalled && decide (64 ≤ d.since m.since) then
    (d.setMq q { m with stalled := true }).raise evHqMqStall 0
  else d

/-! ### Fetching (R71, R84, R85, R515) -/

/-- Reserve slots and issue the reads of shown entries, as far as slots are free; a ring that must wait for a slot
raises EVT_WAIT once per wait (R71, R85, R515). -/
def Dev.issue (d : Dev) (ep : Nat) : Dev :=
  match d.ep ep with
  | none => d
  | some c =>
    if !(d.canFetch c) then d
    else
      let wanted := c.cmd.shown - c.cmd.issued
      let n := min wanted c.evt.freeCount
      let waits := decide (n < wanted)
      let raised := if n = 0 then c.cmd.waitRaised else false
      let c' := { c with
        evt := { c.evt with rsv := c.evt.rsv + n },
        cmd := { c.cmd with issued := c.cmd.issued + n, waitRaised := waits } }
      (((d.setEp ep (some c')).emits (c.cmd.reads c.fn n).reverse).fetchSlots n).raiseIf (waits && !raised) evHqEvtWait ep

/-- Latch the first ring error (R75, R80, R87). -/
def Dev.latchHq (d : Dev) (ep index reason fn : Nat) (ctrl : Bool) : Dev :=
  d.latch rHqErrLatch (pack [(16, ep), (16, index), (8, reason), (5, fn), (17, 0), (1, bit ctrl)])

/-- Stop an endpoint's command ring (R75). `bad` is the bad entry's index; it holds a reservation and is consumed. A bad
doorbell holds none. A ring that already stands stopped changes nothing (R76). -/
def Dev.stopRing (d : Dev) (ep reason : Nat) (bad : Option Nat) (post : Bool) : Dev :=
  match d.ep ep with
  | none => d
  | some c =>
    if c.cmd.stopped.isSome then d
    else
      let keep := match bad with | some _ => 1 | none => 0
      let cons := match bad with | some _ => c.cmd.cons.advance c.cmd.size 1 | none => c.cmd.cons
      let index := match bad with | some i => i | none => c.cmd.cons.index
      let c' := { c with
        evt := { c.evt with rsv := c.evt.rsv - (c.cmd.issued - keep) },
        cmd := { c.cmd with
          issued := 0, cons := cons, stopped := some reason, waitRaised := false, retries := 0, stale := false } }
      let status := if reason = 11 then stLocalBus else stMalformed
      let d := ((d.setEp ep (some c')).drainEvt ep).latchHq ep index reason c.fn false
      let d := if post then
          d.postEvent ep [eventWord0 index 2 status reason, 0, 0, 0] c.irqEn bad.isSome
        else if bad.isSome then d.unreserve ep else d
      d.owe (.epIdle ep)

/-- Draw a use stamp for a context (R84). -/
def Dev.touch (d : Dev) (ep : Nat) : Dev :=
  match d.ep ep with
  | none => d
  | some c => { (d.setEp ep (some { c with lastUse := d.hq.useClock })) with
      hq := { (d.setEp ep (some { c with lastUse := d.hq.useClock })).hq with useClock := d.hq.useClock + 1 } }

/-- Begin the fetch of a spilled context from the Cask (R84). -/
def Dev.fetchCtx (d : Dev) (ep : Nat) (c : EpCtx) : Dev :=
  match c.fetching with
  | some _ => d.setEp ep (some c)
  | none =>
    (d.setEp ep (some { c with fetching := some d.now, slow := false })).emit
      (.hostRead c.fn ((d.fn c.fn).cask + 512 * (ep - d.fld rHqFnRange 0 16 c.fn)) 512)

/-- A ring is fetched from again: at once, or when its context has come from the Cask (R76, R82, R84). -/
def Dev.refetch (d : Dev) (ep : Nat) : Dev :=
  match d.ep ep with
  | none => d
  | some c => if c.onDie then d.issue ep else d.fetchCtx ep c

/-- A command doorbell of an endpoint whose context is on die (R58, R76). -/
def Dev.cmdDoor (d : Dev) (ep value : Nat) : Dev :=
  match d.ep ep with
  | none => d
  | some c =>
    let p : Pos := ⟨field value 0 16, flag value 16⟩
    let good := decide (value / 2 ^ 17 = 0) && decide (p.index < c.cmd.size) &&
      (match ringDist c.cmd.size c.cmd.cons p, ringDist c.cmd.size c.cmd.cons c.cmd.door with
        | some n, some m => decide (m ≤ n)
        | _, _ => false)
    let stamps := if p = c.cmd.door then c.cmd.shownAt else c.cmd.shownAt ++ [(p, d.st.ns)]
    if good then ((d.setEp ep (some { c with cmd := { c.cmd with door := p, shownAt := stamps } })).touch ep).issue ep
    else (d.stopRing ep 9 none true).raise evHqDoorbellBad ep

/-- An event doorbell of an endpoint whose context is on die: the host consumer position, ARM, and what the freed slots
let go on (R58, R59, R71, R73). -/
def Dev.evtDoor (d : Dev) (ep value : Nat) : Dev :=
  match d.ep ep with
  | none => d
  | some c =>
    let p : Pos := ⟨field value 0 16, flag value 16⟩
    let good := decide (value / 2 ^ 18 = 0) && decide (p.index < c.evt.size) &&
      (match ringDist c.evt.size c.evt.host p, ringDist c.evt.size c.evt.host c.evt.prod with
        | some n, some m => decide (n ≤ m)
        | _, _ => false)
    if good then
      let r := { c.evt with host := p, armed := c.evt.armed || flag value 17 }
      ((((d.setEp ep (some { c with evt := r })).drainEvt ep).touch ep).issue ep).owe (.epIdle ep)
    else (d.stopRing ep 10 none true).raise evHqDoorbellBad ep

/-- The function whose range holds an endpoint (R87). -/
def Dev.inRange (d : Dev) (h ep : Nat) : Bool :=
  decide (d.fld rHqFnRange 0 16 h ≤ ep) && decide (ep < d.fld rHqFnRange 0 16 h + d.fld rHqFnRange 16 17 h)

/-- A doorbell on page of endpoint `ep` in the window of function `h`: ignored where the endpoint does not exist, held
while its context is fetched (R57, R84). -/
def Dev.doorbell (d : Dev) (h ep which value : Nat) : Dev :=
  match d.ep ep with
  | none => d.raise evHqDbIgnored h
  | some c =>
    if !(d.inRange h ep) || c.fn != h then d.raise evHqDbIgnored h
    else if !c.onDie then d.fetchCtx ep { c with heldDoors := c.heldDoors ++ [(which, value)] }
    else if which = 0 then d.cmdDoor ep value else d.evtDoor ep value

/-- Post the CMD_DONE of a fetched command into its reservation (R68, R71, R136) and let the ring's held commands and its
idleness be looked at. -/
def Dev.cmdDone (d : Dev) (c : Cmd) (status info res0 res1 : Nat) : Dev :=
  let d := { d with tp := { d.tp with
    cmds := d.tp.cmds.filter (fun x => !(x.ep == c.ep && x.index == c.index && x.lap == c.lap)) } }
  let d := d.postEvent c.ep [eventWord0 c.index 1 status (entOpcode c.entry), info, res0, res1] (entIrq c.entry) true
  ((d.owe (.startCmds c.ep)).owe (.sampleDone c status)).owe (.epIdle c.ep)

/-- Replace a fetched command. -/
def Dev.setCmd (d : Dev) (c : Cmd) : Dev :=
  { d with tp := { d.tp with
    cmds := mapFirst d.tp.cmds (fun x => x.ep == c.ep && x.index == c.index && x.lap == c.lap) (fun _ => c) } }

/-- Find a fetched command by its ring position. -/
def Dev.findCmd (d : Dev) (ep index : Nat) (lap : Bool) : Option Cmd :=
  firstThat d.tp.cmds (fun x => x.ep == ep && x.index == index && x.lap == lap)

/-- INFO of a command that ends in a fault of kind `kind` (R68, R109). -/
def faultInfo (kind bytes : Nat) : Nat := bytes % 2 ^ 32 + 2 ^ 32 * kind

/-- A command may start: no earlier command of its ring is held back or, for one with FENCE, still open (R62). -/
def mayStart (earlier : List Cmd) (c : Cmd) : Bool :=
  earlier.all (fun x => x.phase ≠ .held) && (!(entFence c.entry) || earlier.isEmpty)

/-- The first held command of a ring that may start now (R62). -/
def nextStart (earlier : List Cmd) : List Cmd → Option Cmd
  | [] => none
  | c :: rest =>
    if c.phase = .held then (if mayStart earlier c then some c else none)
    else nextStart (earlier ++ [c]) rest

end Sys2Proof.Machine
end

