-- ==== Sys2Proof/Machine/Translate.lean ====
section
/-! DEFINITION. Address translation: tag descriptors, keys, table walks, the caches and their invalidation, fault kinds
and page-request records (R90 to R113, R511). -/

namespace Sys2Proof.Machine

/-- Fault kinds of R109. -/
def fkNotPresent : Nat := 1
def fkPermission : Nat := 2
def fkWalkBus : Nat := 3
def fkWalkRegion : Nat := 4
def fkWalkFormat : Nat := 5
def fkKey : Nat := 6
def fkRange : Nat := 7

/-! ### Tag descriptors (R91, R92) -/

/-- LEVELS of a descriptor. -/
def descLevels (raw : Nat) : Nat := field raw 64 3
/-- VA_BITS of a descriptor. -/
def descVaBits (raw : Nat) : Nat := field raw 72 8
/-- KEYS of a descriptor. -/
def descKeys (raw : Nat) : Bool := flag raw 81
/-- KEY_LOG2 of a descriptor. -/
def descKeyLog2 (raw : Nat) : Nat := field raw 88 8
/-- KEY_BASE of a descriptor. -/
def descKeyBase (raw : Nat) : Nat := field raw 128 64
/-- ROOT of a descriptor. -/
def descRoot (raw : Nat) : Nat := field raw 0 64
/-- The width of the root index, R92. -/
def descRootBits (raw : Nat) : Nat := descVaBits raw - 12 - 9 * (descLevels raw - 1)

/-- A descriptor that every translation of its tag can use (R91, R92). -/
def descOk (raw : Nat) : Bool :=
  flag raw 80 && decide (3 ≤ descLevels raw) && decide (descLevels raw ≤ 5)
    && decide (48 ≤ descVaBits raw) && decide (descVaBits raw ≤ 57) && decide (descKeyLog2 raw ≤ 20)
    && decide (12 + 9 * (descLevels raw - 1) + 1 ≤ descVaBits raw) && decide (descRootBits raw ≤ 18)
    && zeroOutside raw [(12, 40), (64, 3), (72, 8), (80, 2), (88, 8), (140, 40)]
    && decide (descRoot raw % max 4096 (8 * 2 ^ descRootBits raw) = 0)

/-! ### Key entries (R96, R97) -/

/-- The bit of PERM, and of a leaf's rights, that an access kind needs (R98). -/
def AccessKind.bit : AccessKind → Nat
  | .read => 0 | .write => 1 | .atomic => 2

/-- A key entry lets an access through (R97, R98). -/
def keyPasses (raw key va len : Nat) (kind : AccessKind) (remote : Bool) : Bool :=
  flag raw 112 && decide (field raw 120 4 = field key 20 4)
    && decide (field raw 0 64 ≤ va) && decide (va + len ≤ field raw 0 64 + field raw 64 48)
    && flag raw (113 + kind.bit) && (!remote || flag raw 116)

/-! ### Lookups -/

/-- A leaf maps the page at `va`. -/
def Leaf.covers (l : Leaf) (tag va : Nat) : Bool :=
  l.tag == tag && decide (l.va ≤ va) && decide (va < l.va + 2 ^ l.log2)

/-- The level-k index of an address; `raw` is the descriptor (R92). -/
def tableIndex (raw level va : Nat) : Nat :=
  if level + 1 = descLevels raw then field va (12 + 9 * level) (descRootBits raw) else field va (12 + 9 * level) 9

/-- Where a walk for `va` may begin: the lowest level whose table the walk cache knows, else the root (R92, R102). -/
def Dev.walkStart (d : Dev) (tag raw va : Nat) : Nat × Nat :=
  let known (level : Nat) : Option Nat :=
    (firstThat d.xl.walkCache (fun e => e.tag == tag && e.level == level && e.prefix_ == va / 2 ^ (12 + 9 * level))).map
      (fun e => e.table)
  let top := descLevels raw - 1
  match firstThat (upFrom 1 top) (fun k => (known k).isSome) with
  | some k => (k - 1, (known k).getD 0 + 8 * tableIndex raw (k - 1) va)
  | none => (top, descRoot raw + 8 * tableIndex raw top va)

/-- The outcome of looking at an access: its physical pieces, a fault, or a read the walk needs next. -/
inductive XlResult where
  | ok (pieces : List (Nat × Nat))
  | fault (kind : Nat)
  | need (stage : WalkStage)
  deriving DecidableEq, Repr

/-- What an access has found so far (R102: used even where no cache holds it). -/
structure Found where
  leaves : List Leaf := []
  desc : Option Nat := none
  keyRaws : List (Nat × Nat) := []
  tables : List WalkEntry := []
  deriving DecidableEq, Repr

/-- The leaf for a page, from what the access has found or from the cache. -/
def Dev.leafFor (d : Dev) (f : Found) (tag va : Nat) : Option Leaf :=
  match firstThat f.leaves (fun l => l.covers tag va) with
  | some l => some l
  | none => firstThat d.xl.leaves (fun l => l.covers tag va)

/-- The 4 KiB pages an access touches, in address order. -/
def pagesOf (va len : Nat) : List Nat :=
  if len = 0 then [] else (upFrom (va / 4096) ((va + len - 1) / 4096 + 1 - va / 4096)).map (· * 4096)

/-- The physical piece of an access within one of its pages. -/
def pieceIn (l : Leaf) (va len page : Nat) : Nat × Nat :=
  let lo := max va page
  let hi := min (va + len) (page + 4096)
  (l.pa + (lo - l.va), hi - lo)

/-- The reads that may not be made: a walk address in a refused range (R99). -/
def Dev.needOrRegion (d : Dev) (h addr : Nat) (s : WalkStage) : XlResult :=
  if d.refusedAddr h addr then .fault fkWalkRegion else .need s

/-- Look at an access in the order of R511. `failed` names the pages whose NOT_PRESENT is final (R101). -/
def Dev.evalWith (d : Dev) (failed : Nat → Bool) (a : Access) (f : Found) : XlResult :=
  match d.ep a.ep with
  | none => .fault fkWalkFormat
  | some c =>
    let tag := c.asTag
    let tagBase := d.fld rXlFnTags 0 16 c.fn
    if 2 ^ 57 ≤ a.va ∨ 2 ^ 57 < a.va + a.len then .fault fkRange
    else if !(decide (tagBase ≤ tag) && decide (tag < tagBase + d.fld rXlFnTags 16 17 c.fn)) then .fault fkWalkFormat
    else
      let descKnown := match f.desc with
        | some r => some r
        | none => (firstThat d.xl.descs (fun e => e.tag == tag)).map (fun (e : DescEntry) => e.raw)
      match descKnown with
      | none => d.needOrRegion c.fn (d.rd rFnXlTagBase 0 c.fn + 32 * (tag - tagBase)) .desc
      | some raw =>
        if decide (48 ≤ descVaBits raw) && decide (descVaBits raw ≤ 57)
            && (decide (2 ^ descVaBits raw ≤ a.va) || decide (2 ^ descVaBits raw < a.va + a.len))
        then .fault fkRange
        else if !(descOk raw) then .fault fkWalkFormat
        else
          let keyState : Option (Option XlResult) := match a.key with
            | none => none
            | some k =>
              if !(descKeys raw) then (if a.remote then some (some (.fault fkKey)) else none)
              else if 2 ^ descKeyLog2 raw ≤ field k 0 20 then some (some (.fault fkKey))
              else
                let known := match firstThat f.keyRaws (fun q => q.1 == field k 0 20) with
                  | some q => some q.2
                  | none => (firstThat d.xl.keys (fun e => e.tag == tag && e.index == field k 0 20)).map (fun (e : KeyEntry) => e.raw)
                match known with
                | none => some (some (d.needOrRegion c.fn (descKeyBase raw + 16 * field k 0 20) (.key (field k 0 20))))
                | some r => if keyPasses r k a.va a.len a.kind a.remote then none else some (some (.fault fkKey))
          match keyState with
          | some (some r) => r
          | _ =>
            let pages := if a.keyOnly then [] else pagesOf a.va a.len
            match firstThat pages (fun p => failed p || (d.leafFor f tag p).isNone) with
            | some p =>
              if failed p then .fault fkNotPresent
              else
                let (level, addr) := d.walkStart tag raw p
                d.needOrRegion c.fn addr (.table level p addr)
            | none =>
              let leaves := pages.filterMap (fun p => (d.leafFor f tag p).map (fun (l : Leaf) => ((p, l) : Nat × Leaf)))
              if leaves.any (fun (q : Nat × Leaf) => !(flag q.2.rights a.kind.bit) || (a.remote && !(flag q.2.rights 3)))
              then .fault fkPermission
              else if leaves.any (fun (q : Nat × Leaf) => d.refusedAddr c.fn (pieceIn q.2 a.va a.len q.1).1) then .fault fkWalkRegion
              else .ok (leaves.map (fun (q : Nat × Leaf) => pieceIn q.2 a.va a.len q.1))

/-- Look at an access that no page-request record answers. -/
def Dev.evalAccess (d : Dev) (a : Access) (f : Found) : XlResult := d.evalWith (fun _ => false) a f

/-- The record for an endpoint, a page and a side. -/
def Dev.prqFor (d : Dev) (ep page : Nat) (target : Bool) : Option (Nat × PrqRecord) :=
  (firstThat d.xl.prq (fun p => match p.2 with
    | some r => r.ep == ep && r.page == page && r.target == target | none => false)).bind
    (fun p => p.2.map (fun r => (p.1, r)))

/-- A FAILED record at the target answers every arrival for its page and endpoint (R101, R112). -/
def Dev.pageFailed (d : Dev) (ep page : Nat) : Bool :=
  match d.prqFor ep page true with
  | some (_, r) => decide (r.state = .failed)
  | none => false

/-- Look at an access of an arriving packet (R101, R511). -/
def Dev.evalTarget (d : Dev) (a : Access) (f : Found) : XlResult := d.evalWith (d.pageFailed a.ep) a f

/-- The leaves an access uses become the most recently used (R102). -/
def Dev.useLeaves (d : Dev) (a : Access) : Dev :=
  match d.ep a.ep with
  | none => d
  | some c =>
    let used (l : Leaf) : Bool := (pagesOf a.va a.len).any (fun p => l.covers c.asTag p)
    { d with xl := { d.xl with leaves := d.xl.leaves.filter used ++ d.xl.leaves.filter (fun l => !(used l)) } }

/-! ### Filling the caches (R102) -/

/-- The cache set of a leaf. -/
def Leaf.set (l : Leaf) : Nat := Config.xlSet l.tag l.log2 (l.va / 2 ^ l.log2) % 4096

/-- Remove the least recently used unpinned leaf of a set: the last of the list. -/
def evictLast (p : Leaf → Bool) (l : List Leaf) : List Leaf := (removeFirst l.reverse p).reverse

/-- Put a leaf into the translation cache: 8 ways a set, the least recently used unpinned entry replaced; a set of eight
pinned entries holds no new translation (R102). -/
def Dev.cacheLeaf (d : Dev) (l : Leaf) : Dev :=
  let same := d.xl.leaves.filter (fun x => !(x.covers l.tag l.va && decide (x.log2 = l.log2)))
  let keep : Option (List Leaf) :=
    if same.length < 8 then some same
    else if countWhere same (fun x => decide (x.set = l.set)) < 8 then some same
    else if same.any (fun x => decide (x.set = l.set) && !x.pinned) then
      some (evictLast (fun x => decide (x.set = l.set) && !x.pinned) same)
    else none
  match keep with
  | some k => { d with xl := { d.xl with leaves := l :: k } }
  | none => d

/-- Pinned leaves cached. -/
def Dev.pinnedLeaves (d : Dev) : Nat := countWhere d.xl.leaves (fun l => l.pinned)

/-- XL_PIN_MAX as it acts (R115). -/
def Dev.xlPinMax (d : Dev) : Nat := min 16384 (d.fld rXlPinMax 0 16)

/-- Fill the translation cache from a leaf entry (R102, R104). -/
def Dev.fillLeaf (d : Dev) (tag va log2 pa entry : Nat) : Leaf × Dev :=
  let pinned := flag entry 7 && decide (d.pinnedLeaves < d.xlPinMax)
  let l : Leaf := ⟨tag, va / 2 ^ log2 * 2 ^ log2, log2, pa, field entry 2 4, pinned, d.st.boundaries⟩
  (l, (d.cacheLeaf l).raiseIf (flag entry 7 && !pinned) evXlPinFull 0)

/-- Keep the first `n` of a cache, the most recently used. -/
def capped {α : Type} (n : Nat) (l : List α) : List α := l.take n

/-! ### One walk read (R92 to R94, R100) -/

/-- What a walk read leads to: on with the access, or a fault. -/
inductive WalkOutcome where
  | goOn (f : Found)
  | next (f : Found) (stage : WalkStage)
  | fault (f : Found) (kind : Nat)
  deriving DecidableEq, Repr

/-- A table entry breaks its format at a level (R94), but for the group check of CONTIG. -/
def entryBad (entry level va : Nat) : Bool :=
  !(zeroOutside entry [(0, 8), (12, 40)])
    || (if flag entry 1 then
          decide (3 ≤ level) || (flag entry 6 && decide (level ≠ 0))
            || (if flag entry 6 then decide ((field entry 12 40 * 4096 + 65536 * 16 - 4096 * field va 12 4) % 65536 ≠ 0)
                else decide (field entry 12 40 * 4096 % 2 ^ (12 + 9 * level) ≠ 0))
        else decide (level = 0) || decide (field entry 2 6 ≠ 0))

/-- The 16 entries of a CONTIG group agree (R93, R94). -/
def groupOk (data entry va : Nat) : Bool :=
  let base := field entry 12 40 * 4096 - 4096 * field va 12 4
  (upFrom 0 16).all (fun j =>
    decide (field data (64 * j) 12 = field entry 0 12)
      && decide (field data (64 * j) 64 / 4096 % 2 ^ 40 * 4096 = base + 4096 * j)
      && decide (field data (64 * j + 52) 12 = 0))

/-- The descriptor, the keys and the non-leaf entries that an access has read go into their caches, once a walk of it has ended
without a failed read (R91, R96, R100, R102). -/
def Dev.cacheFound (d : Dev) (tag : Nat) (f : Found) : Dev :=
  let descs := match f.desc with
    | some raw => if descOk raw then capped 1024 (DescEntry.mk tag raw :: d.xl.descs.filter (fun e => e.tag != tag)) else d.xl.descs
    | none => d.xl.descs
  let keys := f.keyRaws.foldr (fun (q : Nat × Nat) (l : List KeyEntry) =>
    if flag q.2 112 then capped 4096 (KeyEntry.mk tag q.1 q.2 :: l.filter (fun e => !(e.tag == tag && e.index == q.1))) else l) d.xl.keys
  let tables := f.tables.foldr (fun (w : WalkEntry) (l : List WalkEntry) =>
    capped 2048 (w :: l.filter (fun e => !(e.tag == w.tag && e.level == w.level && e.prefix_ == w.prefix_)))) d.xl.walkCache
  { d with xl := { d.xl with descs := descs, keys := keys, walkCache := tables } }

/-- A read of a walk returns its data (R91 to R94, R96, R99, R102). A leaf ends the walk of its page, and the caches take what
the walk has read. -/
def Dev.walkRead (d : Dev) (w : Walk) (data : Nat) : Dev × WalkOutcome :=
  let f : Found := ⟨w.leaves, w.desc, w.keyRaws, w.tables⟩
  match w.stage with
  | .desc => (d, .goOn { f with desc := some (data % 2 ^ 256) })
  | .key i => (d, .goOn { f with keyRaws := (i, data % 2 ^ 128) :: f.keyRaws })
  | .table level va addr =>
    let entry := data % 2 ^ 64
    if !(flag entry 0) then (d, .fault f fkNotPresent)
    else if entryBad entry level va then (d, .fault f fkWalkFormat)
    else if !(flag entry 1) then
      let table := field entry 12 40 * 4096
      let f := { f with tables := ⟨w.tag, level, va / 2 ^ (12 + 9 * level), table⟩ :: f.tables }
      let addr' := table + 8 * field va (12 + 9 * (level - 1)) 9
      if d.refusedAddr w.fn addr' then (d, .fault f fkWalkRegion) else (d, .next f (.table (level - 1) va addr'))
    else if flag entry 6 then (d, .next f (.group va (addr / 128 * 128) entry))
    else
      let (l, d) := (d.cacheFound w.tag f).fillLeaf w.tag va (12 + 9 * level) (field entry 12 40 * 4096) entry
      (d, .goOn { f with leaves := l :: f.leaves, tables := [] })
  | .group va _ entry =>
    if groupOk data entry va then
      let (l, d) := (d.cacheFound w.tag f).fillLeaf w.tag va 16 (field entry 12 40 * 4096 - 4096 * field va 12 4) entry
      (d, .goOn { f with leaves := l :: f.leaves, tables := [] })
    else (d, .fault f fkWalkFormat)

/-- The read a stage of a walk makes: address and bytes. -/
def Dev.stageRead (d : Dev) (fn tag : Nat) (descRaw : Option Nat) : WalkStage → Nat × Nat
  | .desc => (d.rd rFnXlTagBase 0 fn + 32 * (tag - d.fld rXlFnTags 0 16 fn), 32)
  | .key i => (descKeyBase (descRaw.getD ((firstThat d.xl.descs (fun e => e.tag == tag)).elim 0 (·.raw))) + 16 * i, 16)
  | .table _ _ addr => (addr, 8)
  | .group _ addr _ => (addr, 128)

/-- Begin or go on with a walk: its next read leaves, and the walk waits for it (R100). -/
def Dev.addWalk (d : Dev) (o : XlOwner) (a : Access) (f : Found) (s : WalkStage) : Dev :=
  match d.ep a.ep with
  | none => d
  | some c =>
    let (addr, len) := d.stageRead c.fn c.asTag f.desc s
    ({ d with xl := { d.xl with
        walks := d.xl.walks ++ [Walk.mk d.xl.nextWalk o a c.fn c.asTag s f.leaves f.desc f.keyRaws f.tables false],
        nextWalk := d.xl.nextWalk + 1 } }).readMem c.fn addr len

/-! ### Faults (R109, R115) -/

/-- The source that reports a fault kind (R116). -/
def faultSource (kind : Nat) : Nat :=
  if kind = 2 then evXlPermissionFault else if kind = 3 then evXlWalkBus else if kind = 4 then evXlWalkRegion
  else if kind = 5 then evXlWalkFormat else if kind = 6 then evXlKeyFault else evXlRangeFault

/-- Report a fault other than NOT_PRESENT: the latch with its address, and the event (R109, R115, R116). An access that ends
without a fault kind reports nothing. -/
def Dev.reportFault (d : Dev) (a : Access) (kind : Nat) (target : Bool) : Dev :=
  match d.ep a.ep with
  | none => d
  | some c =>
    if kind ≤ fkNotPresent then d
    else
      let valid := flag (d.rd rXlFaultLatch) 63
      let d := if valid then d else
        (d.latch rXlFaultLatch (pack [(8, kind), (16, c.asTag), (5, c.fn), (1, bit target)])).wr rXlFaultVa a.va
      d.raise (faultSource kind) c.fn

/-! ### Page requests (R110 to R113) -/

/-- Post the PAGE_REQUEST event of a record, or let it wait for a slot (R73, R113). -/
def Dev.postPageRequest (d : Dev) (id : Nat) (r : PrqRecord) (kind : AccessKind) (index : Nat) (table : Bool)
    (srcNode srcEp : Nat) : Dev :=
  match d.ep r.ep with
  | none => d
  | some c =>
    let words := [eventWord0 index 5 stOk 0, r.page,
      pack [(16, id), (8, kind.code), (1, bit r.target), (1, bit table), (6, 0), (18, srcNode)],
      pack [(16, srcEp), (16, c.asTag)]]
    d.postEvent r.ep words c.irqEn false

/-- Store or free a record. -/
def Dev.setPrq (d : Dev) (id : Nat) (r : Option PrqRecord) : Dev :=
  { d with xl := { d.xl with prq := Tbl.put none id r d.xl.prq } }

/-- The lowest free record number, of 4,096. -/
def Dev.freePrq (d : Dev) : Option Nat :=
  if d.xl.prq.length < 4096 then lowest (fun i => (Tbl.get none d.xl.prq i).isNone) 0 4096 else none

/-- The page an access meets NOT_PRESENT on: the first without a leaf. -/
def Dev.missingPage (d : Dev) (a : Access) (f : Found) : Nat :=
  match d.ep a.ep with
  | none => a.va / 4096 * 4096
  | some c => (firstThat (pagesOf a.va a.len) (fun p => (d.leafFor f c.asTag p).isNone)).getD (a.va / 4096 * 4096)

/-- NOT_PRESENT at the initiator: join the record of the page, take one and post its event, or wait for one (R110). -/
def Dev.prqStall (d : Dev) (o : XlOwner) (a : Access) (page index : Nat) (table : Bool) : Dev :=
  match d.prqFor a.ep page false with
  | some (id, r) =>
    match r.state with
    | .resumed =>
      let r' := { r with state := .pending, resumes := r.resumes + 1, waiters := r.waiters ++ [(o, a)] }
      (d.setPrq id (some r')).postPageRequest id r' a.kind index table 0 0
    | _ => d.setPrq id (some { r with waiters := r.waiters ++ [(o, a)] })
  | none =>
    match d.freePrq with
    | some id =>
      let r : PrqRecord := { ep := a.ep, page := page, target := false, since := d.now, waiters := [(o, a)] }
      (d.setPrq id (some r)).postPageRequest id r a.kind index table 0 0
    | none =>
      ({ d with xl := { d.xl with prqQueue := d.xl.prqQueue ++ [(o, a)] } }).raise evXlPrqFull
        ((d.ep a.ep).elim 0 (·.fn))

/-- PRQ_RETRY as it acts (R115). -/
def Dev.prqRetry (d : Dev) : Nat := orOne (d.fld rXlCtl 8 4)

/-- NOT_PRESENT at the target (R112): true where the record is FAILED and the arrival is answered REMOTE_ACCESS. -/
def Dev.prqTarget (d : Dev) (a : Access) (page srcNode srcEp : Nat) : Bool × Dev :=
  match d.prqFor a.ep page true with
  | some (_, r) => (decide (r.state = .failed), d)
  | none =>
    match d.freePrq with
    | some id =>
      let r : PrqRecord := { ep := a.ep, page := page, target := true, since := d.now }
      (false, (d.setPrq id (some r)).postPageRequest id r a.kind 0 false srcNode srcEp)
    | none => (false, d.raise evXlPrqFull ((d.ep a.ep).elim 0 (·.fn)))

/-! ### Bus errors of data accesses (R69) -/

/-- The next data access of an owner is to meet a bus error (R69). -/
def Dev.busOwed (d : Dev) (o : XlOwner) : Dev := { d with xl := { d.xl with busOn := o :: d.xl.busOn.filter (fun x => decide (x ≠ o)) } }

/-- The data access of an owner meets a bus error. -/
def Dev.busMet (d : Dev) (o : XlOwner) : Bool := d.xl.busOn.any (fun x => decide (x = o))

/-- The bus error has been met. -/
def Dev.busTaken (d : Dev) (o : XlOwner) : Dev := { d with xl := { d.xl with busOn := d.xl.busOn.filter (fun x => decide (x ≠ o)) } }

/-! ### Invalidation (R106 to R108) -/

/-- What an invalidate covers. -/
inductive InvScope where
  | range (tag start len : Nat)
  | tag (tag : Nat)
  | tags (lo n : Nat)
  | all
  deriving DecidableEq, Repr

/-- The two ranges overlap. -/
def overlaps (a alen b blen : Nat) : Bool := decide (a < b + blen) && decide (b < a + alen)

/-- The scope covers every entry of a tag. -/
def InvScope.coversTag (s : InvScope) (t : Nat) : Bool :=
  match s with
  | .range _ _ _ => false
  | .tag g => g == t
  | .tags lo n => decide (lo ≤ t) && decide (t < lo + n)
  | .all => true

/-- The scope removes a leaf. -/
def InvScope.dropsLeaf (s : InvScope) (l : Leaf) : Bool :=
  match s with
  | .range g a n => l.tag == g && decide (n ≠ 0) && overlaps l.va (2 ^ l.log2) a n
  | _ => s.coversTag l.tag

/-- The scope removes a walk-cache entry (R106: a range removes every walk entry of its tag). -/
def InvScope.dropsWalk (s : InvScope) (t : Nat) : Bool :=
  match s with
  | .range g _ n => g == t && decide (n ≠ 0)
  | _ => s.coversTag t

/-- The scope removes a key entry. -/
def InvScope.dropsKey (s : InvScope) (k : KeyEntry) : Bool :=
  match s with
  | .range g a n => k.tag == g && decide (n ≠ 0) && overlaps (field k.raw 0 64) (field k.raw 64 48) a n
  | _ => s.coversTag k.tag

/-- The scope removes a descriptor. -/
def InvScope.dropsDesc (s : InvScope) (t : Nat) : Bool := s.coversTag t

/-- The scope covers a walk in progress, whose result is then discarded (R108). DEDUCED (log entry 179): a range covers every
walk of its tag, for it removes every non-leaf entry of the tag, and the page or key that a walk will find may reach into it. -/
def InvScope.coversWalk (s : InvScope) (w : Walk) : Bool := s.dropsWalk w.tag

/-- Remove what a scope covers from every cache, and mark the walks it covers (R106, R108). -/
def Dev.dropScope (d : Dev) (s : InvScope) : Dev :=
  { d with xl := { d.xl with
    leaves := d.xl.leaves.filter (fun l => !(s.dropsLeaf l)),
    walkCache := d.xl.walkCache.filter (fun e => !(s.dropsWalk e.tag)),
    keys := d.xl.keys.filter (fun k => !(s.dropsKey k)),
    descs := d.xl.descs.filter (fun e => !(s.dropsDesc e.tag)),
    walks := d.xl.walks.map (fun w => if s.coversWalk w then { w with discard := true } else w) } }

/-- Begin an accepted invalidate on interface `i` (R106, R107). -/
def Dev.startInv (d : Dev) (i seq : Nat) (s : InvScope) : Dev :=
  let d := d.dropScope s
  let st : InvState := Tbl.get {} d.xl.inv i
  let st' : InvState :=
    { st with busy := true, seq := seq, since := d.now, slow := false, walks := d.xl.walks.map (fun w => w.num) }
  { d with xl := { d.xl with inv := Tbl.put {} i st' d.xl.inv } }

/-- The scope a control-page invalidate names, none where the write is not accepted (R106). -/
def Dev.fnInvScope (d : Dev) (h value : Nat) : Option InvScope :=
  let tag := field value 16 16
  let lo := d.fld rXlFnTags 0 16 h
  let n := d.fld rXlFnTags 16 17 h
  let inside := decide (lo ≤ tag) && decide (tag < lo + n)
  if (Tbl.get {} d.xl.inv h).busy then none
  else match field value 0 2 with
    | 0 => if inside then some (.range tag (d.rd rFnXlInvStart 0 h) (d.rd rFnXlInvLen 0 h)) else none
    | 1 => if inside then some (.tag tag) else none
    | 2 => some (.tags lo n)
    | _ => none

/-- The scope a device invalidate names, none where the write is not accepted (R106). -/
def Dev.devInvScope (d : Dev) (value : Nat) : Option InvScope :=
  let tag := field value 16 16
  let h := field value 2 5
  let inside := (upFrom 0 32).any (fun k =>
    decide (d.fld rXlFnTags 0 16 k ≤ tag) && decide (tag < d.fld rXlFnTags 0 16 k + d.fld rXlFnTags 16 17 k))
  if (Tbl.get {} d.xl.inv 32).busy then none
  else match field value 0 2 with
    | 0 => if inside then some (.range tag (d.rd rXlInvStart) (d.rd rXlInvLen)) else none
    | 1 => if inside then some (.tag tag) else none
    | 2 => if d.fld rXlFnTags 16 17 h = 0 then none
           else some (.tags (d.fld rXlFnTags 0 16 h) (d.fld rXlFnTags 16 17 h))
    | _ => some .all

/-- A write of an invalidate command register: accepted, or dropped with INV_DROPPED (R106). -/
def Dev.invalidate (d : Dev) (i value : Nat) : Dev :=
  let scope := if i < 32 then d.fnInvScope i value else d.devInvScope value
  match scope with
  | some s => d.startInv i (field value 32 16) s
  | none => d.raise evXlInvDropped (if i < 32 then i else
      ((firstThat (upFrom 0 32) (fun k => decide (d.fld rXlFnTags 0 16 k ≤ field value 16 16)
        && decide (field value 16 16 < d.fld rXlFnTags 0 16 k + d.fld rXlFnTags 16 17 k))).getD 0))

/-- An invalidate whose earlier walks have all ended completes (R107). -/
def Dev.invDone (d : Dev) (i : Nat) : Dev :=
  let st : InvState := Tbl.get {} d.xl.inv i
  if st.busy && st.walks.all (fun n => d.xl.walks.all (fun w => w.num != n)) then
    ({ d with xl := { d.xl with inv := Tbl.put {} i { st with busy := false, done := st.seq } d.xl.inv } }).raise
      evXlInvDone 0
  else d

/-- An invalidate still BUSY after 64 ticks raises INV_SLOW once (R107). -/
def Dev.invSlow (d : Dev) (i : Nat) : Dev :=
  let st : InvState := Tbl.get {} d.xl.inv i
  if st.busy && !st.slow && decide (64 ≤ d.since st.since) then
    ({ d with xl := { d.xl with inv := Tbl.put {} i { st with slow := true } d.xl.inv } }).raise evXlInvSlow
      (if i < 32 then i else 0)
  else d

/-- XL_AGE_LIMIT as it acts (R104, R115). -/
def Dev.xlAgeLimit (d : Dev) : Nat := min 1048576 (max 1024 (d.fld rXlAgeLimit 0 21))

/-- An unpinned leaf whose age in local ticks has reached the limit (R104). -/
def Dev.leafOld (d : Dev) (l : Leaf) : Bool := !l.pinned && decide (d.xlAgeLimit ≤ d.waited l.fill)

/-- Sets of the translation cache, of 8 entries each, and those that the sweep visits in a tick (R48, R102). -/
def xlSets : Nat := 4096
def Dev.sweepSets (d : Dev) : Nat := d.quota actAgeing / 8

/-- Sets that the sweep has before it: those that earlier ticks have left, and the present tick's own (R49, R104). -/
def Dev.sweepDue (d : Dev) : Nat := d.xl.behind + d.sweepSets

/-- How far ahead of the sweep the set of a leaf lies. -/
def Dev.sweepDist (d : Dev) (l : Leaf) : Nat := (l.set + xlSets - d.xl.sweep % xlSets) % xlSets

/-- Sets that the quota of the tick allows the sweep to visit: a unit is an entry that is cached (R48; DESIGN CHOICE, log entry
180). -/
def Dev.sweepReach (d : Dev) : Nat :=
  let n := d.quota actAgeing
  if d.xl.leaves.length ≤ n then d.sweepDue
  else (lowest (fun w => decide (n < countWhere d.xl.leaves (fun l => decide (d.sweepDist l < w + 1)))) 0 d.sweepDue).getD d.sweepDue

/-- The sweep visits a leaf in the present tick. -/
def Dev.sweepVisits (d : Dev) (l : Leaf) : Bool := decide (d.sweepDist l < d.sweepReach)

/-- TRANSLATION_AGE_OUT: the ageing sweep meets the cached entry at a place, and removes it where it is old (R48, R104). -/
def Dev.ageOut (d : Dev) (place : Nat) : Dev :=
  match d.xl.leaves[place]? with
  | some l =>
    if d.leafOld l && d.sweepVisits l then { d with xl := { d.xl with leaves := d.xl.leaves.eraseIdx place } } else d
  | none => d

/-- Sets that the sweep has passed in the present tick: up to one with an old entry that it visits and that has not been removed. -/
def Dev.sweepPast (d : Dev) : Nat :=
  (d.xl.leaves.filter (fun l => d.leafOld l && d.sweepVisits l)).foldl (fun m l => min m (d.sweepDist l)) d.sweepReach

/-- The sweep goes on at the end of a tick: past the sets it has visited, up to one with an old entry that has not been removed. The
work of `passed` ticks joins what is left; what is owed never comes to more than a whole sweep (R49, R104, R510; DESIGN CHOICE, log
entry 180). -/
def Dev.sweepOn (d : Dev) (passed : Nat) : Dev :=
  { d with xl := { d.xl with
    sweep := (d.xl.sweep + d.sweepPast) % xlSets,
    behind := min xlSets (d.sweepDue - d.sweepPast + passed * d.sweepSets) } }

/-- An entry of a cache fails its check and is discarded; it is walked again (R116). -/
def Dev.cacheParity (d : Dev) (cache place : Nat) : Dev :=
  let x := d.xl
  ({ d with xl := match cache with
    | 0 => { x with leaves := x.leaves.eraseIdx place }
    | 1 => { x with walkCache := x.walkCache.eraseIdx place }
    | 2 => { x with keys := x.keys.eraseIdx place }
    | _ => { x with descs := x.descs.eraseIdx place } }).raise evXlCacheParity 0

end Sys2Proof.Machine
end

