-- ==== Sys2Proof/Machine/Flow.lean ====
section
/-! DEFINITION. Network time within a tick, and the shaped flows of the pace wheel (R291, R297 to R300). -/

namespace Sys2Proof.Machine

/-- Network time comes to `t`, in ns, within the current tick; a time outside it changes nothing (R31). -/
def Dev.at_ (d : Dev) (t : Nat) : Dev :=
  if d.st.ns ≤ t && decide (t / d.period = d.st.ns / d.period) then { d with st := { d.st with ns := t } } else d

/-- Bytes a frame is charged: its bytes and a signed OVERHEAD of 9 bits, at least 1 (R291). -/
def chargeOf (n ovh : Nat) : Nat := max 1 ((n : Int) + max (-64) (signed ovh 9)).toNat

/-- A flow's state. -/
def Dev.flow (d : Dev) (f : Nat) : ScFlow := Tbl.get {} d.sc.flows f

/-- Store it. -/
def Dev.setFlow (d : Dev) (f : Nat) (x : ScFlow) : Dev := { d with sc := { d.sc with flows := Tbl.put {} f x d.sc.flows } }

/-- RATE as it acts (R297). -/
def Dev.flowRate (d : Dev) (f : Nat) : Nat := min 0x06400000 (d.fld rScFlowCfg 0 32 0 f)

/-- BURST (R297). -/
def Dev.flowBurst (d : Dev) (f : Nat) : Nat := d.fld rScFlowCfg 32 20 0 f

/-- EN (R297). -/
def Dev.flowEn (d : Dev) (f : Nat) : Bool := flag (d.rd rScFlowCfg 0 f) 63

/-- Slot time in 1/65,536 of 8 ns (R297). -/
def Dev.slotTime (d : Dev) : Int := (d.st.ns : Int) * 8192

/-- A flow is eligible (R297, R298). -/
def Dev.flowOk (d : Dev) (f : Nat) : Bool :=
  !(d.flowEn f) || (decide (d.flowRate f ≠ 0) && decide ((d.flow f).te ≤ d.slotTime))

/-- Slots of 1/65,536 that a number of bytes takes at a rate in 16.16 bytes a slot. -/
def slotsOf (bytes rate : Nat) : Nat := bytes * 2 ^ 32 / rate

/-- A frame of `n` bytes of a flow starts (R291, R298). -/
def Dev.flowCharge (d : Dev) (f n : Nat) : Dev :=
  let rate := d.flowRate f
  if rate = 0 then d
  else
    let charge := chargeOf n (d.fld rScFlowCfg 52 9 0 f)
    d.setFlow f { d.flow f with
      te := max (d.flow f).te (d.slotTime - slotsOf (d.flowBurst f) rate) + slotsOf charge rate }

/-- The slot at which TE lies, rounded up (R299). -/
def ScFlow.due (x : ScFlow) : Int := (x.te + 65535) / 65536

/-- A flow that has a frame waiting and is not eligible enters the pace wheel, or is parked in the farthest slot (R299).
A RATE of 0 holds its frames without a slot. -/
def Dev.enterWheel (d : Dev) (f : Nat) : Dev :=
  let x := d.flow f
  let slot := d.st.ns / 8
  if d.flowOk f || decide (d.flowRate f = 0) then d
  else if (slot : Int) + 4095 < x.due then
    (d.setFlow f { x with slot := some ((slot + 4095) % 4096), parked := true }).raise evScPacePark 0
  else d.setFlow f { x with slot := some (x.due.toNat % 4096), parked := false }

/-- A frame of a flow is held: the flow goes on the wheel unless it stands there (R299). -/
def Dev.holdFlow (d : Dev) (f : Nat) : Dev := if (d.flow f).slot.isSome then d else d.enterWheel f

/-- The flow of an endpoint's commands, where SC_EP_FLOW maps one (R297). -/
def Dev.epFlow (d : Dev) (ep : Nat) : Option Nat :=
  if flag (d.rd rScEpFlow ep) 15 then some (d.fld rScEpFlow 0 14 ep) else none

end Sys2Proof.Machine
end

