-- ==== Sys2Proof/Machine/Sampler.lean ====
section
/-! DEFINITION. The precise sampler: which commands it follows, their stamps, and their records (R423 to R428). -/

namespace Sys2Proof.Machine

/-- Records of the sample buffer (R425). -/
def sampleRing : Nat := 4096

/-- SHIFT as it acts (R423). -/
def Dev.sampleShift (d : Dev) : Nat := min 20 (max 4 (d.fld rPcSampCtl 0 5))

/-- PC_SAMP_FILTER admits a command (R423). -/
def Dev.sampleAdmits (d : Dev) (fn ep : Nat) : Bool :=
  let f := d.rd rPcSampFilter
  flag f fn && decide (field f 32 16 ≤ ep) && decide (ep ≤ field f 48 16)

/-- Consumer position of the sample buffer (R425). -/
def Dev.sampleCons (d : Dev) : Pos := ⟨d.fld rPcSampCons 0 12, flag (d.rd rPcSampCons) 12⟩

/-- Producer position of the sample buffer (R425). -/
def Dev.sampleProd (d : Dev) : Pos := ⟨d.pc.prodIndex, d.pc.prodLap⟩

/-- LOST, which saturates at 24 bits (R424, R425, R428). -/
def Dev.sampleLost (d : Dev) (n : Nat) : Dev := { d with pc := { d.pc with lost := satAdd (2 ^ 24 - 1) d.pc.lost n } }

/-- A command is fetched from an endpoint's ring: it is counted, and followed where it is due (R423, R424). -/
def Dev.sampleFetch (d : Dev) (c : SampleRef) : Dev :=
  if !d.pc.enabled || !(d.sampleAdmits c.fn c.ep) then d
  else
    let count := (d.pc.count + 1) % 2 ^ d.sampleShift
    let due := d.pc.due || count == 0
    if !due then { d with pc := { d.pc with count := count } }
    else if 64 ≤ d.pc.follow.length then
      { d with pc := { d.pc with count := count, due := true, skipped := satInc (2 ^ 24 - 1) d.pc.skipped } }
    else
      let seq := (d.pc.seq + 1) % 2 ^ 32
      { d with pc := { d.pc with
        count := count, due := false, seq := seq, follow := d.pc.follow ++ [{ c with seq := seq }] } }

/-- A followed command is the one at a ring position. -/
def SampleRef.is (s : SampleRef) (ep index : Nat) (lap : Bool) : Bool := s.ep == ep && s.index == index && s.lap == lap

/-- Stamp a packet of a followed command as it leaves: `first` for a packet of its first message, `walked` where that
packet needed a local translation, `again` for a reissue (R426, R427). -/
def Dev.sampleSent (d : Dev) (ep index : Nat) (lap first walked again here : Bool) : Dev :=
  let t := d.st.ns
  let mark (s : SampleRef) : SampleRef := { s with
    translated := if first && walked && !again then some t else s.translated,
    firstOut := some (s.firstOut.getD t), lastOut := if again then s.lastOut else some t,
    isLocal := s.isLocal || here }
  { d with pc := { d.pc with follow := mapFirst d.pc.follow (fun s => s.is ep index lap) mark } }

/-- A message of a followed command is reissued (R426). -/
def Dev.sampleRetry (d : Dev) (ep index : Nat) (lap : Bool) : Dev :=
  { d with pc := { d.pc with
    follow := mapFirst d.pc.follow (fun s => s.is ep index lap) (fun s => { s with retries := satInc 0xFFFF s.retries }) } }

/-- The messages a command has: none, one, or as R118 splits it. -/
def Cmd.msgCount (c : Cmd) : Nat :=
  let op := entOpcode c.entry
  if 8 ≤ op ∨ op = 0 then c.total else max 1 c.total

/-- A stage between two stamps; a later stamp never stands before an earlier one (R427). -/
def stage (a b : Nat) : Nat := min 0xFFFFFFFF (b - a)

/-- The 128 bytes of a sample record, as one number (R426, R427). -/
def SampleRef.record (s : SampleRef) (status msgs now : Nat) : Nat :=
  let t2 := max s.fetched (s.translated.getD s.fetched)
  let t3 := max t2 (s.firstOut.getD t2)
  let t4 := max t3 (s.lastOut.getD t3)
  let t5 := max t4 now
  pack [(512, s.desc), (64, s.ringAddr), (16, s.ep), (8, s.fn), (8, bit s.firstOut.isSome + 2 * bit s.isLocal),
    (8, status), (8, min 255 msgs), (16, s.retries), (64, s.t0), (32, stage s.t0 s.fetched), (32, stage s.fetched t2),
    (32, stage t2 t3), (32, stage t3 t4), (32, stage t4 t5), (32, s.seq)]

/-- A sampled command's CMD_DONE posts: its record is written, or lost when the buffer is full (R425). -/
def Dev.sampleDone (d : Dev) (c : Cmd) (status : Nat) : Dev :=
  match firstThat d.pc.follow (fun s => s.is c.ep c.index c.lap) with
  | none => d
  | some s =>
    let d := { d with pc := { d.pc with follow := removeFirst d.pc.follow (fun s => s.is c.ep c.index c.lap) } }
    if ringCount sampleRing d.sampleCons d.sampleProd = sampleRing then d.sampleLost 1
    else
      let p := d.sampleProd
      let w := s.record status c.msgCount d.st.ns
      let d := forEach (upFrom 0 16) (fun i d => d.wr rPcSampRec (field w (64 * i) 64) (16 * p.index + i)) d
      let q := p.advance sampleRing 1
      { d with pc := { d.pc with prodIndex := q.index, prodLap := q.lap } }

/-- Sampled commands of an endpoint that end without a CMD_DONE are dropped and counted in LOST (R424). -/
def Dev.sampleDrop (d : Dev) (ep : Nat) : Dev :=
  let n := countWhere d.pc.follow (fun s => s.ep == ep)
  if n = 0 then d
  else ({ d with pc := { d.pc with follow := d.pc.follow.filter (fun s => s.ep != ep) } }).sampleLost n

/-- A write of PC_SAMP_CONS: a position before the last accepted one, or after the producer, has no effect (R425). -/
def Dev.sampleConsWrite (d : Dev) (value : Nat) : Dev :=
  let p : Pos := ⟨field value 0 12, flag value 12⟩
  match ringDist sampleRing d.sampleCons p, ringDist sampleRing d.sampleCons d.sampleProd with
  | some n, some m => if n ≤ m then d.wr rPcSampCons (field value 0 13) else d
  | _, _ => d

/-- EN and SHIFT take effect at a boundary: a rise starts SEQ anew, a fall drops every followed command, and a write of
either restarts the count (R423, R424). `restart` says that SHIFT or EN was written. -/
def Dev.sampleBoundary (d : Dev) (restart : Bool) : Dev :=
  let en := flag (d.rd rPcSampCtl) 31
  let d := if d.pc.enabled && !en then
      ({ d with pc := { d.pc with follow := [], due := false } }).sampleLost d.pc.follow.length else d
  { d with pc := { d.pc with
    enabled := en, seq := if en && !d.pc.enabled then 0 else d.pc.seq, count := if restart then 0 else d.pc.count,
    due := if restart then false else d.pc.due } }

/-- PC_SAMP_STATUS (R428). -/
def Dev.sampleStatus (d : Dev) : Nat := pack [(8, d.pc.follow.length), (24, d.pc.lost), (24, d.pc.skipped)]

/-- PC_SAMP_PROD (R428). -/
def Dev.sampleProdReg (d : Dev) : Nat := pack [(12, d.pc.prodIndex), (1, bit d.pc.prodLap)]

/-! ### Snapshots and counter pages (R419 to R422) -/

/-- The snapshot of a tick boundary: every counter with its WRAP bit, as `at_` had it, then END (R419, R420). The copy runs whole
within its boundary, so BEGIN equals END afterwards. -/
def Dev.snapshot (d at_ : Dev) : Dev :=
  let lo := rPcSnap.base
  let others := d.regs.filter (fun r => decide (r.1 < lo) || decide (lo + 8 * 1536 ≤ r.1))
  let counters := at_.regs.filter (fun r => decide (rPcCtr.base ≤ r.1) && decide (r.1 < rPcCtr.base + 8 * 1536))
  let d := { d with regs := counters.foldl (fun (t : Tbl Nat) (r : Nat × Nat) => Tbl.put 0 (r.1 - rPcCtr.base + lo) r.2 t) others }
  d.wr rPcSnapTick (pack [(48, d.now), (16, d.now)])

/-- Eight bytes of a counter page, at byte `off` (R421, R422). -/
def Dev.counterPage (d : Dev) (ep off : Nat) : Nat :=
  match d.ep ep with
  | none => 0
  | some c =>
    if !c.ctrPage then 0
    else if off < 8 then field (d.rd rPcSnapTick) 0 48
    else if off < 16 then field (d.rd rPcSnapTick) 48 16
    else if off < 512 ∨ 4096 ≤ off then 0
    else
      let s := (off - 512) / 512
      let cfg := d.rd rPcFnPage c.fn
      let g := field cfg (5 * s) 5
      if flag cfg (35 + s) ∧ g < 24 then d.rd rPcSnap (64 * g + (off % 512) / 8) else 0

end Sys2Proof.Machine
end

