-- ==== Sys2Proof/Machine/Transport.lean ====
section
/-! DEFINITION. Reliable transport: messages, packets and their headers, windows, sending, back-off and failure at the
initiator, and the records and replies of the target (R117 to R140). -/

namespace Sys2Proof.Machine

/-! ### Packets (R119, R121, R122) -/

/-- Bits of a byte for the CRC-32C of R121, reflected polynomial 0x82F6_3B78. -/
def crc32cBits : Nat → Nat → Nat
  | 0, c => c
  | n + 1, c => crc32cBits n (if c % 2 = 1 then (c / 2) ^^^ 0x82F63B78 else c / 2)

/-- CRC-32C of bytes, without the final XOR. -/
def crc32cFold (c : Nat) : List Byte → Nat
  | [] => c
  | b :: rest => crc32cFold (crc32cBits 8 (c ^^^ b.toNat)) rest

/-- E2E_CRC over bytes (R121). -/
def crc32c (b : List Byte) : Nat := crc32cFold 0xFFFFFFFF b ^^^ 0xFFFFFFFF

/-- Packets of a message of `len` bytes (R119). -/
def packetsOf (len : Nat) : Nat := if len = 0 then 1 else (len + 4095) / 4096

/-- Payload bytes of packet `i` of a message of `len` bytes (R119). -/
def packetLen (len i : Nat) : Nat := min 4096 (len - 4096 * i)

/-- TYPE of a header (R122). -/
def hType (h : Nat) : Nat := field h 0 8
/-- FLAGS. -/
def hFirst (h : Nat) : Bool := flag h 8
def hLast (h : Nat) : Bool := flag h 9
def hOrdered (h : Nat) : Bool := flag h 10
def hPrevValid (h : Nat) : Bool := flag h 11
def hPayLen (h : Nat) : Nat := field h 16 13
def hSrcNode (h : Nat) : Nat := field h 32 18
def hSrcEp (h : Nat) : Nat := field h 64 16
def hDstEp (h : Nat) : Nat := field h 80 16
def hMsgId (h : Nat) : Nat := field h 96 32
def hFst (h : Nat) : Nat := field h 128 16
def hAttempt (h : Nat) : Nat := field h 144 4
def hSub (h : Nat) : Nat := field h 152 8
def hOffset (h : Nat) : Nat := field h 160 32
def hMsgLen (h : Nat) : Nat := field h 192 32
def hKey (h : Nat) : Nat := field h 224 24
def hWin (h : Nat) : Nat := field h 224 10
def hKind (h : Nat) : Nat := field h 240 8
def hHint (h : Nat) : Nat := field h 248 8
def hAddr (h : Nat) : Nat := field h 256 64
def hPrevId (h : Nat) : Nat := field h 320 32
def hPrevFst (h : Nat) : Nat := field h 352 16
def hSigKey (h : Nat) : Nat := field h 320 24
def hReqLen (h : Nat) : Nat := field h 384 32
def hSigAddr (h : Nat) : Nat := field h 384 64
def hSigAdd (h : Nat) : Nat := field h 448 64

/-- Transport types of R123. -/
def tyPut : Nat := 0x01
def tyGetReq : Nat := 0x02
def tySend : Nat := 0x03
def tyAtomic : Nat := 0x04
def tyPutSignal : Nat := 0x05
def tyRts : Nat := 0x06
def tyFin : Nat := 0x07
def tyLsReq : Nat := 0x08
def tyLsGrant : Nat := 0x09
def tyWnFill : Nat := 0x0C
def tyWnWrite : Nat := 0x0D
def tyAck : Nat := 0x81
def tyGetResp : Nat := 0x82
def tyNack : Nat := 0x83

/-- NACK reasons of R124. -/
def nkRnr : Nat := 1
def nkPageBusy : Nat := 2
def nkStaging : Nat := 3
def nkRecord : Nat := 4
def nkOrder : Nat := 5

/-- A GET message or a window fill, whose data comes in GET_RESP packets. -/
def Msg.isGet (m : Msg) : Bool := decide (m.type = tyGetReq ∨ m.type = tyWnFill)

/-- The first packet a GET still misses (R138). -/
def firstMissing (bitmap n : Nat) : Nat := (lowest (fun i => !(flag bitmap i)) 0 n).getD n

/-- The header of a request from an offset of its message; `reqLen` is what a GET_REQ asks for, `pay` what any other carries
(R122). -/
def headerAt (node : Nat) (m : Msg) (off reqLen pay : Nat) : Nat :=
  let isGet := m.isGet
  let last := decide (off + (if isGet then reqLen else pay) = m.len)
  let sig := decide (m.type = tyPutSignal) && decide (m.sub = 1)
  pack [(8, m.type), (1, bit (off == 0)), (1, bit last), (1, bit m.ordered), (1, bit m.prev.isSome), (4, 0), (16, pay),
    (32, node), (16, m.srcEp), (16, m.dstEp), (32, m.id.getD 0), (16, m.fst), (8, m.attempt), (8, m.sub), (32, off),
    (32, m.len), (32, m.key), (64, m.addr),
    (64, match m.prev with
      | some (id, fst) => pack [(32, id), (16, fst)]
      | none => if sig then m.sigKey else 0),
    (64, if isGet then reqLen else if sig then m.sigAddr else 0), (64, if sig then m.sigAdd else 0)]

/-- The header of packet `i` of a message. A GET_REQ asks for all from the first packet still missing (R122, R138). -/
def reqHeader (node : Nat) (m : Msg) (i : Nat) : Nat :=
  if m.isGet then headerAt node m (4096 * firstMissing m.bitmap (packetsOf m.len)) (m.len - 4096 * firstMissing m.bitmap (packetsOf m.len)) 0
  else headerAt node m (4096 * i) 0 (packetLen m.len i)

/-- The part of a message's local pieces that covers `len` bytes from `off` (R66). -/
def cutPieces (off len : Nat) : List (Option Nat × Nat × Nat) → List (Option Nat × Nat × Nat)
  | [] => []
  | (va, n, key) :: rest =>
    if len = 0 then []
    else if n ≤ off then cutPieces (off - n) len rest
    else
      let take := min len (n - off)
      (va.map (· + off), take, key) :: cutPieces 0 (len - take) rest

/-! ### Limits (R126, R132, R138) -/

/-- L_max in ticks. -/
def Dev.lmax (d : Dev) : Nat := d.fld rTpLmax 0 16

/-- The arrival age limit and the initiator's lifetime limit: L_max + 2, or + 32 in conservative mode (R45, R132). -/
def Dev.ageLimit (d : Dev) : Nat := d.lmax + (if d.st.conserv then 32 else 2)

/-- How long a COMPLETED record stays (R45, R139). -/
def Dev.keepLimit (d : Dev) : Nat := d.lmax + (if d.st.conserv then 64 else 8)

/-- The age of a packet by its FST, ages just below 2^16 counting as 0 (R132). -/
def Dev.ageOf (d : Dev) (fst : Nat) : Nat :=
  let a := (d.now % 2 ^ 16 + 2 ^ 16 - fst % 2 ^ 16) % 2 ^ 16
  if (if d.st.conserv then 65504 else 65534) ≤ a then 0 else a

/-- RTO as it acts (R141). -/
def Dev.rto (d : Dev) : Nat := max 4 (d.fld rTpCtl 0 8)

/-- RETRY_MAX (R141). -/
def Dev.retryMax (d : Dev) : Nat := d.fld rTpCtl 8 4

/-! ### Windows (R127 to R129) -/

/-- Credits of a message: one for each of its packets (R128). -/
def Msg.wants (m : Msg) : Nat := packetsOf m.len

/-- Messages in flight: those that have been first sent (R117). -/
def Dev.inFlight (d : Dev) : Nat := countWhere d.tp.msgs (fun m => m.id.isSome)

/-- The credit rule of R128. -/
def creditOk (w : WinEntry) (n : Nat) : Bool :=
  decide (w.held + n ≤ w.adv) || (decide (w.adv < n) && decide (w.held = 0))

/-- Every ACK, NACK and GET_RESP sets ADV to its WIN (R128). -/
def Dev.setAdv (d : Dev) (node win : Nat) : Dev :=
  match Tbl.get none d.tp.wins node with
  | none => d
  | some w => { d with tp := { d.tp with wins := Tbl.put none node (some { w with adv := win }) d.tp.wins } }

/-- Give a message's credits back; the entry goes with the last message to the node (R127, R128). -/
def Dev.returnCredits (d : Dev) (m : Msg) : Dev :=
  match Tbl.get none d.tp.wins m.dstNode with
  | none => d
  | some w =>
    let others := d.tp.msgs.any (fun x => x.num != m.num && x.dstNode == m.dstNode && decide (x.credits ≠ 0))
    let w' := if others then some { w with held := w.held - m.credits } else none
    { d with tp := { d.tp with wins := Tbl.put none m.dstNode w' d.tp.wins } }

/-- Staging cells a packet of `pay` payload bytes occupies (R140): 8 + 64 + payload + 4 bytes in cells of 256. -/
def stageCells (pay : Nat) : Nat := (76 + pay + 255) / 256

/-- Staging cells in use (R140). -/
def Dev.stagedCells (d : Dev) : Nat := d.tp.staged.foldl (fun n p => n + stageCells p.2.payload.length) 0

/-- The window a target advertises (R129). -/
def Dev.advertise (d : Dev) : Nat :=
  if 12288 < d.stagedCells then 1
  else min (orOne (d.fld rTpWinCtl 16 10)) (max 1 ((1048576 - d.tp.recs.length) / 1024))

/-! ### Messages -/

/-- A message by the model's number. -/
def Dev.msg (d : Dev) (num : Nat) : Option Msg := firstThat d.tp.msgs (fun m => m.num == num)

/-- A message in flight by MSG_ID and FST (R138). -/
def Dev.msgById (d : Dev) (id fst : Nat) : Option Msg :=
  firstThat d.tp.msgs (fun m => m.id == some id && m.fst % 2 ^ 16 == fst)

/-- A message in flight by MSG_ID. -/
def Dev.msgNamed (d : Dev) (id : Nat) : Option Msg := firstThat d.tp.msgs (fun m => m.id == some id)

/-- Replace a message. -/
def Dev.setMsg (d : Dev) (m : Msg) : Dev :=
  { d with tp := { d.tp with msgs := mapFirst d.tp.msgs (fun x => x.num == m.num) (fun _ => m) } }

/-- Make a message; it waits to be first sent (R42, R516). -/
def Dev.addMsg (d : Dev) (m : Msg) : Dev :=
  { d with tp := { d.tp with
    msgs := d.tp.msgs ++ [{ m with num := d.tp.nextNum, since := d.st.boundaries }], nextNum := d.tp.nextNum + 1 } }

/-- Put the next message of a command right behind the one before it, so that fetch order is kept (R128). -/
def insertAfter (num : Nat) (m : Msg) : List Msg → List Msg
  | [] => [m]
  | x :: rest => if x.num = num then x :: m :: rest else x :: insertAfter num m rest

/-- Make the message that follows another of its command. -/
def Dev.addMsgAfter (d : Dev) (num : Nat) (m : Msg) : Dev :=
  { d with tp := { d.tp with
    msgs := insertAfter num { m with num := d.tp.nextNum, since := d.st.boundaries } d.tp.msgs, nextNum := d.tp.nextNum + 1 } }

/-- Make a message that keeps fetch order among those of other commands: before the first that `later` accepts (R128). -/
def Dev.addMsgBefore (d : Dev) (later : Msg → Bool) (m : Msg) : Dev :=
  let m := { m with num := d.tp.nextNum, since := d.st.boundaries }
  { d with tp := { d.tp with
    msgs := d.tp.msgs.takeWhile (fun x => !(later x)) ++ m :: d.tp.msgs.dropWhile (fun x => !(later x)), nextNum := d.tp.nextNum + 1 } }

/-- A waiter of a page-request record. -/
abbrev PrqWaiter := XlOwner × Access

/-- An access waits for a message: for its sending, or for a discarded range that it is to ask for again (R110). -/
def XlOwner.ofMsg (o : XlOwner) (num : Nat) : Bool :=
  match o with
  | .send n => n == num
  | .again n _ _ => n == num
  | _ => false

/-- A message that ends while it is stalled leaves its page-request record; a record of which it was the last waiter is
freed (R110). -/
def Dev.dropWaiter (d : Dev) (num : Nat) : Dev :=
  let mine (w : PrqWaiter) : Bool := w.1.ofMsg num
  let left := d.xl.prq.filterMap (fun (p : Nat × Option PrqRecord) => match p.2 with
    | none => some p
    | some r =>
      if r.waiters.any mine then
        (let rest := r.waiters.filter (fun w => !(mine w))
         if rest.isEmpty then none else some (p.1, some { r with waiters := rest }))
      else some p)
  let d' := { d with xl := { d.xl with prq := left, prqQueue := d.xl.prqQueue.filter (fun w => !(mine w)) } }
  if left.length < d.xl.prq.length then d'.owe .prqWake else d'

/-- A message ends: it leaves the operation table, returns its credits, and its owner learns of it (R128, R136, R138). -/
def Dev.endMsg (d : Dev) (m : Msg) (status kind reason : Nat) (result : List Byte) : Dev :=
  let d := (d.returnCredits m).dropWaiter m.num
  ({ d with tp := { d.tp with
      msgs := d.tp.msgs.filter (fun x => x.num != m.num), opsFullRaised := false, winFullRaised := false } }).owe
    (.msgEnd m status kind reason result)

/-- A message fails UNREACHABLE (R138). -/
def Dev.unreachable (d : Dev) (m : Msg) (reason : Nat) : Dev :=
  (d.raise evTpUnreachable m.srcEp).endMsg m stUnreachable 0 reason []

/-- The latest earlier ordered message of the same source to the same destination without a final outcome (R137). -/
def Dev.predecessor (d : Dev) (m : Msg) : Option (Nat × Nat) :=
  let p (x : Msg) : Bool := x.num != m.num && x.ordered && x.id.isSome && x.srcEp == m.srcEp
    && x.dstNode == m.dstNode && x.dstEp == m.dstEp
  ((d.tp.msgs.filter p).foldl (fun (b : Option Msg) x => match b with
    | none => some x
    | some y => if (x.id.getD 0 + 2 ^ 32 - y.id.getD 0) % 2 ^ 32 < 2 ^ 31 then some x else some y) none).map
    (fun (x : Msg) => (x.id.getD 0, x.fst % 2 ^ 16))

/-- The local pieces of the packet that leaves next. -/
def Msg.here (m : Msg) : List (Option Nat × Nat × Nat) := cutPieces (4096 * m.nextPkt) (packetLen m.len m.nextPkt) m.pieces

/-- The accesses of the packet that leaves next: its local source pieces with right R (R98). A GET_REQ and a built
payload need none. -/
def Msg.accesses (m : Msg) : List Access :=
  if m.isGet ∨ m.inline_ ≠ [] then []
  else m.here.filterMap
    (fun (p : Option Nat × Nat × Nat) => p.1.map (fun va => Access.mk m.srcEp va p.2.1 .read false (some p.2.2) false))

/-- The payload of the packet that leaves next. -/
def Msg.payload (m : Msg) (fn read : Nat) (pieces : List (Option Nat × Nat)) : Payload :=
  if m.isGet then .none
  else if m.inline_ ≠ [] then .bytes ((m.inline_.drop (4096 * m.nextPkt)).take 4096)
  else if m.len = 0 then .none
  else .host fn read pieces

/-- The first pieces of physical memory that hold `n` bytes. -/
def takePhys (n : Nat) : List (Nat × Nat) → List (Nat × Nat)
  | [] => []
  | (pa, k) :: rest => if n = 0 then [] else (pa, min n k) :: takePhys (n - min n k) rest

/-- What lies behind them. -/
def dropPhys (n : Nat) : List (Nat × Nat) → List (Nat × Nat)
  | [] => []
  | (pa, k) :: rest => if n = 0 then (pa, k) :: rest else if k ≤ n then dropPhys (n - k) rest else (pa + n, k - n) :: rest

/-- The pieces of a payload in order: the physical pieces of the fragments that are read, and zero bytes for the others (R66). -/
def zeroFill : List (Option Nat × Nat × Nat) → List (Nat × Nat) → List (Option Nat × Nat)
  | [], _ => []
  | (none, n, _) :: rest, phys => (none, n) :: zeroFill rest phys
  | (some _, n, _) :: rest, phys => (takePhys n phys).map (fun p => (some p.1, p.2)) ++ zeroFill rest (dropPhys n phys)

/-- Look at accesses in order: all physical pieces, or the first that is not `ok`. -/
def Dev.evalAll (d : Dev) (f : Found) : List Access → List (Nat × Nat) → Except (Access × XlResult) (List (Nat × Nat))
  | [], acc => .ok acc
  | a :: rest, acc =>
    match d.evalAccess a f with
    | .ok p => d.evalAll f rest (acc ++ p)
    | r => .error (a, r)

/-- Take the MSG_ID, first-send tick and predecessor of a message as its first packet leaves (R125, R137). -/
def Dev.launch (d : Dev) (m : Msg) : Dev × Msg :=
  match m.id with
  | some _ => (d, m)
  | none =>
    let m' := { m with
      id := some d.tp.nextId, fst := d.now, prev := if m.ordered then d.predecessor m else none }
    ({ d with tp := { d.tp with nextId := (d.tp.nextId + 1) % 2 ^ 32 } }, m')

/-- The command a message stands for with the sampler: its ring position, and whether this is its first message. -/
def Msg.sampled (m : Msg) : Option (Nat × Nat × Bool × Bool) :=
  match m.owner with
  | .cmd ep index lap k => some (ep, index, lap, k == 0)
  | .rts ep index lap => some (ep, index, lap, true)
  | .lockReq ep index lap => some (ep, index, lap, true)
  | _ => none

/-- The sampler's stamps for a packet that leaves (R426, R427). -/
def Dev.stampPacket (d : Dev) (m : Msg) : Dev :=
  match m.sampled with
  | some (ep, index, lap, first) =>
    d.sampleSent ep index lap first (!m.accesses.isEmpty) (decide (m.attempt ≠ 0)) (m.dstNode == d.node)
  | none => d

/-- One packet of a message leaves (R119, R121, R138: route select is ATTEMPT modulo 4). -/
def Dev.sendPacket (d : Dev) (m : Msg) (payload : Payload) : Dev :=
  (d.stampPacket m).emit (.packet ⟨m.dstNode, m.tc, m.attempt % 4, m.ordered, reqHeader d.node m m.nextPkt, payload⟩)

/-- The function whose memory an endpoint's message uses. -/
def Dev.fnOf (d : Dev) (ep : Nat) : Nat := (d.ep ep).elim 0 (·.fn)

/-- The first message of a list that waits to be first sent to a node. An ordered message waits behind every earlier
one of its source, destination and class of order that has not been first sent (R128, R137, R153). -/
def nextWaiting (node : Nat) (free : Msg → Bool) (earlier : List Msg) : List Msg → Option Msg
  | [] => none
  | m :: rest =>
    if m.dstNode == node && m.id.isNone && decide (m.phase = .waiting) && free m
        && !(m.ordered && earlier.any (fun x => x.ordered && x.id.isNone && x.srcEp == m.srcEp
          && x.dstNode == m.dstNode && x.dstEp == m.dstEp)) then some m
    else nextWaiting node free (earlier ++ [m]) rest

/-- A SEND that was fetched before the command of a message still waits for a rendezvous entry or for its key, for the same
destination: the message waits behind it (R153). -/
def Dev.sendBehind (d : Dev) (m : Msg) : Bool :=
  match m.owner with
  | .cmd ep index lap _ | .rts ep index lap =>
    (decide (m.type = tySend) || decide (m.type = tyRts)) &&
      (d.tp.cmds.takeWhile (fun c => !(c.ep == ep && c.index == index && c.lap == lap))).any
        (fun c => c.ep == ep && decide (entOpcode c.entry = 3) && decide (16384 < entLen c.entry)
          && (decide (c.phase = .rdvWait) || decide (c.phase = .running))
          && entNode c.entry == m.dstNode && entEp c.entry == m.dstEp)
  | _ => false

/-- The message to a node that is to be first sent next: the first in fetch order that waits (R128, R153). -/
def Dev.nextFor (d : Dev) (node : Nat) : Option Msg := nextWaiting node (fun m => !(d.sendBehind m)) [] d.tp.msgs

/-- Messages fetched before one. -/
def Dev.before (d : Dev) (num : Nat) : List Msg := d.tp.msgs.takeWhile (fun x => x.num != num)

/-- WIN_INIT as it acts, and the window of a node: its entry, or the one it would take (R127, R141). -/
def Dev.winOf (d : Dev) (node : Nat) : WinEntry := (Tbl.get none d.tp.wins node).getD ⟨orOne (d.fld rTpWinCtl 0 10), 0⟩

/-- The operation table has an entry for a message: free ones go to the messages that wait for them in fetch order, which the
credit rule lets through (R130). -/
def Dev.opsRoom (d : Dev) (num : Nat) : Bool :=
  let held := d.inFlight
  decide (held < 65536) &&
    (decide (held + d.tp.msgs.length ≤ 65536) ||
      decide (held + countWhere (d.before num) (fun x => x.id.isNone && decide (x.phase = .waiting)
        && !(d.sendBehind x) && creditOk (d.winOf x.dstNode) x.wants) < 65536))

/-- A message may be first sent: the time unit is locked, the operation table and the window cache have room, and the
credit rule holds, for it and for no earlier one that waits for credit of the node (R42, R127, R128, R130, R153). OPS_FULL and
WIN_CACHE_FULL are raised once per wait. -/
def Dev.gate (d : Dev) (m : Msg) : Bool × Dev :=
  if !d.timeOk || d.sendBehind m then (false, d)
  else if !(d.opsRoom m.num) then
    (false, if d.tp.opsFullRaised then d
      else ({ d with tp := { d.tp with opsFullRaised := true } }).raise evTpOpsFull 0)
  else if (Tbl.get none d.tp.wins m.dstNode).isNone ∧ 16384 ≤ d.tp.wins.length then
    (false, if d.tp.winFullRaised then d
      else ({ d with tp := { d.tp with winFullRaised := true } }).raise evTpWinCacheFull 0)
  else (creditOk (d.winOf m.dstNode) m.wants && (nextWaiting m.dstNode (fun x => !(d.sendBehind x)) [] (d.before m.num)).isNone, d)

/-- Take the credits of a message as it is first sent (R127, R128). -/
def Dev.takeCredits (d : Dev) (m : Msg) : Dev × Msg :=
  let w := d.winOf m.dstNode
  ({ d with tp := { d.tp with wins := Tbl.put none m.dstNode (some { w with held := w.held + m.wants }) d.tp.wins } },
    { m with credits := m.wants })

/-- The first packet of a message may leave now: its credits, its MSG_ID and its first-send tick are taken; a message
that was first sent before goes on (R125, R128). -/
def Dev.admitMsg (d : Dev) (m : Msg) : Option (Dev × Msg) × Dev :=
  match m.id with
  | some _ => (some (d, m), d)
  | none =>
    let (ok, d) := d.gate m
    if ok then
      let (d, m) := d.takeCredits m
      (some ((d.owe (.startCmds m.srcEp)).launch m), d)
    else (none, d.setMsg { m with phase := .waiting })

/-- The flow that shapes the packets of a message: its endpoint's, for a message of one of its commands (R297). -/
def Dev.msgFlow (d : Dev) (m : Msg) : Option Nat := if m.sampled.isSome then d.epFlow m.srcEp else none

/-- The flow that holds a message's next packet back (R297, R298). -/
def Dev.paceHeld (d : Dev) (m : Msg) : Option Nat :=
  match d.msgFlow m with
  | some f => if d.flowOk f then none else some f
  | none => none

/-- A packet of a message starts: its flow is charged with PKT_LEN (R291, R298). -/
def Dev.paceStart (d : Dev) (m : Msg) : Dev :=
  match d.msgFlow m with
  | some f => d.flowCharge f (76 + (if m.isGet then 0 else packetLen m.len m.nextPkt))
  | none => d

/-- Send the packets of a message from the next one on, as far as translations allow; none at an age of L_max or more (R65,
R95 to R101, R110, R119, R126). -/
def Dev.pump (d : Dev) (num : Nat) (f : Found) : Nat → Dev
  | 0 => d
  | n + 1 =>
    match d.msg num with
    | none => d
    | some m =>
      match (if m.tableDue then m.table else none) with
      | some (va, len) =>
        let a : Access := ⟨m.srcEp, va, len, .read, false, none, false⟩
        match d.evalAccess a f with
        | .ok _ =>
          if m.badTable then (d.useLeaves a).endMsg m stFragFormat 0 0 []
          else ((d.useLeaves a).setMsg { m with tableDue := false }).pump num f n
        | .need s => (d.setMsg { m with phase := .sending }).addWalk (.send num) a f s
        | .fault k => (d.reportFault a k false).endMsg m stLocalFault k 0 []
      | none =>
        match d.evalAll f m.accesses [] with
        | .error (a, .need s) => (d.setMsg { m with phase := .sending }).addWalk (.send num) a f s
        | .error (a, .fault k) => (d.reportFault a k false).endMsg m stLocalFault k 0 []
        | .error (_, .ok _) => d
        | .ok pieces =>
          if m.id.isSome ∧ d.lmax ≤ d.since m.fst then d
          else
          let d := forEach m.accesses (fun a d => d.useLeaves a) d
          match d.paceHeld m with
          | some fl => (d.setMsg { m with phase := .paced }).holdFlow fl
          | none =>
          match d.admitMsg m with
          | (none, d) => d
          | (some (d, m), _) =>
            let (read, d) := if m.accesses.isEmpty then (0, d) else d.fresh
            let d := (d.sendPacket m (m.payload (d.fnOf m.srcEp) read (zeroFill m.here pieces))).paceStart m
            let last := m.isGet ∨ packetsOf m.len ≤ m.nextPkt + 1
            let m := { m with lastSend := d.now, rtoFrom := d.now }
            if last then d.setMsg { m with phase := .sent, nextPkt := packetsOf m.len }
            else (d.setMsg { m with phase := .sending, nextPkt := m.nextPkt + 1 }).pump num f n

/-- Fuel of a pump: the fragment table and every packet once. -/
def pumpFuel : Nat := 18

/-- Send a whole copy of a message: its fragment table and its source are read and translated again (R65, R138). -/
def Dev.resend (d : Dev) (m : Msg) : Dev :=
  let d := { d with xl := { d.xl with walks := d.xl.walks.filter (fun w => decide (w.owner ≠ XlOwner.send m.num)) } }
  (d.setMsg { m with nextPkt := 0, tableDue := m.table.isSome }).pump m.num {} pumpFuel

/-- An access of a message still waits on a page request, or walks to ask for a discarded range (R110). -/
def Dev.pageWaits (d : Dev) (num : Nat) : Bool :=
  d.xl.prq.any (fun p => match p.2 with | some r => r.waiters.any (fun w => w.1.ofMsg num) | none => false)
    || d.xl.prqQueue.any (fun (w : PrqWaiter) => w.1.ofMsg num)
    || d.xl.walks.any (fun w => match w.owner with | .again n _ _ => n == num | _ => false)

/-- A GET asks for a discarded range again, with its MSG_ID, FST and ATTEMPT; the timeout starts anew (R110). -/
def Dev.askAgain (d : Dev) (m : Msg) (off len : Nat) : Dev :=
  if d.lmax ≤ d.since m.fst then d
  else
    let d := (d.stampPacket m).emit
      (.packet ⟨m.dstNode, m.tc, m.attempt % 4, m.ordered, headerAt d.node m off len 0, .none⟩)
    d.setMsg { m with phase := if d.pageWaits m.num then .stalled else .sent, lastSend := d.now, rtoFrom := d.now }

/-- First send of the next message to a node (R42, R119, R125 to R130). -/
def Dev.firstSend (d : Dev) (node : Nat) : Dev :=
  match d.nextFor node with
  | none => d
  | some m =>
    let (ok, d) := d.gate m
    if ok then d.pump m.num {} pumpFuel else d

/-- Age of a message in flight (R125, R138). -/
def Dev.msgAge (d : Dev) (m : Msg) : Nat := d.since m.fst

/-- The timeout of rule 1 runs: for a message in flight, but for one stalled on a page request or in back-off (R138). -/
def Msg.timed (m : Msg) : Bool :=
  m.id.isSome && decide (m.phase = .sent ∨ m.phase = .sending ∨ m.phase = .paced)

/-- The timeout of rule 1 of R138: a reissue, or UNREACHABLE when the retry budget is spent. -/
def Dev.timeout (d : Dev) (m : Msg) : Dev :=
  if !m.timed ∨ d.since m.rtoFrom < d.rto then d
  else if d.retryMax ≤ m.attempt then d.unreachable m 1
  else if d.lmax ≤ d.msgAge m then d
  else
    let m' := { m with attempt := m.attempt + 1 }
    let d := match m.sampled with | some (ep, index, lap, _) => d.sampleRetry ep index lap | none => d
    (d.raise evTpRetransmit m.srcEp).resend m'

/-- The end of a back-off: the whole message again, ATTEMPT unchanged, never at an age of L_max or more (R138). -/
def Dev.backoffEnd (d : Dev) (m : Msg) : Dev :=
  match m.phase with
  | .backoff u _ =>
    if since48 d.now u < 2 ^ 47 then
      if d.lmax ≤ d.msgAge m then d else d.resend m
    else d
  | _ => d

/-- The lifetime limit of rule 3 of R138; of a message stalled on a page request the reason is LIFETIME (R110). -/
def Dev.lifetime (d : Dev) (m : Msg) : Dev :=
  if m.id.isSome ∧ d.ageLimit ≤ d.msgAge m then
    d.unreachable m (if m.phase = .stalled then 2 else match m.lastNack with | some r => r + 2 | none => 2)
  else d

/-! ### Replies of the target (R122, R124) -/

/-- A reply to a request header. -/
def Dev.reply (d : Dev) (tc h type flags sub offset info : Nat) (pay : Nat) (payload : Payload) : Dev :=
  let hdr := pack [(8, type), (8, flags), (16, pay), (32, d.node), (16, hDstEp h), (16, hSrcEp h), (32, hMsgId h),
    (16, hFst h), (8, hAttempt h), (8, sub), (32, offset), (32, hMsgLen h), (32, info)]
  d.emit (.packet ⟨hSrcNode h, tc, hAttempt h % 4, false, hdr, payload⟩)

/-- The final outcome of a message: its ACK (R123). -/
def Dev.sendAck (d : Dev) (tc h status kind : Nat) (result : List Byte) : Dev :=
  d.reply tc h tyAck 0 status 0 (d.advertise + 2 ^ 16 * kind) result.length
    (if result = [] then .none else .bytes result)

/-- A retryable refusal with its hint (R124). -/
def Dev.sendNack (d : Dev) (tc h reason : Nat) : Dev :=
  let hint := if reason = nkRnr then d.fld rHqCtl 8 8
    else if reason = nkPageBusy then d.fld rXlCtl 0 8
    else if reason = nkOrder then orOne (d.fld rTpCtl 20 8)
    else orOne (d.fld rTpCtl 12 8)
  d.reply tc h tyNack 0 reason 0 (d.advertise + 2 ^ 24 * hint) 0 .none

/-- Latch the first dropped packet (R141). -/
def Dev.latchTp (d : Dev) (h reason : Nat) : Dev :=
  d.latch rTpErrLatch (pack [(18, hSrcNode h), (8, hType h), (4, reason), (16, hDstEp h)])

/-! ### Target records (R131, R133, R137, R139) -/

/-- The record of a message. -/
def Dev.findRec (d : Dev) (srcNode msgId fst : Nat) : Option TgtRec :=
  firstThat d.tp.recs (fun r => r.srcNode == srcNode && r.msgId == msgId && r.fst == fst)

/-- The record of an arriving packet's message. -/
def Dev.recFor (d : Dev) (h : Nat) : Option TgtRec := d.findRec (hSrcNode h) (hMsgId h) (hFst h)

/-- Two records are of one message. -/
def TgtRec.same (r s : TgtRec) : Bool := r.srcNode == s.srcNode && r.msgId == s.msgId && r.fst == s.fst

/-- Store a record: in place of the one of its message, or as a new one. -/
def Dev.putRec (d : Dev) (r : TgtRec) : Dev :=
  if d.tp.recs.any (fun s => s.same r) then
    { d with tp := { d.tp with recs := mapFirst d.tp.recs (fun s => s.same r) (fun _ => r) } }
  else { d with tp := { d.tp with recs := d.tp.recs ++ [r] } }

/-- Free a record. -/
def Dev.dropRec (d : Dev) (r : TgtRec) : Dev :=
  { d with tp := { d.tp with recs := d.tp.recs.filter (fun s => !(s.same r)) } }

/-- A record is free (R117). -/
def Dev.recFree (d : Dev) : Bool := decide (d.tp.recs.length < 1048576)

/-- A fresh record for the message of a request header. -/
def Dev.newRec (d : Dev) (h tc : Nat) : TgtRec :=
  { srcNode := hSrcNode h, srcEp := hSrcEp h, msgId := hMsgId h, fst := hFst h, dstEp := hDstEp h, type := hType h,
    tc := tc, msgLen := hMsgLen h, sigKey := hSigKey h, sigAddr := hSigAddr h, sigAdd := hSigAdd h,
    sig := decide (hType h = tyPutSignal) && flag (hSub h) 0, tag := hAddr h, ctx := hKey h % 2 ^ 16, since := d.now }

/-- A record completes (R139). -/
def Dev.completeRec (d : Dev) (r : TgtRec) (status kind : Nat) : Dev :=
  d.putRec { r with state := .completed status kind, doneAt := d.now, rsv := false }

/-- Its predecessor allows a first packet in (R137). -/
def Dev.prevOk (d : Dev) (h : Nat) : Bool :=
  !(hPrevValid h)
    || (match d.findRec (hSrcNode h) (hPrevId h) (hPrevFst h) with | some r => r.firstDone | none => false)
    || decide (d.ageLimit < d.ageOf (hPrevFst h))

/-- The retention of a COMPLETED record has ended (R139). -/
def Dev.recDue (d : Dev) (r : TgtRec) : Bool :=
  match r.state with
  | .completed _ _ => decide (d.keepLimit ≤ d.since r.doneAt)
  | _ => false

/-- No other record has been due for longer (R49). -/
def Dev.recFirst (d : Dev) (r : TgtRec) : Bool :=
  d.tp.recs.all (fun q => !(d.recDue q) || decide (d.since q.doneAt ≤ d.since r.doneAt))

/-- RECORD_EXPIRY: a record whose retention has ended is removed, the oldest first, where the quota of the tick allows (R48, R49,
R139). -/
def Dev.expireRec (d : Dev) (r : TgtRec) : Dev :=
  if d.recDue r && d.recFirst r then d.within actExpiry (fun d => d.dropRec r) else d

end Sys2Proof.Machine
end

