-- ==== Sys2Proof/Machine/Matching.lean ====
section
/-! DEFINITION. Message matching and rendezvous: posted receives, unexpected messages and their area, eager delivery,
pulls and FIN (R143 to R165). -/

namespace Sys2Proof.Machine

/-- Statuses of R162. -/
def stTruncated : Nat := 0x10
def stPostFull : Nat := 0x11
def stCancelMiss : Nat := 0x12
def stUbufBusy : Nat := 0x13
def stUbufForm : Nat := 0x14
def stDiscarded : Nat := 0x15
def stRdvIndirect : Nat := 0x16
def stRdvExpired : Nat := 0x17

/-- A receive matches a message's key (R143). -/
def Posted.takes (p : Posted) (ctx tag node sep : Nat) : Bool :=
  p.ctx == ctx && (tag ^^^ p.tag) &&& p.tagMask == 0 && (node ^^^ p.srcNode) &&& p.nodeMask == 0
    && (sep ^^^ p.srcEp) &&& p.epMask == 0

/-- A receive whose three masks are all ones is exact (R144). -/
def Posted.exact (p : Posted) : Bool :=
  p.tagMask == 2 ^ 64 - 1 && p.nodeMask == 2 ^ 18 - 1 && p.epMask == 2 ^ 16 - 1

/-- The bin of an exact receive. -/
def Posted.bin (p : Posted) : Nat := Config.mxBin p.ep p.ctx p.srcNode p.srcEp p.tag % 262144

/-- Items up to and with the first that a test accepts. -/
def scanned {α : Type} (l : List α) (p : α → Bool) : Nat :=
  match l with
  | [] => 0
  | a :: rest => if p a then 1 else 1 + scanned rest p

/-- SCAN_WARN as it acts (R166). -/
def Dev.scanWarn (d : Dev) : Nat := orOne (d.fld rMxCtl 8 16)

/-- Entries that the search for an arriving message examines (R149): its bin's chain up to the candidate, and the
wildcard list up to a match or past the candidate's sequence. -/
def Dev.matchCost (d : Dev) (ep ctx tag node sep : Nat) : Nat :=
  let exacts := d.mx.posted.filter (fun p => p.exact && p.bin == Config.mxBin ep ctx node sep tag % 262144)
  let cand := firstThat exacts (fun p => p.ep == ep && p.takes ctx tag node sep)
  let wild := d.mx.posted.filter (fun p => p.ep == ep && !p.exact)
  scanned exacts (fun p => p.ep == ep && p.takes ctx tag node sep)
    + scanned wild (fun p => p.takes ctx tag node sep || (match cand with | some c => decide (c.seq < p.seq) | none => false))

/-- LONG_SCAN when a search examined more than SCAN_WARN entries (R149). A pool that holds no more cannot. -/
def Dev.longScan (d : Dev) (pool cost : Nat) (ep : Nat) : Dev :=
  if pool ≤ d.scanWarn then d else d.raiseIf (decide (d.scanWarn < cost)) evMxLongScan ep

/-- The receive with the lowest post sequence that matches: the first in posting order (R149). -/
def Dev.firstMatch (d : Dev) (ep ctx tag node sep : Nat) : Option Posted :=
  firstThat d.mx.posted (fun p => p.ep == ep && p.takes ctx tag node sep)

/-- Remove a posted receive. -/
def Dev.unpost (d : Dev) (p : Posted) : Dev :=
  { d with mx := { d.mx with posted := d.mx.posted.filter (fun q => !(q.ep == p.ep && q.seq == p.seq)) } }

/-- The binding to a receive. -/
def Posted.binding (p : Posted) : Binding := ⟨p.bufAddr, p.key, p.len, p.recvId⟩

/-- What MX keeps for an endpoint. -/
def Dev.mxEp (d : Dev) (ep : Nat) : MxEp := Tbl.get {} d.mx.eps ep

/-- Store what MX keeps for an endpoint. -/
def Dev.setMxEp (d : Dev) (ep : Nat) (m : MxEp) : Dev := { d with mx := { d.mx with eps := Tbl.put {} ep m d.mx.eps } }

/-! ### The unexpected area (R151) -/

/-- Area bytes an unexpected SEND of `len` bytes takes (R151). -/
def areaNeed (len : Nat) : Nat := (len + 63) / 64 * 64

/-- Where an allocation of `n` bytes goes in the circle, if it fits (R151). -/
def MxEp.place (m : MxEp) (n : Nat) : Option Nat :=
  match m.area with
  | none => none
  | some (_, log2, _) =>
    match m.alloc with
    | [] => if m.next + n ≤ 2 ^ log2 then some m.next else if n ≤ 2 ^ log2 then some 0 else none
    | (_, o, _, _) :: _ =>
      if o < m.next then
        (if m.next + n ≤ 2 ^ log2 then some m.next else if n ≤ o then some 0 else none)
      else if m.next + n ≤ o then some m.next else none

/-- Free the space of a header; space frees in allocation order (R151). -/
def MxEp.release (m : MxEp) (num : Nat) : MxEp :=
  let marked := m.alloc.map (fun (a : Nat × Nat × Nat × Bool) => if a.1 = num then (a.1, a.2.1, a.2.2.1, true) else a)
  { m with alloc := marked.dropWhile (fun a => a.2.2.2) }

/-- Area bytes held. -/
def MxEp.used (m : MxEp) : Nat := m.alloc.foldl (fun n a => n + a.2.2.1) 0

/-- Remove an unexpected header and free its area space. -/
def Dev.dropHdr (d : Dev) (u : UnexpHdr) : Dev :=
  let d := { d with mx := { d.mx with
    unexp := d.mx.unexp.filter (fun x => x.num != u.num), copies := d.mx.copies.filter (fun n => n != u.num) } }
  d.setMxEp u.ep ((d.mxEp u.ep).release u.num)

/-- Replace an unexpected header. -/
def Dev.setHdr (d : Dev) (u : UnexpHdr) : Dev :=
  { d with mx := { d.mx with unexp := mapFirst d.mx.unexp (fun x => x.num == u.num) (fun _ => u) } }

/-- An unexpected header by number. -/
def Dev.hdr (d : Dev) (num : Nat) : Option UnexpHdr := firstThat d.mx.unexp (fun x => x.num == num)

/-- Unexpected headers held for a function. -/
def Dev.fnUnexp (d : Dev) (h : Nat) : Nat := countWhere d.mx.unexp (fun u => d.fnOf u.ep == h)

/-- Posted receives held for a function. -/
def Dev.fnPosted (d : Dev) (h : Nat) : Nat := countWhere d.mx.posted (fun p => d.fnOf p.ep == h)

/-! ### The RECV event (R161) -/

/-- Post a RECV event into the message's reservation (R161, R167). -/
def Dev.recvEvent (d : Dev) (ep status tag msgLen srcNode srcEp ctx recvId kind : Nat) (rdv unexp : Bool) : Dev :=
  let irq := (d.ep ep).elim false (fun c => c.irqEn)
  let words := [eventWord0 0 3 status 0, tag,
    pack [(32, msgLen), (18, srcNode), (1, bit rdv), (1, bit unexp), (8, kind)],
    pack [(16, srcEp), (16, ctx), (32, recvId)]]
  (d.postEvent ep words irq true).raiseIf (decide (status = stTruncated)) evMxTruncated ep

/-! ### Pulls (R157, R158) -/

/-- GET messages of a pull (R118). -/
def Pull.total (p : Pull) : Nat := if p.want = 0 then 1 else (p.want + 65535) / 65536

/-- A pull has met a failed GET. -/
def Pull.failed (p : Pull) : Bool := p.outcomes.any (fun o => decide (o.status ≠ stOk))

/-- GET message `k` of a pull (R157). -/
def Pull.get (p : Pull) (k : Nat) : Msg :=
  let len := min 65536 (p.want - 65536 * k)
  { num := 0, owner := .pull p.num k, type := tyGetReq, srcEp := p.ep, dstNode := p.srcNode, dstEp := p.srcEp, tc := p.tc,
    len := len, addr := p.srcAddr + 65536 * k, key := p.rkey,
    pieces := [(some (p.bound.bufAddr + 65536 * k), len, p.bound.key)] }

/-- PULL_MAX as it acts (R166). -/
def Dev.pullMax (d : Dev) : Nat := orOne (d.fld rMxCtl 0 5)

/-- Replace a pull. -/
def Dev.setPull (d : Dev) (p : Pull) : Dev :=
  { d with mx := { d.mx with pulls := mapFirst d.mx.pulls (fun q => q.num == p.num) (fun _ => p) } }

/-- Make GETs of a pull while fewer than PULL_MAX are in flight (R157). -/
def Dev.feedPull (d : Dev) (num : Nat) : Nat → Dev
  | 0 => d
  | n + 1 =>
    match firstThat d.mx.pulls (fun q => q.num == num) with
    | none => d
    | some p =>
      if p.failed || decide (p.total ≤ p.made) || decide (d.pullMax ≤ p.made - p.outcomes.length) then d
      else ((d.addMsg (p.get p.made)).setPull { p with made := p.made + 1 }).feedPull num n

/-- Start the pull of a bound RTS (R157). -/
def Dev.startPull (d : Dev) (u : UnexpHdr) (b : Binding) (unexp : Bool) : Dev :=
  let p : Pull :=
    { num := d.mx.nextPull, ep := u.ep, srcNode := u.srcNode, srcEp := u.srcEp, tc := u.tc, rtsId := u.msgId,
      rtsFst := u.fst, srcAddr := u.srcAddr, rkey := u.rkey, totalLen := u.len, ctx := u.ctx, tag := u.tag, bound := b,
      unexp := unexp, want := min u.len b.len }
  ({ d with mx := { d.mx with pulls := d.mx.pulls ++ [p], nextPull := d.mx.nextPull + 1 } }).feedPull p.num 32

/-- The message FIN (R158). -/
def finMsg (ep srcNode srcEp tc rtsId rtsFst status kind pulled : Nat) : Msg :=
  { num := 0, owner := .fin, type := tyFin, srcEp := ep, dstNode := srcNode, dstEp := srcEp, tc := tc, len := 16, addr := 0,
    key := 0, inline_ := toBytes 4 rtsId ++ toBytes 2 rtsFst ++ toBytes 1 status ++ toBytes 1 kind ++ toBytes 4 pulled
      ++ toBytes 4 0 }

/-- The lowest-numbered outcome that is not OK (R136). -/
def worstOutcome (l : List MsgOutcome) : Option MsgOutcome :=
  l.foldl (fun (b : Option MsgOutcome) o =>
    if o.status = stOk then b else match b with
      | none => some o
      | some w => if o.k < w.k then some o else some w) none

/-- A pull that has ended posts RECV and sends FIN, in that order (R157, R158). -/
def Dev.endPull (d : Dev) (p : Pull) : Dev :=
  let worst := worstOutcome p.outcomes
  let status := match worst with
    | some w => w.status
    | none => if p.want < p.totalLen then stTruncated else stOk
  let kind := worst.elim 0 (fun w => w.kind)
  let pulled := match worst with | some w => 65536 * w.k | none => p.want
  let d := { d with mx := { d.mx with pulls := d.mx.pulls.filter (fun q => q.num != p.num) } }
  let d := d.raiseIf worst.isSome evMxPullFailed p.ep
  let d := d.recvEvent p.ep status p.tag p.totalLen p.srcNode p.srcEp p.ctx p.bound.recvId kind true p.unexp
  d.addMsg (finMsg p.ep p.srcNode p.srcEp p.tc p.rtsId p.rtsFst status kind pulled)

/-- One GET of a pull has ended; after a failure none of its unsent GETs starts (R136, R157). -/
def Dev.pullMsgEnd (d : Dev) (num : Nat) (o : MsgOutcome) : Dev :=
  match firstThat d.mx.pulls (fun q => q.num == num) with
  | none => d
  | some p =>
    let p1 : Pull := { p with outcomes := p.outcomes ++ [o] }
    let unsent (m : Msg) : Bool := p1.failed && m.id.isNone && (match m.owner with | .pull n _ => n == num | _ => false)
    let p' : Pull := { p1 with made := p1.made - countWhere d.tp.msgs unsent }
    let d := forEach (d.tp.msgs.filter unsent) (fun m d => d.dropWaiter m.num)
      { d with tp := { d.tp with msgs := d.tp.msgs.filter (fun m => !(unsent m)) } }
    if decide (p'.outcomes.length = p'.made) && (p'.failed || decide (p'.made = p'.total)) then (d.setPull p').endPull p'
    else (d.setPull p').feedPull num 32

/-! ### Receive commands (R145 to R148) -/

/-- The posted receive a POST_RECV entry describes (R146). -/
def postedOf (ep seq e : Nat) : Posted :=
  { ep := ep, seq := seq, bufAddr := entLocal e, tag := entRemote e, len := entLen e, ctx := field e 224 16,
    key := entLocalKey e, srcNode := entNode e, srcEp := entEp e, nodeMask := field e 288 18, epMask := field e 320 16,
    tagMask := field e 384 64, recvId := field e 352 32 }

/-- A receive binds to an unexpected header: a pull, a copy, or a copy owed on completion (R154, R157). -/
def Dev.bindHdr (d : Dev) (u : UnexpHdr) (b : Binding) : Dev :=
  if u.rts then (d.dropHdr u).startPull u b true
  else
    let d := d.setHdr { u with bound := some b }
    if u.complete then { d with mx := { d.mx with copies := d.mx.copies ++ [u.num] } } else d

/-- POST_RECV (R147, R150). -/
def Dev.postRecv (d : Dev) (c : Cmd) : Dev :=
  let m := d.mxEp c.ep
  let p := postedOf c.ep m.seq c.entry
  let d := d.setMxEp c.ep { m with seq := (m.seq + 1) % 2 ^ 64 }
  let fits (u : UnexpHdr) : Bool :=
    u.ep == c.ep && u.bound.isNone && !u.discard && p.takes u.ctx u.tag u.srcNode u.srcEp
  let list := d.mx.unexp.filter (fun u => u.ep == c.ep && u.bound.isNone
    && (!p.exact || (u.srcNode == p.srcNode && u.srcEp == p.srcEp)))
  let d := d.longScan d.mx.unexp.length (scanned list fits) c.ep
  match firstThat d.mx.unexp fits with
  | some u => (d.bindHdr u p.binding).cmdDone c stOk 0 0 0
  | none =>
    let h := d.fnOf c.ep
    let quota := d.fld rMxFnQuota 0 21 h
    let overQuota := decide (quota ≠ 0) && decide (quota ≤ d.fnPosted h)
    if overQuota || decide (1048576 ≤ d.mx.posted.length) then
      ((d.raise evMxPostFull h).raiseIf overQuota evMxQuotaHit h).cmdDone c stPostFull 0 0 0
    else ({ d with mx := { d.mx with posted := d.mx.posted ++ [p] } }).cmdDone c stOk 0 0 0

/-- CANCEL_RECV (R148). -/
def Dev.cancelRecv (d : Dev) (c : Cmd) : Dev :=
  match firstThat d.mx.posted (fun p => p.ep == c.ep && p.recvId == field c.entry 352 32) with
  | some p => (d.unpost p).cmdDone c stOk 0 0 0
  | none => (d.raise evMxCancelMiss c.ep).cmdDone c stCancelMiss 0 0 0

/-- CANCEL_ALL (R148). -/
def Dev.cancelAll (d : Dev) (c : Cmd) : Dev :=
  let hit (p : Posted) : Bool := p.ep == c.ep && (flag c.entry 240 || p.ctx == field c.entry 224 16)
  let n := countWhere d.mx.posted hit
  ({ d with mx := { d.mx with posted := d.mx.posted.filter (fun p => !(hit p)) } }).cmdDone c stOk n 0 0

/-- A length SET_UBUF accepts: a power of two from 2^16 to 2^30 (R148). -/
def ubufLog2 (len : Nat) : Option Nat := lowest (fun n => decide (len = 2 ^ n)) 16 15

/-- SET_UBUF (R148, R151). -/
def Dev.setUbuf (d : Dev) (c : Cmd) : Dev :=
  let len := entLen c.entry
  let m := d.mxEp c.ep
  if (decide (len ≠ 0) && (ubufLog2 len).isNone) || decide (entLocal c.entry % 64 ≠ 0) then
    d.cmdDone c stUbufForm 0 0 0
  else if !m.alloc.isEmpty then d.cmdDone c stUbufBusy 0 0 0
  else
    let area := (ubufLog2 len).map (fun n => (entLocal c.entry, n, entLocalKey c.entry))
    (d.setMxEp c.ep { m with area := area, next := 0 }).cmdDone c stOk 0 0 0

/-! ### Rendezvous at the sender (R155, R156, R159, R160) -/

/-- Open entries of the rendezvous table. -/
def Dev.rdvOpen (d : Dev) : Nat :=
  countWhere d.tp.cmds (fun c => match c.phase with | .rdvOpen _ _ _ => true | .rdvStarted => true | _ => false)

/-- The RTS of a rendezvous SEND (R155). -/
def rtsMsg (c : Cmd) : Msg :=
  { num := 0, owner := .rts c.ep c.index c.lap, type := tyRts, srcEp := c.ep, dstNode := entNode c.entry,
    dstEp := entEp c.entry, tc := entTc c.entry, ordered := true, len := 16, addr := entRemote c.entry,
    key := field c.entry 224 16,
    inline_ := toBytes 8 (entLocal c.entry) ++ toBytes 4 (entLen c.entry) ++ toBytes 3 (entLocalKey c.entry)
      ++ toBytes 1 0 }

/-- The commands fetched after one. -/
def Dev.cmdsAfter (d : Dev) (c : Cmd) : List Cmd :=
  (d.tp.cmds.dropWhile (fun x => !(x.ep == c.ep && x.index == c.index && x.lap == c.lap))).drop 1

/-- A message belongs to the command of a ring position. -/
def Msg.ofCmd (m : Msg) (c : Cmd) : Bool :=
  match m.owner with
  | .cmd ep index lap _ => ep == c.ep && index == c.index && lap == c.lap
  | .rts ep index lap => ep == c.ep && index == c.index && lap == c.lap
  | .lockReq ep index lap => ep == c.ep && index == c.index && lap == c.lap
  | _ => false

/-- Make a message of a command in its fetch order: before those of commands fetched later (R128, R153). -/
def Dev.addCmdMsg (d : Dev) (c : Cmd) (m : Msg) : Dev :=
  let later := d.cmdsAfter c
  d.addMsgBefore (fun x => x.id.isNone && later.any (fun y => x.ofCmd y)) m

/-- Take a rendezvous table entry and make the RTS, or wait for an entry; each SEND that comes to wait raises RDV_TABLE_FULL
(R155). -/
def Dev.rdvEnter (d : Dev) (c : Cmd) : Dev :=
  if d.rdvOpen < 65536 then (d.setCmd { c with phase := .rdvStarted }).addCmdMsg c (rtsMsg c)
  else
    let d := { d.setCmd { c with phase := .rdvWait } with mx := { d.mx with rdvFullRaised := true } }
    d.raiseIf (decide (c.phase ≠ .rdvWait)) evMxRdvTableFull 0

/-- The check of LOCAL_KEY before an RTS: R and REMOTE over the whole buffer (R155). -/
def rdvAccess (c : Cmd) : Access := ⟨c.ep, entLocal c.entry, entLen c.entry, .read, true, some (entLocalKey c.entry), true⟩

/-- Go on with the start of a rendezvous SEND from what its key check has found (R155). -/
def Dev.rdvCheck (d : Dev) (c : Cmd) (f : Found) : Dev :=
  match d.evalAccess (rdvAccess c) f with
  | .ok _ => d.rdvEnter c
  | .need s => (d.setCmd { c with phase := .running }).addWalk (.rdv c.ep c.index c.lap) (rdvAccess c) f s
  | .fault k => (d.reportFault (rdvAccess c) k false).cmdDone c stLocalFault (faultInfo k 0) 0 0

/-- A SEND above 16,384 bytes starts (R155). -/
def Dev.startRdv (d : Dev) (c : Cmd) : Dev :=
  if entIndirect c.entry then d.cmdDone c stRdvIndirect 0 0 0 else d.rdvCheck c {}

/-- Freed rendezvous table entries go to the SENDs that wait, in fetch order (R155). -/
def Dev.rdvFreed (d : Dev) : Dev :=
  forEach (d.tp.cmds.filter (fun c => decide (c.phase = .rdvWait)))
    (fun c (d : Dev) => if d.rdvOpen < 65536 then d.rdvEnter c else { d with mx := { d.mx with rdvFullRaised := true } })
    { d with mx := { d.mx with rdvFullRaised := false } }

/-- The RTS has ended (R156). -/
def Dev.rtsEnd (d : Dev) (c : Cmd) (m : Msg) (status kind reason : Nat) : Dev :=
  if status = stOk then d.setCmd { c with phase := .rdvOpen (m.id.getD 0) (m.fst % 2 ^ 16) d.now }
  else
    let info := if status = stUnreachable then reason * 2 ^ 40 else faultInfo kind 0
    (d.cmdDone c status info 0 0).rdvFreed

/-- The SEND in the rendezvous table that a FIN names, be its RTS acknowledged or not (R159). -/
def Dev.openSend (d : Dev) (node ep rtsId rtsFst : Nat) : Option Cmd :=
  firstThat d.tp.cmds (fun c => c.ep == ep && entNode c.entry == node && (match c.phase with
    | .rdvOpen i f _ => i == rtsId && f == rtsFst
    | .rdvStarted => d.tp.msgs.any (fun m => m.ofCmd c && m.id == some rtsId && m.fst % 2 ^ 16 == rtsFst)
    | _ => false))

/-- The RTS of a SEND that has ended stays in flight until it ends, for nobody (R156, R159). -/
def Dev.leaveRts (d : Dev) (c : Cmd) : Dev :=
  { d with tp := { d.tp with msgs := mapWhere d.tp.msgs (fun m => m.ofCmd c) (fun m => { m with owner := .fin }) } }

/-- A FIN is performed at the sender (R159). `w` is its 16 bytes. -/
def Dev.finDone (d : Dev) (node ep w : Nat) : Dev :=
  let status := field w 48 8
  match d.openSend node ep (field w 0 32) (field w 32 16) with
  | some c =>
    let st := if status = stTruncated then stOk else status
    ((d.leaveRts c).cmdDone c st (faultInfo (field w 56 8) (field w 64 32)) 0 0).rdvFreed
  | none => d.raise evMxFinStray 0

/-- The limit MX_RDV_LIMIT ends an open SEND (R160). -/
def Dev.rdvExpire (d : Dev) (c : Cmd) : Dev :=
  match c.phase with
  | .rdvOpen _ _ acked =>
    let limit := d.fld rMxRdvLimit 0 24
    if limit ≠ 0 ∧ limit ≤ d.since acked then
      ((d.raise evMxRdvExpired c.ep).cmdDone c stRdvExpired 0 0 0).rdvFreed
    else d
  | _ => d

/-! ### Unexpected copies (R154) -/

/-- The read of the area for a header's copy (R151, R154). -/
def Dev.copyRead (d : Dev) (u : UnexpHdr) (n : Nat) : Access :=
  match (d.mxEp u.ep).area with
  | some (base, _, key) => ⟨u.ep, base + u.areaOff, n, .read, false, some key, false⟩
  | none => ⟨u.ep, 0, 0, .read, false, none, false⟩

/-- End the copy of a header with a RECV status (R154). -/
def Dev.copyEnd (d : Dev) (u : UnexpHdr) (b : Binding) (status kind : Nat) : Dev :=
  (d.dropHdr u).recvEvent u.ep status u.tag u.len u.srcNode u.srcEp u.ctx b.recvId kind false true

/-- Copy an unexpected message to its buffer: the area is read with right R, the buffer written with right W, min(L,
LENGTH) bytes; a bus error ends it (R69, R154). -/
def Dev.copyRun (d : Dev) (u : UnexpHdr) (b : Binding) (f : Found) : Dev :=
  let n := min u.len b.len
  let status := if b.len < u.len then stTruncated else stOk
  if n = 0 then d.copyEnd u b status 0
  else
    let src := d.copyRead u n
    let dst : Access := ⟨u.ep, b.bufAddr, n, .write, false, some b.key, false⟩
    match d.evalAccess src f with
    | .need s => d.addWalk (.copy u.num) src f s
    | .fault k => (((d.reportFault src k false).latch rMxErrLatch (pack [(16, u.ep), (18, 0), (4, 2)])).raise evMxUbufFault
        u.ep).copyEnd u b stLocalFault k
    | .ok from_ =>
      match d.evalAccess dst f with
      | .need s => d.addWalk (.copy u.num) dst f s
      | .fault k => (d.reportFault dst k false).copyEnd u b stLocalFault k
      | .ok dest =>
        if d.busMet (.copy u.num) then (d.busTaken (.copy u.num)).copyEnd u b stLocalBus 0
        else
        ((((d.useLeaves src).useLeaves dst).emit (.hostCopy (d.fnOf u.ep) from_ dest))).copyEnd u b status 0

/-- An unexpected eager SEND has all its bytes in the area (R154, R164). -/
def Dev.unexpComplete (d : Dev) (u : UnexpHdr) : Dev :=
  if u.discard then
    ((d.dropHdr u).recvEvent u.ep stDiscarded u.tag u.len u.srcNode u.srcEp u.ctx 0 0 false true).raise
      evMxUnexpDiscarded u.ep
  else
    let d := d.setHdr { u with complete := true }
    match u.bound with
    | some _ => { d with mx := { d.mx with copies := d.mx.copies ++ [u.num] } }
    | none => d

/-! ### Disable and the ends of an endpoint (R164, R165) -/

/-- A disable discards one unexpected header not yet bound (R164). -/
def Dev.discardHdr (u : UnexpHdr) (d : Dev) : Dev :=
  if u.bound.isSome then d
  else if !u.rts && !u.complete then d.setHdr { u with discard := true }
  else
    let d := ((d.dropHdr u).recvEvent u.ep stDiscarded u.tag u.len u.srcNode u.srcEp u.ctx 0 0 u.rts true).raise
      evMxUnexpDiscarded u.ep
    if u.rts then d.addMsg (finMsg u.ep u.srcNode u.srcEp u.tc u.msgId u.fst stRemoteDisabled 0 0) else d

/-- Disable of an endpoint, as MX acts (R164). -/
def Dev.mxDisable (d : Dev) (ep : Nat) : Dev := forEach (d.mx.unexp.filter (fun u => u.ep == ep)) Dev.discardHdr d

/-- The end of an endpoint's matching state: no RECV posts; each RTS held or pulled is answered with FIN of status
REMOTE_DISABLED; rendezvous SENDs end without CMD_DONE (R165). -/
def Dev.mxEnd (d : Dev) (ep : Nat) : Dev :=
  let rts := d.mx.unexp.filter (fun u => u.ep == ep && u.rts)
  let pulls := d.mx.pulls.filter (fun p => p.ep == ep)
  let d := { d with
    mx := { d.mx with
      posted := d.mx.posted.filter (fun p => p.ep != ep),
      copies := d.mx.copies.filter (fun n => (d.mx.unexp.filter (fun u => u.ep == ep)).all (fun u => u.num != n)),
      unexp := d.mx.unexp.filter (fun u => u.ep != ep),
      eps := Tbl.put {} ep {} d.mx.eps,
      pulls := d.mx.pulls.filter (fun p => p.ep != ep) } }
  let d := forEach rts (fun u d =>
    d.addMsg (finMsg ep u.srcNode u.srcEp u.tc u.msgId u.fst stRemoteDisabled 0 0)) d
  forEach pulls (fun p d => d.addMsg (finMsg ep p.srcNode p.srcEp p.tc p.rtsId p.rtsFst stRemoteDisabled 0 0)) d

end Sys2Proof.Machine
end

