-- ==== Sys2Proof/Machine/Initiator.lean ====
section
/-! DEFINITION. The initiator: how a fetched command becomes messages, how their outcomes become its CMD_DONE, and the
replies that end them (R66, R67, R118 to R120, R136, R138). -/

namespace Sys2Proof.Machine

/-! ### Fragment tables (R66, R67) -/

/-- The local pieces that fragment entries name, in table order. -/
def fragPieces (frags : List Nat) : List (Option Nat × Nat × Nat) :=
  frags.map (fun r => ((if flag r 120 then none else some (field r 0 64)), field r 64 32, field r 96 24))

/-- A fragment table breaks R67. -/
def badFrags (op len : Nat) (frags : List Nat) : Bool :=
  decide (frags.foldl (fun n r => n + field r 64 32) 0 ≠ len) || frags.any (fun r => decide (field r 121 7 ≠ 0))
    || (op == 2 && frags.any (fun r => flag r 120))

/-! ### Messages of a command (R118 to R120) -/

/-- Messages a PUT, GET or PUT_SIGNAL splits into (R118). -/
def splitCount (len : Nat) : Nat := if len = 0 then 1 else (len + 65535) / 65536

/-- The local side of a command: its fragments, or one buffer under LOCAL_KEY. -/
def Cmd.local_ (c : Cmd) : List (Option Nat × Nat × Nat) :=
  if entIndirect c.entry then fragPieces c.frags else [(some (entLocal c.entry), entLen c.entry, entLocalKey c.entry)]

/-- The transport type of a data command. -/
def typeOf (op : Nat) : Nat :=
  if op = 1 then tyPut else if op = 2 then tyGetReq else if op = 3 then tySend else if op = 4 then tyAtomic
  else tyPutSignal

/-- The operands of an ATOMIC as its packet carries them (R122). -/
def atomicBytes (e : Nat) : List Byte :=
  let n := atomicSize e
  toBytes n (field e 256 128) ++ (if field e 20 2 = 2 then toBytes n (field e 384 128) else [])

/-- Message `k` of a data command (R118 to R120, R122). -/
def Cmd.msg (c : Cmd) (k : Nat) : Msg :=
  let e := c.entry
  let op := entOpcode e
  let len := if op = 4 then (atomicBytes e).length else min 65536 (entLen e - 65536 * k)
  let last := decide (k + 1 = c.total)
  let sig := decide (op = 5) && last
  { num := 0, owner := .cmd c.ep c.index c.lap k, type := typeOf op, srcEp := c.ep, dstNode := entNode e,
    dstEp := entEp e, tc := entTc e, ordered := usesOrdered e, len := len,
    addr := if op = 3 ∨ op = 4 then entRemote e else entRemote e + 65536 * k,
    key := if op = 3 then field e 224 16 else field e 224 24,
    sub := if op = 4 then field e 20 3 else if sig then 1 else 0,
    sigKey := if sig then field e 288 24 else 0, sigAddr := if sig then field e 320 64 else 0,
    sigAdd := if sig then field e 384 64 else 0,
    pieces := if op = 4 ∨ entInline e then [] else cutPieces (65536 * k) len c.local_,
    inline_ := if op = 4 then atomicBytes e else if entInline e then toBytes len (field e 256 256) else [],
    table := if entIndirect e then some (entLocal e, 16 * entFragCount e) else none, tableDue := entIndirect e && k == 0,
    badTable := entIndirect e && badFrags op (entLen e) c.frags }

/-- A message of the command has not completed OK (R136). -/
def Cmd.failed (c : Cmd) : Bool := c.outcomes.any (fun o => decide (o.status ≠ stOk))

/-- Make the next message of a running command once the one before it has been first sent; the signal message of a
PUT_SIGNAL only once every other has completed OK; none after a failure (R118, R120, R136). -/
def Dev.feedCmd (d : Dev) (c : Cmd) : Dev :=
  let mine := d.tp.msgs.filter (fun m => m.ofCmd c)
  if decide (c.phase ≠ .running) || decide (c.total ≤ c.made) || c.failed || mine.any (fun m => m.id.isNone)
      || (entOpcode c.entry == 5 && decide (c.made + 1 = c.total) && decide (c.outcomes.length ≠ c.made)) then d
  else
    let d := d.setCmd { c with made := c.made + 1 }
    match mine.getLast? with
    | some m => d.addMsgAfter m.num (c.msg c.made)
    | none => d.addCmdMsg c (c.msg c.made)

/-- A data command starts: it runs and its first message is made (R62, R118). -/
def Dev.startMsgs (d : Dev) (c : Cmd) (total : Nat) : Dev :=
  let c' := { c with phase := .running, total := total }
  (d.setCmd c').feedCmd c'

/-- NOP starts: it touches no memory and posts CMD_DONE OK (R512). -/
def Dev.startNop (d : Dev) (c : Cmd) : Dev := d.cmdDone c stOk 0 0 0

/-- PUT, GET and PUT_SIGNAL start (R118, R120). -/
def Dev.startSplit (d : Dev) (c : Cmd) : Dev := d.startMsgs c (splitCount (entLen c.entry))

/-- SEND starts: eager up to 16,384 bytes, a rendezvous above (R118, R154, R155). -/
def Dev.startSend (d : Dev) (c : Cmd) : Dev := if entLen c.entry ≤ 16384 then d.startMsgs c 1 else d.startRdv c

/-- ATOMIC starts (R118). -/
def Dev.startAtomic (d : Dev) (c : Cmd) : Dev := d.startMsgs c 1

/-- Post the CMD_DONE of a command all of whose messages have ended (R68, R136, R138). -/
def Dev.finishCmd (d : Dev) (c : Cmd) : Dev :=
  match worstOutcome c.outcomes with
  | none => d.cmdDone c stOk (entLen c.entry) (field c.result 0 64) (field c.result 64 64)
  | some w =>
    d.cmdDone c w.status (faultInfo w.kind (65536 * w.k) + (if w.status = stUnreachable then w.reason * 2 ^ 40 else 0))
      0 0

/-- A message of a command has ended (R136). -/
def Dev.cmdMsgEnd (d : Dev) (ep index : Nat) (lap : Bool) (o : MsgOutcome) (result : List Byte) : Dev :=
  match d.findCmd ep index lap with
  | none => d
  | some c =>
    let c : Cmd := { c with outcomes := c.outcomes ++ [o], result := if result = [] then c.result else ofBytes result }
    let unsent (m : Msg) : Bool := c.failed && m.ofCmd c && m.id.isNone
    let c : Cmd := { c with made := c.made - countWhere d.tp.msgs unsent }
    let d := forEach (d.tp.msgs.filter unsent) (fun m d => d.dropWaiter m.num)
      (({ d with tp := { d.tp with msgs := d.tp.msgs.filter (fun m => !(unsent m)) } }).setCmd c)
    if decide (c.outcomes.length = c.made) && (c.failed || decide (c.made = c.total)) then d.finishCmd c else d.feedCmd c

/-! ### Replies (R122, R128, R136, R138) -/

/-- Places of a response header that may be nonzero (R122). -/
def respPlaces : List (Nat × Nat) :=
  [(0, 8), (8, 2), (16, 13), (32, 18), (64, 16), (80, 16), (96, 32), (128, 16), (144, 4), (152, 8), (160, 32), (192, 32),
    (224, 10), (240, 16)]

/-- CRC of a packet's header and payload (R121). -/
def Packet.crcOk (p : Packet) : Bool := crc32c (toBytes 64 p.hdr ++ p.payload) == p.crc

/-- A response that passes its checks: E2E_CRC, reserved bits and PAY_LEN (R121, R122). -/
def respOk (h : Nat) (payload : List Byte) : Bool :=
  zeroOutside h respPlaces && decide (payload.length = hPayLen h) && decide (hPayLen h ≤ 4096)
    && (if hType h = tyNack then decide (1 ≤ hSub h) && decide (hSub h ≤ 5) && payload.isEmpty
        else if hType h = tyAck then decide (payload.length ≤ 16)
        else decide (hOffset h + hPayLen h ≤ hMsgLen h) && decide (hOffset h % 4096 = 0))

/-- Check a response, take its window, then act on the message it names; one that names none is discarded (R128, R138 rule 5). -/
def Dev.response (d : Dev) (p : Packet) (act : Dev → Msg → Dev) : Dev :=
  if !p.crcOk then (d.latchTp p.hdr 1).raise evTpE2eCrcError p.port
  else if !(respOk p.hdr p.payload) then (d.latchTp p.hdr 2).raise evTpPktMalformed p.port
  else
    let d := d.setAdv (hSrcNode p.hdr) (hWin p.hdr)
    match d.msgById (hMsgId p.hdr) (hFst p.hdr) with
    | none => d.raise evTpLateResponse (hDstEp p.hdr)
    | some m => act d m

/-- An ACK ends its message (R136, R138 rule 4). -/
def Dev.ackMsg (p : Packet) (d : Dev) (m : Msg) : Dev :=
  let status := hSub p.hdr
  if status = stRemoteAccess ∨ status = stRemoteDisabled then
    (d.raise evTpRemoteFault m.srcEp).endMsg m status (hKind p.hdr) 0 []
  else if m.isGet then d
  else d.endMsg m status (hKind p.hdr) 0 p.payload

/-- An ACK arrives. -/
def Dev.ackArrive (d : Dev) (p : Packet) : Dev := d.response p (Dev.ackMsg p)

/-- A NACK puts its message into back-off (R138 rule 2). -/
def Dev.nackMsg (p : Packet) (d : Dev) (m : Msg) : Dev :=
  (d.setMsg { m with
    phase := .backoff ((m.lastSend + hHint p.hdr) % 2 ^ 48) (hSub p.hdr), lastNack := some (hSub p.hdr),
    rtoFrom := d.now }).raise evTpNackReceived m.srcEp

/-- A NACK arrives. -/
def Dev.nackArrive (d : Dev) (p : Packet) : Dev := d.response p (Dev.nackMsg p)

/-- Park a packet that waits for a walk. -/
def Dev.park (d : Dev) (p : Packet) : Nat × Dev :=
  (d.tp.nextSlot, { d with tp := { d.tp with
    parked := Tbl.put none d.tp.nextSlot (some p) d.tp.parked, nextSlot := d.tp.nextSlot + 1 } })

/-- A parked packet leaves its slot. -/
def Dev.unpark (d : Dev) (slot : Option Nat) : Dev :=
  match slot with
  | none => d
  | some s => { d with tp := { d.tp with parked := Tbl.put none s none d.tp.parked } }

/-- The destination accesses of GET data at an offset (R98). -/
def Msg.landing (m : Msg) (off len : Nat) : List Access :=
  (cutPieces off len m.pieces).filterMap
    (fun (p : Option Nat × Nat × Nat) => p.1.map (fun va => Access.mk m.srcEp va p.2.1 .write false (some p.2.2) false))

/-- Count a GET packet in the bitmap and the Baton counter; the message completes when the counter equals MSG_LEN (R133,
R136). -/
def Dev.countGet (d : Dev) (m : Msg) (h : Nat) (data : List Byte) : Dev :=
  let m := { m with
    bitmap := m.bitmap ||| 2 ^ (hOffset h / 4096), baton := m.baton + hPayLen h, rtoFrom := d.now, lastNack := none }
  if m.baton = m.len then (d.setMsg m).endMsg m stOk 0 0 data else d.setMsg m

/-- GET data is written where its translations allow, then counted (R95 to R101, R136). `slot` is the place in which the
packet has waited for a walk. -/
def Dev.getRespRun (d : Dev) (slot : Option Nat) (p : Packet) (m : Msg) (f : Found) : Dev :=
  let h := p.hdr
  if flag m.bitmap (hOffset h / 4096) || decide (hMsgLen h ≠ m.len) then d.unpark slot
  else if m.type = tyWnFill then (d.unpark slot).countGet m h p.payload
  else
    let accs := m.landing (hOffset h) (hPayLen h)
    match d.evalAll f accs [] with
    | .ok pieces =>
      let d := forEach accs (fun a d => d.useLeaves a) (d.unpark slot)
      let d := if p.payload = [] then d else d.writeFrom p (d.fnOf m.srcEp) pieces p.payload
      d.countGet m h []
    | .error (a, .need s) =>
      match slot with
      | some i => d.addWalk (.getResp i) a f s
      | none =>
        let (i, d) := d.park p
        d.addWalk (.getResp i) a f s
    | .error (a, .fault k) => ((d.unpark slot).reportFault a k false).endMsg m stLocalFault k 0 []
    | .error (_, .ok _) => d

/-- A GET_RESP arrives (R136). -/
def Dev.getRespArrive (d : Dev) (p : Packet) : Dev :=
  d.response p (fun d m => if m.isGet then d.getRespRun none p m {} else d)

end Sys2Proof.Machine
end

