-- ==== Sys2Proof/Machine/MirrorLink.lean ====
section
/-! DEFINITION. How the owner of a change sends it to the twin: mirror records and the acknowledgement they wait for
(R373, R374). -/

namespace Sys2Proof.Machine

/-- This device belongs to a pair: TW_CFG.EN (R381). -/
def Dev.pairEn (d : Dev) : Bool := flag (d.rd rTwCfg) 8

/-- PEER_NODE of TW_CFG. -/
def Dev.peerNode (d : Dev) : Nat := d.fld rTwCfg 10 18

/-- The twin port of TW_CFG. -/
def Dev.twinPort (d : Dev) : Nat := d.fld rTwCfg 0 8

/-- Changes are mirrored to the twin: the pair is PAIRED or PROBING (R376: mirroring stops in SPLIT). -/
def Dev.mirroring (d : Dev) : Bool := d.pairEn && (d.tw.state = .paired || d.tw.state = .probing)

/-- All 4,096 unacknowledged records are held, so no new change is accepted (R374). -/
def Dev.mirrorFull (d : Dev) : Bool := d.mirroring && decide (4096 ≤ d.tw.unacked.length)

/-- The 64 bytes of a mirror record (R373). -/
def Mirror.body (m : Mirror) : Nat :=
  pack [(8, 7), (8, m.kind), (8, m.len), (8, 0), (32, m.seq), (48, m.tick), (16, 0), (384, m.payload)]

/-- Send a mirror record and keep it until it is acknowledged (R373, R374). -/
def Dev.mirror (d : Dev) (kind len tick payload : Nat) : Dev :=
  let seq := (d.tw.seqTx + 1) % 2 ^ 32
  let m : Mirror := ⟨kind, len, seq, tick, payload⟩
  ({ d with tw := { d.tw with seqTx := seq, unacked := d.tw.unacked ++ [m] } }).emit (.bypass d.twinPort 7 m.body)

/-- One sequence number is at or before another, modulo 2^32. -/
def seqLe (a b : Nat) : Bool := decide ((b + 2 ^ 32 - a % 2 ^ 32) % 2 ^ 32 < 2 ^ 31)

/-- MIRROR_ACK covers a record, or the pair no longer mirrors (R375, R389). -/
def Dev.mirrorCovered (d : Dev) (seq : Nat) : Bool := !d.mirroring || seqLe seq d.tw.ackRx

end Sys2Proof.Machine
end

