-- ==== Sys2Proof/Machine/Locks.lean ====
section
/-! DEFINITION. The lock service: admission, grants, waiters, leases, lost holders, and the lock messages (R383 to
R394). -/

namespace Sys2Proof.Machine

/-- Statuses of R387. -/
def stQueued : Nat := 0x20
def stTaken : Nat := 0x21
def stNotHolder : Nat := 0x22
def stDenied : Nat := 0x23
def stWaitersFull : Nat := 0x24
def stOwned : Nat := 0x25
def stLockCancelMiss : Nat := 0x26
def stLockFenced : Nat := 0x27

/-- A lock. -/
def Dev.lock (d : Dev) (k : Nat) : LockCell := Tbl.get {} d.ls.locks k

/-- Store a lock. -/
def Dev.setLock (d : Dev) (k : Nat) (c : LockCell) : Dev :=
  { d with ls := { d.ls with locks := Tbl.put {} k c d.ls.locks } }

/-- The group of a lock (R383). -/
def lockGroup (k : Nat) : Nat := k / 256

/-- Waiter entries used (R383). -/
def Dev.lockWaiters (d : Dev) : Nat := d.ls.locks.foldl (fun n p => n + p.2.waiters.length) 0

/-- A group admits a party (R384). -/
def Dev.lockAdmits (d : Dev) (g : Nat) (p : Party) : Bool :=
  match p.cls with
  | .host => flag (d.rd rLsGrpAcl g) p.node
  | .remote => flag (d.rd rLsGrpAcl g) 32 && decide (d.fld rLsGrpNodes 0 18 g ≤ p.node)
      && decide (p.node ≤ d.fld rLsGrpNodes 32 18 g)
  | .core => flag (d.rd rLsGrpAcl g) 33

/-- Latch the first lock error (R395). -/
def Dev.latchLs (d : Dev) (lock reason : Nat) (p : Party) : Dev :=
  d.latch rLsErrLatch (pack [(12, lock), (4, reason), (18, p.node), (16, p.ep)])

/-- Operations of a KIND 3 record (R391). -/
def mlEnqueue : Nat := 1
def mlGrant : Nat := 2
def mlRelease : Nat := 3
def mlCancel : Nat := 4
def mlAbandon : Nat := 5
def mlRenew : Nat := 6

/-- The payload of a KIND 3 record (R391). Bit 0 of byte 10, which R391 does not lay out, says that the party is a host of the
twin that receives the record (DESIGN CHOICE, log entry 202). -/
def lockPayload (lock op : Nat) (p : Party) : Nat :=
  pack [(16, lock), (8, op), (8, p.cls.code), (32, p.node), (16, p.ep), (1, bit p.ofTwin)]

/-- Mirror a lock change as a KIND 3 record, while the primary of a pair mirrors (R389, R391). -/
def Dev.mirrorLock (d : Dev) (lock op : Nat) (p : Party) : Dev :=
  if d.mirroring && d.tw.primary then d.mirror 3 12 0 (lockPayload lock op p) else d

/-- The lock service runs here: the device belongs to no pair, or is its primary (R367, R385). -/
def Dev.runsLocks (d : Dev) : Bool := !d.pairEn || d.tw.primary

/-! ### Grants (R389, R390) -/

/-- Words of a LOCK_GRANT event (R390). -/
def lockGrantWords (lock cookie node tick : Nat) (abandoned remote : Bool) : List Nat :=
  [eventWord0 0 6 stOk 0, pack [(16, lock), (1, bit abandoned), (1, bit remote), (14, 0), (32, cookie)],
    pack [(32, node)], pack [(48, tick)]]

/-- Answer a forwarded request of the twin with a KIND 7 record; the layout of the payload is this model's (R385). -/
def Dev.answerTwin (d : Dev) (seq status lock cookie : Nat) (abandoned grant : Bool) (p : Party) : Dev :=
  d.mirror 7 21 0 (pack [(32, seq), (8, status), (1, bit abandoned), (1, bit grant), (6, 0), (16, lock), (32, cookie),
    (48, d.now), (16, p.ep), (8, p.node)])

/-- A grant goes out: a local waiter's LOCK_GRANT event, a remote waiter's LS_GRANT, or the twin's answer (R385, R389). -/
def Dev.sendGrant (d : Dev) (lock : Nat) (w : Waiter) (abandoned : Bool) : Dev :=
  match w.who.cls with
  | .core => d
  | .host =>
    if w.who.ofTwin then d.answerTwin 0 stOk lock w.cookie abandoned true w.who
    else d.postEvent w.who.ep (lockGrantWords lock w.cookie d.node d.now abandoned false)
      ((d.ep w.who.ep).elim false (fun c => c.irqEn)) false
  | .remote =>
    d.addMsg
      { num := 0, owner := .lockGrant lock w.cookie, type := tyLsGrant, srcEp := 0, dstNode := w.who.node,
        dstEp := w.who.ep, tc := w.tc, len := 16, addr := 0, key := 0,
        inline_ := toBytes 1 (bit abandoned) ++ toBytes 1 0 ++ toBytes 2 lock ++ toBytes 4 w.cookie ++ toBytes 8 d.now }

/-- Give a lock to a waiter: HELD, or GRANTING while LS_GRANT is in flight; on a pair the grant goes out once MIRROR_ACK
covers its record (R383, R389). -/
def Dev.grantTo (d : Dev) (lock : Nat) (w : Waiter) (rest : List Waiter) (abandoned : Bool) : Dev :=
  let d := d.mirrorLock lock mlGrant w.who
  let waits := d.mirroring && d.tw.primary
  let c : LockCell :=
    { use := if w.who.cls = .remote then .granting else .held, holder := some w.who, lease := d.now,
      abandonNext := false, abandoned := abandoned, waiters := rest,
      grantWait := if waits then some (d.tw.seqTx, d.now, false, w, abandoned) else none }
  let d := d.setLock lock c
  if waits then d else d.sendGrant lock w abandoned

/-- A lock is freed: its head waiter is granted, or it becomes FREE and the next ACQUIRE is granted with ABANDONED set
when its holder was lost (R389, R392). -/
def Dev.freeLock (d : Dev) (lock : Nat) (abandoned : Bool) : Dev :=
  let c := d.lock lock
  match c.waiters with
  | w :: rest => d.grantTo lock w rest abandoned
  | [] => d.setLock lock { abandonNext := abandoned, abandoned := c.abandoned }

/-- Grants whose record the twin has acknowledged, or that need wait no longer, go out (R389). -/
def Dev.releaseGrant (d : Dev) (lock : Nat) : Dev :=
  let c := d.lock lock
  match c.grantWait with
  | some (seq, _, _, w, ab) =>
    if d.mirrorCovered seq then (d.setLock lock { c with grantWait := none }).sendGrant lock w ab else d
  | none => d

/-- MIRROR_WAIT: a grant has waited more than 1 tick for MIRROR_ACK (R389). -/
def Dev.mirrorWait (d : Dev) (lock : Nat) : Dev :=
  let c := d.lock lock
  match c.grantWait with
  | some (seq, t, raised, w, ab) =>
    if !raised && !(d.mirrorCovered seq) && decide (1 < d.since t) then
      (d.setLock lock { c with grantWait := some (seq, t, true, w, ab) }).raise evLsMirrorWait (lockGroup lock)
    else d
  | none => d

/-! ### Requests (R384, R386, R387, R393) -/

/-- The operations of a request: LS_REQ.OP (R388). -/
inductive LockOp where
  | acquire (try_ : Bool) (cookie : Nat)
  | release
  | renew
  | cancel
  deriving DecidableEq, Repr

/-- QUEUE_WARN as it acts (R395). -/
def Dev.queueWarn (d : Dev) : Nat := orOne (d.fld rLsCtl 0 12)

/-- ACQUIRE of an admitted party: status, whether the grant is ABANDONED, and the state after (R386, R387). -/
def Dev.lockAcquire (d : Dev) (lock : Nat) (p : Party) (try_ : Bool) (cookie tc : Nat) : Nat × Bool × Dev :=
  let c := d.lock lock
  let g := lockGroup lock
  if c.holder = some p ∨ c.waiters.any (fun w => decide (w.who = p)) then (stOwned, false, d)
  else if c.use = .free ∧ c.waiters = [] then
    (stOk, c.abandonNext, (d.setLock lock
      { c with use := .held, holder := some p, lease := d.now, abandonNext := false, abandoned := c.abandonNext }).mirrorLock
        lock mlGrant p)
  else if try_ then (stTaken, false, d)
  else if 16384 ≤ d.lockWaiters then (stWaitersFull, false, d.raise evLsWaitersFull g)
  else
    let d := (d.setLock lock { c with waiters := c.waiters ++ [⟨p, cookie, tc⟩] }).mirrorLock lock mlEnqueue p
    (stQueued, false, d.raiseIf (decide (d.queueWarn < c.waiters.length + 1)) evLsQueueLong g)

/-- Serve a request of a party: its status, the ABANDONED flag of an immediate grant, and the state after (R384 to R387,
R393, R408). -/
def Dev.lockServe (d : Dev) (lock : Nat) (p : Party) (tc : Nat) (op : LockOp) : Nat × Bool × Dev :=
  let g := lockGroup lock
  let c := d.lock lock
  if flag d.ls.fenced g then (stLockFenced, false, d)
  else if !(d.lockAdmits g p) then (stDenied, false, (d.latchLs lock 1 p).raise evLsAccessDenied g)
  else match op with
  | .acquire t k => d.lockAcquire lock p t k tc
  | .release =>
    if c.holder = some p then (stOk, false, (d.mirrorLock lock mlRelease p).freeLock lock false)
    else (stNotHolder, false, d.raise evLsNotHolder g)
  | .renew =>
    if c.holder = some p then
      (stOk, false, (if p.cls = .remote then d.setLock lock { c with lease := d.now } else d).mirrorLock lock mlRenew p)
    else (stNotHolder, false, d.raise evLsNotHolder g)
  | .cancel =>
    if c.waiters.any (fun w => decide (w.who = p)) then
      (stOk, false, (d.setLock lock { c with waiters := removeFirst c.waiters (fun w => decide (w.who = p)) }).mirrorLock
        lock mlCancel p)
    else (stLockCancelMiss, false, d.raise evLsCancelMiss g)

/-- The operation of a lock command (R386). -/
def entLockOp (e : Nat) : LockOp :=
  if entOpcode e = 8 then .acquire (flag e 80) (field e 96 32) else if entOpcode e = 9 then .release
  else if entOpcode e = 0xA then .renew else .cancel

/-- LOCK of a lock command. -/
def entLock (e : Nat) : Nat := field e 64 12

/-- The 16 bytes of an LS_REQ for a lock command (R388). -/
def lockReqBytes (e : Nat) : List Byte :=
  toBytes 1 (entOpcode e - 7) ++ toBytes 1 (bit (flag e 80)) ++ toBytes 2 (entLock e) ++ toBytes 4 (field e 96 32)
    ++ toBytes 8 0

/-- The standby sends a host-function request to the primary as a KIND 6 record; the layout of the payload is this
model's: the LS_REQ bytes, then host, class and endpoint (R385). -/
def Dev.lockForward (d : Dev) (c : Cmd) : Dev :=
  let d := (d.setCmd { c with phase := .running }).mirror 6 20 0 (pack [(128, ofBytes (lockReqBytes c.entry)),
    (8, d.fnOf c.ep), (8, entTc c.entry), (16, c.ep)])
  ({ d with ls := { d.ls with forwarded := d.ls.forwarded ++ [(d.tw.seqTx, c.ep, c.index, c.lap)] } }).raise
    evLsForwarded (lockGroup (entLock c.entry))

/-- The lock of a request is held here, or by the pair (R386). -/
def Dev.lockLocal (d : Dev) (e : Nat) : Bool :=
  entNode e == d.node || (d.pairEn && entNode e == d.peerNode)

/-- A lock command starts: served here, forwarded to the primary of the pair, or sent to a remote node as LS_REQ (R385,
R386, R388). While 4,096 mirror records are unacknowledged it waits (R374). -/
def Dev.startLock (d : Dev) (c : Cmd) : Dev :=
  let e := c.entry
  if d.lockLocal e then
    if d.mirrorFull then
      { (d.setCmd { c with phase := .running }) with
        ls := { d.ls with blocked := d.ls.blocked ++ [(c.ep, c.index, c.lap)] } }
    else if d.pairEn && !d.tw.primary then d.lockForward c
    else
      let (status, ab, d) := d.lockServe (entLock e) ⟨.host, d.fnOf c.ep, c.ep, false⟩ (entTc e) (entLockOp e)
      d.cmdDone c status (2 ^ 32 * bit ab) 0 0
  else
    (d.setCmd { c with phase := .running }).addMsg
      { num := 0, owner := .lockReq c.ep c.index c.lap, type := tyLsReq, srcEp := c.ep, dstNode := entNode e, dstEp := 0,
        tc := entTc e, len := 16, addr := 0, key := 0, inline_ := lockReqBytes e }

/-- The LS_REQ of a command has ended: its ACK's status is the command's (R388). -/
def Dev.lockReqEnd (d : Dev) (ep index : Nat) (lap : Bool) (status kind reason : Nat) : Dev :=
  match d.findCmd ep index lap with
  | none => d
  | some c => d.cmdDone c status (if status = stUnreachable then reason * 2 ^ 40 else faultInfo kind 0) 0 0

/-- The LS_GRANT of a lock has ended: delivered, the lock is HELD; otherwise the waiter is lost and the next one is
granted with ABANDONED set (R389). -/
def Dev.lockGrantEnd (d : Dev) (lock : Nat) (m : Msg) (status : Nat) : Dev :=
  let c := d.lock lock
  let p : Party := ⟨.remote, m.dstNode, m.dstEp, false⟩
  if c.use = .granting ∧ c.holder = some p then
    if status = stOk then d.setLock lock { c with use := .held }
    else (((d.latchLs lock 4 p).raise evLsGrantUndelivered (lockGroup lock)).mirrorLock lock mlAbandon p).freeLock lock true
  else d

/-! ### Lost holders and leases (R392, R393) -/

/-- A lock loses the parties that a test names: their waiting requests go, and a lock they hold is freed as abandoned
(R392). `cause` is the event of the loss. -/
def Dev.loseLock (gone : Party → Bool) (cause : Nat) (lock : Nat) (d : Dev) : Dev :=
  let c := d.lock lock
  let held := match c.holder with | some p => gone p | none => false
  let waiting := c.waiters.any (fun w => gone w.who)
  if held || waiting then
    let d := d.setLock lock { c with waiters := c.waiters.filter (fun w => !(gone w.who)) }
    let d := forEach (c.waiters.filter (fun w => gone w.who)) (fun (w : Waiter) d => d.mirrorLock lock mlCancel w.who)
      (d.raise cause (lockGroup lock))
    if held then
      ((d.raise evLsLockAbandoned (lockGroup lock)).mirrorLock lock mlAbandon (c.holder.getD ⟨.core, 0, 0, false⟩)).freeLock
        lock true
    else d
  else d

/-- The standby tells the primary, in KIND 3 records, which parties of a lock are lost; its mirror changes as the primary's
records come back (DESIGN CHOICE, log entry 210). -/
def Dev.tellLost (gone : Party → Bool) (lock : Nat) (d : Dev) : Dev :=
  let c := d.lock lock
  let d := forEach (c.waiters.filter (fun w => gone w.who)) (fun (w : Waiter) (d : Dev) =>
    d.mirror 3 12 0 (lockPayload lock mlCancel w.who)) d
  match c.holder with
  | some p => if gone p then d.mirror 3 12 0 (lockPayload lock mlAbandon p) else d
  | none => d

/-- Every lock loses the parties that a test names. -/
def Dev.loseParties (d : Dev) (gone : Party → Bool) (cause : Nat) : Dev :=
  forEach (Tbl.keys d.ls.locks) (if d.runsLocks then Dev.loseLock gone cause else Dev.tellLost gone) d

/-- The waiting requests of a lost party go, at every lock (R392). -/
def Dev.dropWaits (d : Dev) (p : Party) : Dev :=
  forEach (Tbl.keys d.ls.locks) (fun k (d : Dev) =>
    let c := d.lock k
    if c.waiters.any (fun w => decide (w.who = p)) then
      (d.setLock k { c with waiters := c.waiters.filter (fun w => decide (w.who ≠ p)) }).mirrorLock k mlCancel p
    else d) d

/-- The locks and requests of a host function end: it is reset or fenced, or its link goes down (R392). -/
def Dev.loseHost (d : Dev) (h : Nat) : Dev :=
  d.loseParties (fun p => decide (p.cls = .host) && p.node == h && !p.ofTwin) evLsHolderLost

/-- The locks and requests of a destroyed endpoint end (R392). -/
def Dev.loseEndpoint (d : Dev) (ep : Nat) : Dev :=
  d.loseParties (fun p => decide (p.cls = .host) && p.ep == ep && !p.ofTwin) evLsHolderLost

/-- Requests forwarded to a primary that will not answer them are served again (R385; DESIGN CHOICE, log entry 203). -/
def Dev.reforward (d : Dev) : Dev :=
  { d with ls := { d.ls with
    blocked := d.ls.blocked ++ d.ls.forwarded.map (fun f => (f.2.1, f.2.2.1, f.2.2.2)), forwarded := [], asked := [] } }

/-- At a takeover the endpoints of the failed twin lose their locks (R392). -/
def Dev.loseTwin (d : Dev) : Dev :=
  forEach (Tbl.keys d.ls.locks) (Dev.loseLock (fun p => p.ofTwin) evLsTakeoverAbandon) d

/-- LS_LEASE as it acts, 16 ticks longer in conservative mode (R45, R393, R395). -/
def Dev.leaseLimit (d : Dev) : Nat := max 16 (d.fld rLsLease 0 24) + (if d.st.conserv then 16 else 0)

/-- A remote holder's lease has reached its limit (R393). -/
def Dev.leaseDue (d : Dev) (c : LockCell) : Bool :=
  match c.holder with
  | some p => decide (p.cls = .remote) && decide (d.leaseLimit ≤ d.since c.lease)
  | none => false

/-- No other lease has been due for longer (R49). -/
def Dev.leaseFirst (d : Dev) (c : LockCell) : Bool :=
  d.ls.locks.all (fun (l : Nat × LockCell) => !(d.leaseDue l.2) || decide (d.since l.2.lease ≤ d.since c.lease))

/-- LEASE_LAPSE: a remote holder's lease has reached its limit, the oldest first, and the quota of the tick allows (R48, R49,
R393). -/
def Dev.leaseLapse (d : Dev) (lock : Nat) : Dev :=
  let c := d.lock lock
  match c.holder with
  | some p =>
    if d.runsLocks && d.leaseDue c && d.leaseFirst c then
      d.within actLease (fun d => (((((d.latchLs lock 3 p).raise evLsLeaseLapse (lockGroup lock)).raise evLsLockAbandoned
        (lockGroup lock)).dropWaits p).mirrorLock lock mlAbandon p).freeLock lock true)
    else d
  | none => d

/-- Free a lock as FORCE_RELEASE frees it (R392, R408). -/
def Dev.forceFree (d : Dev) (lock : Nat) : Dev :=
  let c := d.lock lock
  match c.holder with
  | some p =>
    let d := d.raise evLsForceRelease (lockGroup lock)
    if d.runsLocks then
      (((d.raise evLsLockAbandoned (lockGroup lock)).dropWaits p).mirrorLock lock mlAbandon p).freeLock lock true
    else d.mirror 3 12 0 (lockPayload lock mlAbandon p)
  | none => d

/-- The release of a fenced lock group frees every lock of the group (R408). -/
def Dev.releaseLockGroup (d : Dev) (g : Nat) : Dev :=
  let d := { d with ls := { d.ls with
    fenced := if flag d.ls.fenced g then d.ls.fenced - 2 ^ g else d.ls.fenced } }
  forEach (Tbl.keys d.ls.locks) (fun k d => if lockGroup k = g then d.forceFree k else d) d

/-- A lock group is fenced: its requests complete with LOCK_FENCED (R396, R408). -/
def Dev.fenceLockGroup (d : Dev) (g : Nat) : Dev :=
  { d with ls := { d.ls with fenced := d.ls.fenced ||| 2 ^ g } }

/-! ### The mirrored table (R385, R391) -/

/-- The party a KIND 3 record names, as the standby sees it: a host of the primary is a host of the standby's twin (log entry
202). -/
def mirrorParty (w : Nat) : Party :=
  match field w 24 8 with
  | 0 => ⟨.host, field w 32 32, field w 64 16, !(flag w 80)⟩
  | 1 => ⟨.remote, field w 32 32, field w 64 16, false⟩
  | _ => ⟨.core, field w 32 32, field w 64 16, false⟩

/-- A lock record of the twin: the standby applies it; the primary loses the party that the standby names (R391, R392; log
entry 210). -/
def Dev.lockRecord (d : Dev) (w : Nat) : Dev :=
  let lock := field w 0 16 % 4096
  let p := mirrorParty w
  let c := d.lock lock
  if d.runsLocks then Dev.loseLock (fun x => decide (x = p)) evLsHolderLost lock d
  else match field w 16 8 with
  | 1 => d.setLock lock { c with waiters := c.waiters ++ [⟨p, 0, 0⟩] }
  | 2 => d.setLock lock { c with
      use := .held, holder := some p, lease := d.now, waiters := removeFirst c.waiters (fun w => decide (w.who = p)) }
  | 3 => d.setLock lock { c with use := .free, holder := none }
  | 4 => d.setLock lock { c with waiters := removeFirst c.waiters (fun w => decide (w.who = p)) }
  | 5 => d.setLock lock { c with
      use := .free, holder := none, abandonNext := true, waiters := c.waiters.filter (fun w => decide (w.who ≠ p)) }
  | 6 => d.setLock lock { c with lease := d.now }
  | _ => d

/-- The operation an LS_REQ's 16 bytes name; none for one that breaks its format (R388, R396). -/
def lockReqOp (w : Nat) : Option LockOp :=
  if field w 64 64 ≠ 0 ∨ 4096 ≤ field w 16 16 ∨ 1 < field w 8 8 ∨ (field w 0 8 ≠ 1 ∧ field w 8 8 ≠ 0) then none
  else match field w 0 8 with
  | 1 => some (.acquire (flag w 8) (field w 32 32))
  | 2 => some .release
  | 3 => some .renew
  | 4 => some .cancel
  | _ => none

/-- An LS_GRANT's 16 bytes keep their format (R388, R396). -/
def lockGrantOk (w : Nat) : Bool :=
  decide (field w 1 15 = 0) && decide (field w 16 16 < 4096) && decide (field w 112 16 = 0)

/-- The primary serves a request the standby has forwarded (R385). -/
def Dev.lockTwinServe (d : Dev) (seq w tc : Nat) (p : Party) : Dev :=
  match lockReqOp (field w 0 128) with
  | none => d
  | some op =>
    let lock := field w 16 12
    let (status, ab, d) := d.lockServe lock p tc op
    d.answerTwin seq status lock (field w 32 32) ab false p

/-- A request of a host function of the twin (R385). -/
def Dev.lockTwinReq (d : Dev) (seq w : Nat) : Dev :=
  d.lockTwinServe seq w (field w 136 8) ⟨.host, field w 128 8, field w 144 16, true⟩

/-- A request of a remote endpoint that named the standby's node (R385). -/
def Dev.lockTwinRemote (d : Dev) (seq w : Nat) : Dev :=
  d.lockTwinServe seq w (field w 176 8) ⟨.remote, field w 128 32, field w 160 16, false⟩

/-- The standby sends a remote endpoint's LS_REQ to the primary, once: its 16 bytes, then node, endpoint and class, as a KIND 6
record; the message's ACK waits for the answer (R385; the layout is this model's, log entry 132). -/
def Dev.lockAsk (d : Dev) (r : TgtRec) (p : Packet) : Dev :=
  if d.ls.asked.any (fun x => hSrcNode x.2.hdr == r.srcNode && hMsgId x.2.hdr == r.msgId && hFst x.2.hdr == r.fst) then d
  else
    let d := d.mirror 6 24 0 (pack [(128, ofBytes p.payload), (32, r.srcNode), (16, r.srcEp), (8, r.tc)])
    ({ d with ls := { d.ls with asked := d.ls.asked ++ [(d.tw.seqTx, p)] } }).raise evLsForwarded
      (lockGroup (field (ofBytes p.payload) 16 12))

/-- The standby receives the primary's answer: the command's CMD_DONE, or a later LOCK_GRANT (R385). -/
def Dev.lockTwinAnswer (d : Dev) (w : Nat) : Dev :=
  if flag w 41 then
    d.postEvent (field w 144 16) (lockGrantWords (field w 48 16) (field w 64 32) d.peerNode (field w 96 48) (flag w 40)
      false) ((d.ep (field w 144 16)).elim false (fun c => c.irqEn)) false
  else
    match firstThat d.ls.forwarded (fun f => f.1 == field w 0 32) with
    | none => d
    | some (seq, ep, index, lap) =>
      let d := { d with ls := { d.ls with forwarded := d.ls.forwarded.filter (fun f => f.1 != seq) } }
      match d.findCmd ep index lap with
      | none => d
      | some c => d.cmdDone c (field w 32 8) (2 ^ 32 * bit (flag w 40)) 0 0

/-- Once the twin acknowledges records, waiting lock commands and grants go on (R374, R389). -/
def Dev.locksAcked (d : Dev) : Dev :=
  let d := forEach (Tbl.keys d.ls.locks) (fun k d => d.releaseGrant k) d
  let waiting := d.ls.blocked
  let d := { d with ls := { d.ls with blocked := [] } }
  forEach waiting (fun (b : Nat × Nat × Bool) d => match d.findCmd b.1 b.2.1 b.2.2 with
    | some c => d.startLock c
    | none => d) d

end Sys2Proof.Machine
end

