-- ==== Sys2Proof/Machine/RelayBase.lean ====
section
/-! DEFINITION. Relay groups as other blocks meet them: the group and child tables, and the causes of an abort (R168 to
R171, R193 to R195). -/

namespace Sys2Proof.Machine

/-- A group. -/
def Dev.rlGroup (d : Dev) (g : Nat) : RlGroup := Tbl.get {} d.rl.groups g

/-- Store a group. -/
def Dev.setRlGroup (d : Dev) (g : Nat) (x : RlGroup) : Dev := { d with rl := { d.rl with groups := Tbl.put {} g x d.rl.groups } }

/-- CHILD_BASE of a group (R197). -/
def Dev.rlBase (d : Dev) (g : Nat) : Nat := d.fld rRlGrpCfg 0 16 0 g
/-- CHILD_COUNT. -/
def Dev.rlCount (d : Dev) (g : Nat) : Nat := d.fld rRlGrpCfg 16 9 0 g
/-- TC of a group. -/
def Dev.rlTc (d : Dev) (g : Nat) : Nat := d.fld rRlGrpCfg 25 3 0 g
/-- ROOT: this device is the root of the group. -/
def Dev.rlRoot (d : Dev) (g : Nat) : Bool := flag (d.rd rRlGrpCfg 0 g) 28
/-- STEP_WIN (R176). -/
def Dev.rlWin (d : Dev) (g : Nat) : Nat := d.fld rRlGrpCfg 29 3 0 g + 1
/-- GEN. -/
def Dev.rlGen (d : Dev) (g : Nat) : Nat := d.fld rRlGrpCfg 32 8 0 g
/-- PARENT. -/
def Dev.rlParent (d : Dev) (g : Nat) : Nat := d.fld rRlGrpTree 0 18 0 g
/-- INDEX_AT_PARENT. -/
def Dev.rlIndexUp (d : Dev) (g : Nat) : Nat := d.fld rRlGrpTree 18 8 0 g
/-- ROOT_EP. -/
def Dev.rlRootEp (d : Dev) (g : Nat) : Nat := d.fld rRlGrpTree 26 16 0 g

/-- The child entry of a child index (R169). -/
def Dev.rlChild (d : Dev) (g i : Nat) : Nat := d.rd rRlChild (d.rlBase g + i)

/-- The child is a local member endpoint. -/
def Dev.rlIsLocal (d : Dev) (g i : Nat) : Bool := flag (d.rlChild g i) 18

/-- The endpoint of a local child. -/
def Dev.rlChildEp (d : Dev) (g i : Nat) : Nat := field (d.rlChild g i) 0 16

/-- The node of a remote child. -/
def Dev.rlChildNode (d : Dev) (g i : Nat) : Nat := field (d.rlChild g i) 0 18

/-- The child indices of a group, in order (R169). -/
def Dev.rlChildren (d : Dev) (g : Nat) : List Nat := upFrom 0 (d.rlCount g)

/-- The child index of a local member endpoint (R175). -/
def Dev.rlMemberIndex (d : Dev) (g ep : Nat) : Option Nat :=
  firstThat (d.rlChildren g) (fun i => d.rlIsLocal g i && d.rlChildEp g i == ep)

/-- A group in service. -/
def RlGroup.active (x : RlGroup) : Bool := x.state = .ready || x.state = .running

/-- The rank of a cause among those of one cycle: the child index it concerns, the parent behind every child, and what concerns
no child last (R195). -/
def Dev.rlRank (d : Dev) (g : Nat) (c : RlCause) : Nat :=
  match c.lost with
  | some peer => peer
  | none => if c.localFailed && decide (c.origin = d.node) then (d.rlMemberIndex g c.failed).getD 257 else 257

/-- A cause of an abort is detected: the first one gives the reason, of those of one cycle the first in rank (R193 to R195). A lost
peer is noted. The causes of one step of the model are those of one cycle (DESIGN CHOICE, log entry 184). -/
def Dev.rlCause (d : Dev) (g reason origin failed : Nat) (localFailed : Bool) (lost : Option Nat) : Dev :=
  let x := d.rlGroup g
  let c : RlCause := ⟨reason, origin, failed, localFailed, lost, d.now⟩
  let first := match x.cause with
    | none => true
    | some b => x.fresh && decide (d.rlRank g c < d.rlRank g b)
  if x.active then
    let x := { x with gone := lost.toList ++ x.gone }
    d.setRlGroup g (if first then { x with cause := some c, fresh := true } else x)
  else d

/-- The running step ends: its causes stand. -/
def Dev.rlSettled (d : Dev) : Dev :=
  forEach (Tbl.keys d.rl.groups) (fun g d =>
    if (d.rlGroup g).fresh then d.setRlGroup g { d.rlGroup g with fresh := false } else d) d

/-- Abort reasons of R194. -/
def raChildLost : Nat := 1
def raParentLost : Nat := 2
def raMemberGone : Nat := 3
def raMemberFault : Nat := 4
def raMismatch : Nat := 5
def raHost : Nat := 6
def raMgmt : Nat := 7
def raPeerOff : Nat := 8
def raAccParity : Nat := 9

/-- A local member endpoint is disabled, fenced, reset or destroyed: every group in service of which it is a local child
is to abort (R193). -/
def Dev.memberGone (d : Dev) (ep : Nat) : Dev :=
  forEach (Tbl.keys d.rl.groups) (fun g d =>
    if (d.rlMemberIndex g ep).isSome then d.rlCause g raMemberGone d.node ep true none else d) d

end Sys2Proof.Machine
end

