-- ==== Sys2Proof/Machine/Control.lean ====
section
/-! DEFINITION. The ends of an endpoint's state, fences of functions and endpoints, the context cache, the control ring
and its entries, ENABLE and RESUME (R56, R76 to R84, R114, R165, R513, R514). -/

namespace Sys2Proof.Machine

/-! ### Ends (R80, R81, R84, R114, R165) -/

/-- The endpoint whose initiator state a message belongs to; a FIN, a grant or a window message belongs to none that
ends with an endpoint. -/
def Msg.endsWith (m : Msg) (ep : Nat) : Bool :=
  match m.owner with
  | .cmd e _ _ _ => e == ep
  | .rts e _ _ => e == ep
  | .pull _ _ => m.srcEp == ep
  | .lockReq e _ _ => e == ep
  | _ => false

/-- A message is discarded without an outcome: its late responses find nothing (R80, R138). -/
def Dev.discardMsg (m : Msg) (d : Dev) : Dev :=
  let d := (d.returnCredits m).dropWaiter m.num
  { d with tp := { d.tp with msgs := d.tp.msgs.filter (fun x => x.num != m.num) } }

/-- The parking slot of the packet whose access walks. -/
def XlOwner.slot (o : XlOwner) : Option Nat :=
  match o with
  | .arrival s => some s
  | .getResp s => some s
  | _ => none

/-- The walks of an endpoint's accesses end, and the packets that waited for them are dropped: nothing of it is written later
(R80, R131). -/
def Dev.dropWalks (d : Dev) (ep : Nat) : Dev :=
  let slots := (d.xl.walks.filter (fun w => w.access.ep == ep)).filterMap (fun w => w.owner.slot)
  { d with
    xl := { d.xl with walks := d.xl.walks.filter (fun w => w.access.ep != ep) },
    tp := { d.tp with parked := d.tp.parked.filter (fun p => !(slots.contains p.1)) } }

/-- An arriving message of an endpoint that is in progress ends: later packets of it are refused (R131). -/
def TgtRec.cut (r : TgtRec) : TgtRec :=
  match r.state with
  | .completed _ _ => r
  | _ => { r with ended := true, rsv := false, header := none }

/-- The initiator operations of an endpoint end without an event, its page-request records and rendezvous entries are freed,
and its arriving messages end and hold no reservation any more (R71, R80, R114, R131, R155). -/
def Dev.dropOps (d : Dev) (ep : Nat) : Dev :=
  let d := (forEach (d.tp.msgs.filter (fun m => m.endsWith ep)) Dev.discardMsg d).dropWalks ep
  ((({ d with
    tp := { d.tp with
      cmds := d.tp.cmds.filter (fun c => c.ep != ep),
      recs := mapWhere d.tp.recs (fun r => r.dstEp == ep && decide (r.type ≠ tyLsReq)) TgtRec.cut },
    xl := { d.xl with
      prq := d.xl.prq.filter (fun p => match p.2 with | some r => r.ep != ep | none => false),
      prqQueue := d.xl.prqQueue.filter (fun (w : PrqWaiter) => w.2.ep != ep) } }).rdvFreed).owe .prqWake)

/-- Everything an endpoint has in progress ends (R80, R81, R84, R165, R193). -/
def Dev.endEp (d : Dev) (ep : Nat) : Dev := (((d.dropOps ep).mxEnd ep).memberGone ep).sampleDrop ep

/-- Entries whose reads are issued are discarded with their reservations, and events that wait take the slots (R73, R515). -/
def Dev.dropIssued (d : Dev) (ep : Nat) : Dev :=
  match d.ep ep with
  | none => d
  | some c => (d.setEp ep (some { c with
      evt := { c.evt with rsv := c.evt.rsv - c.cmd.issued },
      cmd := { c.cmd with issued := 0, waitRaised := false, retries := 0, stale := false } })).drainEvt ep

/-- The endpoints of a function. -/
def Dev.fnEps (d : Dev) (h : Nat) : List Nat :=
  (Tbl.keys d.hq.eps).filter (fun ep => d.fnOf ep == h && (d.ep ep).isSome)

/-- Steps 1 to 4 of the fence of a function, and what R114, R165 and R392 end with it (R80). -/
def Dev.fenceFn (d : Dev) (h reason index : Nat) : Dev :=
  let f := d.fn h
  let d := d.setFn h { f with
    fenced := some (reason, index),
    evt := { f.evt with rsv := f.evt.rsv - f.cmd.issued },
    cmd := { f.cmd with issued := 0, retries := 0, stale := false } }
  let d := forEach (d.fnEps h) (fun ep d => (d.dropIssued ep).endEp ep) d
  d.loseHost h

/-- A function is fenced once: a second error changes nothing. -/
def Dev.fenceFnOnce (d : Dev) (h reason index : Nat) (src inst : Nat) : Dev :=
  if d.fnFenced h then d
  else ((d.latchHq 0 index reason h true).raise src inst).fenceFn h reason index

/-- A malformed control entry or control doorbell fences the function (R80). -/
def Dev.ctrlMalformed (d : Dev) (h reason index : Nat) : Dev := d.fenceFnOnce h reason index evHqCtrlMalformed h

/-- A bus error on a control ring access fences the function (R80). -/
def Dev.ctrlBus (d : Dev) (h index : Nat) : Dev := d.fenceFnOnce h 11 index evHqRingBus (0x10000 + h)

/-- An endpoint is fenced: both of its rings stop with a reason, arrivals receive REMOTE_DISABLED, and messages in progress end
(R84, R131, R408). -/
def Dev.fenceEp (d : Dev) (ep reason : Nat) : Dev :=
  let d := (d.dropIssued ep).memberGone ep
  match d.ep ep with
  | none => d
  | some c =>
    let d := { d with tp := { d.tp with
      recs := mapWhere d.tp.recs (fun r => r.dstEp == ep && decide (r.type ≠ tyLsReq)) TgtRec.cut } }
    d.setEp ep (some { c with
      fenced := some (c.fenced.getD reason), cmd := { c.cmd with stopped := some (c.cmd.stopped.getD reason) } })

/-- Destroy an endpoint: its state, its locks and its fence entries end (R79, R165, R392, R408). -/
def Dev.destroyEp (d : Dev) (ep : Nat) : Dev :=
  let d := (d.endEp ep).loseEndpoint ep
  ((d.setEp ep none).clearFence .endpoint ep).clearFence .ring ep

/-- A function reset: its endpoints are destroyed, its control page returns to its reset values, its locks are freed and
its fence ends (R81, R392, R408). -/
def Dev.resetFn (d : Dev) (h : Nat) : Dev :=
  let d := forEach (d.fnEps h) (fun ep d => d.destroyEp ep) d
  let d := (d.loseHost h).setFn h {}
  let d := { d with
    regs := d.regs.filter (fun r => !(decide (2 ^ 61 ≤ r.1) && decide (field r.1 32 29 = h + 1))),
    xl := { d.xl with inv := Tbl.put {} h {} d.xl.inv },
    wn := { d.wn with flush := Tbl.put {} h {} d.wn.flush } }
  (d.clearFence .function h).raise evHqFnResetDone 0

/-! ### ENABLE and RESUME (R76, R82) -/

/-- EP_CTL.ENABLE 1 (R82). -/
def Dev.enableEp (d : Dev) (ep : Nat) : Dev :=
  match d.ep ep with
  | none => d
  | some c => (((d.setEp ep (some { c with enable := true })).touch ep).refetch ep).owe (.epIdle ep)

/-- EP_CTL.ENABLE 0: fetching stops, entries not accepted are discarded, and MX acts as R164 says (R82). -/
def Dev.disableEp (d : Dev) (ep : Nat) : Dev :=
  match d.ep ep with
  | none => d
  | some c =>
    if c.enable then
      (((((d.setEp ep (some { c with enable := false })).dropIssued ep).mxDisable ep).memberGone ep).touch ep).owe (.epIdle ep)
    else d

/-- EP_CTL.RESUME 1: a stopped command ring goes on; ignored while STOPPED is 0, and for a fenced endpoint, which only
DESTROY_EP or a function reset releases (R76, R408). -/
def Dev.resumeRing (d : Dev) (ep : Nat) : Dev :=
  match d.ep ep with
  | none => d
  | some c =>
    if c.cmd.stopped.isNone || c.fenced.isSome then d
    else (((d.setEp ep (some { c with cmd := { c.cmd with stopped := none } })).clearFence .ring ep).touch ep).refetch ep

/-! ### The context cache (R84) -/

/-- Contexts on die, and pinned ones. -/
def Dev.cachedCtx (d : Dev) : Nat := countWhere d.hq.eps (fun p => match p.2 with | some c => c.onDie | none => false)
def Dev.pinnedCtx (d : Dev) : Nat := countWhere d.hq.eps (fun p => match p.2 with | some c => c.pin | none => false)

/-- The least recently used unpinned context on die, other than one to be kept. -/
def lruCtx (keep : Nat) : Tbl (Option EpCtx) → Option (Nat × EpCtx) → Option (Nat × EpCtx)
  | [], best => best
  | (ep, some c) :: rest, best =>
    if c.onDie && !c.pin && ep != keep
        && (match best with | some b => decide (c.lastUse < b.2.lastUse) | none => true) then
      lruCtx keep rest (some (ep, c))
    else lruCtx keep rest best
  | (_, none) :: rest, best => lruCtx keep rest best

/-- Where a context stands in the Cask of its function (R84). -/
def Dev.caskAddr (d : Dev) (ep fn : Nat) : Nat := (d.fn fn).cask + 512 * (ep - d.fld rHqFnRange 0 16 fn)

/-- Make room for a context: while more than 8,192 stand on die, the least recently used unpinned one is written to its
Cask slot (R84). A fenced function's memory is not written (R80). -/
def Dev.evictCtx (d : Dev) (keep : Nat) : Dev :=
  if d.hq.eps.length ≤ 8192 ∨ d.cachedCtx ≤ 8192 then d
  else match lruCtx keep d.hq.eps none with
    | some (ep, c) =>
      let d' := d.setEp ep (some { c with onDie := false })
      if d.fnFenced c.fn then d' else d'.emit (.caskSpill c.fn (d.caskAddr ep c.fn) ep)
    | none => d

/-! ### The control ring (R77 to R80, R513, R514) -/

/-- Statuses of R79. -/
def stEpRange : Nat := 0x30
def stExists : Nat := 0x31
def stPinLimit : Nat := 0x32
def stNotFound : Nat := 0x33
def stEpBusy : Nat := 0x34
def stApplyRefused : Nat := 0x35

/-- Reserve slots and issue the reads of shown control entries (R71, R77, R515). -/
def Dev.issueCtrl (d : Dev) (h : Nat) : Dev :=
  let f := d.fn h
  if !f.enable || f.fenced.isSome then d
  else
    let wanted := f.cmd.shown - f.cmd.issued
    let n := min wanted f.evt.freeCount
    let waits := decide (n < wanted)
    let raised := if n = 0 then f.cmd.waitRaised else false
    ((d.setFn h { f with
      evt := { f.evt with rsv := f.evt.rsv + n },
      cmd := { f.cmd with issued := f.cmd.issued + n, waitRaised := waits } }).emits
      (f.cmd.reads h n).reverse).raiseIf (waits && !raised) evHqEvtWait (0x10000 + h)

/-- A control doorbell (R58, R80). -/
def Dev.ctrlDoor (d : Dev) (h value : Nat) : Dev :=
  let f := d.fn h
  let p : Pos := ⟨field value 0 16, flag value 16⟩
  let good := decide (value / 2 ^ 17 = 0) && decide (p.index < f.cmd.size) &&
    (match ringDist f.cmd.size f.cmd.cons p, ringDist f.cmd.size f.cmd.cons f.cmd.door with
      | some n, some m => decide (m ≤ n)
      | _, _ => false)
  if good then (d.setFn h { f with cmd := { f.cmd with door := p } }).issueCtrl h
  else d.ctrlMalformed h 9 f.cmd.cons.index

/-- A control event doorbell (R58, R59, R77). -/
def Dev.ctrlEvtDoor (d : Dev) (h value : Nat) : Dev :=
  let f := d.fn h
  let p : Pos := ⟨field value 0 16, flag value 16⟩
  let good := decide (value / 2 ^ 18 = 0) && decide (p.index < f.evt.size) &&
    (match ringDist f.evt.size f.evt.host p, ringDist f.evt.size f.evt.host f.evt.prod with
      | some n, some m => decide (n ≤ m)
      | _, _ => false)
  if good then
    (d.setFn h { f with evt := { f.evt with host := p, armed := f.evt.armed || flag value 17 } }).issueCtrl h
  else d.ctrlMalformed h 10 f.cmd.cons.index

/-- Places of a control entry in use (R78, R80). -/
def ctrlPlaces (op : Nat) : List (Nat × Nat) :=
  [(0, 8), (16, 16), (32, 16), (63, 1)]
    ++ (if op = 0x40 ∨ op = 0x42 then
          [(64, 64), (128, 64), (192, 5), (200, 5), (208, 8), (216, 4), (224, 11)]
        else if op = 0x43 then [(256, 64)] else [])

/-- A ring size of R78 lies outside 6 to 16. -/
def badLog2 (n : Nat) : Bool := decide (n < 6) || decide (16 < n)

/-- FORM, reason 12: a size outside 6 to 16 or a ring base not aligned (R53, R80). -/
def ctrlForm (e : Nat) : Bool :=
  badLog2 (field e 192 5) || badLog2 (field e 200 5) || decide (entU64 e 8 % (64 * 2 ^ field e 192 5) ≠ 0)
    || decide (entU64 e 16 % (32 * 2 ^ field e 200 5) ≠ 0)

/-- The first reason that makes a control entry malformed, past its lap bit (R80). -/
def ctrlReason (e : Nat) : Option Nat :=
  let op := entOpcode e
  if op < 0x40 ∨ 0x43 < op then some 1
  else if !(zeroOutside e (ctrlPlaces op)) then some 2
  else if (op = 0x40 ∨ op = 0x42) ∧ ctrlForm e then some 12
  else none

/-- HQ_PIN_MAX as it acts (R87). -/
def Dev.pinMax (d : Dev) : Nat := min 6144 (d.fld rHqPinMax 0 14)

/-- EP of a control entry. -/
def ctrlEp (e : Nat) : Nat := field e 16 16

/-- CREATE_EP (R78, R79). -/
def Dev.createEp (d : Dev) (h e : Nat) : Nat × Dev :=
  let ep := ctrlEp e
  let pin := flag e 218
  if !(d.inRange h ep) then (stEpRange, d)
  else if (d.ep ep).isSome then (stExists, d)
  else if pin && decide (d.pinMax ≤ d.pinnedCtx) then (stPinLimit, d.raise evHqPinLimit h)
  else
    let c : EpCtx :=
      { fn := h, asTag := field e 32 16, tcMask := field e 208 8, irqEn := flag e 216, ctrPage := flag e 217, pin := pin,
        enable := flag e 219, msix := field e 224 11,
        cmd := { base := entU64 e 8, log2 := field e 192 5 }, evt := { base := entU64 e 16, log2 := field e 200 5 } }
    let c := { c with idleSeen := !c.enable }
    (stOk, ((d.setEp ep (some c)).touch ep).evictCtx ep)

/-- DESTROY_EP (R79, R84). -/
def Dev.destroyCmd (d : Dev) (h e : Nat) : Nat × Dev :=
  let ep := ctrlEp e
  match d.ep ep with
  | none => (stNotFound, d)
  | some c =>
    if c.fn ≠ h then (stNotFound, d)
    else if c.fenced.isSome || d.idle ep then (stOk, d.destroyEp ep)
    else (stEpBusy, d)

/-- A ring with a new base or size starts as a new ring does: its positions return to index 0, lap 1. DEDUCED (log entry 178):
R513 names the positions alone, so STOPPED with its reason, and the armed interrupt, stay. -/
def EpCtx.withRings (c : EpCtx) (e : Nat) : EpCtx :=
  let cmd := if c.cmd.base = entU64 e 8 ∧ c.cmd.log2 = field e 192 5 then c.cmd
    else { base := entU64 e 8, log2 := field e 192 5, stopped := c.cmd.stopped }
  let evt := if c.evt.base = entU64 e 16 ∧ c.evt.log2 = field e 200 5 then c.evt
    else { base := entU64 e 16, log2 := field e 200 5, armed := c.evt.armed }
  { c with cmd := cmd, evt := evt, asTag := field e 32 16 }

/-- A MODIFY_EP entry asks for a change of a class Q field (R79). -/
def EpCtx.wantsQ (c : EpCtx) (e : Nat) : Bool := decide (c.withRings e ≠ c)

/-- MODIFY_EP (R79, R513). -/
def Dev.modifyEp (d : Dev) (h e : Nat) : Nat × Dev :=
  let ep := ctrlEp e
  match d.ep ep with
  | none => (stNotFound, d)
  | some c =>
    if c.fn ≠ h then (stNotFound, d)
    else if c.wantsQ e && !(d.idle ep) then (stApplyRefused, d)
    else if flag e 218 && !c.pin && decide (d.pinMax ≤ d.pinnedCtx) then (stPinLimit, d.raise evHqPinLimit h)
    else (stOk, d.setEp ep (some { c.withRings e with
      tcMask := field e 208 8, irqEn := flag e 216, pin := flag e 218, msix := field e 224 11 }))

/-- HQ_EP_STATE of an endpoint (R87). -/
def Dev.epState (d : Dev) (ep : Nat) : Nat :=
  match d.ep ep with
  | none => 0
  | some c => pack [(1, 1), (1, bit c.enable), (1, bit (d.idle ep)), (1, bit c.cmd.stopped.isSome), (1, bit c.onDie),
      (1, bit c.pin), (16, c.cmd.cons.index), (1, bit c.cmd.cons.lap), (16, c.evt.prod.index), (1, bit c.evt.prod.lap),
      (17, c.evt.rsv)]

/-- A read of EP_CMD_DB (R57). -/
def Dev.readCmdDb (d : Dev) (ep : Nat) : Nat :=
  match d.ep ep with
  | none => 0
  | some c => pack [(16, c.cmd.cons.index), (1, bit c.cmd.cons.lap), (1, bit c.cmd.stopped.isSome), (1, bit (d.idle ep)),
      (8, c.cmd.stopped.getD 0)]

/-- A read of EP_EVT_DB (R57). -/
def Dev.readEvtDb (d : Dev) (ep : Nat) : Nat :=
  match d.ep ep with
  | none => 0
  | some c => pack [(16, c.evt.prod.index), (1, bit c.evt.prod.lap), (17, c.evt.rsv)]

/-- Page-request records an endpoint holds (R111). -/
def Dev.pagePending (d : Dev) (ep : Nat) : Nat :=
  countWhere d.xl.prq (fun p => match p.2 with | some r => r.ep == ep | none => false)

/-- The 64 bytes that QUERY_EP writes (R514). -/
def Dev.queryBytes (d : Dev) (ep : Nat) (c : EpCtx) : List Byte :=
  toBytes 8 (d.epState ep) ++ toBytes 8 c.cmd.base ++ toBytes 8 c.evt.base ++ toBytes 1 c.cmd.log2
    ++ toBytes 1 c.evt.log2 ++ toBytes 1 c.tcMask
    ++ toBytes 1 (pack [(1, bit c.irqEn), (1, bit c.ctrPage), (1, bit c.pin), (1, bit c.enable)]) ++ toBytes 2 c.msix
    ++ toBytes 2 c.asTag ++ toBytes 8 (d.readCmdDb ep) ++ toBytes 8 (d.readEvtDb ep)
    ++ toBytes 4 (pack [(16, c.evt.host.index), (1, bit c.evt.host.lap)]) ++ toBytes 2 (d.pagePending ep) ++ toBytes 10 0

/-- QUERY_EP; `err` says that the write of the copy returned a bus error (R79, R514). -/
def Dev.queryEp (d : Dev) (h e : Nat) (err : Bool) : Nat × Dev :=
  let ep := ctrlEp e
  match d.ep ep with
  | none => (stNotFound, d)
  | some c =>
    if c.fn ≠ h then (stNotFound, d)
    else if err then (stLocalBus, d)
    else (stOk, d.writeMem h [(entU64 e 32, 64)] (d.queryBytes ep c))

/-- Post a CTRL_DONE into the reservation of its entry (R68, R71). -/
def Dev.ctrlDone (d : Dev) (h index op status : Nat) : Dev :=
  let f := d.fn h
  if f.fenced.isSome then d
  else
    let (e, o) := ({ f.evt with rsv := f.evt.rsv - 1 }).post h f.msix [eventWord0 index 8 status op, 0, 0, 0] true
    (d.setFn h { f with evt := e }).emits o

/-- A control entry arrives for the ring of function `h`: its lap bit, its form, then its action (R56, R80). -/
def Dev.ctrlEntry (d : Dev) (h e : Nat) (busErr : Bool) (act : Dev → Nat × Dev) : Dev :=
  let f := d.fn h
  if !f.enable || f.fenced.isSome || f.cmd.issued = 0 || f.cmd.stale then d
  else if busErr then d.ctrlBus h f.cmd.cons.index
  else if entLap e != f.cmd.cons.lap then
    if d.fld rHqCtl 0 8 ≤ f.cmd.retries then d.ctrlMalformed h 8 f.cmd.cons.index
    else d.setFn h { f with cmd := { f.cmd with stale := true } }
  else
    match ctrlReason e with
    | some r => d.ctrlMalformed h r f.cmd.cons.index
    | none =>
      let index := f.cmd.cons.index
      let d := d.setFn h { f with cmd := { f.cmd with
        cons := f.cmd.cons.advance f.cmd.size 1, issued := f.cmd.issued - 1, retries := 0 } }
      let (status, d) := act d
      (d.ctrlDone h index (entOpcode e) status).issueCtrl h

/-- LAP_REREAD: a stale entry is read again after 256 ns; `inst` names an endpoint's ring, or 0x1_0000 + h the control
ring of function h (R56, R401). -/
def Dev.lapReread (d : Dev) (inst : Nat) : Dev :=
  if 0x10000 ≤ inst then
    let h := inst - 0x10000
    let f := d.fn h
    if f.cmd.stale then
      ((d.setFn h { f with cmd := { f.cmd with stale := false, retries := f.cmd.retries + 1 } }).emit
        (.hostRead h (f.cmd.base + 64 * f.cmd.cons.index) 64)).raiseIf (decide (f.cmd.retries = 0)) evHqLapReread inst
    else d
  else
    match d.ep inst with
    | none => d
    | some c =>
      if c.cmd.stale then
        ((d.setEp inst (some { c with cmd := { c.cmd with stale := false, retries := c.cmd.retries + 1 } })).emit
          (.hostRead c.fn (c.cmd.base + 64 * c.cmd.cons.index) 64)).raiseIf (decide (c.cmd.retries = 0)) evHqLapReread inst
      else d

end Sys2Proof.Machine
end

