-- ==== Sys2Proof/Machine/Windows.lean ====
section
/-! DEFINITION. Remote memory windows: the line cache, fills, write-backs, flushes and the states of a window (R329 to
R340). -/

namespace Sys2Proof.Machine

/-! ### Windows (R329, R330) -/

/-- A window's state. -/
def Dev.win (d : Dev) (w : Nat) : WinState := Tbl.get {} d.wn.wins w

/-- Store a window's state. -/
def Dev.setWin (d : Dev) (w : Nat) (x : WinState) : Dev := { d with wn := { d.wn with wins := Tbl.put {} w x d.wn.wins } }

/-- DPA_BASE in bytes. -/
def Dev.winBase (d : Dev) (w : Nat) : Nat := d.fld rWnWinCfg 0 18 0 w * 2 ^ 28
/-- SIZE in bytes. -/
def Dev.winSize (d : Dev) (w : Nat) : Nat := d.fld rWnWinCfg 18 18 0 w * 2 ^ 28
/-- MODE: 1 RO, 2 SW. -/
def Dev.winMode (d : Dev) (w : Nat) : Nat := d.fld rWnWinCfg 36 2 0 w
/-- TC of a window. -/
def Dev.winTc (d : Dev) (w : Nat) : Nat := d.fld rWnWinCfg 38 3 0 w
/-- Bytes of a fill block (R334). -/
def Dev.winBlock (d : Dev) (w : Nat) : Nat := 128 * 2 ^ d.fld rWnWinCfg 41 3 0 w
/-- WRITER of a window. -/
def Dev.winWriter (d : Dev) (w : Nat) : Nat := d.fld rWnWinCfg 48 5 0 w
/-- The home address of a DPA (R329). -/
def Dev.winHome (d : Dev) (w dpa : Nat) : Nat := (d.rd rWnWinAddr 0 w + (dpa - d.winBase w)) % 2 ^ 64

/-- A window that is not OFF serves a host (R329). -/
def Dev.winServes (d : Dev) (w h : Nat) : Bool :=
  decide ((d.win w).use ≠ .off)
    && (if d.winMode w = 1 then flag (d.rd rWnWinHosts 0 w) h else d.winWriter w == h)

/-- The window that serves a host at a DPA (R330). -/
def Dev.winAt (d : Dev) (h dpa : Nat) : Option Nat :=
  firstThat (Tbl.keys d.wn.wins)
    (fun w => d.winServes w h && decide (d.winBase w ≤ dpa) && decide (dpa < d.winBase w + d.winSize w))

/-- Latch the first window error with its DPA (R341). -/
def Dev.latchWn (d : Dev) (w reason host status dpa : Nat) : Dev :=
  if flag (d.rd rWnErrLatch) 63 then d
  else (d.latch rWnErrLatch (pack [(8, w), (4, reason), (5, host), (7, 0), (8, status)])).wr rWnErrDpa dpa

/-- A completion to a host: read data, poison, or Cmp without data (R333). -/
def Dev.cxlAnswer (d : Dev) (host tag : Nat) (poison : Bool) (data : Option Nat) : Dev :=
  d.emit (.cxl (.rsp host tag poison data))

/-! ### Lines (R332) -/

/-- A line is the one of a window and number. -/
def WnLine.is (l : WnLine) (w line : Nat) : Bool := l.window == w && l.line == line

/-- A cached line. -/
def Dev.wnLine (d : Dev) (w line : Nat) : Option WnLine := firstThat d.wn.lines (fun l => l.is w line)

/-- A sector of a line is valid. -/
def WnLine.valid (l : WnLine) (s : Nat) : Bool := if s = 0 then l.valid0 else l.valid1
/-- The data of a sector. -/
def WnLine.data (l : WnLine) (s : Nat) : Nat := if s = 0 then l.data0 else l.data1
/-- A line holds a dirty sector. -/
def WnLine.dirty (l : WnLine) : Bool := l.dirty0 || l.dirty1

/-- Fill or write a sector: it becomes valid, and dirty where asked. -/
def WnLine.put (l : WnLine) (s data : Nat) (dirty : Bool) : WnLine :=
  if s = 0 then { l with valid0 := true, data0 := data % 2 ^ 512, dirty0 := l.dirty0 || dirty }
  else { l with valid1 := true, data1 := data % 2 ^ 512, dirty1 := l.dirty1 || dirty }

/-- Store a line as the most recently used (R332). -/
def Dev.useLine (d : Dev) (l : WnLine) : Dev :=
  { d with wn := { d.wn with lines := l :: d.wn.lines.filter (fun x => !(x.is l.window l.line)) } }

/-- Store a line in its place. -/
def Dev.setLine (d : Dev) (l : WnLine) : Dev :=
  { d with wn := { d.wn with lines := mapFirst d.wn.lines (fun x => x.is l.window l.line) (fun _ => l) } }

/-- Remove a line. -/
def Dev.dropLine (d : Dev) (w line : Nat) : Dev :=
  { d with wn := { d.wn with lines := d.wn.lines.filter (fun x => !(x.is w line)) } }

/-- Raise DIRTY_HIGH when the dirty lines come to exceed DIRTY_WARN (R342). -/
def Dev.dirtyCheck (d : Dev) : Dev :=
  let high := decide (d.fld rWnCtl 8 19 < countWhere d.wn.lines WnLine.dirty)
  ({ d with wn := { d.wn with dirtyHigh := high } }).raiseIf (high && !d.wn.dirtyHigh) evWnDirtyHigh 0

/-! ### Write-backs (R336) -/

/-- A write-back of a line is in flight. -/
def Dev.wbRuns (d : Dev) (w line : Nat) : Bool := d.wn.wbs.any (fun b => b.window == w && b.line == line)

/-- Send the WN_WRITE of a line's dirty sectors (R336, R339). -/
def Dev.sendWb (d : Dev) (l : WnLine) : Dev :=
  let both := l.dirty0 && l.dirty1
  let len := if both then 128 else 64
  let home := d.winHome l.window (128 * l.line) + (if both || l.dirty0 then 0 else 64)
  let data := if both then toBytes 64 l.data0 ++ toBytes 64 l.data1
    else toBytes 64 (if l.dirty0 then l.data0 else l.data1)
  ({ d with wn := { d.wn with wbs := d.wn.wbs ++ [WnWb.mk l.window l.line home len] } }).addMsg
    { num := 0, owner := .writeBack l.window l.line, type := tyWnWrite, srcEp := l.window,
      dstNode := d.fld rWnWinHome 0 18 0 l.window, dstEp := d.fld rWnWinHome 18 16 0 l.window, tc := d.winTc l.window,
      len := len, addr := home, key := d.fld rWnWinHome 34 24 0 l.window, inline_ := data }

/-- Write a cached line's dirty sectors back; while a write-back of the line is in flight, again after its outcome
(R336). -/
def Dev.startWb (d : Dev) (w line : Nat) : Dev :=
  match d.wnLine w line with
  | none => d
  | some l =>
    if !l.dirty then d
    else if d.wbRuns w line then d.setLine { l with again := true }
    else (d.setLine { l with dirty0 := false, dirty1 := false, use := .wb, again := false }).sendWb l

/-- Remove a victim, writing its dirty data back first (R332). -/
def Dev.evict (d : Dev) (l : WnLine) : Dev :=
  if l.dirty then (d.sendWb l).dropLine l.window l.line else d.dropLine l.window l.line

/-- The set of a line. -/
def WnLine.set (l : WnLine) : Nat := Config.wnSet l.window l.line % 24576

/-- A line that neither fills nor is under write-back (R332). -/
def Dev.lineIdle (d : Dev) (l : WnLine) : Bool :=
  decide (l.use = .clean) && !(d.wn.fills.any (fun f =>
    f.window == l.window && decide (f.block ≤ 128 * l.line) && decide (128 * l.line < f.block + f.len)))

/-- The least recently used line that may be replaced: neither filling nor under write-back, nor with a write-back of an
earlier use of its place in flight (R332, R336). -/
def Dev.victim (d : Dev) (p : WnLine → Bool) : Option WnLine :=
  firstThat d.wn.lines.reverse (fun l => p l && d.lineIdle l && !(l.dirty && d.wbRuns l.window l.line))

/-- MAX_LINES of a window (R341). -/
def Dev.winMax (d : Dev) (w : Nat) : Nat := d.fld rWnWinLimit 0 19 0 w

/-- A window at MAX_LINES gives up one of its own lines (R332): none when every one of them is in use. -/
def Dev.quotaRoom (d : Dev) (w : Nat) : Option Dev :=
  if d.winMax w = 0 ∨ countWhere d.wn.lines (fun l => l.window == w) < d.winMax w then some d
  else (d.victim (fun l => l.window == w)).map (fun l => (d.evict l).raise evWnLineQuota w)

/-- A set of 16 lines gives up one (R332): none when every one of them is in use. -/
def Dev.setRoom (d : Dev) (l : WnLine) : Option Dev :=
  if d.wn.lines.length < 16 then some d
  else if countWhere d.wn.lines (fun x => decide (x.set = l.set)) < 16 then some d
  else (d.victim (fun x => decide (x.set = l.set))).map (fun v => d.evict v)

/-- A place for a new line (R332). -/
def Dev.allocLine (d : Dev) (l : WnLine) : Option Dev :=
  match d.quotaRoom l.window with
  | none => none
  | some d => (d.setRoom l).map (fun d => d.useLine l)

/-! ### Fills (R334) -/

/-- The first DPA of the fill block of an address. -/
def Dev.blockOf (d : Dev) (w dpa : Nat) : Nat := dpa / d.winBlock w * d.winBlock w

/-- A write-back of the window overlaps a fill's home range (R334). -/
def Dev.fillHeld (d : Dev) (f : WnFill) : Bool :=
  d.wn.wbs.any (fun b => b.window == f.window && overlaps b.home b.len (d.winHome f.window f.block) f.len)

/-- Send the fills that no write-back holds back any more (R334, R339). -/
def Dev.sendFill (f : WnFill) (d : Dev) : Dev :=
  if f.sent || d.fillHeld f then d
  else
    ({ d with wn := { d.wn with
        fills := mapFirst d.wn.fills (fun x => x.num == f.num) (fun x => { x with sent := true }) } }).addMsg
      { num := 0, owner := .fill f.window f.num, type := tyWnFill, srcEp := f.window,
        dstNode := d.fld rWnWinHome 0 18 0 f.window, dstEp := d.fld rWnWinHome 18 16 0 f.window, tc := d.winTc f.window,
        len := f.len, addr := d.winHome f.window f.block, key := d.fld rWnWinHome 34 24 0 f.window }

/-- Send every fill that may go. -/
def Dev.sendFills (d : Dev) : Dev := forEach d.wn.fills Dev.sendFill d

/-- The lines of a block enter FILLING: those not cached take a place where one is free (R334). -/
def Dev.fillLine (w line : Nat) (d : Dev) : Dev :=
  match d.wnLine w line with
  | some l => if l.use = .clean then d.setLine { l with use := .filling } else d
  | none => (d.allocLine { window := w, line := line, use := .filling }).getD d

/-- The running fill of a block, of the window's present use (R334, R335). -/
def WnFill.of (f : WnFill) (w block : Nat) : Bool := f.window == w && f.block == block && !f.stale

/-- A request waits for a place in its set (R332). -/
def Dev.blockReq (d : Dev) (x : WnWait) : Dev := { d with wn := { d.wn with blocked := d.wn.blocked ++ [x] } }

/-- A request that misses waits for the fill of its block; the first starts it. The request waits for a place where its
line finds none (R332, R334). -/
def Dev.missWait (d : Dev) (w : Nat) (x : WnWait) : Dev :=
  let block := d.blockOf w x.dpa
  let line := x.dpa / 128
  let placed := match d.wnLine w line with
    | some _ => some (d.fillLine w line)
    | none => d.allocLine { window := w, line := line, use := .filling }
  match placed with
  | none => d.blockReq x
  | some d =>
    match firstThat d.wn.fills (fun f => f.of w block) with
    | some _ =>
      { d with wn := { d.wn with
        fills := mapFirst d.wn.fills (fun f => f.of w block) (fun f => { f with waits := f.waits ++ [x] }) } }
    | none =>
      let n := d.winBlock w / 128
      let d := forEach (upFrom (block / 128) n) (Dev.fillLine w) d
      let f : WnFill :=
        { num := d.wn.nextFill, window := w, block := block, len := d.winBlock w, since := d.now, waits := [x] }
      ({ d with wn := { d.wn with fills := d.wn.fills ++ [f], nextFill := d.wn.nextFill + 1 } }).sendFills

/-! ### Requests of a host (R333) -/

/-- AGE_LIMIT of a window (R335). -/
def Dev.winAge (d : Dev) (w : Nat) : Nat := d.fld rWnWinLimit 32 24 0 w

/-- A clean line whose age has reached AGE_LIMIT (R335). -/
def Dev.lineOld (d : Dev) (l : WnLine) : Bool :=
  !l.dirty && d.lineIdle l && decide (d.winAge l.window ≠ 0) && decide (d.winAge l.window ≤ d.waited l.stamp)

/-- The 512-bit mask of a 64-bit byte mask. -/
def byteMask (mask : Nat) : Nat := maskOf (((upFrom 0 64).filter (fun i => flag mask i)).map (fun i => (8 * i, 8)))

/-- Old data with the masked bytes replaced (R333). -/
def mergeBytes (old new mask : Nat) : Nat :=
  let m := byteMask mask
  (old ||| m) ^^^ m ||| (new &&& m)

/-- A read of an ACTIVE window: a hit returns the sector, anything else misses (R333 to R335). -/
def Dev.readIn (d : Dev) (w : Nat) (x : WnWait) : Dev :=
  match d.wnLine w (x.dpa / 128) with
  | some l =>
    if d.lineOld l then (d.dropLine w l.line).missWait w x
    else if l.valid (x.dpa / 64 % 2) then
      (d.useLine l).cxlAnswer x.host x.tag false (some (l.data (x.dpa / 64 % 2)))
    else d.missWait w x
  | none => d.missWait w x

/-- Write a sector into a cached line and complete (R333, R336). -/
def Dev.writeLine (d : Dev) (l : WnLine) (x : WnWait) (data : Nat) : Dev :=
  let l' := l.put (x.dpa / 64 % 2) data true
  (((d.useLine { l' with dirtySince := if l.dirty then l.dirtySince else d.now }).cxlAnswer x.host x.tag false
    none)).dirtyCheck

/-- A write of an ACTIVE SW window from its WRITER: a full sector goes into the cache with no fill, a partial one is
merged once the sector is valid (R333). -/
def Dev.writeIn (d : Dev) (w : Nat) (x : WnWait) (mask data : Nat) : Dev :=
  let s := x.dpa / 64 % 2
  match d.wnLine w (x.dpa / 128) with
  | some l =>
    if mask = 2 ^ 64 - 1 then d.writeLine l x data
    else if l.valid s then d.writeLine l x (mergeBytes (l.data s) data mask)
    else d.missWait w x
  | none =>
    if mask = 2 ^ 64 - 1 then
      let l : WnLine := { window := w, line := x.dpa / 128, stamp := d.st.boundaries }
      match d.allocLine l with
      | some d => d.writeLine l x data
      | none => d.blockReq x
    else d.missWait w x

/-- A CXL.mem request to the window device; requests of one host to one line take effect in arrival order (R330, R333). -/
def Dev.wnRequest (d : Dev) (x : WnWait) : Dev :=
  let refuse (d : Dev) : Dev := d.cxlAnswer x.host x.tag x.write.isNone none
  match d.winAt x.host x.dpa with
  | none => refuse ((d.latchWn 0 2 x.host 0 x.dpa).raise evWnNoWindow x.host)
  | some w =>
    if (d.win w).use ≠ .active then refuse d
    else if d.wn.blocked.any (fun y => y.host == x.host && y.dpa / 128 == x.dpa / 128) then d.blockReq x
    else match x.write with
      | none => d.readIn w x
      | some (mask, data) =>
        if d.winMode w = 1 then
          refuse (((d.latchWn w 1 x.host 0 x.dpa).emit (.mediaEvent x.host x.dpa 64)).raise evWnRoWrite w)
        else d.writeIn w x mask data

/-- WINDOW_READ: a read of the window device (R333). -/
def Dev.windowRead (d : Dev) (host tag dpa : Nat) : Dev := d.wnRequest ⟨host, tag, dpa, none, d.now⟩

/-- WINDOW_WRITE: a write of the window device with its byte mask (R333). -/
def Dev.windowWrite (d : Dev) (host tag dpa mask data : Nat) : Dev :=
  d.wnRequest ⟨host, tag, dpa, some (mask, data), d.now⟩

/-- Requests that waited for a place are taken up again (R332). -/
def Dev.wnUnblock (d : Dev) : Dev :=
  let waiting := d.wn.blocked
  forEach waiting (fun x d => d.wnRequest x) { d with wn := { d.wn with blocked := [] } }

/-! ### Ends of fills (R334, R335) -/

/-- Run the requests that waited for a sector, in arrival order, over its data: the data after them, and whether one
wrote. -/
def Dev.runWaits (d : Dev) (cur : Nat) (wrote : Bool) : List WnWait → Nat × Bool × Dev
  | [] => (cur, wrote, d)
  | x :: rest =>
    match x.write with
    | none => (d.cxlAnswer x.host x.tag false (some cur)).runWaits cur wrote rest
    | some (mask, data) => (d.cxlAnswer x.host x.tag false none).runWaits (mergeBytes cur data mask) true rest

/-- Fill one sector of a block: sectors already valid keep what they hold (R334). Where an error has discarded the line,
requests that would write it start again. -/
def Dev.fillSector (f : WnFill) (bytes : Nat) (i : Nat) (d : Dev) : Dev :=
  let dpa := f.block + 64 * i
  let fresh := field bytes (512 * i) 512
  let waits := f.waits.filter (fun x => x.dpa / 64 == dpa / 64)
  match d.wnLine f.window (dpa / 128) with
  | none =>
    if waits.any (fun x => x.write.isSome) then { d with wn := { d.wn with blocked := d.wn.blocked ++ waits } }
    else (d.runWaits fresh false waits).2.2
  | some l =>
    let (cur, wrote, d) := d.runWaits fresh false waits
    if l.valid (dpa / 64 % 2) then d
    else d.setLine { l.put (dpa / 64 % 2) cur wrote with
      stamp := d.st.boundaries, dirtySince := if l.dirty then l.dirtySince else d.now }

/-- The lines of a block leave FILLING; one without a valid sector is freed (R334, R335). -/
def Dev.endFilling (w : Nat) (line : Nat) (d : Dev) : Dev :=
  match d.wnLine w line with
  | none => d
  | some l =>
    if !l.valid0 && !l.valid1 then d.dropLine w line
    else if l.use = .filling then d.setLine { l with use := .clean } else d

/-- Complete waiting requests without data: reads with poison, writes discarded (R333, R335). -/
def Dev.poisonWaits (l : List WnWait) (d : Dev) : Dev :=
  forEach l (fun x d => d.cxlAnswer x.host x.tag x.write.isNone none) d

/-- A fill's message has ended (R334, R335). -/
def Dev.fillEnd (d : Dev) (w num status : Nat) (data : List Byte) : Dev :=
  match firstThat d.wn.fills (fun f => f.num == num) with
  | none => d
  | some f =>
    let d := { d with wn := { d.wn with fills := d.wn.fills.filter (fun x => x.num != num) } }
    let lines := upFrom (f.block / 128) (f.len / 128)
    if f.stale then (Dev.poisonWaits f.waits d).raiseIf (decide (status = stOk)) evWnLateFill w
    else
      let d := if status = stOk then forEach (upFrom 0 (f.len / 64)) (Dev.fillSector f (ofBytes data)) d
        else Dev.poisonWaits f.waits ((d.latchWn w 3 0 status f.block).raise evWnFillFail w)
      ((forEach lines (Dev.endFilling w) d).dirtyCheck).wnUnblock

/-- READ_TO as it acts (R341). -/
def Dev.readTo (d : Dev) : Nat := orOne (d.fld rWnCtl 0 8)

/-- A read that has waited READ_TO ticks completes with poison; the fill goes on (R335). -/
def Dev.readTimeout (d : Dev) (host tag : Nat) : Dev :=
  let late (x : WnWait) : Bool := x.host == host && x.tag == tag && x.write.isNone && decide (d.readTo ≤ d.since x.since)
  match firstThat d.wn.fills (fun f => f.waits.any late) with
  | some f =>
    let dpa := ((firstThat f.waits late).map (fun x => x.dpa)).getD 0
    ((({ d with wn := { d.wn with
        fills := mapFirst d.wn.fills (fun g => g.num == f.num)
          (fun g => { g with waits := removeFirst g.waits late }) } }).cxlAnswer host tag true none).latchWn f.window 4 host 0
      dpa).raise evWnReadTimeout f.window
  | none =>
    match firstThat d.wn.blocked late with
    | some x =>
      let w := (d.winAt host x.dpa).getD 0
      ((({ d with wn := { d.wn with blocked := removeFirst d.wn.blocked late } }).cxlAnswer host tag true none).latchWn w 4
        host 0 x.dpa).raise evWnReadTimeout w
    | none => d

/-- A window message waits more than 1 tick for a table entry or credit (R339). -/
def Dev.msgWait (d : Dev) (num : Nat) : Dev :=
  match d.msg num with
  | some m =>
    let ours := decide (m.type = tyWnFill ∨ m.type = tyWnWrite)
    if ours && m.id.isNone && decide (m.phase = .waiting) && !m.waitRaised && decide (1 < d.waited m.since) then
      (d.setMsg { m with waitRaised := true }).raise evWnMsgWait m.srcEp
    else d
  | none => d

/-! ### Fencing (R337) -/

/-- A flush counts the outcome of a line's write-back (R338). -/
def WnFlush.count (x : WnFlush) (w line : Nat) : WnFlush :=
  { x with owed := x.owed.filterMap (fun (o : Nat × Nat × Nat) =>
      if o.1 = w ∧ o.2.1 = line then (if o.2.2 ≤ 1 then none else some (o.1, o.2.1, o.2.2 - 1)) else some o) }

/-- Flushes give up the lines of a fenced window: they have failed (R337, R338). -/
def WnFlush.lose (x : WnFlush) (w : Nat) : WnFlush :=
  if x.owed.any (fun o => o.1 == w) then
    { x with owed := x.owed.filter (fun o => o.1 != w), failNow := true }
  else x

/-- Apply a change to every flush interface. -/
def Dev.mapFlush (d : Dev) (f : WnFlush → WnFlush) : Dev :=
  { d with wn := { d.wn with flush := d.wn.flush.filterMap (fun (p : Nat × WnFlush) =>
      if f p.2 = {} then none else some (p.1, f p.2)) } }

/-- What leaves a window that stops serving: waiting requests end without data, and fills held for a write-back are not
sent (R333, R335). -/
def Dev.endWaits (d : Dev) (w : Nat) : Dev :=
  let waits := (d.wn.fills.filter (fun f => f.window == w)).flatMap (fun f => f.waits)
  Dev.poisonWaits waits { d with wn := { d.wn with
    fills := mapWhere (d.wn.fills.filter (fun f => f.window != w || f.sent)) (fun f => f.window == w)
      (fun f => { f with waits := [], stale := true }) } }

/-- A window is fenced: every line is dropped, and nothing more is written back (R337). -/
def Dev.fenceWindow (d : Dev) (w reason : Nat) : Dev :=
  let d := d.setWin w { (d.win w) with use := .fenced, fenceReason := reason, failed := false }
  let unsent (m : Msg) : Bool := m.id.isNone && (match m.owner with | .writeBack x _ => x == w | _ => false)
  let gone := d.tp.msgs.filter unsent
  let d := { d with
    tp := { d.tp with msgs := d.tp.msgs.filter (fun m => !(unsent m)) },
    wn := { d.wn with
      lines := d.wn.lines.filter (fun l => l.window != w),
      wbs := d.wn.wbs.filter (fun (b : WnWb) => !(gone.any (fun (m : Msg) => decide (m.owner = MsgOwner.writeBack b.window b.line)))) } }
  ((((d.endWaits w).mapFlush (fun x => x.lose w)).emit
    (.mediaEvent (d.winWriter w) (d.winBase w) (d.winSize w))).dirtyCheck).wnUnblock

/-- A write-back's message has ended (R336, R337). -/
def Dev.wbEnd (d : Dev) (w line status : Nat) : Dev :=
  let d := { d with wn := { d.wn with wbs := removeFirst d.wn.wbs (fun b => b.window == w && b.line == line) } }
  let fails (d : Dev) : Dev := (d.latchWn w 5 0 status (128 * line)).raise evWnWbFail w
  if status = stOk then
    let d := match d.wnLine w line with
      | some (l : WnLine) =>
        let again := l.again && l.dirty
        let d := d.setLine { l with use := if l.use = LineUse.wb then LineUse.clean else l.use, stamp := d.st.boundaries, again := false }
        if again then d.startWb w line else d
      | none => d
    (((d.mapFlush (fun x => x.count w line)).sendFills).dirtyCheck).wnUnblock
  else match (d.win w).use with
    | .active => ((fails d).fenceWindow w 5).sendFills
    | .draining =>
      (((fails d).setWin w { (d.win w) with failed := true }).mapFlush
        (fun x => ({ x with failNow := x.failNow || x.owed.any (fun o => o.1 == w && o.2.1 == line) }).count w
          line)).sendFills
    | .fenced => (fails d).sendFills
    | .off => d.sendFills

/-- WB_DELAY as it acts (R341). -/
def Dev.wbDelay (d : Dev) (w : Nat) : Nat := orOne (d.fld rWnWinLimit 24 8 0 w)

/-- A line has been dirty for WB_DELAY ticks (R336). -/
def Dev.wbExpiry (d : Dev) (w line : Nat) : Dev :=
  match d.wnLine w line with
  | some l => if l.dirty && decide (d.wbDelay w ≤ d.since l.dirtySince) then d.startWb w line else d
  | none => d

/-! ### Flushes (R338) -/

/-- Write-back outcomes a line still needs before what it holds now is at the home. -/
def Dev.owedOf (d : Dev) (l : WnLine) : Nat := bit (d.wbRuns l.window l.line) + bit l.dirty

/-- Lines of a scope: those cached, and those whose write-back is in flight after their place was reused (R334, R338). -/
def Dev.scopeLines (d : Dev) (p : WnLine → Bool) : List WnLine :=
  let reused := d.wn.wbs.filter (fun (b : WnWb) => (d.wnLine b.window b.line).isNone)
  (d.wn.lines ++ reused.map (fun (b : WnWb) => WnLine.mk b.window b.line false false false false 0 0 .clean 0 0 false)).filter p

/-- Write back every dirty line that a test covers (R336, R338). -/
def Dev.flushLines (d : Dev) (p : WnLine → Bool) : Dev :=
  forEach (d.wn.lines.filter (fun l => p l && l.dirty)) (fun l d => d.startWb l.window l.line) d

/-- The lines a host range covers; a range of no bytes covers none (R338). -/
def Dev.inHostRange (d : Dev) (h start len : Nat) (l : WnLine) : Bool :=
  decide (len ≠ 0) && (hdmList (d.cxHost h).winDecoders).any (fun x => match x.toHpa (128 * l.line) with
    | some a => overlaps a 128 start len
    | none => false)

/-- Start a flush command of a function over the lines a test covers (R338). -/
def Dev.startFlush (d : Dev) (h seq : Nat) (inv : Bool) (p : WnLine → Bool) : Dev :=
  let lines := d.scopeLines p
  let old : WnFlush := Tbl.get {} d.wn.flush h
  let x : WnFlush := { old with
    busy := true, seq := seq, failNow := false, inv := inv,
    owed := (lines.filter (fun l => decide (d.owedOf l ≠ 0))).map (fun l => (l.window, l.line, d.owedOf l)),
    covered := lines.map (fun l => (l.window, l.line)) }
  ({ d with wn := { d.wn with flush := Tbl.put {} h x d.wn.flush } }).flushLines p

/-- A write of FN_WN_CMD (R338). -/
def Dev.wnCommand (d : Dev) (h value : Nat) : Dev :=
  let seq := field value 32 16
  let inv := flag value 2
  let w := field value 8 8
  let serves (l : WnLine) : Bool := d.winServes l.window h
  if (Tbl.get {} d.wn.flush h).busy then d.raise evWnCmdDropped h
  else match field value 0 2 with
    | 0 => d.startFlush h seq inv
        (fun l => serves l && d.inHostRange h (d.rd rFnWnStart 0 h) (d.rd rFnWnLen 0 h) l)
    | 1 => if d.winServes w h then d.startFlush h seq inv (fun l => l.window == w) else d.raise evWnCmdDropped h
    | 2 => d.startFlush h seq inv serves
    | _ => d.raise evWnCmdDropped h

/-- A flush command completes once every line it waits for has had its outcomes; INV drops the covered lines that are
not dirty again (R338). -/
def Dev.flushDone (d : Dev) (h : Nat) : Dev :=
  let x : WnFlush := Tbl.get {} d.wn.flush h
  if x.busy && x.owed.isEmpty then
    let x' : WnFlush := { x with busy := false, done := x.seq, fail := x.failNow, failNow := false, covered := [] }
    let gone (l : WnLine) : Bool := x.inv && !l.dirty && d.lineIdle l
      && x.covered.any (fun c => c.1 == l.window && c.2 == l.line)
    (({ d with wn := { d.wn with
        flush := Tbl.put {} h x' d.wn.flush, lines := d.wn.lines.filter (fun l => !(gone l)) } }).raise evWnFlushDone
      h).wnUnblock
  else d

/-! ### Actions on a window (R340) -/

/-- The window's DPA range overlaps that of a window that is not OFF. -/
def Dev.winOverlap (d : Dev) (w : Nat) : Bool :=
  (Tbl.keys d.wn.wins).any (fun x => x != w && decide ((d.win x).use ≠ .off)
    && overlaps (d.winBase x) (d.winSize x) (d.winBase w) (d.winSize w))

/-- A host that the window serves has no host-facing port: the WRITER, or every host of an RO window. -/
def Dev.winNoHost (d : Dev) (w : Nat) : Bool :=
  if d.winMode w = 2 then (d.hostPort (d.winWriter w)).isNone
  else (upFrom 0 32).all (fun h => !(flag (d.rd rWnWinHosts 0 w) h) || (d.hostPort h).isNone)

/-- The refusal code of ENABLE, 0 when its checks pass (R340). -/
def Dev.enableCode (d : Dev) (w : Nat) : Nat :=
  if (d.win w).use ≠ .off then 1
  else if d.winMode w = 0 ∨ d.winMode w = 3 ∨ d.winSize w = 0 ∨ 5 < d.fld rWnWinCfg 41 3 0 w then 2
  else if d.winOverlap w then 3
  else if 2 ^ 46 < d.winBase w + d.winSize w then 4
  else if d.winNoHost w then 5
  else 0

/-- Refuse an action: REFUSE takes the code and nothing else changes (R340). -/
def Dev.winRefuse (d : Dev) (w code : Nat) : Dev :=
  (d.setWin w { (d.win w) with refuse := code }).raise evWnConfigRefused w

/-- WN_WIN_CMD ENABLE (R340). -/
def Dev.winEnable (d : Dev) (w : Nat) : Dev :=
  let code := d.enableCode w
  if code = 0 then d.setWin w { use := .active } else d.winRefuse w code

/-- WN_WIN_CMD DISABLE: an ACTIVE window drains, a FENCED one is OFF (R340). -/
def Dev.winDisable (d : Dev) (w : Nat) : Dev :=
  match (d.win w).use with
  | .active =>
    (((d.setWin w { use := .draining }).endWaits w).flushLines (fun l => l.window == w)).wnUnblock
  | .fenced => (d.setWin w {}).clearFence .window w
  | _ => d.winRefuse w 1

/-- WN_WIN_CMD FLUSH (R340). -/
def Dev.winFlush (d : Dev) (w : Nat) : Dev :=
  if (d.win w).use = .active then (d.setWin w { (d.win w) with refuse := 0 }).flushLines (fun l => l.window == w)
  else d.winRefuse w 1

/-- A DRAINING window whose write-backs have ended drops its lines and is OFF, or FENCED when one failed; the fence posts its
media event (R337, R340). -/
def Dev.drainDone (d : Dev) (w : Nat) : Dev :=
  let x := d.win w
  if decide (x.use = .draining) && d.wn.wbs.all (fun b => b.window != w)
      && d.wn.lines.all (fun l => l.window != w || !l.dirty) then
    let d := { d with wn := { d.wn with lines := d.wn.lines.filter (fun l => l.window != w) } }
    (if x.failed then (d.setWin w { use := .fenced, fenceReason := 5 }).emit
        (.mediaEvent (d.winWriter w) (d.winBase w) (d.winSize w))
      else d.setWin w {}).wnUnblock
  else d

/-! ### Line errors (R337, R342) -/

/-- An uncorrectable error in a line: dirty data is lost and fences the window, a clean line is discarded (R337). -/
def Dev.lineError (d : Dev) (w line : Nat) : Dev :=
  match d.wnLine w line with
  | some l =>
    if l.dirty then (((d.latchWn w 6 0 0 (128 * line)).raise evWnDirtyLost w).fenceWindow w 6)
    else ((d.dropLine w line).raise evWnLineRefetch w).wnUnblock
  | none => d

/-- A line tag fails its check: the set of a line is dropped, and each window that had a dirty line in it is fenced; with
none dirty, LINE_REFETCH instead (R342). -/
def Dev.tagError (d : Dev) (w line : Nat) : Dev :=
  let inSet (l : WnLine) : Bool := decide (l.set = Config.wnSet w line % 24576)
  let lost := d.wn.lines.filter (fun l => inSet l && l.dirty)
  let wins := (upFrom 0 256).filter (fun x => lost.any (fun l => l.window == x))
  let d := { d with wn := { d.wn with lines := d.wn.lines.filter (fun l => !(inSet l)) } }
  if wins.isEmpty then (d.raise evWnLineRefetch w).wnUnblock
  else forEach wins (fun x d => ((d.latchWn x 7 0 0 (128 * line)).raise evWnTagParity x).fenceWindow x 7) d

end Sys2Proof.Machine
end

