-- ==== Sys2Proof/Machine/Arrival.lean ====
section
/-! DEFINITION. Arrival of request packets at the target: the steps of R131, matching (R152), the access, completion
and signal (R133, R134), and the ends of records (R74, R139, R140). -/

namespace Sys2Proof.Machine

/-! ### Step 2: the form of a request (R122, R123, R131, R156, R388) -/

/-- A request that may be ordered (R122, R137). -/
def orderable (t : Nat) : Bool := t == tyPut || t == tyGetReq || t == tySend || t == tyRts

/-- A listed request type that this chapter delivers (R123, R339, R388). -/
def requestListed (t : Nat) : Bool :=
  (decide (1 ≤ t) && decide (t ≤ 9)) || t == tyWnFill || t == tyWnWrite

/-- Places of a request header that may be nonzero (R122). -/
def reqPlaces (h : Nat) : List (Nat × Nat) :=
  let t := hType h
  [(0, 8), (16, 13), (32, 18), (64, 16), (80, 16), (96, 32), (128, 16), (144, 4), (160, 32), (192, 32), (256, 64),
      (8, if orderable t then 4 else 2), (224, if t = tySend ∨ t = tyRts then 16 else 24)]
    ++ (if hPrevValid h then [(320, 48)] else [])
    ++ (if t = tyGetReq ∨ t = tyWnFill then [(384, 32)] else [])
    ++ (if t = tyAtomic then [(152, 3)] else if t = tyPutSignal then [(152, 1)] else [])
    ++ (if t = tyPutSignal ∧ flag (hSub h) 0 then [(320, 24), (384, 64), (448, 64)] else [])

/-- Payload bytes of an ATOMIC (R122). -/
def atomicPay (sub : Nat) : Nat := (if flag sub 2 then 16 else 8) * (if field sub 0 2 = 2 then 2 else 1)

/-- The lengths and flags of a request agree (R131 step 2). -/
def sizesOk (h : Nat) (n : Nat) : Bool :=
  let t := hType h
  let off := hOffset h
  decide (n = hPayLen h) && decide (n ≤ 4096) && decide (off % 4096 = 0) && decide (hMsgLen h ≤ 65536) &&
    (if t = tyGetReq ∨ t = tyWnFill then
      let last := off + hReqLen h
      decide (n = 0) && decide (last ≤ hMsgLen h) && (decide (last % 4096 = 0) || decide (last = hMsgLen h))
        && (decide (hReqLen h ≠ 0) || decide (hMsgLen h = 0)) && (hFirst h == decide (off = 0))
        && (hLast h == decide (last = hMsgLen h))
        && (decide (t = tyGetReq) || (decide (off = 0) && decide (hReqLen h = hMsgLen h)))
    else
      decide (off + n ≤ hMsgLen h) && (hLast h == decide (off + n = hMsgLen h))
        && (decide (n = 4096) || decide (off + n = hMsgLen h)))
    && (decide (t ≠ tyAtomic) || (decide (field (hSub h) 0 2 ≤ 2) && decide (hMsgLen h = atomicPay (hSub h))
        && decide (n = hMsgLen h)))
    && (decide (t ≠ tyWnWrite) || ((decide (n = 64) || decide (n = 128)) && decide (hMsgLen h = n)))
    && (decide (t ≠ tyLsReq ∧ t ≠ tyLsGrant) || decide (hMsgLen h = 16))

/-- Step 2 of R131. -/
def requestOk (p : Packet) : Bool :=
  requestListed (hType p.hdr) && zeroOutside p.hdr (reqPlaces p.hdr) && sizesOk p.hdr p.payload.length

/-- An RTS or FIN that breaks its form (R156). -/
def rtsBad (p : Packet) : Bool :=
  let w := ofBytes p.payload
  (decide (hType p.hdr = tyRts) && (decide (hMsgLen p.hdr ≠ 16) || decide (field w 120 8 ≠ 0)))
    || (decide (hType p.hdr = tyFin) && (decide (hMsgLen p.hdr ≠ 16) || decide (field w 96 32 ≠ 0)))

/-- An LS_REQ or LS_GRANT that breaks its format (R388, R396). -/
def lockBad (p : Packet) : Bool :=
  (decide (hType p.hdr = tyLsReq) && (lockReqOp (ofBytes p.payload)).isNone)
    || (decide (hType p.hdr = tyLsGrant) && !(lockGrantOk (ofBytes p.payload)))

/-! ### Step 6: refusal (R131, R470) -/

/-- A request that leaves no record: a GET_REQ that is not ordered, and a WN_FILL (R132, R339). -/
def recordless (h : Nat) : Bool :=
  (decide (hType h = tyGetReq) && !(hOrdered h)) || decide (hType h = tyWnFill)

/-- Answer REMOTE_DISABLED with a COMPLETED record, or RECORD_BUSY when no record is free (R131 step 6). -/
def Dev.refuseDisabled (d : Dev) (p : Packet) : Dev :=
  let h := p.hdr
  if recordless h then d.sendAck p.tc h stRemoteDisabled 0 []
  else if d.recFree then ((d.newRec h p.tc |> d.completeRec) stRemoteDisabled 0).sendAck p.tc h stRemoteDisabled 0 []
  else (d.raise evTpRecordBusy (hDstEp h)).sendNack p.tc h nkRecord

/-- A request arrives within the window of R470 with an age that reaches back before the start. -/
def Dev.early (d : Dev) (h : Nat) : Bool :=
  match d.tp.service with
  | none => true
  | some t => d.bt.window && decide (d.since t < d.ageLimit) && decide (d.since t < d.ageOf (hFst h))

/-- The endpoint exists, is enabled and is not fenced (R131 step 6). An LS_REQ addresses the lock service and no endpoint (R388);
DEDUCED (log entry 182): a FIN passes whatever has become of the endpoint, for a SEND runs on after a disable, and a FIN after a
fence or a reset is acknowledged (R82, R159). -/
def Dev.epServes (d : Dev) (h : Nat) : Bool :=
  decide (hType h = tyLsReq) || decide (hType h = tyFin) ||
    (match d.ep (hDstEp h) with
      | none => false
      | some c => c.enable && c.fenced.isNone && !(d.fnFenced c.fn))

/-- The message of a record has been ended, or its endpoint is fenced or gone (R131). -/
def Dev.epGone (d : Dev) (r : TgtRec) : Bool :=
  r.ended || decide (r.type ≠ tyLsReq ∧ r.type ≠ tyFin) &&
    (match d.ep r.dstEp with
      | none => true
      | some c => c.fenced.isSome || d.fnFenced c.fn)

/-! ### Step 8: matching (R152) -/

/-- UNEXP quota of a function, and whether a header is free for it (R150, R166). -/
def Dev.hdrQuotaHit (d : Dev) (h : Nat) : Bool :=
  let q := d.fld rMxFnQuota 21 20 h
  decide (q ≠ 0) && decide (q ≤ d.fnUnexp h)

/-- Store an unexpected header, with its place in the area (R150, R151). -/
def Dev.storeHdr (d : Dev) (r : TgtRec) (p : Packet) (off need : Nat) : TgtRec × Dev :=
  let m := d.mxEp r.dstEp
  let w := ofBytes p.payload
  let rts := decide (r.type = tyRts)
  let u : UnexpHdr :=
    { num := d.mx.nextHdr, ep := r.dstEp, srcNode := r.srcNode, srcEp := r.srcEp, ctx := r.ctx, tag := r.tag, tc := r.tc,
      rts := rts, len := if rts then field w 64 32 else r.msgLen, msgId := r.msgId, fst := r.fst,
      srcAddr := if rts then field w 0 64 else 0, rkey := if rts then field w 96 24 else 0, areaOff := off }
  let d := { d with mx := { d.mx with unexp := d.mx.unexp ++ [u], nextHdr := d.mx.nextHdr + 1 } }
  let d := if need = 0 then d
    else d.setMxEp r.dstEp { m with next := off + need, alloc := m.alloc ++ [(u.num, off, need, false)] }
  ({ r with header := some u.num }, d)

/-- Match a first packet of a SEND or RTS: a bound or stored record, or none where it is refused with RNR (R149, R152). -/
def Dev.matchArrival (d : Dev) (r : TgtRec) (p : Packet) : Option TgtRec × Dev :=
  let pool := countWhere d.mx.posted (fun _ => true)
  let d := d.longScan pool (d.matchCost r.dstEp r.ctx r.tag r.srcNode r.srcEp) r.dstEp
  match d.firstMatch r.dstEp r.ctx r.tag r.srcNode r.srcEp with
  | some q => (some { r with bound := some q.binding }, d.unpost q)
  | none =>
    let h := d.fnOf r.dstEp
    if d.hdrQuotaHit h || decide (524288 ≤ d.mx.unexp.length) then
      (none, (d.raise evMxUnexpFull r.dstEp).raiseIf (d.hdrQuotaHit h) evMxQuotaHit h)
    else if r.type = tyRts ∨ r.msgLen = 0 then
      let (r, d) := d.storeHdr r p 0 0
      (some r, d)
    else match (d.mxEp r.dstEp).place (areaNeed r.msgLen) with
      | some off =>
        let (r, d) := d.storeHdr r p off (areaNeed r.msgLen)
        (some r, d)
      | none => (none, d.raise evMxUbufFull r.dstEp)

/-- A message that needs an event slot at the target (R119, R388). -/
def needsSlot (h : Nat) : Bool :=
  let t := hType h
  t == tySend || t == tyRts || t == tyLsGrant || (t == tyPutSignal && flag (hSub h) 0)

/-! ### Steps 9 and 10 (R131, R133, R152, R154) -/

/-- The unexpected area of a header: its base and key (R151). -/
def Dev.areaOf (d : Dev) (u : UnexpHdr) : Nat × Nat :=
  match (d.mxEp u.ep).area with
  | some (base, _, key) => (base + u.areaOff, key)
  | none => (u.areaOff, 0)

/-- The access of a packet at its target (R98, R152, R154): none where nothing is read or written. -/
def Dev.packetAccess (d : Dev) (r : TgtRec) (p : Packet) : Option Access :=
  let h := p.hdr
  let t := hType h
  if t = tyPut ∨ t = tyPutSignal ∨ t = tyWnWrite then
    some ⟨r.dstEp, hAddr h + hOffset h, p.payload.length, .write, true, some (hKey h), false⟩
  else if t = tyAtomic then
    some ⟨r.dstEp, hAddr h, if flag (hSub h) 2 then 16 else 8, .atomic, true, some (hKey h), false⟩
  else if t = tySend then
    match r.bound with
    | some b =>
      let n := min p.payload.length (b.len - hOffset h)
      if n = 0 then none else some ⟨r.dstEp, b.bufAddr + hOffset h, n, .write, false, some b.key, false⟩
    | none =>
      match r.header.bind d.hdr with
      | some u =>
        let (base, key) := d.areaOf u
        if p.payload = [] then none
        else some ⟨r.dstEp, base + hOffset h, p.payload.length, .write, false, some key, false⟩
      | none => none
  else none

/-- The result of an atomic operation: the value stored, none where compare-swap fails (R60, R122). `mem` is what the
memory held. -/
def atomicNew (sub mem : Nat) (payload : List Byte) : Option Nat :=
  let n := if flag sub 2 then 16 else 8
  let a := ofBytes (payload.take n)
  match field sub 0 2 with
  | 0 => some ((mem + a) % 2 ^ (8 * n))
  | 1 => some a
  | _ => if mem % 2 ^ (8 * n) = a then some (ofBytes (payload.drop n)) else none

/-- Perform a packet's access (R131 step 10). -/
def Dev.performAccess (d : Dev) (r : TgtRec) (p : Packet) (a : Access) (pieces : List (Nat × Nat)) : TgtRec × Dev :=
  let d := d.useLeaves a
  let fn := d.fnOf r.dstEp
  if hType p.hdr = tyAtomic then
    let r := { r with result := toBytes a.len (p.mem % 2 ^ (8 * a.len)) }
    match atomicNew (hSub p.hdr) p.mem p.payload with
    | some v => (r, d.writeFrom p fn pieces (toBytes a.len v))
    | none => (r, d)
  else if a.len = 0 then (r, d)
  else (r, d.writeFrom p fn pieces (p.payload.take a.len))

/-- The bit of a packet in its record's bitmap (R133). -/
def packetBit (h : Nat) : Nat := hOffset h / 4096

/-- Words of the SIGNAL event (R135). -/
def signalWords (r : TgtRec) (status value kind : Nat) : List Nat :=
  [eventWord0 0 4 status 0, r.sigAddr, value, pack [(32, r.srcNode), (16, r.srcEp), (8, kind)]]

/-- Post the SIGNAL event into the record's reservation (R59, R135). -/
def Dev.postSignal (d : Dev) (r : TgtRec) (status value kind : Nat) : Dev :=
  d.postEvent r.dstEp (signalWords r status value kind) ((d.ep r.dstEp).elim false (fun c => c.irqEn)) true

/-- End a record with a status: its ACK follows (R134 steps 3 and 4). -/
def Dev.endRec (d : Dev) (r : TgtRec) (p : Packet) (status kind : Nat) : Dev :=
  (d.completeRec r status kind).sendAck p.tc p.hdr status kind r.result

/-- The event of a SEND that ends badly: delivery faulted, or the message was incomplete (R74, R154, R162). -/
def Dev.recvBad (d : Dev) (r : TgtRec) (status kind : Nat) : Dev :=
  match r.header.bind d.hdr with
  | some u =>
    (d.dropHdr u).recvEvent r.dstEp status r.tag r.msgLen r.srcNode r.srcEp r.ctx
      (u.bound.elim 0 (fun b => b.recvId)) kind u.rts true
  | none =>
    d.recvEvent r.dstEp status r.tag r.msgLen r.srcNode r.srcEp r.ctx (r.bound.elim 0 (fun b => b.recvId)) kind
      (decide (r.type = tyRts)) false

/-- A fault other than NOT_PRESENT, or NOT_PRESENT on a FAILED record, ends the message with REMOTE_ACCESS (R112, R131
step 9, R134, R154, R162). -/
def Dev.arrivalFault (d : Dev) (r : TgtRec) (p : Packet) (kind : Nat) : Dev :=
  let d :=
    if r.type = tySend then
      (if r.header.isSome then
        (d.latch rMxErrLatch (pack [(16, r.dstEp), (18, r.srcNode), (4, 2)])).raise evMxUbufFault r.dstEp
       else d.raise evMxRecvFault r.dstEp).recvBad r stRemoteAccess kind
    else if r.rsv then d.postSignal r stRemoteAccess 0 kind
    else d
  d.endRec r p stRemoteAccess kind

/-- NOT_PRESENT at the target: page-busy, or REMOTE_ACCESS on a FAILED record (R112). -/
def Dev.arrivalMissing (d : Dev) (r : TgtRec) (p : Packet) (a : Access) (page : Nat) : Dev :=
  let (failed, d) := d.prqTarget a page r.srcNode r.srcEp
  if failed then (d.raiseIf (decide (r.state = .signalWait)) evTpSignalFault r.dstEp).arrivalFault r p fkNotPresent
  else ((d.putRec r).raise evXlPageBusySent (d.fnOf r.dstEp)).sendNack p.tc p.hdr nkPageBusy

/-- A message is complete and its signal is done: its event, its record and its ACK (R134, R154, R156, R159, R388). -/
def Dev.finishRec (d : Dev) (r : TgtRec) (p : Packet) (value : Nat) : Dev :=
  if r.type = tySend then
    let d := match r.header.bind d.hdr with
      | some u => d.unexpComplete u
      | none =>
        let b := r.bound.getD ⟨0, 0, 0, 0⟩
        d.recvEvent r.dstEp (if b.len < r.msgLen then stTruncated else stOk) r.tag r.msgLen r.srcNode r.srcEp r.ctx
          b.recvId 0 false false
    d.endRec r p stOk 0
  else if r.type = tyRts then
    let w := ofBytes p.payload
    let u : UnexpHdr :=
      { num := 0, ep := r.dstEp, srcNode := r.srcNode, srcEp := r.srcEp, ctx := r.ctx, tag := r.tag, tc := r.tc,
        rts := true, len := field w 64 32, msgId := r.msgId, fst := r.fst, srcAddr := field w 0 64, rkey := field w 96 24 }
    let d := d.endRec r p stOk 0
    match r.bound with
    | some b => d.startPull u b false
    | none => d
  else if r.type = tyFin then (d.finDone r.srcNode r.dstEp (ofBytes p.payload)).endRec r p stOk 0
  else if r.type = tyLsReq then
    let w := ofBytes p.payload
    match lockReqOp w with
    | none => d
    | some op =>
      if !d.runsLocks then d.lockAsk r p
      else
      let (status, _, d) := d.lockServe (field w 16 12) ⟨.remote, r.srcNode, r.srcEp, false⟩ r.tc op
      d.endRec r p status 0
  else if r.type = tyLsGrant then
    let w := ofBytes p.payload
    (d.postEvent r.dstEp (lockGrantWords (field w 16 16) (field w 32 32) r.srcNode (field w 64 48) (flag w 0) true)
      ((d.ep r.dstEp).elim false (fun c => c.irqEn)) true).endRec r p stOk 0
  else
    let d := if r.sig then d.postSignal r stOk value 0 else d
    d.endRec r p stOk 0

/-- The primary has answered an LS_REQ that this standby forwarded: its ACK goes out (R385, R388). -/
def Dev.lockAnswered (d : Dev) (w : Nat) : Dev :=
  match firstThat d.ls.asked (fun x => x.1 == field w 0 32) with
  | some (seq, p) =>
    let d := { d with ls := { d.ls with asked := d.ls.asked.filter (fun x => x.1 != seq) } }
    (match d.recFor p.hdr with
     | some r => if r.state = .inProgress then d.endRec r p (field w 32 8) 0 else d
     | none => d)
  | none => d

/-- The access of a signal: an atomic add of 8 bytes under SIGNAL_KEY (R134). -/
def signalAccess (r : TgtRec) : Access := ⟨r.dstEp, r.sigAddr, 8, .atomic, true, some r.sigKey, false⟩

/-- The message's bytes are all performed: apply its signal, then finish (R134). -/
def Dev.signalRec (d : Dev) (slot : Option Nat) (r : TgtRec) (p : Packet) (f : Found) : Dev :=
  if !r.sig then (d.unpark slot).finishRec r p 0
  else
    let a := signalAccess r
    match d.evalTarget a f with
    | .ok pieces =>
      let v := (p.mem + r.sigAdd) % 2 ^ 64
      ((((d.unpark slot).useLeaves a).writeFrom p (d.fnOf r.dstEp) pieces (toBytes 8 v))).finishRec r p v
    | .need s =>
      match slot with
      | some i => (d.putRec r).addWalk (.arrival i) a f s
      | none =>
        let (i, d) := d.park p
        (d.putRec r).addWalk (.arrival i) a f s
    | .fault k => (((d.unpark slot).reportFault a k true).raise evTpSignalFault r.dstEp).arrivalFault r p k

/-- Steps 9 and 10 of R131 for a packet of a record: the access where its translation allows, the bitmap and the Baton
counter, and completion. -/
def Dev.performRec (d : Dev) (slot : Option Nat) (r : TgtRec) (p : Packet) (f : Found) : Dev :=
  let h := p.hdr
  if flag r.bitmap (packetBit h) then
    (if r.baton = r.msgLen then d.signalRec slot r p f else d.unpark slot)
  else
    let done (r : TgtRec) (d : Dev) : Dev :=
      let r : TgtRec := { r with
        bitmap := r.bitmap ||| 2 ^ packetBit h, baton := r.baton + hPayLen h,
        firstDone := r.firstDone || decide (hOffset h = 0) }
      if r.baton = r.msgLen then (d.putRec r).signalRec slot r p f else (d.putRec r).unpark slot
    match d.packetAccess r p with
    | none => done r d
    | some a =>
      match d.evalTarget a f with
      | .ok pieces =>
        let (r, d) := d.performAccess r p a pieces
        done r d
      | .need s =>
        match slot with
        | some i => (d.putRec r).addWalk (.arrival i) a f s
        | none =>
          let (i, d) := d.park p
          (d.putRec r).addWalk (.arrival i) a f s
      | .fault k => ((d.unpark slot).reportFault a k true).arrivalFault r p k

/-! ### GET_REQ and WN_FILL (R132, R136, R339) -/

/-- The read of a GET_REQ or WN_FILL (R98, R339). -/
def getAccess (h : Nat) : Access := ⟨hDstEp h, hAddr h + hOffset h, hReqLen h, .read, true, some (hKey h), false⟩

/-- The part of physical pieces that covers `len` bytes from `off`. -/
def cutPhys (off len : Nat) : List (Nat × Nat) → List (Nat × Nat)
  | [] => []
  | (pa, n) :: rest =>
    if len = 0 then []
    else if n ≤ off then cutPhys (off - n) len rest
    else (pa + off, min len (n - off)) :: cutPhys 0 (len - min len (n - off)) rest

/-- Packet `i` of the response to a GET_REQ (R119, R122, R124). -/
def Dev.sendGetResp (h tc read : Nat) (pieces : List (Nat × Nat)) (i : Nat) (d : Dev) : Dev :=
  let off := hOffset h + 4096 * i
  let n := min 4096 (hReqLen h - 4096 * i)
  let flags := bit (off == 0) + 2 * bit (off + n == hMsgLen h)
  d.reply tc h tyGetResp flags 0 off d.advertise n
    (if n = 0 then .none
      else .host (d.fnOf (hDstEp h)) read ((cutPhys (4096 * i) n pieces).map (fun q => (some q.1, q.2))))

/-- A GET_REQ or WN_FILL past steps 6 to 8: the data leaves, or a fault answers (R131, R132, R136). -/
def Dev.performGet (d : Dev) (slot : Option Nat) (p : Packet) (f : Found) : Dev :=
  let h := p.hdr
  let a := getAccess h
  let fail (d : Dev) (k : Nat) : Dev :=
    match d.recFor h with
    | some r => if r.state = .inProgress then d.endRec r p stRemoteAccess k else d.sendAck p.tc h stRemoteAccess k []
    | none => d.sendAck p.tc h stRemoteAccess k []
  match d.evalTarget a f with
  | .ok pieces =>
    let d := (d.unpark slot).useLeaves a
    let d := match d.recFor h with
      | some r =>
        let r : TgtRec := { r with firstDone := r.firstDone || decide (hOffset h = 0) }
        if r.state = .inProgress then d.completeRec r stOk 0 else d.putRec r
      | none => d
    let (read, d) := if hReqLen h = 0 then (0, d) else d.fresh
    forEach (upFrom 0 (packetsOf (hReqLen h))) (Dev.sendGetResp h p.tc read pieces) d
  | .need s =>
    match slot with
    | some i => d.addWalk (.arrival i) a f s
    | none =>
      let (i, d) := d.park p
      d.addWalk (.arrival i) a f s
  | .fault k => fail ((d.unpark slot).reportFault a k true) k

/-- A GET_REQ meets NOT_PRESENT (R112). -/
def Dev.getMissing (d : Dev) (p : Packet) (a : Access) (page : Nat) : Dev :=
  let h := p.hdr
  let (failed, d) := d.prqTarget a page (hSrcNode h) (hSrcEp h)
  if failed then
    match d.recFor h with
    | some r => if r.state = .inProgress then d.endRec r p stRemoteAccess 1 else d.sendAck p.tc h stRemoteAccess 1 []
    | none => d.sendAck p.tc h stRemoteAccess 1 []
  else (d.raise evXlPageBusySent (d.fnOf (hDstEp h))).sendNack p.tc h nkPageBusy

/-! ### Steps 3 to 8 (R131) -/

/-- Steps 6 to 8 of R131, then the access. -/
def Dev.admitArrival (d : Dev) (p : Packet) : Dev :=
  let h := p.hdr
  let ep := hDstEp h
  match (if hType h = tyGetReq then d.recFor h else none) with
  | some r =>
    if d.epGone r then d.endRec { r with ended := false } p stRemoteDisabled 0
    else d.performGet none p {}
  | none =>
  if !(d.epServes h) || d.early h then d.refuseDisabled p
  else if !(d.prevOk h) then (d.raise evTpOrderWait ep).sendNack p.tc h nkOrder
  else if recordless h then d.performGet none p {}
  else if !d.recFree then (d.raise evTpRecordBusy ep).sendNack p.tc h nkRecord
  else if decide (hType h = tyLsReq) && d.mirrorFull then d
  else
    let r := d.newRec h p.tc
    let rnr (d : Dev) : Dev := (d.raise evHqRnrSent ep).sendNack p.tc h nkRnr
    let reserved : Option Dev := if needsSlot h then d.reserve ep else some d
    match reserved with
    | none => rnr d
    | some d1 =>
      let r := { r with rsv := needsSlot h }
      if hType h = tySend ∨ hType h = tyRts then
        match d1.matchArrival r p with
        | (some r, d2) => (d2.putRec r).performRec none r p {}
        | (none, d2) => rnr (d2.unreserve ep)
      else if hType h = tyGetReq then (d1.putRec r).performGet none p {}
      else (d1.putRec r).performRec none r p {}

/-- Step 5 of R131: a packet for a context that stands in the Cask waits in the staging reserve (R140). -/
def Dev.stagePacket (d : Dev) (p : Packet) : Dev :=
  let ep := hDstEp p.hdr
  match d.ep ep with
  | none => d.admitArrival p
  | some c =>
    if decide (16384 < d.stagedCells + stageCells p.payload.length) || (c.fetching.isSome && c.slow) then
      (d.raise evTpStagingBusy ep).sendNack p.tc p.hdr nkStaging
    else
      { (d.fetchCtx ep c) with tp := { (d.fetchCtx ep c).tp with staged := (d.fetchCtx ep c).tp.staged ++ [(ep, p)] } }

/-- A packet whose context stands in the Cask waits; any other goes on (R131 step 5). An LS_REQ needs no context. -/
def Dev.contextThen (d : Dev) (p : Packet) (go : Dev → Dev) : Dev :=
  if hType p.hdr = tyLsReq then go d
  else match d.ep (hDstEp p.hdr) with
    | some c => if c.onDie then go (d.touch (hDstEp p.hdr)) else d.stagePacket p
    | none => go d

/-- A packet that finds the record of its message (R131 step 4, R134). -/
def Dev.knownArrival (d : Dev) (r : TgtRec) (p : Packet) : Dev :=
  let h := p.hdr
  match r.state with
  | .completed status kind => (d.raise evTpDupDiscard p.port).sendAck p.tc h status kind r.result
  | s =>
    if d.epGone r then
      ((if r.rsv then d.unreserve r.dstEp else d)).endRec { r with rsv := false, ended := false, header := none } p
        stRemoteDisabled 0
    else if flag r.bitmap (packetBit h) then
      (if s = .signalWait ∧ hLast h then d.contextThen p (fun d => d.signalRec none r p {}) else d)
    else d.contextThen p (fun d => d.performRec none r p {})

/-- Steps 4 to 10 of R131. -/
def Dev.arriveFrom4 (d : Dev) (p : Packet) : Dev :=
  let h := p.hdr
  if hType h = tyGetReq ∨ hType h = tyWnFill then d.contextThen p (fun d => d.admitArrival p)
  else match d.recFor h with
    | some r => d.knownArrival r p
    | none =>
      if decide (hOffset h ≠ 0) && (hOrdered h || decide (hType h = tySend)) then d
      else d.contextThen p (fun d => d.admitArrival p)

/-- A request packet arrives (R131). One of the types 0x17 to 0x1F is a malformed Relay message (R187). -/
def Dev.arrive (d : Dev) (p : Packet) : Dev :=
  let h := p.hdr
  if !p.crcOk then (d.latchTp h 1).raise evTpE2eCrcError p.port
  else if 0x17 ≤ hType h ∧ hType h ≤ 0x1F then d.raise evRlRlMalformed (field h 224 12)
  else if rtsBad p then
    (((d.latchTp h 2).latch rMxErrLatch (pack [(16, hDstEp h), (18, hSrcNode h), (4, 1)])).raise evTpPktMalformed
      p.port).raise evMxRtsForm 0
  else if !(requestOk p) then (d.latchTp h 2).raise evTpPktMalformed p.port
  else if lockBad p then
    (d.latchLs (field (ofBytes p.payload) 16 12) 2 ⟨.remote, hSrcNode h, hSrcEp h, false⟩).raise evLsLockMalformed
      (lockGroup (field (ofBytes p.payload) 16 12))
  else if d.tp.service.isNone then d.refuseDisabled p
  else if d.ageLimit < d.ageOf (hFst h) then (d.latchTp h 3).raise evTpStaleDrop p.port
  else d.arriveFrom4 p

/-! ### Ends of records and contexts (R74, R84, R139, R140) -/

/-- A record in progress reaches the arrival limit: it becomes COMPLETED with INCOMPLETE, and a reservation it holds posts
(R74, R139). -/
def Dev.incompleteRec (d : Dev) (r : TgtRec) : Dev :=
  let running := match r.state with | .completed _ _ => false | _ => true
  if !running || decide (d.ageOf r.fst < d.ageLimit) then d
  else
    let d := if !r.rsv then d
      else if r.type = tySend ∨ r.type = tyRts then
        (d.recvBad r stIncomplete 0).raise evHqIncompletePosted r.dstEp
      else if r.type = tyLsGrant then (d.unreserve r.dstEp)
      else (d.postSignal r stIncomplete 0 0).raise evHqIncompletePosted r.dstEp
    d.completeRec r stIncomplete 0

/-- The packets staged for an endpoint leave the staging reserve. -/
def Dev.takeStaged (d : Dev) (ep : Nat) : List Packet × Dev :=
  ((d.tp.staged.filter (fun s => s.1 == ep)).map (fun s => s.2),
    { d with tp := { d.tp with staged := d.tp.staged.filter (fun s => s.1 != ep) } })

/-- A fetch from the Cask exceeds 8 us: CASK_SLOW once, and every packet staged for the context is refused (R84, R140). -/
def Dev.caskSlow (d : Dev) (ep : Nat) : Dev :=
  match d.ep ep with
  | none => d
  | some c =>
    match c.fetching with
    | none => d
    | some _ =>
      if c.slow then d
      else
        let d := (d.setEp ep (some { c with slow := true })).raise evHqCaskSlow ep
        let (staged, d) := d.takeStaged ep
        forEach staged (fun (p : Packet) d => (d.raise evTpStagingBusy ep).sendNack p.tc p.hdr nkStaging) d

/-- A Cask access of an endpoint's context returns a bus error: the endpoint is fenced (R84). -/
def Dev.caskBus (d : Dev) (ep : Nat) : Dev := if (d.ep ep).isSome then (d.raise evHqCaskBus ep).fenceEp ep 11 else d

/-- A context fetch completes, or ends in a bus error, which fences the endpoint (R84). Held doorbells, staged packets and the
command ring go on. -/
def Dev.caskDone (d : Dev) (ep : Nat) (err : Bool) : Dev :=
  match d.ep ep with
  | none => d
  | some c =>
    match c.fetching with
    | none => d
    | some _ =>
      let doors := c.heldDoors
      let d := (d.setEp ep (some { c with fetching := none, slow := false, heldDoors := [], onDie := true })).touch ep
      let d := d.evictCtx ep
      let d := if err then d.caskBus ep else d
      let d := forEach doors (fun (x : Nat × Nat) d => if x.1 = 0 then d.cmdDoor ep x.2 else d.evtDoor ep x.2) d
      let (staged, d) := (d.issue ep).takeStaged ep
      forEach staged (fun (p : Packet) d => d.arriveFrom4 p) d

end Sys2Proof.Machine
end

