-- ==== Sys2Proof/Machine/FloatAcc.lean ====
section
/-! DEFINITION. Relay arithmetic: the exact accumulators, their one rounding, FP64 addition, and the ordered and bitwise
operations (R174, R177 to R181). -/

namespace Sys2Proof.Machine

/-- A binary floating type: exponent and mantissa bits, and whether its top exponent holds only one NaN and no infinity
(E4M3). -/
structure FloatType where
  exp : Nat
  man : Nat
  noInf : Bool := false
  deriving DecidableEq, Repr

/-- The floating type of a DTYPE (R174); none for the integer types. -/
def floatType : Nat → Option FloatType
  | 0 => some { exp := 11, man := 52 }
  | 1 => some { exp := 8, man := 23 }
  | 2 => some { exp := 5, man := 10 }
  | 3 => some { exp := 8, man := 7 }
  | 4 => some { exp := 4, man := 3, noInf := true }
  | 5 => some { exp := 5, man := 2 }
  | _ => none

/-- Bias of a type. -/
def FloatType.bias (t : FloatType) : Nat := 2 ^ (t.exp - 1) - 1

/-- The accumulator's least significant bit is 2 to the minus this (R177); FP64 uses its own smallest subnormal. -/
def FloatType.scale (t : FloatType) : Nat := if t.exp = 11 then 1074 else if t.exp = 8 then 149 else 24

/-- The smallest subnormal in units of the accumulator, as a power of two. -/
def FloatType.base (t : FloatType) : Nat := t.scale + 1 - t.bias - t.man

/-- Bits of a type. -/
def FloatType.width (t : FloatType) : Nat := 1 + t.exp + t.man

/-- The magnitude bits of an element. -/
def FloatType.mag (t : FloatType) (v : Nat) : Nat := field v 0 (t.exp + t.man)

/-- The sign bit of an element. -/
def FloatType.neg (t : FloatType) (v : Nat) : Bool := flag v (t.exp + t.man)

/-- The magnitude from which a type's bits are no finite number. -/
def FloatType.top (t : FloatType) : Nat := if t.noInf then 2 ^ (t.exp + t.man) - 1 else (2 ^ t.exp - 1) * 2 ^ t.man

/-- An element is a NaN. -/
def FloatType.isNan (t : FloatType) (v : Nat) : Bool :=
  if t.noInf then t.mag v == t.top else decide (t.top < t.mag v)

/-- An element is an infinity. -/
def FloatType.isInf (t : FloatType) (v : Nat) : Bool := !t.noInf && t.mag v == t.top

/-- The canonical quiet NaN of a type (R179, R180). -/
def FloatType.nan (t : FloatType) : Nat := if t.noInf then t.top else t.top + 2 ^ (t.man - 1)

/-- The value of a finite element in units of the accumulator, exactly (R178). -/
def FloatType.toInt (t : FloatType) (v : Nat) : Int :=
  let m := t.mag v
  let e := m / 2 ^ t.man
  let n : Nat := (if e = 0 then m else 2 ^ t.man + m % 2 ^ t.man) * 2 ^ (t.base + (e - 1))
  if t.neg v then -(n : Int) else n

/-- A magnitude in units of the accumulator rounded to the type, to nearest with ties to even: its code, which reaches
`top` where it lies beyond the largest finite value (R179). -/
def FloatType.round (t : FloatType) (n : Nat) : Nat :=
  let shift := max t.base (n.log2 - t.man)
  let q := n / 2 ^ shift
  let r := n % 2 ^ shift
  let half := 2 ^ shift / 2
  let up := decide (half < r) || (decide (r = half) && decide (shift ≠ 0) && decide (q % 2 = 1))
  (shift - t.base) * 2 ^ t.man + q + bit up

/-- A code with a sign. -/
def FloatType.signed (t : FloatType) (neg : Bool) (mag : Nat) : Nat := mag + bit neg * 2 ^ (t.exp + t.man)

/-- FLAGS of a partial element, R177. -/
def fNan : Nat := 1
def fPosInf : Nat := 2
def fNegInf : Nat := 4
def fNz : Nat := 8

/-- A member's contribution of one element to a narrow SUM: accumulator and FLAGS (R178). -/
def FloatType.contribute (t : FloatType) (v : Nat) : Int × Nat :=
  let nz := if t.mag v = 0 ∧ t.neg v then 0 else fNz
  if t.isNan v then (0, fNan + fNz)
  else if t.isInf v then (0, (if t.neg v then fNegInf else fPosInf) + fNz)
  else (t.toInt v, nz)

/-- The root's result of one element and its OVERFLOW flag (R179). -/
def FloatType.finish (t : FloatType) (acc : Int) (flags : Nat) : Nat × Bool :=
  let pos := flags &&& fPosInf != 0
  let neg := flags &&& fNegInf != 0
  let big (s : Bool) : Nat := t.signed s (if t.noInf then t.top - 1 else t.top)
  if flags &&& fNan != 0 || (pos && neg) then (t.nan, false)
  else if pos || neg then (big neg, t.noInf)
  else if acc = 0 then (t.signed (flags &&& fNz == 0) 0, false)
  else
    let s := decide (acc < 0)
    let code := t.round acc.natAbs
    if t.top ≤ code then (big s, true) else (t.signed s code, false)

/-- IEEE 754 addition, to nearest with ties to even, with the canonical NaN (R180). -/
def FloatType.add (t : FloatType) (a b : Nat) : Nat :=
  if t.isNan a || t.isNan b then t.nan
  else if t.isInf a then (if t.isInf b && t.neg a != t.neg b then t.nan else a)
  else if t.isInf b then b
  else
    let s := t.toInt a + t.toInt b
    if s = 0 then t.signed (t.neg a && t.neg b && decide (t.mag a = 0) && decide (t.mag b = 0)) 0
    else
      let code := t.round s.natAbs
      t.signed (decide (s < 0)) (min code t.top)

/-- The order of R181: negative values below positive ones, minus zero below plus zero. -/
def FloatType.key (t : FloatType) (v : Nat) : Int :=
  if t.neg v then -((t.mag v : Nat) : Int) - 1 else t.mag v

/-- Host element bytes (R174). -/
def hostBytes (dtype op : Nat) : Nat :=
  if op = 6 ∨ op = 7 then 8
  else match dtype with
    | 0 => 8 | 1 => 4 | 2 => 2 | 3 => 2 | 4 => 1 | 5 => 1 | 6 => 4 | 7 => 8 | 8 => 4 | _ => 8

/-- A SUM on a floating type narrower than FP64, which travels as accumulators (R177). -/
def narrowSum (dtype op : Nat) : Bool := op == 0 && decide (1 ≤ dtype) && decide (dtype ≤ 5)

/-- Partial element bytes (R177). -/
def partialBytes (dtype op : Nat) : Nat :=
  if narrowSum dtype op then (if dtype = 1 ∨ dtype = 3 then 40 else 16) else hostBytes dtype op

/-- Accumulator bits of a narrow SUM (R177). -/
def accBits (dtype : Nat) : Nat := if dtype = 1 ∨ dtype = 3 then 312 else 80

/-- A partial element of a member's host element (R177, R178). -/
def toPartial (dtype op v : Nat) : Nat :=
  if narrowSum dtype op then
    match floatType dtype with
    | some t =>
      let (a, f) := t.contribute v
      unsigned a (accBits dtype) + f * 2 ^ accBits dtype
    | none => v
  else v

/-- The value order of an element's number (R181). -/
def orderKey (dtype v : Nat) : Int :=
  match floatType dtype with
  | some t => t.key v
  | none => if dtype = 6 then Machine.signed v 32 else if dtype = 7 then Machine.signed v 64 else v

/-- An element's number is a NaN. -/
def numberNan (dtype v : Nat) : Bool := match floatType dtype with | some t => t.isNan v | none => false

/-- MIN and MAX of two elements (R181). -/
def pickOrder (dtype : Nat) (least : Bool) (a b : Nat) : Nat :=
  match floatType dtype with
  | some t =>
    if t.isNan a || t.isNan b then t.nan
    else if decide (t.key a ≤ t.key b) == least then a else b
  | none => if decide (orderKey dtype a ≤ orderKey dtype b) == least then a else b

/-- MINLOC and MAXLOC of two elements: NaN loses, and of equal values the lower index wins (R181). -/
def pickLoc (dtype : Nat) (least : Bool) (a b : Nat) : Nat :=
  let va := field a 0 32
  let vb := field b 0 32
  let lower := if Machine.signed (field a 32 32) 32 ≤ Machine.signed (field b 32 32) 32 then a else b
  if numberNan dtype va then (if numberNan dtype vb then lower else b)
  else if numberNan dtype vb then a
  else if orderKey dtype va = orderKey dtype vb then lower
  else if decide (orderKey dtype va < orderKey dtype vb) == least then a else b

/-- Combine two partial elements (R177, R180, R181). -/
def combineElem (dtype op a b : Nat) : Nat :=
  let w := 8 * hostBytes dtype op
  match op with
  | 0 =>
    if narrowSum dtype op then
      let n := accBits dtype
      unsigned (Machine.signed (field a 0 n) n + Machine.signed (field b 0 n) n) n
        + (field a n 4 ||| field b n 4) * 2 ^ n
    else match floatType dtype with
      | some t => t.add a b
      | none => (a + b) % 2 ^ w
  | 1 => pickOrder dtype true a b
  | 2 => pickOrder dtype false a b
  | 3 => a &&& b
  | 4 => a ||| b
  | 5 => a ^^^ b
  | 6 => pickLoc dtype true a b
  | _ => pickLoc dtype false a b

/-- The host element of a finished partial element, and its OVERFLOW flag (R179). A lone NaN of an FP64 SUM or of MIN or
MAX becomes the canonical one (R180, R181). -/
def finishElem (dtype op v : Nat) : Nat × Bool :=
  match floatType dtype with
  | some t =>
    if narrowSum dtype op then
      let n := accBits dtype
      t.finish (Machine.signed (field v 0 n) n) (field v n 4)
    else if decide (op ≤ 2) && t.isNan v then (t.nan, false)
    else (v, false)
  | none => (v, false)

/-- The elements of a vector, each of `bytes` bytes. -/
def elements (data bytes count : Nat) : List Nat := (upFrom 0 count).map (fun i => field data (8 * bytes * i) (8 * bytes))

/-- A vector from its elements. -/
def vector (bytes : Nat) (l : List Nat) : Nat := pack (l.map (fun v => (8 * bytes, v)))

/-- Combine two vectors of partial elements, element by element. -/
def combineVec (dtype op : Nat) : List Nat → List Nat → List Nat
  | a :: as, b :: bs => combineElem dtype op a b :: combineVec dtype op as bs
  | _, _ => []

/-- Combine the children's vectors in child-index order (R180, R182). -/
def combineAll (dtype op : Nat) : List (List Nat) → List Nat
  | [] => []
  | v :: rest => rest.foldl (combineVec dtype op) v

end Sys2Proof.Machine
end

