-- ==== Sys2Proof/Machine/Relay.lean ====
section
/-! DEFINITION. Relay: collective commands, steps, Relay messages, probes and aborts (R168 to R198). -/

namespace Sys2Proof.Machine

/-- Statuses of R175. -/
def stGroupAborted : Nat := 0x18
def stCollForm : Nat := 0x19
def stNotMember : Nat := 0x1A
def stGroupOff : Nat := 0x1B

/-! ### Collective commands (R172 to R175) -/

/-- GROUP, DTYPE, OP, COUNT and DST_KEY of a collective command (R172, R173). -/
def collGroup (e : Nat) : Nat := field e 16 12
def collDtype (e : Nat) : Nat := field e 28 4
def collOp (e : Nat) : Nat := field e 32 4
def collCount (e : Nat) : Nat := field e 192 11
def collDstKey (e : Nat) : Nat := field e 288 24
/-- KIND of a collective command, as R188 codes it. -/
def collKind (e : Nat) : Nat := entOpcode e - 0x18

/-- The operation is allowed for the type (R174). -/
def opAllowed (dtype op : Nat) : Bool :=
  decide (dtype ≤ 9) &&
    (decide (op ≤ 2) || (decide (3 ≤ op) && decide (op ≤ 5) && decide (6 ≤ dtype))
      || (decide (6 ≤ op) && decide (op ≤ 7) && (dtype == 1 || dtype == 6)))

/-- A command that breaks the first check of R175. -/
def collBadForm (e : Nat) : Bool :=
  if 0x1A ≤ entOpcode e then
    decide (collDtype e ≠ 0 ∨ collOp e ≠ 0 ∨ collCount e ≠ 0 ∨ entLocal e ≠ 0 ∨ entRemote e ≠ 0 ∨ entLocalKey e ≠ 0
      ∨ collDstKey e ≠ 0)
  else
    !(opAllowed (collDtype e) (collOp e)) || decide (collCount e = 0) || decide (1024 < collCount e)
      || decide (entLocal e % hostBytes (collDtype e) (collOp e) ≠ 0)
      || decide (entRemote e % hostBytes (collDtype e) (collOp e) ≠ 0)

/-- The status with which a collective command completes at once: the first condition of R175 that holds. -/
def Dev.collRefused (d : Dev) (ep e : Nat) : Option Nat :=
  let x := d.rlGroup (collGroup e)
  if collBadForm e then some stCollForm
  else if (d.rlMemberIndex (collGroup e) ep).isNone then some stNotMember
  else if x.state = .off then some stGroupOff
  else if x.state = .aborted then some stGroupAborted
  else none

/-- The class a collective command is checked against: that of its group, where the check applies (R172). -/
def Dev.collTc (d : Dev) (ep e : Nat) : Option Nat :=
  if (d.collRefused ep e).isNone then some (d.rlTc (collGroup e)) else none

/-! ### Relay messages: headers (R187 to R189) -/

/-- Types of R187. -/
def tyRlUp : Nat := 0x10
def tyRlDown : Nat := 0x11
def tyRlAck : Nat := 0x12
def tyRlNack : Nat := 0x13
def tyRlAbort : Nat := 0x14
def tyRlProbe : Nat := 0x15
def tyRlProbeAck : Nat := 0x16

/-- Fields of a Relay header (R188). -/
def rGroup (h : Nat) : Nat := field h 224 12
def rGen (h : Nat) : Nat := field h 240 8
def rChild (h : Nat) : Nat := field h 248 8
def rStep (h : Nat) : Nat := field h 256 32
def rDtype (h : Nat) : Nat := field h 288 4
def rOp (h : Nat) : Nat := field h 292 4
def rKind (h : Nat) : Nat := field h 296 2
def rOverflow (h : Nat) : Bool := flag h 298
def rCount (h : Nat) : Nat := field h 304 11
def rOrigin (h : Nat) : Nat := field h 320 18
def rFailed (h : Nat) : Nat := field h 352 18
def rHint (h : Nat) : Nat := field h 384 8
def rState (h : Nat) : Nat := field h 392 2

/-- Payload bytes in every packet but the last, for elements of `e` bytes (R189). -/
def rlChunk (e : Nat) : Nat := 4096 / e * e

/-- Packets of a Relay message. -/
def rlPackets (e len : Nat) : Nat := if len = 0 then 1 else (len + rlChunk e - 1) / rlChunk e

/-- Bytes of a Relay message. Bit 2 of `kind` is the OVERFLOW bit of an RL_DOWN. -/
def RlMsg.len (m : RlMsg) : Nat :=
  if m.type = tyRlUp ∨ (m.type = tyRlDown ∧ m.kind % 4 = 0) then m.count * m.elem else 0

/-- The header of packet `i` of a Relay message (R188). -/
def rlHeader (node : Nat) (m : RlMsg) (i : Nat) : Nat :=
  let off := rlChunk m.elem * i
  let pay := min (rlChunk m.elem) (m.len - off)
  let body := m.type = tyRlUp ∨ m.type = tyRlDown
  pack [(8, m.type), (1, bit (off == 0)), (1, bit (off + pay == m.len)), (1, 1), (5, 0), (16, pay), (32, node), (32, 0),
    (32, m.id.getD 0), (16, m.fst), (4, m.attempt), (4, 0), (8, m.reason), (32, off), (32, m.len), (16, m.group),
    (8, m.gen), (8, if body then m.childIndex else 0), (32, m.step), (4, m.dtype), (4, m.op), (8, m.kind),
    (16, m.count), (32, m.origin), (32, m.failed)]

/-- Places of a Relay header that may be nonzero, by type (R188). -/
def rlPlaces (t : Nat) : List (Nat × Nat) :=
  [(0, 8), (8, 3), (16, 13), (32, 18), (96, 32), (128, 16), (144, 4), (160, 32), (192, 32), (224, 12), (240, 8),
      (256, 32), (288, 8), (296, 2), (304, 11), (320, 18), (352, 18)]
    ++ (if t = tyRlUp ∨ t = tyRlDown then [(248, 8)] else [])
    ++ (if t = tyRlDown then [(298, 1)] else [])
    ++ (if t = tyRlNack then [(152, 8), (384, 8)] else [])
    ++ (if t = tyRlAbort then [(152, 8)] else [])
    ++ (if t = tyRlProbeAck then [(152, 8), (392, 2)] else [])

/-- Bytes of an element of an RL_UP or RL_DOWN. -/
def rlElem (h : Nat) : Nat :=
  if hType h = tyRlUp then partialBytes (rDtype h) (rOp h) else hostBytes (rDtype h) (rOp h)

/-- Bytes of the message an RL_UP or RL_DOWN belongs to (R187, R189). -/
def rlBytes (h : Nat) : Nat :=
  if hType h = tyRlUp ∨ rKind h = 0 then rCount h * rlElem h else 0

/-- A Relay message keeps its format (R187 to R189). -/
def rlFormOk (p : Packet) : Bool :=
  let h := p.hdr
  let t := hType h
  let data := decide (t = tyRlUp ∨ t = tyRlDown)
  let single := decide (hMsgLen h = 0) && decide (hOffset h = 0) && p.payload.isEmpty && hFirst h && hLast h
  decide (0x10 ≤ t) && decide (t ≤ 0x16) && zeroOutside h (rlPlaces t) && decide (p.payload.length = hPayLen h)
    && (if data then
        (if rKind h = 2 then decide (rCount h = 0) && decide (rDtype h = 0) && decide (rOp h = 0)
         else decide (rKind h < 2) && opAllowed (rDtype h) (rOp h) && decide (1 ≤ rCount h) && decide (rCount h ≤ 1024))
          && decide (hMsgLen h = rlBytes h) && decide (hOffset h % rlChunk (rlElem h) = 0)
          && (decide (hOffset h < hMsgLen h) || decide (hOffset h = 0))
          && decide (hPayLen h = min (rlChunk (rlElem h)) (hMsgLen h - hOffset h))
          && (hFirst h == decide (hOffset h = 0)) && (hLast h == decide (hOffset h + hPayLen h = hMsgLen h))
        else if t = tyRlAbort ∨ t = tyRlProbe then single
        else p.payload.isEmpty)

/-! ### Sending (R187, R191, R516) -/

/-- RL_CTL fields as they act (R197). -/
def Dev.rlRto (d : Dev) : Nat := max 4 (d.fld rRlCtl 0 8)
def Dev.rlRetryMax (d : Dev) : Nat := d.fld rRlCtl 8 4
def Dev.rlProbeTicks (d : Dev) : Nat := orOne (d.fld rRlCtl 12 12)
def Dev.rlHintTicks (d : Dev) : Nat := orOne (d.fld rRlCtl 24 8)

/-- Replace a Relay message. -/
def Dev.setRlMsg (d : Dev) (m : RlMsg) : Dev :=
  { d with rl := { d.rl with msgs := mapFirst d.rl.msgs (fun x => x.num == m.num) (fun _ => m) } }

/-- Remove a Relay message. -/
def Dev.dropRlMsg (d : Dev) (num : Nat) : Dev :=
  { d with rl := { d.rl with msgs := d.rl.msgs.filter (fun x => x.num != num) } }

/-- Every packet of a copy of a Relay message leaves (R187, R189, R208). -/
def Dev.rlEmit (d : Dev) (m : RlMsg) : Dev :=
  forEach (upFrom 0 (rlPackets m.elem m.len)) (fun i d =>
    let off := rlChunk m.elem * i
    let n := min (rlChunk m.elem) (m.len - off)
    d.emit (.packet ⟨m.node, m.tc, m.attempt % 4, true, rlHeader d.node m i,
      if n = 0 then .none else .bytes (toBytes n (m.data / 2 ^ (8 * off)))⟩)) d

/-- Send a copy of a Relay message; the first copy takes MSG_ID and first-send tick (R125, R191). While the time unit is
not locked, the message waits (R516). -/
def Dev.rlSend (d : Dev) (m : RlMsg) : Dev :=
  match m.id with
  | some _ =>
    let m := { m with lastSend := d.now, rtoFrom := d.now, backoff := none }
    (d.setRlMsg m).rlEmit m
  | none =>
    if !d.timeOk then d
    else
      let m := { m with id := some d.tp.nextId, fst := d.now, lastSend := d.now, rtoFrom := d.now }
      (({ d with tp := { d.tp with nextId := (d.tp.nextId + 1) % 2 ^ 32 } }).setRlMsg m).rlEmit m

/-- Make a Relay message and send it. -/
def Dev.rlNew (d : Dev) (m : RlMsg) : Dev :=
  let m := { m with num := d.rl.nextNum, since := d.st.boundaries }
  ({ d with rl := { d.rl with msgs := d.rl.msgs ++ [m], nextNum := d.rl.nextNum + 1 } }).rlSend m

/-- Relay messages that wait for lock are sent once the time unit is locked (R516). -/
def Dev.rlLaunchAll (d : Dev) : Dev := forEach (d.rl.msgs.filter (fun m => m.id.isNone)) (fun m d => d.rlSend m) d

/-- A message to a peer of a group: 256 names the parent. -/
def Dev.rlTo (d : Dev) (g peer type : Nat) : RlMsg :=
  { num := 0, type := type, group := g, gen := d.rlGen g,
    node := if peer = 256 then d.rlParent g else d.rlChildNode g peer, peer := peer, tc := d.rlTc g }

/-- The reply to a Relay message: RL_ACK, RL_NACK or RL_PROBE_ACK (R188, R190). -/
def Dev.rlReply (d : Dev) (p : Packet) (type reason step origin hint state : Nat) : Dev :=
  let h := p.hdr
  let hdr := pack [(8, type), (8, 0), (16, 0), (32, d.node), (32, 0), (32, hMsgId h), (16, hFst h), (8, hAttempt h),
    (8, reason), (32, 0), (32, hMsgLen h), (16, rGroup h), (8, d.rlGen (rGroup h)), (8, 0), (32, step), (16, 0), (16, 0),
    (32, origin), (32, 0), (8, hint), (8, state)]
  d.emit (.packet ⟨hSrcNode h, p.tc, hAttempt h % 4, true, hdr, .none⟩)

/-- RL_ACK. -/
def Dev.rlAckTo (d : Dev) (p : Packet) : Dev := d.rlReply p tyRlAck 0 (rStep p.hdr) 0 0 0

/-- RL_NACK NOT_READY, reason 1 (R190). -/
def Dev.rlNotReady (d : Dev) (p : Packet) : Dev :=
  (d.raise evRlNotReadyNack (rGroup p.hdr)).rlReply p tyRlNack 1 (rStep p.hdr) 0 d.rlHintTicks 0

/-- RL_NACK RESERVE, reason 2 (R190, R237). -/
def Dev.rlNoRoom (d : Dev) (p : Packet) : Dev :=
  ((d.raise evRlReserveFull (rGroup p.hdr)).raise evTnRelayResFull 0).rlReply p tyRlNack 2 (rStep p.hdr) 0 d.rlHintTicks 0

/-! ### Steps (R176, R182, R186) -/

/-- Reserve cells of a step's accumulator (R186). -/
def rlCells (dtype op count : Nat) : Nat := (count * partialBytes dtype op + 255) / 256

/-- The partials of a child wait for those of earlier children: FP64 SUM adds child by child (R180). -/
def RlStep.waitsTurn (s : RlStep) (i : Nat) : Bool :=
  decide (s.dtype = 0) && decide (s.op = 0) && decide (s.phase = .gathering)
    && !((upFrom 0 i).all (fun j => s.parts.any (fun p => p.child == j && p.full)))

/-- Cells of the partials that a step holds for their turn (R180, R186, R237). -/
def RlStep.heldCells (s : RlStep) : Nat :=
  s.parts.foldl (fun n p => if s.waitsTurn p.child then n + (p.baton + 255) / 256 else n) 0

/-- Cells the open steps of a group take: an accumulator each, and the partials held for their turn. -/
def RlGroup.cells (x : RlGroup) : Nat := x.steps.foldl (fun n s => n + rlCells s.dtype s.op s.count + s.heldCells) 0

/-- Relay reserve cells in use (R197). -/
def Dev.rlUsed (d : Dev) : Nat := d.rl.groups.foldl (fun n g => n + g.2.cells) 0

/-- The Relay reserve, TN_RELAY_CELLS as it acts. -/
def Dev.rlReserve (d : Dev) : Nat := min 65536 (d.fld rTnRelayCells 0 17)

/-- Cells that `bytes` more of a child's partials need: an accumulator where they open their step, and cells of their own where they
wait for their turn (R180, R182, R186). -/
def RlGroup.needs (x : RlGroup) (k dtype op count child bytes : Nat) : Nat :=
  match firstThat x.steps (fun s => s.num == k) with
  | some s =>
    if s.waitsTurn child then
      let got := (firstThat s.parts (fun p => p.child == child)).elim 0 (fun p => p.baton)
      (got + bytes + 255) / 256 - (got + 255) / 256
    else 0
  | none => rlCells dtype op count
      + (if dtype = 0 ∧ op = 0 ∧ child ≠ 0 then (bytes + 255) / 256 else 0)

/-- The reserve has room for `n` more cells. -/
def Dev.rlRoom (d : Dev) (n : Nat) : Bool := decide (n = 0) || decide (d.rlUsed + n ≤ d.rlReserve)

/-- A step lies beyond the window of its group (R176, R190). -/
def Dev.rlBeyond (d : Dev) (g k : Nat) : Bool :=
  let n := (k + 2 ^ 32 - (d.rlGroup g).base) % 2 ^ 32
  decide (d.rlWin g ≤ n) && decide (n < 2 ^ 31)

/-- A step has finished at this device. -/
def RlGroup.isFinished (x : RlGroup) (k : Nat) : Bool :=
  decide (2 ^ 31 ≤ (k + 2 ^ 32 - x.base) % 2 ^ 32) || x.finished.any (· == k)

/-- An open step. -/
def RlGroup.step (x : RlGroup) (k : Nat) : Option RlStep := firstThat x.steps (fun s => s.num == k)

/-- The oldest open step, or the next step where none is open (R197). -/
def RlGroup.oldest (x : RlGroup) : Nat :=
  match x.steps with
  | [] => x.base
  | s :: rest => rest.foldl (fun k (t : RlStep) =>
      if (t.num + 2 ^ 32 - x.base) % 2 ^ 32 < (k + 2 ^ 32 - x.base) % 2 ^ 32 then t.num else k) s.num

/-- Store an open step. -/
def RlGroup.setStep (x : RlGroup) (s : RlStep) : RlGroup :=
  { x with steps := mapFirst x.steps (fun y => y.num == s.num) (fun _ => s) }

/-- Change an open step of a group. -/
def Dev.setRlStep (d : Dev) (g : Nat) (s : RlStep) : Dev := d.setRlGroup g ((d.rlGroup g).setStep s)

/-- Open a step (R182). -/
def Dev.rlOpen (d : Dev) (g k kind dtype op count : Nat) : Dev :=
  let x := d.rlGroup g
  d.setRlGroup g { x with
    state := .running,
    steps := x.steps ++ [RlStep.mk k kind dtype op count [] [] .gathering d.now 0 0 false [] 0 0] }

/-- A contribution agrees with the step's first (R176, R182). -/
def RlStep.agrees (s : RlStep) (kind dtype op count : Nat) : Bool :=
  s.kind == kind && s.dtype == dtype && s.op == op && s.count == count

/-- A child's part of a step. -/
def RlStep.part (s : RlStep) (i : Nat) : RlPart := (firstThat s.parts (fun p => p.child == i)).getD { child := i }

/-- Store a child's part. -/
def RlStep.setPart (s : RlStep) (q : RlPart) : RlStep :=
  { s with parts := q :: s.parts.filter (fun p => p.child != q.child) }

/-- Every child has contributed in full (R182). -/
def Dev.rlComplete (d : Dev) (g : Nat) (s : RlStep) : Bool := (d.rlChildren g).all (fun i => (s.part i).full)

/-- A child's part has grown: the step becomes due when every child has contributed in full (R182). What waits for reserve cells
looks again, for partials held for their turn may have gone into the accumulator (R180). -/
def Dev.rlAddPart (d : Dev) (g : Nat) (s : RlStep) (q : RlPart) : Dev :=
  let s := s.setPart q
  let d := if q.full then d.owe .rlWake else d
  if d.rlComplete g s && decide (s.phase = .gathering) then
    let d := d.setRlStep g { s with phase := .due, since := d.now }
    { d with rl := { d.rl with due := d.rl.due ++ [(g, s.num)] } }
  else d.setRlStep g s

/-- The partial vector of host elements (R177, R178). -/
def partialOf (dtype op count host : Nat) : Nat :=
  vector (partialBytes dtype op) ((elements host (hostBytes dtype op) count).map (toPartial dtype op))

/-- The step's combined partial elements, in child-index order (R177, R180, R181). -/
def Dev.rlCombined (d : Dev) (g : Nat) (s : RlStep) : List Nat :=
  combineAll s.dtype s.op
    ((d.rlChildren g).map (fun i => elements (s.part i).data (partialBytes s.dtype s.op) s.count))

/-! ### Local members (R176, R178, R185) -/

/-- A local member's contribution is in (R178, R182). -/
def Dev.rlGive (d : Dev) (c : Cmd) (k child : Nat) : Dev :=
  let e := c.entry
  let g := collGroup e
  match (d.rlGroup g).step k with
  | none => d
  | some s =>
    d.rlAddPart g s (RlPart.mk child 0 (s.count * partialBytes s.dtype s.op) (partialOf s.dtype s.op s.count (ofBytes c.data)) true)

/-- The read of SRC_ADDR (R173, R185). -/
def collSource (c : Cmd) : Access :=
  ⟨c.ep, entLocal c.entry, collCount c.entry * hostBytes (collDtype c.entry) (collOp c.entry), .read, false,
    some (entLocalKey c.entry), false⟩

/-- The step and child of a member's command, where it stands in an open step. -/
def Dev.rlPlace (d : Dev) (ep index : Nat) (lap : Bool) (g : Nat) : Option (Nat × Nat) :=
  (d.rlGroup g).steps.foldl (fun (b : Option (Nat × Nat)) s => match b with
    | some p => some p
    | none => (firstThat s.members (fun m => m.ep == ep && m.index == index && m.lap == lap)).map
        (fun (m : RlMember) => (s.num, m.child))) none

/-- A fault on SRC_ADDR ends the command with LOCAL_FAULT, and a bus error with LOCAL_BUS (kind 0); each aborts the group with
MEMBER_FAULT (R69, R185, R193; of the bus error: DEDUCED, log entry 183). -/
def Dev.contribFault (d : Dev) (c : Cmd) (kind : Nat) : Dev :=
  ((d.reportFault (collSource c) kind false).rlCause (collGroup c.entry) raMemberFault d.node c.ep true none).cmdDone c
    (if kind = 0 then stLocalBus else stLocalFault) (faultInfo kind 0) 0 0

/-- Go on with the read of a member's contribution (R185). -/
def Dev.contribGo (d : Dev) (c : Cmd) (f : Found) : Dev :=
  match d.rlPlace c.ep c.index c.lap (collGroup c.entry) with
  | none => d
  | some (k, child) =>
    match d.evalAccess (collSource c) f with
    | .ok _ =>
      let o : XlOwner := .contrib c.ep c.index c.lap
      if d.busMet o && decide ((collSource c).len ≠ 0) then (d.busTaken o).contribFault c 0
      else (d.useLeaves (collSource c)).rlGive c k child
    | .need s => d.addWalk (.contrib c.ep c.index c.lap) (collSource c) f s
    | .fault kind => d.contribFault c kind

/-- A member's command joins its step: it opens the step or joins it, and its contribution is read (R176, R182). While the
step lies beyond the window, or the reserve has no room for it, the command waits. -/
def Dev.rlJoin (d : Dev) (c : Cmd) (m : RlMember) (k : Nat) (again : Bool) : Dev :=
  let e := c.entry
  let g := collGroup e
  let x := d.rlGroup g
  let beyond := d.rlBeyond g k
  let bytes := collCount e * partialBytes (collDtype e) (collOp e)
  if beyond || !(d.rlRoom (x.needs k (collDtype e) (collOp e) (collCount e) m.child bytes)) then
    (d.setRlGroup g { x with waits := x.waits ++ [(m, k)] }).raiseIf (beyond && !again) evRlStepWait g
  else
    let d := if (x.step k).isNone then d.rlOpen g k (collKind e) (collDtype e) (collOp e) (collCount e) else d
    match (d.rlGroup g).step k with
    | none => d
    | some s =>
      if s.agrees (collKind e) (collDtype e) (collOp e) (collCount e) then
        (d.setRlStep g { s with members := s.members ++ [m] }).contribGo c {}
      else d.rlCause g raMismatch d.node 0 false none

/-- Commands that wait try again, in their order (R176). -/
def Dev.rlRetryGroup (g : Nat) (d : Dev) : Dev :=
  let x := d.rlGroup g
  forEach x.waits (fun (w : RlMember × Nat) d => match d.findCmd w.1.ep w.1.index w.1.lap with
    | some c => d.rlJoin c w.1 w.2 true
    | none => d) (d.setRlGroup g { x with waits := [] })

/-- Commands of every group that wait try again: reserve cells have been freed. -/
def Dev.rlRetry (d : Dev) : Dev := forEach (Tbl.keys d.rl.groups) Dev.rlRetryGroup d

/-- The group has a parent or a remote child, so its collective commands need the fabric (R42). -/
def Dev.collRemote (d : Dev) (g : Nat) : Bool := !(d.rlRoot g) || (d.rlChildren g).any (fun i => !(d.rlIsLocal g i))

/-- A collective command that R175 lets through acts; while the time unit is not locked, one that needs the fabric waits
(R42). -/
def Dev.collStart (d : Dev) (c : Cmd) (act : Dev → Cmd → Dev) : Dev :=
  let g := collGroup c.entry
  match d.collRefused c.ep c.entry with
  | some status => (d.raiseIf (decide (status = stCollForm)) evRlCollForm c.ep).cmdDone c status 0 0 0
  | none =>
    if !d.timeOk && d.collRemote g then d.setCmd { c with phase := .lockWait }
    else
      let c := { c with phase := .running }
      act (d.setCmd c) c

/-- ALLREDUCE, REDUCE or BARRIER starts (R175, R176): a member's k-th command on a group belongs to step k. -/
def Dev.startColl (d : Dev) (c : Cmd) : Dev :=
  d.collStart c (fun d c =>
    let g := collGroup c.entry
    match d.rlMemberIndex g c.ep with
    | none => d
    | some i =>
      let x := d.rlGroup g
      let k := Tbl.get 0 x.next i
      (d.setRlGroup g { x with next := Tbl.put 0 i ((k + 1) % 2 ^ 32) x.next }).rlJoin c ⟨i, c.ep, c.index, c.lap⟩ k false)

/-- COLL_ABORT starts: the group is to abort with reason HOST; the command posts with the abort (R172, R175, R193,
R195). -/
def Dev.startCollAbort (d : Dev) (c : Cmd) : Dev :=
  d.collStart c (fun d c => d.rlCause (collGroup c.entry) raHost d.node 0 false none)

/-! ### The downward result (R184, R185) -/

/-- The bytes of the result a member's command writes (R184, R185). -/
def Dev.rlMemberBytes (d : Dev) (g : Nat) (s : RlStep) (ep : Nat) : Nat :=
  if s.kind = 0 ∨ (s.kind = 1 ∧ d.rlRoot g ∧ ep = d.rlRootEp g) then s.count * hostBytes s.dtype s.op else 0

/-- The write of DST_ADDR (R173, R185). -/
def resultAccess (c : Cmd) (n : Nat) : Access := ⟨c.ep, entRemote c.entry, n, .write, false, some (collDstKey c.entry), false⟩

/-- A step that every child has acknowledged and every local member has left is freed (R184). -/
def Dev.rlFree (d : Dev) (g k : Nat) : Dev :=
  let x := d.rlGroup g
  match x.step k with
  | none => d
  | some s =>
    if s.phase = .down ∧ s.acks = [] ∧ s.members = [] then
      let done := k :: x.finished
      let n := (firstThat (upFrom 0 9) (fun n => !(done.any (· == (x.base + n) % 2 ^ 32)))).getD 9
      let base := (x.base + n) % 2 ^ 32
      let steps := x.steps.filter (fun y => y.num != k)
      (d.setRlGroup g { x with
        steps := steps, base := base,
        finished := done.filter (fun j => decide ((j + 2 ^ 32 - base) % 2 ^ 32 < 2 ^ 31)),
        state := if steps = [] then .ready else .running }).rlRetry
    else d

/-- A member's command of a finished step posts, with its status and the bytes written (R185). -/
def Dev.rlPost (d : Dev) (c : Cmd) (s : RlStep) (status info : Nat) : Dev :=
  let g := collGroup c.entry
  let mine (m : RlMember) : Bool := m.ep == c.ep && m.index == c.index && m.lap == c.lap
  ((d.setRlStep g { s with members := s.members.filter (fun m => !(mine m)) }).cmdDone c status info 0 0).rlFree g s.num

/-- Write the result of a step for one of its members, where its translation allows (R184, R185). -/
def Dev.resultGo (d : Dev) (g k child : Nat) (f : Found) : Dev :=
  match (d.rlGroup g).step k with
  | none => d
  | some s =>
    match firstThat s.members (fun m => m.child == child) with
    | none => d
    | some m =>
      match d.findCmd m.ep m.index m.lap with
      | none => (d.setRlStep g { s with members := s.members.filter (fun x => x.child != child) }).rlFree g k
      | some c =>
        let n := d.rlMemberBytes g s m.ep
        let ok := n + 2 ^ 40 * bit s.overflow
        if n = 0 then d.rlPost c s stOk ok
        else match d.evalAccess (resultAccess c n) f with
        | .ok pieces =>
          let o : XlOwner := .result g k child
          if d.busMet o then (d.busTaken o).rlPost c s stLocalBus 0
          else
          ((d.useLeaves (resultAccess c n)).writeMem (d.fnOf c.ep) pieces (toBytes n s.result)).rlPost c s stOk ok
        | .need st => d.addWalk (.result g k child) (resultAccess c n) f st
        | .fault kind => (d.reportFault (resultAccess c n) kind false).rlPost c s stLocalFault (faultInfo kind 0)

/-- The downward delivery: one RL_DOWN to each remote child, then the local members, in child-index order (R184). -/
def Dev.rlDeliver (d : Dev) (g : Nat) (s : RlStep) (result : Nat) (overflow : Bool) : Dev :=
  let remote := (d.rlChildren g).filter (fun i => !(d.rlIsLocal g i))
  let s := { s with phase := .down, result := result, overflow := overflow, acks := remote }
  let d := d.setRlStep g s
  let d := forEach remote (fun i d => d.rlNew
    { d.rlTo g i tyRlDown with
      step := s.num, childIndex := i, dtype := s.dtype, op := s.op, kind := s.kind + 4 * bit overflow, count := s.count,
      elem := hostBytes s.dtype s.op, data := result }) d
  (forEach ((d.rlChildren g).filter (fun i => d.rlIsLocal g i)) (fun i d => d.resultGo g s.num i {}) d).rlFree g s.num

/-- The root finishes a step's result: host elements and OVERFLOW (R179). -/
def finishAll (dtype op : Nat) (l : List Nat) : Nat × Bool :=
  let r := l.map (finishElem dtype op)
  (vector (hostBytes dtype op) (r.map (fun (x : Nat × Bool) => x.1)), r.any (fun (x : Nat × Bool) => x.2))

/-- A due step closes: a non-root sends its partial to its parent, the root finishes and delivers (R183). -/
def Dev.rlClose (d : Dev) (g : Nat) (s : RlStep) : Dev :=
  let l := d.rlCombined g s
  if d.rlRoot g then
    let (r, o) := finishAll s.dtype s.op l
    (d.raiseIf o evRlOverflow g).rlDeliver g s (if s.kind = 2 then 0 else r) o
  else
    (d.setRlStep g { s with phase := .waitDown, since := d.now }).rlNew
      { d.rlTo g 256 tyRlUp with
        step := s.num, childIndex := d.rlIndexUp g, dtype := s.dtype, op := s.op, kind := s.kind, count := s.count,
        elem := partialBytes s.dtype s.op, data := vector (partialBytes s.dtype s.op) l }

/-- A step may close in this tick: a boundary has passed since it became due, in conservative mode one of an even tick number (R45;
DESIGN CHOICE, log entry 196), and no abort that a boundary has passed overrides it (R183, R195). -/
def Dev.rlMayClose (d : Dev) (g : Nat) (s : RlStep) : Bool :=
  decide (s.phase = .due) && decide (s.since ≠ d.now) && (!d.st.conserv || decide (d.now % 2 = 0))
    && (match (d.rlGroup g).cause with | some c => decide (c.at_ = d.now) | none => true)

/-- A step waits to close and may close in this tick. -/
def Dev.rlReady (d : Dev) (e : Nat × Nat) : Bool :=
  match (d.rlGroup e.1).step e.2 with
  | some s => d.rlMayClose e.1 s
  | none => false

/-- STEP_CLOSE: of the steps that are due, the first that may close does, within the quota of the tick (R48, R183). -/
def Dev.stepClose (d : Dev) : Dev :=
  match firstThat d.rl.due d.rlReady with
  | none => d
  | some e =>
    match (d.rlGroup e.1).step e.2 with
    | none => d
    | some s =>
      d.within actRelay (fun d => ({ d with rl := { d.rl with due := d.rl.due.filter (fun x => x != e) } }).rlClose e.1 s)

/-! ### Arrivals (R187, R190 to R192) -/

/-- Steps 1 and 3 of R131 and the format of R187, then the message's own handling. -/
def Dev.rlArrive (d : Dev) (p : Packet) (type : Nat) (act : Dev → Dev) : Dev :=
  if !p.crcOk then (d.latchTp p.hdr 1).raise evTpE2eCrcError p.port
  else if !(rlFormOk p) then d.raise evRlRlMalformed (rGroup p.hdr)
  else if d.ageLimit < d.ageOf (hFst p.hdr) then (d.latchTp p.hdr 3).raise evTpStaleDrop p.port
  else if hType p.hdr = type then act d else d

/-- The first row of R190: another GEN, a group that is OFF, or a step beyond the window. -/
def Dev.rlUnready (d : Dev) (h : Nat) : Bool :=
  decide (rGen h ≠ d.rlGen (rGroup h)) || decide ((d.rlGroup (rGroup h)).state = .off) || d.rlBeyond (rGroup h) (rStep h)

/-- The answer of the first two rows of R190, or the rest. -/
def Dev.rlRows (d : Dev) (p : Packet) (rest : Dev → Dev) : Dev :=
  let h := p.hdr
  if d.rlUnready h then
    (d.raiseIf (decide (rGen h ≠ d.rlGen (rGroup h))) evRlGenStale (rGroup h)).rlNotReady p
  else if (d.rlGroup (rGroup h)).state = .aborted then d.rlAckTo p
  else rest d

/-- The number of a packet in its message (R189). -/
def rlPacketNo (h : Nat) : Nat := hOffset h / rlChunk (rlElem h)

/-- A packet of an RL_UP is combined (R182, R189, R190). -/
def Dev.rlTakeUp (d : Dev) (p : Packet) : Dev :=
  let h := p.hdr
  let g := rGroup h
  let x := d.rlGroup g
  let i := rChild h
  let done := x.isFinished (rStep h)
    || (match x.step (rStep h) with | some s => flag (s.part i).bitmap (rlPacketNo h) | none => false)
  if d.rlCount g ≤ i ∨ d.rlIsLocal g i ∨ d.rlChildNode g i ≠ hSrcNode h then d.raise evRlRlMalformed g
  else if done then (d.raise evRlDupDiscard g).rlAckTo p
  else if !(d.rlRoom (x.needs (rStep h) (rDtype h) (rOp h) (rCount h) i (hPayLen h))) then d.rlNoRoom p
  else
    let d := if (x.step (rStep h)).isNone then d.rlOpen g (rStep h) (rKind h) (rDtype h) (rOp h) (rCount h) else d
    match (d.rlGroup g).step (rStep h) with
    | none => d
    | some s =>
      if s.agrees (rKind h) (rDtype h) (rOp h) (rCount h) then
        let q := s.part i
        let baton := q.baton + hPayLen h
        let q : RlPart := { q with
          bitmap := q.bitmap ||| 2 ^ rlPacketNo h, baton := baton,
          data := q.data + ofBytes p.payload * 2 ^ (8 * hOffset h), full := decide (baton = hMsgLen h) }
        let d := d.rlAddPart g s q
        if q.full then d.rlAckTo p else d
      else d.rlCause g raMismatch d.node 0 false none

/-- RL_UP arrives (R190). -/
def Dev.rlUp (d : Dev) (p : Packet) : Dev := d.rlArrive p tyRlUp (fun d => d.rlRows p (fun d => d.rlTakeUp p))

/-- A packet of an RL_DOWN is taken; once the message is complete it is acknowledged and the result delivered (R184,
R190). -/
def Dev.rlTakeDown (d : Dev) (p : Packet) : Dev :=
  let h := p.hdr
  let g := rGroup h
  let x := d.rlGroup g
  if d.rlRoot g ∨ d.rlParent g ≠ hSrcNode h ∨ d.rlIndexUp g ≠ rChild h then d.raise evRlRlMalformed g
  else if x.isFinished (rStep h) then (d.raise evRlDupDiscard g).rlAckTo p
  else match x.step (rStep h) with
  | none => d.rlNotReady p
  | some s =>
    if flag s.downBitmap (rlPacketNo h) then (d.raise evRlDupDiscard g).rlAckTo p
    else if s.phase ≠ .waitDown then d.rlNotReady p
    else if !(s.agrees (rKind h) (rDtype h) (rOp h) (rCount h)) then d.raise evRlRlMalformed g
    else
      let s := { s with
        downBitmap := s.downBitmap ||| 2 ^ rlPacketNo h, downBaton := s.downBaton + hPayLen h,
        result := s.result + ofBytes p.payload * 2 ^ (8 * hOffset h) }
      if s.downBaton = hMsgLen h then ((d.setRlStep g s).rlAckTo p).rlDeliver g s s.result (rOverflow h)
      else d.setRlStep g s

/-- RL_DOWN arrives (R184, R190). -/
def Dev.rlDown (d : Dev) (p : Packet) : Dev := d.rlArrive p tyRlDown (fun d => d.rlRows p (fun d => d.rlTakeDown p))

/-- The Relay message a reply names. -/
def Dev.rlNamed (d : Dev) (h : Nat) : Option RlMsg :=
  firstThat d.rl.msgs (fun m => m.id == some (hMsgId h) && m.fst % 2 ^ 16 == hFst h)

/-- An RL_ACK ends its message; that of an RL_DOWN may finish the step (R184, R191). -/
def Dev.rlAckArrive (d : Dev) (p : Packet) : Dev :=
  d.rlArrive p tyRlAck (fun d => match d.rlNamed p.hdr with
    | none => d
    | some m =>
      let d := d.dropRlMsg m.num
      if m.type = tyRlDown then
        match (d.rlGroup m.group).step m.step with
        | some s => (d.setRlStep m.group { s with acks := s.acks.filter (· != m.peer) }).rlFree m.group m.step
        | none => d
      else d)

/-- An RL_NACK puts its message into back-off; NOT_READY counts as an attempt (R191). -/
def Dev.rlNackArrive (d : Dev) (p : Packet) : Dev :=
  d.rlArrive p tyRlNack (fun d => match d.rlNamed p.hdr with
    | none => d
    | some m =>
      d.setRlMsg { m with
        backoff := some ((m.lastSend + rHint p.hdr) % 2 ^ 48), rtoFrom := d.now,
        attempt := m.attempt + (if hSub p.hdr = 1 then 1 else 0) })

/-- The peer of a message is lost; an RL_ABORT is not waited for (R191 to R195). -/
def Dev.rlLost (d : Dev) (m : RlMsg) : Dev :=
  let d := d.dropRlMsg m.num
  if m.type = tyRlAbort then d
  else d.rlCause m.group (if m.peer = 256 then raParentLost else raChildLost) d.node m.node false (some m.peer)

/-- The age at which a Relay message without RL_ACK makes its peer lost: L_max, and 32 ticks more in conservative mode (R183, R191;
the width of the widening: DEDUCED from R45, log entry 185). -/
def Dev.rlAgeLimit (d : Dev) : Nat := d.lmax + (if d.st.conserv then 32 else 0)

/-- The timeout of a Relay message: a reissue, or the peer is lost (R191). No copy leaves at an age of L_max or more (R126). -/
def Dev.rlTimeout (d : Dev) (m : RlMsg) : Dev :=
  if m.id.isNone then (if d.lmax ≤ d.waited m.since ∧ !d.timeOk then d.rlLost m else d)
  else if d.rlAgeLimit ≤ d.since m.fst then d.rlLost m
  else if m.backoff.isSome ∨ d.since m.rtoFrom < d.rlRto then d
  else if d.rlRetryMax ≤ m.attempt then d.rlLost m
  else if d.lmax ≤ d.since m.fst then d
  else (d.raise evRlRlRetransmit m.group).rlSend { m with attempt := m.attempt + 1 }

/-- The end of a Relay message's back-off: another copy, never at an age of L_max or more (R138, R191). -/
def Dev.rlBackoffEnd (d : Dev) (m : RlMsg) : Dev :=
  match m.backoff with
  | some u => if since48 d.now u < 2 ^ 47 ∧ d.since m.fst < d.lmax then d.rlSend m else d
  | none => d

/-! ### Probes (R192) -/

/-- The tick of a list that lies furthest back. -/
def Dev.longest (d : Dev) (l : List Nat) : Option Nat :=
  l.foldl (fun (b : Option Nat) t => match b with
    | some u => if d.since u < d.since t then some t else some u
    | none => some t) none

/-- Since when the device waits on a peer for an open step: the tick of the step that has waited longest (R192). -/
def Dev.rlWaitsOn (d : Dev) (g peer : Nat) : Option Nat :=
  let x := d.rlGroup g
  if peer = 256 then d.longest ((x.steps.filter (fun s => decide (s.phase = .waitDown))).map (fun (s : RlStep) => s.since))
  else if peer < d.rlCount g ∧ !(d.rlIsLocal g peer) then
    d.longest ((x.steps.filter (fun s => decide (s.phase = .gathering) && !(s.part peer).full)).map (fun (s : RlStep) => s.openedAt))
  else none

/-- PROBE ticks have passed while waiting on a peer: an RL_PROBE is sent (R192). -/
def Dev.rlProbe (d : Dev) (g peer : Nat) : Dev :=
  match d.rlWaitsOn g peer with
  | none => d
  | some t =>
    let x := d.rlGroup g
    let due := decide (d.rlProbeTicks ≤ d.since t) &&
      (match Tbl.get none x.probed peer with | some u => decide (d.rlProbeTicks ≤ d.since u) | none => true)
    if due && x.active then
      (d.setRlGroup g { x with probed := Tbl.put none peer (some d.now) x.probed }).rlNew (d.rlTo g peer tyRlProbe)
    else d

/-- RL_PROBE arrives: it is answered whatever the state (R190). -/
def Dev.rlProbeArrive (d : Dev) (p : Packet) : Dev :=
  d.rlArrive p tyRlProbe (fun d =>
    let x := d.rlGroup (rGroup p.hdr)
    (d.raiseIf (decide (rGen p.hdr ≠ d.rlGen (rGroup p.hdr))) evRlGenStale (rGroup p.hdr)).rlReply p tyRlProbeAck x.reason
      (if x.state = .aborted then x.abortStep else x.oldest) x.origin 0 x.state.code)

/-- RL_PROBE_ACK arrives: an aborted or OFF peer makes the device abort (R192). -/
def Dev.rlProbeAckArrive (d : Dev) (p : Packet) : Dev :=
  d.rlArrive p tyRlProbeAck (fun d => match d.rlNamed p.hdr with
    | none => d
    | some m =>
      let h := p.hdr
      let d := d.dropRlMsg m.num
      if rState h = 0 ∨ rGen h ≠ m.gen then d.rlCause m.group raPeerOff d.node 0 false none
      else if rState h = 3 then d.rlCause m.group (hSub h) (rOrigin h) 0 false none
      else d)

/-! ### Aborts (R193 to R196) -/

/-- RL_ABORT arrives: it is acknowledged, and a group in service of the same GEN is to abort with its reason and origin
(R190, R194, R195). -/
def Dev.rlAbortArrive (d : Dev) (p : Packet) : Dev :=
  d.rlArrive p tyRlAbort (fun d =>
    let h := p.hdr
    let d := d.rlAckTo p
    if rGen h ≠ d.rlGen (rGroup h) then d.raise evRlGenStale (rGroup h)
    else d.rlCause (rGroup h) (hSub h) (rOrigin h) (rFailed h) (hSub h == raMemberGone || hSub h == raMemberFault) none)

/-- The event of an abort's cause (R195, R198); reasons without a source raise none. -/
def causeEvent (reason : Nat) : Option Nat :=
  match reason with
  | 1 => some evRlChildLost
  | 2 => some evRlParentLost
  | 3 => some evRlMemberGone
  | 5 => some evRlMismatch
  | _ => none

/-- The words of a GROUP_ABORT event (R196). -/
def groupAbortWords (g gen step : Nat) (c : RlCause) : List Nat :=
  [eventWord0 0 7 stGroupAborted 0, pack [(16, g), (8, gen), (8, c.reason), (32, step)],
    pack [(32, c.origin), (32, c.failed)], bit c.localFailed]

/-- The collective commands of a group that a member has fetched and that have not posted (R195). -/
def Dev.rlOpenCmds (d : Dev) (g : Nat) : List Cmd :=
  d.tp.cmds.filter (fun c => decide (0x18 ≤ entOpcode c.entry) && collGroup c.entry == g
    && (d.rlMemberIndex g c.ep).isSome)

/-- The six steps of an abort at the boundary (R195). -/
def Dev.rlAbort (d : Dev) (g : Nat) (c : RlCause) : Dev :=
  let x := d.rlGroup g
  let d := d.latch rRlErrLatch (pack [(12, g), (4, c.reason), (18, c.origin)])
  let d := d.setRlGroup g { x with
    state := .aborted, reason := c.reason, origin := c.origin, abortStep := x.oldest, steps := [], waits := [], finished := [],
    cause := none, probed := [], gone := [] }
  let d := { d with rl := { d.rl with
    due := d.rl.due.filter (fun s => s.1 != g), msgs := d.rl.msgs.filter (fun m => m.group != g || m.type == tyRlAbort) } }
  let peers := (if d.rlRoot g then [] else [256]) ++ (d.rlChildren g).filter (fun i => !(d.rlIsLocal g i))
  let d := forEach (peers.filter (fun i => !(x.gone.contains i))) (fun i d => d.rlNew
    { d.rlTo g i tyRlAbort with reason := c.reason, origin := c.origin, failed := c.failed, step := x.base }) d
  let eps := (d.rlChildren g).filter (fun i => d.rlIsLocal g i)
  let d := forEach eps (fun i d =>
    let ep := d.rlChildEp g i
    d.postEvent ep (groupAbortWords g (d.rlGen g) x.base c) ((d.ep ep).elim false (fun e => e.irqEn)) false) d
  let d := forEach (d.rlOpenCmds g) (fun q d => d.cmdDone q stGroupAborted 0 0 0) d
  let d := (d.raise evRlGroupAbort g).rlRetry
  match causeEvent c.reason with
  | some e => if c.origin = d.node then d.raise e g else d
  | none => d

/-- ABORT_AT_BOUNDARY: a boundary has passed since the failure was detected or an RL_ABORT came (R195). -/
def Dev.rlAbortBoundary (d : Dev) (g : Nat) : Dev :=
  let x := d.rlGroup g
  match x.cause with
  | some c => if x.active && decide (c.at_ ≠ d.now) then d.rlAbort g c else d
  | none => d

/-- A step's reserve data fails its check: the group is fenced and is to abort with ACC_PARITY (R193, R198). -/
def Dev.rlParity (d : Dev) (g : Nat) : Dev := (d.raise evRlAccParity g).rlCause g raAccParity d.node 0 false none

/-! ### RL_GRP_CMD (R170, R171) -/

/-- Two ranges of child entries overlap a group that is not OFF. -/
def Dev.rlOverlaps (d : Dev) (g : Nat) : Bool :=
  (Tbl.keys d.rl.groups).any (fun k => k != g && decide ((d.rlGroup k).state ≠ .off)
    && decide (d.rlBase k < d.rlBase g + d.rlCount g) && decide (d.rlBase g < d.rlBase k + d.rlCount k))

/-- The refusal code of ENABLE: 0 where it is accepted (R170, R171). -/
def Dev.rlEnableCode (d : Dev) (g : Nat) : Nat :=
  if (d.rlGroup g).state ≠ .off then 1
  else if d.rlCount g = 0 ∨ 256 < d.rlCount g ∨ 65536 < d.rlBase g + d.rlCount g ∨ d.rlOverlaps g then 2
  else if (d.rlChildren g).any (fun i => !(flag (d.rlChild g i) 63)) then 3
  else if d.rlRoot g && (d.rlMemberIndex g (d.rlRootEp g)).isNone then 4
  else if !(d.rlRoot g) && d.rlParent g == d.node then 5
  else 0

/-- A refused action (R170). -/
def Dev.rlRefuse (d : Dev) (g code : Nat) : Dev :=
  (d.setRlGroup g { d.rlGroup g with refuse := code }).raise evRlConfigRefused g

/-- RL_GRP_CMD ENABLE (R170, R171). -/
def Dev.rlEnable (d : Dev) (g : Nat) : Dev :=
  let code := d.rlEnableCode g
  if code = 0 then d.setRlGroup g { state := .ready } else d.rlRefuse g code

/-- RL_GRP_CMD DISABLE (R170). Commands that still wait complete as for a group that is OFF. -/
def Dev.rlDisable (d : Dev) (g : Nat) : Dev :=
  let x := d.rlGroup g
  if x.state = .ready ∨ x.state = .aborted then
    let d := d.setRlGroup g {}
    let d := { d with rl := { d.rl with msgs := d.rl.msgs.filter (fun m => m.group != g || m.type == tyRlAbort) } }
    (forEach x.waits (fun (w : RlMember × Nat) d => match d.findCmd w.1.ep w.1.index w.1.lap with
      | some c => d.cmdDone c stGroupOff 0 0 0
      | none => d) d).clearFence .rlGroup g
  else d.rlRefuse g 1

/-- RL_GRP_CMD ABORT: abort with reason MGMT (R170). -/
def Dev.rlAbortCmd (d : Dev) (g : Nat) : Dev :=
  let x := d.rlGroup g
  if x.active then (d.setRlGroup g { x with refuse := 0 }).rlCause g raMgmt d.node 0 false none else d.rlRefuse g 1

/-! ### Read-only registers (R197) -/

/-- RL_STATUS. -/
def Dev.rlStatus (d : Dev) : Nat :=
  let on := (Tbl.keys d.rl.groups).filter (fun g => decide ((d.rlGroup g).state ≠ .off))
  pack [(13, on.length), (16, on.foldl (fun n g => n + (d.rlGroup g).steps.length) 0),
    (17, on.foldl (fun n g => n + d.rlCount g) 0), (18, d.rlUsed)]

/-- RL_GRP_STATE of a group. -/
def Dev.rlGrpState (d : Dev) (g : Nat) : Nat :=
  let x := d.rlGroup g
  pack [(2, x.state.code), (4, x.steps.length), (4, x.reason), (4, x.refuse),
    (32, if x.state = .aborted then x.abortStep else x.oldest), (18, x.origin)]

end Sys2Proof.Machine
end

