-- ==== Sys2Proof/Machine/Resume.lean ====
section
/-! DEFINITION. What a walk's end or a page request's answer does for the access that waited (R100, R107 to R112, R131,
R154, R155, R185). -/

namespace Sys2Proof.Machine

/-- A message goes on after a walk or a resume; one that a NACK has put into back-off meanwhile does not (R110, R138). -/
def Dev.sendGo (d : Dev) (num : Nat) (f : Found) : Dev :=
  match d.msg num with
  | none => d
  | some m =>
    match m.phase with
    | .sending => d.pump num f pumpFuel
    | .stalled => (d.setMsg { m with phase := .sending }).pump num f pumpFuel
    | _ => d

/-- An arriving packet goes on after its walk (R131). `mem` is what the target memory holds now. -/
def Dev.arrivalGo (d : Dev) (slot mem : Nat) (f : Found) : Dev :=
  match Tbl.get none d.tp.parked slot with
  | none => d
  | some p =>
    let p := { p with mem := mem }
    if hType p.hdr = tyGetReq ∨ hType p.hdr = tyWnFill then d.performGet (some slot) p f
    else match d.recFor p.hdr with
    | some r => (match r.state with
      | .completed _ _ => d.unpark (some slot)
      | _ => if d.epGone r then d.unpark (some slot) else d.performRec (some slot) r p f)
    | none => d.unpark (some slot)

/-- GET data goes on after its walk (R136). -/
def Dev.getRespGo (d : Dev) (slot : Nat) (f : Found) : Dev :=
  match Tbl.get none d.tp.parked slot with
  | none => d
  | some p =>
    match d.msgById (hMsgId p.hdr) (hFst p.hdr) with
    | some m => d.getRespRun (some slot) p m f
    | none => d.unpark (some slot)

/-- An unexpected copy goes on (R154). -/
def Dev.copyGo (d : Dev) (num : Nat) (f : Found) : Dev :=
  match d.hdr num with
  | some u => (match u.bound with | some b => d.copyRun u b f | none => d)
  | none => d

/-- A discarded range of a GET is translated, and asked for again (R110). -/
def Dev.againGo (d : Dev) (num off len : Nat) : Dev :=
  match d.msg num with
  | some m => d.askAgain m off len
  | none => d

/-- The owner of an access goes on with what has been found. -/
def Dev.ownerGo (d : Dev) (o : XlOwner) (mem : Nat) (f : Found) : Dev :=
  match o with
  | .send num => d.sendGo num f
  | .again num off len => d.againGo num off len
  | .arrival slot => d.arrivalGo slot mem f
  | .getResp slot => d.getRespGo slot f
  | .copy num => d.copyGo num f
  | .rdv ep index lap => (match d.findCmd ep index lap with | some c => d.rdvCheck c f | none => d)
  | .result g k i => d.resultGo g k i f
  | .contrib ep index lap => (match d.findCmd ep index lap with | some c => d.contribGo c f | none => d)

/-- A fault at the target ends an arriving packet's message (R109, R131, R134). -/
def Dev.arrivalEnds (d : Dev) (slot : Nat) (a : Access) (kind : Nat) : Dev :=
  match Tbl.get none d.tp.parked slot with
  | none => d
  | some p =>
    let d := (d.unpark (some slot)).reportFault a kind true
    let h := p.hdr
    match d.recFor h with
    | some r =>
      (match r.state with
      | .completed _ _ => if hType h = tyGetReq then d.sendAck p.tc h stRemoteAccess kind [] else d
      | _ =>
        if hType h = tyGetReq then d.endRec r p stRemoteAccess kind
        else (d.raiseIf (r.sig && decide (r.baton = r.msgLen)) evTpSignalFault r.dstEp).arrivalFault r p kind)
    | none => if recordless h then d.sendAck p.tc h stRemoteAccess kind [] else d

/-- The message whose data a parked GET_RESP carries. -/
def Dev.parkedMsg (d : Dev) (slot : Nat) : Option Msg :=
  (Tbl.get none d.tp.parked slot).bind (fun p => d.msgById (hMsgId p.hdr) (hFst p.hdr))

/-- A message ends with a fault of one of its accesses. -/
def Dev.msgFault (d : Dev) (num : Nat) (a : Access) (status kind : Nat) : Dev :=
  match d.msg num with
  | some m => (d.reportFault a kind false).endMsg m status kind 0 []
  | none => d

/-- The owner of an access ends with a fault: `status` is LOCAL_FAULT with its kind, or PAGE_FAILED (R109, R111). -/
def Dev.ownerEnds (d : Dev) (o : XlOwner) (a : Access) (status kind : Nat) : Dev :=
  match o with
  | .send num => d.msgFault num a status kind
  | .again num _ _ => d.msgFault num a status kind
  | .arrival slot => d.arrivalEnds slot a kind
  | .getResp slot => (match d.parkedMsg slot with
    | some m => ((d.unpark (some slot)).reportFault a kind false).endMsg m status kind 0 []
    | none => d.unpark (some slot))
  | .copy num => (match d.hdr num with
    | some u =>
      let d := d.reportFault a kind false
      let d := if a.kind = .read then
          (d.latch rMxErrLatch (pack [(16, u.ep), (18, 0), (4, 2)])).raise evMxUbufFault u.ep else d
      d.copyEnd u (u.bound.getD ⟨0, 0, 0, 0⟩) status kind
    | none => d)
  | .rdv ep index lap => (match d.findCmd ep index lap with
    | some c => (d.reportFault a kind false).cmdDone c status (faultInfo kind 0) 0 0
    | none => d)
  | .result g k i => (match (d.rlGroup g).step k with
    | some s => (match (firstThat s.members (fun m => m.child == i)).bind (fun m => d.findCmd m.ep m.index m.lap) with
      | some c => (d.reportFault a kind false).rlPost c s status (faultInfo kind 0)
      | none => d)
    | none => d)
  | .contrib ep index lap => (match d.findCmd ep index lap with
    | some c => ((d.reportFault a kind false).rlCause (collGroup c.entry) raMemberFault d.node ep true none).cmdDone c
        status (faultInfo kind 0) 0 0
    | none => d)

/-- The ring index of the command that a message belongs to, zero where it belongs to none. -/
def Msg.cmdIndex (m : Msg) : Nat :=
  match m.owner with
  | .cmd _ index _ _ => index
  | .rts _ index _ => index
  | .lockReq _ index _ => index
  | _ => 0

/-- CMD_INDEX of a PAGE_REQUEST at the initiator (R113), and whether the page is a fragment table's. -/
def Dev.stallIndex (d : Dev) (o : XlOwner) : Nat × Bool :=
  match o with
  | .send num => (match d.msg num with
    | some m => (m.cmdIndex, m.table.isSome && m.tableDue)
    | none => (0, false))
  | .again num _ _ => ((d.msg num).elim 0 Msg.cmdIndex, false)
  | .rdv _ index _ => (index, false)
  | .contrib _ index _ => (index, false)
  | .result g k i => (match (d.rlGroup g).step k with
    | some s => ((firstThat s.members (fun m => m.child == i)).elim 0 (fun m => m.index), false)
    | none => (0, false))
  | _ => (0, false)

/-- The message of an owner, if it has one, waits on a page (R110). -/
def Dev.msgStalls (d : Dev) (o : XlOwner) : Dev :=
  match o with
  | .send num | .again num _ _ => (match d.msg num with | some m => d.setMsg { m with phase := .stalled } | none => d)
  | _ => d

/-- An owner stalls on a page: a message stops sending (R110). -/
def Dev.stall (d : Dev) (o : XlOwner) (a : Access) (page : Nat) : Dev :=
  let (index, table) := d.stallIndex o
  (d.msgStalls o).prqStall o a page index table

/-- Resumes of the page's record have been used up (R111). -/
def Dev.retriesUsed (d : Dev) (a : Access) (page : Nat) : Bool :=
  match d.prqFor a.ep page false with
  | some (_, r) => decide (r.state = .resumed) && decide (d.prqRetry ≤ r.resumes + 1)
  | none => false

/-- NOT_PRESENT on a page (R110 to R112, R154). -/
def Dev.ownerMissing (d : Dev) (o : XlOwner) (a : Access) (page : Nat) : Dev :=
  match o with
  | .arrival slot => (match Tbl.get none d.tp.parked slot with
    | some p =>
      let d := d.unpark (some slot)
      if hType p.hdr = tyGetReq ∨ hType p.hdr = tyWnFill then d.getMissing p a page
      else (match d.recFor p.hdr with
        | some r => d.arrivalMissing
            (if r.sig && decide (r.baton = r.msgLen) then { r with state := .signalWait } else r) p a page
        | none => d)
    | none => d)
  | .getResp slot => (match d.parkedMsg slot with
    | some m =>
      let h := (Tbl.get none d.tp.parked slot).elim 0 (fun p => p.hdr)
      let d := d.unpark (some slot)
      if d.retriesUsed a page then d.msgFault m.num a stLocalFault fkNotPresent
      else d.stall (.again m.num (hOffset h) (hPayLen h)) a page
    | none => d.unpark (some slot))
  | .copy num =>
    if a.kind = .read ∨ d.retriesUsed a page then d.ownerEnds (.copy num) a stLocalFault fkNotPresent
    else d.stall o a page
  | _ => if d.retriesUsed a page then d.ownerEnds o a stLocalFault fkNotPresent else d.stall o a page

/-! ### Walk reads (R100, R107, R108) -/

/-- A walk goes on with its next read, under its number. -/
def Dev.contWalk (d : Dev) (w : Walk) (f : Found) (s : WalkStage) : Dev :=
  let (addr, len) := d.stageRead w.fn w.tag f.desc s
  ({ d with xl := { d.xl with
      walks := d.xl.walks ++ [{ w with
        stage := s, leaves := f.leaves, desc := f.desc, keyRaws := f.keyRaws, tables := f.tables, discard := false }] } }).readMem
    w.fn addr len

/-- Look at an owner's access: one of an arriving packet meets the records of the target (R101). -/
def Dev.evalOwned (d : Dev) (o : XlOwner) (a : Access) (f : Found) : XlResult :=
  match o with
  | .arrival _ => d.evalTarget a f
  | _ => d.evalAccess a f

/-- An access is looked at again, from what has been found: it goes on, walks, or faults. Where its walk ends, the caches take what
the walk has read (R100, R102). -/
def Dev.lookAgain (d : Dev) (w : Walk) (mem : Nat) (f : Found) : Dev :=
  match d.evalOwned w.owner w.access f with
  | .ok _ => (d.cacheFound w.tag f).ownerGo w.owner mem f
  | .need s => d.contWalk w f s
  | .fault k => (d.cacheFound w.tag f).ownerEnds w.owner w.access stLocalFault k

/-- Accesses that wait for a page-request record take the free ones, in their order (R110). -/
def Dev.prqFreed (d : Dev) : Dev :=
  forEach d.xl.prqQueue (fun (w : PrqWaiter) d =>
    if d.freePrq.isSome || (d.prqFor w.2.ep (d.missingPage w.2 {}) false).isSome then d.stall w.1 w.2 (d.missingPage w.2 {})
    else { d with xl := { d.xl with prqQueue := d.xl.prqQueue ++ [w] } })
    { d with xl := { d.xl with prqQueue := [] } }

/-- Free a record; what waits for one takes it (R110 to R112). -/
def Dev.freeRec (d : Dev) (id : Nat) : Dev :=
  let ep := (Tbl.get none d.xl.prq id).elim 0 (fun r => r.ep)
  ((d.setPrq id none).owe .prqWake).owe (.epIdle ep)

/-- An initiator walk still runs for a page. -/
def Dev.pageWalks (d : Dev) (ep page : Nat) : Bool :=
  d.xl.walks.any (fun w => w.access.ep == ep && (pagesOf w.access.va w.access.len).any (· == page)
    && (match w.owner with | .arrival _ => false | _ => true))

/-- Resumed initiator records without a running walk are freed (R111). -/
def Dev.freeResumed (d : Dev) : Dev :=
  forEach d.xl.prq (fun (p : Nat × Option PrqRecord) d => match Tbl.get none d.xl.prq p.1 with
    | some r => if r.state = .resumed ∧ !(d.pageWalks r.ep r.page) then d.freeRec p.1 else d
    | none => d) d

/-- The read of a walk returns `data`, or a bus error (R100, R107 to R109). `mem` is what the target memory holds where
the access is an atomic or a signal. -/
def Dev.walkReadDone (d : Dev) (num : Nat) (err : Bool) (data mem : Nat) : Dev :=
  match firstThat d.xl.walks (fun w => w.num == num) with
  | none => d
  | some w =>
    let d := { d with xl := { d.xl with walks := d.xl.walks.filter (fun x => x.num != num) } }
    (if w.discard then d.lookAgain w mem {}
     else if err then d.ownerEnds w.owner w.access stLocalFault fkWalkBus
     else
       match d.walkRead w data with
       | (d, .goOn f) => d.lookAgain w mem f
       | (d, .next f s) => d.contWalk w f s
       | (d, .fault f k) =>
         let d := d.cacheFound w.tag f
         if k = fkNotPresent then d.ownerMissing w.owner w.access (d.missingPage w.access f)
         else d.ownerEnds w.owner w.access stLocalFault k).freeResumed

/-! ### Answers to page requests (R111, R112) -/

/-- A waiting access is looked at again after a resume: it walks anew (R111). -/
def Dev.resumeWaiter (w : PrqWaiter) (d : Dev) : Dev :=
  match d.evalAccess w.2 {} with
  | .ok _ => d.ownerGo w.1 0 {}
  | .need s => (d.msgStalls w.1).addWalk w.1 w.2 {} s
  | .fault k => d.ownerEnds w.1 w.2 stLocalFault k

/-- The PAGE_REQUEST event of a record still waits for a slot of the event ring (R73). -/
def Dev.requestWaits (d : Dev) (ep id : Nat) : Bool :=
  (d.ep ep).elim false (fun c => c.evt.waiting.any (fun w => isPageRequest w.words && field (w.words.getD 2 0) 0 16 == id))

/-- The record an EP_PAGE_DB write names, where the endpoint holds it and it waits for an answer: its event has been posted (R111). -/
def Dev.answered (d : Dev) (ep value : Nat) : Option PrqRecord :=
  if value / 2 ^ 13 ≠ 0 then none
  else match Tbl.get none d.xl.prq (field value 0 12) with
  | some r => if r.ep = ep ∧ r.state = .pending ∧ d.requestWaits ep (field value 0 12) = false then some r else none
  | none => none

/-- EP_PAGE_DB is written with FAIL 0 or 1 (R111, R112). -/
def Dev.pageDoor (d : Dev) (ep value : Nat) : Dev :=
  let id := field value 0 12
  match d.answered ep value with
  | none => d.raise evXlPrqStray (d.fnOf ep)
  | some r =>
    if flag value 12 then
      if r.target then d.setPrq id (some { r with state := .failed, failedAt := d.now })
      else (forEach r.waiters (fun (w : PrqWaiter) d => d.ownerEnds w.1 w.2 stPageFailed 0) d).freeRec id
    else if r.target then d.freeRec id
    else
      (forEach r.waiters Dev.resumeWaiter (d.setPrq id (some { r with state := .resumed, waiters := [] }))).freeResumed

/-- XL_PRQ_TIMEOUT as it acts (R115). -/
def Dev.prqLimit (d : Dev) : Nat := orOne (d.fld rXlPrqTimeout 0 21)

/-- PRQ_TIMEOUT: a record has been held for XL_PRQ_TIMEOUT ticks unanswered (R111, R112). -/
def Dev.prqTimeout (d : Dev) (id : Nat) : Dev :=
  match Tbl.get none d.xl.prq id with
  | none => d
  | some r =>
    if r.state = .failed ∨ d.since r.since < d.prqLimit then d
    else
      let d := d.raise evXlPrqTimeout (d.fnOf r.ep)
      (forEach r.waiters (fun (w : PrqWaiter) d => d.ownerEnds w.1 w.2 stLocalFault fkNotPresent) d).freeRec id

/-- A FAILED target record has been kept for its time and is freed (R112). -/
def Dev.failedExpiry (d : Dev) (id : Nat) : Dev :=
  match Tbl.get none d.xl.prq id with
  | none => d
  | some r => if r.state = .failed ∧ d.ageLimit ≤ d.since r.failedAt then d.freeRec id else d

end Sys2Proof.Machine
end

