-- ==== Sys2Proof/Machine/Accept.lean ====
section
/-! DEFINITION. A command entry arrives on die: its lap bit, its form, its acceptance and its start (R56, R61 to R65, R71,
R75, R515). -/

namespace Sys2Proof.Machine

/-- A malformed entry stops its ring (R75). -/
def Dev.entryMalformed (d : Dev) (ep index reason : Nat) : Dev :=
  (d.stopRing ep reason (some index) true).raise evHqCmdMalformed ep

/-- A bus error on a ring access stops the ring with reason BUS (R75, R69). -/
def Dev.ringBus (d : Dev) (ep : Nat) (index : Option Nat) : Dev := (d.stopRing ep 11 index true).raise evHqRingBus ep

/-- An accepted entry becomes a command: it is consumed, counted by the sampler, and may start (R62, R423, R515). -/
def Dev.admitEntry (d : Dev) (ep : Nat) (c : EpCtx) (entry : Nat) (frags : List Nat) (data : List Byte) : Dev :=
  let index := c.cmd.cons.index
  let cons := c.cmd.cons.advance c.cmd.size 1
  let t0 := (firstThat c.cmd.shownAt (fun s => s.1 ≠ c.cmd.cons)).elim d.st.ns (fun s => s.2)
  let ring := { c.cmd with
    cons := cons, issued := c.cmd.issued - 1, retries := 0, shownAt := c.cmd.shownAt.filter (fun s => s.1 ≠ cons) }
  let cmd : Cmd :=
    { ep := ep, index := index, lap := c.cmd.cons.lap, entry := entry, frags := frags, fetched := d.st.boundaries, data := data }
  let ref : SampleRef :=
    { ep := ep, index := index, lap := c.cmd.cons.lap, desc := entry, ringAddr := c.cmd.base + 64 * index, fn := c.fn,
      t0 := t0, fetched := d.st.ns }
  let d := (d.setEp ep (some { c with cmd := ring })).sampleFetch ref
  ({ d with tp := { d.tp with cmds := d.tp.cmds ++ [cmd] } }).owe (.startCmds ep)

/-- The read of the next command entry of an endpoint returns (R56, R64, R515). An entry that was not asked for changes
nothing. -/
def Dev.acceptEntry (d : Dev) (ep entry : Nat) (frags : List Nat) (data : List Byte) (err : Bool) : Dev :=
  match d.ep ep with
  | none => d
  | some c =>
    let index := c.cmd.cons.index
    if c.cmd.issued = 0 || c.cmd.stale || c.cmd.stopped.isSome || !c.enable || c.fenced.isSome || d.fnFenced c.fn then d
    else if err then d.ringBus ep (some index)
    else if entLap entry != c.cmd.cons.lap then
      if d.fld rHqCtl 0 8 ≤ c.cmd.retries then d.entryMalformed ep index 8
      else d.setEp ep (some { c with cmd := { c.cmd with stale := true } })
    else match entryReason entry c.tcMask (d.collTc ep entry) with
      | some r => d.entryMalformed ep index r
      | none => d.admitEntry ep c entry frags data

/-- A command starts, by its opcode (R61). -/
def Dev.startCmd (d : Dev) (c : Cmd) : Dev :=
  match entOpcode c.entry with
  | 0 => d.startNop c
  | 1 | 2 | 5 => d.startSplit c
  | 3 => d.startSend c
  | 4 => d.startAtomic c
  | 8 | 9 | 0xA | 0xB => d.startLock c
  | 0x10 => d.postRecv c
  | 0x11 => d.cancelRecv c
  | 0x12 => d.setUbuf c
  | 0x13 => d.cancelAll c
  | 0x1B => d.startCollAbort c
  | _ => d.startColl c

/-- Start the next command of a ring that may start, and let running ones make their next message; each start looks
again (R62, R118). -/
def Dev.startNext (d : Dev) (ep : Nat) : Dev :=
  let d := forEach (d.openCmds ep) (fun c d => match d.findCmd c.ep c.index c.lap with
    | some c => if c.phase = .running ∧ (1 ≤ entOpcode c.entry ∧ entOpcode c.entry ≤ 5) then d.feedCmd c else d
    | none => d) d
  match nextStart [] (d.openCmds ep) with
  | some c => (d.startCmd c).owe (.startCmds ep)
  | none => d

end Sys2Proof.Machine
end

