-- ==== Sys2Proof/Machine/Fe.lean ====
section
/-! DEFINITION. What software and time do to the fault collector: forced occurrences, clears, ERR_N, follow-up records, the
SX2560 history queue, and the read-only registers (R402 to R407, R412 to R416). -/

namespace Sys2Proof.Machine

/-- A register write is refused under R8: nothing changes, and the path that carried it learns APPLY_REFUSED. -/
def Dev.refuse (d : Dev) : Dev := d.emit .applyRefused

/-- A register read returns a value. -/
def Dev.answer (d : Dev) (value : Nat) : Dev := d.emit (.regValue value)

/-- The value FE_SRC_CFG takes from a write: EN, SEV and the reactions (R399, R416). -/
def srcCfgValue (old value : Nat) : Nat := setField (setField old 0 3 (field value 0 3)) 4 3 (field value 4 3)

/-- A write of FE_SRC_CFG: refused where it sets SEV to FENCE for a source without a unit; FORCE raises the source with
the values from before the write (R399, R402, R403). -/
def Dev.srcCfgWrite (d : Dev) (n value : Nat) : Dev :=
  if field value 1 2 = 2 ∧ (sourceRow n).unit = .none then d.refuse
  else
    let old := d.srcCfg n
    let d := if flag value 3 then d.occur n 0 true else d
    d.wr rFeSrcCfg (srcCfgValue old value) n

/-- A write of 1 to VALID of FE_LATCH clears VALID, OVF and OVF_COUNT (R404). -/
def Dev.latchClear (d : Dev) (v : Nat) : Dev :=
  d.wr rFeLatch (setField (setField (setField (d.rd rFeLatch v) 63 1 0) 37 1 0) 40 8 0) v

/-- A write of 1 to bits of FE_PEND (R405). -/
def Dev.pendClear (d : Dev) (k mask : Nat) : Dev := d.wr rFePend (clearBits (d.rd rFePend k) mask) k

/-- ERR_N is released: high, or high for 1 us before an owed pulse (R412, R413). -/
def Dev.releasePin (d : Dev) : Dev :=
  { d with fe := { d.fe with pin := if d.fe.repeatOwed then .gap else .high } }

/-- An ERR_N pulse ends (R412). -/
def Dev.errPulseEnd (d : Dev) : Dev :=
  match d.fe.pin with
  | .pulse => if d.fe.hold then { d with fe := { d.fe with pin := .held } } else d.releasePin
  | _ => d

/-- ERR_N has been high for 1 us after an owed release (R413). -/
def Dev.errRepeat (d : Dev) : Dev :=
  match d.fe.pin with
  | .gap => ({ d with fe := { d.fe with repeatOwed := false } }).startPulse
  | _ => d

/-- A write of HOLD of FE_ERR (R412). -/
def Dev.errHold (d : Dev) (hold : Bool) : Dev :=
  let d := { d with fe := { d.fe with hold := hold } }
  match d.fe.pin with
  | .held => if hold then d else d.releasePin
  | _ => d

/-- A write of ASSERT 1 of FE_ERR, with its HOLD (R413). -/
def Dev.errAssert (d : Dev) (hold : Bool) : Dev := (d.errHold hold).errN

/-- FE_ERR as read (R416). -/
def Dev.feErr (d : Dev) : Nat := pack [(1, bit d.fe.hold), (15, 0), (16, d.fe.pulses)]

/-- A read of FE_ERR returns it and clears PULSES (R413, R416). -/
def Dev.errPulsesRead (d : Dev) : Dev := { (d.answer d.feErr) with fe := { d.fe with pulses := 0 } }

/-- At a boundary the records held in the tick become due, and sources send first records anew (R414). -/
def Dev.sinkBoundary (d : Dev) : Dev :=
  let held := d.fe.sinkTick.filterMap (fun (t : SinkTick) => t.held.map (fun (r : DeliveryRecord) => ((t.sink, r) : Sink × DeliveryRecord)))
  { d with fe := { d.fe with sinkTick := [], due := d.fe.due ++ held } }

/-- DELIVERY_FOLLOWUP: a follow-up record leaves at the boundary (R414). -/
def Dev.followUp (d : Dev) : Dev :=
  match d.fe.due with
  | [] => d
  | (s, r) :: rest => ({ d with fe := { d.fe with due := rest } }).sendRecord s r

/-- The word of a history entry (R416). -/
def HistEntry.word (e : HistEntry) : Nat :=
  pack [(9, e.source), (2, e.sev), (1, 0), (20, e.inst), (16, e.tick), (15, 0), (1, 1)]

/-- A read of FE_HIST_POP returns the oldest history entry and removes it (R407). -/
def Dev.histPop (d : Dev) : Dev :=
  match d.fe.hist with
  | e :: rest =>
    if flag (d.rd rFeCtl) 7 then { (d.answer e.word) with fe := { d.fe with hist := rest } } else d.answer 0
  | [] => d.answer 0

/-- Valid fence entries (R409). -/
def Dev.fenceCount (d : Dev) : Nat := countWhere d.fe.fence (fun p => p.2.isSome)

/-- FE_STATUS (R416). -/
def Dev.feStatus (d : Dev) : Nat :=
  let n := d.fenceCount
  let low := match d.fe.pin with | .pulse | .held => true | _ => false
  pack [(1, bit (d.fe.tableOvf || decide (0 < n))), (7, n), (1, bit d.fe.tableOvf), (1, bit d.fe.fatal), (1, bit low),
    (5, 0), (8, d.fe.i3c.length), (32, d.fe.lost)]

/-- FE_FENCE[i] (R416). -/
def Dev.feFence (d : Dev) (i : Nat) : Nat :=
  match Tbl.get none d.fe.fence i with
  | some e => pack [(4, e.kind.code), (20, e.inst), (9, e.source), (1, bit e.byCollector), (29, 0), (1, 1)]
  | none => 0

/-- FE_HIST_STATUS (R407, R416). -/
def Dev.feHistStatus (d : Dev) : Nat := setField (d.rd rFeHistStatus) 0 5 d.fe.hist.length

/-- A write of 1 to VALID of FE_ERR_LATCH; TABLE_OVF clears with it while fewer than 64 entries are in use (R409). -/
def Dev.feErrClear (d : Dev) : Dev :=
  let d := d.wr rFeErrLatch (setField (d.rd rFeErrLatch) 63 1 0)
  if d.fenceCount < 64 then { d with fe := { d.fe with tableOvf := false } } else d

end Sys2Proof.Machine
end

