-- ==== Sys2Proof/Machine/Fec.lean ====
section
/-! DEFINITION. The lane code: PAM4 levels, stuffed pairs, the scrambler, filler blocks and the Reed–Solomon decoder (R269 to
R275). -/

namespace Sys2Proof.Machine

/-! ### Levels and stuffing (R269, R273) -/

/-- The two bits of a level, the first in bit 0 (R269). -/
def levelBits (v : Nat) : Nat :=
  match v with
  | 0 => 0 | 1 => 1 | 2 => 3 | _ => 2

/-- What removing stuffed pairs leaves: symbols, the run at the end, pairs removed, pairs absent. A run of 63 stands for 31 identical
symbols and, behind them, the first symbol of a pair. -/
structure Destuffed where
  symbols : List Nat
  level : Nat
  run : Nat
  pairs : Nat
  missing : Nat
  deriving DecidableEq, Repr

/-- Remove the expected pair after each 31 identical symbols; where it is absent remove nothing (R273). -/
def destuffGo : Nat → Nat → List Nat → List Nat → Nat → Nat → Destuffed
  | v, n, [], acc, p, m => ⟨acc.reverse, v, n, p, m⟩
  | v, n, s :: rest, acc, p, m =>
    if n = 31 ∧ s = (v + 2) % 4 then destuffGo v 63 rest acc p m
    else if n = 31 then destuffGo s (if s = v then 32 else 1) rest (s :: acc) p (m + 1)
    else if n = 63 ∧ s = (v + 1) % 4 then destuffGo s 1 rest acc (p + 1) m
    else if n = 63 then destuffGo s (if s = (v + 2) % 4 then 2 else 1) rest (s :: (v + 2) % 4 :: acc) p (m + 1)
    else destuffGo s (if s = v then n + 1 else 1) rest (s :: acc) p m
def destuff (level run : Nat) (l : List Nat) : Destuffed := destuffGo level run l [] 0 0

/-- A run of levels with stuffed pairs: symbols, the run at the end, and the pairs. -/
structure Stuffed where
  symbols : List Nat
  level : Nat
  run : Nat
  pairs : Nat
  deriving DecidableEq, Repr

/-- Insert the stuffed pair after each 31 identical symbols; its second symbol starts a new run (R273). -/
def stuffGo : Nat → Nat → Nat → List Nat → List Nat → Stuffed
  | v, n, p, [], acc => ⟨acc.reverse, v, n, p⟩
  | v, n, p, s :: rest, acc =>
    let run := if s = v then n + 1 else 1
    if run = 31 then stuffGo ((s + 1) % 4) 1 (p + 1) rest ((s + 1) % 4 :: (s + 2) % 4 :: s :: acc)
    else stuffGo s run p rest (s :: acc)
def stuff (level run : Nat) (l : List Nat) : Stuffed := stuffGo level run 0 l []

/-! ### The scrambler (R271) -/

/-- One step: the state holds the last 31 bits, the newest in bit 0. -/
def scramStep (s : Nat) : Nat × Nat :=
  let b := (bit (flag s 27) + bit (flag s 30)) % 2
  (b, (s * 2 + b) % 2 ^ 31)

/-- XOR `n` bits of a word with the scrambler, bit 0 first. -/
def scramble : Nat → Nat → Nat → Nat × Nat
  | 0, s, _ => (0, s)
  | n + 1, s, w =>
    let (b, s) := scramStep s
    let (r, s') := scramble n s (w / 2)
    ((w % 2 + b) % 2 + 2 * r, s')

/-- The seed of a lane after a filler block (R271). -/
def scramSeed (lane seq : Nat) : Nat := (0x40000000 ||| (lane <<< 8)) ||| seq

/-! ### Filler blocks (R274, R275) -/

/-- CRC-4 of bits, bit 0 first (R274). -/
def crc4 : Nat → Nat → Nat → Nat
  | 0, _, c => c
  | n + 1, w, c =>
    let fb := (w % 2 + c / 8) % 2
    crc4 n (w / 2) (((c * 2) % 16) ^^^ (if fb = 1 then 3 else 0))

/-- The 16 information bits after a comma, where they use levels 1 and 2 only (R274, R275). -/
def infoBits (l : List Nat) : Option Nat :=
  if l.all (fun v => v == 1 || v == 2) then some (l.foldr (fun v n => (v - 1) + 2 * n) 0) else none

/-- The 64 levels of the filler block that a lane index sends (R274). -/
def fillerLevels (lane seq : Nat) : List Nat :=
  let info := lane % 16 + 16 * (seq % 256)
  let bits := info + 4096 * crc4 12 info 0
  List.replicate 40 3 ++ List.replicate 8 0 ++ (upFrom 0 16).map (fun i => 1 + field bits i 1)

/-- Where a comma ends in a list of levels: the place of the last of exactly 8 level-0 symbols that follow 40 or more level-3
symbols and precede a level-1 or level-2 symbol; `threes` and `zeros` count what stands before (R275). -/
def commaEnd : List Nat → Nat → Nat → Nat → Option Nat
  | [], _, _, _ => none
  | v :: rest, i, threes, zeros =>
    if v = 3 then commaEnd rest (i + 1) (if zeros = 0 then threes + 1 else 1) 0
    else if v = 0 then (if 40 ≤ threes then commaEnd rest (i + 1) threes (zeros + 1) else commaEnd rest (i + 1) 0 0)
    else if 40 ≤ threes ∧ zeros = 8 then some (i - 1)
    else commaEnd rest (i + 1) 0 0

/-- What 16 information symbols say: LANE and SEQ, when CHECK is right (R274). -/
def fillerSays (l : List Nat) : Option (Nat × Nat) :=
  match infoBits l with
  | some w => if l.length = 16 ∧ field w 12 4 = crc4 12 w 0 then some (field w 0 4, field w 4 8) else none
  | none => none

/-- The first comma in a list of levels: the place of its anchor, and what the symbols behind it say (R274, R275). -/
def findComma (l : List Nat) : Option (Nat × Option (Nat × Nat)) :=
  (commaEnd l 0 0 0).map (fun i => (i, fillerSays ((l.drop (i + 1)).take 16)))

/-! ### Reed–Solomon RS(272, 256) over GF(2^10) (R272) -/

/-- Product in GF(2^10) modulo x^10 + x^3 + 1. -/
def gfMulGo : Nat → Nat → Nat → Nat
  | 0, _, _ => 0
  | n + 1, a, b =>
    (if b % 2 = 1 then a else 0) ^^^ gfMulGo n (if 512 ≤ a then ((a * 2) % 1024) ^^^ 9 else a * 2) (b / 2)
def gfMul (a b : Nat) : Nat := gfMulGo 10 a b

/-- Powers in GF(2^10), by squaring over 10 bits of the exponent. -/
def gfPowGo : Nat → Nat → Nat → Nat
  | 0, _, _ => 1
  | n + 1, a, e => gfMul (if e % 2 = 1 then a else 1) (gfPowGo n (gfMul a a) (e / 2))
def gfPow (a e : Nat) : Nat := gfPowGo 10 a e

/-- The inverse of a nonzero element. -/
def gfInv (a : Nat) : Nat := gfPow a 1022

/-- A polynomial, constant term first, at a point. -/
def polyAt (p : List Nat) (x : Nat) : Nat := p.foldr (fun c acc => c ^^^ gfMul acc x) 0

/-- The sum of polynomials. -/
def polyAdd : List Nat → List Nat → List Nat
  | [], q => q
  | p, [] => p
  | a :: p, b :: q => (a ^^^ b) :: polyAdd p q

/-- A polynomial times a constant. -/
def polyScale (k : Nat) (p : List Nat) : List Nat := p.map (gfMul k)

/-- The generator polynomial, of roots 2^0 to 2^15, constant term first (R272). -/
def rsGenerator : List Nat := (upFrom 0 16).foldl (fun g j => polyAdd (0 :: g) (polyScale (gfPow 2 j) g)) [1]

/-- The parity of data symbols, as the remainder of their polynomial: highest coefficient first; `gen` is the generator without
its leading 1, highest coefficient first. -/
def rsParity (gen : List Nat) (data : List Nat) : List Nat :=
  data.foldl (fun r s => polyAdd (r.drop 1 ++ [0]) (polyScale (s ^^^ r.headD 0) gen)) (List.replicate 16 0)

/-- A codeword: 256 data symbols and 16 parity symbols (R272). -/
def rsEncode (data : List Nat) : List Nat := data ++ rsParity (rsGenerator.reverse.drop 1) data

/-- Syndrome j of a received word, its first symbol the highest coefficient (R272). -/
def syndrome (r : List Nat) (j : Nat) : Nat := r.foldl (fun acc c => gfMul acc (gfPow 2 j) ^^^ c) 0

/-- The sixteen syndromes. -/
def syndromes (r : List Nat) : List Nat := (upFrom 0 16).map (syndrome r)

/-- The discrepancy of Berlekamp and Massey at step n. -/
def discrepancy (c s : List Nat) (n l : Nat) : Nat :=
  (upFrom 0 (l + 1)).foldl (fun acc i => acc ^^^ gfMul (c.getD i 0) (if i ≤ n then s.getD (n - i) 0 else 0)) 0

/-- Berlekamp and Massey: the error locator, constant term first, and its length. -/
def locatorGo (s : List Nat) : Nat → Nat → List Nat → List Nat → Nat → Nat → Nat → List Nat × Nat
  | 0, _, c, _, l, _, _ => (c, l)
  | k + 1, n, c, b, l, m, bd =>
    let dl := discrepancy c s n l
    if dl = 0 then locatorGo s k (n + 1) c b l (m + 1) bd
    else
      let c' := polyAdd c (List.replicate m 0 ++ polyScale (gfMul dl (gfInv bd)) b)
      if 2 * l ≤ n then locatorGo s k (n + 1) c' c (n + 1 - l) 1 dl
      else locatorGo s k (n + 1) c' b l (m + 1) bd
def locator (s : List Nat) : List Nat × Nat := locatorGo s 16 0 [1] [1] 0 1 1

/-- The first sixteen terms of a product of polynomials. -/
def evaluator (s c : List Nat) : List Nat := (upFrom 0 16).map (fun n => discrepancy c s n n)

/-- The odd terms of a polynomial, as its formal derivative holds them. -/
def derivative (c : List Nat) : List Nat :=
  (upFrom 0 (c.length - 1)).map (fun i => if i % 2 = 0 then c.getD (i + 1) 0 else 0)

/-- The positions in error: first symbol position 0. -/
def errorPlaces (c : List Nat) : List Nat := (upFrom 0 272).filter (fun i => polyAt c (gfPow 2 ((1023 - (271 - i)) % 1023)) == 0)

/-- The value of the error at a position. -/
def errorValue (s c : List Nat) (i : Nat) : Nat :=
  let xInv := gfPow 2 ((1023 - (271 - i)) % 1023)
  gfMul (gfPow 2 (271 - i)) (gfMul (polyAt (evaluator s c) xInv) (gfInv (polyAt (derivative c) xInv)))

/-- A list with positions XORed by values. -/
def xorAt (r : List Nat) (e : List (Nat × Nat)) : List Nat :=
  e.foldl (fun r (p : Nat × Nat) => r.set p.1 (r.getD p.1 0 ^^^ p.2)) r

/-- What decoding a codeword gives: its symbols with the number corrected, or none when it cannot be corrected (R272). -/
def rsDecode (r : List Nat) : Option (List Nat × Nat) :=
  let s := syndromes r
  if s.all (· == 0) then some (r, 0)
  else
    let (c, l) := locator s
    let places := errorPlaces c
    if 8 < l ∨ places.length ≠ l then none
    else
      let fixed := xorAt r (places.map (fun i => (i, errorValue s c i)))
      if (syndromes fixed).all (· == 0) then some (fixed, l) else none

/-- The symbols of a codeword of 1,360 levels: 10 bits each, bit 0 first (R270). -/
def codeSymbols (l : List Nat) : List Nat :=
  (upFrom 0 272).map (fun k => ((l.drop (5 * k)).take 5).foldr (fun v n => levelBits v + 4 * n) 0)

/-- The levels of the symbols of a codeword, bit 0 of each first; the Gray map is its own inverse (R269, R270). -/
def codeLevels (s : List Nat) : List Nat := s.flatMap (fun v => (upFrom 0 5).map (fun k => levelBits (field v (2 * k) 2)))

/-- The 256 data symbols of 2,560 bits (R270). -/
def dataSymbols (bits : Nat) : List Nat := (upFrom 0 256).map (fun k => field bits (10 * k) 10)

/-- The 2,560 data bits of a codeword as one number, bit 0 first. -/
def dataBits (s : List Nat) : Nat := (s.take 256).foldr (fun v n => v + 1024 * n) 0

end Sys2Proof.Machine
end

