-- ==== Sys2Proof/Machine/PlaneBase.lean ====
section
/-! DEFINITION. What the data plane shares: ports, queues, cell accounts and link credit (R201, R226 to R234, R252 to
R254). -/

namespace Sys2Proof.Machine

/-- The number that stands for an internal input where a port is named (R401). -/
def noPort : Nat := 0xFFFFF

/-- The instance of a PORT source that is raised for a frame of an input (R229, R401). -/
def inputInst (i : Nat) : Nat := if i < 304 then i else noPort

/-- Numbers of the shared pool among the limits, and of the bypass channel (R211, R253). -/
def poolChan : Nat := 17
def bypChan : Nat := 16

/-- A fabric port's width in lanes; 0 where no configured port starts (R20). -/
def Dev.portWidth (d : Dev) (p : Nat) : Nat := Tbl.get 0 d.map p

/-- A configured fabric port starts at a number (R20, R201). -/
def Dev.isPort (d : Dev) (p : Nat) : Bool := decide (d.portWidth p ≠ 0)

/-- The fabric port that holds a lane (R20). -/
def Dev.portOfLane (d : Dev) (l : Nat) : Option Nat :=
  firstThat (Tbl.keys d.map) (fun p => decide (p ≤ l) && decide (l < p + d.portWidth p))

/-- A number names the twin port of a device that belongs to a pair (R29, R370). -/
def Dev.isTwin (d : Dev) (p : Nat) : Bool := d.pairEn && p == d.twinPort

/-- Link state of a port. -/
def Dev.lkPort (d : Dev) (p : Nat) : LkPort := Tbl.get {} d.lk.ports p

/-- Store it. -/
def Dev.setLk (d : Dev) (p : Nat) (x : LkPort) : Dev := { d with lk := { d.lk with ports := Tbl.put {} p x d.lk.ports } }

/-- Routing state of a port. -/
def Dev.rtPort (d : Dev) (p : Nat) : RtPort := Tbl.get {} d.rt.ports p

/-- Store it. -/
def Dev.setRt (d : Dev) (p : Nat) (x : RtPort) : Dev := { d with rt := { d.rt with ports := Tbl.put {} p x d.rt.ports } }

/-- A port is up in RT_PORT_UP (R206, R216). -/
def Dev.portUp (d : Dev) (p : Nat) : Bool := flag (d.rd rRtPortUp (p / 64)) (p % 64)

/-- Set or clear a port in RT_PORT_UP. -/
def Dev.setUp (d : Dev) (p : Nat) (up : Bool) : Dev := d.wrFld rRtPortUp (p % 64) 1 (bit up) (p / 64)

/-- The fabric ports that are trained and up, the twin port apart. -/
def Dev.machinePorts (d : Dev) : List Nat := (Tbl.keys d.map).filter (fun p => d.portUp p && !(d.isTwin p))

/-- A CXL port's state. -/
def Dev.cxPort (d : Dev) (k : Nat) : CxPort := Tbl.get {} d.cx.ports k

/-! ### Cells and queues (R226, R230, R231) -/

/-- Cells of a number of bytes (R226). -/
def cellsOf (n : Nat) : Nat := (n + 255) / 256

/-- Cells of a frame. -/
def Frame.cells (f : Frame) : Nat := cellsOf f.bytes

/-- The frames queued for an output and channel, the head first. -/
def Dev.queue (d : Dev) (out chan : Nat) : List Frame :=
  d.tn.frames.filter (fun f => !f.gone && f.output == out && f.chan == chan)

/-- The head of a queue: the first frame that has not started. -/
def Dev.head (d : Dev) (out chan : Nat) : Option Frame := firstThat (d.queue out chan) (fun f => !f.started)

/-- Cells queued for an output and channel. -/
def Dev.queueCells (d : Dev) (out chan : Nat) : Nat := (d.queue out chan).foldl (fun n f => n + f.cells) 0

/-- Cells queued for a fabric port and class, in both channels (R207, R230). -/
def Dev.classCells (d : Dev) (p c : Nat) : Nat := d.queueCells p (2 * c) + d.queueCells p (2 * c + 1)

/-- Mirror reads pending on a stored frame (R231). -/
def Dev.copiesOf (d : Dev) (num : Nat) : Nat :=
  d.tn.sessions.foldl (fun n (s : Nat × TnSession) => n + countWhere s.2.pending (fun c => c.frame == num)) 0

/-- Replace a stored frame. -/
def Dev.setFrame (d : Dev) (f : Frame) : Dev :=
  { d with tn := { d.tn with frames := mapFirst d.tn.frames (fun x => x.num == f.num) (fun _ => f) } }

/-- A stored frame by its number. -/
def Dev.frame (d : Dev) (num : Nat) : Option Frame := firstThat d.tn.frames (fun f => f.num == num)

/-- A read of a stored frame is pending for itself: its output's, or a mirror copy's (R231). -/
def Dev.readPending (d : Dev) (f : Frame) : Bool := !f.gone || decide (0 < d.copiesOf f.num)

/-- Free the cells of frames whose last read has ended; a frame whose cells another one reads stays (R231). -/
def Dev.freeFrames (d : Dev) : Dev :=
  let live := d.tn.frames.filter d.readPending
  { d with tn := { d.tn with
    frames := d.tn.frames.filter (fun f => d.readPending f || live.any (fun g => decide (g.of = some f.num))) } }

/-- The frame at the head of each queue is marked with the tick at which it came there (R214). -/
def Dev.markHeads (d : Dev) : Dev :=
  let isHead (f : Frame) : Bool := !f.gone && !f.started && f.headAt.isNone
    && (match d.head f.output f.chan with | some h => h.num == f.num | none => false)
  { d with tn := { d.tn with frames := mapWhere d.tn.frames isHead (fun f => { f with headAt := some d.now, headLocal := d.st.boundaries, headNs := d.st.ns }) } }

/-! ### Cell accounts (R232 to R235) -/

/-- MIN of an input and class: fabric ports, CXL ports, internal inputs (R232, R248). -/
def Dev.minCells (d : Dev) (i c : Nat) : Nat :=
  if i < 256 then max 16 (d.fld rTnClass 4 8 c)
  else if i < 304 then d.fld rTnClass 12 8 c
  else orOne (d.fld rTnClass 20 8 c)

/-- The inputs in use (R232). -/
def Dev.inputs (d : Dev) : List Nat :=
  Tbl.keys d.map ++ ((upFrom 0 48).filter (fun k => decide (d.cxRole k ≠ 0))).map (· + 256) ++ [304, 305, 306, 307]

/-- All reserved minimums together. -/
def Dev.minSum (d : Dev) : Nat :=
  d.inputs.foldl (fun n i => (upFrom 0 8).foldl (fun n c => n + d.minCells i c) n) 0

/-- The escape floor in cells (R232). -/
def Dev.escFloor (d : Dev) : Nat := 8 * d.map.length

/-- The shared remainder: 786,432 cells less the other pools (R232). -/
def Dev.remainder (d : Dev) : Nat := 786432 - (16384 + d.rlReserve + d.minSum + d.escFloor)

/-- Difference of two 16-bit counters. -/
def diff16 (a b : Nat) : Nat := (a + 65536 - b % 65536) % 65536

/-- RCVD, or SENT, over the adaptive channels (R253). -/
def adaptSum (t : Tbl Nat) : Nat := (upFrom 0 8).foldl (fun n c => n + Tbl.get 0 t (2 * c)) 0 % 65536

/-- OUT of R254: shared units promised to the peer of a port and not yet used. -/
def LkPort.out (x : LkPort) : Nat := diff16 (Tbl.get 0 x.lim poolChan) (adaptSum x.rcvd)

/-- Cells promised by shared credit of a port (R235, R254). -/
def LkPort.promised (x : LkPort) : Nat := (x.out + 1) / 2

/-- What the frames in reception on a port that are not yet routed hold, of a class (R254). -/
def LkPort.rxHeld (x : LkPort) (c : Nat) (g : OpenRx → Nat) : Nat :=
  x.rx.foldl (fun n (e : Nat × Option OpenRx) => match e.2 with
    | some o => if e.1 / 2 == c then n + g o else n
    | none => n) 0

/-- Shared cells promised to a CXL input and class (R235). -/
def Dev.cxPromised (d : Dev) (i c : Nat) : Nat := Tbl.get 0 d.tn.cxPromise (8 * i + c)

/-- F: free cells of the shared remainder, promised cells counting as held (R234, R235). -/
def Dev.freeShared (d : Dev) : Nat :=
  d.remainder - (d.tn.frames.foldl (fun n f => n + f.shared) 0 + d.tn.cxPromise.foldl (fun n (p : Nat × Nat) => n + p.2) 0
    + d.lk.ports.foldl (fun n (p : Nat × LkPort) =>
        n + p.2.promised + (upFrom 0 8).foldl (fun n c => n + p.2.rxHeld c (·.shared)) 0) 0)

/-- The threshold T = floor(alpha × F) of a class (R234). -/
def Dev.threshold (d : Dev) (c : Nat) : Nat := d.freeShared * 2 ^ min 9 (d.fld rTnClass 0 4 c) / 64

/-- Reserved and shared cells that an input and class hold in frames stored or in reception. -/
def Dev.rsvHeld (d : Dev) (i c : Nat) : Nat :=
  d.tn.frames.foldl (fun n f => if f.input == i && f.tc == c then n + f.rsv else n) ((d.lkPort i).rxHeld c (·.rsv))
def Dev.sharedHeld (d : Dev) (i c : Nat) : Nat :=
  d.tn.frames.foldl (fun n f => if f.input == i && f.tc == c then n + f.shared else n) ((d.lkPort i).rxHeld c (·.shared))

/-- Bank groups of the Tun (R226). -/
def bankGroups : Nat := 64

/-- The cells that stored frames have in a bank group (R226, R227). -/
def Dev.bankCells (d : Dev) (b : Nat) : Nat :=
  d.tn.frames.foldl (fun n f =>
    if f.of.isSome then n
    else n + countWhere (upFrom 0 f.cells) (fun i => (f.bank + i) % bankGroups == b)) 0

/-! ### Credit of the sender (R252 to R254) -/

/-- Credit units of a frame of `n` bytes (R252). -/
def unitsOf (n : Nat) : Nat := 2 * cellsOf n

/-- A 16-bit difference read as signed. -/
def sdiff16 (a b : Nat) : Int := signed (diff16 a b) 16

/-- Available credit of the shared pool, and of an escape or the bypass channel (R253). -/
def LkPort.poolCredit (x : LkPort) : Int := sdiff16 (Tbl.get 0 x.limRx poolChan) (adaptSum x.sent)
def LkPort.chanCredit (x : LkPort) (ch : Nat) : Int := sdiff16 (Tbl.get 0 x.limRx ch) (Tbl.get 0 x.sent ch)

/-- A port's peer has credit for a frame of `n` bytes on a channel: an adaptive channel needs HOLD clear too; a frame
larger than an escape reserve needs the whole reserve (R252, R254). -/
def LkPort.credit (x : LkPort) (ch n : Nat) : Bool :=
  x.limSeen &&
  (let rsv : Nat := Tbl.get 0 x.peerRsv ch
   if ch % 2 = 0 then !(flag x.holdRx (ch / 2)) && decide ((unitsOf n : Int) ≤ x.poolCredit)
   else decide ((unitsOf n : Int) ≤ x.chanCredit ch)
      || (decide (rsv < unitsOf n) && decide ((rsv : Int) ≤ x.chanCredit ch) && decide (0 < rsv)))

/-- The adaptive channel of a class shows free credit: for its head frame, or for one cell (R212, R254). -/
def Dev.shows (d : Dev) (p c : Nat) : Bool :=
  (d.lkPort p).credit (2 * c) ((d.head p (2 * c)).elim 1 (·.bytes))

/-- Since when an adaptive channel has shown no free credit (R212). -/
def Dev.noteDry (d : Dev) (p c : Nat) : Dev :=
  let x := d.rtPort p
  let was := Tbl.get none x.dry c
  d.setRt p { x with dry := Tbl.put none c (if d.shows p c then none else some (was.getD d.st.ns)) x.dry }

/-- The same for every class of a port. -/
def Dev.noteDryAll (d : Dev) (p : Nat) : Dev := forEach (upFrom 0 8) (fun c d => d.noteDry p c) d

/-- The adaptive channel of a class is blocked at a port: no free credit for ESC_WAIT times 8 CCLK, 5 ns each (R212). -/
def Dev.blocked (d : Dev) (p c : Nat) : Bool :=
  match Tbl.get none (d.rtPort p).dry c with
  | some t => decide (5 * orOne (d.fld rRtCtl 8 8) ≤ d.st.ns - t)
  | none => false

end Sys2Proof.Machine
end

