-- ==== Sys2Proof/Machine/Transmit.lean ====
section
/-! DEFINITION. What a fabric port sends: frames cut into flits, the flit stream cut into blocks over its lanes, codewords with
their stuffed pairs, and filler blocks (R250, R251, R255, R260, R269 to R274). -/

namespace Sys2Proof.Machine

/-! ### Lanes and ports of the lane layer -/

/-- A lane's state. -/
def Dev.lane (d : Dev) (l : Nat) : LnLane := Tbl.get {} d.ln.lanes l

/-- Store it. -/
def Dev.setLane (d : Dev) (l : Nat) (x : LnLane) : Dev := { d with ln := { d.ln with lanes := Tbl.put {} l x d.ln.lanes } }

/-- What the lane layer keeps for a port. -/
def Dev.lnPort (d : Dev) (p : Nat) : LnPort := Tbl.get {} d.ln.ports p

/-- Store it. -/
def Dev.setLnPort (d : Dev) (p : Nat) (y : LnPort) : Dev := { d with ln := { d.ln with ports := Tbl.put {} p y d.ln.ports } }

/-- The lanes of a port. -/
def Dev.portLanes (d : Dev) (p : Nat) : List Nat := upFrom p (d.portWidth p)

/-! ### The line (R269 to R274) -/

/-- TX_INV of a lane: it sends level 3 − v in place of level v (R269). -/
def Dev.txLevels (d : Dev) (l : Nat) (levels : List Nat) : List Nat :=
  if flag (d.rd rLnTxEq l) 32 then levels.map (fun v => 3 - v) else levels

/-- A block of 320 bytes leaves as a codeword on a lane: scrambled, encoded, mapped to levels and stuffed (R270 to R273). -/
def Dev.sendCodeword (d : Dev) (l : Nat) (block : List Byte) : Dev :=
  let x := d.lane l
  let (bits, scram) := scramble 2560 x.txScram (ofBytes block)
  let u := stuff x.txLevel x.txRun (codeLevels (rsEncode (dataSymbols bits)))
  (d.setLane l { x with
    txScram := scram, txLevel := u.level, txRun := u.run, txPairs := satAdd 0xFFFF x.txPairs u.pairs }).emit
    (.line l (d.txLevels l u.symbols))

/-- Every lane of a port sends a filler block with the same SEQ, after which its scrambler is loaded and its run of symbols
starts anew (R271, R273, R274). -/
def Dev.sendFiller (d : Dev) (p : Nat) : Dev :=
  let y := d.lnPort p
  let d := forEach (upFrom 0 (d.portWidth p)) (fun i (d : Dev) =>
    let l := p + i
    (d.setLane l { d.lane l with txScram := scramSeed i y.txSeq, txLevel := 0, txRun := 0 }).emit
      (.line l (d.txLevels l (fillerLevels i y.txSeq)))) d
  d.setLnPort p { y with txBlocks := 0, txSeq := (y.txSeq + 1) % 256 }

/-- Whole blocks of a port's flit stream leave: block j on lane index j modulo the width, and filler blocks after every 64
codewords of a lane (R270, R274). -/
def Dev.sendBlocks (d : Dev) (p : Nat) : Nat → Dev
  | 0 => d
  | n + 1 =>
    let y := d.lnPort p
    if y.txBytes.length < 320 then d
    else
      let w := max 1 (d.portWidth p)
      let d := d.sendCodeword (p + y.txBlocks % w) (y.txBytes.take 320)
      let d := d.setLnPort p { y with txBytes := y.txBytes.drop 320, txBlocks := y.txBlocks + 1 }
      (if y.txBlocks + 1 = 64 * w then d.sendFiller p else d).sendBlocks p n

/-! ### Flits (R250, R251) -/

/-- A flit joins the flit stream of its port. -/
def Dev.lineFlit (d : Dev) (p w : Nat) : Dev :=
  let y := d.lnPort p
  ((d.emit (.flit p w)).setLnPort p { y with txBytes := y.txBytes ++ toBytes 128 w }).sendBlocks p 1

/-- The word of a flit; payload bytes that belong to no piece are zero (R250, R251). -/
def flitWord (chan : Nat) (cont end_ bad : Bool) (split : Nat) (payload : List Byte) : Nat :=
  pack [(5, chan), (1, bit cont), (1, bit end_), (1, bit bad), (7, split), (1, 0)] + 2 ^ 16 * ofBytes payload

/-- The idle flit (R251). -/
def idleFlit : Nat := 0x1F

/-- The flits of the bytes of a frame that are there, from the first of them on; `left` counts the bytes of the whole frame from
there. The last flit ends the frame; no further frame starts in it as a NEXT piece (R250, R251; DESIGN CHOICE, log entry 193). -/
def dataFlits (chan : Nat) : Nat → Bool → Nat → List Byte → List Nat
  | 0, _, _, _ => []
  | n + 1, cont, left, bytes =>
    if left = 0 then []
    else if left ≤ 126 then
      (if bytes.length < left then [] else [flitWord chan cont true false left (bytes.take left)])
    else if bytes.length < 126 then []
    else flitWord chan cont false false 0 (bytes.take 126) :: dataFlits chan n true (left - 126) (bytes.drop 126)

/-- The bytes that those flits carry. -/
def flitBytes (left there : Nat) : Nat := if left ≤ there then left else min (there / 126) ((left - 1) / 126) * 126

end Sys2Proof.Machine
end

