-- ==== Sys2Proof/Machine/Route.lean ====
section
/-! DEFINITION. Routing: the route header, the node table and its check bits, the choice of a port and a channel, epochs,
shadow commands and congestion scores (R199 to R225, R517). -/

namespace Sys2Proof.Machine

/-! ### The route header (R199) -/

/-- One bit of the CRC-8 of R199. -/
def crc8Bits : Nat → Nat → Nat
  | 0, c => c
  | n + 1, c => crc8Bits n (if 128 ≤ c then ((c * 2) % 256) ^^^ 7 else c * 2)

/-- HCRC over `n` bytes of a word, byte 0 first. -/
def crc8 : Nat → Nat → Nat → Nat
  | 0, _, c => c
  | n + 1, w, c => crc8 n (w / 256) (crc8Bits 8 (c ^^^ (w % 256)))

/-- The HCRC of a route header (R199). -/
def hcrc (w : Nat) : Nat := crc8 7 w 0

/-- Fields of a route header (R199). -/
def rhTc (w : Nat) : Nat := field w 0 3
def rhOrdered (w : Nat) : Bool := flag w 3
def rhRsel (w : Nat) : Nat := field w 4 2
def rhEpoch (w : Nat) : Nat := field w 6 1
def rhNonmin (w : Nat) : Bool := flag w 7
def rhDst (w : Nat) : Nat := field w 8 18
def rhLen (w : Nat) : Nat := field w 32 13
def rhHops (w : Nat) : Nat := field w 48 6

/-- HCRC is correct and the reserved bits are zero (R199, R205). -/
def rhOk (w : Nat) : Bool :=
  decide (field w 56 8 = hcrc w) && decide (field w 26 6 = 0) && decide (field w 45 3 = 0) && decide (field w 54 2 = 0)

/-- A header with its HCRC. -/
def withHcrc (w : Nat) : Nat := setField w 56 8 (hcrc w)

/-- A header as a port transmits a packet in transit: HOPS one higher, HCRC anew (R200). -/
def sentHeader (w : Nat) : Nat := withHcrc (setField w 48 6 (rhHops w + 1))

/-- Payload bytes. -/
def Payload.length : Payload → Nat
  | .none => 0
  | .bytes b => b.length
  | .host _ _ pieces => pieces.foldl (fun n (p : Option Nat × Nat) => n + p.2) 0

/-- PKT_LEN of a packet that an engine builds (R121, R199). -/
def OutPacket.pktLen (p : OutPacket) : Nat := 76 + p.payload.length

/-- The route header that the source device writes; HOPS is 0 (R199, R200, R218). -/
def Dev.sourceHeader (d : Dev) (p : OutPacket) : Nat :=
  withHcrc (pack [(3, p.tc), (1, bit p.ordered), (2, p.rsel), (1, d.rt.epoch), (1, 0), (18, p.node), (6, 0),
    (13, p.pktLen), (11, 0)])

/-! ### Table entries and their check bits (R202, R517) -/

/-- Positions of data bits 0 to 38: the numbers from 3 to 45 that are no power of two. -/
def dataPositions : List Nat :=
  [3, 5, 6, 7, 9, 10, 11, 12, 13, 14, 15, 17, 18, 19, 20, 21, 22, 23, 24, 25, 26, 27, 28, 29, 30, 31, 33, 34, 35, 36, 37,
    38, 39, 40, 41, 42, 43, 44, 45]

/-- The XOR of the positions of the data bits that are 1: the six check bits together. -/
def hamming : List Nat → Nat → Nat
  | [], _ => 0
  | p :: rest, data => (if data % 2 = 1 then p else 0) ^^^ hamming rest (data / 2)

/-- Parity of the low `n` bits of a word. -/
def parity : Nat → Nat → Nat
  | 0, _ => 0
  | n + 1, w => (w % 2 + parity n (w / 2)) % 2

/-- ECC of an entry's 39 bits (R517). -/
def entryEcc (data : Nat) : Nat :=
  let s := hamming dataPositions data
  s + 64 * ((parity 39 data + parity 6 s) % 2)

/-- An entry with its check bits (R202). -/
def withEcc (data : Nat) : Nat := data % 2 ^ 39 + 2 ^ 40 * entryEcc (data % 2 ^ 39)

/-- What reading an entry gives (R517). -/
inductive EntryRead where
  | good (data : Nat)
  | corrected (data : Nat)
  | bad
  deriving DecidableEq, Repr

/-- Read an entry: syndrome and overall parity (R517). -/
def readEntry (w : Nat) : EntryRead :=
  let data := w % 2 ^ 39
  let ecc := field w 40 7
  let s := hamming dataPositions data ^^^ (ecc % 64)
  let p := (parity 39 data + parity 7 ecc) % 2
  if p = 0 then (if s = 0 then .good data else .bad)
  else if 45 < s then .bad
  else match firstThat (upFrom 0 39) (fun i => (dataPositions.getD i 0) == s) with
    | some i => .corrected (data ^^^ 2 ^ i)
    | none => .corrected data

/-- Fields of an entry (R202). -/
def entPort (e k : Nat) : Nat := field e (8 * k) 8
def entNonmin (e k : Nat) : Bool := flag e (32 + k)
def entCount (e : Nat) : Nat := field e 36 2 + 1
def entValid (e : Nat) : Bool := flag e 38

/-! ### Candidates (R206 to R208, R211, R212) -/

/-- A candidate is eligible (R206). -/
def Dev.eligible (d : Dev) (e k : Nat) (nonmin : Bool) : Bool :=
  let p := entPort e k
  d.portUp p && !(flag (d.rd rRtPortExcl (p / 64)) (p % 64)) && !(nonmin && entNonmin e k)

/-- Candidates of an entry in rotation, from RSEL on (R207, R208). -/
def rotation (e rsel : Nat) : List Nat := (upFrom 0 (entCount e)).map (fun i => (rsel % entCount e + i) % entCount e)

/-- The queue depth q(p, c) (R207). -/
def Dev.depth (d : Dev) (p c : Nat) : Nat := min 255 (d.classCells p c / 2 ^ d.fld rRtAdapt 0 4)

/-- The score in use for a port and class (R207, R210). -/
def Dev.score (d : Dev) (p c : Nat) : Nat := if (d.rtPort p).stale then 255 else (d.rtPort p).scores.getD c 0

/-- The cost of a candidate (R207). -/
def Dev.cost (d : Dev) (e k c : Nat) : Nat :=
  let p := entPort e k
  d.depth p c + d.fld rRtAdapt 4 4 * d.score p c / 4 + (if entNonmin e k then d.fld rRtAdapt 8 8 else 0)

/-- The candidate of least cost, the first among equals. -/
def Dev.cheapest (d : Dev) (e c : Nat) : List Nat → Option Nat
  | [] => none
  | k :: rest =>
    match d.cheapest e c rest with
    | none => some k
    | some j => if d.cost e j c < d.cost e k c then some j else some k

/-- Where a packet goes: the candidate, the channel, and whether the escape port is not candidate 0. -/
structure Choice where
  k : Nat
  chan : Nat
  reroute : Bool
  deriving DecidableEq, Repr

/-- Choose among the eligible candidates (R207, R208, R212). -/
def Dev.choose (d : Dev) (e w : Nat) : Option Choice :=
  let c := rhTc w
  let ok := (rotation e (rhRsel w)).filter (fun k => d.eligible e k (rhNonmin w))
  let escape : Option Choice := match lowest (fun k => d.eligible e k (rhNonmin w)) 0 (entCount e) with
    | some k => some (Choice.mk k (2 * c + 1) (decide (k ≠ 0)))
    | none => none
  if rhOrdered w || !(flag (d.rd rRtAdapt) 16) then
    match ok with
    | [] => none
    | k :: _ => if d.blocked (entPort e k) c then escape else some (Choice.mk k (2 * c) false)
  else
    match d.cheapest e c (ok.filter (fun k => !(d.blocked (entPort e k) c))) with
    | some k => some (Choice.mk k (2 * c) false)
    | none => escape

/-! ### The steps of R205 -/

/-- What routing a packet comes to. -/
inductive Routed where
  | here
  | drop (reason : Nat)
  | go (output chan hdr : Nat) (reroute : Bool)
  deriving DecidableEq, Repr

/-- The copy that serves an epoch (R222). -/
def Dev.copyFor (d : Dev) (b : Nat) : Option (Tbl Nat) :=
  if b = d.rt.epoch then some d.rt.active
  else if d.rt.armed.isSome || d.rt.grace.isSome then some d.rt.shadow
  else none

/-- Steps 4 to 7 of R205, with what a table error raises. -/
def Dev.routeOn (d : Dev) (w : Nat) : Routed × Dev :=
  match d.copyFor (rhEpoch w) with
  | none => (.drop 4, d)
  | some t =>
    match readEntry (Tbl.get 0 t (rhDst w)) with
    | .bad => (.drop 3, d.raise evRtTableEccUncorr 0)
    | r =>
      let (e, d) := match r with
        | .corrected e => (e, d.raise evRtTableEcc 0)
        | .good e => (e, d)
        | .bad => (0, d)
      if !(entValid e) then (.drop 3, d)
      else match d.choose e w with
        | none => (.drop 5, d)
        | some c =>
          (.go (entPort e c.k) c.chan (if entNonmin e c.k then setField w 7 1 1 else w) c.reroute, d)

/-- HOP_MAX as it acts (R224). -/
def Dev.hopMax (d : Dev) : Nat := orOne (d.fld rRtCtl 0 6)

/-- Route a packet (R205). -/
def Dev.routeHeader (d : Dev) (w : Nat) : Routed × Dev :=
  if !(rhOk w) then (.drop 1, d)
  else if d.hopMax ≤ rhHops w then (.drop 2, d)
  else if rhDst w = d.node then (.here, d)
  else d.routeOn w

/-- The event of a drop reason of RT_ERR_LATCH. -/
def dropEvent (reason : Nat) : Nat :=
  match reason with
  | 1 => evRtHdrCrc | 2 => evRtHopLimit | 3 => evRtNoRoute | 4 => evRtEpochDrop | 5 => evRtNoLivePort
  | 6 => evRtEscTimeout | _ => evRtRespDiscard

/-- A packet is dropped: RT_ERR_LATCH and its event. `port` is none for a packet of this device's engines (R205, R224). -/
def Dev.rtDrop (d : Dev) (w : Nat) (port : Option Nat) (reason : Nat) : Dev :=
  (d.latch rRtErrLatch (pack [(18, rhDst w), (8, port.getD 0), (4, reason), (1, bit port.isNone)])).raise
    (dropEvent reason) (port.getD noPort)

/-! ### The table through its registers (R203, R219, R220, R224) -/

/-- No switch is armed, no grace runs and no shadow command is in progress (R219). -/
def Dev.rtIdle (d : Dev) : Bool := d.rt.armed.isNone && d.rt.grace.isNone && d.rt.cmd.isNone

/-- A written entry names only ports at which a configured fabric port starts, and not the twin port (R203). -/
def Dev.entryOk (d : Dev) (e : Nat) : Bool :=
  !(entValid e) || (upFrom 0 (entCount e)).all (fun k => d.isPort (entPort e k) && !(d.isTwin (entPort e k)))

/-- NODE of RT_TBL_INDEX, and its increment after an access with AUTO_INC (R224). -/
def Dev.tblNode (d : Dev) : Nat := d.fld rRtTblIndex 0 18
def Dev.tblNext (d : Dev) : Dev :=
  if flag (d.rd rRtTblIndex) 30 then d.wrFld rRtTblIndex 0 18 ((d.tblNode + 1) % 262144) else d

/-- TABLE_WRITE: a write of RT_TBL_DATA (R203, R219). -/
def Dev.tableWrite (d : Dev) (value : Nat) : Dev :=
  let e := value % 2 ^ 39
  let old := Tbl.get 0 d.rt.shadow d.tblNode % 2 ^ 39
  if decide (e ≠ old) && (!d.rtIdle || !(d.entryOk e)) then d.refuse
  else ({ d with rt := { d.rt with shadow := Tbl.put 0 d.tblNode (withEcc e) d.rt.shadow } }).tblNext

/-- The entry that RT_TBL_DATA reaches, as it is stored (R224). -/
def Dev.tblEntry (d : Dev) : Nat := Tbl.get 0 (if flag (d.rd rRtTblIndex) 31 then d.rt.active else d.rt.shadow) d.tblNode

/-- What a read of RT_TBL_DATA shows: an entry with a single-bit error corrected, any other as it is stored (R224, R517). -/
def Dev.tblData (d : Dev) : Nat :=
  match readEntry d.tblEntry with
  | .corrected e => withEcc e
  | _ => d.tblEntry

/-- Reading the entry raises what its check bits show (R517). -/
def Dev.tblChecked (d : Dev) : Dev :=
  match readEntry d.tblEntry with
  | .corrected _ => d.raise evRtTableEcc 0
  | .bad => d.raise evRtTableEccUncorr 0
  | .good _ => d

/-- TABLE_READ: a read of RT_TBL_DATA (R224, R517). -/
def Dev.tableRead (d : Dev) : Dev := (d.tblChecked.answer d.tblData).tblNext

/-! ### Epochs (R218 to R222) -/

/-- A refused write of RT_EPOCH_NEXT (R220). -/
def Dev.epochRefuse (d : Dev) (code : Nat) : Dev :=
  (({ d with rt := { d.rt with refuse := code } }).raise evRtEpochRefused 0).refuse

/-- The code with which a write of RT_EPOCH_NEXT is refused, the first that applies; 0 for one that is accepted (R47,
R220). -/
def Dev.epochCode (d : Dev) (tick : Nat) (arm cancel : Bool) : Nat :=
  if arm then
    (if tick < d.now + 2 then 1
     else if !d.rtIdle then 2
     else if d.st.conserv then 3
     else if d.now + 2 ^ 20 < tick then 4
     else if cancel then 5
     else 0)
  else if cancel then
    (match d.rt.armed with
     | none => 6
     | some n => if n < d.now + 2 then 1 else 0)
  else 0

/-- An accepted write of RT_EPOCH_NEXT arms or disarms the switch (R220). -/
def Dev.epochApply (d : Dev) (tick : Nat) (arm cancel : Bool) : Dev :=
  if arm then ({ d with rt := { d.rt with armed := some tick, refuse := 0 } }).raise evRtEpochArmed 0
  else if cancel then { d with rt := { d.rt with armed := none, refuse := 0 } }
  else d

/-- EPOCH_ARM and EPOCH_CANCEL: a write of RT_EPOCH_NEXT; an accepted one is mirrored to the twin (R220, R373). -/
def Dev.epochWrite (d : Dev) (tick : Nat) (arm cancel : Bool) : Dev :=
  let code := d.epochCode tick arm cancel
  if code ≠ 0 then d.epochRefuse code
  else
    let d := d.epochApply tick arm cancel
    if d.mirroring && (arm || cancel) then d.mirror 4 8 0 (pack [(48, tick), (14, 0), (1, bit cancel), (1, bit arm)]) else d

/-- EPOCH_SWITCH: the armed tick has begun (R221). -/
def Dev.epochSwitch (d : Dev) : Dev :=
  match d.rt.armed with
  | some n =>
    if n ≤ d.now then
      ({ d with rt := { d.rt with
        active := d.rt.shadow, shadow := d.rt.active, epoch := 1 - d.rt.epoch, armed := none, grace := some n,
        long := d.st.conserv, lastSwitch := n } }).raise evRtEpochSwitch 0
    else d
  | none => d

/-- G: 4 ticks, or 16 once conservative mode was seen at a boundary of the grace (R221). -/
def Dev.graceLen (d : Dev) : Nat := if d.rt.long then 16 else 4

/-- The ticks of grace left (R221, R224). -/
def Dev.graceLeft (d : Dev) : Nat :=
  match d.rt.grace with
  | some n => d.graceLen - d.since n
  | none => 0

/-- At each boundary of the grace: conservative mode makes it 16 ticks (R221). -/
def Dev.graceTick (d : Dev) : Dev :=
  if d.rt.grace.isSome && d.st.conserv then { d with rt := { d.rt with long := true } } else d

/-- EPOCH_GRACE_END: the former copy becomes the shadow copy (R221). -/
def Dev.graceEnd (d : Dev) : Dev :=
  match d.rt.grace with
  | some n => if d.graceLen ≤ d.since n then { d with rt := { d.rt with grace := none, long := false } } else d
  | none => d

/-- SHADOW_CLEAR and SHADOW_COPY: a write of RT_SHADOW_CMD (R219). -/
def Dev.shadowCmd (d : Dev) (cmd : Nat) : Dev :=
  if !d.rtIdle then d.refuse else { d with rt := { d.rt with cmd := some cmd } }

/-- An entry with VALID 0, and its check bits anew (R202, R219, R517). -/
def clearedEntry (w : Nat) : Nat := withEcc (setField (w % 2 ^ 39) 38 1 0)

/-- SHADOW_CMD_DONE (R219). -/
def Dev.shadowDone (d : Dev) : Dev :=
  match d.rt.cmd with
  | some 1 =>
    let cleared := forEach (Tbl.keys d.rt.shadow) (fun n (t : Tbl Nat) => Tbl.upd 0 n clearedEntry t) d.rt.shadow
    { d with rt := { d.rt with cmd := none, shadow := cleared } }
  | some 2 => { d with rt := { d.rt with cmd := none, shadow := d.rt.active } }
  | _ => d

/-! ### Congestion scores (R209, R210) -/

/-- This device's score of a class (R209). -/
def Dev.ownScore (d : Dev) (c : Nat) : Nat :=
  let q := d.machinePorts.map (fun p => d.depth p c)
  let hi := q.foldl max 0
  let mean := q.foldl (· + ·) 0 / max 1 q.length
  min 255 ((hi + mean) / 2)

/-- The score message for a port (R209). -/
def Dev.scoreMessage (d : Dev) (p : Nat) : Nat :=
  pack ([(8, 2), (1, d.rt.epoch), (1, bit d.rt.armed.isSome), (6, 0), (8, (d.rtPort p).seqTx), (8, 0)]
    ++ d.rt.own.map (fun s => (8, s)) ++ [(18, d.node), (14, 0)])

/-- A score message leaves on a port (R209). -/
def Dev.sendScore (p : Nat) (d : Dev) : Dev :=
  (d.emit (.bypass p 2 (d.scoreMessage p))).setRt p { d.rtPort p with seqTx := ((d.rtPort p).seqTx + 1) % 256 }

/-- Scores are computed and sent at a boundary, deferred exchanges first, as far as the quota reaches (R48, R49, R209, R510). -/
def Dev.sendScores (d : Dev) : Dev :=
  let d := { d with rt := { d.rt with own := (upFrom 0 8).map d.ownScore } }
  d.portRounds actScore ((Tbl.keys d.map).filter (fun p => d.portUp p)) Dev.sendScore

/-- TYPE and reserved bits of a score message are right (R210). -/
def smOk (w : Nat) : Bool :=
  decide (field w 0 8 = 2) && decide (field w 10 6 = 0) && decide (field w 24 8 = 0) && decide (field w 114 14 = 0)

/-- SCORE_MESSAGE: a score message arrives on a port (R210). -/
def Dev.scoreArrive (d : Dev) (p w : Nat) : Dev :=
  if smOk w then
    let x := d.rtPort p
    let node := field w 96 18
    (d.setRt p { x with
      scores := (upFrom 0 8).map (fun c => field w (32 + 8 * c) 8), since := d.st.boundaries, stale := false,
      node := some node }).raiseIf (match x.node with | some n => n != node | none => false) evRtNeighbourChange p
  else d

/-- SCORE_STALE: a port has delivered no valid score message for 4 local ticks (R210). -/
def Dev.scoreStale (d : Dev) (p : Nat) : Dev :=
  let x := d.rtPort p
  if d.portUp p && !x.stale && decide (4 ≤ d.waited x.since) then
    (d.setRt p { x with stale := true }).raise evRtScoreStale p
  else d

/-! ### Registers (R224) -/

/-- RT_EPOCH_STATUS. -/
def Dev.epochStatus (d : Dev) : Nat :=
  pack [(1, d.rt.epoch), (1, bit d.rt.armed.isSome), (1, bit d.rt.grace.isSome), (5, d.graceLeft), (3, d.rt.refuse),
    (5, 0), (48, d.rt.lastSwitch)]

/-- RT_SCORE_RX and RT_SCORE_NODE of a port, and RT_SCORE_TX. -/
def Dev.scoreRx (d : Dev) (p : Nat) : Nat := pack ((upFrom 0 8).map (fun c => (8, d.score p c)))
def Dev.scoreTx (d : Dev) : Nat := pack (d.rt.own.map (fun s => (8, s)))
def Dev.scoreNode (d : Dev) (p : Nat) : Nat :=
  let x := d.rtPort p
  pack [(18, x.node.getD 0), (12, 0), (1, bit x.stale), (1, bit x.node.isSome)]

end Sys2Proof.Machine
end

