-- ==== Sys2Proof/Machine/Tun.lean ====
section
/-! DEFINITION. The Tun: admission, queues, waits at the internal inputs, drops, mirroring into capture rings, cell errors
and its registers (R226 to R249). -/

namespace Sys2Proof.Machine

/-- A session's state. -/
def Dev.ses (d : Dev) (s : Nat) : TnSession := Tbl.get {} d.tn.sessions s

/-- Store it. -/
def Dev.setSes (d : Dev) (s : Nat) (x : TnSession) : Dev :=
  { d with tn := { d.tn with sessions := Tbl.put {} s x d.tn.sessions } }

/-- Latch a Tun error (R248). -/
def Dev.latchTn (d : Dev) (port reason c : Nat) : Dev := d.latch rTnErrLatch (pack [(9, port), (4, reason), (3, c)])

/-! ### Admission (R234, R235, R254) -/

/-- Cells charged to each pool. -/
structure Charge where
  rsv : Nat
  shared : Nat
  floor : Nat
  deriving DecidableEq, Repr

/-- Cells that the reserved minimum of an input and class still has room for. -/
def Dev.rsvRoom (d : Dev) (i c : Nat) : Nat := d.minCells i c - d.rsvHeld i c

/-- What a refused frame was refused by: the threshold, or what is free of the shared remainder (R234). -/
def Dev.overThreshold (d : Dev) (i c cells : Nat) : Bool := decide (d.threshold c < d.sharedHeld i c + (cells - d.rsvRoom i c))

/-- The charge of a frame: at a fabric input an escape frame takes its reserve and the escape floor, and an adaptive frame
takes shared cells its credit has promised (R235, R254); at a CXL input the reserved minimum, then cells its flow-control credit has
promised (R235); at an internal input the reserved minimum, then the shared remainder within the threshold (R234). -/
def Dev.charge (d : Dev) (input c cells : Nat) (esc : Bool) : Option Charge :=
  let room := d.rsvRoom input c
  let rest := cells - room
  if input < 256 then
    if esc then some ⟨min cells room, 0, rest⟩ else some ⟨0, cells, 0⟩
  else if input < 304 then
    if rest ≤ d.cxPromised input c then some ⟨min cells room, rest, 0⟩ else none
  else if rest = 0 ∨ (d.overThreshold input c cells = false ∧ rest ≤ d.freeShared) then some ⟨min cells room, rest, 0⟩
  else none

/-- A frame of a CXL input uses promised cells (R235). -/
def Dev.usePromise (d : Dev) (i c n : Nat) : Dev :=
  { d with tn := { d.tn with cxPromise := Tbl.upd 0 (8 * i + c) (· - n) d.tn.cxPromise } }

/-- Cells that a CXL input and class may count on at any time, as far as the threshold and F allow: the reserved minimum that is free
and promised cells (R235; DESIGN CHOICE, log entry 186: the specification gives no number). -/
def cxAdvertise : Nat := 16

/-- The flow-control credit of a CXL input and class is advanced (R235). -/
def Dev.cxAdvance (d : Dev) (i c : Nat) : Dev :=
  let have_ := d.cxPromised i c
  let want := cxAdvertise - d.rsvRoom i c - have_
  if want = 0 then d
  else
    let grant := min want (min (d.threshold c - d.sharedHeld i c - have_) d.freeShared)
    { d with tn := { d.tn with cxPromise := Tbl.put 0 (8 * i + c) (have_ + grant) d.tn.cxPromise } }

/-- The same for every class of every CXL port in use. -/
def Dev.cxAdvanceAll (d : Dev) : Dev :=
  forEach ((upFrom 256 48).filter (fun i => decide (d.cxRole (i - 256) ≠ 0)))
    (fun i d => forEach (upFrom 0 8) (fun c d => d.cxAdvance i c) d) d

/-- The threshold refuses a frame: THRESH_HIT once per tick for each input and class (R234). -/
def Dev.thresholdHit (d : Dev) (input c : Nat) : Dev :=
  if d.tn.threshHit.contains (8 * input + c) then d
  else ({ d with tn := { d.tn with threshHit := (8 * input + c) :: d.tn.threshHit } }).raise evTnThreshHit (inputInst input)

/-! ### Mirror copies (R239, R240, R243) -/

/-- The first 12 bytes of the transport header of a stored packet: TYPE, SRC_NODE and DST_EP stand in them. -/
def FrameBody.header : FrameBody → Option Nat
  | .built p => some (p.hdr % 2 ^ 96)
  | .transit b => some (ofBytes (b.take 12))
  | _ => none

/-- The five fields a flow rule compares, laid out as TN_RULE_MATCH (R240, R248). -/
def ruleKey (hdr h : Nat) : Nat :=
  pack [(18, hSrcNode h), (18, rhDst hdr), (3, rhTc hdr), (8, hType h), (16, hDstEp h)]

/-- The lowest-numbered enabled flow rule that a packet matches (R239, R240). -/
def Dev.flowRule (d : Dev) (f : Frame) : Option Nat :=
  match f.body.header with
  | none => none
  | some h => lowest (fun r => flag (d.rd rTnRuleCtl r) 0
      && decide ((ruleKey f.hdr h ^^^ d.rd rTnRuleMatch r) &&& field (d.rd rTnRuleMask r) 0 63 = 0)) 0 256

/-- A session is in service (R248). -/
def Dev.sesEn (d : Dev) (s : Nat) : Bool := flag (d.rd rTnSesCtl s) 0

/-- A copy of a session is lost (R242, R243). -/
def Dev.copyLost (d : Dev) (s n : Nat) : Dev :=
  let x := d.ses s
  (d.setSes s { x with lostNext := satAdd 0xFFFFFFFF x.lostNext n }).wr rTnSesLost
    (satAdd 0xFFFFFFFF (d.rd rTnSesLost s) n) s

/-- Cells that a session's pending copies hold. -/
def Dev.sesCells (d : Dev) (s : Nat) : Nat :=
  (d.ses s).pending.foldl (fun n c => n + (d.frame c.frame).elim 0 (·.cells)) 0

/-- A frame gives a copy to a session (R239, R243). -/
def Dev.addCopy (d : Dev) (s : Nat) (f : Frame) (c : MirrorCopy) : Dev :=
  if !(d.sesEn s) then d
  else if d.fld rTnSesCtl 20 20 s < d.sesCells s + f.cells then (d.copyLost s 1).raise evTnMirrorDrop 0
  else d.setSes s { d.ses s with pending := (d.ses s).pending ++ [c] }

/-- The ingress copy of a frame, decided at admission (R239). -/
def Dev.mirrorIn (d : Dev) (f : Frame) : Dev :=
  let inp := if f.input < 304 then d.rd rTnPortMir f.input else 0
  if flag inp 0 then d.addCopy (field inp 1 2) f ⟨f.num, false, none, f.input, d.st.ns⟩
  else match d.flowRule f with
    | some r => d.addCopy (d.fld rTnRuleCtl 1 2 r) f ⟨f.num, false, some r, f.input, d.st.ns⟩
    | none => d

/-- The egress copy of a frame, decided at admission; a packet for this node has none, for it is routed to no output (R239). -/
def Dev.mirrorOut (d : Dev) (f : Frame) : Dev :=
  let out := if f.output < 304 then d.rd rTnPortMir f.output else 0
  if flag out 3 then d.addCopy (field out 4 2) f ⟨f.num, true, none, f.output, d.st.ns⟩ else d

/-- An admitted frame takes cells of its own in consecutive bank groups, unless it reads those of another frame, and the tail of its
queue (R227, R230, R231). -/
def Dev.place (d : Dev) (f : Frame) : Dev :=
  let cells := if f.of.isSome then 0 else f.cells
  { d with tn := { d.tn with
    frames := d.tn.frames ++ [{ f with num := d.tn.nextNum, bank := d.tn.nextBank }],
    nextNum := d.tn.nextNum + 1, nextBank := (d.tn.nextBank + cells) % bankGroups } }

/-- Free credit of an output's port, and the heads of its queues, are looked at after a change of a queue (R212, R214). -/
def Dev.queueChanged (d : Dev) (out : Nat) : Dev := (if out < 256 then d.noteDryAll out else d).markHeads

/-- Store an admitted frame, with its mirror copies (R230, R239). -/
def Dev.store (d : Dev) (f : Frame) : Dev :=
  let f := { f with num := d.tn.nextNum }
  (((d.place f).mirrorIn f).mirrorOut f).queueChanged f.output

/-- The output read of a frame ends or is cancelled; its cells are freed when no mirror read is pending (R231). -/
def Dev.leave (d : Dev) (f : Frame) : Dev := ((d.setFrame { f with gone := true }).freeFrames).queueChanged f.output

/-- The number that stands for this device's own engines as the output of a packet for this node (R205, R229). -/
def toSelf : Nat := 304

/-! ### Host data of arriving packets (R229) -/

/-- Data of an arriving packet is a frame for its host's CXL port from the packet's own fabric port. It is read as it comes (DESIGN
CHOICE, log entry 187), so that it takes no cells for itself; its egress copy is given. -/
def Dev.hostFrame (d : Dev) (port tc fn : Nat) (pieces : List (Nat × Nat)) (data : List Byte) : Dev :=
  match d.hostPort fn with
  | none => d
  | some k =>
    let f : Frame :=
      { num := d.tn.nextNum, input := port, output := 256 + k, chan := tc, tc := tc, bytes := data.length,
        body := .hostData fn pieces data }
    let d := ((d.place f).mirrorOut f).count (1344 + 4 * k) 1
    (d.count (1344 + 4 * k + 1) data.length).leave f

/-- The same for all such data of the running step. -/
def Dev.hostFrames (d : Dev) : Dev :=
  let moved := d.out.reverse.filterMap (fun o => match o with
    | .hostData p tc fn pieces data => some (p, tc, fn, pieces, data) | _ => none)
  let d := { d with out := d.out.filter (fun o => match o with | .hostData _ _ _ _ _ => false | _ => true) }
  forEach moved (fun (m : Nat × Nat × Nat × List (Nat × Nat) × List Byte) d => d.hostFrame m.1 m.2.1 m.2.2.1 m.2.2.2.1 m.2.2.2.2) d

/-! ### The internal inputs (R215, R229, R236) -/

/-- The internal input of a packet by its TYPE (R229). -/
def inputOf (type : Nat) : Nat :=
  if type = tyAck ∨ type = tyGetResp ∨ type = tyNack ∨ type = tyRlAck ∨ type = tyRlNack ∨ type = tyRlProbeAck then 305
  else if type = tyRlUp ∨ type = tyRlDown ∨ type = tyRlAbort ∨ type = tyRlProbe then 306
  else if type = tyWnFill ∨ type = tyWnWrite then 307
  else 304

/-- The result of a Relay step as it stands in the Tun for another child: a stored RL_DOWN packet of the same group, GEN, step and
offset with the same payload (R184, R231). -/
def Dev.storedResult (d : Dev) (p : OutPacket) : Option Frame :=
  if hType p.hdr ≠ tyRlDown then none
  else firstThat d.tn.frames (fun f => f.of.isNone && (match f.body with
    | .built q => hType q.hdr == tyRlDown && rGroup q.hdr == rGroup p.hdr && rGen q.hdr == rGen p.hdr && rStep q.hdr == rStep p.hdr
        && hOffset q.hdr == hOffset p.hdr && decide (q.payload = p.payload)
    | _ => false))

/-- A built packet is refused room (R234). -/
def Dev.refusedRoom (d : Dev) (input : Nat) (p : OutPacket) : Dev :=
  if d.overThreshold input p.tc (cellsOf p.pktLen) then d.thresholdHit input p.tc else d

/-- A built packet is admitted for an output and channel, with its charge; one that reads a stored Relay result is charged nothing.
None: there is no room (R231, R234). -/
def Dev.admitBuilt (d : Dev) (input out chan hdr : Nat) (p : OutPacket) : Option Dev :=
  let f : Frame :=
    { num := 0, input := input, output := out, chan := chan, tc := p.tc, bytes := p.pktLen, hdr := hdr, body := .built p }
  match d.storedResult p with
  | some r => some (d.store { f with of := some r.num })
  | none => (d.charge input p.tc (cellsOf p.pktLen) (chan % 2 == 1)).map (fun c =>
      d.store { f with rsv := c.rsv, shared := c.shared, floor := c.floor })

/-- Route a packet that an engine built and admit it; one for this node is read at once. False: it is not admitted (R205, R234). -/
def Dev.tryBuilt (d : Dev) (input : Nat) (p : OutPacket) : Bool × Dev :=
  let w := d.sourceHeader p
  match d.routeHeader w with
  | (.drop r, d) => (true, d.rtDrop w none r)
  | (.here, d') =>
    match d'.admitBuilt input toSelf 0 w p with
    | none => (false, d.refusedRoom input p)
    | some e => (true, match e.frame d'.tn.nextNum with | some f => e.leave f | none => e)
  | (.go out chan hdr reroute, d') =>
    match d'.admitBuilt input out chan hdr p with
    | none => (false, d.refusedRoom input p)
    | some e => (true, e.raiseIf reroute evRtEscReroute out)

/-- Packets waiting at an internal input. -/
def Dev.waitsAt (d : Dev) (i : Nat) : List WaitPacket := Tbl.get [] d.tn.waits i

/-- Store them. -/
def Dev.setWaits (d : Dev) (i : Nat) (l : List WaitPacket) : Dev :=
  { d with tn := { d.tn with waits := Tbl.put [] i l d.tn.waits } }

/-- A packet that an engine has built comes to its internal input: it is admitted, or waits there in order (R236). -/
def Dev.sendBuilt (d : Dev) (p : OutPacket) : Dev :=
  let i := inputOf (hType p.hdr)
  let wait (d : Dev) : Dev := (d.setWaits i (d.waitsAt i ++ [WaitPacket.mk p d.now false])).raiseIf (i == 305) evTnRespAdmitWait 0
  if !(d.waitsAt i).isEmpty then wait d
  else match d.tryBuilt i p with
    | (true, d) => d
    | (false, d) => wait d

/-- Admit waiting packets of an input while the Tun takes them. -/
def Dev.drainInput (d : Dev) (i : Nat) : Nat → Dev
  | 0 => d
  | n + 1 =>
    match d.waitsAt i with
    | [] => d
    | w :: rest =>
      match d.tryBuilt i w.p with
      | (true, d) => (d.setWaits i rest).drainInput i n
      | (false, d) => d

/-- The same for the four internal inputs, one input later each time (R234). -/
def Dev.drainInputs (d : Dev) : Dev :=
  let t := d.tn.turn
  forEach (upFrom 0 4) (fun k (d : Dev) => d.drainInput (304 + (t + k) % 4) (d.waitsAt (304 + (t + k) % 4)).length)
    { d with tn := { d.tn with turn := (t + 1) % 4 } }

/-- ADMIT_WAIT: a request, Relay or window packet at the head of an input has waited more than 1 tick (R236). -/
def Dev.admitWait (d : Dev) (i : Nat) : Dev :=
  match d.waitsAt i with
  | w :: rest =>
    if i ≠ 305 ∧ w.raised = false ∧ 1 < d.since w.since then
      (d.setWaits i ({ w with raised := true } :: rest)).raise evTnAdmitWait 0
    else d
  | [] => d

/-- RESP_DISCARD: the oldest response that has waited RESP_WAIT ticks is discarded (R215). -/
def Dev.respDiscard (d : Dev) : Dev :=
  match d.waitsAt 305 with
  | w :: rest =>
    if orOne (d.fld rRtCtl 24 8) ≤ d.since w.since then (d.setWaits 305 rest).rtDrop (d.sourceHeader w.p) none 7 else d
  | [] => d

/-! ### Drops (R214, R216, R246) -/

/-- ESC_TIMEOUT: the packet at the head of an escape channel has waited ESC_TIMEOUT ticks (R214). -/
def Dev.escTimeout (d : Dev) (p c : Nat) : Dev :=
  match d.head p (2 * c + 1) with
  | some f =>
    match f.headAt with
    | some t =>
      if orOne (d.fld rRtCtl 16 8) ≤ d.since t then
        (d.leave f).rtDrop f.hdr (if f.input < 256 then some f.input else none) 6
      else d
    | none => d
  | none => d

/-- Every packet queued for a broken port is dropped; PORT_FLUSH once (R216). A frame that was partly sent is lost. -/
def Dev.flushPort (d : Dev) (p : Nat) : Dev :=
  let mine := d.tn.frames.filter (fun f => !f.gone && f.output == p)
  (forEach mine (fun f d => d.leave f) d).raiseIf (mine.any (fun f => !f.started)) evRtPortFlush p

/-- The mirror copies of a frame that are still to be read are dropped (R245). -/
def Dev.dropCopies (d : Dev) (num : Nat) : Dev :=
  let drop (c : MirrorCopy) : Bool := c.frame == num
  forEach (upFrom 0 4) (fun s (d : Dev) =>
    let n := countWhere (d.ses s).pending drop
    if n = 0 then d
    else (d.setSes s { d.ses s with pending := (d.ses s).pending.filter (fun c => !(drop c)) }).copyLost s n) d

/-! ### Capture (R241 to R244) -/

/-- Slots of a capture ring, and bytes of a slot (R241). -/
def Dev.capSlots (d : Dev) (s : Nat) : Nat := 2 ^ (d.fld rTnSesCtl 10 5 s - d.fld rTnSesCtl 6 4 s)
def Dev.capSlot (d : Dev) (s : Nat) : Nat := 2 ^ d.fld rTnSesCtl 6 4 s

/-- The capture header (R242). -/
def capHeader (f : Frame) (c : MirrorCopy) (slot lost : Nat) (lap : Bool) : List Nat :=
  [pack [(16, min f.bytes (slot - 32)), (1, bit c.egress), (1, bit (decide (slot - 32 < f.bytes))),
      (1, bit (match f.body with | .built _ => false | .transit _ => false | _ => true)), (1, bit c.rule.isSome), (4, 0), (8, c.rule.getD 0),
      (9, c.port), (7, 0), (3, f.tc), (12, 0), (1, bit lap)],
    c.time, pack [(32, f.bytes), (32, lost)], 0]

/-- The frame is a capture write of a session. -/
def Frame.captureOf (f : Frame) (s : Nat) : Bool :=
  match f.body with
  | .capture ses _ _ _ _ _ _ _ => ses == s
  | _ => false

/-- BUSY of a session: its capture write is on its way to the host (R248). -/
def Dev.sesBusy (d : Dev) (s : Nat) : Bool := d.tn.frames.any (fun f => f.captureOf s)

/-- EN of a session falls to 0: its pending copies, and a capture write that has not left, are discarded and counted as lost
(R243). -/
def Dev.sesStop (d : Dev) (s : Nat) : Dev :=
  let d := d.wrFld rTnSesCtl 0 1 0 s
  let n := (d.ses s).pending.length + countWhere d.tn.frames (fun f => f.captureOf s)
  let d := { d with tn := { d.tn with frames := d.tn.frames.filter (fun f => !(f.captureOf s)) } }
  (((d.setSes s { d.ses s with pending := [] }).copyLost s n).freeFrames).markHeads

/-- CAPTURE_COPY: the oldest pending copy of a session takes its turn: its write joins the queue of the host's port in class TC, a
further read of the stored frame; `bus` says that the write is to meet a bus error (R231, R241, R243). -/
def Dev.captureCopy (d : Dev) (s : Nat) (bus : Bool) : Dev :=
  let x := d.ses s
  match x.pending with
  | [] => d
  | c :: rest =>
    match d.frame c.frame, d.hostPort (d.fld rTnSesCtl 1 5 s) with
    | none, _ => d.setSes s { x with pending := rest }
    | some _, none => d
    | some f, some k =>
      if !f.whole || d.sesBusy s then d
      else if ringCount (d.capSlots s) x.cons x.prod = d.capSlots s then
        (((d.setSes s { x with pending := rest }).copyLost s 1).raise evTnCaptureFull 0).freeFrames
      else
        let slot := d.capSlot s
        let header := capHeader f c slot x.lostNext x.prod.lap
        let len := min f.bytes (slot - 32)
        let tc := d.fld rTnSesCtl 15 3 s
        let w : Frame :=
          { num := d.tn.nextNum, input := toSelf, output := 256 + k, chan := tc, tc := tc, bytes := 32 + len, of := some f.num,
            body := .capture s (d.fld rTnSesCtl 1 5 s) (d.rd rTnSesBase s + slot * x.prod.index) header f.hdr f.body len bus }
        ((d.setSes s { x with pending := rest, lostNext := 0 }).place w).queueChanged w.output

/-- A capture write leaves by its host's port: the slot is written and the producer goes on; a bus error stops the session (R241,
R243). -/
def Dev.captureLeaves (d : Dev) (f : Frame) : Dev :=
  match f.body with
  | .capture s fn addr header hdr body len bus =>
    let x := d.ses s
    if bus then (((d.leave f).copyLost s 1).sesStop s).raise evTnCaptureBus 0
    else ((d.emit (.capture s fn addr header hdr body len)).setSes s { x with prod := x.prod.advance (d.capSlots s) 1 }).leave f
  | _ => d

/-- CAPTURE_CONSUMER_WRITE: a write of FN_CAP_CI by a function (R244). -/
def Dev.captureConsumer (d : Dev) (h s value : Nat) : Dev :=
  let x := d.ses s
  let c : Pos := ⟨field value 0 24, flag value 24⟩
  let n := d.capSlots s
  match ringDist n x.cons c, ringDist n x.cons x.prod with
  | some a, some b =>
    if value < 2 ^ 25 ∧ d.fld rTnSesCtl 1 5 s = h ∧ a ≤ b then d.setSes s { x with cons := c }
    else d.raise evTnConfigRefused 0
  | _, _ => d.raise evTnConfigRefused 0

/-! ### Cell errors (R227, R245, R247) -/

/-- A free-list or reference-count check fails (R247). -/
def Dev.cellAccount (d : Dev) (port c : Nat) : Dev := (d.latchTn port 4 c).raise evTnCellAccount 0

/-- A scheduled read waits more than 2 CCLK for its bank group (R227). -/
def Dev.bankWait (d : Dev) (out c : Nat) : Dev := (d.latchTn out 5 c).raise evTnInputCut out

/-! ### Levels and registers (R248, R249) -/

/-- Cells in use in every pool. -/
def Dev.cellsUsed (d : Dev) : Nat :=
  d.tn.frames.foldl (fun n f => if f.of.isSome then n else n + f.cells) 0 + d.stagedCells + d.rlUsed

/-- The output queues above QUEUE_WARN. -/
def Dev.highQueues (d : Dev) : List Nat :=
  let keys := d.tn.frames.foldl (fun (l : List Nat) f =>
    if toSelf ≤ f.output || l.contains (16 * f.output + f.chan) then l else l ++ [16 * f.output + f.chan]) []
  keys.filter (fun k => decide (64 * d.fld rTnWater 16 16 < d.queueCells (k / 16) (k % 16)))

/-- Levels crossed: SHARED_LOW, QUEUE_HIGH, STAGING_HIGH, and the peak (R248, R249). -/
def Dev.levels (d : Dev) : Dev :=
  let low := decide (d.freeShared < 64 * d.fld rTnWater 0 16)
  let high := d.highQueues
  let stage := decide (12288 < d.stagedCells)
  let d' := { d with tn := { d.tn with low := low, high := high, stage := stage } }
  let d' := d'.raiseIf (low && !d.tn.low) evTnSharedLow 0
  let d' := d'.raiseIf (stage && !d.tn.stage) evTnStagingHigh 0
  let d' := forEach (high.filter (fun k => !(d.tn.high.contains k))) (fun k d => d.raise evTnQueueHigh (k / 16)) d'
  d'.wr rTnPeak (max (d'.rd rTnPeak) d'.cellsUsed)

/-- TN_STATUS. -/
def Dev.tnStatus (d : Dev) : Nat :=
  pack [(20, if d.powered then d.freeShared else 0), (20, d.cellsUsed),
    (20, (d.tn.frames.filter (fun f => f.gone && f.of.isNone)).foldl (fun n f => n + f.cells) 0)]

/-- TN_ACCT of an input and class. -/
def Dev.tnAcct (d : Dev) (i c : Nat) : Nat :=
  pack [(8, d.rsvHeld i c), (20, d.sharedHeld i c + (if i < 256 then (d.lkPort i).promised else d.cxPromised i c)),
    (20, if d.powered then d.threshold c else 0)]

/-- TN_QUEUE of an output and channel. -/
def Dev.tnQueue (d : Dev) (o ch : Nat) : Nat := pack [(20, d.queueCells o ch), (20, (d.queue o ch).length)]

/-- TN_SES_PROD of a session. -/
def Dev.sesProd (d : Dev) (s : Nat) : Nat :=
  pack [(24, (d.ses s).prod.index), (1, bit (d.ses s).prod.lap), (1, bit (d.sesBusy s))]

/-- TN_PEAK_READ and SES_LOST_READ: read and clear (R248). -/
def Dev.peakRead (d : Dev) : Dev := (d.answer (d.rd rTnPeak)).wr rTnPeak 0
def Dev.sesLostRead (d : Dev) (s : Nat) : Dev := (d.answer (d.rd rTnSesLost s)).wr rTnSesLost 0 s

end Sys2Proof.Machine
end

