-- ==== Sys2Proof/Machine/Link.lean ====
section
/-! DEFINITION. The link layer: flits and frames in reception, credit, control flits, audits, broken links, link states and
HELLO (R250 to R268). -/

namespace Sys2Proof.Machine

/-! ### Numbers -/

/-- CTL_MIN, HOLDDOWN and CREDIT_TO as they act (R267). -/
def Dev.ctlMin (d : Dev) : Nat := orOne (d.fld rLkCtl 16 8)
def Dev.holddownBase (d : Dev) : Nat := orOne (d.fld rLkCtl 8 8)
def Dev.creditTo (d : Dev) : Nat := max 17 (d.fld rLkCtl 0 8)
/-- The largest OUT (R254, R267). -/
def Dev.sharedAdv (d : Dev) : Nat := min 16384 (d.fld rLkSharedAdv 0 16)

/-- Latch a link error (R267). -/
def Dev.latchLk (d : Dev) (p reason chan : Nat) : Dev := d.latch rLkErrLatch (pack [(8, p), (4, reason), (5, chan)])

/-- Add 16-bit counters. -/
def add16 (a b : Nat) : Nat := (a + b) % 65536

/-- Peer alive: a valid bypass message in this tick or the previous one (R258). -/
def LkPort.alive (x : LkPort) : Bool := x.heard || x.heardBefore

/-! ### Limits of the receiver (R253 to R255) -/

/-- The limit of an escape channel: its reserve beyond what has arrived and is still held (R254). -/
def Dev.escLimit (d : Dev) (p c : Nat) : Nat :=
  add16 (Tbl.get 0 (d.lkPort p).rcvd (2 * c + 1)) (2 * (d.minCells p c - d.rsvHeld p c))

/-- Bypass units in use: a unit is free 64 CCLK, 40 ns, after its flit arrived (R254). -/
def LkPort.bypUsed (x : LkPort) (ns : Nat) : List Nat := x.bypBusy.filter (fun t => decide (ns < t + 40))

/-- Advance the limits of a port as far as its accounts can take (R254). -/
def Dev.advance (d : Dev) (p : Nat) : Dev :=
  let x := d.lkPort p
  let lim := forEach (upFrom 0 8) (fun c (t : Tbl Nat) => Tbl.put 0 (2 * c + 1) (d.escLimit p c) t) x.lim
  let lim := Tbl.put 0 bypChan (add16 (Tbl.get 0 x.rcvd bypChan) (8 - (x.bypUsed d.st.ns).length)) lim
  let grant := min (d.sharedAdv - x.out) (2 * d.freeShared)
  d.setLk p { x with lim := Tbl.put 0 poolChan (add16 (Tbl.get 0 x.lim poolChan) grant) lim }

/-- The HOLD bits a port owes its peer (R254). -/
def Dev.holdBits (d : Dev) (p : Nat) : Nat :=
  pack ((upFrom 0 8).map (fun c => (1, bit (decide (d.threshold c ≤ d.sharedHeld p c + (d.lkPort p).promised)))))

/-- The bytes of a control flit before its CRC (R255). -/
def controlBody (lim : Tbl Nat) (hold : Nat) : Nat :=
  pack ([(16, 0x1E), (16, Tbl.get 0 lim poolChan)] ++ (upFrom 0 8).map (fun c => (16, Tbl.get 0 lim (2 * c + 1)))
    ++ [(16, Tbl.get 0 lim bypChan), (8, hold)])

/-- Send a control flit (R255). -/
def Dev.sendControl (d : Dev) (p : Nat) : Dev :=
  let x := d.lkPort p
  let hold := d.holdBits p
  let body := controlBody x.lim hold
  (d.lineFlit p (body + 2 ^ 992 * crc32c (toBytes 124 body))).setLk p { x with limTx := x.lim, holdTx := hold, flits := 0 }

/-- A limit has advanced by CTL_MIN units since the last control flit, or 255 other flits have left since then (R255). -/
def Dev.controlDue (d : Dev) (p : Nat) : Bool :=
  let x := d.lkPort p
  (poolChan :: bypChan :: (upFrom 0 8).map (fun c => 2 * c + 1)).any
      (fun k => decide (d.ctlMin ≤ diff16 (Tbl.get 0 x.lim k) (Tbl.get 0 x.limTx k)))
    || decide (255 ≤ x.flits)

/-- A flit that is no control flit leaves; a control flit goes before it where 255 others have left since the last one (R251,
R255). -/
def Dev.txFlit (d : Dev) (p w : Nat) : Dev :=
  let d := if (d.lkPort p).state = .up ∧ 255 ≤ (d.lkPort p).flits then d.sendControl p else d
  (d.setLk p { d.lkPort p with flits := (d.lkPort p).flits + 1 }).lineFlit p w

/-- Idle flits leave a port (R251, R255). -/
def Dev.sendIdle (d : Dev) (p : Nat) : Nat → Dev
  | 0 => d
  | n + 1 => (d.txFlit p idleFlit).sendIdle p n

/-- Limits advance and due control flits leave on every port in UP; flow-control credit of the CXL ports advances too (R235). -/
def Dev.advanceAll (d : Dev) : Dev :=
  (forEach (Tbl.keys d.lk.ports) (fun p (d : Dev) =>
    if (d.lkPort p).state = .up then
      let d := d.advance p
      if d.controlDue p then d.sendControl p else d
    else d) d).cxAdvanceAll

/-- A control flit's fixed bytes are zero and its CRC is right (R255, R256). -/
def controlOk (w : Nat) : Bool :=
  decide (field w 0 16 = 0x1E) && decide (field w 184 808 = 0)
    && decide (field w 992 32 = crc32c (toBytes 124 w))

/-- The limits a control flit carries: escape channels, bypass, pool. -/
def controlLimits (w : Nat) : List (Nat × Nat) :=
  (upFrom 0 8).map (fun c => (2 * c + 1, field w (32 + 16 * c) 16)) ++ [(bypChan, field w 160 16), (poolChan, field w 16 16)]

/-- A limit may replace the last one: not behind it, and at most 2^15 ahead of SENT (R256). An escape limit may stand up to 2 units
behind SENT: R254 lets a frame of 34 units start on a reserve of 32 (DEDUCED, log entry 189). -/
def LkPort.limitOk (x : LkPort) (k v : Nat) : Bool :=
  let sent := if k = poolChan then adaptSum x.sent else Tbl.get 0 x.sent k
  (!x.limSeen || decide (diff16 v (Tbl.get 0 x.limRx k) < 32768))
    && (decide (diff16 v sent ≤ 32768) || (decide (k < 16) && decide (diff16 sent v ≤ 2)))

/-- CONTROL_FLIT: a control flit arrives (R255, R256). -/
def Dev.controlArrive (d : Dev) (p w : Nat) : Dev :=
  let x := d.lkPort p
  if x.state ≠ .up then d
  else if !(controlOk w) || !((controlLimits w).all (fun (l : Nat × Nat) => x.limitOk l.1 l.2)) then
    (d.latchLk p 7 0x1E).raise evLkCtlBad p
  else
    let lims := forEach (controlLimits w) (fun (l : Nat × Nat) (t : Tbl Nat) => Tbl.put 0 l.1 l.2 t) x.limRx
    let rsv := if x.limSeen then x.peerRsv else lims
    (d.setLk p { x with limRx := lims, peerRsv := rsv, limSeen := true, holdRx := field w 176 8 }).noteDryAll p

/-! ### Frames in reception (R223, R246, R259) -/

/-- The frame open on a channel of a port. -/
def Dev.openRx (d : Dev) (p ch : Nat) : Option OpenRx := Tbl.get none (d.lkPort p).rx ch

/-- Store it. -/
def Dev.setRx (d : Dev) (p ch : Nat) (o : Option OpenRx) : Dev :=
  let x := d.lkPort p
  d.setLk p { x with rx := Tbl.put none ch o x.rx }

/-- The route header of a frame in reception, and PKT_LEN; PKT_LEN is none before byte 5 has arrived. -/
def OpenRx.hdr (o : OpenRx) : Nat := ofBytes (o.bytes.take 8)
def OpenRx.len (o : OpenRx) : Option Nat := if 8 ≤ o.bytes.length then some (rhLen o.hdr) else none

/-- A received frame is counted (R417). -/
def Dev.countRx (d : Dev) (p : Nat) (o : OpenRx) : Dev :=
  (d.count (320 + 4 * p + 2) 1).count (320 + 4 * p + 3) (o.len.getD 0)

/-! ### Frames in flits (R251, R260) -/

/-- A transmitted frame is counted (R417). -/
def Dev.countTx (d : Dev) (out bytes : Nat) : Dev :=
  let base := if out < 256 then 320 + 4 * out else 1344 + 4 * (out - 256)
  (d.count base 1).count (base + 1) bytes

/-- Bytes of a payload; what stands in host memory is read as the packet leaves (R138). -/
def Payload.data : Payload → List Byte
  | Payload.none => []
  | .bytes b => b
  | .host fn read pieces => pieces.flatMap (fun (p : Option Nat × Nat) =>
      p.1.elim (List.replicate p.2 0) (fun a => (upFrom a p.2).map (Config.hostByte read fn)))

/-- The bytes of a packet behind its route header: transport header, payload and E2E_CRC (R121). -/
def OutPacket.bytes (p : OutPacket) : List Byte :=
  let covered := toBytes 64 p.hdr ++ p.payload.data
  covered ++ toBytes 4 (crc32c covered)

/-- The bytes behind the route header that a fabric frame has in the Tun. -/
def FrameBody.bytes : FrameBody → List Byte
  | .built p => p.bytes
  | .transit b => b
  | _ => []

/-- The route header that leaves: HOPS 0 as a packet leaves its source device, and one more at each device on its way (R199, R200;
DEDUCED, log entry 188). -/
def Frame.sentHdr (f : Frame) : Nat :=
  match f.body with
  | .transit _ => sentHeader f.hdr
  | _ => withHcrc f.hdr

/-- The bytes of a fabric frame that are still to leave, as far as they are there. -/
def Frame.unsent (f : Frame) : List Byte := (toBytes 8 f.sentHdr ++ f.body.bytes).drop f.sent

/-- The flits of what is there of a started frame leave (R223, R251). -/
def Dev.sendFlits (d : Dev) (f : Frame) : Dev :=
  let left := f.bytes - f.sent
  let flits := dataFlits f.chan (left / 126 + 1) (decide (0 < f.sent)) left f.unsent
  (forEach flits (fun w (d : Dev) => d.txFlit f.output w) d).setFrame
    { f with started := true, sent := f.sent + flitBytes left f.unsent.length }

/-- A started frame ends early: a flit with END 1 and BAD 1 on its channel, with the bytes that are there (R260). -/
def Dev.sendBad (d : Dev) (f : Frame) : Dev :=
  let held := f.unsent.take 126
  d.txFlit f.output (flitWord f.chan (decide (0 < f.sent)) true true held.length held)

/-- A fabric frame fails in the Tun: its mirror copies are dropped, and it is dropped, or ended with BAD where an output has started
it (R223, R245, R246). -/
def Dev.spoil (d : Dev) (f : Frame) : Dev :=
  let d := d.dropCopies f.num
  if f.gone then d.freeFrames
  else if f.started && decide (f.output < 256) then (((d.sendBad f).countTx f.output f.bytes)).leave f
  else d.leave f

/-- A CXL frame with its data poisoned; a request without data has none (R245). -/
def CxlFrame.poisoned : CxlFrame → CxlFrame
  | .req port ld tag opcode addr data _ => .req port ld tag opcode addr data data.isSome
  | .rsp host tag _ data => .rsp host tag true data
  | f => f

/-- What a cell error that cannot be corrected does to a frame that reads the cell (R245): data for a host's memory has left as it
came, and a capture write is a mirror read. -/
def Dev.cellSpoils (d : Dev) (f : Frame) : Dev :=
  match f.body with
  | .cxl c => (d.dropCopies f.num).setFrame { f with body := .cxl c.poisoned }
  | .capture s _ _ _ _ _ _ _ => (d.leave f).copyLost s 1
  | .hostData _ _ _ => d.dropCopies f.num
  | _ => d.spoil f

/-- A cell of a stored frame cannot be corrected: every frame that reads it is affected; a packet for this node has no output, so that its
input is named (R231, R245, R401). -/
def Dev.cellUncorr (d : Dev) (num : Nat) : Dev :=
  match d.frame num with
  | none => d
  | some f =>
    let base := f.of.getD f.num
    let readers := d.tn.frames.filter (fun g => g.num == base || decide (g.of = some base))
    let port := if f.output < 304 then f.output else f.input
    let d := (d.latchTn port 1 f.tc).raise evTnCellEccUncorr (inputInst port)
    forEach readers (fun g (d : Dev) => d.cellSpoils g) d

/-- A frame in reception is dropped as bad (R259). -/
def Dev.dropRx (d : Dev) (p ch : Nat) : Dev :=
  match d.openRx p ch with
  | none => d
  | some o =>
    let d := (d.setRx p ch none).countRx p o
    match o.stage with
    | .stored num | .here num => (match d.frame num with | some f => d.spoil f | none => d)
    | _ => d

/-- Channels with a frame in reception. -/
def LkPort.openChans (x : LkPort) : List Nat := Tbl.keys x.rx

/-- A frame in reception without cells: the Tun's frame has them, or they are free. -/
def OpenRx.freed (o : OpenRx) (stage : RxStage) : OpenRx := { o with stage := stage, rsv := 0, shared := 0, floor := 0 }

/-- A frame in reception becomes a stored one for an output, with the cells it was charged (R230, R234). -/
def Dev.storeRx (d : Dev) (p ch : Nat) (o : OpenRx) (out chan hdr : Nat) : Dev :=
  d.store {
    num := 0, input := p, output := out, chan := chan, tc := ch / 2, bytes := rhLen o.hdr, hdr := hdr,
    body := .transit (o.bytes.drop 8), rsv := o.rsv, shared := o.shared, floor := o.floor, whole := false }

/-- Routing takes a frame once its route header and the first 12 bytes of the transport header have arrived, or its end
(R205). Its cells go with it (R254); a packet for this node is stored too, until it is whole. -/
def Dev.routeRx (d : Dev) (p ch : Nat) (o : OpenRx) (ended : Bool) : Dev :=
  if o.stage ≠ .fresh ∨ o.bytes.length < 8 ∨ (o.bytes.length < 20 ∧ ended = false) then d.setRx p ch (some o)
  else
    match d.routeHeader o.hdr with
    | (.here, d) => (d.setRx p ch (some (o.freed (.here d.tn.nextNum)))).storeRx p ch o toSelf 0 o.hdr
    | (.drop r, d) => (d.setRx p ch (some (o.freed .dropped))).rtDrop o.hdr (some p) r
    | (.go out chan hdr reroute, d) =>
      ((d.setRx p ch (some (o.freed (.stored d.tn.nextNum)))).storeRx p ch o out chan hdr).raiseIf reroute evRtEscReroute out

/-- The stored part of a frame grows with it; the flits of a frame that an output has begun leave as their bytes come, and it has
left when it is whole (R223, R228). -/
def Dev.growFrame (d : Dev) (f : Frame) (ended : Bool) : Dev :=
  if f.started && !f.gone then
    let d := (d.setFrame f).sendFlits f
    if ended then (d.countTx f.output f.bytes).leave f else d
  else d.setFrame f

/-- The same for the frame in reception, where it is stored. -/
def Dev.growRx (d : Dev) (o : OpenRx) (ended : Bool) : Dev :=
  match o.stage with
  | .stored num | .here num =>
    (match d.frame num with
     | none => d
     | some f => d.growFrame { f with body := .transit (o.bytes.drop 8), whole := ended } ended)
  | _ => d

/-- A whole frame for this node goes to its engines: its stored frame has been read (R205, R231). -/
def Dev.takeHere (d : Dev) (p ch : Nat) (o : OpenRx) : Dev :=
  match o.stage with
  | .here num =>
    (match d.frame num with | some f => d.leave f | none => d).emit (.toEngines p (ch / 2) (o.bytes.drop 8))
  | _ => d

/-- A piece of a frame arrives in order: LEN_MISMATCH when the frame runs past PKT_LEN or ends short of it; a whole frame
for this node goes to its engines (R205, R259). -/
def Dev.piece (d : Dev) (p ch : Nat) (o : OpenRx) (bytes : List Byte) (ended : Bool) : Dev :=
  let o := { o with bytes := o.bytes ++ bytes }
  let n := o.bytes.length
  let wrong := match o.len with
    | some len => decide (len < n) || (ended && decide (n ≠ len))
    | none => ended
  if wrong then (((d.setRx p ch (some o)).dropRx p ch).latchLk p 8 ch).raise evLkLenMismatch p
  else
    let d := d.routeRx p ch o ended
    match d.openRx p ch with
    | none => d
    | some o =>
      let d := d.growRx o ended
      if ended then ((d.setRx p ch none).countRx p o).takeHere p ch o else d

/-- A frame of `len` bytes that starts on a channel lies within the credit given: a frame larger than an escape reserve needs the
whole reserve (R235, R254). -/
def Dev.withinCredit (d : Dev) (p ch len : Nat) : Bool :=
  let x := d.lkPort p
  let room : Int := if ch % 2 = 0 then sdiff16 (Tbl.get 0 x.limTx poolChan) (adaptSum x.rcvd)
    else sdiff16 (Tbl.get 0 x.limTx ch) (Tbl.get 0 x.rcvd ch)
  let rsv := 2 * d.minCells p (ch / 2)
  decide ((unitsOf len : Int) ≤ room) || (ch % 2 == 1 && decide (rsv < unitsOf len) && decide ((rsv : Int) ≤ room))

/-- A frame starts on a channel: RCVD counts its charge, and one beyond the credit given is found (R235, R253). -/
def Dev.countStart (d : Dev) (p ch len : Nat) : Dev :=
  let x := d.lkPort p
  let d' := d.setLk p { x with rcvd := Tbl.put 0 ch (add16 (Tbl.get 0 x.rcvd ch) (unitsOf len)) x.rcvd }
  if d.withinCredit p ch len then d' else (d'.latchTn p 2 (ch / 2)).raise evTnCreditOverrun p

/-- A frame starts on a channel, and is charged its cells; a frame beyond the credit given is dropped (R235, R253, R254). -/
def Dev.startRx (d : Dev) (p ch : Nat) (bytes : List Byte) (ended : Bool) : Dev :=
  match ({ bytes := bytes : OpenRx }).len with
  | none => d.piece p ch { bytes := [] } bytes ended
  | some len =>
    let charge := (d.charge p (ch / 2) (cellsOf len) (ch % 2 == 1)).getD ⟨0, 0, 0⟩
    let o : OpenRx := if d.withinCredit p ch len then
        { bytes := [], rsv := charge.rsv, shared := charge.shared, floor := charge.floor }
      else { bytes := [], stage := .dropped }
    (d.countStart p ch len).piece p ch o bytes ended

/-- A frame starts and ends as bad in one flit: it is counted and dropped (R253, R259, R260). -/
def Dev.startBad (d : Dev) (p ch : Nat) (bytes : List Byte) : Dev :=
  let o : OpenRx := { bytes := bytes }
  ((o.len.elim d (fun len => d.countStart p ch len)).countRx p o).raise evLkBadMarked p

/-- Fields of a flit header (R250). -/
def flChan (w : Nat) : Nat := field w 0 5
def flCont (w : Nat) : Bool := flag w 5
def flEnd (w : Nat) : Bool := flag w 6
def flBad (w : Nat) : Bool := flag w 7
def flSplit (w : Nat) : Nat := field w 8 7
def flNext (w : Nat) : Bool := flag w 15

/-- A data flit's header is well formed (R250, R251). -/
def flitOk (w : Nat) : Bool :=
  if flEnd w then decide (flSplit w ≤ 126) && (decide (flSplit w ≠ 0) || flBad w) && (!(flNext w) || decide (flSplit w ≤ 118))
  else !(flBad w) && decide (flSplit w = 0) && !(flNext w)

/-- Every frame open on a port is ended as bad: a flit that fails touches them all (R259). -/
def Dev.badFlit (d : Dev) (p : Nat) : Dev :=
  let chans := (d.lkPort p).openChans
  (((forEach chans (fun ch d => d.dropRx p ch) d).raise evLkFlitBad p)).raiseIf (!chans.isEmpty) evLkFrameCut p

/-- The rows of R259 for a data flit, once a frame is open. -/
def Dev.dataPieces (d : Dev) (p w : Nat) (o : OpenRx) : Dev :=
  let ch := flChan w
  let payload := (toBytes 128 w).drop 2
  if flEnd w then
    let d := if flBad w then ((d.setRx p ch (some o)).dropRx p ch).raise evLkBadMarked p
      else d.piece p ch o (payload.take (flSplit w)) true
    if flNext w then d.startRx p ch (payload.drop (flSplit w)) false else d
  else d.piece p ch o payload false

/-- A data flit arrives (R259): `failed` says that the lane layer marks it as failing correction; a port that is not in UP takes
no frames. A frame's last bytes in a flit without END 1 may not run past PKT_LEN; padding follows only a piece that ends. -/
def Dev.dataFlit (d : Dev) (p w : Nat) (failed : Bool) : Dev :=
  let ch := flChan w
  if failed || decide (16 ≤ ch) || !(flitOk w) then d.badFlit p
  else if (d.lkPort p).state ≠ .up then d
  else if flCont w then
    match d.openRx p ch with
    | none =>
      if (d.lkPort p).orphan then d
      else (d.setLk p { d.lkPort p with orphan := true }).raise evLkOrphanFlit p
    | some o => (d.setLk p { d.lkPort p with orphan := false }).dataPieces p w o
  else
    let d := d.setLk p { d.lkPort p with orphan := false }
    let d := match d.openRx p ch with
      | some _ => (d.dropRx p ch).raise evLkFrameCut p
      | none => d
    let payload := (toBytes 128 w).drop 2
    if flEnd w then
      let d := if flBad w then d.startBad p ch (payload.take (flSplit w)) else d.startRx p ch (payload.take (flSplit w)) true
      if flNext w then d.startRx p ch (payload.drop (flSplit w)) false else d
    else d.startRx p ch payload false

/-! ### Broken links and link states (R263 to R266) -/

/-- A port enters TRAINING, and its lanes hunt; lanes that stand aligned are reported at once (R265, R276, R282). That a peer was
heard is kept, for R258 counts ticks in every state. -/
def Dev.enterTraining (d : Dev) (p : Nat) : Dev :=
  let y : LnPort := Tbl.get {} d.ln.ports p
  let lanes := forEach (upFrom p (d.portWidth p)) (fun l (t : Tbl LnLane) =>
    Tbl.upd {} l (fun (x : LnLane) => if x.state = .off then { x with state := .hunt } else x) t) d.ln.lanes
  let d := { d with ln := { d.ln with
    lanes := lanes, ports := Tbl.put {} p { y with since := d.st.boundaries, timeout := false } d.ln.ports } }
  d.setLk p { d.lkPort p with
    state := if y.aligned then .hello else .training, seen := false, silent := 0 }

/-- The port's queues are flushed, frames in reception cut, and its counters and bypass buffer discarded (R246, R264). -/
def Dev.stopPort (d : Dev) (p : Nat) : Dev :=
  let d := (d.setUp p false).flushPort p
  let chans := (d.lkPort p).openChans
  let d := forEach chans (fun ch (d : Dev) => ((d.dropRx p ch).latchTn p 3 (ch / 2)).raise evTnInputCut p) d
  let x := d.lkPort p
  (d.setLk p { x with
    sent := [], rcvd := [], limRx := [], lim := [], limTx := [], peerRsv := [], limSeen := false, holdRx := 0, holdTx := 0,
    flits := 0, starved := 0, starveRun := [], rx := [], orphan := false, bypBusy := [], bypQueue := [], auditRun := 0 }).noteDryAll p

/-- The event of a cause of R263, where it has one of its own in this block. -/
def breakEvent (reason : Nat) : Option Nat :=
  match reason with
  | 3 => some evLkPeerSilent | 4 => some evLkAuditPersist | 5 => some evLkCreditTimeout | _ => none

/-- A class has been starved at CREDIT_TO boundaries while the peer is alive (R263). -/
def Dev.starvedLong (d : Dev) (p : Nat) : Bool :=
  (d.lkPort p).alive && (upFrom 0 8).any (fun c => decide (d.creditTo ≤ Tbl.get 0 (d.lkPort p).starveRun c))

/-- The lowest rank among a cause and those that hold with it (R263). -/
def Dev.rankOf (d : Dev) (p reason : Nat) : Nat :=
  let x := d.lkPort p
  if x.state ≠ .up then reason
  else min reason (if 4 ≤ x.silent then 3 else if 4 ≤ x.auditRun then 4 else if d.starvedLong p then 5 else 6)

/-- A further cause in the tick in which a port was declared broken: the lowest rank gives the reason (R263). -/
def Dev.reRank (d : Dev) (p reason : Nat) : Dev :=
  let x := d.lkPort p
  let d := if d.rd rLkErrLatch = pack [(8, p), (4, x.reason), (5, 0)] + 2 ^ 63 then d.wrFld rLkErrLatch 8 4 (min reason x.reason) else d
  d.setLk p { x with reason := min reason x.reason, held := x.held || reason == 1 }

/-- Declare a port broken (R263, R264). A port in DISABLED stays there, and is held when it is fenced. -/
def Dev.breakPort (d : Dev) (p reason : Nat) : Dev :=
  let x := d.lkPort p
  if x.state = .disabled then d.setLk p { x with held := x.held || reason == 1 }
  else if x.state = .broken ∧ d.waited x.brokenAt = 0 then d.reRank p reason
  else
    let rank := d.rankOf p reason
    let flap := decide (x.state = .up) && decide (d.waited x.upAt ≤ 1024)
    let cur := if x.holddown = 0 then d.holddownBase else x.holddown
    let cur := if flap then min 1024 (2 * cur) else cur
    let d := d.stopPort p
    let d := d.setLk p { d.lkPort p with
      state := .broken, reason := rank, brokenAt := d.st.boundaries, holddown := cur, held := x.held || reason == 1 }
    let d := (d.latchLk p rank 0).raise evLkLinkBroken p
    let d := match breakEvent rank with | some e => d.raise e p | none => d
    let d := d.raiseIf flap evLkLinkFlap p
    if d.isTwin p then { d with tw := { d.tw with broken := true } } else d

/-- A port that is training, in HELLO or in UP is declared broken. -/
def Dev.breakLive (d : Dev) (p reason : Nat) : Dev :=
  match (d.lkPort p).state with
  | .training | .hello | .up => d.breakPort p reason
  | _ => d

/-- A port enters UP (R253, R265). -/
def Dev.enterUp (d : Dev) (p : Nat) : Dev :=
  let x := d.lkPort p
  let d := d.setLk p { x with
    state := .up, upAt := d.st.boundaries, sent := [], rcvd := [], limRx := [], lim := [], limTx := [], peerRsv := [],
    limSeen := false, holdRx := 0, flits := 0, starved := 0, starveRun := [], rx := [], orphan := false, bypBusy := [],
    bypQueue := [], auditRun := 0, silent := 0 }
  let d := d.setRt p { d.rtPort p with since := d.st.boundaries }
  let d := (((d.advance p).sendControl p).setUp p true).raise evLkLinkUp p
  let d := d.noteDryAll p
  if d.isTwin p then { d with tw := { d.tw with broken := false } } else d

/-- Bytes of a HELLO (R266). -/
def Dev.helloBody (d : Dev) (p : Nat) : Nat :=
  let x := d.lkPort p
  pack [(8, 4), (1, bit x.seen), (7, 0), (8, x.helloSeq), (8, d.portWidth p), (18, d.node), (14, 0), (8, p)]

/-- Send a HELLO (R266). -/
def Dev.sendHello (d : Dev) (p : Nat) : Dev :=
  let x := d.lkPort p
  (d.emit (.bypass p 4 (d.helloBody p))).setLk p { x with helloSeq := (x.helloSeq + 1) % 256 }

/-- TYPE and reserved bits of a HELLO are right (R266). -/
def helloOk (w : Nat) : Bool :=
  decide (field w 0 8 = 4) && decide (field w 9 7 = 0) && decide (field w 50 14 = 0) && decide (field w 72 56 = 0)

/-- HELLO: a HELLO arrives (R265, R266). -/
def Dev.helloArrive (d : Dev) (p w : Nat) : Dev :=
  let x := d.lkPort p
  if x.state ≠ .hello ∨ helloOk w = false then d
  else if field w 24 8 ≠ d.portWidth p ∨ field w 32 18 = d.node then d.raise evLkHelloMismatch p
  else
    let d := d.setLk p { x with seen := true, heard := true, peerNode := field w 32 18, peerPort := field w 64 8 }
    if flag w 8 then d.enterUp p else d.sendHello p

/-- Leave DISABLED when LK_PORT_CTL lets the port train: DOWN, and at once TRAINING; a fenced port stays BROKEN (R264,
R265). Its lanes begin with a filler block, which seeds their scramblers (R271; DESIGN CHOICE, log entry 191). -/
def Dev.leaveDisabled (d : Dev) (p : Nat) : Dev :=
  let x := d.lkPort p
  if x.state = .disabled ∧ flag (d.rd rLkPortCtl p) 0 ∧ flag (d.rd rLkPortCtl p) 2 = false ∧ d.isPort p then
    if x.held then d.setLk p { x with state := .broken } else (d.sendFiller p).enterTraining p
  else d

/-- A port goes to DISABLED after the actions of R264: no cause of R263 gives them a reason, so that REASON is 0 (DESIGN CHOICE, log
entry 91). Its lanes go off, or into the PRBS its registers select (R265, R276, R283). -/
def Dev.enterDisabled (d : Dev) (p : Nat) : Dev :=
  if (d.lkPort p).state = .disabled then d
  else
    let d := d.stopPort p
    let lanes := forEach (upFrom p (d.portWidth p)) (fun l (t : Tbl LnLane) =>
      let prbs := field (d.rd rLnPrbsCtl l) 0 2 == 1 || field (d.rd rLnPrbsCtl l) 0 2 == 2
        || field (d.rd rLnPrbsCtl l) 2 2 == 1 || field (d.rd rLnPrbsCtl l) 2 2 == 2
      Tbl.put {} l ({ state := if prbs then .prbs else .off } : LnLane) t) d.ln.lanes
    let d := { d with ln := { d.ln with lanes := lanes, ports := Tbl.put {} p {} d.ln.ports } }
    let d := d.setLk p { d.lkPort p with state := .disabled, seen := false }
    let d := (d.latchLk p 0 0).raise evLkLinkBroken p
    if d.isTwin p then { d with tw := { d.tw with broken := true } } else d

/-- PORT_ENABLE, PORT_HOLD: a write of ENABLE or HOLD of LK_PORT_CTL, refused where no configured port starts (R265,
R267). -/
def Dev.portCtl (d : Dev) (p bit_ : Nat) (v : Bool) : Dev :=
  if !(d.isPort p) then d.refuse
  else
    let d := d.wrFld rLkPortCtl bit_ 1 (bit v) p
    if !(flag (d.rd rLkPortCtl p) 0) || flag (d.rd rLkPortCtl p) 2 then d.enterDisabled p else d.leaveDisabled p

/-- PORT_RETRAIN (R263, R264). -/
def Dev.portRetrain (d : Dev) (p : Nat) : Dev := if d.isPort p then d.breakLive p 6 else d.refuse

/-- The holddown a port now has; a port that has never left DISABLED has none (R264, R267). -/
def Dev.holddownNow (d : Dev) (p : Nat) : Nat :=
  let x := d.lkPort p
  if x.holddown ≠ 0 then x.holddown else if x.state = .disabled then 0 else d.holddownBase

/-- HOLDDOWN_END (R264). -/
def Dev.holddownEnd (d : Dev) (p : Nat) : Dev :=
  let x := d.lkPort p
  if x.state = .broken ∧ x.held = false ∧ d.holddownNow p ≤ d.waited x.brokenAt then d.enterTraining p else d

/-- Fault handling releases a fenced port: it retrains (R264, R408). -/
def Dev.releasePort (d : Dev) (p : Nat) : Dev :=
  let x := d.lkPort p
  let d := d.setLk p { x with held := false }
  if x.state = .broken ∧ x.held then d.enterTraining p else d

/-! ### Audits and causes (R258, R261 to R263) -/

/-- A credit audit with its SEQ, as it enters the flit stream (R261). -/
def Dev.auditBody (d : Dev) (p seq : Nat) : Nat :=
  pack ([(8, 3), (8, 0), (8, seq), (8, 0)] ++ (upFrom 0 17).map (fun c => (16, Tbl.get 0 (d.lkPort p).sent c))
    ++ [(16, 0), (16, d.now % 65536)])

/-- An audit of a port is due: only its SEQ stands yet, for its snapshot is taken as its flit enters the flit stream (R261). -/
def Dev.sendAudit (p : Nat) (d : Dev) : Dev :=
  let x := d.lkPort p
  (d.emit (.bypass p 3 x.auditSeq)).setLk p { x with auditSeq := (x.auditSeq + 1) % 256 }

/-- The audits of a boundary, deferred ones first, as far as the quota reaches (R48, R49, R261, R510). -/
def Dev.sendAudits (d : Dev) : Dev :=
  d.portRounds actAudit ((Tbl.keys d.lk.ports).filter (fun p => decide ((d.lkPort p).state = .up))) Dev.sendAudit

/-- TYPE and reserved bytes of an audit are right (R261). -/
def auditOk (w : Nat) : Bool :=
  decide (field w 0 16 = 3) && decide (field w 24 8 = 0) && decide (field w 304 16 = 0) && decide (field w 336 176 = 0)

/-- CREDIT_AUDIT: an audit arrives and absorbs differences of at most 2^15 (R262). -/
def Dev.auditArrive (d : Dev) (p w : Nat) : Dev :=
  let x := d.lkPort p
  if x.state ≠ .up ∨ auditOk w = false then d
  else
    let sent (c : Nat) : Nat := field w (32 + 16 * c) 16
    let differs := (upFrom 0 17).any (fun c => decide (sent c ≠ Tbl.get 0 x.rcvd c))
    let absorbs := (upFrom 0 17).any (fun c => decide (sent c ≠ Tbl.get 0 x.rcvd c)
      && decide (diff16 (sent c) (Tbl.get 0 x.rcvd c) ≤ 32768))
    let absorb (c : Nat) (t : Tbl Nat) : Tbl Nat :=
      if diff16 (sent c) (Tbl.get 0 x.rcvd c) ≤ 32768 then Tbl.put 0 c (sent c) t else t
    (d.setLk p { x with
      rcvd := forEach (upFrom 0 17) absorb x.rcvd, auditRun := if differs then min 7 (x.auditRun + 1) else 0,
      heard := true }).raiseIf absorbs evLkAuditMismatch p

/-- AUDIT_PERSIST, PEER_SILENT and CREDIT_TIMEOUT (R263). -/
def Dev.auditPersist (d : Dev) (p : Nat) : Dev :=
  if (d.lkPort p).state = .up ∧ 4 ≤ (d.lkPort p).auditRun then d.breakPort p 4 else d
def Dev.peerSilent (d : Dev) (p : Nat) : Dev :=
  if (d.lkPort p).state = .up ∧ 4 ≤ (d.lkPort p).silent then d.breakPort p 3 else d
def Dev.creditTimeout (d : Dev) (p : Nat) : Dev :=
  if (d.lkPort p).state = .up ∧ d.starvedLong p then d.breakPort p 5 else d

/-! ### Registers (R267) -/

/-- LK_STATUS, LK_PORT_STATE and LK_CHAN_STATE. -/
def Dev.lkStatus (d : Dev) : Nat :=
  let n (s : LkState) : Nat := countWhere d.lk.ports (fun (p : Nat × LkPort) => decide (p.2.state = s))
  pack [(9, n .up), (9, n .broken), (12, d.escFloor)]
def Dev.lkPortState (d : Dev) (p : Nat) : Nat :=
  let x := d.lkPort p
  pack [(3, x.state.code), (4, x.reason), (1, bit x.alive), (18, x.peerNode), (8, x.peerPort), (3, x.auditRun),
    (8, x.starved), (8, x.holdRx), (11, d.holddownNow p)]
def Dev.lkChanState (d : Dev) (p ch : Nat) : Nat :=
  let x := d.lkPort p
  let k := if ch < 16 ∧ ch % 2 = 0 then poolChan else ch
  pack [(16, Tbl.get 0 x.sent ch), (16, Tbl.get 0 x.limRx k), (16, Tbl.get 0 x.rcvd ch), (16, Tbl.get 0 x.limTx k)]

end Sys2Proof.Machine
end

