-- ==== Sys2Proof/Machine/Lanes.lean ====
section
/-! DEFINITION. The serial lanes: alignment, filler blocks and rate matching, codewords, references, PRBS and lane faults
(R269 to R286). -/

namespace Sys2Proof.Machine

/-- Latch a lane error (R285). -/
def Dev.latchLn (d : Dev) (l reason : Nat) : Dev := d.latch rLnErrLatch (pack [(8, l), (4, reason)])

/-- The port that holds a lane, as an event names it. -/
def Dev.lanePort (d : Dev) (l : Nat) : Nat := (d.portOfLane l).getD noPort

/-! ### Alignment (R276, R277) -/

/-- A port that was reported aligned is no longer: the link layer breaks it with reason LANES, or takes that reason for a break of
the same tick (R263, R277). -/
def Dev.portUnaligned (d : Dev) (p : Nat) : Dev :=
  if (d.lnPort p).aligned then
    let d := d.setLnPort p { d.lnPort p with aligned := false }
    match (d.lkPort p).state with
    | .hello | .up => d.breakPort p 2
    | .broken => if d.waited (d.lkPort p).brokenAt = 0 then d.reRank p 2 else d
    | _ => d
  else d

/-- A lane loses alignment (R276). -/
def Dev.loseLane (d : Dev) (l : Nat) : Dev :=
  let x := d.lane l
  if x.state = .aligned then
    let d := d.setLane l { x with state := .hunt, comma := none, missed := 0, syms := [], blocks := [] }
    let d := (d.latchLn l 1).raise evLnAlignLost (d.lanePort l)
    match d.portOfLane l with | some p => d.portUnaligned p | none => d
  else d

/-- The LANE fields received on a port are distinct and below its width (R277). -/
def Dev.laneIdsOk (d : Dev) (p : Nat) : Bool :=
  let ids := (d.portLanes p).map (fun l => (d.lane l).lane)
  ids.all (fun i => decide (i < d.portWidth p)) && (upFrom 0 (d.portWidth p)).all (fun i => ids.contains i)

/-- The lag of a lane behind the earliest of its port, in symbols (R277, R285). -/
def Dev.laneSkew (d : Dev) (l : Nat) : Nat :=
  match d.portOfLane l with
  | none => 0
  | some p =>
    (d.lane l).arrived - (d.portLanes p).foldl (fun n k => min n (d.lane k).arrived) (d.lane l).arrived

/-- 80 ns in symbols at 108.8 GBd (R269, R277). -/
def skewLimit : Nat := 8704

/-- Once the filler block of one SEQ has arrived on every lane of a port, the port is aligned or not; its stream of blocks begins
anew as it becomes so (R270, R277). -/
def Dev.checkPort (d : Dev) (p : Nat) : Dev :=
  let lanes := d.portLanes p
  let same := match lanes with
    | [] => false
    | l :: rest => rest.all (fun k => (d.lane k).seq == (d.lane l).seq)
  if !(lanes.all (fun l => decide ((d.lane l).state = .aligned))) || !same then d
  else if !(d.laneIdsOk p) then (((d.latchLn p 2).raise evLnLaneIdBad p)).portUnaligned p
  else if lanes.any (fun l => decide (skewLimit < d.laneSkew l)) then
    (((d.latchLn p 3).raise evLnDeskewLimit p)).portUnaligned p
  else
    let y := d.lnPort p
    let d := d.setLnPort p (if y.aligned then y else { y with aligned := true, rxNext := 0, rxBytes := [] })
    if (d.lkPort p).state = .training then d.setLk p { d.lkPort p with state := .hello } else d

/-- The reference of a port is present (R279). -/
def Dev.refPresent (d : Dev) (p : Nat) : Bool := flag d.ln.refOk (d.fld rLnPortRef 0 2 p)

/-- Symbols from one comma to the next (R274). -/
def fillerPeriod : Nat := 87104

/-! ### The flit stream received (R270, R277, R278) -/

/-- The lane of a port whose LANE field is an index (R277). -/
def Dev.laneAt (d : Dev) (p i : Nat) : Option Nat := firstThat (d.portLanes p) (fun l => (d.lane l).lane == i)

/-- Whole flits of a port's stream go to the link layer; one with a byte of a failed codeword is marked (R278). They take effect
there as FLIT_RECEIVE and BYPASS_FLIT (DESIGN CHOICE, log entry 192). -/
def Dev.handFlits (d : Dev) (p : Nat) : Nat → Dev
  | 0 => d
  | n + 1 =>
    let y := d.lnPort p
    if y.rxBytes.length < 128 then d
    else
      let f := y.rxBytes.take 128
      ((d.emit (.rxFlit p (ofBytes (f.map (·.1))) (f.any (·.2)))).setLnPort p { y with rxBytes := y.rxBytes.drop 128 }).handFlits p n

/-- The blocks of an aligned port's lanes are joined in the order of their LANE fields (R270, R277). -/
def Dev.joinBlocks (d : Dev) (p : Nat) : Nat → Dev
  | 0 => d
  | n + 1 =>
    let y := d.lnPort p
    match d.laneAt p y.rxNext with
    | none => d
    | some l =>
      match (d.lane l).blocks with
      | [] => d
      | (bytes, bad) :: rest =>
        let d := d.setLane l { d.lane l with blocks := rest }
        let next := (y.rxNext + 1) % max 1 (d.portWidth p)
        let d := d.setLnPort p { y with rxNext := next, rxBytes := y.rxBytes ++ bytes.map (fun b => (b, bad)) }
        (d.handFlits p 3).joinBlocks p n

/-- Blocks that wait on the lanes of a port. -/
def Dev.waitingBlocks (d : Dev) (p : Nat) : Nat := (d.portLanes p).foldl (fun n l => n + (d.lane l).blocks.length) 0

/-- The same where the port is aligned. -/
def Dev.joinPort (d : Dev) (p : Nat) : Dev := if (d.lnPort p).aligned then d.joinBlocks p (d.waitingBlocks p) else d

/-- At a filler block a codeword that has begun is no more, and 64 blocks have passed since the last one: those that did not come
count as failed. A port that is not aligned keeps none (R270, R273, R278). -/
def Dev.laneRestart (d : Dev) (l p lane seq : Nat) : Dev :=
  let x := d.lane l
  let lost := List.replicate (64 - x.words) (List.replicate 320 (0 : Byte), true)
  d.setLane l { x with
    scram := scramSeed lane seq, runLevel := 0, runLen := 0, syms := [], words := 0,
    blocks := if (d.lnPort p).aligned then x.blocks ++ lost else [] }

/-! ### Filler blocks (R274 to R277, R280) -/

/-- An expected comma did not appear or failed CHECK; the second in a row loses the lane. The lane goes on as if its filler block
had come (R271, R276). -/
def Dev.commaMiss (d : Dev) (l p : Nat) : Dev :=
  let x := d.lane l
  let d := (d.setLane l { x with missed := x.missed + 1, comma := x.comma.map (· + fillerPeriod) }).raise evLnCommaMiss p
  if 2 ≤ x.missed + 1 then d.loseLane l else (d.laneRestart l p x.lane ((x.seq + x.missed + 1) % 256)).joinPort p

/-- Rate matching at a filler block, for all lanes of a port together (R280). -/
def Dev.rateMatch (d : Dev) (p seq fill : Nat) : Dev :=
  let y := d.lnPort p
  if 192 < fill then d.setLnPort p { y with rate := some (seq, true) }
  else if fill < 64 then d.setLnPort p { y with rate := some (seq, false) }
  else d

/-- A correct filler block on a lane, its anchor at a position (R271, R276, R277). -/
def Dev.fillerSeen (d : Dev) (l p pos arrived lane seq fill : Nat) : Dev :=
  let d := d.laneRestart l p lane seq
  let x := d.lane l
  let found := decide (x.state = .hunt) && decide (x.comma.map (· + fillerPeriod) = some pos)
  let x := { x with
    lane := lane, seq := seq, comma := some pos, missed := 0, arrived := arrived, state := if found then .aligned else x.state }
  let d := (d.setLane l x).raiseIf found evLnLaneAligned p
  ((d.rateMatch p seq fill).checkPort p).joinPort p

/-- FILLER_BLOCK: levels of a lane from a position on (after stuff removal), in which a comma is looked for, arrived at a local
symbol time, with the elastic buffer's filling (R274 to R277, R280). An ALIGNED lane takes a comma at the expected place only; a
list that reaches over that place without one is a miss. -/
def Dev.fillerBlock (d : Dev) (l pos arrived fill : Nat) (levels : List Nat) : Dev :=
  match d.portOfLane l with
  | none => d
  | some p =>
    let x := d.lane l
    if (x.state ≠ .hunt ∧ x.state ≠ .aligned) ∨ d.refPresent p = false then d
    else if fill = 0 ∨ 256 < fill then ((d.latchLn l 4).raise evLnElasticSlip p).loseLane l
    else
      let raw := levels.map (· % 4)
      let flipped := raw.map (fun v => 3 - v)
      let inv := if (findComma flipped).isSome then true else if (findComma raw).isSome then false else x.inv
      let d := (d.setLane l { x with inv := inv }).raiseIf (inv && !x.inv) evLnPolarityInv p
      let due (a : Nat) : Bool := decide (x.state = .hunt) || decide (x.comma.map (· + fillerPeriod) = some a)
      let missed := decide (x.state = .aligned)
        && (match x.comma with
          | some c => decide (pos ≤ c + fillerPeriod) && decide (c + fillerPeriod < pos + levels.length)
          | none => false)
      match findComma (if inv then flipped else raw) with
      | some (i, some (lane, seq)) =>
        if due (pos + i) then d.fillerSeen l p (pos + i) arrived lane seq fill
        else if missed then d.commaMiss l p else d
      | _ => if missed then d.commaMiss l p else d

/-! ### Codewords (R270 to R273, R276, R278) -/

/-- UNCORR_LIMIT and CORR_WARN as they act (R285). -/
def Dev.uncorrLimit (d : Dev) : Nat := orOne (d.fld rLnCtl 16 8)
def Dev.corrWarn (d : Dev) : Nat := d.fld rLnCtl 0 16

/-- Add to a saturating 32-bit counter of a lane. -/
def Dev.addLane (d : Dev) (r : Reg) (l n : Nat) : Dev := d.wr r (satAdd 0xFFFFFFFF (d.rd r 0 l) n) 0 l

/-- The 1,360 symbols of one codeword of a lane, after stuff removal (R271, R272, R276, R278). -/
def Dev.decodeWord (d : Dev) (l : Nat) (word : List Nat) : Dev :=
  let x := d.lane l
  let p := d.lanePort l
  let symbols := codeSymbols word
  let dec := rsDecode symbols
  let (bits, scram) := scramble 2560 x.scram (dataBits (dec.elim symbols (fun r => r.1)))
  let x := { x with scram := scram, words := x.words + 1, blocks := x.blocks ++ [(toBytes 320 bits, dec.isNone)] }
  match dec with
  | some (_, n) =>
    let d := d.setLane l { x with corrTick := x.corrTick + n }
    let d := if 0 < n then (d.addLane rLnFecSym l n).addLane rLnFecCw l 1 else d
    d.raiseIf (decide (x.corrTick ≤ d.corrWarn) && decide (d.corrWarn < x.corrTick + n)) evLnFecCorrHigh p
  | none =>
    let d := d.setLane l { x with uncorrTick := x.uncorrTick + 1 }
    let d := (d.addLane rLnFecUncorr l 1).raise evLnFecUncorr p
    if d.uncorrLimit ≤ x.uncorrTick + 1 then d.loseLane l else d

/-- Whole codewords of an ALIGNED lane, at most 64 after a filler block (R270, R274). -/
def Dev.decodeWords (d : Dev) (l : Nat) : Nat → Dev
  | 0 => d
  | n + 1 =>
    let x := d.lane l
    if x.state ≠ .aligned ∨ 64 ≤ x.words ∨ x.syms.length < 1360 then d
    else ((d.setLane l { x with syms := x.syms.drop 1360 }).decodeWord l (x.syms.take 1360)).decodeWords l n

/-- CODEWORD_RECEIVE: line symbols of an ALIGNED lane, in which codewords end (R270, R272, R273, R278). -/
def Dev.codeword (d : Dev) (l : Nat) (levels : List Nat) : Dev :=
  let x := d.lane l
  if x.state ≠ .aligned then d
  else
    let p := d.lanePort l
    let u := destuff x.runLevel x.runLen (levels.map (fun v => if x.inv then 3 - v % 4 else v % 4))
    let x := { x with
      runLevel := u.level, runLen := u.run, syms := x.syms ++ u.symbols, stuffTick := satAdd 0xFFFF x.stuffTick u.pairs }
    let d := forEach (upFrom 0 u.missing) (fun _ (d : Dev) => d.raise evLnStuffErr p) (d.setLane l x)
    (d.decodeWords l (x.syms.length / 1360)).joinPort p

/-! ### References, training and tiles (R279, R282, R286) -/

/-- REF_LOST: a reference stops for 1 us (R279). -/
def Dev.refLost (d : Dev) (r : Nat) : Dev :=
  if flag d.ln.refOk r then
    let d := { d with ln := { d.ln with refOk := setField d.ln.refOk r 1 0 } }
    let ports := (Tbl.keys d.map).filter (fun p => d.fld rLnPortRef 0 2 p == r)
    let first := ports.headD 0
    let d := (d.latchLn first 5).raise evLnRefLost 0
    forEach (ports.flatMap d.portLanes) (fun l d => d.loseLane l) d
  else d

/-- REFCLK_PRESENT (R279). -/
def Dev.refPresentNow (d : Dev) (r : Nat) : Dev :=
  { d with ln := { d.ln with refOk := setField d.ln.refOk r 1 1 } }

/-- A reference's offset as measured in a tick, in 1/16 ppm: REF_PPM beyond 250 ppm (R279). -/
def Dev.refMeasure (d : Dev) (r ppm : Nat) : Dev :=
  let far := decide (4000 < (signed ppm 16).natAbs)
  let d' := d.wrFld rLnRefStatus (16 * r) 16 ppm
  ({ d' with ln := { d'.ln with refFar := setField d.ln.refFar r 1 (bit far) } }).raiseIf (far && !(flag d.ln.refFar r))
    evLnRefPpm 0

/-- TRAIN_TIMEOUT: a port stays in TRAINING for TRAIN_TO, once (R282). -/
def Dev.trainTimeout (d : Dev) (p : Nat) : Dev :=
  let y := d.lnPort p
  if (d.lkPort p).state = .training ∧ y.timeout = false ∧ 1024 * orOne (d.fld rLnCtl 24 8) ≤ d.waited y.since then
    ((d.setLnPort p { y with timeout := true }).latchLn p 6).raise evLnTrainTimeout p
  else d

/-- Every port of a fabric tile is broken with reason FENCE (R19, R408). -/
def Dev.fenceTile (d : Dev) (tile : Nat) : Dev :=
  forEach ((Tbl.keys d.map).filter (fun p => p / 64 == tile)) (fun p d => d.breakPort p 1) d

/-- FABRIC_D2D_FAULT: a tile's die-to-die link fails (R286). -/
def Dev.fabricD2d (d : Dev) (tile : Nat) : Dev :=
  ((d.latchLn (64 * tile) 7).fenceTile tile).raise evLnD2dFault tile

/-! ### PRBS and counters (R283, R285) -/

/-- A PRBS pattern is selected: 1 or 2 (R285). -/
def prbsOn (v : Nat) : Bool := v == 1 || v == 2

/-- PRBS_LOCK: a checker sees 31 error-free bits (R283). -/
def Dev.prbsLock (d : Dev) (l : Nat) : Dev :=
  let x := d.lane l
  if x.state = .prbs ∧ prbsOn (d.fld rLnPrbsCtl 2 2 l) then d.setLane l { x with prbsLock := true } else d

/-- PRBS_LOCK_LOST (R283). -/
def Dev.prbsLost (d : Dev) (l : Nat) : Dev :=
  let x := d.lane l
  if x.prbsLock then (d.setLane l { x with prbsLock := false }).raise evLnPrbsLockLost (d.lanePort l) else d

/-- Bit errors that a locked checker has counted (R283). -/
def Dev.prbsErrors (d : Dev) (l n : Nat) : Dev := if (d.lane l).prbsLock then d.addLane rLnPrbsErr l n else d

/-- A read of a counter of the selected lane that clears it (R285). -/
def Dev.laneRead (d : Dev) (r : Reg) (l : Nat) : Dev := (d.answer (d.rd r 0 l)).wr r 0 0 l

/-- LN_PRBS_CTL has been written: its lane, of a DISABLED port, sends or checks the pattern; a lane outside the port map
offers none (R283). -/
def Dev.prbsApply (d : Dev) (l : Nat) : Dev :=
  let on := prbsOn (d.fld rLnPrbsCtl 0 2 l) || prbsOn (d.fld rLnPrbsCtl 2 2 l)
  if (d.portOfLane l).isNone then d
  else d.setLane l { d.lane l with state := if on then .prbs else .off, prbsLock := false }

/-- A number of stuffed pairs in a tick is more than 3,300 ppm of a lane's line symbols, 108.8 in each ns (R269, R281). -/
def Dev.stuffHigh (d : Dev) (pairs : Nat) : Bool := decide (3300 * 1088 * d.period < 2 * pairs * 10 ^ 7)

/-- The lanes at a tick boundary: what they sent and received in the tick that ended (R276, R281, R285). -/
def Dev.laneTick (d : Dev) : Dev :=
  forEach (Tbl.keys d.ln.lanes) (fun l (d : Dev) =>
    let x := d.lane l
    (d.setLane l { x with
      corrTick := 0, uncorrTick := 0, stuffLast := x.stuffTick, stuffTick := 0, txPairs := 0 }).raiseIf
      (d.stuffHigh x.txPairs) evLnStuffHigh (d.lanePort l)) d

/-! ### Registers (R285) -/

/-- LN_STATUS and LN_LANE_STATE. -/
def Dev.lnStatus (d : Dev) : Nat :=
  let n (s : LaneState) : Nat := countWhere d.ln.lanes (fun (l : Nat × LnLane) => decide (l.2.state = s))
  pack [(9, n .aligned), (4, d.ln.refOk), (9, n .prbs)]
def Dev.laneState (d : Dev) (l : Nat) : Nat :=
  let x := d.lane l
  pack [(2, x.state.code), (1, bit x.inv), (4, x.lane), (8, x.seq), (15, d.laneSkew l), (2, 0), (16, x.stuffLast)]

end Sys2Proof.Machine
end

