-- ==== Sys2Proof/Machine/Time.lean ====
section
/-! DEFINITION. Network time: time messages, the parent, lock states, the root and TICK_IN, the skew estimate,
conservative mode, and waits for lock (R31 to R51, R508 to R510, R516). -/

namespace Sys2Proof.Machine

/-! ### The root (R37, R508) -/

/-- This device is the root and has not yielded. -/
def Dev.isRoot (d : Dev) : Bool := flag (d.rd rStCtl) 2 && !d.st.yielded

/-- What the time unit keeps for a port. -/
def Dev.stPort (d : Dev) (p : Nat) : StPort := Tbl.get {} d.st.ports p

/-- Store it. -/
def Dev.setStPort (d : Dev) (p : Nat) (x : StPort) : Dev := { d with st := { d.st with ports := Tbl.put {} p x d.st.ports } }

/-! ### Forward steps (R36, R510) -/

/-- Network time steps forward by nanoseconds: tick numbers follow it, none is skipped, and the passed ones wait for the
next boundary (R31, R36, R510). DEDUCED (log entry 177): stamps taken before the step belong to no exchange after it. -/
def Dev.stepTime (d : Dev) (ns : Nat) : Dev :=
  let t := (d.st.ns + ns) % 2 ^ 64
  let passed := t / d.period - d.st.ns / d.period
  ({ d with st := { d.st with
    ns := t, tick := (d.st.tick + passed) % 2 ^ 48, passed := d.st.passed + passed,
    ports := forEach (Tbl.keys d.st.ports)
      (fun p t => Tbl.upd {} p (fun (x : StPort) => { x with txStamps := [] }) t) d.st.ports } }).owe (.timeStep d.st.ns)

/-- The rate follows the servo within 1,000 ppm either way; a slewing device runs at -1,000 ppm. SERVO_RAIL fires when the
rate reaches a rail (R36, R51). -/
def Dev.steer (d : Dev) (offset : Int) : Dev :=
  let r := if d.st.slewing then -1000 else max (-1000) (min 1000 (Config.servoRate offset))
  let d' := { d with st := { d.st with rate := r } }
  d'.raiseIf (decide (r.natAbs = 1000) && decide (d.st.rate.natAbs ≠ 1000)) evStServoRail 0

/-! ### Entering states (R40, R42, R470, R516) -/

/-- Commands that waited for lock start, and Relay messages leave (R42, R516). -/
def Dev.afterLock (d : Dev) : Dev :=
  forEach (d.tp.cmds.filter (fun c => decide (c.phase = .lockWait))) (fun c d => d.startCmd c) d.rlLaunchAll

/-- Transport comes into service with the first lock after a cold start (R470). -/
def Dev.startService (d : Dev) : Dev :=
  match d.tp.service with
  | some _ => d
  | none => ({ d with
      tp := { d.tp with service := some d.now }, bt := { d.bt with window := true } }).wr rBtStartTick d.now

/-- Peak to peak of the offsets of some ticks, in half nanoseconds, rounded up; a tick without an exchange has none (R43). -/
def peakToPeak (l : List (Option (Int × Int))) : Nat :=
  match l.filterMap (fun x => x) with
  | [] => 0
  | x :: rest =>
    ((rest.foldl (fun m y => max m y.2) x.2 - rest.foldl (fun m y => min m y.1) x.1).toNat + 7) / 8

/-- E of a device that is LOCKED, in half nanoseconds: 0 at the root; else E of the parent, 4 ns and the peak-to-peak offset
over the last 16 ticks (R43). A root that has yielded and has no parent keeps its E. -/
def Dev.skewLocked (d : Dev) : Option Nat :=
  if d.isRoot then some 0
  else match d.st.parent with
    | some p => some (2 * (d.stPort p).skewEst + 8 + peakToPeak (d.st.offTick :: d.st.offHist))
    | none => d.st.skew

/-- The device enters LOCKED, and E is defined from then on (R40, R43, R51). -/
def Dev.enterLocked (d : Dev) : Dev :=
  ((({ d with st := { d.st with lock := .locked, lockRun := 0, holdTicks := 0, skew := d.skewLocked } }).raise
    evStLockAcquired 0).startService).afterLock

/-- The device enters LOCKING (R40, R41). -/
def Dev.enterLocking (d : Dev) : Dev :=
  { d with st := { d.st with lock := .locking, lockRun := 0, stepped := false, skew := none, offTick := none, offHist := [] } }

/-- The device enters UNLOCKED: it runs on local ticks (R40, R43). -/
def Dev.enterUnlocked (d : Dev) : Dev :=
  { d with st := { d.st with
    lock := .unlocked, lockRun := 0, skew := none, offTick := none, offHist := [], slewing := false, rate := 0, parent := none } }

/-- The device enters HOLDOVER (R40). -/
def Dev.enterHoldover (d : Dev) : Dev :=
  ({ d with st := { d.st with lock := .holdover, holdTicks := 0, offTick := none, offHist := [] } }).raise evStHoldover 0

/-! ### Candidates and the parent (R34, R37, R40, R509) -/

/-- No valid time message has come on a port for 3 ticks. DEDUCED (log entry 168): they are local ticks, for a boundary that a
forward step passes is no silence of a peer (R40, R509, R510). -/
def Dev.timeSilent (d : Dev) (p : Nat) : Bool :=
  match (d.stPort p).lastTick with
  | some t => decide (3 ≤ d.waited t)
  | none => true

/-- A port is a parent candidate (R509). -/
def Dev.candidate (d : Dev) (p : Nat) : Bool :=
  let x := d.stPort p
  flag (d.rd rStParentMask (p / 64)) (p % 64) && !x.outOfTree && decide (x.stratum ≤ 61)
    && !(d.timeSilent p)

/-- The candidate with the lowest stratum, the lower port number among equals. -/
def Dev.bestCandidate (d : Dev) : Option Nat :=
  ((Tbl.keys d.st.ports).filter (fun p => d.candidate p)).foldl (fun (b : Option Nat) p => match b with
    | none => some p
    | some q => if (d.stPort p).stratum < (d.stPort q).stratum then some p else some q) none

/-- The device follows a parent port; a change raises PARENT_CHANGE (R40, R51). -/
def Dev.setParent (d : Dev) (p : Nat) : Dev :=
  if d.st.parent = some p then d
  else ({ d with st := { d.st with parent := some p, offTick := none, offHist := [] } }).raiseIf d.st.parent.isSome evStParentChange 0

/-- 1 microsecond and 20 nanoseconds in 1/16 ns. -/
def offStep : Nat := 16000
def offLock : Nat := 320

/-! ### Skew and conservative mode (R43, R44) -/

/-- A condition of R44 that requires conservative mode holds, FORCE apart. -/
def Dev.conservCause (d : Dev) : Bool :=
  (match d.st.skew with | some e => decide (500 < e) | none => false)
    || (match d.st.parent with | some p => (d.stPort p).conserv && !d.isRoot | none => false)
    || (d.st.slewing && decide (d.st.lock = .locked))

/-- The device enters conservative mode when a condition of R44 holds. DESIGN CHOICE (log entry 169): the run of R44's ticks with
E at or below 200 ns counts from the entry into the mode, also where FORCE alone entered it. -/
def Dev.conservCheck (d : Dev) : Dev :=
  let cause := d.conservCause
  let d := if cause then { d with st := { d.st with exitRun := 0 } } else d
  if !d.st.conserv && (cause || flag (d.rd rStConservCtl) 0) then
    ({ d with st := { d.st with conserv := true, exitRun := 0 } }).raise evStSkewLimit 0
  else d

/-- The exit delay (R44, R50). -/
def Dev.exitDelay (d : Dev) : Nat := 256 * orOne (d.fld rStConservCtl 8 24)

/-- SKEW_RESTORED: the device leaves conservative mode (R44). -/
def Dev.skewRestored (d : Dev) : Dev :=
  if d.st.conserv && !d.conservCause && !(flag (d.rd rStConservCtl) 0) && decide (d.exitDelay ≤ d.st.exitRun) then
    ({ d with st := { d.st with conserv := false, exitRun := 0 } }).raise evStSkewRestored 0
  else d

/-! ### Time messages (R32, R34, R35, R36, R37, R40, R41) -/

/-- Fields of a time message (R34). -/
def tmStratum (w : Nat) : Nat := field w 16 8
def tmRoot (w : Nat) : Nat := field w 32 18
/-- TX_NS and TX_FRAC, in 1/65,536 ns. -/
def tmTx (w : Nat) : Nat := field w 64 64 * 65536 + field w 128 16
/-- RX_NS and RX_FRAC, in 1/65,536 ns. -/
def tmRx (w : Nat) : Nat := field w 160 64 * 65536 + field w 224 16
def tmRxSeq (w : Nat) : Nat := field w 240 8
def tmSkew (w : Nat) : Nat := field w 256 32

/-- TYPE and reserved bytes of a time message are right (R34). DESIGN CHOICE (log entry 170): a STRATUM above 63, which no device
sends, is malformed too. -/
def tmOk (w : Nat) : Bool :=
  decide (field w 0 8 = 1) && decide (field w 12 4 = 0) && decide (tmStratum w ≤ 63) && decide (field w 50 14 = 0)
    && decide (field w 144 16 = 0) && decide (field w 248 8 = 0) && decide (field w 288 32 = 0)

/-- The neighbour offset of an exchange in 1/16 ns: `t2` is the arrival stamp and `t3` the stamp of the message that the
peer's RX fields answer (R35). DESIGN CHOICE (log entry 171): it is rounded down. -/
def exchangeOffset (w t2 t3 : Nat) (asym : Int) : Int :=
  ((((t2 : Int) - tmTx w) - ((tmRx w : Int) - t3)) + asym * 4096) / 8192

/-- The delay of that exchange in 1/16 ns, rounded down (R35). -/
def exchangeDelay (w t2 t3 : Nat) : Int := (((t2 : Int) - tmTx w) + ((tmRx w : Int) - t3)) / 8192

/-- The stamp of the message on a port that the RX fields of a message from it answer (R34, R35). DESIGN CHOICE (log entry 172):
RX_SEQ 0 is taken as the answer to the own SEQ 0, although a peer that has received nothing also sends 0. -/
def Dev.answeredStamp (d : Dev) (p w : Nat) : Option Nat :=
  (firstThat (d.stPort p).txStamps (fun s => s.1 == tmRxSeq w)).map (fun s => s.2)

/-- What a valid message leaves with its port (R34, R35, R509). -/
def Dev.notePort (d : Dev) (p w rx : Nat) : Dev :=
  let x := d.stPort p
  let t3 := d.answeredStamp p w
  let new := t3.map (fun t => exchangeOffset w rx t (signed (d.rd rStAsym p) 32))
  let delay := t3.map (fun t => exchangeDelay w rx t)
  let offset := new.orElse (fun _ => x.offset)
  let beyond := decide (offLock < (offset.getD 0).natAbs)
  let fires := decide (d.st.lock = .locked) && beyond && !x.beyond
  (d.setStPort p { x with
    rx := some (field w 24 8, rx), lastTick := some d.st.boundaries, stratum := tmStratum w, root := tmRoot w,
    skewEst := tmSkew w, disc := flag w 10, conserv := flag w 11, offset := offset,
    delay := delay.orElse (fun _ => x.delay), beyond := beyond && (x.beyond || fires), outOfTree := false }).raiseIf fires
      evStNeighbourSkew p

/-- An offset beyond 1 us while LOCKED: TIME_STEP, conservative mode, and a step forward where the device is behind, else a
slew (R36). DESIGN CHOICE (log entry 173): it fires again at every measure that finds the offset still beyond 1 us, as at each
message of the parent while the device slews. -/
def Dev.correct (d : Dev) (o : Int) : Dev :=
  let d := d.raise evStTimeStep 0
  let d := ({ d with st := { d.st with slewing := true } }).conservCheck
  if o < 0 then ({ d with st := { d.st with slewing := false } }).stepTime (o.natAbs / 16) else d

/-- An offset measured to the parent joins those of the present tick (R40, R43). -/
def StUnit.measured (x : StUnit) (o : Int) : StUnit :=
  let range := match x.offTick with
    | some r => (min r.1 o, max r.2 o)
    | none => (o, o)
  { x with offset := o, offTick := some range }

/-- The device steers by an exchange with its parent (R35, R36, R40, R41). -/
def Dev.followOffset (d : Dev) (o : Int) : Dev :=
  let locked := decide (d.st.lock = .locked)
  let far := decide (offStep < o.natAbs)
  let d := { d with st := d.st.measured o }
  let d := if locked then { d with st := { d.st with skew := d.skewLocked } } else d
  let d := if locked && far then d.correct o
    else if d.st.lock = .locking ∧ o < 0 ∧ !d.st.stepped then
      ({ d with st := { d.st with stepped := true, slewing := false } }).stepTime (o.natAbs / 16)
    else { d with st := { d.st with slewing := decide (0 < o) && !locked && decide (offLock < o.natAbs) } }
  d.steer o

/-- A message of the parent: stratum, root and its flag, the skew estimate, and the offset of the exchange it completes, where it
completes one (R34, R35, R43). -/
def Dev.follow (d : Dev) (p : Nat) (fresh : Bool) : Dev :=
  let x := d.stPort p
  let limit := decide (12 < x.stratum + 1) && decide (d.st.stratum ≤ 12 ∨ d.st.stratum = 63)
  let d := ({ d with st := { d.st with
    stratum := x.stratum + 1, root := x.root, disc := x.disc } }).raiseIf limit evStStratumLimit 0
  let d := if d.st.lock = .locked then { d with st := { d.st with skew := d.skewLocked } } else d
  let d := match x.offset with
    | some o => if fresh then d.followOffset o else d
    | none => d
  d.conservCheck

/-- The device takes a parent: from HOLDOVER, or as the root that yields, it is LOCKED within 1 us of it, otherwise it enters
LOCKING (R37, R41). DEDUCED (log entry 174): an offset that no exchange has given is not within 1 us. -/
def Dev.adopt (d : Dev) (p : Nat) : Dev :=
  let near := match (d.stPort p).offset with | some o => decide (o.natAbs ≤ offStep) | none => false
  let was := d.st.parent
  let d := d.setParent p
  match d.st.lock with
  | .unlocked => d.enterLocking
  | .holdover => if near then d.enterLocked else d.enterLocking
  | .locked => if was.isNone && !near then d.enterLocking else d
  | .locking => d

/-- A valid time message is taken: the best candidate is the parent, and a message of the parent steers (R34, R40, R41). -/
def Dev.takeTime (d : Dev) (p : Nat) (fresh : Bool) : Dev :=
  match d.bestCandidate with
  | none => d
  | some q =>
    let d := if d.st.parent = some q ∧ (d.st.lock = .locked ∨ d.st.lock = .locking) then d else d.adopt q
    if q = p then d.follow p fresh else d

/-- TIME_MESSAGE: a time message arrives on a port; `rx` is the lane tile's stamp of its first symbol in 1/65,536 ns (R32,
R34, R37). -/
def Dev.timeMessage (d : Dev) (p w rx : Nat) : Dev :=
  if !(tmOk w) then d.raise evStTimeMsgError p
  else if field w 8 2 ≠ d.fld rStCtl 0 2 then
    let x := d.stPort p
    ((d.setStPort p { x with outOfTree := true }).raise evStTimeMsgError p).raiseIf (!x.outOfTree) evStPeriodMismatch p
  else
    let yields := d.isRoot && decide (tmStratum w ≤ 62) && decide (tmRoot w < d.node)
    let d := if yields then
        ({ d with st := { d.st with yielded := true, parent := none, stratum := 63, root := tmRoot w, disc := flag w 10 } }).raise
          evStRootConflict 0 else d
    let fresh := (d.answeredStamp p w).isSome
    let d := d.notePort p w rx
    if d.isRoot then d else d.takeTime p fresh

/-- LOCK_ACQUIRED: the offset has stayed within 20 ns for 16 consecutive ticks (R40). -/
def Dev.lockAcquired (d : Dev) : Dev :=
  if d.st.lock = .locking ∧ 16 ≤ d.st.lockRun then d.enterLocked else d

/-- PARENT_SILENT: no time message has come from the parent for 3 ticks (R40). DESIGN CHOICE (log entry 175): a root that has
yielded and has taken no parent yet has none to fall silent; it keeps LOCKED and its time until it has a candidate, and does not
enter HOLDOVER (R37). -/
def Dev.parentSilent (d : Dev) : Dev :=
  match d.st.parent with
  | none => d
  | some p =>
    if !(d.timeSilent p) || d.isRoot || d.st.lock = .holdover || d.st.lock = .unlocked then d
    else match d.bestCandidate with
      | some q => d.setParent q
      | none => if d.st.lock = .locked then d.enterHoldover else d.enterUnlocked

/-- HOLDOVER_TIMEOUT: HOLDOVER has lasted its limit (R41). -/
def Dev.holdoverTimeout (d : Dev) : Dev :=
  if d.st.lock = .holdover ∧ orOne (d.fld rStHoldover 0 24) ≤ d.st.holdTicks then
    d.enterUnlocked.raise evStHoldover 0
  else d

/-! ### TICK_IN (R38) -/

/-- The whole second nearest to an instant. -/
def nearSecond (t : Nat) : Nat := (t + 500000000) / 1000000000

/-- The second of network time that an edge at an instant is expected to stand for: so many after the last edge's as have
passed since, else the nearest (R38). -/
def Dev.edgeSecond (d : Dev) (at_ : Nat) : Nat :=
  match d.st.edgeSec with
  | some s => s + nearSecond (at_ - d.st.lastEdge)
  | none => nearSecond at_

/-- TICK_IN_EDGE at the root, of the kind that TICKIN_EDGE selects. An armed seconds count is loaded; an edge more than 1 us off the expected instant raises TICKIN_JUMP; and the correction follows
R36, as the root's offset to the edge (R38). -/
def Dev.tickInEdge (d : Dev) (edge : TickEdge) : Dev :=
  let at_ := edge.at_
  if !d.isRoot || edge.falling != flag (d.rd rStCtl) 3 then d
  else
    let expected := d.edgeSecond at_
    let second := d.st.armedSeconds.getD expected
    let err : Int := (at_ : Int) - (second * 1000000000 : Nat)
    let d := d.raiseIf (decide (1000 < ((at_ : Int) - (expected * 1000000000 : Nat)).natAbs)) evStTickinJump 0
    let d := { d with st := { d.st with
      armedSeconds := none, lastEdge := max at_ (second * 1000000000), edgeSec := some second, tickinLost := false,
      slewing := false } }
    let d := if 1000 < err.natAbs then d.correct (16 * err) else d
    d.steer (16 * err)

/-- TICKIN_LOST: the root has seen no edge for 1.5 s (R38). -/
def Dev.tickInLost (d : Dev) : Dev :=
  if d.isRoot && !d.st.tickinLost && decide (1500000000 ≤ d.st.ns - d.st.lastEdge) then
    ({ d with st := { d.st with tickinLost := true } }).raise evStTickinLost 0
  else d

/-- ROOT_SECONDS_ARM: a write of ST_ROOT_SECONDS (R38). -/
def Dev.armSeconds (d : Dev) (value : Nat) : Dev :=
  let d := d.wr rStRootSeconds value
  { d with st := { d.st with armedSeconds := some (value % 2 ^ 64) } }

/-- OVERRUN_PERSIST: an activity's run of ticks with deferred work has reached 64 (R49). -/
def Dev.overrunPersist (d : Dev) (a : Nat) : Dev :=
  if Tbl.get false d.st.persistOwed a then
    ({ d with st := { d.st with persistOwed := Tbl.put false a false d.st.persistOwed } }).raise evStOverrunPersist 0
  else d

/-! ### Waits for lock (R42, R516) -/

/-- The work of a command stays on this device (R42). -/
def Dev.localWork (d : Dev) (c : Cmd) : Bool :=
  let op := entOpcode c.entry
  if op = 0 ∨ (0x10 ≤ op ∧ op ≤ 0x13) then true
  else if 8 ≤ op ∧ op ≤ 0xB then d.lockLocal c.entry
  else if 0x18 ≤ op then !(d.collRemote (collGroup c.entry))
  else false

/-- A message belongs to a command of a ring position. -/
def Msg.belongs (m : Msg) (c : Cmd) : Bool :=
  match m.owner with
  | .cmd ep index lap _ => ep == c.ep && index == c.index && lap == c.lap
  | .rts ep index lap => ep == c.ep && index == c.index && lap == c.lap
  | .lockReq ep index lap => ep == c.ep && index == c.index && lap == c.lap
  | _ => false

/-- A command waits for lock: it needs the fabric and has sent nothing (R42). -/
def Dev.waitsLock (d : Dev) (c : Cmd) : Bool :=
  !d.timeOk && !(d.localWork c) && d.tp.msgs.all (fun m => !(m.belongs c) || m.id.isNone) && c.outcomes.isEmpty
    && (match c.phase with | .rdvOpen _ _ _ => false | _ => true)
    && !(decide (0x18 ≤ entOpcode c.entry) && decide (c.phase = .running))

/-- NOT_LOCKED_EXPIRY: a command has waited L_max ticks for the time unit to lock (R42). -/
def Dev.notLocked (d : Dev) (ep index : Nat) (lap : Bool) : Dev :=
  match d.findCmd ep index lap with
  | none => d
  | some c =>
    if d.waitsLock c && decide (d.lmax ≤ d.waited c.fetched) then
      let d := forEach (d.tp.msgs.filter (fun m => m.belongs c)) Dev.discardMsg d
      let d := { d with xl := { d.xl with
        walks := d.xl.walks.filter (fun w => decide (w.owner ≠ XlOwner.rdv ep index lap)) } }
      (d.raise evTpUnreachable ep).cmdDone c stUnreachable (8 * 2 ^ 40) 0 0
    else d

/-- A message the device builds itself (R516). -/
def Msg.selfMade (m : Msg) : Bool :=
  match m.owner with
  | .pull _ _ | .fin | .lockGrant _ _ | .fill _ _ | .writeBack _ _ | .winReply | .forward => true
  | _ => false

/-- SELF_MSG_NOT_LOCKED: a message the device builds itself has waited L_max ticks for lock and is not sent; `num` is the
model's number of a transport message, or of a Relay message where `relay` is 1 (R516). -/
def Dev.selfNotLocked (d : Dev) (relay : Bool) (num : Nat) : Dev :=
  if relay then
    match firstThat d.rl.msgs (fun m => m.num == num) with
    | some m => if m.id.isNone && !d.timeOk && decide (d.lmax ≤ d.waited m.since) then d.rlLost m else d
    | none => d
  else
    match d.msg num with
    | some m =>
      if m.id.isNone && m.selfMade && !d.timeOk && decide (d.lmax ≤ d.waited m.since) then d.unreachable m 8 else d
    | none => d

/-! ### Read-only registers (R50) -/

/-- ST_STATUS. -/
def Dev.stStatus (d : Dev) : Nat :=
  pack [(3, d.st.lock.code), (1, bit d.st.conserv), (6, if d.isRoot then 0 else d.st.stratum), (8, d.st.parent.getD 0),
    (18, if d.isRoot then d.node else d.st.root)]

/-- ST_SKEW_EST in nanoseconds, rounded up; all ones while E is undefined (R43). -/
def Dev.stSkewEst (d : Dev) : Nat :=
  if d.isRoot then 0
  else match d.st.skew with
    | some e => if d.timeOk then min 0xFFFFFFFF ((e + 1) / 2) else 0xFFFFFFFF
    | none => 0xFFFFFFFF

/-! ### The tick work of the time unit (R34, R35, R39, R43, R49) -/

/-- The root is disciplined by TICK_IN: edges come at this root, or the message of the parent says so (R34). -/
def Dev.disciplined (d : Dev) : Bool := if d.isRoot then !d.st.tickinLost && d.st.edgeSec.isSome else d.st.disc

/-- The time message a port sends, at the network time of the boundary (R34, R508, R509). DESIGN CHOICE (log entry 172): RX_NS,
RX_FRAC and RX_SEQ are 0 before a message has been received. -/
def Dev.timeBody (d : Dev) (p : Nat) : Nat :=
  let x := d.stPort p
  let offers := d.isRoot || d.timeOk
  pack [(8, 1), (2, d.fld rStCtl 0 2), (1, bit d.disciplined),
    (1, bit d.st.conserv), (4, 0), (8, if d.isRoot then 0 else if offers then min 62 d.st.stratum else 63), (8, x.seqTx),
    (32, if d.isRoot then d.node else d.st.root), (64, d.st.ns), (16, d.st.frac), (16, 0),
    (64, (x.rx.elim 0 (fun r => r.2)) / 65536), (16, (x.rx.elim 0 (fun r => r.2)) % 65536), (8, x.rx.elim 0 (fun r => r.1)),
    (8, 0), (32, d.stSkewEst)]

/-- One time message leaves on a trained fabric port (R34). -/
def Dev.sendTime (p : Nat) (d : Dev) : Dev :=
  let x := d.stPort p
  let stamp := d.st.ns * 65536 + d.st.frac
  (d.setStPort p { x with seqTx := (x.seqTx + 1) % 256, txStamps := ((x.seqTx, stamp) :: x.txStamps).take 8 }).emit
    (.bypass p 1 (d.timeBody p))

/-- The neighbour offset of a port goes to its PC register (R35, R428). -/
def Dev.noteOffset (p : Nat) (d : Dev) : Dev := d.wr rPcNbrOfs (unsigned ((d.stPort p).offset.getD 0) 32) p

/-- TICK_OUT pulses at this boundary (R39). DESIGN CHOICE (log entry 176): K from 21 to 31, outside the field's range, acts as
written. -/
def Dev.tickOutFires (d : Dev) : Bool :=
  let k := orOne (d.fld rStTickoutCtl 2 5)
  match d.fld rStTickoutCtl 0 2 with
  | 0 => false
  | 1 => true
  | 2 => decide (d.now % 2 ^ k = 0)
  | _ => decide (d.st.ns / 1000000000 ≠ (d.st.ns - d.period) / 1000000000) || decide (d.st.ns % 1000000000 = 0)

/-- The offset to the parent was measured in the tick that ended, and stayed within 20 ns (R40). -/
def StUnit.near (x : StUnit) : Bool :=
  match x.offTick with
  | some r => decide (-(offLock : Int) ≤ r.1) && decide (r.2 ≤ (offLock : Int))
  | none => false

/-- The counts of the time unit at a boundary: the run of ticks near the parent, HOLDOVER and its growing E, the offsets of the
last 16 ticks, and the exit delay (R40, R41, R43, R44). -/
def Dev.timeTick (d : Dev) : Dev :=
  let hold := decide (d.st.lock = .holdover)
  let run := if d.st.lock = .locking ∧ d.st.near then d.st.lockRun + 1 else 0
  let d := { d with st := { d.st with
    lockRun := run, holdTicks := if hold then d.st.holdTicks + 1 else 0, offTick := none,
    offHist := (d.st.offTick :: d.st.offHist).take 15 } }
  let skew := if hold then d.st.skew.map (· + 1) else if d.timeOk then d.skewLocked else d.st.skew
  let low := match skew with | some e => decide (e ≤ 400) | none => false
  let d := { d with st := { d.st with
    skew := skew, exitRun := if low && d.st.conserv && !d.conservCause then d.st.exitRun + 1 else 0 } }
  let d := if d.tickOutFires then d.emit (.tickOut d.now) else d
  d.conservCheck

end Sys2Proof.Machine
end

