-- ==== Sys2Proof/Machine/Sched.lean ====
section
/-! DEFINITION. The port schedulers: eligibility, tiers and deficit round robin, time gates, the pace wheel and guaranteed
bursts (R287 to R305). -/

namespace Sys2Proof.Machine

/-- An output's scheduler. -/
def Dev.scOut (d : Dev) (o : Nat) : ScOut := Tbl.get {} d.sc.outs o

/-- Store it. -/
def Dev.setSc (d : Dev) (o : Nat) (x : ScOut) : Dev := { d with sc := { d.sc with outs := Tbl.put {} o x d.sc.outs } }

/-- The outputs in use: configured fabric and CXL ports (R229, R232). -/
def Dev.outputs (d : Dev) : List Nat := d.inputs.filter (fun i => decide (i < 304))

/-- Lanes of an output. -/
def Dev.outLanes (d : Dev) (o : Nat) : Nat :=
  if o < 256 then d.portWidth o else 2 * 2 ^ d.fld rCxPortCfg 8 2 (o - 256)

/-! ### Time gates (R292 to R296) -/

/-- Entries of a bank that are used: COUNT from 1 to 256 (R292). -/
def Dev.gateCount (d : Dev) (o b : Nat) : Nat := min 256 (orOne (d.fld rScGateBank 32 9 b o))

/-- The entries of a bank: gates open, and duration in ns (R292). -/
def Dev.gateEntries (d : Dev) (o b : Nat) : List (Nat × Nat) :=
  (upFrom 0 (d.gateCount o b)).map (fun e =>
    (d.fld rScGateEntry 0 8 (256 * b + e) o, 8 * d.fld rScGateEntry 8 16 (256 * b + e) o))

/-- CYCLE of a list of entries, in ns. -/
def cycleOf (l : List (Nat × Nat)) : Nat := l.foldl (fun n (e : Nat × Nat) => n + e.2) 0

/-- The position of a network time in the cycle (R292). -/
def cyclePos (base cycle t : Nat) : Nat := (((t : Int) - base) % (max 1 cycle : Nat)).toNat

/-- The entry at a position of the cycle, and how far into it the position lies. -/
def entryAt : List (Nat × Nat) → Nat → Nat × Nat
  | [], pos => (0, pos)
  | (_, len) :: rest, pos =>
    if pos < len then (0, pos)
    else
      let (i, off) := entryAt rest (pos - len)
      (i + 1, off)

/-- The current entry of an output at a time, and the ns passed of it. -/
def Dev.gateAt (d : Dev) (o t : Nat) : Nat × Nat :=
  let b := (d.scOut o).bank
  let l := d.gateEntries o b
  entryAt l (cyclePos (d.fld rScGateBank 0 32 b o) (cycleOf l) t)

/-- Conservative mode opens every gate (R296). -/
def Dev.forcedOpen (d : Dev) : Bool := flag (d.rd rScCtl) 8 && d.st.conserv

/-- Gates open now (R292, R296). -/
def Dev.gatesOpen (d : Dev) (o : Nat) : Nat :=
  if d.forcedOpen then 255 else ((d.gateEntries o (d.scOut o).bank).getD (d.gateAt o d.st.ns).1 (0, 0)).1

/-- Time until the first entry of a list closes a class. -/
def openRun (c : Nat) : List (Nat × Nat) → Nat
  | [] => 0
  | (o, len) :: rest => if flag o c then len + openRun c rest else 0

/-- How long a gate stays open from now on, in ns, across entries and the wrap; none when it never closes (R294). -/
def Dev.openFor (d : Dev) (o c : Nat) : Option Nat :=
  let l := d.gateEntries o (d.scOut o).bank
  let (e, off) := d.gateAt o d.st.ns
  if d.forcedOpen || l.all (fun x => flag x.1 c) then none
  else some (openRun c (l.drop e ++ l.take e) - (if flag (l.getD e (0, 0)).1 c then off else 0))

/-- The longest window of a class in the cycle, in ns. -/
def Dev.longestWindow (d : Dev) (o c : Nat) : Nat :=
  let l := d.gateEntries o (d.scOut o).bank
  (upFrom 0 l.length).foldl (fun n e => max n (openRun c (l.drop e ++ l.take e))) 0

/-- A frame of `n` bytes passes an output within a number of ns (R294). -/
def Dev.fits (d : Dev) (o n ns : Nat) : Bool :=
  if o < 256 then decide ((n + 125) / 126 * 5 ≤ ns * d.outLanes o) else decide (n ≤ 8 * d.outLanes o * ns)

/-- GUARD_EN (R294). -/
def Dev.guardEn (d : Dev) : Bool := flag (d.rd rScCtl) 9

/-- The frame runs past its gate when it starts now (R294). -/
def Dev.overruns (d : Dev) (o c n : Nat) : Bool :=
  match d.openFor o c with
  | none => false
  | some t => !(d.fits o n t)

/-- The network time, in ns, at which the present window of a class opened. -/
def Dev.openedAt (d : Dev) (o c : Nat) : Nat :=
  let l := d.gateEntries o (d.scOut o).bank
  let (e, off) := d.gateAt o d.st.ns
  d.st.ns - (off + openRun c ((l.take e).reverse ++ (l.drop (e + 1)).reverse))

/-- The gate and the guard let a frame start now: one longer than every window of its class starts anyway in a window that opens
while it is at the head (R288, R294). -/
def Dev.gatePass (d : Dev) (o c : Nat) (f : Frame) : Bool :=
  flag (d.gatesOpen o) c && (!d.guardEn || !(d.overruns o c f.bytes)
    || (!(d.fits o f.bytes (d.longestWindow o c)) && decide (f.headNs ≤ d.openedAt o c)))

/-- The guard alone holds a frame back. -/
def Dev.guardHolds (d : Dev) (o c : Nat) (f : Frame) : Bool := flag (d.gatesOpen o) c && !(d.gatePass o c f)

/-! ### Eligibility (R228, R288) -/

/-- The flow of an output and class, where SC_QFLOW maps one (R297). -/
def Dev.queueFlow (d : Dev) (o c : Nat) : Option Nat :=
  if flag (d.rd rScQflow (8 * o + c)) 15 then some (d.fld rScQflow 0 14 (8 * o + c)) else none

/-- The flow of a queue lets its head start. -/
def Dev.flowPass (d : Dev) (o c : Nat) : Bool :=
  match d.queueFlow o c with
  | some f => d.flowOk f
  | none => true

/-- The Tun may be read: the frame is whole, or cut-through holds (R228). -/
def Dev.readable (d : Dev) (f : Frame) : Bool :=
  f.whole || (flag (d.rd rTnCtl) 0 && decide (f.input < 256) && decide (f.output < 256)
    && decide (d.portWidth f.output ≤ d.portWidth f.input))

/-- The output holds credit for a frame (R288). -/
def Dev.creditFor (d : Dev) (f : Frame) (cxl : Bool) : Bool :=
  if f.output < 256 then d.portUp f.output && (d.lkPort f.output).credit f.chan f.bytes
  else cxl && decide ((d.cxPort (f.output - 256)).link = .up)

/-- The channels of a class at an output, the escape channel first (R230, R289). -/
def chansOf (o c : Nat) : List Nat := if o < 256 then [2 * c + 1, 2 * c] else [c]

/-- The class of a channel at an output. -/
def classOf (o ch : Nat) : Nat := if o < 256 then ch / 2 else ch

/-- The eligible head of a class, of its channels in order (R288, R289). -/
def Dev.eligibleHead (d : Dev) (o c : Nat) (cxl : Bool) : Option Frame :=
  firstThat ((chansOf o c).filterMap (fun ch => d.head o ch)) (fun f =>
    d.readable f && d.gatePass o c f && d.flowPass o c && d.creditFor f cxl)

/-- A class is eligible. -/
def Dev.classOk (d : Dev) (o : Nat) (cxl : Bool) (c : Nat) : Bool := (d.eligibleHead o c cxl).isSome

/-- An output is sending: a frame has started and not yet left (R287). -/
def Dev.sending (d : Dev) (o : Nat) : Bool := d.tn.frames.any (fun f => f.output == o && f.started && !f.gone)

/-- A class has a frame queued. -/
def Dev.queued (d : Dev) (o c : Nat) : Bool := (chansOf o c).any (fun ch => (d.head o ch).isSome)

/-! ### The decision (R289 to R291) -/

/-- Bit c of STRICT. -/
def Dev.strict (d : Dev) (o c : Nat) : Bool := flag (d.fld rScPortCfg 0 8 0 o) c

/-- The charge of a frame in round robin (R291). -/
def Dev.rrCharge (d : Dev) (o n : Nat) : Nat := chargeOf n (d.fld rScPortCfg 8 9 0 o)

/-- WEIGHT of a class as it acts (R304). -/
def Dev.weight (d : Dev) (o c : Nat) : Nat := orOne (d.fld rScPortWeight (8 * c) 8 0 o)

/-- The deficits after a class is left: 0 where it has no frame queued (R290). -/
def Dev.leaveTurn (d : Dev) (o c : Nat) (x : ScOut) : ScOut :=
  { x with turn := none, at_ := (c + 1) % 8, deficit := if d.queued o c then x.deficit else Tbl.put 0 c 0 x.deficit }

/-- The turn of a class begins: its deficit grows by its weight (R290). -/
def Dev.beginTurn (d : Dev) (o c : Nat) (x : ScOut) : ScOut :=
  if x.turn.isSome then x
  else { x with turn := some c, deficit := Tbl.put 0 c (Tbl.get 0 x.deficit c + 256 * d.weight o c) x.deficit }

/-- Deficit round robin over the weighted classes with a frame queued: the class served next, and the state of the round (R290). -/
def Dev.roundRobin (d : Dev) (o : Nat) (cxl : Bool) : Nat → ScOut → Option Nat × ScOut
  | 0, x => (none, x)
  | n + 1, x =>
    let c := x.turn.getD x.at_
    if d.strict o c || !(d.queued o c) then d.roundRobin o cxl n (d.leaveTurn o c x)
    else
      let x := d.beginTurn o c x
      match d.eligibleHead o c cxl with
      | some f =>
        if d.rrCharge o f.bytes ≤ Tbl.get 0 x.deficit c then (some c, x) else d.roundRobin o cxl n (d.leaveTurn o c x)
      | none => d.roundRobin o cxl n (d.leaveTurn o c x)

/-- Visits of a round that suffice for the largest charge at the smallest weight. -/
def roundFuel : Nat := 256

/-- The class that the next decision serves, with the tier that named it: 0 burst, 1 strict, 2 weighted (R289). -/
def Dev.pick (d : Dev) (o : Nat) (cxl : Bool) : Option (Nat × Nat) × ScOut :=
  let x := d.scOut o
  match firstThat x.burst (fun b => d.classOk o cxl b.1) with
  | some b => (some (b.1, 0), x)
  | none =>
    match firstThat [7, 6, 5, 4, 3, 2, 1, 0] (fun c => d.strict o c && d.classOk o cxl c) with
    | some c => (some (c, 1), x)
    | none =>
      if (upFrom 0 8).any (d.classOk o cxl) then
        let (c, x) := d.roundRobin o cxl roundFuel x
        (c.map (fun c => (c, 2)), x)
      else (none, x)

/-- SENT counts the charge of a frame that starts on a fabric port (R252, R253). -/
def Dev.countSent (d : Dev) (f : Frame) : Dev :=
  let x := d.lkPort f.output
  d.setLk f.output { x with sent := Tbl.put 0 f.chan (add16 (Tbl.get 0 x.sent f.chan) (unitsOf f.bytes)) x.sent }

/-- A frame starts: it is read from the Tun and leaves, or goes on as cut-through; a link counts its units (R228, R241, R252,
R253, R287). -/
def Dev.startFrame (d : Dev) (f : Frame) : Dev :=
  match f.body with
  | .cxl c => ((d.emit (.cxl c)).countTx f.output f.bytes).leave f
  | .capture _ _ _ _ _ _ _ _ => (d.countTx f.output f.bytes).captureLeaves f
  | _ =>
    let d := (d.countSent f).sendFlits f
    if f.whole then (d.countTx f.output f.bytes).leave f else d.queueChanged f.output

/-- AGE_BURST in bytes (R301, R304). -/
def Dev.burstBytes (d : Dev) (o : Nat) : Nat := 1024 * orOne (d.fld rScPortCfg 17 6 0 o)

/-- What serving a class leaves in the scheduler: its deficit, its burst, and who was passed over (R290, R301). -/
def Dev.afterServe (d : Dev) (o c tier bytes : Nat) (eligible : List Nat) (x : ScOut) : ScOut :=
  let burst := x.burst.filterMap (fun (b : Nat × Nat × Bool) =>
    if b.1 = c then (if b.2.1 ≤ bytes then none else some (c, b.2.1 - bytes, true)) else some b)
  { x with
    deficit := if tier = 2 then Tbl.put 0 c (Tbl.get 0 x.deficit c - d.rrCharge o bytes) x.deficit else x.deficit,
    burst := burst, age := Tbl.put 0 c 0 x.age, served := x.served ||| 2 ^ c,
    passed := x.passed ||| ((eligible.filter (fun e => e != c)).foldl (fun n e => n + 2 ^ e) 0),
    weightedServed := x.weightedServed || !(d.strict o c), strictServed := x.strictServed || d.strict o c,
    weightedWaits := x.weightedWaits || eligible.any (fun e => e != c && !(d.strict o e)) }

/-- Flows and the guard hold heads back: held flows go on the wheel, and GUARD_HOLD is raised once in a tick (R294, R299). -/
def Dev.noteHeld (d : Dev) (o : Nat) : Dev :=
  let heads := ((upFrom 0 8).flatMap (fun c => chansOf o c)).filterMap (fun ch => d.head o ch)
  let d := forEach heads (fun f (d : Dev) => match d.queueFlow o (classOf o f.chan) with
    | some fl => if d.flowOk fl then d else d.holdFlow fl
    | none => d) d
  if !(d.scOut o).guardHeld && d.guardEn && heads.any (fun f => d.guardHolds o (classOf o f.chan) f) then
    (d.setSc o { d.scOut o with guardHeld := true }).raise evScGuardHold o
  else d

/-- A burst ends when its class, having begun to send, is no longer eligible (R301). -/
def Dev.endBursts (d : Dev) (o : Nat) (cxl : Bool) : Dev :=
  let x := d.scOut o
  d.setSc o { x with burst := x.burst.filter (fun b => !b.2.2 || d.classOk o cxl b.1) }

/-- SCHEDULER_DECISION: at a frame start, at network time `t`, the output's scheduler picks the next eligible frame; while a started
frame is still leaving there is none. `cxl` says that a CXL output holds the CXL flow-control credit (R287 to R291). -/
def Dev.decide_ (d : Dev) (o t : Nat) (cxl : Bool) : Dev :=
  let d := ((d.at_ t).noteHeld o).endBursts o cxl
  if d.sending o then d else
  let eligible := (upFrom 0 8).filter (d.classOk o cxl)
  match d.pick o cxl with
  | (some (c, tier), x) =>
    (match d.eligibleHead o c cxl with
     | some f =>
       let tooLong := d.overruns o c f.bytes
       let d := d.setSc o (d.afterServe o c tier f.bytes eligible x)
       let d := match d.queueFlow o c with | some fl => d.flowCharge fl f.bytes | none => d
       (d.startFrame f).raiseIf tooLong evScGateOverrun o
     | none => d)
  | (none, _) => d

/-! ### Gate switches and entries (R293, R295, R296) -/

/-- GATE_SWITCH_ARM: a write of SC_GATE_SWITCH with ARM 1 (R47, R293). -/
def Dev.gateArm (d : Dev) (o tick : Nat) : Dev :=
  let x := d.scOut o
  let b := 1 - x.bank
  let code := if tick < d.now + 2 then 1 else if x.armed.isSome then 2
    else if (d.gateEntries o b).any (fun e => e.2 == 0) then 3 else 0
  if code = 0 then d.setSc o { x with armed := some tick, refuse := 0 }
  else ((d.setSc o { x with refuse := code }).raise evScGateRefused o).refuse

/-- GATE_SWITCH: at tick n the inactive gate bank becomes active (R293). -/
def Dev.gateSwitch (d : Dev) (o : Nat) : Dev :=
  let x := d.scOut o
  match x.armed with
  | some n => if n ≤ d.now then (d.setSc o { x with bank := 1 - x.bank, armed := none }).raise evScGateSwitch o else d
  | none => d

/-- A class with a frame queued whose gate has stayed closed for a whole cycle: GATE_CLOSED_CYCLE once per cycle (R295). -/
def Dev.closedCycle (d : Dev) (o c : Nat) : Dev :=
  let x := d.scOut o
  if d.queued o c && !(flag (d.gatesOpen o) c) then
    match Tbl.get none x.closedAt c with
    | none => d.setSc o { x with closedAt := Tbl.put none c (some d.st.ns) x.closedAt }
    | some t =>
      if cycleOf (d.gateEntries o x.bank) ≤ d.st.ns - t then
        (d.setSc o { x with closedAt := Tbl.put none c (some d.st.ns) x.closedAt }).raise evScGateClosedCycle o
      else d
  else d.setSc o { x with closedAt := Tbl.put none c none x.closedAt }

/-- GATE_ENTRY_CHANGE: network time comes to the next entry of an output's bank (R292, R295). -/
def Dev.gateChange (d : Dev) (o t : Nat) : Dev := forEach (upFrom 0 8) (fun c d => d.closedCycle o c) (d.at_ t)

/-- A forward step of network time passes gate entries: GATE_SKIP for each output whose current entry it moves (R295). -/
def Dev.gateStep (d : Dev) (old : Nat) : Dev :=
  forEach d.outputs (fun o (d : Dev) =>
    let l := d.gateEntries o (d.scOut o).bank
    if (d.gateAt o old).1 ≠ (d.gateAt o d.st.ns).1 ∨ (1 < l.length ∧ cycleOf l ≤ d.st.ns - old) then
      (d.latch rScErrLatch (pack [(9, o), (4, 3)])).raise evScGateSkip o
    else d) d

/-! ### The pace wheel and bursts (R299 to R301) -/

/-- A flow's slot passes: it is entered again from where it was parked, or released; PACE_LATE more than one slot after its
TE (R299). Packets of the endpoints that the flow shapes go on. -/
def Dev.passFlow (d : Dev) (f : Nat) : Dev :=
  let x := d.flow f
  let late := decide (x.due + 1 < (d.st.ns / 8 : Nat))
  let d := d.setFlow f { x with slot := none, parked := false }
  if d.flowOk f then
    let d := d.raiseIf (late && !x.parked) evScPaceLate 0
    let mine := d.tp.msgs.filter (fun m => decide (d.msgFlow m = some f)
      && (decide (m.phase = .paced) || (decide (m.phase = .waiting) && m.id.isNone)))
    forEach mine (fun m (d : Dev) => if m.phase = .paced then
        (d.setMsg { m with phase := .sending }).pump m.num {} pumpFuel
      else d.firstSend m.dstNode) d
  else d.enterWheel f

/-- PACE_SLOT: network time comes to a slot, whose flows are released in ascending order (R299). -/
def Dev.paceSlot (d : Dev) (t : Nat) : Dev :=
  let d := d.at_ t
  let slot := d.st.ns / 8 % 4096
  forEach ((d.sc.flows.filter (fun (f : Nat × ScFlow) => decide (f.2.slot = some slot))).map (fun f => f.1))
    (fun f d => d.passFlow f) d

/-- AGE_LIMIT as it acts (R301). -/
def Dev.ageLimitSc (d : Dev) : Nat := orOne (d.fld rScCtl 0 8)

/-- AGE_BURST: a class whose count has reached AGE_LIMIT is granted a guaranteed burst; bursts stand in descending class
number (R301). -/
def Dev.ageBurst (d : Dev) (o c : Nat) : Dev :=
  let x := d.scOut o
  if d.ageLimitSc ≤ Tbl.get 0 x.age c ∧ x.burst.all (fun b => b.1 != c) then
    let b := (c, d.burstBytes o, false)
    let above := x.burst.filter (fun e => decide (c < e.1))
    let below := x.burst.filter (fun e => decide (e.1 < c))
    (d.setSc o { x with burst := above ++ [b] ++ below }).raise evScAgeBurst o
  else d

/-- ESC_HELD: a gate or a flow has held an escape frame for half of ESC_TIMEOUT, in local ticks (R301). -/
def Dev.escHeld (d : Dev) (p c : Nat) : Dev :=
  match d.head p (2 * c + 1) with
  | some f =>
    match f.headAt with
    | some _ =>
      if f.heldRaised = false ∧ orOne (d.fld rRtCtl 16 8) ≤ 2 * d.waited f.headLocal
          ∧ (d.gatePass p c f = false ∨ d.flowPass p c = false) then
        (d.setFrame { f with heldRaised := true }).raise evScEscHeld p
      else d
    | none => d
  | none => d

/-- The scheduler of an output at a tick boundary: runs of ticks passed over, checks that needed a burst, STRICT_HOG (R301,
R305). -/
def Dev.schedTick (d : Dev) (o : Nat) : Dev :=
  let x := d.scOut o
  let age (c : Nat) (t : Tbl Nat) : Tbl Nat :=
    Tbl.put 0 c (if flag x.passed c && !(flag x.served c) then Tbl.get 0 t c + 1 else 0) t
  let ages := forEach (upFrom 0 8) age x.age
  let need (c : Nat) (t : Tbl Nat) : Tbl Nat :=
    Tbl.put 0 c (if d.ageLimitSc ≤ Tbl.get 0 ages c then Tbl.get 0 t c + 1 else 0) t
  let needs := forEach (upFrom 0 8) need x.needRun
  let again := (upFrom 0 8).any (fun c => Tbl.get 0 needs c == 8)
  let d := (d.setSc o { x with
    age := ages, needRun := needs, passed := 0, served := 0, guardHeld := false, weightedWaits := false,
    weightedServed := false, strictServed := false }).raiseIf again evScAgeRepeat o
  let d := d.raiseIf (x.strictServed && x.weightedWaits && !x.weightedServed) evScStrictHog o
  forEach (upFrom 0 8) (fun c d => d.closedCycle o c) d

/-- Gates forced open by conservative mode (R296). -/
def Dev.forcedTick (d : Dev) : Dev :=
  let now := d.forcedOpen
  let d' := { d with sc := { d.sc with forced := now } }
  if now && !d.sc.forced then forEach d.outputs (fun o d => d.raise evScGatesForcedOpen o) d' else d'

/-- A flow entry fails its check: its frames pass unshaped (R300). -/
def Dev.flowParity (d : Dev) (f : Nat) : Dev :=
  ((d.latch rScErrLatch (pack [(9, 0), (4, 2), (14, f)])).wrFld rScFlowCfg 63 1 0 0 f).raise evScFlowParity 0

/-! ### The link layer at a boundary (R258, R263, R302) -/

/-- A class is starved: a frame of it waits, and want of credit or HOLD alone keeps it from starting on either channel (R263,
R302). -/
def Dev.starvedClass (d : Dev) (p c : Nat) : Bool :=
  let heads := (chansOf p c).filterMap (fun ch => d.head p ch)
  !heads.isEmpty && heads.all (fun f => !((d.lkPort p).credit f.chan f.bytes) && d.gatePass p c f && d.flowPass p c)

/-- The link layer at a tick boundary: HELLOs, the peer's life, starved classes, the holddown's return (R258, R263, R264,
R266). -/
def Dev.linkTick (d : Dev) (p : Nat) : Dev :=
  let x := d.lkPort p
  let aged := { x with heardBefore := x.heard, heard := false }
  match x.state with
  | .hello => (d.setLk p aged).sendHello p
  | .up =>
    let starved := (upFrom 0 8).filter (fun c => d.starvedClass p c)
    let run (c : Nat) (t : Tbl Nat) : Tbl Nat :=
      Tbl.put 0 c (if starved.contains c && x.alive then Tbl.get 0 x.starveRun c + 1 else 0) t
    d.setLk p { aged with
      silent := if x.alive then 0 else x.silent + 1, starved := starved.foldl (fun n c => n + 2 ^ c) 0, starveRun := forEach (upFrom 0 8) run x.starveRun,
      holddown := if 1024 < d.waited x.upAt then 0 else x.holddown }
  | _ => d.setLk p aged

/-! ### Registers (R304) -/

/-- SC_STATUS. -/
def Dev.scStatus (d : Dev) : Nat :=
  pack [(15, countWhere (upFrom 0 16384) (fun f => d.flowEn f)),
    (15, countWhere d.sc.flows (fun (f : Nat × ScFlow) => f.2.slot.isSome))]

/-- SC_GATE_SWITCH and SC_GATE_STATUS of an output. -/
def Dev.gateSwitchReg (d : Dev) (o : Nat) : Nat := (d.scOut o).armed.getD 0
def Dev.gateStatus (d : Dev) (o : Nat) : Nat :=
  let x := d.scOut o
  pack [(1, x.bank), (1, bit x.armed.isSome), (8, (d.gateAt o d.st.ns).1), (3, x.refuse), (8, d.gatesOpen o)]

/-- SC_FLOW_STATE of a flow. -/
def Dev.flowState (d : Dev) (f : Nat) : Nat :=
  let ok := d.flowOk f
  let wait := ((d.flow f).due - (d.st.ns / 8 : Nat)).toNat
  pack [(1, bit (ok && d.powered)), (1, bit (d.flow f).parked), (14, 0), (16, if ok then 0 else min 0xFFFF wait)]

end Sys2Proof.Machine
end

