-- ==== Sys2Proof/Machine/Cxl.lean ====
section
/-! DEFINITION. The CXL memory fabric: ports, virtual switches, CXL.mem requests and responses, Malthouse requests and the
binding table, hot add, removal and containment (R306 to R328). -/

namespace Sys2Proof.Machine

/-- Store it. -/
def Dev.setCx (d : Dev) (k : Nat) (x : CxPort) : Dev := { d with cx := { d.cx with ports := Tbl.put {} k x d.cx.ports } }

/-- A logical device of a port. -/
def Dev.ldOf (d : Dev) (k ld : Nat) : LdState := Tbl.get {} (d.cxPort k).lds ld

/-- Store it. -/
def Dev.setLd (d : Dev) (k ld : Nat) (x : LdState) : Dev :=
  d.setCx k { d.cxPort k with lds := Tbl.put {} ld x (d.cxPort k).lds }

/-- Latch a CXL error (R327). -/
def Dev.latchCx (d : Dev) (k reason host ld : Nat) : Dev :=
  d.latch rCxErrLatch (pack [(6, k), (2, 0), (4, reason), (5, host), (3, 0), (4, ld)])

/-- The vPPBs that are bound to a logical device of a port: host, vPPB and LD-ID. -/
def Dev.boundTo (d : Dev) (k : Nat) : List (Nat × Nat × Nat) :=
  d.cx.vppbs.filterMap (fun (p : Nat × Vppb) => match p.2.target with
    | some (q, ld) => if q = k then some (p.1 / 128, p.1 % 128, ld) else none
    | none => none)

/-! ### Frames across the switch (R30, R310, R313) -/

/-- A CXL frame enters the Tun from an input for a CXL output, in a class, with its bytes (R230, R235, R310). -/
def Dev.cxlFrame (d : Dev) (input output tc len : Nat) (f : CxlFrame) : Dev :=
  let d := (d.count (1344 + 4 * (input - 256) + 2) 1).count (1344 + 4 * (input - 256) + 3) len
  match d.charge input tc (cellsOf len) false with
  | none => (d.latchTn input 2 tc).raise evTnCreditOverrun input
  | some c =>
    (d.usePromise input tc c.shared).store
      { num := 0, input := input, output := output, chan := tc, tc := tc, bytes := len, body := .cxl f, rsv := c.rsv,
        shared := c.shared, floor := c.floor }

/-- A request that finds no memory: a read returns data with poison, a write completes with Cmp (R313, R322). -/
def Dev.poisonAnswer (d : Dev) (host tag : Nat) (read : Bool) : Dev := d.cxlAnswer host tag read none

/-- A read answered with poison after a removal: POISON_SENT where the removal has not raised it (R322; DEDUCED, log entry 208). -/
def Dev.poisonLate (d : Dev) (q : Nat) (read : Bool) : Dev :=
  if read && !(d.cxPort q).poisonTold then
    (d.setCx q { d.cxPort q with poisonTold := true }).raise evCxPoisonSent (256 + q)
  else d

/-- A decode miss (R313). -/
def Dev.decodeMiss (d : Dev) (k host tag : Nat) (read : Bool) : Dev :=
  ((d.poisonAnswer host tag read).latchCx k 3 host 0).raise evCxDecodeMiss (256 + k)

/-- CXL_MEM_REQUEST: a request of the host at port k, in class `tc`, of `len` frame bytes (R30, R313, R322, R330). -/
def Dev.memRequest (d : Dev) (k tc len : Nat) (m : MemOp) : Dev :=
  if d.cxRole k ≠ 1 ∨ (d.cxPort k).link ≠ .up ∨ d.cxPortHost k ≠ m.host then d
  else
    let read := m.write.isNone && !m.other
    match d.hdmRoute m.host m.hpa with
    | none => d.decodeMiss k m.host m.tag read
    | some v =>
      match (d.vppb m.host v).target with
      | none => d.decodeMiss k m.host m.tag read
      | some (q, ld) =>
        if q = 0xFF then
          if m.other then d.cxlAnswer m.host m.tag false none
          else (match d.winDpa m.host m.hpa, m.write with
           | some dpa, none => d.windowRead m.host m.tag dpa
           | some dpa, some (mask, data) => d.windowWrite m.host m.tag dpa mask data
           | none, _ => d.decodeMiss k m.host m.tag read)
        else if (d.cxPort q).link ≠ .up then (d.poisonAnswer m.host m.tag read).poisonLate q read
        else
          let x := d.cxPort q
          (d.setCx q { x with reqs := x.reqs ++ [MemReq.mk m.host m.tag ld read d.now false] }).cxlFrame (256 + k) (256 + q)
            tc len (.req q ld m.tag (bit (!read)) m.hpa m.write false)

/-- A request outstanding at a port is one of a host with a tag. -/
def MemReq.is (r : MemReq) (host tag : Nat) : Bool := r.host == host && r.tag == tag

/-- CXL_MEM_RESPONSE: port q answers a request; the response goes to its host, or is discarded (R30, R325). -/
def Dev.memResponse (d : Dev) (q host tag tc len : Nat) (poison : Bool) (data : Option Nat) : Dev :=
  let x := d.cxPort q
  match firstThat x.reqs (fun r => r.is host tag) with
  | none => d
  | some r =>
    let d := d.setCx q { x with reqs := removeFirst x.reqs (fun r => r.is host tag) }
    if r.orphan then d
    else match d.hostPort host with
      | some k => d.cxlFrame (256 + q) (256 + k) tc len (.rsp host tag poison data)
      | none => d

/-! ### Malthouse requests (R314 to R316) -/

/-- Requests outstanding at a port that a test accepts complete with poison or Cmp; POISON_SENT once (R322). -/
def Dev.poisonReqs (d : Dev) (k : Nat) (p : MemReq → Bool) : Dev :=
  let x := d.cxPort k
  let live := x.reqs.filter (fun r => p r && !r.orphan)
  (forEach live (fun (r : MemReq) d => d.poisonAnswer r.host r.tag r.read)
    (d.setCx k { x with reqs := x.reqs.filter (fun r => !(p r)) })).raiseIf (live.any (fun r => r.read)) evCxPoisonSent (256 + k)

/-- Fields of a request (R314). -/
def mhOp (w : Nat) : Nat := field w 0 8
def mhOpt (w : Nat) : Nat := field w 8 2
def mhAtTick (w : Nat) : Bool := flag w 10
def mhForce (w : Nat) : Bool := flag w 11
def mhTag (w : Nat) : Nat := field w 16 16
def mhHost (w : Nat) : Nat := field w 32 5
def mhVppb (w : Nat) : Nat := field w 40 8
def mhPort (w : Nat) : Nat := field w 48 8
def mhLd (w : Nat) : Nat := field w 56 4
def mhDpa (w : Nat) : Nat := field w 64 64
def mhLen (w : Nat) : Nat := field w 128 64
def mhTick (w : Nat) : Nat := field w 192 48
def mhRegion (w : Nat) : Nat := field w 240 3

/-- FORM of R316: OP, reserved bits and ranges. -/
def mhFormOk (w : Nat) : Bool :=
  decide (1 ≤ mhOp w) && decide (mhOp w ≤ 5) && decide (field w 12 4 = 0) && decide (mhOpt w ≠ 3)
    && (!(mhForce w) || mhOp w == 5) && decide (field w 37 3 = 0) && decide (field w 60 4 = 0)
    && decide (field w 243 13 = 0)
    && (if mhOp w ≤ 2 then decide (1 ≤ mhVppb w) && decide (mhVppb w ≤ 64) else true)
    && (if mhOp w = 1 ∧ mhPort w = 0xFF then mhLd w == 0 else if mhOp w = 2 then true else decide (mhPort w < 48))

/-- The source of a queue is in service (R313, R316). Forwarded requests have passed this check at the twin. -/
def Dev.mhSource (d : Dev) (queue : Nat) : Bool :=
  match queue with
  | 4 => flag (d.rd rCxMhCfg) 5
  | 5 => flag (d.rd rCxMhCfg) 6
  | 6 => flag (d.rd rCxMhCfg) 7
  | _ => true

/-- The logical device a request names: an UNBIND names what its vPPB is bound to. -/
def Dev.mhLdOf (d : Dev) (w : Nat) : Option (Nat × Nat) :=
  if mhOp w = 2 then (d.vppb (mhHost w) (mhVppb w)).target
  else if mhPort w = 0xFF then none else some (mhPort w, mhLd w)

/-- Two requests name the same host or logical device (R315). -/
def Dev.mhShares (d : Dev) (a b : Nat) : Bool :=
  (mhOp a != 3 && mhOp b != 3 && mhHost a == mhHost b)
    || (match d.mhLdOf a, d.mhLdOf b with | some x, some y => decide (x = y) && decide (x.1 ≠ 0xFF) | _, _ => false)

/-- The logical device exists and its port is in service (R316). -/
def Dev.mhExists (d : Dev) (w : Nat) : Bool :=
  mhPort w == 0xFF || (decide ((d.cxPort (mhPort w)).link = .up) && decide ((d.cxPort (mhPort w)).kind ≠ 3)
    && (d.ldOf (mhPort w) (mhLd w)).present)

/-- Capacity of the logical devices of a port other than one (R316). -/
def Dev.otherCapacity (d : Dev) (k ld : Nat) : Nat :=
  (d.cxPort k).lds.foldl (fun n (p : Nat × LdState) => if p.1 = ld then n else n + p.2.capacity) 0

/-- Two extents overlap. -/
def Extent.overlaps (e : Extent) (port ld dpa len : Nat) : Bool :=
  e.port == port && e.ld == ld && decide (e.dpa < dpa + len) && decide (dpa < e.dpa + e.len)

/-- CAPACITY of R316. -/
def Dev.mhCapacityOk (d : Dev) (w : Nat) : Bool :=
  let x := d.cxPort (mhPort w)
  if mhOp w = 3 then
    mhLen w % max 1 x.block == 0 && decide (d.otherCapacity (mhPort w) (mhLd w) + mhLen w ≤ x.total)
  else if mhOp w = 4 then
    (match x.regions.drop (mhRegion w) with
     | r :: _ => x.dcd && decide (0 < mhLen w) && mhLen w % max 1 r.block == 0 && (mhDpa w - r.base) % max 1 r.block == 0
         && decide (r.base ≤ mhDpa w) && decide (mhDpa w + mhLen w ≤ r.base + r.len)
         && !(d.cx.extents.any (fun e => e.overlaps (mhPort w) (mhLd w) (mhDpa w) (mhLen w)))
         && decide (d.cx.extents.length < 4096)
     | [] => false)
  else true

/-- The state of the vPPB or of the logical device's binding refuses a request (R316, R320). -/
def Dev.mhStateOk (d : Dev) (w : Nat) : Bool :=
  let v := d.vppb (mhHost w) (mhVppb w)
  match mhOp w with
  | 1 => decide (v.use = .unbound)
  | 2 => decide (v.use = .bound)
  | 3 => (d.ldOf (mhPort w) (mhLd w)).bound.isNone
  | _ => (d.ldOf (mhPort w) (mhLd w)).bound.elim false (fun b => b.1 == mhHost w)

/-- BIND of a logical device bound elsewhere, or of the window device where the host has it (R312). -/
def Dev.mhBoundElsewhere (d : Dev) (w : Nat) : Bool :=
  if mhPort w = 0xFF then (d.boundTo 0xFF).any (fun b => b.1 == mhHost w)
  else (d.ldOf (mhPort w) (mhLd w)).bound.isSome

/-- The first status of R316 that applies to a request as it is taken; 0 lets it proceed. -/
def Dev.mhStatus (d : Dev) (queue w : Nat) : Nat :=
  if !(mhFormOk w) then 1
  else if !(d.mhSource queue) then 2
  else if d.mirrorFull || decide (64 ≤ d.cx.work.length) || d.cx.work.any (fun x => d.mhShares x.raw w) then 3
  else if (mhOp w = 1 ∨ mhOp w = 4) ∧ (d.hostPort (mhHost w)).isNone then 4
  else if (mhOp w = 1 ∨ mhOp w = 2) ∧ d.mhStateOk w = false then 5
  else if mhOp w ≠ 2 ∧ d.mhExists w = false then
    (if 3 ≤ mhOp w ∧ (d.ldOf (mhPort w) (mhLd w)).present ∧ d.mhStateOk w = false then 5 else 6)
  else if 3 ≤ mhOp w ∧ d.mhStateOk w = false then 5
  else if mhOp w = 1 ∧ d.mhBoundElsewhere w then 7
  else if mhAtTick w ∧ mhTick w < d.now + 2 then 8
  else if !(d.mhCapacityOk w) then 9
  else 0

/-- The response of a request, to its queue or back to the twin that forwarded it (R314, R316, R367, R373). A queue number
from 16 on is 16 more than the SEQ of a forwarded request. -/
def Dev.mhRespond (d : Dev) (queue w status tick : Nat) : Dev :=
  let word := pack [(16, mhTag w), (8, status), (8, 0), (32, tick)]
  let d := if queue < 16 then d.emit (.mhResponse queue word)
    else d.mirror 7 12 0 (pack [(32, queue - 16), (64, word)])
  ({ d with cx := { d.cx with lastTag := mhTag w, lastStatus := status, lastTick := tick % 2 ^ 32 } }).raiseIf
    (decide (status ≠ 0)) evCxMhRefused 0

/-- A request in progress completes. -/
def Dev.mhComplete (d : Dev) (x : MhWork) (status : Nat) : Dev :=
  ({ d with cx := { d.cx with work := removeFirst d.cx.work (fun y => decide (y = x)) } }).mhRespond x.queue x.raw status
    d.now

/-- Replace a request in progress. -/
def Dev.setWork (d : Dev) (x y : MhWork) : Dev :=
  { d with cx := { d.cx with work := mapFirst d.cx.work (fun z => decide (z = x)) (fun _ => y) } }

/-- The lead of a mirrored change in ticks (R318). -/
def Dev.mirrorLead (d : Dev) : Nat :=
  let n := max 2 (d.fld rCxMhCfg 8 8)
  if d.st.conserv then max 16 n else n

/-- Stage a change for its boundary; on a twin pair it is mirrored, and a tick nearer than the lead is moved to it (R47, R317, R318;
DESIGN CHOICE, log entry 197). -/
def Dev.stageWork (d : Dev) (x : MhWork) (tick : Nat) : Dev :=
  if d.mirroring then
    let t := max tick (d.now + d.mirrorLead)
    let d' := d.mirror 1 32 t x.raw
    d'.setWork x { x with mirror := some d'.tw.seqTx, phase := .staged t }
  else d.setWork x { x with phase := .staged tick }

/-- An Add Capacity or Release Capacity event goes to the host (R324). -/
def Dev.offerExtent (d : Dev) (x : MhWork) : Dev :=
  (d.emit (.mediaEvent (mhHost x.raw) (mhDpa x.raw) (mhLen x.raw))).setWork x { x with phase := .dcWait d.now }

/-- Set what a vPPB is doing. -/
def Dev.vppbUse (d : Dev) (h v : Nat) (u : VppbUse) : Dev := d.setVppb h v { d.vppb h v with use := u, since := d.now }

/-- A request that passes its checks begins (R317, R319, R320, R324). -/
def Dev.mhBegin (d : Dev) (queue w : Nat) : Dev :=
  let tick := if mhAtTick w then mhTick w else d.now + 1
  let x : MhWork := ⟨queue, w, none, .staged tick⟩
  let d := { d with cx := { d.cx with work := d.cx.work ++ [x] } }
  match mhOp w with
  | 1 => (d.vppbUse (mhHost w) (mhVppb w) .binding).stageWork x tick
  | 2 =>
    let off := (d.vppb (mhHost w) (mhVppb w)).hostOff
    let d := d.vppbUse (mhHost w) (mhVppb w) .unbinding
    if mhOpt w = 2 ∨ off then d.stageWork x tick
    else if mhOpt w = 1 then d.setWork x { x with phase := .attention tick }
    else d.setWork x { x with phase := .hostWait d.now }
  | 3 => d.stageWork x tick
  | 4 => if mhAtTick w then d else d.offerExtent x
  | _ =>
    if mhForce w then d.stageWork x tick
    else if mhAtTick w then d else d.offerExtent x

/-- This device runs Malthouse for its pair (R367). -/
def Dev.runsMalthouse (d : Dev) : Bool := !d.pairEn || d.tw.primary

/-- BIND, UNBIND, LD_ALLOC, DC_ADD, DC_RELEASE: a request is taken from its queue (R313 to R320, R367, R376). The standby
forwards it to the primary while mirroring runs, and refuses it with BUSY otherwise. -/
def Dev.mhRequest (d : Dev) (queue w : Nat) : Dev :=
  if d.runsMalthouse then
    let status := d.mhStatus queue w
    if status = 0 then d.mhBegin queue w else d.mhRespond queue w status d.now
  else if !(mhFormOk w) then d.mhRespond queue w 1 d.now
  else if !(d.mhSource queue) then d.mhRespond queue w 2 d.now
  else if d.mirroring && !d.mirrorFull then
    let d := d.mirror 6 33 0 (w + 2 ^ 256 * queue)
    { d with cx := { d.cx with work := d.cx.work ++ [MhWork.mk queue w none (.forwarded d.tw.seqTx)] } }
  else d.mhRespond queue w 3 d.now

/-- The primary's response to a forwarded request arrives (R367, R373). -/
def Dev.mhAnswered (d : Dev) (seq word : Nat) : Dev :=
  match firstThat d.cx.work (fun x => decide (x.phase = .forwarded seq)) with
  | some x =>
    let d := { d with cx := { d.cx with
      work := removeFirst d.cx.work (fun y => decide (y = x)), lastTag := field word 0 16, lastStatus := field word 16 8,
      lastTick := field word 32 32 } }
    (d.emit (.mhResponse x.queue word)).raiseIf (decide (field word 16 8 ≠ 0)) evCxMhRefused 0
  | none => d

/-! ### Applying a change (R317, R319, R320, R324) -/

/-- The hot-plug causes: Presence Detect Changed and Data Link Layer State Changed (R317, R322). -/
def hpPresence : Nat := 1
def hpLink : Nat := 2
def hpAttention : Nat := 4

/-- A vPPB is routed to a target (R317). -/
def Dev.bindNow (d : Dev) (h v k ld : Nat) : Dev :=
  let d := d.setVppb h v
    { use := .bound, target := some (k, ld), presence := true, active := true, since := d.now }
  let d := if k = 0xFF then d else d.setLd k ld { d.ldOf k ld with bound := some (h, v) }
  (d.emit (.hotPlug h v (hpPresence + hpLink))).raise evCxBindDone 0

/-- A vPPB's binding is removed; with `dpc` it is contained (R319, R322). -/
def Dev.unbindNow (d : Dev) (h v : Nat) (dpc : Bool) : Dev :=
  let x := d.vppb h v
  let d := match x.target with
    | some (k, ld) => if k = 0xFF then d else d.setLd k ld { d.ldOf k ld with bound := none }
    | none => d
  (d.setVppb h v { dpc := dpc, since := d.now }).emit (.hotPlug h v hpPresence)

/-- An extent is held, or no longer held (R320, R324). -/
def Dev.addExtent (d : Dev) (w : Nat) : Dev :=
  ({ d with cx := { d.cx with
    extents := d.cx.extents ++ [Extent.mk (mhPort w) (mhLd w) (mhRegion w) (mhDpa w) (mhLen w)] } }).raise evCxDcChange 0
def Dev.dropExtent (d : Dev) (w : Nat) : Dev :=
  ({ d with cx := { d.cx with
    extents := d.cx.extents.filter (fun e => !(e.overlaps (mhPort w) (mhLd w) (mhDpa w) (mhLen w))) } }).raise evCxDcChange 0

/-- A vPPB is contained before its binding goes: its requests outstanding at the port complete (R319, R322). -/
def Dev.containVppb (d : Dev) (h v : Nat) : Dev :=
  match (d.vppb h v).target with
  | some (k, ld) => d.poisonReqs k (fun r => r.host == h && r.ld == ld)
  | none => d

/-- What a change does at its boundary. -/
def Dev.applyChange (d : Dev) (w : Nat) : Dev :=
  match mhOp w with
  | 1 => d.bindNow (mhHost w) (mhVppb w) (mhPort w) (mhLd w)
  | 2 =>
    let d := if mhOpt w = 2 then d.containVppb (mhHost w) (mhVppb w) else d
    (d.unbindNow (mhHost w) (mhVppb w) (mhOpt w == 2)).raise evCxUnbindDone 0
  | 3 =>
    (d.setLd (mhPort w) (mhLd w) { d.ldOf (mhPort w) (mhLd w) with capacity := mhLen w }).emit
      (.fmTunnel (mhPort w) (mhLd w) 3 (mhLen w))
  | 4 => d.addExtent w
  | _ => d.dropExtent w

/-- The request that undoes a change, to return its entries to their former value (R375). -/
def Dev.undoChange (d : Dev) (w : Nat) : Nat :=
  let op (n : Nat) : Nat := setField w 0 8 n
  match mhOp w with
  | 1 => op 2
  | 2 =>
    (match (d.vppb (mhHost w) (mhVppb w)).target with
     | some (k, ld) => setField (setField (op 1) 48 8 k) 56 4 ld
     | none => op 2)
  | 3 => setField w 128 64 (d.ldOf (mhPort w) (mhLd w)).capacity
  | 4 => op 5
  | _ => op 4

/-- The target of a request has been removed, and its bindings go at the boundary that applies the change (R321). -/
def Dev.targetGone (d : Dev) (w : Nat) : Bool :=
  match d.mhLdOf w with
  | some l => (d.cxPort l.1).removeAfter.isSome
  | none => false

/-- A request whose target has been removed completes with REMOVED (R316, R321, R322). -/
def Dev.mhRemoved (d : Dev) (x : MhWork) : Dev :=
  let d := if mhOp x.raw = 1 then d.setVppb (mhHost x.raw) (mhVppb x.raw) { since := d.now } else d
  d.mhComplete x 12

/-- BINDING_APPLY: the boundary of a staged change, or of a managed removal's attention, has come (R317, R319, R321). The
first such request of a queue with a TAG is meant. -/
def Dev.bindingApply (d : Dev) (queue tag : Nat) : Dev :=
  let due (x : MhWork) : Bool := x.queue == queue && mhTag x.raw == tag && (match x.phase with
    | .staged t => decide (t ≤ d.now) | .attention t => decide (t ≤ d.now) | _ => false)
  match firstThat d.cx.work due with
  | none => d
  | some x =>
    let h := mhHost x.raw
    let v := mhVppb x.raw
    if d.targetGone x.raw then d.mhRemoved x
    else match x.phase with
    | .attention _ =>
      ((d.setVppb h v { d.vppb h v with attention := true, since := d.now }).emit (.hotPlug h v hpAttention)).setWork x
        { x with phase := .hostWait d.now }
    | _ =>
      if (mhOp x.raw = 4 ∨ mhOp x.raw = 5) ∧ mhForce x.raw = false ∧ x.mirror.isNone then d.offerExtent x
      else (d.applyChange x.raw).mhComplete x 0

/-- A request to remove a vPPB that waits for host software. -/
def MhWork.waitsHost (x : MhWork) (h v : Nat) : Bool :=
  mhOp x.raw == 2 && mhHost x.raw == h && mhVppb x.raw == v && (match x.phase with
    | .hostWait _ => true | .attention _ => true | _ => false)

/-- The boundary at which a removal that has waited for host software applies: the next, or TICK where UNBIND_OPT 0 names a later one
(R317, R319; DEDUCED, log entry 209). -/
def Dev.actedTick (d : Dev) (w : Nat) : Nat := if mhAtTick w && mhOpt w == 0 then max (d.now + 1) (mhTick w) else d.now + 1

/-- UNBIND_HOST_ACTION: host software disables the vPPB's link or turns its slot power off (R319). -/
def Dev.unbindAction (d : Dev) (h v : Nat) : Dev :=
  let d := d.setVppb h v { d.vppb h v with hostOff := true }
  match firstThat d.cx.work (fun x => x.waitsHost h v) with
  | some x => d.stageWork x (d.actedTick x.raw)
  | none => d

/-- UNBIND_TIMEOUT: host software has not acted within UNBIND_TO (R319). -/
def Dev.unbindTimeout (d : Dev) (h v : Nat) : Dev :=
  match firstThat d.cx.work (fun x => x.waitsHost h v) with
  | some x =>
    (match x.phase with
     | .hostWait t =>
       if 1024 * orOne (d.fld rCxCtl 8 12) ≤ d.since t then
         let d := (d.setVppb h v { d.vppb h v with use := .bound, attention := false, since := d.now }).mhComplete x 10
         d.raise evCxUnbindTimeout (256 + (d.hostPort h).getD 0)
       else d
     | _ => d)
  | none => d

/-- The extent change that waits for a host. -/
def Dev.dcWork (d : Dev) (h : Nat) : Option MhWork :=
  firstThat d.cx.work (fun x => mhHost x.raw == h && (match x.phase with | .dcWait _ => true | _ => false))

/-- A host's decision changes an extent: at once, or on a twin pair at the boundary that both twins share (R318, R324). -/
def Dev.extentChange (d : Dev) (x : MhWork) : Dev :=
  if d.mirroring then d.stageWork x (d.now + 1) else (d.applyChange x.raw).mhComplete x 0

/-- The request that releases an extent, as a host's own release is mirrored (R314, R318). -/
def releaseOf (h : Nat) (e : Extent) : Nat :=
  pack [(8, 5), (8, 0), (16, 0), (8, h), (8, 0), (8, e.port), (8, e.ld), (64, e.dpa), (64, e.len), (48, 0), (8, e.region)]

/-- DC_HOST_RESPONSE: host software accepts (0), declines (1) or releases (2) an extent (R324). A release of a held extent
needs no request. -/
def Dev.dcResponse (d : Dev) (h action port ld dpa len : Nat) : Dev :=
  match d.dcWork h, action with
  | some x, 0 => if mhOp x.raw = 4 then d.extentChange x else d
  | some x, 1 => if mhOp x.raw = 4 then (d.raise evCxDcChange 0).mhComplete x 11 else d
  | some x, 2 => if mhOp x.raw = 5 then d.extentChange x else d
  | none, 2 =>
    (match firstThat d.cx.extents (fun e => e.port == port && e.ld == ld && e.dpa == dpa && e.len == len) with
     | some e =>
       if (d.ldOf port ld).bound.elim false (fun b => b.1 == h) then
         let d := d.dropExtent (releaseOf h e)
         if d.mirroring then d.mirror 1 32 0 (releaseOf h e) else d
       else d
     | none => d)
  | _, _ => d

/-- DC_TIMEOUT: host software has not answered within DC_TO; an offered extent is reclaimed (R324). -/
def Dev.dcTimeout (d : Dev) (h : Nat) : Dev :=
  match d.dcWork h with
  | some x =>
    (match x.phase with
     | .dcWait t =>
       if 1024 * orOne (d.fld rCxCtl 20 12) ≤ d.since t then
         (d.raiseIf (mhOp x.raw == 4) evCxDcChange 0).mhComplete x 10
       else d
     | _ => d)
  | none => d

/-! ### Removal and containment (R309, R321 to R323) -/

/-- Frames queued for a CXL output are discarded (R322, R325). -/
def Dev.discardQueue (d : Dev) (out : Nat) : Dev :=
  forEach (d.tn.frames.filter (fun f => !f.gone && f.output == out)) (fun f d => d.leave f) d

/-- A device-facing port is contained (R322). -/
def Dev.contain (d : Dev) (k : Nat) (link : CxLink) : Dev :=
  let d := d.discardQueue (256 + k)
  let told := (d.cxPort k).reqs.any (fun r => r.read && !r.orphan)
  let d := d.poisonReqs k (fun _ => true)
  let d := d.setCx k { d.cxPort k with link := link, rate := 0, width := 0, removeAfter := some d.now, poisonTold := told }
  (d.latchCx k 1 0 0).raise evCxSurpriseRemoval (256 + k)

/-- A bound vPPB of the port is in a managed removal (R328). -/
def Dev.managedRemoval (d : Dev) (k : Nat) : Bool :=
  (d.boundTo k).any (fun b => decide ((d.vppb b.1 b.2.1).use = .unbinding))

/-- SURPRISE_REMOVAL: a device-facing port's data link goes down (`link`), or its presence or its slot's power is lost (R309,
R322). -/
def Dev.surprise (d : Dev) (k : Nat) (link : Bool) : Dev :=
  if d.cxRole k = 2 ∧ (d.cxPort k).link = .up then
    (d.raiseIf (link && !(d.managedRemoval k)) evCxCxlLinkDown (256 + k)).contain k .contained
  else d

/-- A slot turns off, trips or loses power-good: the port that names it is removed (R309). -/
def Dev.slotLost (d : Dev) (slot : Nat) : Dev :=
  forEach ((upFrom 0 48).filter (fun k => flag (d.rd rCxPortCfg k) 22 && d.fld rCxPortCfg 17 5 k == slot))
    (fun k d => d.surprise k false) d

/-- CONTAINMENT_UNBIND: at the next boundary the bindings of a contained port are removed, DPC triggered, and requests in
progress complete with REMOVED (R321, R322). -/
def Dev.containUnbind (d : Dev) (k : Nat) : Dev :=
  match (d.cxPort k).removeAfter with
  | none => d
  | some t =>
    if d.since t = 0 then d
    else
      let d := forEach (d.cx.work.filter (fun x => match d.mhLdOf x.raw, x.phase with
        | _, .forwarded _ => false | some l, _ => l.1 == k | none, _ => false)) (fun x d => d.mhRemoved x) d
      let d := forEach (d.boundTo k) (fun (b : Nat × Nat × Nat) d => d.unbindNow b.1 b.2.1 true) d
      let d := { d with cx := { d.cx with extents := d.cx.extents.filter (fun e => e.port != k) } }
      d.setCx k { d.cxPort k with lds := [], ldCount := 0, kind := 0, dcd := false, regions := [], removeAfter := none }

/-- MEM_TIMEOUT: a request has not been answered within MEM_TO; the third on one port within a tick is a removal (R323). -/
def Dev.memTimeout (d : Dev) (k host tag : Nat) : Dev :=
  let x := d.cxPort k
  match firstThat x.reqs (fun r => r.is host tag) with
  | some r =>
    if orOne (d.fld rCxCtl 0 8) ≤ d.since r.since then
      let d := d.setCx k { x with reqs := removeFirst x.reqs (fun r => r.is host tag), timeouts := x.timeouts + 1 }
      let d := if r.orphan then d else d.poisonAnswer host tag r.read
      let d := (d.latchCx k 2 host r.ld).raise evCxMemTimeout (256 + k)
      if 3 ≤ x.timeouts + 1 then d.surprise k false else d
    else d
  | none => d

/-- CONTAIN_CLEAR: a write of CX_PORT_CTL (R322, R327). -/
def Dev.containClear (d : Dev) (k : Nat) : Dev :=
  if d.cxRole k = 0 then d.refuse
  else if (d.cxPort k).link = .contained then d.setCx k { d.cxPort k with link := .training } else d

/-- A host-facing port goes down: the responses to its host's requests are discarded, its queued frames too, its bindings go where
HOST_DOWN_RELEASE says so, and its function is reset (R325). -/
def Dev.hostDown (d : Dev) (k : Nat) (link : CxLink) : Dev :=
  let h := d.cxPortHost k
  let d := forEach (Tbl.keys d.cx.ports) (fun q (d : Dev) =>
    let x := d.cxPort q
    d.setCx q { x with reqs := mapWhere x.reqs (fun r => r.host == h) (fun r => { r with orphan := true }) }) d
  let d := d.discardQueue (256 + k)
  let d := d.setCx k { d.cxPort k with link := link, rate := 0, width := 0 }
  let d := (d.latchCx k 6 h 0).raise evCxHostDown (256 + k)
  let d := if flag (d.rd rCxMhCfg) 16 && d.runsMalthouse then
      forEach ((upFrom 1 64).filter (fun v => decide ((d.vppb h v).use = .bound))) (fun v d =>
        d.mhBegin 7 (pack [(8, 2), (8, 2), (16, 0), (8, h), (8, v)])) d
    else d
  d.resetFn h

/-- HOST_DOWN: a host-facing port's link goes down (R325). -/
def Dev.hostLinkDown (d : Dev) (k : Nat) : Dev :=
  if d.cxRole k = 1 ∧ (d.cxPort k).link = .up then d.hostDown k .training else d

/-- A port is taken out of service: contained, or handled as a host link down (R322, R325, R326, R408). -/
def Dev.stopCx (d : Dev) (k : Nat) (link : CxLink) : Dev :=
  if (d.cxPort k).link = .up then
    (if d.cxRole k = 2 then d.contain k link else if d.cxRole k = 1 then d.hostDown k link
     else d.setCx k { d.cxPort k with link := link })
  else d.setCx k { d.cxPort k with link := link }

/-- ENABLE and HOLD of CX_PORT_CTL after a write (R327). -/
def Dev.cxPortCtl (d : Dev) (k : Nat) : Dev :=
  let may := flag (d.rd rCxPortCtl k) 0 && !(flag (d.rd rCxPortCtl k) 2) && decide (d.cxRole k ≠ 0)
  match (d.cxPort k).link with
  | .disabled => if may then d.setCx k { d.cxPort k with link := .training } else d
  | .fenced => d
  | _ => if may then d else d.stopCx k .disabled

/-- The ports of a CXL tile (R19). -/
def Dev.cxTilePorts (d : Dev) (tile : Nat) : List Nat :=
  (upFrom 0 48).filter (fun k => decide (d.cxRole k ≠ 0) && d.fld rCxPortCfg 0 7 k / 64 == tile)

/-- Every port of a CXL tile is fenced (R326, R408). -/
def Dev.fenceCxTile (d : Dev) (tile : Nat) : Dev :=
  let d := { d with cx := { d.cx with fencedTiles := setField d.cx.fencedTiles tile 1 1 } }
  forEach (d.cxTilePorts tile) (fun k d => d.stopCx k .fenced) d

/-- CXL_D2D_FAULT (R326). -/
def Dev.cxlD2d (d : Dev) (tile : Nat) : Dev :=
  ((d.latchCx ((d.cxTilePorts tile).headD 0) 5 0 0).fenceCxTile tile).raise evCxD2dFault tile

/-- A fenced port is released and trains again (R408). -/
def Dev.releaseCx (d : Dev) (k : Nat) : Dev :=
  if (d.cxPort k).link = .fenced then
    (d.setCx k { d.cxPort k with link := .disabled }).cxPortCtl k
  else d

/-- A CXL tile is released. -/
def Dev.releaseCxTile (d : Dev) (tile : Nat) : Dev :=
  let d := { d with cx := { d.cx with fencedTiles := setField d.cx.fencedTiles tile 1 0 } }
  forEach (d.cxTilePorts tile) (fun k d => d.releaseCx k) d

/-! ### Training (R306, R307, R324) -/

/-- LINK_DEGRADED: a port trained below 64 GT/s or below its width (R307). -/
def Dev.degraded (d : Dev) (k rate width : Nat) : Dev :=
  d.raiseIf (decide (rate < 3) || decide (width < d.outLanes (256 + k))) evCxLinkDegraded (256 + k)

/-- A trigger of the policy section: the requests of its records come to queue 6 (R86, R313, R324, R465). -/
def Dev.queuePolicy (d : Dev) (trigger : Nat) : Dev :=
  forEach (d.cx.policy.filter (fun w => field w 0 8 == trigger)) (fun _ d => d.mqPut 6 false) d

/-- CXL_PORT_TRAINED: a device-facing port trains and Malthouse identifies the device (R306, R307, R322, R324). -/
def Dev.cxTrained (d : Dev) (k : Nat) (p : CxPartner) : Dev :=
  let x := d.cxPort k
  if d.cxRole k ≠ 2 ∨ (x.link ≠ .training ∧ x.link ≠ .contained) ∨ x.removeAfter.isSome then d
  else if !p.accepted then
    ((d.setCx k { x with link := .training, kind := 3 }).latchCx k 4 0 0).raise evCxDeviceRefused (256 + k)
  else
    let lds := forEach (upFrom 0 p.lds.length) (fun i (t : Tbl LdState) =>
      Tbl.put {} i (LdState.mk true none (p.lds.getD i 0)) t) []
    let d := d.setCx k { x with
      link := .up, rate := p.rate, width := p.width, kind := if p.mld then 2 else 1, dcd := p.dcd, ldCount := p.lds.length,
      total := p.total, block := p.block, regions := p.regions, lds := lds, reqs := [], timeouts := 0,
      poisonTold := false }
    let d := ((d.degraded k p.rate p.width)).raise evCxDevAdded (256 + k)
    if d.mhSource 6 then d.queuePolicy k else d

/-- HOST_PORT_TRAINED: the partner of a host-facing port trains; one that R306 does not support shows no rate and is held in
link down (R306, R307). -/
def Dev.hostTrained (d : Dev) (k : Nat) (rate : Option Nat) (width : Nat) : Dev :=
  let x := d.cxPort k
  if d.cxRole k = 1 ∧ x.link = .training then
    match rate with
    | none => (d.latchCx k 4 (d.cxPortHost k) 0).raise evCxDeviceRefused (256 + k)
    | some rate => (d.setCx k { x with link := .up, rate := rate, width := width }).degraded k rate width
  else d

/-! ### CXL.io (R30, R311, R313) -/

/-- CXL_IO_REQUEST (R30, R81, R311, R313, R330). -/
def Dev.ioRequest (d : Dev) (k : Nat) (r : IoReq) : Dev :=
  if d.cxRole k ≠ 1 ∨ (d.cxPort k).link ≠ .up then d
  else
    let h := d.cxPortHost k
    let put (x : CxHost) : Dev := { d with cx := { d.cx with hosts := Tbl.put {} h x d.cx.hosts } }
    let x := d.cxHost h
    match r with
    | .setDecoder n v => if n < 32 then put { x with decoders := Tbl.put none n v x.decoders } else d
    | .setWinDecoder n v => put { x with winDecoders := Tbl.put none n v x.winDecoders }
    | .setBars l => put { x with bars := l }
    | .functionReset => d.resetFn h
    | .forVppb v id tc len =>
      (match (d.vppb h v).target with
       | none => d.emit (.cxl (.unsupported h id))
       | some (q, _) =>
         if q = 0xFF then d
         else if (d.cxPort q).link = .up then d.cxlFrame (256 + k) (256 + q) tc len (.io q h id)
         else d.emit (.cxl (.unsupported h id)))

/-! ### Registers (R327) -/

/-- CX_STATUS, CX_MH_STATUS, CX_PORT_STATE, CX_VPPB_STATE and CX_LD_STATE. -/
def Dev.cxStatus (d : Dev) : Nat :=
  let up (p : Nat × CxPort) : Bool := decide (p.2.link = .up)
  pack [(6, countWhere d.cx.ports up), (6, countWhere d.cx.ports (fun p => up p && d.cxRole p.1 == 1)),
    (12, countWhere d.cx.vppbs (fun (v : Nat × Vppb) => v.2.target.isSome)),
    (10, d.cx.ports.foldl (fun n (p : Nat × CxPort) => n + countWhere p.2.lds (fun (l : Nat × LdState) => l.2.present)) 0),
    (13, d.cx.extents.length), (2, d.cx.fencedTiles)]
def Dev.cxMhStatus (d : Dev) : Nat :=
  pack [(8, d.cx.work.length), (16, d.cx.lastTag), (8, d.cx.lastStatus), (32, d.cx.lastTick)]
def Dev.cxPortState (d : Dev) (k : Nat) : Nat :=
  let x := d.cxPort k
  pack [(3, x.link.code), (2, x.rate), (5, x.width), (2, x.kind), (1, bit x.dcd), (5, x.ldCount)]
def Dev.vppbState (d : Dev) (h v : Nat) : Nat :=
  let x := d.vppb h v
  let t := x.target.getD (0, 0)
  pack [(2, x.use.code), (1, bit x.isWindow), (6, if x.isWindow then 0 else t.1), (4, t.2), (1, bit x.dpc), (48, x.since)]
def Dev.ldState (d : Dev) (k ld : Nat) : Nat :=
  let x := d.ldOf k ld
  let b := x.bound.getD (0, 0)
  pack [(1, bit x.present), (1, bit x.bound.isSome), (5, b.1), (7, b.2), (2, 0), (32, x.capacity / 2 ^ 28),
    (13, countWhere d.cx.extents (fun e => e.port == k && e.ld == ld))]

end Sys2Proof.Machine
end

