-- ==== Sys2Proof/Machine/Slots.lean ====
section
/-! DEFINITION. Slot power: hot swap, fuses, power-good, feeds and feed groups, measurement and ownership (R343 to R366). -/

namespace Sys2Proof.Machine

/-- A slot, and storing it. -/
def Dev.slot (d : Dev) (s : Nat) : SpSlot := Tbl.get {} d.sp.slots s
def Dev.setSlot (d : Dev) (s : Nat) (x : SpSlot) : Dev := { d with sp := { d.sp with slots := Tbl.put {} s x d.sp.slots } }

/-- A feed group, and storing it. -/
def Dev.group (d : Dev) (g : Nat) : SpGroup := Tbl.get {} d.sp.groups g
def Dev.setGroup (d : Dev) (g : Nat) (x : SpGroup) : Dev := { d with sp := { d.sp with groups := Tbl.put {} g x d.sp.groups } }

/-- PRESENT, PIN_MODE and CMD_EN of a slot (R365). -/
def Dev.slotPresent (d : Dev) (s : Nat) : Bool := flag (d.rd rSpSlotCfg s) 17
def Dev.slotPinMode (d : Dev) (s : Nat) : Bool := flag (d.rd rSpSlotCfg s) 16
def Dev.slotCmdEn (d : Dev) (s : Nat) : Bool := flag (d.rd rSpSlotCtl s) 0

/-- A slot is wanted on (R346). -/
def Dev.slotWanted (d : Dev) (s : Nat) : Bool :=
  d.slotPresent s && d.slotCmdEn s && (!(d.slotPinMode s) || (d.slot s).pinEn)

/-- SLOT_WARN_N is low: released only while ON with PG, no input warning and no pulse (R346, R351, R353, R356). -/
def Dev.slotWarn (d : Dev) (s : Nat) : Bool :=
  let x := d.slot s
  !(decide (x.use = .on) && x.pg && !x.inputWarn && decide (x.pulseEnd ≤ d.st.boundaries))

/-- Latch a slot-power error (R365). -/
def Dev.latchSp (d : Dev) (unit_ : Nat) (group : Bool) (reason : Nat) : Dev :=
  d.latch rSpErrLatch (pack [(5, unit_), (1, bit group), (4, reason)])

/-- A slot takes a state. -/
def Dev.slotTo (d : Dev) (s : Nat) (u : SlotUse) : Dev := d.setSlot s { d.slot s with use := u, since := d.now }

/-- Power-good is retracted; a port that names the slot is removed (R309, R351). The pulse of 100 µs ends at the 99th boundary,
the first that is never too early at a tick of 1.024 µs (DESIGN CHOICE, log entry 200). -/
def Dev.retractPg (d : Dev) (s : Nat) : Dev :=
  let x := d.slot s
  if x.pg then
    ((d.setSlot s { x with pg := false, pulseEnd := d.st.boundaries + 99 }).raise evSpPgRetracted s).slotLost s
  else d

/-- A slot in OFF that is wanted on, and owned, ramps (R345, R346); a warm start holds the gates as they stand (R459). -/
def Dev.tryRamp (d : Dev) (s : Nat) : Dev :=
  if (d.slot s).use = .off ∧ (d.slot s).owned ∧ d.slotWanted s ∧ d.bt.slotsHeld = false then d.slotTo s .ramp else d

/-- The gate turns off and the slot reaches OFF by command, pin or SLOT_OFF (R353, R366). -/
def Dev.slotToOff (d : Dev) (s : Nat) : Dev :=
  (((d.retractPg s).slotTo s .off).raise evSpSlotOff s).slotLost s

/-- A slot that is no longer wanted on in RAMP or ON warns first; with WARN_LEAD 0 it turns off at once (R353). -/
def Dev.slotUnwanted (d : Dev) (s : Nat) : Dev :=
  let u := (d.slot s).use
  if (u = .ramp ∨ u = .on) ∧ d.slotWanted s = false ∧ d.bt.slotsHeld = false then
    if d.fld rSpCtl 0 8 = 0 then d.slotToOff s else (d.retractPg s).slotTo s .warnWait
  else d

/-- An enable toggle clears the latch of a tripped slot and releases its fence (R352, R408). -/
def Dev.slotToggle (d : Dev) (s : Nat) : Dev :=
  if (d.slot s).use = .latched then
    ((d.setSlot s { d.slot s with reason := 0 }).slotTo s .off).clearFence .slot s
  else d

/-- The event of a trip reason. -/
def tripEvent (reason : Nat) : Nat :=
  match reason with
  | 1 => evSpOvercurrentTrip | 2 => evSpShortTrip | 3 => evSpRampTimeout | _ => evSpGateFault

/-- A slot trips: its gate is off, it is LATCHED, and power-good is retracted in the same cycle (R351, R352). -/
def Dev.slotTrip (d : Dev) (s reason : Nat) : Dev :=
  let d := d.retractPg s
  let x := d.slot s
  let d := (d.setSlot s { x with
    reason := reason, oringA := x.oringA && decide (reason ≠ 4), oringB := x.oringB && decide (reason ≠ 4) }).slotTo s .latched
  ((d.latchSp s false reason).raise (tripEvent reason) s).slotLost s

/-- This device drives the slot's gates. -/
def Dev.drives (d : Dev) (s : Nat) : Bool :=
  (d.slot s).owned && decide ((d.slot s).use ≠ .standby) && !d.sp.released

/-- OVERCURRENT_TRIP: the fault timer reaches FAULT_TIME (R348). -/
def Dev.overcurrent (d : Dev) (s : Nat) : Dev :=
  match (d.slot s).use with
  | .ramp | .on | .warnWait => if d.drives s then d.slotTrip s 1 else d
  | _ => d

/-- SHORT_TRIP: the short comparator fires, in every state; on a channel in STANDBY it only pulls the gate down (R349,
R361). -/
def Dev.shortTrip (d : Dev) (s : Nat) : Dev :=
  if d.drives s then d.slotTrip s 2 else d.setSlot s { d.slot s with gateOn := false }

/-- RAMP_TIMEOUT: RAMP_TO elapses before the ramp ends (R347). -/
def Dev.rampTimeout (d : Dev) (s : Nat) : Dev := if (d.slot s).use = .ramp ∧ d.drives s then d.slotTrip s 3 else d

/-- GATE_FAULT: current flows for 10 µs with the gate commanded off (R354). -/
def Dev.gateFault (d : Dev) (s : Nat) : Dev :=
  match (d.slot s).use with
  | .off | .latched => if d.drives s then d.slotTrip s 4 else d
  | _ => d

/-- SLOT_ON: the output has stayed at PG_ON for PG_DELAY after the ramp; a fault of the same cycle, named by its reason, wins
(R350). -/
def Dev.slotOn (d : Dev) (s fault : Nat) : Dev :=
  let x := d.slot s
  if (x.use = .ramp ∨ (x.use = .on ∧ x.pg = false)) ∧ d.drives s then
    if fault = 0 then
      (if x.use = .on then d.setSlot s { x with pg := true } else (d.setSlot s { x with pg := true }).slotTo s .on).raise
        evSpSlotOn s
    else (d.slotTrip s fault).raise evSpPgRefused s
  else d

/-- OUTPUT_UV: the output falls below UV_OUT after power-good (R351). -/
def Dev.outputUv (d : Dev) (s : Nat) : Dev := if (d.slot s).pg then (d.retractPg s).raise evSpOutputUv s else d

/-- WARN_LEAD_EXPIRY (R353). -/
def Dev.warnExpiry (d : Dev) (s : Nat) : Dev :=
  if (d.slot s).use = .warnWait ∧ d.bt.slotsHeld = false then (d.slotToOff s).tryRamp s else d

/-- SLOT_EN_PIN: SLOT_EN_N changes through its 10 µs filter (R346, R352). -/
def Dev.slotPin (d : Dev) (s : Nat) (low : Bool) : Dev :=
  let d := d.setSlot s { d.slot s with pinEn := low }
  if low then d.tryRamp s
  else if d.slotPinMode s then (d.slotToggle s).slotUnwanted s
  else d

/-- An accepted write of an SP register is mirrored: its offset and value (R361, R373). -/
def Dev.mirrorSp (d : Dev) (offset value : Nat) : Dev :=
  if d.mirroring then d.mirror 2 12 0 (pack [(32, offset), (64, value)]) else d

/-- The value of CMD_EN is set, with what the change does (R346, R352, R353). -/
def Dev.cmdEnNow (d : Dev) (s : Nat) (v : Bool) : Dev :=
  let was := d.slotCmdEn s
  let d := d.wrFld rSpSlotCtl 0 1 (bit v) s
  if v then d.tryRamp s else if was then (d.slotToggle s).slotUnwanted s else d

/-- OFF_NOW: the gate is pulled off within 1 µs without the lead, and CMD_EN clears (R353). -/
def Dev.offNow (d : Dev) (s : Nat) : Dev :=
  let d := d.wrFld rSpSlotCtl 0 1 0 s
  match (d.slot s).use with
  | .ramp | .on | .warnWait => d.slotToOff s
  | _ => d

/-- SLOT_CMD_EN: a write of CMD_EN, refused on a channel that this device does not own (R352, R361). -/
def Dev.slotCmd (d : Dev) (s : Nat) (v : Bool) : Dev :=
  if (d.slot s).owned then (d.cmdEnNow s v).mirrorSp (0x1010 + 64 * s) (bit v) else d.refuse

/-- SLOT_OFF_NOW: a write of OFF_NOW 1 with a value of CMD_EN; CMD_EN 0 written while it is 1 is also an enable toggle
(R352, R353, R361). -/
def Dev.slotOffNow (d : Dev) (s : Nat) (cmdEn : Bool) : Dev :=
  if (d.slot s).owned then
    let toggle := d.slotCmdEn s && !cmdEn
    let d := d.offNow s
    (if toggle then d.slotToggle s else d).mirrorSp (0x1010 + 64 * s) (2 + bit cmdEn)
  else d.refuse

/-! ### Feeds and groups (R355, R356, R358, R359) -/

/-- SHARE_A as it acts (R358). -/
def Dev.shareA (d : Dev) (g : Nat) : Nat :=
  let v := d.fld rSpFgCfg 0 8 g
  if v = 0 then 0 else if 100 ≤ v then 100 else max 10 (min 90 v)

/-- The bulk switches are on (R355, R358, R359). -/
def Dev.bulkA (d : Dev) (g : Nat) : Bool :=
  let x := d.group g
  flag (d.rd rSpFgCfg g) 38 && !x.latched && !x.lostA && !x.revA && decide (d.shareA g ≠ 0)
def Dev.bulkB (d : Dev) (g : Nat) : Bool :=
  let x := d.group g
  flag (d.rd rSpFgCfg g) 38 && !x.latched && !x.lostB && !x.revB && decide (d.shareA g ≠ 100)

/-- FEED_LOST: a feed falls below 10.8 V; raised once for the group, not for each of its slots (R355). -/
def Dev.feedLost (d : Dev) (g : Nat) (feedB : Bool) : Dev :=
  let x := d.group g
  let d := d.setGroup g (if feedB then { x with lostB := true } else { x with lostA := true })
  d.raiseIf (if feedB then !x.lostB else !x.lostA) evSpFeedLost g

/-- ORING_REVERSE: reverse current turns an ORing MOSFET of a slot, or a bulk switch of a group, off (R355). -/
def Dev.oringReverse (d : Dev) (bulk : Bool) (n : Nat) (feedB : Bool) : Dev :=
  if bulk then d.setGroup n (if feedB then { d.group n with revB := true } else { d.group n with revA := true })
  else d.setSlot n (if feedB then { d.slot n with oringB := false } else { d.slot n with oringA := false })

/-- FEED_RESTORED: a lost feed or group rail returns: its switches conduct again, trims resume and the input warnings of the
group's slots end (R355, R356). -/
def Dev.feedRestored (d : Dev) (g : Nat) (feedB : Bool) : Dev :=
  let x := d.group g
  let d := d.setGroup g (if feedB then { x with lostB := false, revB := false } else { x with lostA := false, revA := false })
  forEach (upFrom (8 * g) 8) (fun s (d : Dev) =>
    let y := d.slot s
    d.setSlot s { y with
      inputWarn := false, oringA := if feedB then y.oringA else decide (y.reason ≠ 4),
      oringB := if feedB then decide (y.reason ≠ 4) else y.oringB }) d

/-- INPUT_WARN: both rails of a slot's group fall below its WARN_LEVEL (R356). -/
def Dev.inputWarn (d : Dev) (s : Nat) : Dev :=
  if (d.slot s).inputWarn then d else (d.setSlot s { d.slot s with inputWarn := true }).raise evSpInputWarn s

/-- The share of the current that feed A carries, in percent (R365). -/
def shareNow (iA iB : Nat) : Nat := if iA + iB = 0 then Config.idleShare % 101 else 100 * iA / (iA + iB)

/-- Distance of two percentages. -/
def points (a b : Nat) : Nat := (a - b) + (b - a)

/-- FEED_TRIM: every 1 µs the group's currents are measured, and the drop of the feed above its share grows by up to 250 mV
until the share is within 5 points; the trim is suspended while a feed is off (R358). -/
def Dev.feedTrim (d : Dev) (g iA iB : Nat) : Dev :=
  let x := d.group g
  let share := shareNow iA iB
  let x := { x with iA := iA, iB := iB, share := share }
  let target := d.shareA g
  if d.bulkA g && d.bulkB g && x.owned && decide (5 < points share target) then
    let step := Config.feedTrim iA iB target
    if target < share then d.setGroup g { x with trimA := min 250 (x.trimA + step), trimB := 0 }
    else d.setGroup g { x with trimB := min 250 (x.trimB + step), trimA := 0 }
  else d.setGroup g x

/-- FEED_IMBALANCE: the share has stayed more than 10 points off for 64 ticks (R358). -/
def Dev.feedImbalance (d : Dev) (g : Nat) : Dev :=
  let x := d.group g
  if 64 ≤ x.offRun then (d.setGroup g { x with offRun := 0 }).raise evSpFeedImbalance g else d

/-- FEED_GROUP_TRIP: the group current exceeds FG_TRIP for FG_FAULT_TIME (R359). -/
def Dev.groupTrip (d : Dev) (g : Nat) : Dev :=
  let x := d.group g
  if flag (d.rd rSpFgCfg g) 38 && x.owned && !x.latched then
    ((d.setGroup g { x with latched := true }).latchSp g true 5).raise evSpFeedGroupTrip g
  else d

/-- The group latch clears, and with it the fence (R359, R408). -/
def Dev.groupClearNow (d : Dev) (g : Nat) : Dev :=
  (d.setGroup g { d.group g with latched := false }).clearFence .feedGroup g

/-- FEED_GROUP_CLEAR: a write of SP_FG_CTL.CLEAR (R359, R361). -/
def Dev.groupClear (d : Dev) (g : Nat) : Dev :=
  if (d.group g).owned then (d.groupClearNow g).mirrorSp (0x2010 + 32 * g) 1 else d.refuse

/-! ### Measurement (R357, R360) -/

/-- The largest power in mW that HOLDUP supports (R357). -/
def Dev.holdupLimit (d : Dev) (s : Nat) : Nat :=
  let w := d.fld rSpSlotCfg 36 12 s
  let u := d.fld rSpSlotLim 48 12 s
  d.fld rSpSlotCfg 24 10 s * (w * w - u * u) / 401

/-- The measurement of a slot at a tick boundary, with the energy of the tick and of the ticks that a forward step passed (R48,
R357, R360, R510). -/
def Dev.slotMeasure (d : Dev) (s : Nat) (m : SlotMeas) : Dev :=
  let x := d.slot s
  let pj := x.energyRest + m.power * d.period * (1 + d.st.passed)
  let e := d.fld rSpSlotEnergy 0 48 s + pj / 1000000
  let short := decide (d.fld rSpSlotCfg 24 10 s ≠ 0) && decide (d.holdupLimit s < m.power)
  let d := d.setSlot s { x with energyRest := pj % 1000000, holdup := short, gateOn := m.gateOn }
  let d := d.wr rSpSlotMeas (pack [(16, m.current), (16, m.vout), (16, m.vinA), (16, m.vinB)]) s
  let d := (d.wr rSpSlotPower (pack [(20, m.power)]) s).wrFld rSpSlotEnergy 0 48 (e % 2 ^ 48) s
  let d := if 2 ^ 48 ≤ e then d.wrFld rSpSlotEnergy 48 1 1 s else d
  d.raiseIf short evSpHoldupShort s

/-- The groups at a tick boundary: runs of ticks with the share off (R358). -/
def Dev.groupTick (d : Dev) (g : Nat) : Dev :=
  let x := d.group g
  let off := d.bulkA g && d.bulkB g && decide (0 < x.iA + x.iB) && decide (10 < points x.share (d.shareA g))
  d.setGroup g { x with offRun := if off then x.offRun + 1 else 0 }

/-! ### Ownership (R361 to R364) -/

/-- A channel is given up: STANDBY, its charge pumps high-impedance (R361). -/
def Dev.slotStandby (d : Dev) (s : Nat) : Dev :=
  (d.setSlot s { d.slot s with owned := false, pg := false }).slotTo s .standby
def Dev.groupStandby (d : Dev) (g : Nat) : Dev := d.setGroup g { d.group g with owned := false }

/-- The gate of a mirrored state is on. -/
def SlotUse.gate (u : SlotUse) : Bool :=
  match u with
  | .warnWait | .ramp | .on => true
  | _ => false

/-- A slot is adopted: driven at its sensed level with the state its owner mirrored, or LATCHED where the two disagree
(R362). -/
def Dev.adoptSlot (d : Dev) (s : Nat) : Dev :=
  let x := d.slot s
  let d := (d.setSlot s { x with owned := true }).wrFld rSpSlotCtl 0 1 (bit x.mirrorEn) s
  if x.gateOn = x.mirror.gate then
    (d.setSlot s { d.slot s with
      pg := decide (x.mirror = .on) && decide (10 * d.fld rSpSlotLim 36 12 s ≤ d.fld rSpSlotMeas 16 16 s) }).slotTo s
      (if x.mirror = .standby then .off else x.mirror)
  else
    let d := (d.setSlot s { d.slot s with reason := 4, oringA := false, oringB := false, pg := false }).slotTo s .latched
    (d.latchSp s false 4).raise evSpGateFault s

/-- A group is adopted: its trim resumes from the mirrored share (R362). -/
def Dev.adoptGroup (d : Dev) (g : Nat) : Dev :=
  let x := d.group g
  d.setGroup g { x with owned := true, latched := x.mirrorLatched, share := x.mirrorShare }

/-- Takeover: every slot and group of the failed twin is adopted (R362). -/
def Dev.adoptAll (d : Dev) : Dev :=
  let d := forEach ((upFrom 0 32).filter (fun s => !(d.slot s).owned)) (fun s d => d.adoptSlot s) d
  let d := forEach ((upFrom 0 4).filter (fun g => !(d.group g).owned)) (fun g d => d.adoptGroup g) d
  d.raise evSpTakeover 0

/-- SP_OWN says that this device owns a slot, a group. -/
def Dev.ownsSlot (d : Dev) (s : Nat) : Bool := flag (d.rd rSpOwn) s
def Dev.ownsGroup (d : Dev) (g : Nat) : Bool := flag (d.rd rSpOwn) (32 + g)

/-- Channels that SP_OWN does not give this device return to the twin (R379). -/
def Dev.giveBack (d : Dev) : Dev :=
  let d := forEach ((upFrom 0 32).filter (fun s => !(d.ownsSlot s))) (fun s d => d.slotStandby s) d
  forEach ((upFrom 0 4).filter (fun g => !(d.ownsGroup g))) (fun g d => d.groupStandby g) d

/-- The twins compare SP_OWN: what both or neither claim belongs to the twin of TWIN_ID 0 (R364). -/
def Dev.compareOwn (d : Dev) (slots groups : Nat) (first : Bool) : Dev :=
  let clashS := (upFrom 0 32).filter (fun s => d.ownsSlot s == flag slots s)
  let clashG := (upFrom 0 4).filter (fun g => d.ownsGroup g == flag groups g)
  let d := if first then d
    else forEach clashG (fun g d => d.groupStandby g) (forEach clashS (fun s d => d.slotStandby s) d)
  let d := if first then
      forEach (clashG.filter (fun g => !(d.group g).owned)) (fun g d => d.adoptGroup g)
        (forEach (clashS.filter (fun s => !(d.slot s).owned)) (fun s d => d.adoptSlot s) d)
    else d
  d.raiseIf (!clashS.isEmpty || !clashG.isEmpty) evSpOwnConflict 0

/-- Every charge pump is released (R363). -/
def Dev.releasePumps (d : Dev) : Dev := { d with sp := { d.sp with released := true } }

/-! ### Registers (R365) -/

/-- The slot controller runs: the last start has ended (R459, R463). Until then SP_SLOT_STATE and SP_FG_STATE show no pin and no
switch, as at reset. -/
def Dev.spRuns (d : Dev) : Bool := decide (8 < d.bt.phase)

/-- SP_STATUS, SP_SLOT_STATE and SP_FG_STATE. -/
def Dev.spStatus (d : Dev) : Nat :=
  pack ((upFrom 0 32).map (fun s => (1, bit (decide ((d.slot s).use = .on) && (d.slot s).pg)))
    ++ (upFrom 0 32).map (fun s => (1, bit (decide ((d.slot s).use = .latched)))))
def Dev.slotState (d : Dev) (s : Nat) : Nat :=
  let x := d.slot s
  pack [(3, x.use.code), (1, bit x.pg), (1, bit (d.spRuns && d.slotWarn s)), (1, bit x.pinEn), (4, x.reason),
    (1, bit (d.spRuns && d.slotPresent s && x.oringA)), (1, bit (d.spRuns && d.slotPresent s && x.oringB)), (1, bit x.holdup), (3, if x.use = .standby then x.mirror.code else 0), (48, x.since)]
def Dev.fgState (d : Dev) (g : Nat) : Nat :=
  let x := d.group g
  pack [(1, bit (d.spRuns && d.bulkA g)), (1, bit (d.spRuns && d.bulkB g)), (1, bit (!x.owned)), (1, bit x.latched), (4, 0), (16, x.iA),
    (16, x.iB), (8, x.share)]

end Sys2Proof.Machine
end

