-- ==== Sys2Proof/Machine/Twin.lean ====
section
/-! DEFINITION. The twin pair: heartbeats, leases, mirror records, probes, takeover, handover and the return of slots
(R367 to R382). -/

namespace Sys2Proof.Machine

/-- This device's TWIN_ID, as sampled. -/
def Dev.twinId (d : Dev) : Nat := bit d.bt.twinId

/-- The pair enters a state (R376, R381). -/
def Dev.twTo (d : Dev) (s : TwState) : Dev :=
  if d.tw.state = s then d else { d with tw := { d.tw with state := s, since := d.now, entered := d.st.boundaries } }

/-- Latch a pair error (R381). -/
def Dev.latchTw (d : Dev) (reason : Nat) : Dev := d.latch rTwErrLatch (pack [(4, reason)])

/-- The relay ports of TW_CFG (R376, R381). -/
def Dev.relayPorts (d : Dev) : List Nat :=
  ((upFrom 0 4).map (fun i => d.fld rTwCfg (32 + 8 * i) 8)).filter (fun p => decide (p ≠ 0xFF))

/-- PROBE_WAIT and ALONE_WAIT in ticks (R381). -/
def Dev.probeWait (d : Dev) : Nat := orOne (d.fld rTwCtl 0 8)
def Dev.aloneWait (d : Dev) : Nat := 1024 * d.fld rTwCtl 8 24

/-! ### Leases (R368, R369) -/

/-- The twin that two leases make primary: the holder of the higher TERM; between equal terms their common holder, or else
the twin of TWIN_ID 0 (R368). -/
def primaryOf (a b : Lease) : Nat :=
  if b.term < a.term then a.holder
  else if a.term < b.term then b.holder
  else if a.holder = b.holder then a.holder else 0

/-- Write the lease record; `ok` says whether the NVM takes it (R368, R378). -/
def Dev.writeLease (d : Dev) (term holder : Nat) (ok : Bool) : Dev :=
  if ok then { d with tw := { d.tw with lease := ⟨term % 2 ^ 32, holder, true⟩ } }
  else (d.latchTw 3).raise evTwTermCommitFail 0

/-- The device loses its lease: its charge pumps are released and it gives up the primary role (R369). -/
def Dev.giveUpLease (d : Dev) : Dev := { d.releasePumps with tw := { d.releasePumps.tw with primary := false } }

/-- SELF_FENCE: the TW unit has issued no heartbeat at 2 boundaries in a row while PAIRED, or as a start began from PAIRED
(R369, R411, R459). -/
def Dev.selfFence (d : Dev) : Dev :=
  if !d.tw.selfFenced && decide (2 ≤ d.tw.silent) && ((d.pairEn && decide (d.tw.state = .paired)) || d.tw.fenceOwed) then
    let d := d.giveUpLease
    ({ d with tw := { d.tw with selfFenced := true } }).raise evTwSelfFence 0
  else d

/-! ### Heartbeats (R371, R372) -/

/-- SLOTS and GROUPS of a heartbeat. -/
def Dev.hbSlots (d : Dev) : Nat :=
  pack ((upFrom 0 32).map (fun s => (4, (d.slot s).use.code + 8 * bit (d.slotCmdEn s))))
def Dev.hbGroups (d : Dev) : Nat :=
  pack ((upFrom 0 4).map (fun g => (16, pack [(7, (d.group g).share), (1, bit (d.group g).latched), (1, bit (d.bulkA g)),
    (1, bit (d.bulkB g))])))

/-- OWN_SLOTS and OWN_GROUPS. -/
def Dev.hbOwn (d : Dev) : Nat :=
  pack ((upFrom 0 32).map (fun s => (1, bit (d.slot s).owned)) ++ (upFrom 0 4).map (fun g => (1, bit (d.group g).owned)))

/-- The 64 bytes of a heartbeat. -/
def Dev.heartbeatBody (d : Dev) : Nat :=
  pack [(8, 5), (8, d.tw.state.code + 8 * bit d.tw.primary), (8, d.tw.hbSeq), (8, d.twinId), (32, d.node),
    (32, d.tw.lease.term), (32, d.tw.lease.holder), (128, d.hbSlots), (64, d.hbGroups), (64, d.hbOwn),
    (32, d.tw.seqTx), (32, d.tw.seqRx)]

/-- A message of the pair leaves on a port that is in UP. -/
def Dev.twinSend (d : Dev) (p type body : Nat) : Dev := if d.portUp p then d.emit (.bypass p type body) else d

/-- Issue the heartbeat of a boundary. -/
def Dev.heartbeat (d : Dev) : Dev :=
  let d := { d with tw := { d.tw with hbSeq := (d.tw.hbSeq + 1) % 256, issued := true, silent := 0 } }
  d.twinSend d.twinPort 5 d.heartbeatBody

/-- The miss count at a boundary (R372). -/
def Dev.countMiss (d : Dev) : Dev :=
  let heard := d.tw.heard
  let misses := if d.tw.broken then 4 else if heard then d.tw.misses else min 4 (d.tw.misses + 1)
  let more := decide (d.tw.misses < misses)
  ({ d with tw := { d.tw with misses := misses, heard := false, broken := false } }).raiseIf more evTwHbMiss d.twinPort

/-! ### Probes (R376, R377) -/

/-- The 16 bytes of a probe. -/
def probeBody (reply forwarded alive : Bool) (seq origin target term : Nat) : Nat :=
  pack [(8, 6), (1, bit reply), (1, bit forwarded), (1, bit alive), (5, 0), (8, seq), (8, 0), (32, origin), (32, target),
    (32, term)]

/-- Probes go out on every relay port. -/
def Dev.sendProbes (d : Dev) : Dev :=
  let seq := (d.tw.probeSeq + 1) % 256
  let d := { d with tw := { d.tw with probeSeq := seq } }
  forEach d.relayPorts (fun p (d : Dev) =>
    d.twinSend p 6 (probeBody false false false seq d.node d.peerNode d.tw.lease.term)) d

/-- The port in UP whose peer is a node (R377). -/
def Dev.portTo (d : Dev) (node : Nat) : Option Nat :=
  firstThat (Tbl.keys d.map) (fun p => d.portUp p && decide ((d.lkPort p).peerNode = node))

/-- The pair enters SPLIT (R376). -/
def Dev.enterSplit (d : Dev) : Dev :=
  let d := (d.twTo .split).raise evTwSplit 0
  (if d.tw.primary then d else { d with tw := { d.tw with heldRecs := [] } }).owe .mirrorAcked

/-- TWIN_PROBE: a probe arrives on a port (R377); a reply to this device ends PROBING in SPLIT, or answers the probes of
ALONE_WAIT (R376, R379). -/
def Dev.twinProbe (d : Dev) (p w : Nat) : Dev :=
  let reply := flag w 8
  let origin := field w 32 18
  let target := field w 64 18
  if target = d.node then
    if !reply then d.twinSend p 6 (probeBody true false true (field w 16 8) d.node origin d.tw.lease.term)
    else if d.pairEn && origin == d.peerNode then
      (match d.tw.state with
       | .probing => d.enterSplit
       | .forming => { d with tw := { d.tw with answered := true } }
       | _ => d)
    else d
  else if !(flag w 9) then
    match d.portTo target with
    | some q => (d.twinSend q 6 (setField w 9 1 1)).raise evTwRelayFwd q
    | none => d
  else d

/-! ### Forming (R364, R379) -/

/-- The pair enters FORMING. -/
def Dev.enterForming (d : Dev) : Dev :=
  let d := d.twTo .forming
  { d with tw := { d.tw with
    issued := false, compared := false, formed := false, resyncSeq := none, formSince := d.st.boundaries, answered := false } }

/-- The primary sends its state as KIND 5 records, one each for Malthouse, locks and slot power; the layout of their payload
is not given, so it is a free value (R373, R379). -/
def Dev.sendResync (d : Dev) : Dev :=
  let d := forEach (upFrom 0 3) (fun _ (d : Dev) =>
    let (n, d) := d.fresh
    d.mirror 5 48 0 (Config.resyncPayload n % 2 ^ 384)) d
  { d with tw := { d.tw with resyncSeq := some d.tw.seqTx } }

/-- Every shared channel goes to STANDBY (R379). -/
def Dev.allStandby (d : Dev) : Dev :=
  forEach (upFrom 0 4) (fun g d => d.groupStandby g) (forEach (upFrom 0 32) (fun s d => d.slotStandby s) d)

/-- Valid heartbeats have passed both ways: the twins compare leases, the winner is primary and sends its state, and each
writes its record where the term is new (R368, R379). `peer` is the twin's lease. -/
def Dev.form (d : Dev) (peer : Lease) (ok : Bool) : Dev :=
  let own := d.tw.lease
  let win := primaryOf own peer
  let term := if own.term = peer.term then own.term + 1 else max own.term peer.term
  let mine := decide (win = d.twinId)
  let d := if !mine && decide (own.term < peer.term) then d.allStandby else d
  let d := if own.valid && own.term == term && own.holder == win then d else d.writeLease term win ok
  let d := { d with tw := { d.tw with
    primary := mine, formed := true, seqTx := 0, seqRx := 0, ackRx := 0, unacked := [], heldRecs := [], applied := [],
    undo := [], resync := [] } }
  let d := d.reforward.owe .mirrorAcked
  if mine then d.sendResync else d

/-- The pair enters PAIRED (R376, R379). -/
def Dev.enterPaired (d : Dev) : Dev :=
  let d := d.twTo .paired
  ({ d with tw := { d.tw with selfFenced := false } }).raise evTwPaired 0

/-- What a heartbeat shows of the twin's slots and groups (R361, R371). -/
def Dev.mirrorSlots (d : Dev) (w : Nat) : Dev :=
  let d := forEach ((upFrom 0 32).filter (fun s => !(d.slot s).owned)) (fun s (d : Dev) =>
    let u := slotUseOf (field w (128 + 4 * s) 3)
    if u = .standby then d
    else d.setSlot s { d.slot s with mirror := u, mirrorEn := flag w (128 + 4 * s + 3) }) d
  forEach ((upFrom 0 4).filter (fun g => !(d.group g).owned)) (fun g (d : Dev) =>
    d.setGroup g { d.group g with mirrorLatched := flag w (256 + 16 * g + 7), mirrorShare := field w (256 + 16 * g) 7 }) d

/-- Channels that the twin has given back come to the device SP_OWN names (R379). -/
def Dev.takeGiven (d : Dev) (w : Nat) : Dev :=
  let slots := (upFrom 0 32).filter (fun s => d.ownsSlot s && !(d.slot s).owned && !(flag w (320 + s)))
  let groups := (upFrom 0 4).filter (fun g => d.ownsGroup g && !(d.group g).owned && !(flag w (352 + g)))
  if slots.isEmpty ∧ groups.isEmpty then d
  else
    forEach groups (fun g d => d.adoptGroup g)
      (forEach slots (fun s d => d.adoptSlot s) { d with sp := { d.sp with released := false } })

/-- MIRROR_ACK of a heartbeat (R371, R374). -/
def Dev.takeAck (d : Dev) (ack : Nat) : Dev :=
  if seqLe ack d.tw.seqTx && !(seqLe ack d.tw.ackRx) then
    ({ d with tw := { d.tw with
      ackRx := ack, unacked := d.tw.unacked.filter (fun m => !(seqLe m.seq ack)) } }).owe .mirrorAcked
  else d

/-- The TYPE and the zero bits of a heartbeat are right (R371). -/
def heartbeatOk (w : Nat) : Bool :=
  field w 0 8 == 5 && field w 12 4 == 0 && field w 25 7 == 0 && field w 50 14 == 0 && field w 97 31 == 0
    && (upFrom 0 4).all (fun g => field w (256 + 16 * g + 10) 6 == 0) && field w 356 28 == 0 && field w 448 64 == 0

/-- What a valid heartbeat does to the pair's state (R369, R376, R379). -/
def Dev.pairStep (d : Dev) (w : Nat) (ok : Bool) : Dev :=
  let peer : Lease := ⟨field w 64 32, field w 96 1, true⟩
  let d := if d.tw.primary && decide (primaryOf d.tw.lease peer ≠ d.twinId) then
      ((d.giveUpLease).latchTw 4).raise evTwLeaseLost 0 else d
  let d := match d.tw.state with
    | .probing => d.enterForming
    | .split => d.enterForming
    | .sole => d.enterForming
    | _ => d
  match d.tw.state with
  | .forming =>
    let d := if d.tw.compared then d else
      let d := if d.tw.lease.term = peer.term then d.compareOwn (field w 320 32) (field w 352 4) (d.twinId == 0) else d
      { d with tw := { d.tw with compared := true } }
    let d := if d.tw.formed || !d.tw.issued then d else d.form peer ok
    if !d.tw.formed then d
    else if d.tw.primary then
      (match d.tw.resyncSeq with
       | some seq => if seqLe seq d.tw.ackRx then
           (({ d with tw := { d.tw with resyncSeq := none } }).raise evTwResyncDone 0).enterPaired else d
       | none => d)
    else if field w 8 3 = 2 then d.enterPaired else d
  | .paired =>
    let d := d.takeGiven w
    if d.tw.primary = false ∧ d.tw.lease.term < peer.term ∧ peer.holder = d.twinId then
      ({ d.writeLease peer.term peer.holder ok with
        tw := { (d.writeLease peer.term peer.holder ok).tw with primary := true } }).raise evTwHandover 0
    else d
  | _ => d

/-- TWIN_HEARTBEAT: a heartbeat arrives on the twin port (R371, R372). `ok` is the outcome of a lease write it causes. -/
def Dev.heartbeatArrive (d : Dev) (w : Nat) (ok : Bool) : Dev :=
  if !d.pairEn then d
  else if !(heartbeatOk w) then d.raise evTwHbMalformed d.twinPort
  else if field w 32 18 ≠ d.peerNode ∨ field w 24 1 = d.twinId then
    (d.latchTw 1).raise evTwPeerMismatch d.twinPort
  else
    let d := { d with tw := { d.tw with heard := true, misses := 0, broken := false, peer := w } }
    (((d.mirrorSlots w).takeAck (field w 416 32)).pairStep w ok)

/-! ### Losing the twin (R376, R378, R379) -/

/-- HEARTBEAT_MISS_LIMIT: the miss count stands at 4 in PAIRED (R376). -/
def Dev.missLimit (d : Dev) : Dev :=
  if d.tw.state = .paired ∧ 4 ≤ d.tw.misses then ((d.twTo .probing).raise evTwProbing 0).sendProbes else d

/-- A record of the standby's mirror applies (R373, R375, R385, R391). -/
def Dev.mirrorDo (d : Dev) (m : Mirror) : Dev :=
  match m.kind with
  | 1 =>
    let back := d.undoChange m.payload
    let d := d.applyChange m.payload
    { d with tw := { d.tw with applied := ((m.seq, back) :: d.tw.applied).take 4096 } }
  | 2 =>
    (match regAt .blk (0xE00000 + field m.payload 0 32) allRegs with
     | some (r, i) =>
       let v := field m.payload 32 64
       d.take r i 0 false (d.keepS r i 0 (if r.name = .spSlotCtl ∧ flag v 1 then 0 else v))
     | none => d)
  | 3 => d.lockRecord m.payload
  | 4 =>
    let tick := field m.payload 0 48
    let cancel := flag m.payload 62
    let arm := flag m.payload 63
    if d.epochCode tick arm cancel = 0 then d.epochApply tick arm cancel
    else ((d.latchTw 2).raise evTwMirrorRefused 0).mirror 7 4 0 (field m.seq 0 32)
  | 5 => { d with tw := { d.tw with resync := d.tw.resync ++ [m.payload] } }
  | 6 =>
    if m.len = 20 then d.lockTwinReq m.seq m.payload
    else if m.len = 24 then d.lockTwinRemote m.seq m.payload
    else d.mhRequest (16 + m.seq) (field m.payload 0 256)
  | 7 =>
    if m.len = 21 then (if flag m.payload 41 then d else d.lockAnswered m.payload).lockTwinAnswer m.payload
    else if m.len = 12 then d.mhAnswered (field m.payload 0 32) (field m.payload 32 64)
    else (d.latchTw 2).raise evTwMirrorRefused 0
  | _ => d

/-- A KIND 8 record cancels one KIND 1 record: a held one is discarded, an applied one is returned at the next boundary
(R375). -/
def Dev.mirrorUndo (d : Dev) (seq : Nat) : Dev :=
  if d.tw.heldRecs.any (fun m => m.seq == seq) then
    { d with tw := { d.tw with heldRecs := d.tw.heldRecs.filter (fun m => m.seq != seq) } }
  else if d.tw.applied.any (fun a => a.1 == seq) then { d with tw := { d.tw with undo := d.tw.undo ++ [seq] } }
  else d

/-- The record a mirror message carries (R373). -/
def mirrorOf (w : Nat) : Mirror :=
  ⟨field w 8 8, field w 16 8, field w 32 32, field w 64 48, field w 128 384⟩

/-- MIRROR_RECORD: a record arrives (R374, R375, R376). -/
def Dev.mirrorArrive (d : Dev) (w : Nat) : Dev :=
  let m := mirrorOf w
  if !d.pairEn then d
  else if m.seq ≠ (d.tw.seqRx + 1) % 2 ^ 32 then d.raise evTwMirrorGap d.twinPort
  else
    let d := { d with tw := { d.tw with seqRx := m.seq } }
    if m.kind = 8 then d.mirrorUndo (field m.payload 0 32)
    else if d.tw.state = .probing ∨ d.now < m.tick then { d with tw := { d.tw with heldRecs := d.tw.heldRecs ++ [m] } }
    else d.mirrorDo m

/-- MIRROR_APPLY: a held record's tick has come, in PAIRED, or in SOLE (R375, R378). -/
def Dev.mirrorApply (d : Dev) (seq : Nat) : Dev :=
  match firstThat d.tw.heldRecs (fun m => m.seq == seq) with
  | some m =>
    if (d.tw.state = .paired ∨ d.tw.state = .sole) ∧ m.tick ≤ d.now then
      ({ d with tw := { d.tw with heldRecs := removeFirst d.tw.heldRecs (fun m => m.seq == seq) } }).mirrorDo m
    else d
  | none => d

/-- MIRROR_CANCEL: at the boundary before its tick the record of a Malthouse change stands unacknowledged (R375). -/
def Dev.mirrorCancel (d : Dev) (seq : Nat) : Dev :=
  match firstThat d.cx.work (fun x => x.mirror == some seq) with
  | some x =>
    (match x.phase with
     | .staged t =>
       if t ≤ d.now + 1 ∧ d.mirrorCovered seq = false then
         let h := mhHost x.raw
         let v := mhVppb x.raw
         let d := if mhOp x.raw = 1 then d.setVppb h v { since := d.now }
           else if mhOp x.raw = 2 then d.vppbUse h v .bound else d
         ((d.mhComplete x 3).raise evTwMirrorCancel 0).mirror 8 4 0 (field seq 0 32)
       else d
     | _ => d)
  | none => d

/-- Takeover, in the order of R378. -/
def Dev.takeOver (d : Dev) (ok : Bool) : Dev :=
  let due := d.tw.heldRecs.filter (fun m => decide (m.tick ≤ d.now))
  let d := if d.tw.primary then d else forEach due (fun m (d : Dev) => d.mirrorDo m) d
  let d := { d with
    tw := { d.tw with primary := true, heldRecs := d.tw.heldRecs.filter (fun m => decide (d.now < m.tick)) },
    cx := { d.cx with work := d.cx.work.filter (fun x => match x.phase with | .forwarded _ => false | _ => true) } }
  let d := (d.twTo .sole).loseTwin.reforward
  let d := ({ d with sp := { d.sp with released := false } }).adoptAll
  let d := d.raise evTwTakeover 0
  (d.writeLease (d.tw.lease.term + 1) d.twinId ok).owe .mirrorAcked

/-- PROBE_WAIT_EXPIRY: PROBE_WAIT local ticks have passed in PROBING (R376, R378, R380). -/
def Dev.probeExpiry (d : Dev) (ok : Bool) : Dev :=
  if d.tw.state = .probing ∧ d.probeWait ≤ d.waited d.tw.entered then d.takeOver ok else d

/-- ALONE_WAIT_EXPIRY: no pair has formed within ALONE_WAIT; the device takes over where its probes got no reply, and
otherwise waits again (R379). -/
def Dev.aloneExpiry (d : Dev) (ok : Bool) : Dev :=
  if d.tw.state = .forming ∧ d.aloneWait ≤ d.waited d.tw.formSince then
    if d.tw.answered then { d with tw := { d.tw with formSince := d.st.boundaries, answered := false } } else d.takeOver ok
  else d

/-! ### TW_CMD (R379, R381) -/

/-- GIVE_BACK and HANDOVER: a write of TW_CMD. -/
def Dev.twCmd (d : Dev) (tick : Nat) (giveBack handover : Bool) : Dev :=
  if d.tw.state ≠ .paired ∨ d.tw.primary = false then d.refuse
  else if (giveBack || handover) && decide (tick < d.now + 2) then (d.emit .tickPast).refuse
  else
    let d := d.wr rTwCmd (field tick 0 48)
    if giveBack || handover then { d with tw := { d.tw with armed := some (tick, giveBack, handover) } } else d

/-- TWIN_CMD_APPLY: the tick of TW_CMD has come (R379, R381). -/
def Dev.twCmdApply (d : Dev) (ok : Bool) : Dev :=
  match d.tw.armed with
  | some (tick, giveBack, handover) =>
    if tick ≤ d.now then
      let d := { d with tw := { d.tw with armed := none } }
      if d.tw.state ≠ .paired ∨ d.tw.primary = false then d
      else
        let d := if giveBack then d.giveBack else d
        if handover then
          let d := d.writeLease (d.tw.lease.term + 1) (1 - d.twinId) ok
          ({ d with tw := { d.tw with primary := false } }).raise evTwHandover 0
        else d
    else d
  | none => d

/-! ### The boundary and registers (R371, R372, R374, R381) -/

/-- The TW unit issues heartbeats: the device belongs to a pair, is RUNNING, and no FATAL stands (R371, R411, R459). -/
def Dev.heartbeats (d : Dev) : Bool := d.pairEn && decide (d.bt.phase = 9) && !d.fe.fatal

/-- At a boundary: the miss count, the return of cancelled changes, the records sent again, the probes of ALONE_WAIT, and the
heartbeat, which a wedged TW unit does not issue. -/
def Dev.twinTick (d : Dev) (wedged : Bool) : Dev :=
  if !d.pairEn && !d.tw.fenceOwed then d
  else if !d.heartbeats || wedged then { d with tw := { d.tw with silent := min 255 (d.tw.silent + 1) } }
  else
    let d := d.countMiss
    let undo := d.tw.undo
    let d := { d with tw := { d.tw with undo := [] } }
    let d := forEach undo (fun seq (d : Dev) => match firstThat d.tw.applied (fun a => a.1 == seq) with
      | some a => (({ d with tw := { d.tw with applied := removeFirst d.tw.applied (fun a => a.1 == seq) } }).applyChange
          a.2).raise evTwMirrorCancel 0
      | none => d) d
    let d := if d.tw.state = .split ∨ d.tw.state = .sole then d
      else forEach d.tw.unacked (fun m (d : Dev) => d.twinSend d.twinPort 7 m.body) d
    let d := if d.tw.state = .forming ∧ d.waited d.tw.formSince + d.probeWait = d.aloneWait then d.sendProbes else d
    d.heartbeat

/-- TW_STATUS, TW_LEASE and TW_MIRROR. -/
def Dev.twStatus (d : Dev) : Nat :=
  pack [(3, d.tw.state.code), (1, bit d.tw.primary), (1, d.twinId), (3, d.tw.misses), (1, bit d.tw.selfFenced), (7, 0),
    (48, d.tw.since)]
def Dev.twLease (d : Dev) : Nat := pack [(32, d.tw.lease.term), (1, d.tw.lease.holder), (1, bit d.tw.lease.valid)]
def Dev.twMirror (d : Dev) : Nat := pack [(32, d.tw.seqTx), (32, d.tw.ackRx)]

end Sys2Proof.Machine
end

