-- ==== Sys2Proof/Machine/Bypass.lean ====
section
/-! DEFINITION. The bypass channel and arriving flits: bypass messages in their flits, both ways, and the flit of any channel
that a port receives (R250 to R259). -/

namespace Sys2Proof.Machine

/-! ### Messages that arrive (R257, R258) -/

/-- A valid bypass message shows that the peer lives (R258). -/
def Dev.noteHeard (d : Dev) (p : Nat) (valid : Bool) : Dev :=
  if valid then d.setLk p { d.lkPort p with heard := true } else d

/-- A time message arrives; `rx` is the stamp of its first symbol in 1/65,536 ns (R34). -/
def Dev.bypTime (d : Dev) (p w rx : Nat) : Dev := (d.noteHeard p (tmOk w)).timeMessage p w rx

/-- A congestion score arrives (R210). -/
def Dev.bypScore (d : Dev) (p w : Nat) : Dev := (d.noteHeard p (smOk w)).scoreArrive p w

/-- A heartbeat arrives; only the twin port carries them (R370). -/
def Dev.bypHeartbeat (d : Dev) (p w : Nat) (ok : Bool) : Dev :=
  let d := d.noteHeard p (heartbeatOk w)
  if d.isTwin p then d.heartbeatArrive w ok else d

/-- A probe arrives (R377). -/
def Dev.bypProbe (d : Dev) (p w : Nat) : Dev := (d.noteHeard p true).twinProbe p w

/-- A mirror record arrives; only the twin port carries them (R370). -/
def Dev.bypMirror (d : Dev) (p w : Nat) : Dev :=
  let d := d.noteHeard p true
  if d.isTwin p then d.mirrorArrive w else d

/-- Bytes of a bypass message by TYPE; none for an unlisted TYPE (R257). -/
def bypLen (type : Nat) : Option Nat :=
  match type with
  | 1 => some 40 | 2 => some 16 | 3 => some 64 | 4 => some 16 | 5 => some 64 | 6 => some 16 | 7 => some 64 | _ => none

/-- One message of a flit takes effect; in HELLO only a HELLO does (R265). -/
def Dev.bypTake (d : Dev) (p type w rx : Nat) (ok : Bool) : Dev :=
  if (d.lkPort p).state = .hello then (if type = 4 then d.helloArrive p w else d)
  else match type with
  | 1 => d.bypTime p w rx
  | 2 => d.bypScore p w
  | 3 => d.auditArrive p w
  | 4 => d.helloArrive p w
  | 5 => d.bypHeartbeat p w ok
  | 6 => d.bypProbe p w
  | 7 => d.bypMirror p w
  | _ => d

/-- The messages of a flit in order; an unlisted TYPE, or a message cut short, ends the flit with BYP_UNKNOWN (R257). -/
def Dev.bypTakeAll (d : Dev) (p rx : Nat) (ok : Bool) (bytes : List Byte) : Nat → Dev
  | 0 => d
  | n + 1 =>
    match bytes with
    | [] => d
    | b :: _ =>
      match bypLen b.toNat with
      | some len =>
        if bytes.length < len then d.raise evLkBypUnknown p
        else (d.bypTake p b.toNat (ofBytes (bytes.take len)) rx ok).bypTakeAll p rx ok (bytes.drop len) n
      | none => d.raise evLkBypUnknown p

/-- BYPASS_FLIT: a bypass flit arrives at a network time in 1/65,536 ns (R254, R257, R259, R261). -/
def Dev.bypassFlit (d : Dev) (p rx w : Nat) (failed ok : Bool) : Dev :=
  let d := d.at_ (rx / 65536)
  let x := d.lkPort p
  if failed || flChan w != 16 || flCont w || !(flEnd w) || flBad w || flNext w || decide (126 < flSplit w) then
    d.badFlit p
  else if x.state ≠ .up ∧ x.state ≠ .hello then d
  else
    let bytes := ((toBytes 128 w).drop 2).take (flSplit w)
    if x.state = .hello then d.bypTakeAll p rx ok bytes 9
    else
      let busy := x.bypUsed d.st.ns
      let count (d : Dev) : Dev :=
        let x := d.lkPort p
        if x.state = .up then d.setLk p { x with rcvd := Tbl.put 0 bypChan (add16 (Tbl.get 0 x.rcvd bypChan) 1) x.rcvd } else d
      if 8 ≤ busy.length then (((count d).latchLk p 9 bypChan)).raise evLkBypOverrun p
      else count ((d.setLk p { x with bypBusy := d.st.ns :: busy }).bypTakeAll p rx ok bytes 9)

/-- FLIT_RECEIVE: a flit of any channel arrives at a network time in ns (R250, R259). -/
def Dev.flitReceive (d : Dev) (p t w : Nat) (failed ok : Bool) : Dev :=
  let d := d.at_ t
  if failed then d.badFlit p
  else if flChan w = 16 then d.bypassFlit p (65536 * t) w failed ok
  else if flChan w = 0x1E then d.controlArrive p w
  else if flChan w = 0x1F then (if w = 0x1F then d else d.badFlit p)
  else d.dataFlit p w failed

/-! ### Messages that leave (R251, R252, R257, R261) -/

/-- The messages of a queue that one flit takes, at most 126 bytes: their bytes, and the rest. -/
def bypPack (body : Nat × Nat → Nat) : Nat → List (Nat × Nat) → List Byte × List (Nat × Nat)
  | _, [] => ([], [])
  | room, m :: rest =>
    let len := (bypLen m.1).getD 64
    if len ≤ room then
      let (b, r) := bypPack body (room - len) rest
      (toBytes len (body m) ++ b, r)
    else ([], m :: rest)

/-- The word of a bypass flit (R257). -/
def bypWord (bytes : List Byte) : Nat := flitWord bypChan false true false bytes.length bytes

/-- What a message of a port's queue holds as it enters the flit stream: an audit takes its snapshot then (R261). -/
def Dev.bypBody (d : Dev) (p : Nat) (m : Nat × Nat) : Nat := if m.1 = 3 then d.auditBody p m.2 else m.2

/-- Flits leave a port while it has bypass credit and messages wait. -/
def Dev.bypDrain (d : Dev) (p : Nat) : Nat → Dev
  | 0 => d
  | n + 1 =>
    let x := d.lkPort p
    let credit := sdiff16 (Tbl.get 0 x.limRx bypChan) (Tbl.get 0 x.sent bypChan)
    if x.bypQueue.isEmpty || decide (credit < 1) || decide (x.state ≠ .up) then d
    else
      let (bytes, rest) := bypPack (d.bypBody p) 126 x.bypQueue
      ((d.setLk p { x with
        bypQueue := rest, sent := Tbl.put 0 bypChan (add16 (Tbl.get 0 x.sent bypChan) 1) x.sent }).txFlit p (bypWord bytes)).bypDrain p n

/-- A message that is ready: a HELLO leaves in a flit of its own; any other joins its port's queue while the port is in
UP. -/
def Dev.bypQueueOne (d : Dev) (p type body : Nat) : Dev :=
  let x := d.lkPort p
  if type = 4 then d.txFlit p (bypWord (toBytes 16 body))
  else if x.state = .up then d.setLk p { x with bypQueue := x.bypQueue ++ [(type, body)] }
  else d

/-- Every message that a command made ready leaves, or waits for credit. -/
def Dev.bypSend (d : Dev) : Dev :=
  let msgs := d.out.reverse.filterMap (fun o => match o with | .bypass p t b => some (p, t, b) | _ => none)
  let d := { d with out := d.out.filter (fun o => match o with | .bypass _ _ _ => false | _ => true) }
  let d := forEach msgs (fun (m : Nat × Nat × Nat) d => d.bypQueueOne m.1 m.2.1 m.2.2) d
  forEach (Tbl.keys d.lk.ports) (fun p (d : Dev) => d.bypDrain p (d.lkPort p).bypQueue.length) d

end Sys2Proof.Machine
end

