-- ==== Sys2Proof/Machine/Power.lean ====
section
/-! DEFINITION. Power domains: votes, transfers, entry to a floor, wakes, and the domains' faults (R429 to R439). -/

namespace Sys2Proof.Machine

/-- A power domain. -/
def Dev.dom (d : Dev) (k : Nat) : PdDom := Tbl.get {} d.pd.doms k

/-- Store it. -/
def Dev.setDom (d : Dev) (k : Nat) (x : PdDom) : Dev := { d with pd := { d.pd with doms := Tbl.put {} k x d.pd.doms } }

/-- Latch a domain error (R438). -/
def Dev.latchPd (d : Dev) (k reason : Nat) : Dev := d.latch rPdErrLatch (pack [(4, k), (4, reason)])

/-- A start is in progress (R458). -/
def Dev.starting (d : Dev) : Bool := decide (1 ≤ d.bt.phase) && decide (d.bt.phase ≤ 8)

/-- A fabric tile's clients: a configured port that is not DISABLED; a lane with PRBS selected (R429). -/
def Dev.fabricVotes (d : Dev) (tile : Nat) : Nat :=
  bit ((Tbl.keys d.map).any (fun p => p / 64 == tile && decide ((d.lkPort p).state ≠ .disabled)))
    + bit ((upFrom (64 * tile) 64).any (fun l =>
        prbsOn (field (d.rd rLnPrbsCtl l) 0 2) || prbsOn (field (d.rd rLnPrbsCtl l) 2 2)))

/-- A CXL tile's client: a configured port with ENABLE 1 and HOLD 0 (R429). -/
def Dev.cxlVotes (d : Dev) (tile : Nat) : Nat :=
  bit ((d.cxTilePorts tile).any (fun k => flag (d.rd rCxPortCtl k) 0 && !(flag (d.rd rCxPortCtl k) 2)))

/-- A transfer that touches a domain is in flight (R432). -/
def Dev.transfers (d : Dev) (k : Nat) : Bool :=
  match k with
  | 6 => d.rl.groups.any (fun (g : Nat × RlGroup) => !g.2.steps.isEmpty)
  | 7 => !d.wn.fills.isEmpty || !d.wn.wbs.isEmpty
  | 8 => d.tp.msgs.any (fun m => match m.owner with | .pull _ _ => m.id.isSome | _ => false)
  | _ => false

/-- A posted receive, a header, an unexpected area or an open rendezvous exists (R429). -/
def Dev.mxVote (d : Dev) : Bool :=
  !d.mx.posted.isEmpty || !d.mx.unexp.isEmpty || d.mx.eps.any (fun (e : Nat × MxEp) => e.2.area.isSome)
    || d.tp.cmds.any (fun c => match c.phase with | .rdvOpen _ _ _ => true | .rdvStarted => true | _ => false)

/-- Client votes of a domain (R429, R432). -/
def Dev.clientVotes (d : Dev) (k : Nat) : Nat :=
  match k with
  | 0 => d.fabricVotes 0 | 1 => d.fabricVotes 1 | 2 => d.fabricVotes 2 | 3 => d.fabricVotes 3
  | 4 => d.cxlVotes 0 | 5 => d.cxlVotes 1
  | 6 => bit (d.rl.groups.any (fun (g : Nat × RlGroup) => decide (g.2.state ≠ .off)) || d.transfers 6)
  | 7 => bit (d.wn.wins.any (fun (w : Nat × WinState) => decide (w.2.use ≠ .off)) || d.transfers 7)
  | 8 => bit (d.mxVote || !d.mx.pulls.isEmpty)
  | 9 => bit (flag d.pd.work 2 || flag d.pd.work 3)
  | 10 => countWhere (upFrom 0 4) (fun c => decide (Tbl.get .running d.mg.cores c = .running) && decide (6 < d.bt.phase))
      + bit (d.hq.mq.any (fun (m : Nat × MqState) => !m.2.entries.isEmpty)) + bit d.se.sparge.isSome + bit d.starting
  | _ => 0

/-- The software vote of a domain holds: written 1, or withdrawn during a transfer (R432). -/
def Dev.swVote (d : Dev) (k : Nat) : Bool := flag (d.rd rPdVote) k || (d.dom k).swHeld

/-- A withdrawal waits on a transfer (R432): of the software vote, or of a client with nothing left but the transfer. -/
def Dev.domHeld (d : Dev) (k : Nat) : Bool :=
  (d.dom k).swHeld || (d.transfers k && (match k with
    | 7 => !(d.wn.wins.any (fun (w : Nat × WinState) => decide (w.2.use ≠ .off)))
    | 8 => !d.mxVote
    | _ => false))

/-- FLOOR as it acts: ON while FORCE_ON or PD_PARITY hold the domain, during a cold start, and for CORES23 and SCRATCH in
safe mode (R431, R437, R438, R439). -/
def Dev.domFloor (d : Dev) (k : Nat) : Nat :=
  if flag (d.rd rPdCtl) 0 || (d.dom k).stuckOn || (d.starting && d.bt.kind == 1) || (decide (d.bt.phase = 10) && decide (9 ≤ k)) then 0
  else min 2 (d.fld rPdDomCfg 0 2 0 k)

/-- A domain is wanted ON. -/
def Dev.domWanted (d : Dev) (k : Nat) : Bool :=
  decide (0 < d.clientVotes k) || d.swVote k || decide (d.domFloor k = 0)

/-- The votes of a domain as they stand after a command: IDLE_DELAY starts or is cancelled, a wake begins, or a vote is late
(R431 to R434). -/
def Dev.domSettle (d : Dev) (k : Nat) : Dev :=
  let d := if (d.dom k).swHeld && !(d.transfers k) then d.setDom k { d.dom k with swHeld := false } else d
  let x := d.dom k
  let want := d.domWanted k
  match x.use with
  | .on => if x.idle = want then d.setDom k { x with idle := !want } else d
  | .gated => if want then d.setDom k { x with use := .waking 1 } else d
  | .retain => if want then d.setDom k { x with use := .waking 2 } else d
  | .entering _ => if want && !x.late then (d.setDom k { x with late := true }).raise evPdLateVote 0 else d
  | .waking _ => d

/-- The eleven domains. -/
def domCount : Nat := 11

/-- Every domain after a command, while the device has power. -/
def Dev.powerSettle (d : Dev) : Dev :=
  if d.bt.phase = 0 then d else forEach (upFrom 0 domCount) (fun k d => d.domSettle k) d

/-- PD_VOTE: a write of the software votes; one withdrawn during a transfer stays until it ends (R432). -/
def Dev.voteWrite (d : Dev) (v : Nat) : Dev :=
  let old := d.rd rPdVote
  let d := d.wr rPdVote (field v 0 11)
  forEach (upFrom 0 domCount) (fun k (d : Dev) =>
    if flag v k then d.setDom k { d.dom k with swHeld := false }
    else if flag old k && d.transfers k then d.setDom k { d.dom k with swHeld := true }
    else d) d

/-- DOMAIN_IDLE_EXPIRY: IDLE_DELAY has passed; entry to the floor begins (R431). -/
def Dev.idleExpiry (d : Dev) (k : Nat) : Dev :=
  let x := d.dom k
  if x.use = .on ∧ x.idle ∧ d.domWanted k = false then
    d.setDom k { x with use := .entering (d.domFloor k), idle := false, late := false }
  else d

/-- DOMAIN_ENTRY_DONE: entry ends; a late vote wakes the domain at once (R431, R434). -/
def Dev.entryDone (d : Dev) (k : Nat) : Dev :=
  let x := d.dom k
  match x.use with
  | .entering f =>
    (d.setDom k { x with
      use := if x.late then .waking f else if f = 1 then .gated else .retain, late := false }).raise evPdDomEnter 0
  | _ => d

/-- The wake delay of a domain in ns (R429). -/
def wakeDelay (k floor : Nat) : Nat :=
  if floor = 1 then (if k ≤ 5 then 100 else 20)
  else match k with
  | 6 => 4000 | 7 => 12000 | 8 => 8000 | 9 => 10000 | 10 => 40000 | _ => 25000

/-- DOM_WAKE: a wake ends after `ns`; `signed_` says that every retention array's signature word is good (R433, R435). -/
def Dev.domWake (d : Dev) (k ns : Nat) (signed_ : Bool) : Dev :=
  let x := d.dom k
  match x.use with
  | .waking f =>
    let recent := (d.st.boundaries :: x.recent).filter (fun t => decide (d.waited t * d.period < 1024000))
    let d := d.setDom k { x with
      use := .on, idle := false, wakes := if f = 2 then satInc (2 ^ 32 - 1) x.wakes else x.wakes,
      recent := if 64 < recent.length then [] else recent }
    let d := (d.wr rPdWakeLast (min ns (2 ^ 32 - 1))).raise evPdDomWake 0
    let d := if f = 2 ∧ signed_ = false then (d.latchPd k 1).raise evPdRetainLost 0 else d
    let d := if 3 * wakeDelay k f < 2 * ns then (d.latchPd k 2).raise evPdWakeSlow 0 else d
    d.raiseIf (decide (64 < recent.length)) evPdWakeStorm 0
  | _ => d

/-- HOLD_LONG: a vote has stayed held by transfers for 1,024 µs (R432). -/
def Dev.holdLong (d : Dev) (k : Nat) : Dev := d.raiseIf (d.domHeld k) evPdHoldLong 0

/-- DOM_STUCK: a domain has been in transition for 100 µs (R439). -/
def Dev.domStuck (d : Dev) (k : Nat) : Dev :=
  match (d.dom k).use with
  | .entering _ => d.raise evPdDomStuck 0
  | .waking _ => d.raise evPdDomStuck 0
  | _ => d

/-- BIAS_FAULT, ASSIST_FAULT and RAIL_UV (R439). -/
def Dev.biasFault (d : Dev) (k : Nat) : Dev := (d.latchPd k 3).raise evPdBiasFault 0
def Dev.assistFault (d : Dev) (k : Nat) : Dev := (d.latchPd k 4).raise evPdAssistFault 0
def Dev.railUv (d : Dev) (k : Nat) : Dev := (d.latchPd k 5).raise evPdRailUv 0

/-- PD_PARITY: the domain is held ON (R439). -/
def Dev.pdParity (d : Dev) (k : Nat) : Dev :=
  ((d.setDom k { d.dom k with stuckOn := true }).latchPd k 6).raise evPdPdParity 0

/-- Work takes a vote of a domain while it lasts: the domain wakes, IDLE_DELAY is cancelled, or the vote is late (R433, R434). -/
def Dev.workVote (d : Dev) (k : Nat) : Dev :=
  let x := d.dom k
  match x.use with
  | .on => d.setDom k { x with idle := false }
  | .gated => d.setDom k { x with use := .waking 1 }
  | .retain => d.setDom k { x with use := .waking 2 }
  | .entering _ => if x.late then d else (d.setDom k { x with late := true }).raise evPdLateVote 0
  | .waking _ => d

/-- A register access that wakes a domain raises ACCESS_WAKE (R433). -/
def Dev.registerAccess (d : Dev) (k : Nat) : Dev :=
  let x := d.dom k
  (d.workVote k).raiseIf (match x.use with | .gated | .retain => true | .entering _ => !x.late | _ => false) evPdAccessWake 0

/-- A scratchpad access waits where its domain is not ON (R433). -/
def Dev.scratchAccess (d : Dev) : Dev := (d.workVote 10).raiseIf (decide ((d.dom 10).use ≠ .on)) evPdScratchWait 0

/-- PD_STATUS and PD_DOM_STATE (R438). -/
def Dev.pdStatus (d : Dev) : Nat := pack ((upFrom 0 domCount).map (fun k => (2, (d.dom k).use.code)))
def Dev.domState (d : Dev) (k : Nat) : Nat :=
  let x := d.dom k
  pack [(2, x.use.code), (1, bit (d.domHeld k)), (1, bit (flag (d.rd rPdVote) k)), (4, 0), (8, d.clientVotes k),
    (32, x.wakes)]

end Sys2Proof.Machine
end

