-- ==== Sys2Proof/Machine/Fence.lean ====
section
/-! DEFINITION. What the collector does to a unit: fences, their release, FATAL, and the faults of the collector and of the
counters (R408 to R411, R415, R428). -/

namespace Sys2Proof.Machine

/-- Latch a management error (R491). -/
def Dev.latchMg (d : Dev) (reason path addr : Nat) : Dev := d.latch rMgErrLatch (pack [(4, reason), (2, path), (2, 0), (32, addr)])

/-- A Tun port is fenced (R408). -/
def Dev.fencePort (d : Dev) (p : Nat) : Dev :=
  if p < 256 then (if d.isPort p then d.breakPort p 1 else d)
  else if p < 304 then (if d.cxRole (p - 256) = 0 then d else d.stopCx (p - 256) .fenced)
  else d

/-- A function is fenced by the collector (R80, R408). -/
def Dev.fenceFnFe (d : Dev) (h : Nat) : Dev := if d.fnFenced h then d else (d.latchHq 0 0 13 h true).fenceFn h 13 0

/-- A slot is fenced: LATCHED, as a trip without a reason of its own (R352, R408). -/
def Dev.fenceSlot (d : Dev) (s : Nat) : Dev :=
  if (d.slot s).owned ∧ (d.slot s).use ≠ .standby ∧ (d.slot s).use ≠ .latched then
    let d := d.retractPg s
    ((d.setSlot s { d.slot s with reason := 0 }).slotTo s .latched).slotLost s
  else d

/-- The collector's fence of a unit, by the table of R408. -/
def Dev.applyFence (d : Dev) (k : UnitKind) (i : Nat) : Dev :=
  match k with
  | .none => d
  | .port => d.fencePort i
  | .ring => d.stopRing i 13 none false
  | .function => d.fenceFnFe i
  | .endpoint => d.fenceEp i 13
  | .rlGroup => d.rlCause i raMgmt d.node 0 false none
  | .window => if (d.win i).use = .off ∨ (d.win i).use = .fenced then d else d.fenceWindow i 0
  | .slot => d.fenceSlot i
  | .feedGroup => d.setGroup i { d.group i with latched := true }
  | .lockGroup => d.fenceLockGroup i
  | .fabricTile => d.fenceTile i
  | .cxlTile => d.fenceCxTile i
  | .device => d

/-- FATAL: every fabric port is broken with reason FENCE and every CXL port fenced, and then the device takes its entry in the
fence table, as the collector's fence (R411). Heartbeats stop with FE_STATUS.FATAL. -/
def Dev.fatalStop (d : Dev) (src : Nat) : Dev :=
  let d := forEach (Tbl.keys d.map) (fun p (d : Dev) => d.breakPort p 1) d
  let d := forEach (upFrom 0 48) (fun k (d : Dev) => if d.cxRole k = 0 then d else d.stopCx k .fenced) d
  d.addFence .device 0 src true

/-- The collector reports a fault of its own: 1 TABLE_FULL, 2 I3C_FULL (R409, R415). -/
def Dev.feFaultNow (d : Dev) (reason : Nat) : Dev :=
  ((d.latch rFeErrLatch (field reason 0 4)).latchMg 2 0 0).raise evMgFeFault 0

/-- A counter fails its check (R428). -/
def Dev.pcFaultNow (d : Dev) (ctr : Nat) : Dev :=
  ((d.latch rPcErrLatch (field ctr 0 11)).latchMg 3 0 ctr).raise evMgPcFault 0

/-- The release of a fence entry's unit, for the kinds that FE_FENCE_CMD releases (R408, R410). -/
def Dev.releaseUnit (d : Dev) (k : UnitKind) (i : Nat) : Option Dev :=
  match k with
  | .port => some (if i < 256 then d.releasePort i else d.releaseCx (i - 256))
  | .lockGroup => some (d.releaseLockGroup i)
  | .fabricTile => some (forEach ((Tbl.keys d.map).filter (fun p => p / 64 == i)) (fun p (d : Dev) => d.releasePort p) d)
  | .cxlTile => some (d.releaseCxTile i)
  | _ => none

/-- FENCE_RELEASE: a write of FE_FENCE_CMD with RELEASE 1 (R410). -/
def Dev.fenceRelease (d : Dev) (entry : Nat) : Dev :=
  match Tbl.get none d.fe.fence entry with
  | some e =>
    (match (d.clearFence e.kind e.inst).releaseUnit e.kind e.inst with
     | some d => d
     | none => d.refuse)
  | none => d.refuse

/-- An output's scheduler state fails its check: the port is fenced (R305, R518). -/
def Dev.schedParity (d : Dev) (o : Nat) : Dev := ((d.latch rScErrLatch (pack [(9, o), (4, 1)])).raise evScSchedParity o).fencePort o

end Sys2Proof.Machine
end

