-- ==== Sys2Proof/Machine/Frames.lean ====
section
/-! DEFINITION. Eboury frames: their check, their responses, requests in flight, and in-band interrupts (R481 to R485,
R488). -/

namespace Sys2Proof.Machine

/-- Status codes of R485. -/
def ebOk : Nat := 0x00
def ebOpcode : Nat := 0x01
def ebLength : Nat := 0x02
def ebFrameCrc : Nat := 0x03
def ebBusy : Nat := 0x04
def ebNotServed : Nat := 0x05
def ebLocked : Nat := 0x06
def ebRefused : Nat := 0x07
def ebApplyRefused : Nat := 0x08
def ebUnmapped : Nat := 0x09
def ebNoIdentity : Nat := 0x0A
def ebNonce : Nat := 0x0B
def ebSerial : Nat := 0x0C
def ebForm : Nat := 0x0D
def ebExhausted : Nat := 0x0E
def ebFlash : Nat := 0x0F

/-- A request frame that has passed its checks. -/
structure EbFrame where
  opcode : Nat
  tag : Nat
  payload : List Byte
  deriving DecidableEq, Repr

/-- The CRC of a frame's header and payload (R481). -/
def ebCrc (bytes : List Byte) : List Byte := toBytes 4 (crc32c bytes)

/-- A response frame (R481). -/
def ebResponse (opcode tag status : Nat) (island : Bool) (payload : List Byte) : List Byte :=
  let body := toBytes 8 (pack [(8, opcode), (1, 1), (1, bit island), (6, 0), (16, tag), (16, payload.length), (16, status)])
    ++ payload
  body ++ ebCrc body

/-- A response is ready (R483). -/
def Dev.ebReply (d : Dev) (f : EbFrame) (island : Bool) (status : Nat) (payload : List Byte) : Dev :=
  { d with mg := { d.mg with ready := d.mg.ready ++ [⟨f.opcode, ebResponse f.opcode f.tag status island payload⟩] } }

/-- Requests in flight: not answered, or answered and not read (R483, R491). -/
def Dev.inflight (d : Dev) : Nat := d.mg.waits.length + d.mg.ready.length

/-- A request stays unanswered. -/
def Dev.ebWait (d : Dev) (f : EbFrame) (mhTag : Nat) : Dev :=
  { d with mg := { d.mg with waits := d.mg.waits ++ [⟨f.opcode, f.tag, mhTag⟩] } }

/-- The first unanswered request that a test accepts is answered. -/
def Dev.ebAnswer (d : Dev) (p : EbWait → Bool) (island : Bool) (status : Nat) (payload : List Byte) : Dev :=
  match firstThat d.mg.waits p with
  | some w => ({ d with mg := { d.mg with waits := removeFirst d.mg.waits p } }).ebReply ⟨w.opcode, w.tag, []⟩ island status
      payload
  | none => d

/-- The opcodes the safety island serves (R487). -/
def islandOp (op : Nat) : Bool := decide (1 ≤ op) && decide (op ≤ 6)

/-- The fields of a frame, as far as it goes. -/
def ebHead (bytes : List Byte) : Nat := ofBytes (bytes.take 8)

/-- LENGTH and the size of the write agree, within the limit of SETMWL (R479, R482). -/
def ebSizeOk (mwl : Nat) (bytes : List Byte) : Bool :=
  decide (8 ≤ bytes.length) && bytes.length == 12 + field (ebHead bytes) 32 16 && decide (field (ebHead bytes) 32 16 ≤ 4096)
    && decide (bytes.length ≤ mwl)

/-- The trailer is the CRC of what stands before it. -/
def ebCrcOk (bytes : List Byte) : Bool :=
  decide (bytes.drop (bytes.length - 4) = ebCrc (bytes.take (bytes.length - 4)))

/-- The header bytes shown as zero are zero. -/
def ebZeroOk (bytes : List Byte) : Bool := field (ebHead bytes) 8 8 == 0 && field (ebHead bytes) 48 16 == 0

/-- MG_FRAMES counts a frame (R491). -/
def Dev.countFrame (d : Dev) (bad : Bool) : Dev :=
  let w := d.rd rMgFrames
  d.wr rMgFrames (pack [(32, satInc (2 ^ 32 - 1) (field w 0 32)),
    (32, if bad then satInc (2 ^ 32 - 1) (field w 32 32) else field w 32 32)])

/-- The safety island answers: a start has reached step 2, or the device is RUNNING or in safe mode; in the thermal hold,
STATUS and TEMP only (R487, R501). -/
def Dev.islandUp (d : Dev) (op : Nat) : Bool := decide (2 ≤ d.bt.phase) || (d.bt.hot && (op == 1 || op == 3))

/-- A request frame arrives, by a private write, an HDR-DDR Write or the legacy fallback: it is NACKed while 8 are in flight
and checked; the frame to serve is left, where the device carries one out. The management complex serves all but the island's
opcodes; a store during a start is answered BUSY all the same (R473, R482, R483, R487, R488). -/
def Dev.ebCheck (d : Dev) (bytes : List Byte) : Option EbFrame × Dev :=
  let h := ebHead bytes
  let f : EbFrame := ⟨field h 0 8, field h 16 16, (bytes.drop 8).take (field h 32 16)⟩
  if !(d.islandUp f.opcode) then (none, d)
  else if 8 ≤ d.inflight then (none, d.emit .i3cNack)
  else if !(ebSizeOk d.mg.mwl bytes) then
    (none, (((d.countFrame true).latchMg 5 0 0).raise evMgFrameForm 0).ebReply f (islandOp f.opcode) ebLength [])
  else if !(ebCrcOk bytes) then
    (none, (((d.countFrame true).latchMg 4 0 0).raise evMgFrameCrc 0).ebReply f (islandOp f.opcode) ebFrameCrc [])
  else if !(ebZeroOk bytes) then
    (none, (((d.countFrame true).latchMg 5 0 0).raise evMgFrameForm 0).ebReply f (islandOp f.opcode) ebLength [])
  else
    let d := d.countFrame false
    if !(islandOp f.opcode) && !d.mg.alive && !(d.starting && f.opcode == 0x49) then
      (none, (d.raise evMgNotServed 0).ebReply f true ebNotServed [])
    else (some f, d)

/-- A Malthouse answer goes back to the request that carried it (R486). -/
def Dev.mhReply (d : Dev) : Dev :=
  let words := d.out.reverse.filterMap (fun o => match o with | .mhResponse 5 w => some w | _ => none)
  forEach words (fun w (d : Dev) =>
    d.ebAnswer (fun x => x.opcode == 0x20 && x.mhTag == field w 0 16) false ebOk (toBytes 8 w)) d

/-- The IBI the device has cause to request: a fault record first, then a ready response (R484). -/
def Dev.ibiCause (d : Dev) : Option (Nat × List Nat) :=
  match d.fe.i3c with
  | r :: _ => some (2, r.words)
  | [] => if d.mg.told < d.mg.ready.length then some (1, []) else none

/-- IBIs can be requested: a dynamic address is assigned and DISEC has not disabled them (R480, R484). -/
def Dev.ibiOpen (d : Dev) : Bool := d.mg.addr.isSome && !d.mg.ibiOff

/-- Request an IBI where there is cause and none is outstanding. -/
def Dev.ibiRequest (d : Dev) : Dev :=
  if !d.ibiOpen || d.mg.ibiAsked.isSome then d
  else match d.ibiCause with
  | some (b, payload) => ({ d with mg := { d.mg with ibiAsked := some b } }).emit (.ibi b payload)
  | none => d

end Sys2Proof.Machine
end

