-- ==== Sys2Proof/Machine/Settle.lean ====
section
/-! DEFINITION. What follows from a command within its step: owed work, packets that engines built, limits, levels, bypass
flits, power domains, and in-band interrupts. -/

namespace Sys2Proof.Machine

/-- The end of a message goes to its owner (R136, R157, R159, R335, R337, R388, R389). -/
def Dev.msgEnded (d : Dev) (m : Msg) (status kind reason : Nat) (result : List Byte) : Dev :=
  match m.owner with
  | .cmd ep index lap k => d.cmdMsgEnd ep index lap ⟨k, status, kind, reason⟩ result
  | .rts ep index lap =>
    (match d.findCmd ep index lap with
     | some c => d.rtsEnd c m status kind reason
     | none => d)
  | .pull num k => d.pullMsgEnd num ⟨k, status, kind, reason⟩
  | .fin => d
  | .lockReq ep index lap => d.lockReqEnd ep index lap status kind reason
  | .lockGrant lock _ => d.lockGrantEnd lock m status
  | .forward => d
  | .fill w num => d.fillEnd w num status result
  | .writeBack w line => d.wbEnd w line status
  | .winReply => d

/-- One piece of owed work. -/
def Dev.doTodo (d : Dev) (t : Todo) : Dev :=
  match t with
  | .fence k i _ => d.applyFence k i
  | .fatal src => d.fatalStop src
  | .feFault reason => d.feFaultNow reason
  | .pcFault ctr => d.pcFaultNow ctr
  | .msgEnd m status kind reason result => d.msgEnded m status kind reason result
  | .startCmds ep => d.startNext ep
  | .epIdle ep => d.checkIdle ep
  | .sampleDone c status => d.sampleDone c status
  | .mirrorAcked => d.locksAcked
  | .timeStep old => d.gateStep old
  | .prqWake => d.prqFreed
  | .rlWake => d.rlRetry

/-- Owed work in order; it may owe more. -/
def Dev.doTodos (d : Dev) : Nat → Dev
  | 0 => d
  | n + 1 =>
    match d.todo with
    | [] => d
    | t :: rest => (({ d with todo := rest }).doTodo t).doTodos n

/-- Pieces of owed work that one step may do. -/
def todoFuel : Nat := 65536

/-- Packets that engines have built, the oldest first. -/
def Dev.built (d : Dev) : List OutPacket := d.out.reverse.filterMap (fun o => match o with | .packet p => some p | _ => none)

/-- Owed work, then the packets it built, until neither is left; `done` packets have gone. -/
def Dev.doWork (d : Dev) (done : Nat) : Nat → Dev
  | 0 => d
  | n + 1 =>
    let d := d.doTodos todoFuel
    let new := d.built.drop done
    if new.isEmpty && d.todo.isEmpty then d
    else (forEach new (fun p (d : Dev) => d.sendBuilt p) d).doWork (done + new.length) n

/-- What follows from a command. -/
def Dev.settle (d : Dev) : Dev :=
  let d := (d.doWork 0 64).drainInputs
  let d := (d.advanceAll.levels.doWork d.built.length 64).mhReply
  (d.powerSettle.doTodos todoFuel).hostFrames.bypSend.ibiRequest.rlSettled

end Sys2Proof.Machine
end

