-- ==== Sys2Proof/Machine/RegBase.lean ====
section
/-! DEFINITION. How a register takes a written value: its bank, its staged T fields, the units its Q fields wait for, and the
rules of other chapters that refuse a value (R5 to R11). -/

namespace Sys2Proof.Machine

/-- The bank that a select register shows (R197, R285, R305, R342, R438). -/
def Dev.bankOf (d : Dev) (r : Reg) : Nat :=
  match r.sel with
  | some .rlGrpSel => d.fld rRlGrpSel 0 12
  | some .scPortSel => d.fld rScPortSel 0 9
  | some .scFlowSel => d.fld rScFlowSel 0 14
  | some .wnWinSel => d.fld rWnWinSel 0 8
  | some .pdDomSel => d.fld rPdDomSel 0 4
  | some .lnLaneSel => d.fld rLnLaneSel 0 8
  | _ => 0

/-- The value staged for a register, with its T fields as last written; its active value where none is staged (R10). -/
def Dev.stagedValue (d : Dev) (r : Reg) (i bank : Nat) : Nat :=
  match Tbl.get none d.staged (r.key i bank) with
  | some v => v
  | none => d.rd r i bank

/-- What a read returns of a register's stored fields: staged T fields, active values of the others, zero for WO fields and
reserved bits (R5, R6, R10). -/
def Dev.stored (d : Dev) (r : Reg) (i bank : Nat) : Nat :=
  let active := d.rd r i bank
  let st := d.stagedValue r i bank
  (r.fields.filter (fun f => decide (f.acc ≠ .wo))).foldl
    (fun w f => setField w f.lo f.len (field (if f.staged then st else active) f.lo f.len)) 0

/-- The staged value takes effect at a boundary (R10). -/
def Dev.applyStaged (d : Dev) (key : Nat) (v : Nat) : Dev :=
  let sp : Space := if 2 ^ 61 ≤ key then .fn else if 2 ^ 60 ≤ key then .ep else .blk
  match regAt sp (key % 2 ^ 32) allRegs with
  | some (r, i) =>
    let bank := field key 32 28 - 1
    let new := (r.fields.filter (fun f => f.staged)).foldl
      (fun w f => setField w f.lo f.len (field v f.lo f.len)) (d.rd r i bank)
    d.wr r new i bank
  | none => d

/-- All T fields written within a tick take effect together at its end (R7, R10). -/
def Dev.mergeStaged (d : Dev) : Dev :=
  let l := d.staged
  { (forEach l (fun (p : Nat × Option Nat) (d : Dev) =>
      match p.2 with | some v => d.applyStaged p.1 v | none => d) d) with staged := [] }

/-! ### Units of Q fields (R8, R9) -/

/-- Every Relay group whose child range covers an entry is OFF (R170, R197). -/
def Dev.childIdle (d : Dev) (n : Nat) : Bool :=
  (Tbl.keys d.rl.groups).all (fun g =>
    decide ((d.rlGroup g).state = .off) || !(decide (d.rlBase g ≤ n) && decide (n < d.rlBase g + d.rlCount g)))

/-- Every Relay group is OFF (R233). -/
def Dev.relayOff (d : Dev) : Bool := (Tbl.keys d.rl.groups).all (fun g => decide ((d.rlGroup g).state = .off))

/-- A lane's port is DISABLED, or no port uses the lane (R282, R283). -/
def Dev.laneIdle (d : Dev) (l : Nat) : Bool :=
  match d.portOfLane l with
  | some p => decide ((d.lkPort p).state = .disabled)
  | none => true

/-- No lock of a group is held, being granted or waited for (R395). -/
def Dev.lockGroupIdle (d : Dev) (g : Nat) : Bool :=
  d.ls.locks.all (fun (p : Nat × LockCell) =>
    lockGroup p.1 != g || (decide (p.2.use = .free) && p.2.waiters.isEmpty))

/-- The control ring of a function is disabled and no control entry is in progress: FN_CTRL_CFG.IDLE (R77). -/
def Dev.ctrlIdle (d : Dev) (h : Nat) : Bool := !(d.fn h).enable && (d.fn h).cmd.issued == 0

/-- The owning unit of a register's Q fields is idle. -/
def Dev.qIdle (d : Dev) (r : Reg) (i bank : Nat) : Bool :=
  match r.name with
  | .fnCtrlBase | .fnCtrlEvtBase | .fnCtrlCfg | .fnCaskBase => d.ctrlIdle bank
  | .fnXlTagBase => (d.fnEps bank).all (fun ep => d.idle ep)
  | .rlGrpCfg | .rlGrpTree => decide ((d.rlGroup bank).state = .off)
  | .rlChild => d.childIdle i
  | .tnRelayCells => d.relayOff
  | .tnSesCtl | .tnSesBase => !(d.sesEn i) && !(d.sesBusy i)
  | .lnTxEq | .lnPrbsCtl => d.laneIdle i
  | .scGateBank => i != (d.scOut bank).bank
  | .scGateEntry => i / 256 != (d.scOut bank).bank
  | .wnWinCfg | .wnWinHome | .wnWinAddr | .wnWinHosts => decide ((d.win bank).use = .off)
  | .spSlotCfg | .spSlotLim => decide ((d.slot i).use = .off) || decide ((d.slot i).use = .latched)
  | .lsGrpAcl | .lsGrpNodes => d.lockGroupIdle i
  | _ => true

/-- A write would change an S field, or a Q field whose unit is not idle (R8). -/
def Dev.heldField (d : Dev) (r : Reg) (i bank value : Nat) : Bool :=
  r.fields.any (fun f => decide (f.acc = .rw) && field value f.lo f.len != d.fld r f.lo f.len i bank
    && (decide (f.cls = .s) || (decide (f.cls = .q) && !(d.qIdle r i bank))))

/-! ### Values that other rules refuse under R8 -/

/-- The magnitude of a tap (R282). -/
def tapSize (v : Nat) : Nat := (signed v 8).natAbs

/-- The four taps of LN_TX_EQ stay within −64 to +64 and sum to at most 64 (R282). -/
def tapsOk (value : Nat) : Bool :=
  let taps := (upFrom 0 4).map (fun k => tapSize (field value (8 * k) 8))
  taps.all (fun t => decide (t ≤ 64)) && decide (taps.foldl (· + ·) 0 ≤ 64)

/-- The fields of TN_SES_CTL stay in their ranges, and FN names a function with a host-facing port (R248). -/
def Dev.sesOk (d : Dev) (value : Nat) : Bool :=
  let slot := field value 6 4
  let ring := field value 10 5
  decide (6 ≤ slot) && decide (slot ≤ 13) && decide (16 ≤ ring) && decide (ring ≤ 30) && decide (slot + 6 ≤ ring)
    && (d.hostPort (field value 1 5)).isSome

/-- A write leaves every S and Q field of a register as it is: R8 never refuses that. -/
def Dev.sameHeld (d : Dev) (r : Reg) (i value : Nat) : Bool :=
  r.fields.all (fun f => !(decide (f.acc = .rw) && (decide (f.cls = .s) || decide (f.cls = .q)))
    || field value f.lo f.len == d.fld r f.lo f.len i)

/-- A rule other than R8 accepts the value (R197 to R438). -/
def Dev.valueOk (d : Dev) (r : Reg) (i value : Nat) : Bool :=
  match r.name with
  | .feSrcCfg => !(field value 1 2 == 2 && decide ((sourceRow i).unit = .none))
  | .lkPortCtl => d.isPort i
  | .cxPortCtl => decide (d.cxRole i ≠ 0)
  | .lnTxEq => field value 0 32 == d.fld r 0 32 i || tapsOk value
  | .tnRelayCells => field value 0 17 == d.fld r 0 17 || decide (65536 ≤ (d.wr rTnRelayCells value).remainder)
  | .tnSesCtl => d.sameHeld r i value || d.sesOk value
  | .pdDomSel => decide (field value 0 4 ≤ 10)
  | .fnCtrlCfg => !(badLog2 (field value 0 5)) && !(badLog2 (field value 8 5))
  | .cxPortCfg => field value 10 2 != 3
  | .spSlotCfg | .spSlotLim => (d.slot i).owned || d.sameHeld r i value
  | .spSlotCtl | .spSlotEnergy => (d.slot i).owned
  | .spFgCfg | .spFgCtl => (d.group i).owned
  | _ => true

end Sys2Proof.Machine
end

