-- ==== Sys2Proof/Machine/RegRead.lean ====
section
/-! DEFINITION. What a read of each register returns, and what it clears (R4 to R6, R10, and each chapter's register
table). -/

namespace Sys2Proof.Machine

/-! ### Blocks HQ, XL, TP and MX -/

/-- FN_STATUS and HQ_FN_STATE of a function (R77, R87). -/
def Dev.fnStatus (d : Dev) (h : Nat) : Nat :=
  match (d.fn h).fenced with
  | some (reason, index) => pack [(1, 1), (8, reason), (7, 0), (16, index)]
  | none => 0
def Dev.fnState (d : Dev) (h : Nat) : Nat :=
  match (d.fn h).fenced with
  | some (reason, index) => pack [(1, 1), (1, bit (d.fn h).enable), (8, reason), (6, 0), (16, index)]
  | none => pack [(1, 0), (1, bit (d.fn h).enable)]

/-- HQ_STATUS (R87). -/
def Dev.hqStatus (d : Dev) : Nat :=
  pack [(14, d.cachedCtx), (14, d.pinnedCtx), (32, pack ((upFrom 0 32).map (fun h => (1, bit (d.fnFenced h)))))]

/-- HQ_MQ_STATUS (R87). -/
def Dev.mqStatus (d : Dev) : Nat :=
  pack ((upFrom 0 16).map (fun q => (1, bit (!(d.mq q).entries.isEmpty)))
    ++ (upFrom 0 16).map (fun q => (1, bit (d.mq q).stalled)))

/-- The two positions of a control ring as FN_CTRL_DB and FN_CTRL_EVT_DB return them (R57, R77). -/
def Dev.readCtrlDb (d : Dev) (h : Nat) : Nat :=
  let c := (d.fn h).cmd
  pack [(16, c.cons.index), (1, bit c.cons.lap), (1, bit (d.fnFenced h)), (1, bit (d.ctrlIdle h && d.powered)),
    (8, match (d.fn h).fenced with | some (r, _) => r | none => 0)]
def Dev.readCtrlEvtDb (d : Dev) (h : Nat) : Nat :=
  let e := (d.fn h).evt
  pack [(16, e.prod.index), (1, bit e.prod.lap), (17, e.rsv)]

/-- FN_CTRL_CFG (R77). -/
def Dev.readCtrlCfg (d : Dev) (h : Nat) : Nat :=
  let f := d.fn h
  pack [(5, f.cmd.log2), (3, 0), (5, f.evt.log2), (3, 0), (1, bit f.enable), (1, bit (d.ctrlIdle h && d.powered)), (11, f.msix)]

/-- The read layout of an invalidate command register (R105, R114). -/
def Dev.invStatus (d : Dev) (i : Nat) : Nat :=
  let x : InvState := Tbl.get {} d.xl.inv i
  pack [(32, 0), (16, x.done), (1, bit x.busy)]

/-- XL_STATUS (R115). -/
def Dev.xlStatus (d : Dev) : Nat :=
  pack [(16, d.xl.leaves.length), (16, d.pinnedLeaves), (13, countWhere d.xl.prq (fun p => p.2.isSome))]

/-- TP_STATUS, TP_STAGE_STATUS and TP_WIN_STATE (R141). -/
def Dev.tpStatus (d : Dev) : Nat :=
  pack [(17, d.inFlight), (21, d.tp.recs.length), (15, countWhere d.tp.wins (fun p => p.2.isSome)), (1, bit d.st.conserv)]
def Dev.stageStatus (d : Dev) : Nat :=
  let eps := (Tbl.keys d.hq.eps).filter (fun ep => d.tp.staged.any (fun p => p.1 == ep))
  pack [(15, d.stagedCells), (1, 0), (14, eps.length)]
/-- Messages to a node that wait for credit: the next one, which the credit rule holds back, and those behind it (R128, R141). -/
def Dev.creditWaits (d : Dev) (node : Nat) : Nat :=
  match d.nextFor node with
  | some m =>
    if creditOk (d.winOf node) m.wants then 0
    else countWhere d.tp.msgs (fun x => x.dstNode == node && x.id.isNone && decide (x.phase = .waiting))
  | none => 0
def Dev.winState (d : Dev) (node : Nat) : Nat :=
  let sent := countWhere d.tp.msgs (fun m => m.dstNode == node && m.id.isSome)
  let waiting := d.creditWaits node
  match Tbl.get none d.tp.wins node with
  | some w => pack [(1, 1), (10, w.adv), (16, w.held), (17, sent), (17, waiting)]
  | none => pack [(1, 0), (10, 0), (16, 0), (17, sent), (17, waiting)]

/-- MX_STATUS, MX_EP_STATE and MX_UBUF_STATE (R166). -/
def Dev.mxStatus (d : Dev) : Nat := pack [(21, d.mx.posted.length), (20, d.mx.unexp.length), (17, d.rdvOpen)]
def Dev.mxEpState (d : Dev) (ep : Nat) : Nat :=
  let own := d.mx.posted.filter (fun p => p.ep == ep)
  pack [(21, countWhere own (fun p => p.exact)), (21, countWhere own (fun p => !p.exact)),
    (20, countWhere d.mx.unexp (fun u => u.ep == ep)), (1, bit (d.mxEp ep).area.isSome)]
def Dev.ubufState (d : Dev) (ep : Nat) : Nat :=
  match (d.mxEp ep).area with
  | some (_, log2, _) => pack [(5, log2), (31, (d.mxEp ep).used)]
  | none => 0

/-! ### Blocks WN and LS -/

/-- WN_STATUS, WN_WIN_STATE and FN_WN_CMD as read (R338, R341). -/
def Dev.wnStatus (d : Dev) : Nat :=
  pack [(19, countWhere d.wn.lines (fun l => l.valid0 || l.valid1)), (19, countWhere d.wn.lines (fun l => l.dirty)),
    (9, countWhere d.wn.wins (fun w => decide (w.2.use = .active))),
    (9, countWhere d.wn.wins (fun w => decide (w.2.use = .fenced)))]
def Dev.winStatus (d : Dev) (w : Nat) : Nat :=
  let x := d.win w
  let own := d.wn.lines.filter (fun l => l.window == w)
  pack [(2, x.use.code), (4, x.refuse), (19, countWhere own (fun l => l.valid0 || l.valid1)),
    (19, countWhere own (fun l => l.dirty)), (4, x.fenceReason)]
def Dev.flushStatus (d : Dev) (h : Nat) : Nat :=
  let x : WnFlush := Tbl.get {} d.wn.flush h
  pack [(32, 0), (16, x.done), (1, bit x.busy), (1, bit x.fail)]

/-- LS_STATUS and LS_LOCK_STATE (R395). -/
def Dev.lsStatus (d : Dev) : Nat :=
  pack [(13, countWhere d.ls.locks (fun p => decide (p.2.use ≠ .free))), (15, d.lockWaiters), (16, d.ls.fenced)]
def Dev.lockState (d : Dev) (k : Nat) : Nat :=
  let c := d.lock k
  let use := match c.use with | .free => 0 | .held => 1 | .granting => 2
  match c.holder with
  | some p => pack [(2, use), (2, p.cls.code), (18, p.node), (16, p.ep), (15, c.waiters.length), (1, bit c.abandoned),
      (10, if p.cls = .remote then min 1023 (d.leaseLimit - d.since c.lease) else 0)]
  | none => pack [(2, use), (36, 0), (15, c.waiters.length), (1, bit c.abandoned)]

/-! ### Blocks SE, BT and MG, and identity -/

/-- The active OWNER slot: the highest-numbered one that is written and unrevoked (R441). -/
def Fuses.activeOwner (f : Fuses) : Option Nat :=
  firstThat [3, 2, 1, 0] (fun k => (Tbl.get none f.owner k).isSome && !(flag f.ownerRevoked k))

/-- Ticks of a debug unlock that are left (R450). -/
def Dev.unlockLeft (d : Dev) : Nat :=
  match d.se.unlock with
  | some u => u.ticks - d.since u.since
  | none => 0

/-- SE_STATUS, SE_ALARM, SE_SVN and SE_COUNTS (R455). -/
def Dev.seStatus (d : Dev) (n : NvUnit) : Nat :=
  pack [(3, d.se.life), (1, bit d.se.shown), (1, bit d.se.alarmA), (1, bit d.se.idReady), (1, bit d.se.unlock.isSome),
    (1, bit d.se.sparge.isSome), (2, n.fuses.activeOwner.getD 0), (4, n.fuses.rootRevoked), (2, 0), (32, d.unlockLeft)]
def Dev.seAlarm (d : Dev) : Nat := pack [(4, 0), (4, d.se.cause)]
def seSvn (n : NvUnit) : Nat := pack [(32, n.fuses.fwSvn), (32, n.fuses.cfgSvn)]
def Dev.seCounts (d : Dev) (n : NvUnit) : Nat := pack [(32, n.alarms), (32, d.se.attests)]

/-- The boot record that counts: the valid copy written last (R475). -/
def NvUnit.boot (n : NvUnit) : Option BootRec :=
  match if n.bootLast1 then n.boot1 else n.boot0 with
  | some b => some b
  | none => if n.bootLast1 then n.boot0 else n.boot1

/-- A boot record is written: the two copies take turns (R475). -/
def NvUnit.putBoot (n : NvUnit) (b : BootRec) : NvUnit :=
  if n.bootLast1 then { n with boot0 := some b, bootLast1 := false } else { n with boot1 := some b, bootLast1 := true }

/-- The boot record in use; without a valid copy FAIL_COUNT is 0 and PREFER is A (R475). -/
def NvUnit.bootRec (n : NvUnit) : BootRec := n.boot.getD {}

/-- BT_STATUS and BT_SET_STATUS (R476). -/
def Dev.btStatus (d : Dev) (n : NvUnit) : Nat :=
  pack [(2, d.bt.kind), (4, d.bt.phase), (2, d.bt.part), (1, bit (d.bt.phase == 10)), (1, n.bootRec.prefer),
    (1, bit d.bt.settings), (5, 0), (8, n.bootRec.failCount), (8, 0), (32, d.bt.startMs)]
def Dev.setStatus (d : Dev) (n : NvUnit) : Nat :=
  let (count, gen) := match if d.bt.page = 0 then n.page0 else n.page1 with
    | .valid g _ recs => (recs.length, g)
    | _ => (0, 0)
  pack [(1, bit d.bt.store.isSome), (2, d.bt.storeResult), (1, d.bt.page), (13, count), (15, 0), (32, gen)]

/-- ID_PID: the straps in its lowest bits (R490, R491). -/
def Dev.pid (d : Dev) (n : NvUnit) : Nat := pack [(2, d.bt.straps), (1, bit d.bt.twinId), (1, 0), (44, n.pid)]

/-- MG_STATUS (R491). -/
def Dev.mgStatus (d : Dev) : Nat :=
  pack [(7, d.mg.addr.getD 0), (1, bit d.mg.addr.isSome), (1, bit d.mg.legacy), (1, bit d.mg.alive), (4, d.bt.straps),
    (1, bit d.bt.twinId), (4, d.inflight), (4, d.mg.ready.length)]

/-! ### Every register -/

/-- A read of a register of a page (R57, R77, R105, R114, R244, R338). -/
def Dev.pageRead (d : Dev) (r : Reg) (i bank : Nat) : Nat :=
  match r.name with
  | .epCmdDb => d.readCmdDb bank
  | .epEvtDb => d.readEvtDb bank
  | .epCtl => (match d.ep bank with | some c => bit c.enable | none => 0)
  | .epPageDb => d.pagePending bank
  | .fnCtrlBase => (d.fn bank).cmd.base
  | .fnCtrlEvtBase => (d.fn bank).evt.base
  | .fnCtrlCfg => d.readCtrlCfg bank
  | .fnCaskBase => (d.fn bank).cask
  | .fnCtrlDb => d.readCtrlDb bank
  | .fnCtrlEvtDb => d.readCtrlEvtDb bank
  | .fnStatus => d.fnStatus bank
  | .fnXlInvCmd => d.invStatus bank
  | .fnCapCi => if d.fld rTnSesCtl 1 5 i = bank then pack [(24, (d.ses i).cons.index), (1, bit (d.ses i).cons.lap)]
      else 0x1000000
  | .fnWnCmd => d.flushStatus bank
  | _ => d.stored r i bank

/-- A read of a register of the control space (R4 to R6, R10). -/
def Dev.ctlRead (d : Dev) (n : NvUnit) (r : Reg) (i bank : Nat) : Nat :=
  match r.name with
  | .stStatus => d.stStatus
  | .stTimeNow => d.st.ns % 2 ^ 64
  | .stTickNow => d.st.tick
  | .stOffset => unsigned d.st.offset 32
  | .stSkewEst => d.stSkewEst
  | .hqStatus => d.hqStatus
  | .hqFnState => d.fnState i
  | .hqMqStatus => d.mqStatus
  | .hqEpState => d.epState (d.fld rHqEpSel 0 16)
  | .xlStatus => d.xlStatus
  | .xlInvCmd => d.invStatus 32
  | .tpStatus => d.tpStatus
  | .tpStageStatus => d.stageStatus
  | .tpMsgIdNext => d.tp.nextId
  | .tpWinState => d.winState (d.fld rTpWinSel 0 18)
  | .mxStatus => d.mxStatus
  | .mxEpState => d.mxEpState (d.fld rMxEpSel 0 16)
  | .mxUbufState => d.ubufState (d.fld rMxEpSel 0 16)
  | .rlStatus => d.rlStatus
  | .rlGrpState => d.rlGrpState (d.fld rRlGrpSel 0 12)
  | .rtEpochNext => d.rt.armed.getD 0
  | .rtEpochStatus => d.epochStatus
  | .rtTblData => d.tblData
  | .rtShadowCmd => 4 * bit d.rt.cmd.isSome
  | .rtScoreRx => d.scoreRx (d.fld rRtScoreSel 0 8)
  | .rtScoreTx => d.scoreTx
  | .rtScoreNode => d.scoreNode (d.fld rRtScoreSel 0 8)
  | .tnStatus => d.tnStatus
  | .tnAcct => d.tnAcct (d.fld rTnAcctSel 0 9) (d.fld rTnAcctSel 16 3)
  | .tnQueue => d.tnQueue (d.fld rTnQueueSel 0 9) (d.fld rTnQueueSel 16 4)
  | .tnSesProd => d.sesProd i
  | .lkStatus => d.lkStatus
  | .lkPortState => d.lkPortState (d.fld rLkPortSel 0 8)
  | .lkChanState => d.lkChanState (d.fld rLkPortSel 0 8) (d.fld rLkPortSel 8 5)
  | .lnStatus => d.lnStatus
  | .lnLaneState => d.laneState bank
  | .lnPrbsCtl => setField (d.stored r i bank) 4 1 (bit (d.lane i).prbsLock)
  | .scStatus => d.scStatus
  | .scGateSwitch => d.gateSwitchReg (d.fld rScPortSel 0 9)
  | .scGateStatus => d.gateStatus (d.fld rScPortSel 0 9)
  | .scFlowState => d.flowState (d.fld rScFlowSel 0 14)
  | .cxStatus => d.cxStatus
  | .cxMhStatus => d.cxMhStatus
  | .cxPortState => d.cxPortState (d.fld rCxPortSel 0 6)
  | .cxVppbState => d.vppbState (d.fld rCxVcsSel 0 5) (d.fld rCxVcsSel 8 7)
  | .cxLdState => d.ldState (d.fld rCxLdSel 0 6) (d.fld rCxLdSel 8 4)
  | .wnStatus => d.wnStatus
  | .wnWinState => d.winStatus (d.fld rWnWinSel 0 8)
  | .spStatus => d.spStatus
  | .spSlotState => d.slotState i
  | .spFgState => d.fgState i
  | .twStatus => d.twStatus
  | .twLease => d.twLease
  | .twMirror => d.twMirror
  | .lsStatus => d.lsStatus
  | .lsLockState => d.lockState (d.fld rLsLockSel 0 12)
  | .feStatus => d.feStatus
  | .feErr => d.feErr
  | .feFence => d.feFence i
  | .feHistPop => (match d.fe.hist with
      | e :: _ => if flag (d.rd rFeCtl) 7 then e.word else 0
      | [] => 0)
  | .feHistStatus => d.feHistStatus
  | .pcSampProd => d.sampleProdReg
  | .pcSampStatus => d.sampleStatus
  | .pdStatus => d.pdStatus
  | .pdDomState => d.domState (d.fld rPdDomSel 0 4)
  | .seStatus => d.seStatus n
  | .seAlarm => d.seAlarm
  | .seSvn => seSvn n
  | .seCounts => d.seCounts n
  | .seIdPub => field d.se.idPub (64 * i) 64
  | .seSerial => field n.serial (64 * i) 64
  | .btStatus => d.btStatus n
  | .btSetStatus => d.setStatus n
  | .idPart => 0xB05120
  | .idPid => d.pid n
  | .idSerial0 => field n.serial 0 64
  | .idSerial1 => field n.serial 64 64
  | .mgStatus => d.mgStatus
  | _ => d.stored r i bank

/-- What a read of a register clears or moves on (R6, R224, R248, R285, R407, R416, R428). -/
def Dev.afterRead (d : Dev) (r : Reg) (i bank : Nat) : Dev :=
  match r.name with
  | .rtTblData => d.tblChecked.tblNext
  | .tnPeak => d.wr rTnPeak 0
  | .tnSesLost => d.wr rTnSesLost 0 i
  | .lnFecSym | .lnFecCw | .lnFecUncorr | .lnPrbsErr => d.wr r 0 i bank
  | .feErr => { d with fe := { d.fe with pulses := 0 } }
  | .feHistPop => if flag (d.rd rFeCtl) 7 then { d with fe := { d.fe with hist := d.fe.hist.drop 1 } } else d
  | .pcSampStatus => { d with pc := { d.pc with lost := 0, skipped := 0 } }
  | _ => d

end Sys2Proof.Machine
end

