-- ==== Sys2Proof/Machine/Secure.lean ====
section
/-! DEFINITION. Security: signature checks, fuses, violations and the alarm, sparge, authorised statements, the nonce, and the
attestation report (R440 to R455). -/

namespace Sys2Proof.Machine

/-! ### Keys and signatures (R440 to R443) -/

/-- The digest of a 32-byte key (R441). -/
def keyDigest (key : Nat) : Nat := Config.sha512 (toBytes 32 key)

/-- The order L of the Ed25519 group (RFC 8032). -/
def groupOrder : Nat := 2 ^ 252 + 27742317777372353535851937790883648493

/-- A signature of a key over a message verifies (R440). -/
def verifies (key : Nat) (msg : List Byte) (sig : Nat) : Bool :=
  let r := sig % 2 ^ 256
  let s := sig / 2 ^ 256
  decide (s < groupOrder) && Config.edCanonical key && Config.edCanonical r && !(Config.edSmallOrder key)
    && Config.edEquation key msg r s

/-- The signers that R445 and R446 name. -/
inductive Signer where
  | root | owner | nobody
  deriving DecidableEq, Repr

/-- Fuse digests a signer's key may have: unrevoked ROOT entries, or the active OWNER entry (R441). -/
def Fuses.trusted (f : Fuses) (s : Signer) : List Nat :=
  match s with
  | .root => (f.root.filter (fun (p : Nat × Nat) => decide (p.1 < 4) && !(flag f.rootRevoked p.1))).map (fun p => p.2)
  | .owner => (match f.activeOwner with
      | some k => (Tbl.get none f.owner k).toList
      | none => [])
  | .nobody => []

/-- R441 accepts a public key for a signer. -/
def Fuses.keyOk (f : Fuses) (s : Signer) (key : Nat) : Bool := (f.trusted s).any (fun g => g == keyDigest key)

/-- A statement's signature verifies with the key of a signer (R440, R441, R449). -/
def Fuses.signed (f : Fuses) (s : Signer) (msg : List Byte) (sig : Nat) : Bool :=
  decide (s = .nobody) || (f.trusted s).any (fun g =>
    keyDigest (Config.keyOf g) == g && verifies (Config.keyOf g) msg sig)

/-- The identity seed: the first 32 bytes of SHA-512 over SECRET and "WVK-ID01" (R443). -/
def idSeed (secret : Nat) : Nat :=
  Config.sha512 (toBytes 32 secret ++ [0x57, 0x56, 0x4B, 0x2D, 0x49, 0x44, 0x30, 0x31]) % 2 ^ 256

/-- The identity key is derived into slot 0 (R443). -/
def Dev.deriveId (d : Dev) (secret : Nat) : Dev :=
  let seed := idSeed secret
  { d with se := { d.se with
    keys := Tbl.put 0 0 seed d.se.keys, idReady := true, idPub := Config.edPublic seed } }

/-! ### Lifecycle fuses (R444, R448) -/

/-- Burnt bits of a lifecycle word. -/
def burntBits (w : Nat) : Nat := countWhere (upFrom 0 16) (fun k => flag w k)

/-- The state that LC reads: the latest word that counts as burnt, or BLANK (R444). -/
def Fuses.state (f : Fuses) : Nat :=
  (firstThat [4, 3, 2, 1] (fun s => decide (9 ≤ burntBits (Tbl.get 0 f.lc s)))).getD 0

/-- A word is partly burnt (R444). -/
def Fuses.torn (f : Fuses) (s : Nat) : Bool :=
  decide (0 < burntBits (Tbl.get 0 f.lc s)) && decide (burntBits (Tbl.get 0 f.lc s) < 16)

/-- Burn the whole word of a state. -/
def Fuses.burnLc (f : Fuses) (s : Nat) : Fuses := { f with lc := Tbl.put 0 s 0xFFFF f.lc }

/-- Every partly burnt word is completed (R444). -/
def Fuses.repair (f : Fuses) : Fuses := forEach [1, 2, 3, 4] (fun s (f : Fuses) => if f.torn s then f.burnLc s else f) f

/-- The state contradicts the other fuses (R451). -/
def Fuses.contradicts (f : Fuses) : Bool :=
  (f.state == 1 || f.state == 2) && (upFrom 0 4).all (fun k => (Tbl.get none f.owner k).isNone)

/-- Burn an OWNER slot with a digest. -/
def Fuses.burnOwner (f : Fuses) (slot digest : Nat) : Fuses :=
  match Tbl.get none f.owner slot with
  | some _ => f
  | none => { f with owner := Tbl.put none slot (some digest) f.owner }

/-- The next free OWNER slot (R448). -/
def Fuses.freeOwner (f : Fuses) : Option Nat := firstThat [0, 1, 2, 3] (fun k => (Tbl.get none f.owner k).isNone)

/-- SVN fuses are burnt up to a value, at most 64 (R445). -/
def burnSvn (old new : Nat) : Nat := max old (min 64 new)

/-! ### Violations, the alarm and sparge (R451 to R453) -/

/-- The device at work on its NVM and fuses. -/
def Chip.map (c : Chip) (f : Dev → Dev) : Chip := { c with dev := f c.dev }

/-- Latch a security error (R455). -/
def Dev.latchSe (d : Dev) (reason : Nat) : Dev := d.latch rSeErrLatch (pack [(4, reason), (3, d.se.life)])

/-- Key slots are sparged (R452). -/
def Dev.spargeKeys (d : Dev) : Dev := { d with se := { d.se with keys := [], idReady := false } }

/-- A sparge of the Kiln begins, unless one runs (R452, R453). -/
def Dev.startSparge (d : Dev) (why : SpargeFor) : Dev :=
  if d.se.sparge.isSome then d else { d with se := { d.se with sparge := some why } }

/-- CAUSE takes a cause: during a sparge only one of a higher class than the recorded one (R452). -/
def Dev.recordCause (d : Dev) (classA : Bool) (cause : Nat) : Dev :=
  let higher := if classA then !d.se.alarmA else !d.se.alarm
  if d.se.sparge.isNone || higher then { d with se := { d.se with cause := cause } } else d

/-- A violation, by its class (R452). -/
def Chip.violation (c : Chip) (classA : Bool) (cause : Nat) : Chip :=
  let d := (c.dev.latchSe cause).recordCause classA cause
  let nv := { c.nv with alarms := satInc (2 ^ 32 - 1) c.nv.alarms }
  if classA then
    let d := { d with se := { d.se with
      alarm := true, shown := true, alarmA := true, pinLow := true, unlock := none } }
    { dev := (d.spargeKeys.startSparge .alarm).raise evSeViolationA 0, nv := nv }
  else
    let pin := d.se.pinLow || flag (d.rd rSeCtl) 0
    let d := { d with se := { d.se with alarm := true, shown := true, pinLow := pin, unlock := none } }
    { dev := d.raise evSeViolationB 0, nv := nv }

/-- A failure that is Class A in MISSION and Class B in every other state (R451). -/
def Chip.violationBy (c : Chip) (cause : Nat) : Chip := c.violation (decide (c.dev.se.life = 2)) cause

/-- ALARM_CLEAR: a write of SE_ALARM.CLEAR releases a Class B alarm; refused while a Class A alarm stands (R452). -/
def Dev.alarmClear (d : Dev) : Dev :=
  if d.se.alarmA then d.refuse else { d with se := { d.se with shown := false, pinLow := false } }

/-- A Kiln access is refused (R451). -/
def Chip.kilnAccess (c : Chip) : Chip := (c.violation false 6).map (fun d => d.raise evSeKilnAccess 0)

/-- A key slot fails its check and is sparged (R442). -/
def Dev.keyParity (d : Dev) (slot : Nat) : Dev :=
  let d := { d with se := { d.se with
    keys := Tbl.put 0 slot 0 d.se.keys, idReady := d.se.idReady && slot != 0 } }
  (d.latchSe 8).raise evSeKeyParity 0

/-- The retained digests are cleared (R447, R469). -/
def Dev.dropRetained (d : Dev) : Dev := { d with bt := { d.bt with fw := none, cfg := none, copy := [] } }

/-- The fuses of an accepted transition are burnt; a warm start follows (R447). -/
def Chip.burnTransition (c : Chip) (state : Nat) (owner : Option Nat) : Chip :=
  let f := match owner with
    | some digest => c.nv.fuses.burnOwner 0 digest
    | none => c.nv.fuses
  { dev := c.dev.dropRetained.raise evSeLcChange 0, nv := { c.nv with fuses := f.burnLc state } }

/-! ### Statements (R446 to R450) -/

/-- A statement and its signature (R449). -/
def stCmd (w : Nat) : Nat := field w 0 8
def stScope (w : Nat) : Nat := field w 8 8
def stDuration (w : Nat) : Nat := field w 16 16
def stSerial (w : Nat) : Nat := field w 64 128
def stNonce (w : Nat) : Nat := field w 192 256
def stArg (w : Nat) : Nat := field w 448 256

/-- Every reserved byte of a statement is zero, and its fields are in range (R449). -/
def stFormOk (w : Nat) : Bool :=
  field w 32 32 == 0 && field w 704 64 == 0 && decide (1 ≤ stCmd w) && decide (stCmd w ≤ 5)
    && (if stCmd w = 5 then
          decide (stScope w < 8) && decide (1 ≤ stDuration w) && decide (stDuration w ≤ 1024)
        else stScope w == 0 && stDuration w == 0)
    && (stCmd w == 4 || stArg w == 0)

/-- NONCE_LIFE in ticks (R450). -/
def Dev.nonceLife (d : Dev) : Nat := 1024 * orOne (d.fld rSeCtl 16 16)

/-- A nonce is the one that stands (R450). -/
def Dev.nonceOk (d : Dev) (v : Nat) : Bool :=
  match d.se.nonce with
  | some (n, t) => n == v && decide (d.since t < d.nonceLife)
  | none => false

/-- Who signs a transition, none where R446 does not allow it. -/
def lcSigner (life cmd : Nat) : Option Signer :=
  match cmd, life with
  | 1, 1 => some .owner
  | 2, 1 => some .owner
  | 2, 2 => some .owner
  | 3, 0 => some .nobody
  | 3, 1 => some .owner
  | 3, 2 => some .owner
  | 3, 3 => some .root
  | _, _ => none

/-- Who signs a debug unlock (R445). -/
def debugSigner (life : Nat) : Option Signer :=
  match life with
  | 0 => some .nobody
  | 1 => some .owner
  | 2 => some .owner
  | 3 => some .root
  | _ => none

/-- The status with which a statement is refused before its signature is checked (R450). -/
def Chip.statementStatus (c : Chip) (w : Nat) : Nat :=
  if !(c.dev.nonceOk (stNonce w)) then ebNonce
  else if stSerial w ≠ c.nv.serial then ebSerial
  else if !(stFormOk w) then ebForm
  else if c.dev.se.sparge.isSome then ebBusy
  else ebOk

/-- OWNER_ROTATE (R448): the next free slot is burnt, then the previous one is revoked. -/
def Chip.rotate (c : Chip) (key : Nat) : Nat × Chip :=
  match c.nv.fuses.freeOwner with
  | none => (ebExhausted, c)
  | some slot =>
    let old := c.nv.fuses.activeOwner
    let f := c.nv.fuses.burnOwner slot (keyDigest key)
    let f := match old with
      | some k => { f with ownerRevoked := f.ownerRevoked ||| 2 ^ k }
      | none => f
    (ebOk, { dev := c.dev.raise evSeOwnerRotate 0, nv := { c.nv with fuses := f } })

/-- A debug unlock is granted (R450). -/
def Dev.unlock (d : Dev) (scope ticks : Nat) : Dev :=
  ({ d with se := { d.se with unlock := some ⟨scope, d.now, ticks⟩ } }).raise evSeDebugUnlock 0

/-- A transition that R446 does not allow (R446, R451). -/
def Chip.badTransition (c : Chip) : Nat × Chip :=
  (ebRefused, (c.violationBy 5).map (fun d => d.raise evSeLcRefused 0))

/-- A statement whose form is accepted: its signature, then its command (R446 to R451). -/
def Chip.statementDo (c : Chip) (w sig : Nat) : Nat × Chip :=
  let msg := toBytes 96 w
  let c := c.map (fun d => { d with se := { d.se with nonce := none } })
  let life := c.dev.se.life
  if stCmd w = 5 then
    match debugSigner life with
    | none => (ebRefused, c.map (fun d => d.raise evSeLcRefused 0))
    | some s =>
      if c.nv.fuses.signed s msg sig then (ebOk, c.map (fun d => d.unlock (stScope w) (1024 * stDuration w)))
      else (ebRefused, (c.violationBy 4).map (fun d => d.raise evSeDebugDenied 0))
  else if stCmd w = 4 then
    if c.nv.fuses.signed .owner msg sig then c.rotate (stArg w) else c.badTransition
  else
    match lcSigner life (stCmd w) with
    | none => c.badTransition
    | some s =>
      if c.nv.fuses.signed s msg sig then (ebOk, c.map (fun d => d.startSparge (.transition (stCmd w + 1) none)))
      else c.badTransition

/-- LC_COMMAND: a statement and its signature (R449, R450). -/
def Chip.statement (c : Chip) (w sig : Nat) : Nat × Chip :=
  let status := c.statementStatus w
  if status = ebOk then c.statementDo w sig else (status, c.map (fun d => d.raise evSeLcRefused 0))

/-- LC_ENROLL: the owner key is burnt and the device moves to PROVISIONED (R446, R447). -/
def Chip.enroll (c : Chip) (key : Nat) : Nat × Chip :=
  if c.dev.se.sparge.isSome then (ebBusy, c.map (fun d => d.raise evSeLcRefused 0))
  else if c.dev.se.life = 0 then (ebOk, c.map (fun d => d.startSparge (.transition 1 (some (keyDigest key)))))
  else c.badTransition

/-- SE_CHALLENGE: a fresh nonce replaces the old one (R450). -/
def Dev.challenge (d : Dev) : Nat × Dev :=
  let (k, d) := d.fresh
  let v := Config.nonce k % 2 ^ 256
  (v, { d with se := { d.se with nonce := some (v, d.now) } })

/-- NONCE_EXPIRY (R450). -/
def Dev.nonceExpiry (d : Dev) : Dev :=
  match d.se.nonce with
  | some (_, t) => if d.nonceLife ≤ d.since t then { d with se := { d.se with nonce := none } } else d
  | none => d

/-- DEBUG_UNLOCK_END (R450). -/
def Dev.unlockEnd (d : Dev) : Dev :=
  match d.se.unlock with
  | some u => if u.ticks ≤ d.since u.since then { d with se := { d.se with unlock := none } } else d
  | none => d

/-- A debug command is open: within a standing unlock's SCOPE; in BLANK no token is needed (R445, R450, R486). -/
def Dev.debugOpen (d : Dev) (bit_ : Nat) : Bool :=
  d.se.life == 0 || (match d.se.unlock with | some u => flag u.scope bit_ | none => false)

/-! ### Attestation (R454) -/

/-- FW_SVN or CFG_SVN of a running image. -/
def svnOf (r : Option Retained) : Nat := match r with | some x => x.svn | none => 0

/-- The report but for its signature. -/
def Chip.reportBody (c : Chip) (nonce : Nat) : List Byte :=
  let d := c.dev
  let flags := pack [(1, bit d.se.unlock.isSome), (1, bit (d.bt.phase == 9 && d.bt.part == 2)),
    (1, bit (d.bt.phase == 10)), (1, bit d.se.alarm), (1, d.fld rFeCtl 7 1)]
  toBytes 4 (pack [(8, 1), (8, d.se.life), (8, flags), (8, 4)]) ++ toBytes 4 (svnOf d.bt.runFw)
    ++ toBytes 4 (svnOf d.bt.runCfg) ++ toBytes 4 c.nv.alarms ++ toBytes 16 c.nv.serial ++ toBytes 8 d.now
    ++ toBytes 8 0 ++ toBytes 32 nonce ++ toBytes 64 d.se.m0 ++ toBytes 64 d.se.m1 ++ toBytes 64 d.se.m2
    ++ toBytes 64 d.se.m3 ++ toBytes 32 d.se.idPub

/-- The 432 bytes of a report. -/
def Chip.report (c : Chip) (nonce : Nat) : List Byte :=
  c.reportBody nonce ++ toBytes 64 (Config.edSign (Tbl.get 0 c.dev.se.keys 0) (c.reportBody nonce))

end Sys2Proof.Machine
end

