-- ==== Sys2Proof/Machine/RegWrite.lean ====
section
/-! DEFINITION. Register writes: the judgement of R8, the fields that take their values, and what the registers that are
commands do. -/

namespace Sys2Proof.Machine

/-- The event that a refusal of a write raises beside APPLY_REFUSED, with its instance (R248, R293, R396, R439). -/
def refusalEvent (r : Reg) (bank : Nat) : Option (Nat × Nat) :=
  match r.name with
  | .tnSesCtl | .tnSesBase => some (evTnConfigRefused, 0)
  | .scGateBank => some (evScConfigRefused, bank)
  | .scGateEntry => some (evScConfigRefused, bank)
  | .lsGrpAcl | .lsGrpNodes => some (evLsConfigRefused, 0)
  | .pdCtl | .pdVote | .pdDomSel | .pdDomCfg => some (evPdConfigRefused, 0)
  | _ => none

/-- A write is refused: nothing changes but for the refusal's event, and its path learns APPLY_REFUSED (R8). -/
def Dev.refuseWrite (d : Dev) (r : Reg) (bank : Nat) : Dev :=
  match refusalEvent r bank with
  | some (src, inst) => (d.raise src inst).refuse
  | none => d.refuse

/-- Writes of LK_PORT_CTL: RETRAIN, then ENABLE and HOLD as written (R263 to R265). -/
def Dev.lkCtlWrite (d : Dev) (p value : Nat) : Dev :=
  let d := if flag value 1 then d.portRetrain p else d
  let d := d.wrFld rLkPortCtl 2 1 (field value 2 1) p
  d.portCtl p 0 (flag value 0)

/-- Writes of CX_PORT_CTL: CONTAIN_CLEAR, then ENABLE and HOLD as written (R322, R327). -/
def Dev.cxCtlWrite (d : Dev) (k value : Nat) : Dev :=
  let d := d.wr rCxPortCtl (pack [(1, field value 0 1), (1, 0), (1, field value 2 1)]) k
  (if flag value 1 then d.containClear k else d).cxPortCtl k

/-- A write of RL_GRP_CMD acts on the selected group (R170). -/
def Dev.rlCmdWrite (d : Dev) (value : Nat) : Dev :=
  let g := d.fld rRlGrpSel 0 12
  match field value 0 2 with
  | 1 => d.rlEnable g
  | 2 => d.rlDisable g
  | 3 => d.rlAbortCmd g
  | _ => d

/-- A write of WN_WIN_CMD acts on the selected window (R340). -/
def Dev.wnCmdWrite (d : Dev) (value : Nat) : Dev :=
  let w := d.fld rWnWinSel 0 8
  match field value 0 2 with
  | 1 => d.winEnable w
  | 2 => d.winDisable w
  | 3 => d.winFlush w
  | _ => d

/-- A write of LS_LOCK_CMD: FORCE_RELEASE of the selected lock, refused while the lock is FREE (R392, R395). -/
def Dev.lockCmdWrite (d : Dev) (value : Nat) : Dev :=
  let k := d.fld rLsLockSel 0 12
  if flag value 0 then
    (if (d.lock k).use = .free then (d.raise evLsConfigRefused 0).refuse else d.forceFree k)
  else d

/-- A write of RT_SHADOW_CMD (R219). -/
def Dev.shadowWrite (d : Dev) (value : Nat) : Dev :=
  match field value 0 2 with
  | 1 => d.shadowCmd 1
  | 2 => d.shadowCmd 2
  | _ => d

/-- A write of RT_EPOCH_NEXT (R220). -/
def Dev.epochNextWrite (d : Dev) (value : Nat) : Dev := d.epochWrite (field value 0 48) (flag value 63) (flag value 62)

/-- A write of SC_GATE_SWITCH for the selected output (R293). -/
def Dev.gateWrite (d : Dev) (value : Nat) : Dev :=
  if flag value 63 then d.gateArm (d.fld rScPortSel 0 9) (field value 0 48) else d

/-- A write of FE_ERR: HOLD, and ASSERT (R412, R413). -/
def Dev.feErrWrite (d : Dev) (value : Nat) : Dev :=
  if flag value 1 then d.errAssert (flag value 0) else d.errHold (flag value 0)

/-- A write of HQ_FN_RESET (R81). -/
def Dev.fnResetWrite (d : Dev) (value : Nat) : Dev :=
  let d := d.wrFld rHqFnReset 0 5 (field value 0 5)
  if flag value 31 then d.resetFn (field value 0 5) else d

/-- A write of SP_SLOT_CTL: OFF_NOW, or CMD_EN alone (R352, R353). -/
def Dev.slotCtlWrite (d : Dev) (s value : Nat) : Dev :=
  if flag value 1 then d.slotOffNow s (flag value 0) else d.slotCmd s (flag value 0)

/-- A write of TN_SES_CTL; EN 0 ends the session (R243, R248). -/
def Dev.sesCtlWrite (d : Dev) (s value : Nat) : Dev :=
  let was := d.sesEn s
  let d := d.take rTnSesCtl s 0 false value
  if was && !(flag value 0) then d.sesStop s else d

/-- A write that R8 accepts: fields take their values, and commands act. -/
def Dev.writeDo (d : Dev) (r : Reg) (i bank value : Nat) : Dev :=
  match r.name with
  | .stRootSeconds => d.armSeconds value
  | .hqFnReset => d.fnResetWrite value
  | .xlInvCmd => d.invalidate 32 value
  | .rlGrpCmd => d.rlCmdWrite value
  | .rtEpochNext => d.epochNextWrite value
  | .rtTblData => d.tableWrite value
  | .rtShadowCmd => d.shadowWrite value
  | .tnSesCtl => d.sesCtlWrite i value
  | .lkPortCtl => d.lkCtlWrite i value
  | .lnPrbsCtl => (d.take r i bank false value).prbsApply i
  | .scGateSwitch => d.gateWrite value
  | .cxPortCtl => d.cxCtlWrite i value
  | .wnWinCmd => d.wnCmdWrite value
  | .spSlotCtl => d.slotCtlWrite i value
  | .spFgCtl => if flag value 0 then d.groupClear i else d
  | .spSlotLim | .spSlotCfg | .spSlotEnergy | .spFgCfg =>
    (d.take r i bank false value).mirrorSp (r.base - 0xE00000 + r.stride1 * i) value
  | .twCmd => d.twCmd (field value 0 48) (flag value 62) (flag value 63)
  | .lsLockCmd => d.lockCmdWrite value
  | .feErr => d.feErrWrite value
  | .feErrLatch => if flag value 63 then d.feErrClear else d
  | .feFenceCmd => if flag value 31 then d.fenceRelease (field value 0 6) else d
  | .feLatch => if flag value 63 then d.latchClear i else d
  | .feSrcCfg => d.srcCfgWrite i value
  | .pcSampCons => d.sampleConsWrite value
  | .pdVote => d.voteWrite value
  | .seAlarm => if flag value 0 then d.alarmClear else d
  | _ => d.take r i bank false value

/-- A write of a register at its full width, judged as a whole (R8). BT_CMD acts on the NVM and has its own operation. -/
def Dev.regWrite (d : Dev) (r : Reg) (i value : Nat) : Dev :=
  let bank := d.bankOf r
  if d.heldField r i bank value || !(d.valueOk r i value) then d.refuseWrite r bank
  else d.writeDo r i bank value

/-- An access that R4 or R15 rejects, on a path: 0 Eboury, 1 a management core (R491). -/
def Dev.unmapped (d : Dev) (path addr : Nat) : Dev := (d.latchMg 1 path (addr % 2 ^ 32)).raise evMgUnmappedAccess 0

/-- A read of the control space: its value, and what it clears (R4, R6). -/
def Dev.ctlReadAt (d : Dev) (n : NvUnit) (path addr bytes : Nat) : Nat × Bool × Dev :=
  match ctlReg addr bytes with
  | some (r, i) =>
    let bank := d.bankOf r
    (d.ctlRead n r i bank, true, d.afterRead r i bank)
  | none => (0, false, d.unmapped path addr)

/-! ### Doorbell and control pages (R57, R77, R513) -/

/-- A Q write of a control page: refused, without a report, unless the control ring is idle (R8, R77). -/
def Dev.ctrlQ (d : Dev) (h : Nat) (same : Bool) (f : FnCtx → FnCtx) : Dev :=
  if same then d else if d.ctrlIdle h then d.setFn h (f (d.fn h)) else d

/-- ENABLE 0: entries whose reads are issued are discarded with their reservations, as those of an endpoint's ring are, so IDLE
rises and ENABLE 1 reads them anew (R77, R515). -/
def FnCtx.quiet (f : FnCtx) : FnCtx :=
  { f with
    evt := { f.evt with rsv := f.evt.rsv - f.cmd.issued },
    cmd := { f.cmd with issued := 0, waitRaised := false, retries := 0, stale := false } }

/-- A write of FN_CTRL_CFG, judged as a whole; a ring whose size changes restarts (R77, R513; log entry 178). -/
def Dev.ctrlCfgWrite (d : Dev) (h value : Nat) : Dev :=
  let f := d.fn h
  let cmd := field value 0 5
  let evt := field value 8 5
  let change := decide (cmd ≠ f.cmd.log2) || decide (evt ≠ f.evt.log2)
  if badLog2 cmd || badLog2 evt || (change && !(d.ctrlIdle h)) then d
  else
    let f1 : FnCtx := { f with
      cmd := if cmd = f.cmd.log2 then f.cmd else { base := f.cmd.base, log2 := cmd },
      evt := if evt = f.evt.log2 then f.evt
        else { base := f.evt.base, log2 := evt, waiting := f.evt.waiting, armed := f.evt.armed },
      enable := flag value 16, msix := field value 18 11 }
    (d.setFn h (if flag value 16 then f1 else f1.quiet)).issueCtrl h

/-- FN_CTRL_BASE and FN_CTRL_EVT_BASE: a ring whose base changes restarts (R513). -/
def FnCtx.withBase (f : FnCtx) (base : Nat) : FnCtx := { f with cmd := { base := base, log2 := f.cmd.log2 } }
def FnCtx.withEvtBase (f : FnCtx) (base : Nat) : FnCtx :=
  { f with evt := { base := base, log2 := f.evt.log2, waiting := f.evt.waiting, armed := f.evt.armed } }
def FnCtx.withCask (f : FnCtx) (base : Nat) : FnCtx := { f with cask := base }

/-- A host's write of a register of its control page (R77, R114, R244, R338). -/
def Dev.fnPageWrite (d : Dev) (h : Nat) (r : Reg) (i value : Nat) : Dev :=
  match r.name with
  | .fnCtrlBase => d.ctrlQ h (decide (value = (d.fn h).cmd.base)) (fun f => f.withBase value)
  | .fnCtrlEvtBase => d.ctrlQ h (decide (value = (d.fn h).evt.base)) (fun f => f.withEvtBase value)
  | .fnCaskBase => d.ctrlQ h (decide (value = (d.fn h).cask)) (fun f => f.withCask value)
  | .fnCtrlCfg => d.ctrlCfgWrite h value
  | .fnCtrlDb => d.ctrlDoor h value
  | .fnCtrlEvtDb => d.ctrlEvtDoor h value
  | .fnReset => if flag value 0 then d.resetFn h else d
  | .fnXlInvCmd => d.invalidate h value
  | .fnCapCi => d.captureConsumer h i value
  | .fnWnCmd => d.wnCommand h value
  | .fnXlTagBase => if d.heldField r i h value then d else d.take r i h false value
  | _ => d.take r i h false value

/-- A host's write of EP_CTL: ENABLE, then RESUME (R76, R82). -/
def Dev.epCtlWrite (d : Dev) (ep value : Nat) : Dev :=
  let d := match d.ep ep with
    | some c => if c.enable = flag value 0 then d else if flag value 0 then d.enableEp ep else d.disableEp ep
    | none => d
  if flag value 1 then d.resumeRing ep else d

/-- A host's write of a register of a doorbell page in the window of function `h` (R57, R58, R76, R82, R111). -/
def Dev.epPageWrite (d : Dev) (h ep : Nat) (r : Reg) (value : Nat) : Dev :=
  match r.name with
  | .epCmdDb => d.doorbell h ep 0 value
  | .epEvtDb => d.doorbell h ep 1 value
  | .epCtl => d.epCtlWrite ep value
  | .epPageDb => d.pageDoor ep value
  | _ => d

/-- The endpoint of a doorbell page exists in the window of a function (R57). -/
def Dev.pageExists (d : Dev) (h ep : Nat) : Bool :=
  d.inRange h ep && (match d.ep ep with | some c => c.fn == h | none => false)

/-- The register of a page at an offset, accessed at its full width and aligned. -/
def pageReg (sp : Space) (off bytes : Nat) : Option (Reg × Nat) :=
  match regAt sp off allRegs with
  | some (r, i) => if r.width = 8 * bytes ∧ off % bytes = 0 then some (r, i) else none
  | none => none

/-- A host's write of `bytes` bytes at an offset of its doorbell page (R57). -/
def Dev.doorPage (d : Dev) (h ep off bytes value : Nat) : Dev :=
  match pageReg .ep off bytes with
  | some (r, _) => if d.pageExists h ep then d.epPageWrite h ep r value else d.raise evHqDbIgnored h
  | none => d.raise evHqDbIgnored h

/-- A host's read of its window is ignored: the register is absent, the access not aligned or not of its width, or the endpoint
does not exist (R57, R77). -/
def Dev.hostReads (d : Dev) (path : RegPath) (bytes : Nat) : Dev :=
  match path with
  | .door h ep off => d.raiseIf ((pageReg .ep off bytes).isNone || !(d.pageExists h ep)) evHqDbIgnored h
  | .control h off => d.raiseIf (pageReg .fn off bytes).isNone evHqDbIgnored h
  | .core _ => d

/-- A host's write of `bytes` bytes at an offset of its control page (R57, R77). -/
def Dev.ctrlPage (d : Dev) (h off bytes value : Nat) : Dev :=
  match pageReg .fn off bytes with
  | some (r, i) => d.fnPageWrite h r i value
  | none => d.raise evHqDbIgnored h

end Sys2Proof.Machine
end

