-- ==== Sys2Proof/Machine/Image.lean ====
section
/-! DEFINITION. The flash and the images in it: the Afpel format, its checks, and apply; the settings pages (R461 to R474). -/

namespace Sys2Proof.Machine

/-! ### The flash (R461) -/

/-- Bytes of the flash; an erased byte is 0xFF. -/
def NvUnit.flashByte (n : NvUnit) (addr : Nat) : Nat := Tbl.get 0xFF n.flash addr
def NvUnit.flashBytes (n : NvUnit) (addr len : Nat) : List Byte :=
  (upFrom addr len).map (fun a => BitVec.ofNat 8 (n.flashByte a))

/-- First address of a partition: 0 A, 1 B, 2 golden. -/
def partBase (part : Nat) : Nat := 0x100000 + 0x800000 * part

/-- First address of an image of a partition: KIND 1 firmware, 2 configuration. -/
def imageBase (part kind : Nat) : Nat := partBase part + (if kind = 1 then 0 else 0x600000)

/-- The largest TOTAL_LEN of a KIND (R461, R464). -/
def imageMax (kind : Nat) : Nat := if kind = 1 then 0x600000 else 0x100000

/-! ### The Afpel format (R464 to R466) -/

/-- The number in `len` bytes at `off`. -/
def leAt (b : List Byte) (off len : Nat) : Nat := ofBytes ((b.drop off).take len)

/-- Every byte of a run is zero. -/
def zeroAt (b : List Byte) (off len : Nat) : Bool := ((b.drop off).take len).all (fun x => x == 0)

/-- Header fields (R464). -/
def hdrSections (h : List Byte) : Nat := leAt h 6 2
def hdrTotal (h : List Byte) : Nat := leAt h 8 4
def hdrSvn (h : List Byte) : Nat := leAt h 12 4
def hdrBound (h : List Byte) : Bool := flag (leAt h 25 1) 0
def hdrNoSettings (h : List Byte) : Bool := flag (leAt h 25 1) 1
def hdrDigest (h : List Byte) : Nat := leAt h 64 64

/-- HEADER, code 3 of R467: the header, at least one section header, and the signature block fit in TOTAL_LEN. -/
def headerOk (kind : Nat) (h : List Byte) : Bool :=
  leAt h 0 4 == 0x4C504641 && leAt h 4 1 == 1 && leAt h 5 1 == kind && decide (1 ≤ hdrSections h)
    && decide (hdrSections h ≤ 64) && decide (240 ≤ hdrTotal h) && decide (hdrTotal h ≤ imageMax kind)
    && zeroAt h 26 6 && zeroAt h 52 12

/-- DEVICE, code 4 of R467: "SX5120", stepping B0, and the serial where it is bound. -/
def deviceOk (serial : Nat) (h : List Byte) : Bool :=
  leAt h 16 8 == 0x303231355853 && leAt h 24 1 == 0xB0 && (!(hdrBound h) || leAt h 32 16 == serial)

/-- A section: its TYPE and payload. -/
structure Section where
  type : Nat
  payload : List Byte
  deriving DecidableEq, Repr

/-- A section's bytes are as R465 requires for its TYPE and KIND. -/
def Section.ok (s : Section) (kind : Nat) : Bool :=
  let n := s.payload.length
  if s.type = 0x100 then kind == 1
  else if kind ≠ 2 then false
  else if 1 ≤ s.type ∧ s.type ≤ 0x16 then
    n % 12 == 0 && (upFrom 0 (n / 12)).all (fun k =>
      let off := leAt s.payload (12 * k) 4
      decide (off < 2 ^ 24) && (match regAt .blk (0x100000 * s.type + off) allRegs with
        | some (r, _) => r.width != 32 || zeroAt s.payload (12 * k + 8) 4
        | none => true))
  else if s.type = 0x101 then n % 16 == 0
  else if s.type = 0x102 then
    n % 40 == 0 && (upFrom 0 (n / 40)).all (fun k =>
      let t := leAt s.payload (40 * k) 1
      (decide (t ≤ 47) || t == 0xFE) && zeroAt s.payload (40 * k + 1) 7)
  else false

/-- The sections from a position of an image on, `n` of them, up to the signature block at `last`; none where they do not
fill it as R465 says. -/
def readSections (b : List Byte) (last : Nat) : Nat → Nat → Option (List Section)
  | 0, _ => none
  | n + 1, at_ =>
    let len := leAt b (at_ + 4) 4
    let stop := at_ + 16 + len
    let next := (stop + 15) / 16 * 16
    let s : Section := ⟨leAt b at_ 2, (b.drop (at_ + 16)).take len⟩
    if leAt b (at_ + 2) 1 == 1 && zeroAt b (at_ + 3) 1 && zeroAt b (at_ + 8) 8 && decide (stop ≤ last) then
      if n = 0 then (if stop = last then some [s] else none)
      else if zeroAt b stop (next - stop) && decide (next ≤ last) then
        (readSections b last n next).map (fun l => s :: l)
      else none
    else none

/-- The sections of an image. -/
def sectionsOf (b : List Byte) : Option (List Section) := readSections b (hdrTotal b - 96) (hdrSections b) 128

/-- No TYPE stands twice. -/
def distinctTypes : List Section → Bool
  | [] => true
  | s :: rest => rest.all (fun t => t.type != s.type) && distinctTypes rest

/-- SECTION, code 9 of R467. -/
def sectionsOk (kind : Nat) (b : List Byte) : Bool :=
  match sectionsOf b with
  | some l => l.all (fun s => s.ok kind) && distinctTypes l
  | none => false

/-- The key, the signature and the signed header of an image, from its header and its signature block. -/
def sigKey (sig : List Byte) : Nat := leAt sig 0 32
def sigOk (hdr sig : List Byte) : Bool := verifies (leAt sig 0 32) hdr (leAt sig 32 64)

/-- The signer that R445 demands for an image. -/
def imageSigner (life kind : Nat) : Signer :=
  if kind = 1 then .root else if life = 1 ∨ life = 2 then .owner else .root

/-- The burnt count for an image (R445). -/
def NvUnit.svnMin (n : NvUnit) (kind : Nat) : Nat := if kind = 1 then n.fuses.fwSvn else n.fuses.cfgSvn

/-- The checks 1 and 3 to 7 of R467, which need no sections: the code of the first that fails, or 0. -/
def NvUnit.headCode (n : NvUnit) (life part kind : Nat) : Nat :=
  let hdr := n.flashBytes (imageBase part kind) 128
  let sig := n.flashBytes (imageBase part kind + hdrTotal hdr - 96) 96
  if hdr.all (fun x => x == 0xFF) then 1
  else if !(headerOk kind hdr) then 3
  else if !(deviceOk n.serial hdr) then 4
  else if !(n.fuses.keyOk (imageSigner life kind) (sigKey sig)) then 5
  else if !(sigOk hdr sig) then 6
  else if hdrSvn hdr < n.svnMin kind then 7
  else 0

/-- The checks 8 and 9 of R467 of a whole image, or 0. -/
def bodyCode (kind : Nat) (b : List Byte) : Nat :=
  if Config.sha512 ((b.drop 128).take (hdrTotal b - 224)) ≠ hdrDigest b then 8
  else if !(sectionsOk kind b) then 9
  else 0

/-- The whole image, as the flash holds it. -/
def NvUnit.wholeImage (n : NvUnit) (part kind : Nat) : List Byte :=
  n.flashBytes (imageBase part kind) (hdrTotal (n.flashBytes (imageBase part kind) 128))

/-- The check of an image: its code, 0 where it is accepted (R467). A digest that matches the retained one ends the check with
the header and the signature (R469). -/
def NvUnit.imageCode (n : NvUnit) (life part kind : Nat) (retained : Option Nat) (flashFail : Bool) : Nat :=
  if flashFail then 2
  else
    let c := n.headCode life part kind
    if c ≠ 0 then c
    else if retained = some (hdrDigest (n.flashBytes (imageBase part kind) 128)) then 0
    else bodyCode kind (n.wholeImage part kind)

/-! ### Apply (R468) -/

/-- A T field of ST, which a warm start keeps (R50, R459). -/
def keptTime (r : Reg) : Bool :=
  match r.name with
  | .stConservCtl | .stHoldover | .stParentMask | .stAsym => true
  | _ => false

/-- A record or a settings record writes a register: every field takes its value at once, whatever its apply class; port and
slot controls act in RUNNING (R468). -/
def Dev.imageWriteDo (d : Dev) (r : Reg) (i bank value : Nat) : Dev :=
  match r.name with
  | .lkPortCtl | .cxPortCtl | .spSlotCtl => d.take r i bank true value
  | .btCmd => d
  | .tnSesCtl | .spSlotLim | .spSlotCfg | .spSlotEnergy | .spFgCfg => d.take r i bank true value
  | .lnPrbsCtl => (d.take r i bank true value).prbsApply i
  | .stRootSeconds | .hqFnReset | .xlInvCmd | .rlGrpCmd | .rtEpochNext | .rtTblData | .rtShadowCmd | .scGateSwitch
  | .wnWinCmd | .spFgCtl | .twCmd | .lsLockCmd | .feErr | .feErrLatch | .feFenceCmd | .feLatch | .feSrcCfg | .pcSampCons
  | .pdVote | .seAlarm => d.writeDo r i bank value
  | _ => d.take r i bank true value

/-- The write of a record; none where a field refuses it (R468). -/
def Dev.imageWrite (d : Dev) (r : Reg) (i value : Nat) : Option Dev :=
  if !(d.valueOk r i value) then none
  else
    let d' := ({ d with out := [] }).imageWriteDo r i (d.bankOf r) value
    if d'.out.any (fun o => decide (o = .applyRefused)) &&
      !(decide (r.name = .rlGrpCmd) || decide (r.name = .wnWinCmd)) then none
    else some { d' with out := d'.out ++ d.out }

/-- One register record; a warm start skips those for the T fields of ST (R459, R468). -/
def Dev.applyRecord (d : Dev) (warm : Bool) (type off value : Nat) : Option Dev :=
  match regAt .blk (0x100000 * type + off) allRegs with
  | some (r, i) => if warm && keptTime r then some d else d.imageWrite r i value
  | none => none

/-- The records of a register section, `n` of them from byte `at_` on. -/
def Dev.applyRecords (d : Dev) (warm : Bool) (s : Section) : Nat → Nat → Option Dev
  | 0, _ => some d
  | n + 1, at_ =>
    match d.applyRecord warm s.type (leAt s.payload at_ 4) (leAt s.payload (at_ + 4) 8) with
    | some d => d.applyRecords warm s n (at_ + 12)
    | none => none

/-- Register sections in TYPE order. -/
def Dev.applySections (d : Dev) (warm : Bool) (l : List Section) : Nat → Nat → Option Dev
  | 0, _ => some d
  | n + 1, type =>
    match firstThat l (fun s => s.type == type) with
    | some s =>
      (match d.applyRecords warm s (s.payload.length / 12) 0 with
       | some d => d.applySections warm l n (type + 1)
       | none => none)
    | none => d.applySections warm l n (type + 1)

/-- The node table section, into the active copy (R203, R204). -/
def Dev.applyNodes (d : Dev) (b : List Byte) : Nat → Nat → Option Dev
  | 0, _ => some d
  | n + 1, at_ =>
    let e := leAt b (at_ + 8) 6 % 2 ^ 39
    if !(d.entryOk e) then none
    else
      let nodes := (upFrom (leAt b at_ 4) (leAt b (at_ + 4) 4)).filter (fun k => decide (k < 2 ^ 18))
      ({ d with rt := { d.rt with
        active := forEach nodes (fun k t => Tbl.put 0 k (withEcc e) t) d.rt.active } }).applyNodes b n (at_ + 16)

/-- A range of endpoints or tags ends above 65,535, or overlaps another (R88, R90). -/
def rangesOk (l : List (Nat × Nat)) : Bool :=
  match l with
  | [] => true
  | (base, count) :: rest =>
    decide (base + count ≤ 65536)
      && rest.all (fun (q : Nat × Nat) => count == 0 || q.2 == 0 || decide (base + count ≤ q.1) || decide (q.1 + q.2 ≤ base))
      && rangesOk rest

/-- The lanes of a CXL port by its WIDTH code (R308). -/
def cxLanes (code : Nat) : Nat := 2 * 2 ^ code

/-- Every CXL port has its lanes on a multiple of its width, no lane serves two ports, at most 32 ports are host-facing, and no two of
those share a host number (R21, R308). -/
def Dev.cxMapOk (d : Dev) : Bool :=
  let l := ((upFrom 0 48).filter (fun k => decide (d.cxRole k ≠ 0))).map (fun k =>
    (d.fld rCxPortCfg 0 7 k, cxLanes (d.fld rCxPortCfg 8 2 k)))
  l.all (fun (p : Nat × Nat) => p.1 % p.2 == 0 && decide (p.1 + p.2 ≤ 128)) && rangesOk l
    && decide (countWhere (upFrom 0 48) (fun k => decide (d.cxRole k = 1)) ≤ 32)
    && (upFrom 0 32).all (fun h => decide (countWhere (upFrom 0 48) (fun k => decide (d.cxRole k = 1) && d.cxPortHost k == h) ≤ 1))

/-- A fabric port map keeps R20. -/
def portMapOk (l : List (Nat × Nat)) : Bool :=
  l.all (fun (p : Nat × Nat) => (p.2 == 1 || p.2 == 2 || p.2 == 4 || p.2 == 8) && p.1 % p.2 == 0 && decide (p.1 + p.2 ≤ 256))
    && rangesOk l

/-- The image-level checks: R21, R88, R90, R141 for TP_LMAX, R233 and R370 (R468). -/
def Dev.imageRules (d : Dev) : Bool :=
  d.cxMapOk && rangesOk ((upFrom 0 32).map (fun h => (d.fld rHqFnRange 0 16 h, d.fld rHqFnRange 16 17 h)))
    && rangesOk ((upFrom 0 32).map (fun h => (d.fld rXlFnTags 0 16 h, d.fld rXlFnTags 16 17 h)))
    && decide (256 ≤ d.fld rTpLmax 0 16) && decide (d.fld rTpLmax 0 16 ≤ 16384) && decide (65536 ≤ d.remainder)
    && (!(flag (d.rd rTwCfg) 8) || d.portWidth (d.fld rTwCfg 0 8) == 8)

/-- The fabric port map of an image (R20). -/
def Dev.applyMap (d : Dev) (b : List Byte) : Option Dev :=
  let m := Config.portMap b
  if portMapOk m then some { d with map := forEach m (fun (p : Nat × Nat) t => Tbl.put 0 p.1 p.2 t) [] } else none

/-- The policy records of an image, and those for the start onto queue 6 (R468). -/
def Dev.applyPolicy (d : Dev) (l : List Section) : Dev :=
  match firstThat l (fun s => s.type == 0x102) with
  | some s =>
    let d := { d with cx := { d.cx with
      policy := (upFrom 0 (s.payload.length / 40)).map (fun k => leAt s.payload (40 * k) 40) } }
    if d.mhSource 6 then d.queuePolicy 0xFE else d
  | none => d

/-! ### Settings (R471 to R474) -/

/-- The settings keep a field of a register: RW, of class T or L, outside SE, BT and MG (R471). -/
def Reg.keepsField (r : Reg) (f : FieldDesc) : Bool :=
  decide (r.space = .blk) && decide (0x100000 ≤ r.base) && decide (r.base < 0x1400000) && decide (f.acc = .rw)
    && (decide (f.cls = .t) || decide (f.cls = .l))

/-- The bits of a register that the settings keep. -/
def Reg.keptMask (r : Reg) : Nat :=
  (r.fields.filter (fun f => r.keepsField f)).foldl (fun w f => setField w f.lo f.len (2 ^ f.len - 1)) 0

/-- The bytes of a record, and of a page but for PAGE_DIGEST (R472). -/
def SetRec.bytes (s : SetRec) : List Byte :=
  toBytes 1 s.block ++ toBytes 3 0 ++ toBytes 4 s.offset ++ toBytes 8 s.value ++ toBytes 8 s.mask
def pageBytes (gen digest : Nat) (recs : List SetRec) : List Byte :=
  toBytes 4 0x54455357 ++ toBytes 4 gen ++ toBytes 4 recs.length ++ toBytes 4 0 ++ toBytes 64 digest ++ toBytes 48 0
    ++ recs.foldr (fun s l => s.bytes ++ l) []

/-- PAGE_DIGEST (R472). -/
def pageDigest (gen digest : Nat) (recs : List SetRec) : Nat := Config.sha512 (pageBytes gen digest recs)

/-- GEN of a page, where it is valid. -/
def SetPage.gen (p : SetPage) : Option Nat :=
  match p with
  | .valid g _ _ => some g
  | _ => none

/-- The page that counts: the valid one with the higher GEN (R474). -/
def NvUnit.newerPage (n : NvUnit) : Option Nat :=
  match n.page0.gen, n.page1.gen with
  | some a, some b => some (if a < b then 1 else 0)
  | some _, none => some 0
  | none, some _ => some 1
  | none, none => none

/-- A page. -/
def NvUnit.setPage (n : NvUnit) (k : Nat) : SetPage := if k = 0 then n.page0 else n.page1

/-- A page is invalid but not erased. -/
def NvUnit.badPage (n : NvUnit) : Bool := decide (n.page0 = .invalid) || decide (n.page1 = .invalid)

/-- Latch an error of BT (R476). -/
def Dev.latchBt (d : Dev) (reason part code : Nat) : Dev :=
  d.latch rBtErrLatch (pack [(4, reason), (2, part), (2, 0), (8, code)])

/-- SETTINGS_BAD (R474). -/
def Dev.settingsBad (d : Dev) : Dev := (d.latchBt 6 0 0).raise evBtSettingsBad 0

/-- One settings record: VALUE under its MASK; one that names a field outside R471 is skipped (R474). The second part tells
that a record was skipped. -/
def Dev.settingRecord (d : Dev) (warm : Bool) (s : SetRec) : Option (Dev × Bool) :=
  match regAt .blk (0x100000 * s.block + s.offset) allRegs with
  | some (r, i) =>
    if s.mask ||| r.keptMask ≠ r.keptMask then some (d, true)
    else if warm && keptTime r then some (d, false)
    else
      let old := d.rd r i (d.bankOf r)
      (d.imageWrite r i (clearBits old s.mask ||| (s.value &&& s.mask))).map (fun d => (d, false))
  | none => some (d, true)

/-- Settings records in their order. -/
def Dev.settingRecords (d : Dev) (warm : Bool) (bad : Bool) : List SetRec → Option (Dev × Bool)
  | [] => some (d, bad)
  | s :: rest =>
    match d.settingRecord warm s with
    | some (d, b) => d.settingRecords warm (bad || b) rest
    | none => none

/-- The settings page of R474. -/
def Dev.applySettings (d : Dev) (n : NvUnit) (warm : Bool) (hdr : List Byte) : Option Dev :=
  if hdrNoSettings hdr then some d
  else
    let d := if n.badPage then d.settingsBad else d
    match n.newerPage with
    | none => some d
    | some k =>
      match n.setPage k with
      | .valid gen digest recs =>
        if digest ≠ hdrDigest hdr then some (d.raise evBtSettingsStale 0)
        else
          (match d.settingRecords warm false recs with
           | some (d, bad) =>
             let d := if bad then d.settingsBad else d
             let d := { d with
               bt := { d.bt with settings := true, page := k }, se := { d.se with m2 := pageDigest gen digest recs } }
             some (d.raise evBtSettingsApplied 0)
           | none => none)
      | _ => some d

/-- The sections of a configuration image, as far as the values they set: the port map, the register records, and the node
table. -/
def Dev.applyImage (d : Dev) (warm : Bool) (b : List Byte) : Option Dev :=
  let l := (sectionsOf b).getD []
  match d.applyMap b with
  | none => none
  | some d =>
    match d.applySections warm l 0x16 1 with
    | none => none
    | some d =>
      match firstThat l (fun s => s.type == 0x101) with
      | some s => d.applyNodes s.payload (s.payload.length / 16) 0
      | none => some d

/-- Apply of a configuration image, none on RULE (R468). The values that the image sets are kept for STORE (R473). -/
def Dev.apply (d : Dev) (n : NvUnit) (warm : Bool) (b : List Byte) : Option Dev :=
  match d.applyImage warm b with
  | none => none
  | some d1 =>
    let base := match d.applyImage false b with | some x => x.regs | none => d1.regs
    match ({ d1 with bt := { d1.bt with base := base } }).applySettings n warm b with
    | none => none
    | some d2 => if d2.imageRules then some (d2.applyPolicy ((sectionsOf b).getD [])) else none

/-! ### The store (R473) -/

/-- The record of a register that holds a kept field with another value than the image set; none for the others. -/
def Dev.storeRec (d : Dev) (n : NvUnit) (r : Reg) (i : Nat) : Option SetRec :=
  let bank := d.bankOf r
  let now := d.ctlRead n r i bank
  let was := Tbl.get (r.resetAt i) d.bt.base (r.key i bank)
  let mask := (r.fields.filter (fun f => r.keepsField f && field now f.lo f.len != field was f.lo f.len)).foldl
    (fun w f => setField w f.lo f.len (2 ^ f.len - 1)) 0
  if mask = 0 then none
  else
    let addr := r.key i bank % 2 ^ 32
    some ⟨addr / 0x100000, addr % 0x100000, now, mask⟩

/-- The addresses of registers that may hold another value than at reset, now or in the image. -/
def Dev.touched (d : Dev) : List Nat :=
  Tbl.keys (forEach ((Tbl.keys d.regs ++ Tbl.keys d.staged ++ Tbl.keys d.bt.base
      ++ [rFeErr.base, rRtEpochNext.base, rScGateSwitch.base]).filter (fun k => decide (k < 2 ^ 60)))
    (fun k (t : Tbl Bool) => Tbl.put false (k % 2 ^ 32) true t) [])

/-- The records that a store captures (R473). -/
def Dev.storeRecs (d : Dev) (n : NvUnit) : List SetRec :=
  d.touched.filterMap (fun k => match regAt .blk k allRegs with
    | some (r, i) => d.storeRec n r i
    | none => none)

end Sys2Proof.Machine
end

