-- ==== Sys2Proof/Machine/Start.lean ====
section
/-! DEFINITION. Starts: what a start clears and keeps, its steps, safe mode and RUNNING; the triggers, the boot record and the
settings store (R457 to R476, R496, R497, R501). -/

namespace Sys2Proof.Machine

/-! ### What a start clears (R406, R459) -/

/-- A register whose value a warm start keeps: the T fields of ST, the fault latches and pending bits, and the counters. -/
def keptReg (r : Reg) : Bool :=
  keptTime r || (match r.name with
    | .feLatch | .feLatchTick | .fePend | .feHistStatus | .pcCtr | .pcSnap | .pcSnapTick | .pcNbrOfs => true
    | _ => false)

/-- A key of the register file names a register that a test accepts. -/
def keyIs (p : Reg → Bool) (key : Nat) : Bool :=
  if 2 ^ 60 ≤ key then false
  else match regAt .blk (key % 2 ^ 32) allRegs with
    | some (r, _) => p r
    | none => false

/-- A slot whose gate is on keeps its state through a warm start unless the pumps are released; the others start anew
(R459, R363). -/
def SpUnit.held (u : SpUnit) : SpUnit :=
  { u with
    slots := forEach u.slots (fun (p : Nat × SpSlot) (t : Tbl SpSlot) =>
      Tbl.put {} p.1 (if p.2.owned && p.2.use.gate && !u.released then p.2 else { pinEn := p.2.pinEn, gateOn := p.2.gateOn }) t) []
    groups := [] }

/-- The management interface as a start leaves it: a warm start keeps the addresses, CCC settings and readings. -/
def MgUnit.kept (u : MgUnit) (warm : Bool) : MgUnit :=
  if warm then
    { addr := u.addr, legacy := u.legacy, ibiOff := u.ibiOff, hotJoinOff := u.hotJoinOff, mwl := u.mwl, mrl := u.mrl,
      temps := u.temps }
  else { temps := u.temps }

/-- Start and configuration as a start begins: pins and straps stay; a warm start keeps the lane coefficients and the
retained images (R459, R469, R480). -/
def BtUnit.kept (u : BtUnit) (warm : Bool) : BtUnit :=
  if warm then
    { straps := u.straps, twinId := u.twinId, pwrok := u.pwrok,
      resetLow := u.resetLow, supplyBad := u.supplyBad, hot := u.hot, startMs := u.startMs, badLanes := u.badLanes,
      calDone := u.calDone, fw := u.fw, cfg := u.cfg, copy := u.copy }
  else
    { straps := u.straps, twinId := u.twinId, pwrok := u.pwrok,
      resetLow := u.resetLow, supplyBad := u.supplyBad, hot := u.hot, startMs := u.startMs }

/-- Every block returns to its reset values but for what R459 keeps. Of the time unit a warm start keeps all, that a root has yielded too
(R37; DESIGN CHOICE, log entry 195). -/
def Dev.cleared (d : Dev) (warm : Bool) : Dev :=
  { regs := if warm then d.regs.filter (fun p => keyIs keptReg p.1) else []
    staged := if warm then d.staged.filter (fun p => keyIs keptTime p.1) else []
    st := if warm then { d.st with quotaUsed := [], deferRun := [], persistOwed := [] } else {}
    fe := { hist := if warm then d.fe.hist else [] }
    ln := { refOk := d.ln.refOk }
    sp := if warm then d.sp.held else {}
    tw := { lease := d.tw.lease, fenceOwed := d.tw.fenceOwed || (d.pairEn && decide (d.tw.state = .paired)),
            silent := d.tw.silent, selfFenced := d.tw.selfFenced }
    pd := if warm then d.pd else {}
    se := if warm then { sparge := d.se.sparge, kiln := d.se.kiln } else {}
    bt := d.bt.kept warm
    mg := d.mg.kept warm
    todo := d.todo, out := d.out, free := d.free }

/-! ### The beginning of a start (R457, R460) -/

/-- A start begins. A warm trigger results in a cold start when no full calibration has completed since PWROK rose, when the
retained state of BT has failed its check, and when it ends a start before the end of step 5. -/
def Dev.beginStart (d : Dev) (warm : Bool) : Dev :=
  let cut := d.starting
  let early := cut && decide (d.bt.phase ≤ 5)
  let stays := warm && d.bt.calDone && !d.bt.retainBad && !early
  let d := d.cleared stays
  let d := { d with bt := { d.bt with
    phase := 1, kind := if stays then 2 else 1, part := 3, slotsHeld := stays && !d.sp.released } }
  (d.raiseIf cut evBtStartInterrupted 0).raiseIf (warm && !stays) evBtWarmToCold 0

/-- A warm trigger, which needs power (R457). -/
def Dev.warmStart (d : Dev) : Dev := if d.bt.pwrok && !d.bt.supplyBad then d.beginStart true else d

/-- COLD_START: PWROK rises with the levels of STRAP[3:0] and TWIN_ID, which are sampled and held; while RESET_N is low the
start waits for its release (R457, R480, R489, R497). -/
def Dev.coldStart (d : Dev) (straps : Nat) (twinId : Bool) : Dev :=
  let d := { d with bt := { d.bt with pwrok := true, calDone := false, straps := straps % 16, twinId := twinId } }
  if d.bt.resetLow then d else d.beginStart false

/-- RESET_N: its low level, after 1 µs, holds the device and releases the charge pumps; its rise begins a warm start, or the
cold start that PWROK has asked for (R363, R457, R497). -/
def Dev.resetN (d : Dev) (low : Bool) : Dev :=
  if low then ({ d with bt := { d.bt with resetLow := true } }).releasePumps
  else if d.bt.resetLow then
    let d := { d with bt := { d.bt with resetLow := false } }
    if d.bt.pwrok && decide (d.bt.phase = 0) then d.beginStart false else d.warmStart
  else d

/-- The device holds in step 1 without power: every block is at its reset values (R460, R496, R497). -/
def Dev.powerDown (d : Dev) : Dev :=
  let cut := d.starting
  let d := d.cleared false
  (({ d with bt := { d.bt with calDone := false } }).releasePumps).raiseIf cut evBtStartInterrupted 0

/-- PWROK_FALL: any start ends and the charge pumps are released (R460, R496). -/
def Dev.pwrokFall (d : Dev) : Dev :=
  let d := d.powerDown
  { d with bt := { d.bt with pwrok := false, phase := 0, kind := 0 } }

/-- SUPPLY_FAULT: a core rail or CORE_REFCLK fails; the device holds in step 1 as though PWROK had fallen (R497). -/
def Dev.supplyFault (d : Dev) : Dev :=
  let d := d.powerDown
  { d with bt := { d.bt with supplyBad := true, phase := 1, kind := 1, part := 3 } }

/-- SUPPLY_RESTORED: the device makes a cold start, with the straps as they were sampled (R497). -/
def Dev.supplyRestored (d : Dev) : Dev :=
  if d.bt.supplyBad then
    let d := { d with bt := { d.bt with supplyBad := false } }
    if d.bt.pwrok then d.beginStart false else { d with bt := { d.bt with phase := 0, kind := 0 } }
  else d

/-- THERMAL_HOLD: any start ends, and the device is held in step 1 of a warm start with its charge pumps released, as if
RESET_N were low (R501). -/
def Dev.thermalHold (d : Dev) : Dev :=
  if d.bt.hot || !d.bt.pwrok || d.bt.supplyBad then d
  else (({ d with bt := { d.bt with hot := true } }).releasePumps).warmStart

/-- THERMAL_RELEASE: the warm start proceeds (R501). -/
def Dev.thermalRelease (d : Dev) : Dev := { d with bt := { d.bt with hot := false } }

/-- FATAL_RESTART: 1 ms after a FATAL, with FATAL_RESTART set, the device requests a warm start (R411). -/
def Dev.fatalRestart (d : Dev) : Dev :=
  if d.fe.restartOwed && flag (d.rd rFeCtl) 8 then d.warmStart else d

/-- START_TIMEOUT: the watchdog expires before RUNNING, and a warm start begins (R462). -/
def Dev.startTimeout (d : Dev) : Dev :=
  if d.starting && !d.bt.hot && !d.bt.resetLow && !d.bt.supplyBad then
    let part := d.bt.part
    ((d.beginStart true).latchBt 2 part 0).raise evBtStartTimeout 0
  else d

/-! ### Steps (R458) -/

/-- A step of the start begins. -/
def Dev.phaseTo (d : Dev) (k : Nat) : Dev := { d with bt := { d.bt with phase := k } }

/-- The slots of a start that has ended: held gates are freed; every slot follows SP_OWN and its lease, and turns on or off as
it is wanted (R346, R361, R379, R459). -/
def Dev.freeSlots (d : Dev) : Dev :=
  let shared := d.pairEn || decide (d.bt.phase = 10)
  let d := { d with
    bt := { d.bt with slotsHeld := false },
    tw := { d.tw with fenceOwed := false, silent := 0, selfFenced := d.tw.selfFenced && shared },
    sp := { d.sp with released := false } }
  let d := d.giveBack
  let d := if shared && (d.tw.selfFenced || (d.tw.lease.valid && d.tw.lease.holder != d.twinId)) then d.allStandby else d
  forEach (upFrom 0 32) (fun s (d : Dev) => (d.tryRamp s).slotUnwanted s) d

/-- A start ends in safe mode: the management complex, the safety island, the fault collector and slot power run (R463). -/
def Dev.safeMode (d : Dev) : Dev :=
  let d := { d with
    bt := { d.bt with phase := 10, part := 3, chain := [], tryFw := none, tryCfg := none, image := [], stable := true },
    mg := { d.mg with alive := true } }
  d.freeSlots.raise evBtSafeMode 0

/-- The chain of a FAIL_COUNT (R462). -/
def bootChain (f prefer : Nat) : List Nat :=
  if f ≤ 2 then [prefer % 2, 1 - prefer % 2, 2] else if f ≤ 5 then [2] else []

/-- The next partition of the chain is tried from step 6, or safe mode is entered (R462). -/
def Dev.nextPart (d : Dev) : Dev :=
  match d.bt.chain with
  | [] => d.safeMode
  | p :: _ => { d with bt := { d.bt with phase := 6, part := p, tryFw := none, tryCfg := none, image := [] } }

/-- A partition is refused with a code of R467 (R462). -/
def Dev.refusePart (d : Dev) (code : Nat) : Dev :=
  let part := d.bt.part
  let d := d.wrFld rBtPartStatus (8 * part) 8 code
  let d := if code = 2 then (d.latchBt 3 part code).raise evBtFlashError 0 else d
  let d := (d.latchBt 1 part code).raise evBtPartRefused 0
  ({ d with bt := { d.bt with chain := d.bt.chain.drop 1 } }).nextPart

/-- Step 2: torn lifecycle words are completed, the state is read, and a state that contradicts the other fuses is a Class A
violation (R444, R451). -/
def Chip.lifeStep (c : Chip) : Chip :=
  let torn := [1, 2, 3, 4].any (fun s => c.nv.fuses.torn s)
  let f := c.nv.fuses.repair
  let c : Chip := { dev := { c.dev with se := { c.dev.se with life := f.state } }, nv := { c.nv with fuses := f } }
  let c := if torn then c.map (fun d => (d.startSparge .repair).raise evSeFuseRepair 0) else c
  let c := if f.contradicts then c.violation true 5 else c
  c.map (fun d => d.phaseTo 3)

/-- Step 3: the boot record is read and written with FAIL_COUNT one higher, and the chain is picked; in RETURN the settings are
erased; in SCRAPPED nothing but safe mode is left (R445, R447, R462, R475). -/
def Chip.bootStep (c : Chip) : Chip :=
  let b := c.nv.bootRec
  let life := c.dev.se.life
  let d := if c.nv.boot.isNone then (c.dev.latchBt 8 0 0).raise evBtNvmError 0 else c.dev
  let nv := c.nv.putBoot { b with failCount := satInc 255 b.failCount, starts := b.starts + 1 }
  let nv := if life = 3 then { nv with page0 := .erased, page1 := .erased } else nv
  let chain := if life = 4 then [] else bootChain b.failCount b.prefer
  { dev := { d with bt := { d.bt with chain := chain, phase := if d.bt.kind = 2 then 5 else 4 } }, nv := nv }

/-- Step 4: the Tun self-test (R463). -/
def Dev.bistStep (d : Dev) (fail : Bool) : Dev :=
  if fail then ((d.latchBt 4 0 0).raise evBtBistFail 0).safeMode else d.phaseTo 5

/-- Step 5: full calibration, or the stored coefficients (R457, R463). -/
def Dev.calStep (d : Dev) (lanes : List Nat) : Dev :=
  let d := if d.bt.kind = 1 then
      let d := { d with bt := { d.bt with calDone := true, badLanes := lanes } }
      forEach lanes (fun l (d : Dev) => (d.latchBt 5 0 l).raise evBtCalFail l) d
    else d
  d.nextPart

/-- The digest that counts as retained for an image: only a warm start compares it (R469). -/
def Dev.retainedOf (d : Dev) (kind : Nat) (copyBad : Bool) : Option Nat :=
  if d.bt.kind ≠ 2 then none
  else if kind = 1 then d.bt.fw.map (fun r => r.digest)
  else if copyBad then none
  else d.bt.cfg.map (fun r => r.digest)

/-- DIGEST and SVN of the image in the flash. -/
def NvUnit.headRec (n : NvUnit) (part kind : Nat) : Retained :=
  let h := n.flashBytes (imageBase part kind) 128
  ⟨hdrDigest h, hdrSvn h⟩

/-- Step 6: the firmware image is checked and the identity key derived (R443, R451, R452, R467). -/
def Chip.fwStep (c : Chip) (flashFail : Bool) : Chip :=
  let d := c.dev
  let code := c.nv.imageCode d.se.life d.bt.part 1 (d.retainedOf 1 false) flashFail
  if code = 0 then
    c.map (fun d =>
      let d := if d.se.alarmA || d.se.life == 4 then d else d.deriveId c.nv.fuses.secret
      { d with bt := { d.bt with tryFw := some (c.nv.headRec d.bt.part 1), phase := 7 } })
  else
    let c := if code = 5 ∨ code = 6 ∨ code = 8 then (c.map (fun d => d.raise evSeSigFailFw 0)).violation false 1
      else if code = 7 then (c.map (fun d => d.raise evSeRollback 0)).violation false 3
      else c
    c.map (fun d => d.refusePart code)

/-- Step 7: the configuration image is checked (R451, R467, R469). -/
def Chip.cfgStep (c : Chip) (flashFail copyBad : Bool) : Chip :=
  let d := c.dev
  let kept := d.retainedOf 2 copyBad
  let code := c.nv.imageCode d.se.life d.bt.part 2 kept flashFail
  if code = 0 then
    let r := c.nv.headRec d.bt.part 2
    let image := if kept = some r.digest then d.bt.copy else c.nv.wholeImage d.bt.part 2
    c.map (fun d => { d with bt := { d.bt with tryCfg := some r, image := image, phase := 8 } })
  else
    let c := if code = 5 ∨ code = 6 ∨ code = 8 then (c.map (fun d => d.raise evSeSigFailCfg 0)).violationBy 2
      else if code = 7 then (c.map (fun d => d.raise evSeRollback 0)).violationBy 3
      else c
    c.map (fun d => d.refusePart code)

/-- A port has no lane that failed calibration (R463). -/
def Dev.lanesGood (d : Dev) (p : Nat) : Bool :=
  (upFrom p (if p < 256 then d.portWidth p else d.outLanes p)).all (fun l => !(d.bt.badLanes.any (fun b => b == l)))

/-- The lanes of CXL port `k`, CXL lanes numbered from 256, are good. -/
def Dev.cxLanesGood (d : Dev) (k : Nat) : Bool :=
  (upFrom (256 + d.fld rCxPortCfg 0 7 k) (d.outLanes (256 + k))).all (fun l => !(d.bt.badLanes.any (fun b => b == l)))

/-- Ports leave DISABLED as their controls say (R265, R327, R463). -/
def Dev.startPorts (d : Dev) : Dev :=
  let d := forEach (Tbl.keys d.map) (fun p (d : Dev) => if d.lanesGood p then d.leaveDisabled p else d) d
  forEach ((upFrom 0 48).filter (fun k => decide (d.cxRole k ≠ 0))) (fun k (d : Dev) =>
    if d.cxLanesGood k then d.cxPortCtl k else d) d

/-- The device enters RUNNING at the end of step 8 (R445, R454, R458, R462, R469, R470, R475, R508). -/
def Chip.running (c : Chip) : Chip :=
  let d := c.dev
  let b := d.bt
  let fw := b.tryFw.getD ⟨0, 0⟩
  let cfg := b.tryCfg.getD ⟨0, 0⟩
  let f := { c.nv.fuses with fwSvn := burnSvn c.nv.fuses.fwSvn fw.svn, cfgSvn := burnSvn c.nv.fuses.cfgSvn cfg.svn }
  let nv := NvUnit.putBoot { c.nv with fuses := f } { c.nv.bootRec with lastPart := b.part }
  let m3 := if d.se.life = 0 then 0 else (f.activeOwner.bind (fun k => Tbl.get none f.owner k)).getD 0
  let d := { d with
    bt := { b with
      phase := 9, startMs := b.ms, chain := [], tryFw := none, tryCfg := none, image := [], fw := some fw, cfg := some cfg,
      copy := b.image, runFw := some fw, runCfg := some cfg, stable := false },
    se := { d.se with m0 := fw.digest, m1 := cfg.digest, m3 := m3 },
    mg := { d.mg with alive := true } }
  let d := (d.wrFld rBtPartStatus (8 * b.part) 8 0xFF).raise evBtStartDone 0
  let d := d.raiseIf (decide (b.part = 2)) evBtGoldenBoot 0
  let d := if b.kind = 2 then d.startService else d
  let d := if d.isRoot then d.enterLocked else d
  let d := if d.pairEn then d.enterForming else d
  { dev := d.freeSlots.startPorts, nv := nv }

/-- Step 8: apply; on RULE the next partition is tried with every block at its reset values (R468). -/
def Chip.applyStep (c : Chip) : Chip :=
  match c.dev.apply c.nv (decide (c.dev.bt.kind = 2)) c.dev.bt.image with
  | some d => ({ c with dev := d }).running
  | none => c.map (fun d => d.refusePart 10)

/-- BT_STEP_MS of the step that ends, and the running start's duration (R458, R476). -/
def Dev.stepTimed (d : Dev) (ms : Nat) : Dev :=
  let d := d.wr rBtStepMs (min ms (2 ^ 32 - 1)) (d.bt.phase - 1)
  { d with bt := { d.bt with ms := satAdd (2 ^ 32 - 1) d.bt.ms ms } }

/-- The power, RESET_N and the thermal hold let step 1 end (R457, R497, R501). -/
def Dev.stepHeld (d : Dev) : Bool := !d.bt.pwrok || d.bt.supplyBad || d.bt.resetLow || d.bt.hot

/-- START_STEP_DONE (R458). -/
def Chip.stepDone (c : Chip) (e : StepEnd) : Chip :=
  let t := c.map (fun d => d.stepTimed e.ms)
  if c.dev.stepHeld then c
  else match c.dev.bt.phase with
  | 1 => t.map (fun d => d.phaseTo 2)
  | 2 => t.lifeStep
  | 3 => t.bootStep
  | 4 => t.map (fun d => d.bistStep e.bistFail)
  | 5 => t.map (fun d => d.calStep e.calFail)
  | 6 => t.fwStep e.fwFail
  | 7 => t.cfgStep e.cfgFail e.copyBad
  | 8 => t.applyStep
  | _ => c

/-! ### After the start (R463, R470) -/

/-- The boot record takes a FAIL_COUNT. -/
def NvUnit.setFails (n : NvUnit) (v : Nat) : NvUnit := n.putBoot { n.bootRec with failCount := v }

/-- STABLE_REACHED: the device has stayed in RUNNING for STABLE with MC_ALIVE 1 throughout (R463). -/
def Chip.stableReached (c : Chip) : Chip :=
  if c.dev.bt.phase = 9 ∧ c.dev.bt.stable = false ∧ c.dev.mg.alive then
    { dev := { c.dev with bt := { c.dev.bt with stable := true } },
      nv := c.nv.setFails (if c.dev.bt.part = 2 then 3 else 0) }
  else c

/-- MC_ALIVE falls in RUNNING before STABLE has passed: the start has failed (R463). -/
def Dev.startFailed (d : Dev) : Dev :=
  if d.bt.phase = 9 ∧ d.bt.stable = false then
    let part := d.bt.part
    ((d.warmStart).latchBt 2 part 0).raise evBtStartTimeout 0
  else d

/-- START_WINDOW_END: L_max + 2 ticks, or L_max + 32 in conservative mode, have passed since START_TICK (R470). -/
def Dev.startWindowEnd (d : Dev) : Dev :=
  match d.tp.service with
  | some t => if d.ageLimit ≤ d.since t then { d with bt := { d.bt with window := false } } else d
  | none => d

/-! ### BT_CMD and the store (R473, R476) -/

/-- SET_PREFER, CLEAR_FAILS and ERASE_SETTINGS. -/
def NvUnit.setPrefer (n : NvUnit) (v : Nat) : NvUnit := n.putBoot { n.bootRec with prefer := v % 2 }
def NvUnit.eraseSettings (n : NvUnit) : NvUnit := { n with page0 := .erased, page1 := .erased }

/-- The status with which a store is refused, or OK (R473). -/
def Chip.storeStatus (c : Chip) : Nat :=
  let d := c.dev
  if d.bt.store.isSome || d.starting then ebBusy
  else if d.bt.phase ≠ 9 || d.se.life == 3 || d.se.life == 4 || decide (4096 < (d.storeRecs c.nv).length) then ebRefused
  else ebOk

/-- The page a store writes: the one with the lower GEN, or page 0 when neither is valid; and its GEN, one above the other
page's (R473). -/
def NvUnit.storePage (n : NvUnit) : Nat × Nat :=
  match n.page0.gen, n.page1.gen with
  | some a, some b => if a < b then (0, b + 1) else (1, a + 1)
  | some a, none => (1, a + 1)
  | none, some b => (0, b + 1)
  | none, none => (0, 1)

/-- A settings page is written. -/
def NvUnit.putPage (n : NvUnit) (k : Nat) (page : SetPage) : NvUnit :=
  if k = 0 then { n with page0 := page } else { n with page1 := page }

/-- STORE_SETTINGS: the page is torn until the store is done (R473; DEDUCED, log entry 206). -/
def Chip.storeSettings (c : Chip) : Nat × Chip :=
  let status := c.storeStatus
  if status = ebOk then
    let (k, gen) := c.nv.storePage
    let digest := match c.dev.bt.runCfg with | some r => r.digest | none => 0
    let page := SetPage.valid (gen % 2 ^ 32) digest (c.dev.storeRecs c.nv)
    (ebOk, { dev := { c.dev with bt := { c.dev.bt with store := some (k, page) } }, nv := c.nv.putPage k .invalid })
  else
    (status, c.map (fun d => { d with bt := { d.bt with
      storeResult := if status = ebRefused then 3 else d.bt.storeResult } }))

/-- STORE_DONE: the page is written and read back; `ok` is that PAGE_DIGEST was good (R473). -/
def Chip.storeDone (c : Chip) (ok : Bool) : Chip :=
  match c.dev.bt.store with
  | none => c
  | some (k, page) =>
    let page := if ok then page else .invalid
    let nv := c.nv.putPage k page
    let d := { c.dev with bt := { c.dev.bt with store := none, storeResult := if ok then 1 else 2 } }
    let d := if ok then ({ d with bt := { d.bt with page := k } }).raise evBtStoreDone 0
      else (d.latchBt 7 0 0).raise evBtStoreFail 0
    { dev := d, nv := nv }

/-- A write of BT_CMD, or its Eboury equivalent: the boot record first, then the store, the erasure, and last the warm start;
the status is that of the store, where one is asked for (R473, R476). -/
def Chip.btCmd (c : Chip) (v : Nat) : Nat × Chip :=
  let nv := if flag v 1 then c.nv.setPrefer (field v 0 1) else c.nv
  let nv := if flag v 2 then nv.setFails 0 else nv
  let c : Chip := { c with nv := nv }
  let (status, c) := if flag v 4 then c.storeSettings else (ebOk, c)
  let c : Chip := if flag v 5 then { c with nv := c.nv.eraseSettings } else c
  (status, if flag v 3 then c.map (fun d => d.warmStart) else c)

/-! ### Requested warm starts (R487) -/

/-- A warm start that RESET_REQ or RSTACT has asked for begins; KIND 2 first releases every charge pump. A running sparge
holds it. -/
def Dev.resetDue (d : Dev) : Dev :=
  match d.bt.resetReq with
  | some kind =>
    if d.se.sparge.isSome then d
    else (if kind = 2 then ({ d with bt := { d.bt with resetReq := none } }).releasePumps
      else { d with bt := { d.bt with resetReq := none } }).warmStart
  | none => d

/-- RESET_REQ is accepted (R487, R492). -/
def Dev.resetAsk (d : Dev) (kind : Nat) : Dev :=
  ({ d with bt := { d.bt with resetReq := some kind } }).raise evMgResetRequested 0

end Sys2Proof.Machine
end

