-- ==== Sys2Proof/Machine/Eboury.lean ====
section
/-! DEFINITION. The Eboury commands: what the safety island and the management complex do with a checked request frame (R485
to R488). -/

namespace Sys2Proof.Machine

/-- A request frame is checked and, where its opcode is the row's, served (R482). -/
def Chip.eboury (c : Chip) (bytes : List Byte) (ops : Nat → Bool) (serve : EbFrame → Chip → Chip) : Chip :=
  match c.dev.ebCheck bytes with
  | (some f, d) => if ops f.opcode then serve f { c with dev := d } else c
  | (none, d) => { c with dev := d }

/-- A response of the management complex, and one of the safety island. -/
def Chip.reply (c : Chip) (f : EbFrame) (status : Nat) (payload : List Byte) : Chip :=
  c.map (fun d => d.ebReply f false status payload)
def Chip.islandReply (c : Chip) (f : EbFrame) (status : Nat) (payload : List Byte) : Chip :=
  c.map (fun d => d.ebReply f true status payload)

/-- The payload has the one length a command takes (R485). -/
def EbFrame.takes (f : EbFrame) (n : Nat) : Bool := f.payload.length == n

/-- A number of a payload. -/
def EbFrame.num (f : EbFrame) (off len : Nat) : Nat := leAt f.payload off len

/-! ### The safety island (R487) -/

/-- The hottest reading and its sensor. -/
def hottest (l : List Int) : Int × Nat :=
  let m := l.foldl (fun (a : Int) b => max a b) (l.headD 0)
  (m, (lowest (fun k => decide (l.getD k 0 = m)) 0 l.length).getD 0)

/-- The readings of the eight sensors. -/
def Dev.takeTemps (d : Dev) (l : List Int) : Dev :=
  { d with mg := { d.mg with temps := (upFrom 0 8).map (fun k => l.getD k 0) } }

/-- The payload of STATUS. -/
def Dev.statusBytes (d : Dev) (ms : Nat) : List Byte :=
  let fe := d.feStatus
  let flags := pack [(1, bit d.mg.alive), (1, bit d.se.shown), (1, bit d.se.alarmA), (1, field fe 0 1), (1, bit d.fe.fatal),
    (1, field fe 10 1), (1, bit (decide (d.bt.phase = 10))), (1, bit d.tw.selfFenced)]
  let sp := d.spStatus
  toBytes 8 (pack [(8, d.bt.phase), (8, d.se.life), (8, flags), (8, 0), (16, unsigned (hottest d.mg.temps).1 16)])
    ++ toBytes 4 ms ++ toBytes 4 (field sp 0 32) ++ toBytes 4 (field sp 32 32)
    ++ toBytes 12 (pack [(8, d.fenceCount), (8, d.fe.i3c.length)])

/-- STATUS. -/
def Chip.serveStatus (c : Chip) (ms : Nat) (temps : List Int) (f : EbFrame) : Chip :=
  if f.takes 0 then
    let c := c.map (fun d => d.takeTemps temps)
    c.islandReply f ebOk (c.dev.statusBytes ms)
  else c.islandReply f ebLength []

/-- The payload of a FAULT_READ PART. -/
def Dev.faultBytes (d : Dev) (part : Nat) : List Byte :=
  let words (n : Nat) (g : Nat → Nat) : List Byte := (upFrom 0 n).foldr (fun k l => toBytes 8 (g k) ++ l) []
  match part with
  | 0 => (upFrom 0 4).foldr (fun v l => toBytes 8 (d.rd rFeLatch v) ++ toBytes 8 (d.rd rFeLatchTick v) ++ l) []
  | 1 => words 5 (fun k => d.rd rFePend k)
  | 2 => words 64 (fun k => d.feFence k)
  | _ => toBytes 8 d.feStatus ++ toBytes 8 d.feErr ++ toBytes 8 (d.rd rFeErrLatch)

/-- CLEAR of a FAULT_READ: VALID of every latch, or every pending bit returned (R404, R405). -/
def Dev.faultClear (d : Dev) (part : Nat) : Dev :=
  match part with
  | 0 => forEach (upFrom 0 4) (fun v (d : Dev) => d.latchClear v) d
  | 1 => forEach (upFrom 0 5) (fun k (d : Dev) => d.pendClear k (d.rd rFePend k)) d
  | _ => d

/-- FAULT_READ. -/
def Chip.serveFaultRead (c : Chip) (f : EbFrame) : Chip :=
  let part := f.num 0 1
  if f.takes 2 && decide (part ≤ 3) then
    let bytes := c.dev.faultBytes part
    (if flag (f.num 1 1) 0 then c.map (fun d => d.faultClear part) else c).islandReply f ebOk bytes
  else c.islandReply f ebLength []

/-- TEMP. -/
def Chip.serveTemp (c : Chip) (temps : List Int) (f : EbFrame) : Chip :=
  if f.takes 0 then
    let c := c.map (fun d => d.takeTemps temps)
    let l := c.dev.mg.temps
    let h := hottest l
    c.islandReply f ebOk (l.foldr (fun t b => toBytes 2 (unsigned t 16) ++ b) []
      ++ toBytes 2 (unsigned h.1 16) ++ toBytes 1 h.2 ++ toBytes 1 0)
  else c.islandReply f ebLength []

/-- A slot that SLOT_OFF switches off: owned, and in RAMP, ON or WARN_WAIT. -/
def Dev.islandMayOff (d : Dev) (s : Nat) : Bool :=
  (d.slot s).owned && (match (d.slot s).use with
    | .ramp | .on | .warnWait => true
    | _ => false)

/-- SLOT_OFF. -/
def Chip.serveSlotOff (c : Chip) (f : EbFrame) : Chip :=
  if f.takes 4 then
    let mask := f.num 0 4
    let off := (upFrom 0 32).filter (fun s => flag mask s && c.dev.islandMayOff s)
    let standby := (upFrom 0 32).filter (fun s => flag mask s && decide ((c.dev.slot s).use = .standby))
    let bits (l : List Nat) : Nat := l.foldl (fun w s => w + 2 ^ s) 0
    let c := c.map (fun d => forEach off (fun s (d : Dev) => d.offNow s) d)
    (c.map (fun d => d.raiseIf (!off.isEmpty) evMgIslandSlotOff 0)).islandReply f ebOk
      (toBytes 4 (bits off) ++ toBytes 4 (bits standby))
  else c.islandReply f ebLength []

/-- SPARGE: the key slots at once, the Kiln until SPARGE_DONE, whose read-back the response follows (R453). -/
def Chip.serveSparge (c : Chip) (f : EbFrame) : Chip :=
  if !(f.takes 4) then c.islandReply f ebLength []
  else if f.num 0 4 ≠ 0x47525053 then c.islandReply f ebRefused []
  else if c.dev.se.sparge.isSome then c.islandReply f ebBusy []
  else c.map (fun d => (d.spargeKeys.startSparge (.command f.tag)).ebWait f 0)

/-- RESET_REQ: the response leaves first. -/
def Chip.serveResetReq (c : Chip) (f : EbFrame) : Chip :=
  let kind := f.num 0 1
  if f.takes 1 && (kind == 1 || kind == 2) then (c.islandReply f ebOk []).map (fun d => d.resetAsk kind)
  else c.islandReply f ebLength []

/-! ### Registers (R486) -/

/-- A run of registers: the bytes read, and whether every one was mapped. -/
def Dev.readRun (d : Dev) (n : NvUnit) (addr width : Nat) : Nat → List Byte × Bool × Dev
  | 0 => ([], true, d)
  | k + 1 =>
    let (v, ok, d) := d.ctlReadAt n 0 addr width
    let (rest, ok2, d) := d.readRun n (addr + width) width k
    (toBytes width v ++ rest, ok && ok2, d)

/-- REG_READ. -/
def Chip.serveRegRead (c : Chip) (f : EbFrame) : Chip :=
  let width := f.num 4 1
  let count := f.num 5 1
  if f.takes 6 && (width == 4 || width == 8) && decide (1 ≤ count) then
    let (bytes, ok, d) := c.dev.readRun c.nv (f.num 0 4) width count
    ({ c with dev := d }).reply f (if ok then ebOk else ebUnmapped) bytes
  else c.reply f ebLength []

/-- A write of the control space by a path: 0 Eboury, 1 a management core; the status is that of R485. -/
def Chip.ctlWrite (c : Chip) (path addr bytes value : Nat) : Nat × Chip :=
  match ctlReg addr bytes with
  | none => (ebUnmapped, c.map (fun d => d.unmapped path addr))
  | some (r, i) =>
    if r.name = .btCmd then
      let (s, c) := c.btCmd value
      (if s = ebOk then ebOk else ebApplyRefused, c)
    else
      let d := c.dev.regWrite r i value
      (if d.out.any (fun o => decide (o = .applyRefused)) then ebApplyRefused else ebOk, { c with dev := d })

/-- REG_WRITE. -/
def Chip.serveRegWrite (c : Chip) (f : EbFrame) : Chip :=
  let width := f.num 4 1
  if f.takes 16 && (width == 4 || width == 8) then
    let (s, c) := c.ctlWrite 0 (f.num 0 4) width (f.num 8 width)
    c.reply f s []
  else c.reply f ebLength []

/-- MH_REQUEST: the request enters maintenance queue 5; its response is Malthouse's (R313, R486). -/
def Chip.serveMh (c : Chip) (f : EbFrame) : Chip :=
  if f.takes 32 then
    let w := f.num 0 32
    c.map (fun d => (d.ebWait f (mhTag w)).mhRequest 5 w)
  else c.reply f ebLength []

/-! ### Security (R443, R446 to R450, R454) -/

/-- SE_CHALLENGE. -/
def Chip.serveChallenge (c : Chip) (f : EbFrame) : Chip :=
  if f.takes 0 then
    let (v, d) := c.dev.challenge
    ({ c with dev := d }).reply f ebOk (toBytes 32 v)
  else c.reply f ebLength []

/-- ATTEST. -/
def Chip.serveAttest (c : Chip) (f : EbFrame) : Chip :=
  if !(f.takes 32) then c.reply f ebLength []
  else if !c.dev.se.idReady then c.reply f ebNoIdentity []
  else
    let bytes := c.report (f.num 0 32)
    let c := c.map (fun d => { d with se := { d.se with attests := satInc (2 ^ 32 - 1) d.se.attests } })
    (c.map (fun d => d.raise evSeAttest 0)).reply f ebOk bytes

/-- CERT_READ. -/
def Chip.serveCert (c : Chip) (f : EbFrame) : Chip :=
  if f.takes 0 then c.reply f ebOk (toBytes 112 c.nv.cert) else c.reply f ebLength []

/-- LC_ENROLL. -/
def Chip.serveEnroll (c : Chip) (f : EbFrame) : Chip :=
  if f.takes 32 then
    let (s, c) := c.enroll (f.num 0 32)
    c.reply f s []
  else c.reply f ebLength []

/-- LC_COMMAND. -/
def Chip.serveStatement (c : Chip) (f : EbFrame) : Chip :=
  if f.takes 160 then
    let (s, c) := c.statement (f.num 0 96) (f.num 96 64)
    c.reply f s []
  else c.reply f ebLength []

/-! ### Flash and boot (R461, R469, R473, R486) -/

/-- FLASH_READ. -/
def Chip.serveFlashRead (c : Chip) (fail : Bool) (f : EbFrame) : Chip :=
  let len := f.num 4 2
  if !(f.takes 6) || decide (len = 0) || decide (4096 < len) then c.reply f ebLength []
  else if fail then (c.map (fun d => (d.latchBt 3 0 0).raise evBtFlashError 0)).reply f ebFlash []
  else c.reply f ebOk (c.nv.flashBytes (f.num 0 4) len)

/-- Addresses meet the golden partition. -/
def meetsGolden (addr len : Nat) : Bool := decide (addr < 0x1900000) && decide (0x1100000 < addr + len)

/-- Addresses meet an image region of a partition. -/
def meetsImages (part addr len : Nat) : Bool :=
  decide (addr < partBase part + 0x700000) && decide (partBase part < addr + len)

/-- An accepted flash command runs; one that touches an image of the running partition clears the retained digests. -/
def Chip.startFlash (c : Chip) (f : EbFrame) (addr len : Nat) (data : List Byte) : Chip :=
  let d := c.dev
  let d := if d.bt.phase = 9 ∧ meetsImages d.bt.part addr len then d.dropRetained else d
  { c with dev := { (d.ebWait f 0) with mg := { (d.ebWait f 0).mg with flash := some (f.opcode, f.tag, addr, data) } } }

/-- The status with which an erase or a write is refused, or OK. -/
def Dev.flashStatus (d : Dev) (addr len align : Nat) : Nat :=
  if addr % align ≠ 0 || ((d.se.life == 2 || d.se.life == 4) && meetsGolden addr len) then ebRefused
  else if d.mg.flash.isSome then ebBusy
  else ebOk

/-- FLASH_ERASE. -/
def Chip.serveFlashErase (c : Chip) (f : EbFrame) : Chip :=
  if !(f.takes 4) then c.reply f ebLength []
  else
    let s := c.dev.flashStatus (f.num 0 4) 65536 65536
    if s = ebOk then c.startFlash f (f.num 0 4) 65536 [] else c.reply f s []

/-- FLASH_WRITE. -/
def Chip.serveFlashWrite (c : Chip) (f : EbFrame) : Chip :=
  let data := f.payload.drop 4
  if data.isEmpty || decide (4096 < data.length) then c.reply f ebLength []
  else
    let s := c.dev.flashStatus (f.num 0 4) data.length 256
    if s = ebOk then c.startFlash f (f.num 0 4) data.length data else c.reply f s []

/-- Bytes of the flash are erased, or written. -/
def NvUnit.erase (n : NvUnit) (addr len : Nat) : NvUnit :=
  { n with flash := n.flash.filter (fun (p : Nat × Nat) => !(decide (addr ≤ p.1) && decide (p.1 < addr + len))) }
def NvUnit.program (n : NvUnit) (addr : Nat) : List Byte → NvUnit
  | [] => n
  | b :: rest => ({ n with flash := Tbl.put 0xFF addr b.toNat n.flash }).program (addr + 1) rest

/-- FLASH_COMMAND_DONE: the running flash command ends, and its response is sent (R486). -/
def Chip.flashDone (c : Chip) (fail : Bool) : Chip :=
  match c.dev.mg.flash with
  | none => c
  | some (op, tag, addr, data) =>
    let nv := if fail then c.nv else if op = 0x41 then c.nv.erase addr 65536 else c.nv.program addr data
    let d := { c.dev with mg := { c.dev.mg with flash := none } }
    { dev := d.ebAnswer (fun w => w.opcode == op && w.tag == tag) false (if fail then ebFlash else ebOk) [], nv := nv }

/-- BOOT_CTL. -/
def Chip.serveBootCtl (c : Chip) (f : EbFrame) : Chip :=
  if !(f.takes 1) then c.reply f ebLength []
  else if flag (f.num 0 1) 4 then c.reply f ebRefused []
  else ((c.reply f ebOk []).btCmd (f.num 0 1)).2

/-- STORE_SETTINGS. -/
def Chip.serveStore (c : Chip) (f : EbFrame) : Chip :=
  if f.takes 0 then
    let (s, c) := c.storeSettings
    c.reply f s []
  else c.reply f ebLength []

/-! ### Debug (R450, R486) -/

/-- A debug command is refused in SCRAPPED, and LOCKED without an unlock in scope; else it is served and raises DEBUG_CMD. -/
def Chip.debug (c : Chip) (scope : Nat) (f : EbFrame) (serve : Chip → Chip) : Chip :=
  if c.dev.se.life = 4 then c.reply f ebRefused []
  else if !(c.dev.debugOpen scope) then c.reply f ebLocked []
  else (serve c).map (fun d => d.raise evMgDebugCmd 0)

/-- DBG_READ. -/
def Chip.serveDbgRead (c : Chip) (kiln : Bool) (f : EbFrame) : Chip :=
  let len := f.num 8 2
  if !(f.takes 10) || decide (4096 < len) then c.reply f ebLength []
  else c.debug 0 f (fun c =>
    if kiln then c.kilnAccess.reply f ebOk (toBytes len 0)
    else
      let (k, d) := c.dev.fresh
      ({ c with dev := d }).reply f ebOk ((upFrom 0 len).map (fun i => Config.debugData k i)))

/-- DBG_WRITE. -/
def Chip.serveDbgWrite (c : Chip) (kiln : Bool) (f : EbFrame) : Chip :=
  if f.payload.length < 8 then c.reply f ebLength []
  else c.debug 1 f (fun c => (if kiln then c.kilnAccess else c).reply f ebOk [])

/-- DBG_CORE: 1 halt, 2 step, 3 resume. -/
def Chip.serveDbgCore (c : Chip) (action : Nat) (f : EbFrame) : Chip :=
  let core := f.num 0 1
  if !(f.takes 2) || decide (3 < core) || decide (f.num 1 1 = 0) || decide (3 < f.num 1 1) then c.reply f ebLength []
  else if f.num 1 1 ≠ action then c
  else c.debug 2 f (fun c =>
    (c.map (fun d => { d with mg := { d.mg with
      cores := Tbl.put .running core (if action = 3 then .running else .halted) d.mg.cores } })).reply f ebOk [])

/-- An opcode that no table lists (R485). -/
def Chip.serveUnknown (c : Chip) (f : EbFrame) : Chip :=
  (c.map (fun d => d.raise evMgOpcodeUnknown 0)).reply f ebOpcode []

/-! ### Every opcode (R486) -/

/-- The opcodes that the catalogue lists. -/
def listedOp (op : Nat) : Bool :=
  [1, 2, 3, 4, 5, 6, 0x10, 0x11, 0x20, 0x30, 0x31, 0x32, 0x33, 0x34, 0x40, 0x41, 0x42, 0x48, 0x49, 0x50, 0x51, 0x52].any
    (fun x => x == op)

/-- A checked frame is served by its opcode. -/
def Chip.serve (x : EbInputs) (f : EbFrame) (c : Chip) : Chip :=
  match f.opcode with
  | 0x01 => c.serveStatus x.ms x.temps f
  | 0x02 => c.serveFaultRead f
  | 0x03 => c.serveTemp x.temps f
  | 0x04 => c.serveSlotOff f
  | 0x05 => c.serveSparge f
  | 0x06 => c.serveResetReq f
  | 0x10 => c.serveRegRead f
  | 0x11 => c.serveRegWrite f
  | 0x20 => c.serveMh f
  | 0x30 => c.serveChallenge f
  | 0x31 => c.serveAttest f
  | 0x32 => c.serveCert f
  | 0x33 => c.serveEnroll f
  | 0x34 => c.serveStatement f
  | 0x40 => c.serveFlashRead x.flashFail f
  | 0x41 => c.serveFlashErase f
  | 0x42 => c.serveFlashWrite f
  | 0x48 => c.serveBootCtl f
  | 0x49 => c.serveStore f
  | 0x50 => c.serveDbgRead x.kiln f
  | 0x51 => c.serveDbgWrite x.kiln f
  | 0x52 => c.serveDbgCore (f.num 1 1) f
  | _ => c.serveUnknown f

/-! ### The end of a sparge (R447, R453, R487) -/

/-- A clean read-back ends the sparge, and what waited for it goes on. -/
def Chip.spargeClean (c : Chip) (why : SpargeFor) : Chip :=
  let d := { c.dev with se := { c.dev.se with sparge := none, kiln := [] } }
  let c : Chip := { c with dev := d.raise evSeSpargeDone 0 }
  let c := match why with
    | .command tag => c.map (fun d => d.ebAnswer (fun w => w.opcode == 5 && w.tag == tag) true ebOk (toBytes 1 0))
    | .transition state owner => (c.burnTransition state owner).map (fun d => d.warmStart)
    | _ => c
  c.map (fun d => d.resetDue)

/-- A nonzero byte in the read-back: the zeros are written again. -/
def Chip.spargeAgain (c : Chip) (why : SpargeFor) : Chip :=
  let c := c.map (fun d => (d.latchSe 7).raise evSeSpargeFail 0)
  match why with
  | .command tag => c.map (fun d =>
      let d := d.ebAnswer (fun w => w.opcode == 5 && w.tag == tag) true ebOk (toBytes 1 1)
      { d with se := { d.se with sparge := some .alarm } })
  | _ => c

/-- SPARGE_DONE: the read-back of a sparge ends. -/
def Chip.spargeDone (c : Chip) (clean : Bool) : Chip :=
  match c.dev.se.sparge with
  | none => c
  | some why => if clean then c.spargeClean why else c.spargeAgain why

end Sys2Proof.Machine
end

