-- ==== Sys2Proof/Machine/I3c.lean ====
section
/-! DEFINITION. The I3C target: responses, in-band interrupts, Hot-Join, the CCCs, the legacy fallback, and MC_ALIVE (R478 to
R484, R488, R491, R492). -/

namespace Sys2Proof.Machine

/-- The target answers the bus (R487, R501). -/
def Dev.i3cUp (d : Dev) : Bool := decide (2 ≤ d.bt.phase) || d.bt.hot

/-- RESPONSE_READ: a private read returns the oldest ready response; the controller may end it early, and MRL ends a longer frame
(R479, R483, R487). -/
def Dev.responseRead (d : Dev) (whole : Bool) : Dev :=
  if !d.i3cUp then d
  else match d.mg.ready with
  | [] => d.emit .i3cNack
  | x :: rest =>
    let d := d.emit (.i3c (x.bytes.take d.mg.mrl))
    if !whole then d
    else
      let d := { d with mg := { d.mg with ready := rest, told := d.mg.told - 1 } }
      let d := if d.mg.mrl < x.bytes.length then (d.latchMg 5 0 0).raise evMgFrameForm 0 else d
      if x.opcode = 6 then d.resetDue else d

/-- IBI_ACK: the controller acknowledges the IBI that was requested; a fault IBI removes one record (R484). -/
def Dev.ibiAck (d : Dev) : Dev :=
  match d.mg.ibiAsked with
  | none => d
  | some b =>
    let d := { d with mg := { d.mg with ibiAsked := none, nacks := 0 } }
    if b = 2 then { d with fe := { d.fe with i3c := d.fe.i3c.drop 1 } }
    else { d with mg := { d.mg with told := d.mg.ready.length } }

/-- IBI_RETRY: IBI_GAP has passed after a NACKed IBI, and the device requests again; the sixteenth NACK in a row is reported
(R484, R492). -/
def Dev.ibiRetry (d : Dev) : Dev :=
  match d.mg.ibiAsked with
  | none => d
  | some _ =>
    let d := { d with mg := { d.mg with ibiAsked := none, nacks := d.mg.nacks + 1 } }
    if d.mg.nacks = 16 then ({ d with mg := { d.mg with nacks := 0 } }).raise evMgIbiNacked 0 else d

/-- HOT_JOIN: the timer's request, with no dynamic address and while ENEC enables it (R478). -/
def Dev.hotJoin (d : Dev) : Dev :=
  if d.i3cUp && d.mg.addr.isNone && !d.mg.hotJoinOff then d.emit .hotJoin else d

/-! ### CCCs (R478, R479) -/

/-- A CCC takes effect while the target answers the bus. -/
def Dev.ccc (d : Dev) (f : Dev → Dev) : Dev := if d.i3cUp then f d else d

/-- A directed CCC, which only a target with a dynamic address answers. -/
def Dev.direct (d : Dev) (f : Dev → Dev) : Dev := d.ccc (fun d => if d.mg.addr.isSome then f d else d.emit .i3cNack)

/-- ENEC and DISEC: bit 0 interrupts, bit 3 Hot-Join. -/
def Dev.events (d : Dev) (bits : Nat) (off : Bool) : Dev :=
  d.ccc (fun d => { d with mg := { d.mg with
    ibiOff := if flag bits 0 then off else d.mg.ibiOff, hotJoinOff := if flag bits 3 then off else d.mg.hotJoinOff } })

/-- A dynamic address is assigned; the legacy fallback ends (R480). -/
def Dev.assign (d : Dev) (addr : Nat) : Dev :=
  ({ d with mg := { d.mg with addr := some (addr % 128), legacy := false } }).raise evMgAddrAssigned 0

/-- RSTDAA. -/
def Dev.rstdaa (d : Dev) : Dev := d.ccc (fun d => { d with mg := { d.mg with addr := none, ibiAsked := none } })

/-- ENTDAA: a target without a dynamic address takes part. -/
def Dev.entdaa (d : Dev) (addr : Nat) : Dev := d.ccc (fun d => if d.mg.addr.isNone then d.assign addr else d)

/-- The static address (R480). -/
def Dev.staticAddr (d : Dev) : Nat := 0x2C + d.bt.straps % 4

/-- SETDASA, which names the static address. -/
def Dev.setdasa (d : Dev) (static addr : Nat) : Dev :=
  d.ccc (fun d => if static = d.staticAddr ∧ d.mg.addr.isNone then d.assign addr else d.emit .i3cNack)

/-- SETNEWDA. -/
def Dev.setnewda (d : Dev) (addr : Nat) : Dev := d.direct (fun d => d.assign addr)

/-- Bytes of a number, the most significant first, as I3C sends them (R3). -/
def toBytesMsb (n v : Nat) : List Byte := (toBytes n v).reverse

/-- GETPID, GETBCR and GETDCR (R479, R490). -/
def Dev.getpid (d : Dev) (n : NvUnit) : Dev := d.direct (fun d => d.emit (.i3c (toBytesMsb 6 (d.pid n))))
def Dev.getbcr (d : Dev) : Dev := d.direct (fun d => d.emit (.i3c [0x26]))
def Dev.getdcr (d : Dev) : Dev := d.direct (fun d => d.emit (.i3c [0x00]))

/-- GETSTATUS and GETMXDS: two bytes whose values no rule gives. -/
def Dev.getstatus (d : Dev) : Dev :=
  d.direct (fun d =>
    let (k, d) := d.fresh
    d.emit (.i3c (toBytesMsb 2 (Config.i3cStatus k))))
def Dev.getmxds (d : Dev) : Dev := d.direct (fun d => d.emit (.i3c (toBytesMsb 2 Config.i3cSpeed)))

/-- SETMWL, GETMWL, SETMRL and GETMRL; the largest IBI payload follows MRL. -/
def Dev.setmwl (d : Dev) (v : Nat) : Dev := d.ccc (fun d => { d with mg := { d.mg with mwl := v % 65536 } })
def Dev.getmwl (d : Dev) : Dev := d.direct (fun d => d.emit (.i3c (toBytesMsb 2 d.mg.mwl)))
def Dev.setmrl (d : Dev) (v : Nat) : Dev := d.ccc (fun d => { d with mg := { d.mg with mrl := v % 65536 } })
def Dev.getmrl (d : Dev) : Dev := d.direct (fun d => d.emit (.i3c (toBytesMsb 2 d.mg.mrl ++ [17])))

/-- RSTACT: 0x00 resets the I3C target alone, 0x01 asks for a warm start (R479). -/
def Dev.rstact (d : Dev) (action : Nat) : Dev :=
  d.direct (fun d =>
    match action with
    | 0 => { d with mg := { d.mg with
        addr := none, legacy := false, ibiOff := false, hotJoinOff := false, mwl := 4108, mrl := 4108, ibiAsked := none,
        nacks := 0 } }
    | 1 => d.resetAsk 1
    | _ => d.emit .i3cNack)

/-! ### The legacy fallback, faults, and MC_ALIVE -/

/-- A transfer at the static address is answered under the fallback (R480). -/
def Dev.legacyOpen (d : Dev) : Bool := d.i3cUp && flag d.bt.straps 2 && d.mg.addr.isNone

/-- LEGACY_I2C: an I2C write that carries a frame, or a read (R480). -/
def Chip.legacyI2c (c : Chip) (write : Option (List Byte)) (x : EbInputs) : Chip :=
  if !c.dev.legacyOpen then c
  else
    let c := if c.dev.mg.legacy then c
      else c.map (fun d => ({ d with mg := { d.mg with legacy := true } }).raise evMgLegacyI2c 0)
    match write with
    | some bytes => c.eboury bytes (fun _ => true) (fun f c => c.serve x f)
    | none => c.map (fun d => d.responseRead true)

/-- BUS_ERROR: an I3C target error condition S0 to S6 (R492). -/
def Dev.busError (d : Dev) : Dev := (d.latchMg 6 0 0).raise evMgBusError 0

/-- ISLAND_PARITY: safety-island state fails its check (R492). -/
def Dev.islandParity (d : Dev) : Dev := (d.latchMg 7 0 0).raise evMgIslandParity 0

/-- Every forwarded request that waits is answered NOT_SERVED (R488). -/
def Dev.dropForwarded (d : Dev) : Nat → Dev
  | 0 => d
  | n + 1 =>
    if d.mg.waits.any (fun w => !(islandOp w.opcode)) then
      ((d.raise evMgNotServed 0).ebAnswer (fun w => !(islandOp w.opcode)) true ebNotServed []).dropForwarded n
    else d

/-- MC_WEDGED: no signal has come for WEDGE_MS (R463, R488). -/
def Dev.mcWedged (d : Dev) : Dev :=
  if d.mg.alive then
    let d := ({ d with mg := { d.mg with alive := false } }).raise evMgMcWedged 0
    (d.dropForwarded d.mg.waits.length).startFailed
  else d

/-- MC_SIGNAL_RETURN (R488). -/
def Dev.mcReturn (d : Dev) : Dev := if 9 ≤ d.bt.phase then { d with mg := { d.mg with alive := true } } else d

end Sys2Proof.Machine
end

