-- ==== Sys2Proof/Machine/Tick.lean ====
section
/-! DEFINITION. The tick boundary: the end of a tick with its deferred work, and the fixed work of every block at the start of
the next (R31, R48, R49, R510); what the device's own checks report. -/

namespace Sys2Proof.Machine

/-! ### Findings -/

/-- A bit of a table entry flips (R202, R517). -/
def Dev.tableFlip (d : Dev) (other : Bool) (node place : Nat) : Dev :=
  let flip (t : Tbl Nat) : Tbl Nat := Tbl.upd 0 node (fun w => w ^^^ 2 ^ place) t
  if other then { d with rt := { d.rt with shadow := flip d.rt.shadow } }
  else { d with rt := { d.rt with active := flip d.rt.active } }

/-- What a finding does. A refused Kiln access is the chip's, since it counts a violation. -/
def Dev.found (d : Dev) (f : Finding) : Dev :=
  match f with
  | .cacheParity cache n => d.cacheParity cache n
  | .recordParity => d.raise evTpRecordParity 0
  | .matchParity ep => ((d.latch rMxErrLatch (pack [(16, ep), (18, 0), (4, 3)])).raise evMxMatchParity ep).fenceEp ep 13
  | .reserveParity g => d.rlParity g
  | .tableFlip other node n => d.tableFlip other node n
  | .cellCorrected => d.raise evTnCellEcc 0
  | .cellUncorr n => d.cellUncorr n
  | .cellAccount p c => d.cellAccount p c
  | .bankWait p c => d.bankWait p c
  | .flowParity n => d.flowParity n
  | .schedParity o => d.schedParity o
  | .retryHigh k => d.raise evCxLinkRetryHigh (256 + k)
  | .lineCorrected => d.raise evWnCacheEcc 0
  | .lineUncorr w line => d.lineError w line
  | .tagParity w line => d.tagError w line
  | .lockParity g => (d.raise evLsLockParity g).fenceLockGroup g
  | .scratchWait => d.scratchAccess
  | .accessWake k => d.registerAccess k
  | .domainWork k => d.workVote k
  | .keyParity n => d.keyParity n
  | .kilnRefused => d
  | .counterParity n => d.pcFaultNow n
  | .retainedBad => { d with bt := { d.bt with retainBad := true } }
  | .coreWork n => { d with pd := { d.pd with work := n } }
  | .eventBus ep => d.ringBus ep none
  | .controlBus h => d.ctrlBus h 0
  | .dataBus n => match d.msg n with
    | some m => d.endMsg m stLocalBus 0 0 []
    | none => d
  | .copyBus n => d.busOwed (.copy n)
  | .contribBus ep index lap => d.busOwed (.contrib ep index lap)
  | .resultBus g step member => d.busOwed (.result g step member)
  | .caskBus ep => d.caskBus ep
  | .hostRead path bytes => d.hostReads path bytes

/-! ### The end of a tick (R49) -/

/-- An activity holds deferred work at the end of a tick: rounds of the score exchange or the audit that are left, sets that the
sweep has not passed, or due work while the quota is used up (R49). -/
def Dev.deferred (d : Dev) (a : Nat) : Bool :=
  if a = actScore ∨ a = actAudit then !(Tbl.get [] d.st.owedRest a).isEmpty || decide (Tbl.get 0 d.st.owedTicks a ≠ 0)
  else if a = actAgeing then decide (d.sweepPast < d.sweepDue)
  else !(d.quotaLeft a) &&
    (if a = actRelay then d.rl.due.any d.rlReady
     else if a = actExpiry then d.tp.recs.any d.recDue
     else if a = actLease then d.ls.locks.any (fun (l : Nat × LockCell) => d.leaseDue l.2)
     else false)

/-- The end of a tick for an activity: its bit, TICK_OVERRUN and its run (R49). -/
def Dev.overrunAt (a : Nat) (d : Dev) : Dev :=
  if d.deferred a then
    let run := Tbl.get 0 d.st.deferRun a + 1
    let owed := if run = 64 then Tbl.put false a true d.st.persistOwed else d.st.persistOwed
    (({ d with st := { d.st with deferRun := Tbl.put 0 a run d.st.deferRun, persistOwed := owed } }).wrFld rStOverrunStatus a 1
      1).raise evStTickOverrun 0
  else { d with st := { d.st with deferRun := Tbl.put 0 a 0 d.st.deferRun } }

/-- The activities whose work can be deferred (R48). -/
def deferrable : List Nat := [actScore, actAudit, actRelay, actAgeing, actExpiry, actLease]

/-- The end of a tick: what is deferred, and the ageing sweep goes on (R49, R104, R510). -/
def Dev.tickEnd (d : Dev) : Dev := (forEach deferrable Dev.overrunAt d).sweepOn d.st.passed

/-! ### The boundary -/

/-- Network time reaches the next multiple of P, and the next tick begins (R31). -/
def Dev.nextTick (d : Dev) : Dev :=
  let t := (d.st.ns / d.period + 1) * d.period % 2 ^ 64
  { d with
    st := { d.st with ns := t, frac := 0, tick := t / d.period % 2 ^ 48, boundaries := d.st.boundaries + 1, quotaUsed := [] },
    tn := { d.tn with threshHit := [] },
    cx := { d.cx with
      ports := forEach (Tbl.keys d.cx.ports) (fun k t => Tbl.upd {} k (fun (p : CxPort) => { p with timeouts := 0 }) t) d.cx.ports } }

/-- T fields written in the tick that ended take effect; FORCE_ON_ACTIVE, and what a write of PC_SAMP_CTL restarts (R7, R10,
R423, R431). -/
def Dev.takeStagedFields (d : Dev) : Dev :=
  let on := flag (d.rd rPdCtl) 0
  let restart := (Tbl.get none d.staged (rPcSampCtl.key 0 0)).isSome
  let d := d.mergeStaged
  (d.raiseIf (!on && flag (d.rd rPdCtl) 0) evPdForceOnActive 0).sampleBoundary restart

/-- Each trained fabric port sends its time message, and its neighbour offset goes to its register (R34, R35). -/
def Dev.exchangeTime (d : Dev) : Dev :=
  forEach ((Tbl.keys d.map).filter (fun p => d.portUp p)) (fun p (d : Dev) => Dev.noteOffset p (Dev.sendTime p d)) d

/-- What is measured over the tick that ended, and the idle flits it saw (R251, R279, R283, R285, R357, R358, R360). -/
def Dev.measure (d : Dev) (x : TickIn) : Dev :=
  let d := forEach x.idle (fun i (d : Dev) => d.sendIdle i.1 i.2) d
  let d := forEach x.slots (fun m (d : Dev) => d.slotMeasure m.1 m.2) d
  let d := forEach (upFrom 0 4) (fun g (d : Dev) => d.groupTick g) d
  let d := forEach x.refs (fun r (d : Dev) => d.refMeasure r.1 r.2) d
  let d := forEach x.prbs (fun r (d : Dev) => d.prbsErrors r.1 r.2) d
  forEach x.eyes (fun r (d : Dev) => d.wr rLnEye (r.2 % 2 ^ 64) 0 r.1) d

/-- The fixed work of every block at the start of a tick, in the order of the budget table (R48). -/
def Dev.tickWork (d : Dev) (x : TickIn) : Dev :=
  let d := d.exchangeTime.timeTick
  let d := d.graceTick.sendScores.sendAudits
  let d := forEach (Tbl.keys d.lk.ports) (fun p (d : Dev) => d.linkTick p) d
  let d := forEach d.outputs (fun o (d : Dev) => d.schedTick o) d
  let d := (d.forcedTick.laneTick).measure x
  (d.twinTick x.twWedged).sinkBoundary

/-- TICK_BOUNDARY for the device: nothing happens without power. The counters are captured as they stand at the boundary, before what
it counts itself (R419). -/
def Dev.tickBoundary (d : Dev) (x : TickIn) : Dev :=
  if d.bt.phase = 0 then d
  else
    let d := (((d.tickEnd.nextTick).snapshot d).takeStagedFields).tickWork x
    forEach x.findings (fun f (d : Dev) => d.found f) { d with st := { d.st with passed := 0 } }

/-- TICK_BOUNDARY: the device's part, and a violation for each refused Kiln access (R31, R451). -/
def Chip.tickBoundary (c : Chip) (x : TickIn) : Chip :=
  let c := c.map (fun d => d.tickBoundary x)
  if c.dev.bt.phase = 0 then c
  else forEach (x.findings.filter (fun f => decide (f = .kilnRefused))) (fun _ (c : Chip) => c.kilnAccess) c

end Sys2Proof.Machine
end

