-- ==== Sys2Proof/Machine/Run.lean ====
section
/-! DEFINITION. How a command runs: the frame that every meaning shares, register writes and reads by a management core and by
hosts, and the things a command names (R4, R8, R57, R77, R491). -/

namespace Sys2Proof.Machine

/-! ### The frame -/

/-- Run an operation of the chip: what the last command sent out is gone, the operation acts, and what follows from it within
the step follows. -/
def runChip (s : State) (f : Chip → Chip) : Host.Outcome State Fault Refusal :=
  let c := f { s.chip with dev := { s.chip.dev with out := [] } }
  .next { s with chip := { c with dev := c.dev.settle } }

/-- Run an operation of the device alone: fuses, NVM and flash stay as they are. -/
def runDev (s : State) (f : Dev → Dev) : Host.Outcome State Fault Refusal :=
  .next { s with chip := { s.chip with dev := (f { s.chip.dev with out := [] }).settle } }

/-! ### Registers -/

/-- Management cores reach the control space once the device is RUNNING or in safe mode (R4, R458). -/
def Dev.coreDo (d : Dev) (f : Dev → Dev) : Dev := if 9 ≤ d.bt.phase then f d else d

/-- A management core writes element `i` of a register. -/
def Dev.coreWrite (d : Dev) (r : Reg) (i value : Nat) : Dev :=
  d.coreDo (fun d => if i < r.count1 * r.count2 then d.regWrite r i (value % 2 ^ r.width) else d)

/-- A host writes a register of a doorbell page. -/
def Dev.epWrite (d : Dev) (h ep : Nat) (r : Reg) (value : Nat) : Dev :=
  d.doorPage h ep r.base (r.width / 8) (value % 2 ^ r.width)

/-- A host writes element `i` of a register of its control page. -/
def Dev.fnWrite (d : Dev) (h : Nat) (r : Reg) (i value : Nat) : Dev :=
  d.ctrlPage h (r.base + r.stride1 * i) (r.width / 8) (value % 2 ^ r.width)

/-- REGISTER_WRITE: a write of `bytes` bytes at an address, on a path (R4, R8, R57, R77). -/
def Chip.registerWrite (c : Chip) (path : RegPath) (bytes value : Nat) : Chip :=
  let value := value % 2 ^ (8 * bytes)
  match path with
  | .core addr => if 9 ≤ c.dev.bt.phase then (c.ctlWrite 1 addr bytes value).2 else c
  | .control h off => c.map (fun d => d.ctrlPage h off bytes value)
  | .door h ep off => c.map (fun d => d.doorPage h ep off bytes value)

/-- A read of PC_SAMP_STATUS returns LOST and SKIPPED and clears them (R428). -/
def Dev.sampStatusRead (d : Dev) : Dev :=
  let d := d.answer d.sampleStatus
  { d with pc := { d.pc with lost := 0, skipped := 0 } }

/-- A function reset (R81). -/
def Dev.functionReset (d : Dev) (via : ResetFrom) (h : Nat) : Dev :=
  match via with
  | .page => d.fnWrite h rFnReset 0 1
  | .management => d.coreWrite rHqFnReset 0 (h + 2 ^ 31)
  | .cxlIo => d.resetFn h

/-! ### What a command names -/

/-- The command of a ring position. -/
def Dev.onCmd (d : Dev) (ep index : Nat) (lap : Bool) (f : Dev → Cmd → Dev) : Dev :=
  match d.findCmd ep index lap with
  | some c => f d c
  | none => d

/-- The message in flight of a MSG_ID. -/
def Dev.onMsg (d : Dev) (id : Nat) (f : Dev → Msg → Dev) : Dev :=
  match d.msgNamed id with
  | some m => f d m
  | none => d

/-- The Relay message of the model's own number. -/
def Dev.onRlMsg (d : Dev) (num : Nat) (f : Dev → RlMsg → Dev) : Dev :=
  match firstThat d.rl.msgs (fun m => m.num == num) with
  | some m => f d m
  | none => d

/-- The target record of a source node, MSG_ID and first-send tick. -/
def Dev.onRec (d : Dev) (node id fst : Nat) (f : Dev → TgtRec → Dev) : Dev :=
  match d.findRec node id fst with
  | some r => f d r
  | none => d

/-- BACKOFF_EXPIRY: the hint of a NACK, or of an RL_NACK, has passed for the message of a MSG_ID (R138, R191). -/
def Dev.backoffOver (d : Dev) (id : Nat) : Dev :=
  match d.msgNamed id with
  | some m => d.backoffEnd m
  | none =>
    match firstThat d.rl.msgs (fun m => m.id == some id) with
    | some m => d.rlBackoffEnd m
    | none => d

/-- UNEXP_COPY_DONE: the copy of an unexpected message that waits is made (R154). -/
def Dev.copyNow (d : Dev) (num : Nat) : Dev :=
  if d.mx.copies.contains num then
    match d.hdr num with
    | some u => (match u.bound with | some b => d.copyRun u b {} | none => d)
    | none => d
  else d

/-- A packet of a type arrives. -/
def Dev.ofType (d : Dev) (p : Packet) (type : Nat) (f : Dev → Dev) : Dev := if hType p.hdr = type then f d else d

/-- A bypass message is delivered apart from its flit, to a port in UP (R257, R265). -/
def Dev.bypAlone (d : Dev) (p : Nat) (f : Dev → Dev) : Dev := if (d.lkPort p).state = .up then f d else d

/-- What a control entry does, by its opcode (R79). -/
def Dev.ctrlAct (d : Dev) (h e : Nat) (copyErr : Bool) : Nat × Dev :=
  match entOpcode e with
  | 0x40 => d.createEp h e
  | 0x41 => d.destroyCmd h e
  | 0x42 => d.modifyEp h e
  | _ => d.queryEp h e copyErr

/-- A control entry arrives, `err` with a bus error; `copyErr`: the write of QUERY_EP's copy meets one (R79, R80). -/
def Dev.ctrlArrive (d : Dev) (h e : Nat) (err copyErr : Bool) : Dev :=
  d.ctrlEntry h e err (fun d => d.ctrlAct h e copyErr)

/-- MAINTENANCE_ENTRY: entries join their queues, a malformed one marked, and the queue set is served once (R86). -/
def Dev.mqRun (d : Dev) (entries : List (Nat × Bool)) : Dev := (forEach entries (fun e (d : Dev) => d.mqPut e.1 e.2) d).mqServe

/-- A Malthouse request comes (R314, R486). -/
def Chip.malthouse (c : Chip) (via : MhFrom) : Chip :=
  match via with
  | .queue q w => c.map (fun d => d.mhRequest q w)
  | .frame bytes => c.eboury bytes (fun op => op == 0x20) (fun f c => c.serveMh f)

/-- A BT command comes: BT_CMD, or BOOT_CTL and STORE_SETTINGS of Eboury (R473, R476, R486). -/
def Chip.btCommand (c : Chip) (via : BtFrom) : Chip :=
  match via with
  | .core value => if 9 ≤ c.dev.bt.phase then (c.ctlWrite 1 rBtCmd.base 4 (value % 2 ^ 32)).2 else c
  | .frame bytes =>
    c.eboury bytes (fun op => op == 0x48 || op == 0x49) (fun f c => if f.opcode = 0x48 then c.serveBootCtl f else c.serveStore f)

end Sys2Proof.Machine
end

