-- ==== Sys2Proof/WellFormed.lean ====
section
/-! DEFINITION. Which commands exist: the operands of a command lie in the ranges the spec gives them, and a packet, an entry, a
frame or a written word is one that the command of its row names. A command outside it has a meaning too; nothing sends it. -/

namespace Sys2Proof

open Machine

/-- Bytes of a register access: 1 to 8, and an address they fit (R4, R57). -/
def pathOk (path : RegPath) (bytes value : Nat) : Bool :=
  decide (1 ≤ bytes) && decide (bytes ≤ 8) && decide (value < 2 ^ (8 * bytes))
    && (match path with
        | .core addr => decide (addr < 2 ^ 32)
        | .control h off => decide (h < 32) && decide (off < 4096)
        | .door h ep off => decide (h < 32) && decide (ep < 65536) && decide (off < 4096))

/-- The samples of a tick name what exists. -/
def tickInOk (x : TickIn) : Bool :=
  x.slots.all (fun m => decide (m.1 < 32)) && x.refs.all (fun r => decide (r.1 < 4) && decide (r.2 < 2 ^ 16))
    && x.prbs.all (fun r => decide (r.1 < 256)) && x.eyes.all (fun r => decide (r.1 < 256) && decide (r.2 < 2 ^ 64))
    && x.idle.all (fun r => decide (r.1 < 256))

/-- A command entry of an endpoint, with the words of its fragment table (R59, R65). -/
def entryOk (ep entry : Nat) (frags : List Nat) : Bool :=
  decide (ep < 65536) && decide (entry < 2 ^ 512) && frags.all (fun f => decide (f < 2 ^ 128)) && decide (frags.length ≤ 256)

/-- A control entry of a function (R78). -/
def ctrlEntryOk (h entry : Nat) : Bool := decide (h < 32) && decide (entry < 2 ^ 512)

/-- The name of a target record. -/
def recOk (node id fst : Nat) : Bool := decide (node < 2 ^ 18) && decide (id < 2 ^ 32) && decide (fst < 2 ^ 16)

/-- A packet as a port delivers it: a header and at most 4,096 bytes (R121, R122). -/
def packetOk (p : Packet) : Bool :=
  decide (p.port < 304) && decide (p.tc < 8) && decide (p.payload.length ≤ 4096) && decide (p.crc < 2 ^ 32)

/-- A type that no other command brings: a request, or an unlisted one. -/
def requestType (p : Packet) : Bool :=
  let t := hType p.hdr
  decide (t ≠ tyFin) && decide (t ≠ tyLsReq) && decide (t ≠ tyLsGrant) && decide (t ≠ tyWnFill) && decide (t ≠ tyWnWrite)
    && decide (t ≠ tyAck) && decide (t ≠ tyGetResp) && decide (t ≠ tyNack) && decide (t ≠ tyRlUp) && decide (t ≠ tyRlDown)
    && decide (t ≠ tyRlAck) && decide (t ≠ tyRlNack) && decide (t ≠ tyRlAbort) && decide (t ≠ tyRlProbe)
    && decide (t ≠ tyRlProbeAck)

/-- A byte of a frame; the opcode; CMD of a statement it carries. -/
def ebByte (bytes : List Byte) (n : Nat) : Nat := (bytes.getD n 0).toNat
def ebOpcode (bytes : List Byte) : Nat := ebByte bytes 0
def ebCmd (bytes : List Byte) : Nat := stCmd (ofBytes ((bytes.drop 8).take 96))

/-- A frame that a write can carry (R482). -/
def ebFrameOk (bytes : List Byte) : Bool := decide (bytes.length ≤ 65535)

/-- A Malthouse request of an operation (R314, R486). -/
def mhFromOk (via : MhFrom) (p : Nat → Bool) : Bool :=
  match via with
  | .queue q w => decide (q < 16) && decide (w < 2 ^ 256) && p w
  | .frame bytes => ebFrameOk bytes && decide (ebOpcode bytes = 0x20) && p (ofBytes ((bytes.drop 8).take 32))

/-- A BT command (R476, R486). -/
def btFromOk (via : BtFrom) : Bool :=
  match via with
  | .core value => decide (value < 2 ^ 32)
  | .frame bytes => ebFrameOk bytes && (decide (ebOpcode bytes = 0x48) || decide (ebOpcode bytes = 0x49))


/-- The operands of a command. -/
def Instr.wf (i : Instr) : Bool :=
  match i with
  | .tickBoundary x => tickInOk x
  | .overrunPersist activity => decide (activity < 12)
  | .registerWrite path bytes value => pathOk path bytes value
  | .timeMessage p w _ => decide (p < 256) && decide (w < 2 ^ 320)
  | .lockAcquired => true
  | .parentSilent => true
  | .holdoverTimeout => true
  | .tickInEdge e => decide (e.at_ < 2 ^ 64)
  | .tickinLost => true
  | .rootSecondsArm value => decide (value < 2 ^ 64)
  | .skewRestored => true
  | .notLockedExpiry ep index _ => decide (ep < 65536) && decide (index < 65536)
  | .selfMsgNotLocked _ _ => true
  | .commandDoorbell h ep value => decide (h < 32) && decide (ep < 65536) && decide (value < 2 ^ 64)
  | .eventDoorbell h ep value => decide (h < 32) && decide (ep < 65536) && decide (value < 2 ^ 64)
  | .interruptArm h ep value => decide (h < 32) && decide (ep < 65536) && decide (value < 2 ^ 64) && flag value 17
  | .endpointEnable h ep value => decide (h < 32) && decide (ep < 65536) && decide (value < 2 ^ 32) && flag value 0
  | .endpointDisable h ep value => decide (h < 32) && decide (ep < 65536) && decide (value < 2 ^ 32) && !(flag value 0)
  | .ringResume h ep value => decide (h < 32) && decide (ep < 65536) && decide (value < 2 ^ 32) && flag value 1
  | .lapReread ring => decide (ring < 0x10020)
  | .nop ep entry frags _ => entryOk ep entry frags && (decide (entOpcode entry = 0) || !(opcodeListed (entOpcode entry)))
  | .put ep entry frags _ => entryOk ep entry frags && decide (entOpcode entry = 1)
  | .get ep entry frags _ => entryOk ep entry frags && decide (entOpcode entry = 2)
  | .send ep entry frags _ => entryOk ep entry frags && decide (entOpcode entry = 3)
  | .atomic ep entry frags _ => entryOk ep entry frags && decide (entOpcode entry = 4)
  | .putSignal ep entry frags _ => entryOk ep entry frags && decide (entOpcode entry = 5)
  | .controlDoorbell h value => decide (h < 32) && decide (value < 2 ^ 64)
  | .controlEventDoorbell h value => decide (h < 32) && decide (value < 2 ^ 64)
  | .createEp h entry _ => ctrlEntryOk h entry && (decide (entOpcode entry = 0x40) || decide (entOpcode entry < 0x40) ||
      decide (0x43 < entOpcode entry))
  | .destroyEp h entry _ => ctrlEntryOk h entry && decide (entOpcode entry = 0x41)
  | .modifyEp h entry _ => ctrlEntryOk h entry && decide (entOpcode entry = 0x42)
  | .queryEp h entry _ _ => ctrlEntryOk h entry && decide (entOpcode entry = 0x43)
  | .functionReset _ h => decide (h < 32)
  | .caskFetchDone ep _ => decide (ep < 65536)
  | .caskSlow ep => decide (ep < 65536)
  | .maintenanceEntry entries => entries.all (fun e => decide (e.1 < 16))
  | .mqStall queue => decide (queue < 16)
  | .incompletePosted node id fst => recOk node id fst
  | .tableWalkRead _ _ data _ => decide (data < 2 ^ 512)
  | .translationAgeOut _ => true
  | .invalidateRange h value => decide (h < 32) && decide (value < 2 ^ 64) && decide (field value 0 2 = 0)
  | .invalidateTag h value => decide (h < 32) && decide (value < 2 ^ 64) && decide (field value 0 2 = 1)
  | .invalidateFunction h value => decide (h < 32) && decide (value < 2 ^ 64) && decide (field value 0 2 = 2)
  | .invalidateDevice value => decide (value < 2 ^ 64) && decide (field value 0 2 = 3)
  | .invDone unit_ => decide (unit_ ≤ 32)
  | .invSlow unit_ => decide (unit_ ≤ 32)
  | .pageResume h ep value => decide (h < 32) && decide (ep < 65536) && decide (value < 2 ^ 64) && !(flag value 12)
  | .pageFail h ep value => decide (h < 32) && decide (ep < 65536) && decide (value < 2 ^ 64) && flag value 12
  | .prqTimeout id => decide (id < 4096)
  | .pageFailedExpiry id => decide (id < 4096)
  | .messageFirstSend node => decide (node < 2 ^ 18)
  | .requestArrival p => packetOk p && requestType p
  | .ackArrival p => packetOk p && decide (hType p.hdr = tyAck)
  | .getRespArrival p => packetOk p && decide (hType p.hdr = tyGetResp)
  | .nackArrival p => packetOk p && decide (hType p.hdr = tyNack)
  | .retransmitTimeout id => decide (id < 2 ^ 32)
  | .backoffExpiry id => decide (id < 2 ^ 32)
  | .messageLifetimeExpiry id => decide (id < 2 ^ 32)
  | .recordExpiry node id fst => recOk node id fst
  | .postRecv ep entry frags _ => entryOk ep entry frags && decide (entOpcode entry = 0x10)
  | .cancelRecv ep entry frags _ => entryOk ep entry frags && decide (entOpcode entry = 0x11)
  | .setUbuf ep entry frags _ => entryOk ep entry frags && decide (entOpcode entry = 0x12)
  | .cancelAll ep entry frags _ => entryOk ep entry frags && decide (entOpcode entry = 0x13)
  | .unexpCopyDone _ => true
  | .fin p => packetOk p && decide (hType p.hdr = tyFin)
  | .rdvExpired ep index _ => decide (ep < 65536) && decide (index < 65536)
  | .groupEnable value => decide (value < 2 ^ 32) && decide (field value 0 2 = 1)
  | .groupDisable value => decide (value < 2 ^ 32) && decide (field value 0 2 = 2)
  | .groupAbortCmd value => decide (value < 2 ^ 32) && decide (field value 0 2 = 3)
  | .allreduce ep entry frags data _ => entryOk ep entry frags && decide (entOpcode entry = 0x18) && decide (data.length ≤
      4096)
  | .reduce ep entry frags data _ => entryOk ep entry frags && decide (entOpcode entry = 0x19) && decide (data.length ≤
      4096)
  | .barrier ep entry frags data _ => entryOk ep entry frags && decide (entOpcode entry = 0x1A) && decide (data.length ≤
      4096)
  | .collAbort ep entry frags data _ => entryOk ep entry frags && decide (entOpcode entry = 0x1B) && decide (data.length ≤
      4096)
  | .stepClose => true
  | .rlUp p => packetOk p && decide (hType p.hdr = tyRlUp)
  | .rlDown p => packetOk p && decide (hType p.hdr = tyRlDown)
  | .rlAck p => packetOk p && decide (hType p.hdr = tyRlAck)
  | .rlNack p => packetOk p && decide (hType p.hdr = tyRlNack)
  | .rlRetransmit _ => true
  | .probeInterval group peer => decide (group < 4096) && decide (peer ≤ 256)
  | .rlProbe p => packetOk p && decide (hType p.hdr = tyRlProbe)
  | .rlProbeAck p => packetOk p && decide (hType p.hdr = tyRlProbeAck)
  | .rlAbort p => packetOk p && decide (hType p.hdr = tyRlAbort)
  | .abortAtBoundary group => decide (group < 4096)
  | .epochArm value => decide (value < 2 ^ 64) && flag value 63
  | .epochCancel value => decide (value < 2 ^ 64) && flag value 62
  | .epochSwitch => true
  | .epochGraceEnd => true
  | .shadowClear value => decide (value < 2 ^ 32) && decide (field value 0 2 = 1)
  | .shadowCopy value => decide (value < 2 ^ 32) && decide (field value 0 2 = 2)
  | .shadowCmdDone => true
  | .tableWrite value => decide (value < 2 ^ 64)
  | .tableRead => true
  | .scoreMessage p w => decide (p < 256) && decide (w < 2 ^ 128)
  | .scoreStale p => decide (p < 256)
  | .escTimeout p tc => decide (p < 256) && decide (tc < 8)
  | .respDiscard => true
  | .admitWait input => decide (input < 308)
  | .flitReceive p _ w _ _ => decide (p < 256) && decide (w < 2 ^ 1024)
  | .schedulerDecision output _ _ => decide (output < 304)
  | .captureCopy session _ => decide (session < 4)
  | .captureConsumerWrite h session value => decide (h < 32) && decide (session < 4) && decide (value < 2 ^ 64)
  | .sessionDisable session value => decide (session < 4) && decide (value < 2 ^ 64) && !(flag value 0)
  | .tnPeakRead => true
  | .sesLostRead session => decide (session < 4)
  | .controlFlit p w => decide (p < 256) && decide (w < 2 ^ 1024)
  | .bypassFlit p _ w _ _ => decide (p < 256) && decide (w < 2 ^ 1024)
  | .creditAudit p w => decide (p < 256) && decide (w < 2 ^ 512)
  | .auditPersist p => decide (p < 256)
  | .peerSilent p => decide (p < 256)
  | .creditTimeout p => decide (p < 256)
  | .portRetrain p value => decide (p < 256) && decide (value < 2 ^ 32) && flag value 1
  | .portEnable p value => decide (p < 256) && decide (value < 2 ^ 32)
  | .portHold p value => decide (p < 256) && decide (value < 2 ^ 32)
  | .holddownEnd p => decide (p < 256)
  | .hello p w => decide (p < 256) && decide (w < 2 ^ 128)
  | .fillerBlock l _ _ _ levels => decide (l < 256) && levels.all (fun v => decide (v < 4))
  | .codewordReceive l _ => decide (l < 256)
  | .refLost r => decide (r < 4)
  | .trainTimeout p => decide (p < 256)
  | .prbsLockLost l => decide (l < 256)
  | .fecSymRead => true
  | .fecCwRead => true
  | .fecUncorrRead => true
  | .prbsErrRead => true
  | .fabricD2dFault tile => decide (tile < 4)
  | .cxlD2dFault tile => decide (tile < 2)
  | .gateSwitchArm value => decide (value < 2 ^ 64) && flag value 63
  | .gateSwitch output => decide (output < 304)
  | .gateEntryChange output _ => decide (output < 304)
  | .paceSlot _ => true
  | .ageBurst output tc => decide (output < 304) && decide (tc < 8)
  | .escHeld p tc => decide (p < 256) && decide (tc < 8)
  | .cxlMemRequest k tc _ _ => decide (k < 48) && decide (tc < 8)
  | .cxlIoRequest k _ => decide (k < 48)
  | .cxlMemResponse q _ _ tc _ _ _ => decide (q < 48) && decide (tc < 8)
  | .memTimeout k _ _ => decide (k < 48)
  | .bind from_ => mhFromOk from_ (fun w => decide (mhOp w ≤ 1) || decide (5 < mhOp w))
  | .unbind from_ => mhFromOk from_ (fun w => decide (mhOp w = 2))
  | .ldAlloc from_ => mhFromOk from_ (fun w => decide (mhOp w = 3))
  | .dcAdd from_ => mhFromOk from_ (fun w => decide (mhOp w = 4))
  | .dcRelease from_ => mhFromOk from_ (fun w => decide (mhOp w = 5))
  | .bindingApply queue _ => decide (queue < 16)
  | .unbindHostAction h v => decide (h < 32) && decide (v < 128)
  | .unbindTimeout h v => decide (h < 32) && decide (v < 128)
  | .dcHostResponse h action _ _ _ _ => decide (h < 32) && decide (action < 3)
  | .dcTimeout h => decide (h < 32)
  | .surpriseRemoval k _ => decide (k < 48)
  | .containmentUnbind k => decide (k < 48)
  | .cxlPortTrained k _ => decide (k < 48)
  | .hostDown k => decide (k < 48)
  | .containClear k value => decide (k < 48) && decide (value < 2 ^ 32) && flag value 1
  | .windowRead host _ _ => decide (host < 32)
  | .windowWrite host _ _ mask data => decide (host < 32) && decide (mask < 2 ^ 64) && decide (data < 2 ^ 512)
  | .fillResponse p => packetOk p && decide (hType p.hdr = tyGetResp)
  | .readTimeout host _ => decide (host < 32)
  | .wbDelayExpiry window _ => decide (window < 256)
  | .wnFlushRange h value => decide (h < 32) && decide (value < 2 ^ 64) && decide (field value 0 2 = 0)
  | .wnFlushWindow h value => decide (h < 32) && decide (value < 2 ^ 64) && decide (field value 0 2 = 1)
  | .wnFlushFunction h value => decide (h < 32) && decide (value < 2 ^ 64) && decide (field value 0 2 = 2)
  | .flushDone h => decide (h < 32)
  | .windowEnable value => decide (value < 2 ^ 32) && decide (field value 0 2 = 1)
  | .windowDisable value => decide (value < 2 ^ 32) && decide (field value 0 2 = 2)
  | .windowFlush value => decide (value < 2 ^ 32) && decide (field value 0 2 = 3)
  | .drainDone window => decide (window < 256)
  | .msgWait _ => true
  | .wnFill p => packetOk p && decide (hType p.hdr = tyWnFill)
  | .wnWrite p => packetOk p && decide (hType p.hdr = tyWnWrite)
  | .slotEnPin slot _ => decide (slot < 32)
  | .slotCmdEn slot value => decide (slot < 32) && decide (value < 2 ^ 32) && !(flag value 1)
  | .slotOffNow slot value => decide (slot < 32) && decide (value < 2 ^ 32) && flag value 1
  | .slotOn slot fault => decide (slot < 32) && decide (fault ≤ 4)
  | .rampTimeout slot => decide (slot < 32)
  | .overcurrentTrip slot => decide (slot < 32)
  | .shortTrip slot => decide (slot < 32)
  | .outputUv slot => decide (slot < 32)
  | .gateFault slot => decide (slot < 32)
  | .warnLeadExpiry slot => decide (slot < 32)
  | .feedLost group _ => decide (group < 4)
  | .oringReverse bulk num _ => decide (num < if bulk then 4 else 32)
  | .inputWarn slot => decide (slot < 32)
  | .feedTrim group _ _ => decide (group < 4)
  | .feedImbalance group => decide (group < 4)
  | .feedGroupTrip group => decide (group < 4)
  | .feedGroupClear group value => decide (group < 4) && decide (value < 2 ^ 32) && flag value 0
  | .twinHeartbeat p w _ => decide (p < 256) && decide (w < 2 ^ 512)
  | .heartbeatMissLimit => true
  | .selfFence => true
  | .twinProbe p w => decide (p < 256) && decide (w < 2 ^ 128)
  | .probeWaitExpiry _ => true
  | .mirrorRecord p w => decide (p < 256) && decide (w < 2 ^ 512)
  | .mirrorApply seq => decide (seq < 2 ^ 32)
  | .mirrorCancel seq => decide (seq < 2 ^ 32)
  | .aloneWaitExpiry _ => true
  | .giveBack value => decide (value < 2 ^ 64) && flag value 62
  | .handover value => decide (value < 2 ^ 64) && flag value 63
  | .twinCmdApply _ => true
  | .lockAcquire ep entry frags _ => entryOk ep entry frags && decide (entOpcode entry = 8)
  | .lockRelease ep entry frags _ => entryOk ep entry frags && decide (entOpcode entry = 9)
  | .lockRenew ep entry frags _ => entryOk ep entry frags && decide (entOpcode entry = 0xA)
  | .lockCancel ep entry frags _ => entryOk ep entry frags && decide (entOpcode entry = 0xB)
  | .lsReq p => packetOk p && decide (hType p.hdr = tyLsReq)
  | .lsGrant p => packetOk p && decide (hType p.hdr = tyLsGrant)
  | .leaseLapse lock => decide (lock < 4096)
  | .forceRelease value => decide (value < 2 ^ 32) && flag value 0
  | .mirrorWait lock => decide (lock < 4096)
  | .forceEvent source value => decide (source < 320) && decide (value < 2 ^ 32) && flag value 3
  | .latchClear sev value => decide (sev < 4) && decide (value < 2 ^ 64) && flag value 63
  | .pendClear k value => decide (k < 5) && decide (value < 2 ^ 64)
  | .fenceRelease value => decide (value < 2 ^ 32) && flag value 31
  | .fatalRestart => true
  | .errPulseEnd => true
  | .errRepeatPulse => true
  | .errHold value => decide (value < 2 ^ 32) && !(flag value 1)
  | .errAssert value => decide (value < 2 ^ 32) && flag value 1
  | .errPulsesRead => true
  | .deliveryFollowup => true
  | .histPop => true
  | .sampleConsumerWrite value => decide (value < 2 ^ 32)
  | .sampStatusRead => true
  | .pdVote value => decide (value < 2 ^ 32)
  | .domainIdleExpiry k => decide (k < 11)
  | .domainEntryDone k => decide (k < 11)
  | .domWake k _ _ => decide (k < 11)
  | .holdLong k => decide (k < 11)
  | .domStuck k => decide (k < 11)
  | .biasFault k => decide (k < 11)
  | .assistFault k => decide (k < 11)
  | .railUv k => decide (k < 11)
  | .pdParity k => decide (k < 11)
  | .seChallenge bytes => ebFrameOk bytes && (fun op => op == 0x30) (ebOpcode bytes)
  | .attest bytes => ebFrameOk bytes && (fun op => op == 0x31) (ebOpcode bytes)
  | .certRead bytes => ebFrameOk bytes && (fun op => op == 0x32) (ebOpcode bytes)
  | .lcEnroll bytes => ebFrameOk bytes && (fun op => op == 0x33) (ebOpcode bytes)
  | .lcToMission bytes => ebFrameOk bytes && (decide (ebCmd bytes ≤ 1) || decide (5 < ebCmd bytes)) && (fun op => op ==
      0x34) (ebOpcode bytes)
  | .lcToReturn bytes => ebFrameOk bytes && decide (ebCmd bytes = 2) && (fun op => op == 0x34) (ebOpcode bytes)
  | .lcToScrapped bytes => ebFrameOk bytes && decide (ebCmd bytes = 3) && (fun op => op == 0x34) (ebOpcode bytes)
  | .ownerRotate bytes => ebFrameOk bytes && decide (ebCmd bytes = 4) && (fun op => op == 0x34) (ebOpcode bytes)
  | .debugUnlock bytes => ebFrameOk bytes && decide (ebCmd bytes = 5) && (fun op => op == 0x34) (ebOpcode bytes)
  | .debugUnlockEnd => true
  | .nonceExpiry => true
  | .spargeDone _ => true
  | .alarmClear value => decide (value < 2 ^ 32) && flag value 0
  | .coldStart straps _ => decide (straps < 4)
  | .resetN _ => true
  | .startStepDone _ => true
  | .startTimeout => true
  | .stableReached => true
  | .startWindowEnd => true
  | .setPrefer from_ => btFromOk from_
  | .clearFails from_ => btFromOk from_
  | .restart from_ => btFromOk from_
  | .storeSettings from_ => btFromOk from_
  | .eraseSettings from_ => btFromOk from_
  | .storeDone _ => true
  | .pwrokFall => true
  | .supplyFault => true
  | .thermalHold => true
  | .thermalRelease => true
  | .status bytes _ _ => ebFrameOk bytes && (fun op => op == 1) (ebOpcode bytes)
  | .faultRead bytes => ebFrameOk bytes && (fun op => op == 2) (ebOpcode bytes)
  | .temp bytes _ => ebFrameOk bytes && (fun op => op == 3) (ebOpcode bytes)
  | .slotOff bytes => ebFrameOk bytes && (fun op => op == 4) (ebOpcode bytes)
  | .sparge bytes => ebFrameOk bytes && (fun op => op == 5) (ebOpcode bytes)
  | .resetReq bytes => ebFrameOk bytes && (fun op => op == 6) (ebOpcode bytes)
  | .resetReqDelay => true
  | .regRead bytes => ebFrameOk bytes && (fun op => op == 0x10) (ebOpcode bytes)
  | .regWrite bytes => ebFrameOk bytes && (fun op => op == 0x11) (ebOpcode bytes)
  | .opcodeUnknown bytes => ebFrameOk bytes && (fun op => !(listedOp op)) (ebOpcode bytes)
  | .flashRead bytes _ => ebFrameOk bytes && (fun op => op == 0x40) (ebOpcode bytes)
  | .flashErase bytes => ebFrameOk bytes && (fun op => op == 0x41) (ebOpcode bytes)
  | .flashWrite bytes => ebFrameOk bytes && (fun op => op == 0x42) (ebOpcode bytes)
  | .dbgRead bytes _ => ebFrameOk bytes && (fun op => op == 0x50) (ebOpcode bytes)
  | .dbgWrite bytes _ => ebFrameOk bytes && (fun op => op == 0x51) (ebOpcode bytes)
  | .dbgCoreHalt bytes => ebFrameOk bytes && (decide (ebByte bytes 9 ≤ 1) || decide (3 < ebByte bytes 9)) && (fun op => op
      == 0x52) (ebOpcode bytes)
  | .dbgCoreStep bytes => ebFrameOk bytes && decide (ebByte bytes 9 = 2) && (fun op => op == 0x52) (ebOpcode bytes)
  | .dbgCoreResume bytes => ebFrameOk bytes && decide (ebByte bytes 9 = 3) && (fun op => op == 0x52) (ebOpcode bytes)
  | .responseRead _ => true
  | .ibiAck => true
  | .ibiRetry => true
  | .hotJoin => true
  | .enec bits => decide (bits < 256)
  | .disec bits => decide (bits < 256)
  | .rstdaa => true
  | .entdaa addr => decide (addr < 128)
  | .setdasa static addr => decide (static < 128) && decide (addr < 128)
  | .setnewda addr => decide (addr < 128)
  | .getpid => true
  | .getbcr => true
  | .getdcr => true
  | .getstatus => true
  | .getmxds => true
  | .setmwl v => decide (v < 2 ^ 16)
  | .getmwl => true
  | .setmrl v => decide (v < 2 ^ 16)
  | .getmrl => true
  | .rstact action => decide (action < 256)
  | .legacyI2c _ _ => true
  | .busError => true
  | .mcWedged => true
  | .mcSignalReturn => true
  | .islandParity => true
  | .supplyRestored => true
  | .refclkPresent r => decide (r < 4)
  | .prbsLock l => decide (l < 256)
  | .feedRestored group _ => decide (group < 4)
  | .hostPortTrained k _ _ => decide (k < 48)
  | .flashCommandDone _ => true

/-- A well-formed command. -/
abbrev Instr.WellFormed (i : Instr) : Prop := i.wf = true

end Sys2Proof
end

