-- ==== Sys2Proof/Decode.lean ====
section
/-! DEFINITION. The commands that words spell: none. The opcode table of this block gives its rows no bits, since a command is
an event at the device's edge and not a word it decodes. -/

namespace Sys2Proof

/-- The command that a word spells by the opcode table's bits: the table gives no row any. -/
def decodeTableWord (_nbits _w : Nat) : Option Instr := none

end Sys2Proof
end

