-- ==== Sys2Proof/Machine/ExecBt.lean ====
section
/-! DEFINITION. The commands of starts (BT). -/

namespace Sys2Proof.Machine

/-- COLD_START: PWROK rises, straps are sampled and a cold start begins (R457). -/
def execColdStart (straps : Nat) (twinId : Bool) (s : State) : Host.Outcome State Fault Refusal :=
  runDev s (fun d => d.coldStart straps twinId)

/-- RESET_N: RESET_N low for at least 1 µs releases the charge pumps and, on release, begins a warm start (R457). -/
def execResetN (low : Bool) (s : State) : Host.Outcome State Fault Refusal :=
  runDev s (fun d => d.resetN low)

/-- START_STEP_DONE: a numbered start step ends and the start goes on to the next step, partition or safe mode (R458). -/
def execStartStepDone (e : StepEnd) (s : State) : Host.Outcome State Fault Refusal :=
  runChip s (fun c => c.stepDone e)

/-- START_TIMEOUT: the start watchdog expires before RUNNING and a warm start begins (R462). -/
def execStartTimeout (s : State) : Host.Outcome State Fault Refusal :=
  runDev s (fun d => d.startTimeout)

/-- STABLE_REACHED: the device has stayed RUNNING for STABLE with MC_ALIVE, and FAIL_COUNT is set (R463). -/
def execStableReached (s : State) : Host.Outcome State Fault Refusal :=
  runChip s (fun c => c.stableReached)

/-- START_WINDOW_END: L_max + 2 ticks after START_TICK the early-arrival refusal window ends (R470). -/
def execStartWindowEnd (s : State) : Host.Outcome State Fault Refusal :=
  runDev s (fun d => d.startWindowEnd)

/-- SET_PREFER: BT_CMD.SET_PREFER writes PREFER into the boot record (R476). -/
def execSetPrefer (from_ : BtFrom) (s : State) : Host.Outcome State Fault Refusal :=
  runChip s (fun c => c.btCommand from_)

/-- CLEAR_FAILS: BT_CMD.CLEAR_FAILS sets FAIL_COUNT to 0 (R463). -/
def execClearFails (from_ : BtFrom) (s : State) : Host.Outcome State Fault Refusal :=
  runChip s (fun c => c.btCommand from_)

/-- RESTART: BT_CMD.RESTART begins a warm start (R457). -/
def execRestart (from_ : BtFrom) (s : State) : Host.Outcome State Fault Refusal :=
  runChip s (fun c => c.btCommand from_)

/-- STORE_SETTINGS: BT_CMD.STORE or the Eboury command starts a settings store (R473). -/
def execStoreSettings (from_ : BtFrom) (s : State) : Host.Outcome State Fault Refusal :=
  runChip s (fun c => c.btCommand from_)

/-- ERASE_SETTINGS: BT_CMD.ERASE_SETTINGS invalidates both settings pages (R473). -/
def execEraseSettings (from_ : BtFrom) (s : State) : Host.Outcome State Fault Refusal :=
  runChip s (fun c => c.btCommand from_)

/-- STORE_DONE: a settings page write and read-back end (R473). -/
def execStoreDone (ok : Bool) (s : State) : Host.Outcome State Fault Refusal :=
  runChip s (fun c => c.storeDone ok)

/-- PWROK_FALL: PWROK falls; any start ends and the charge pumps are released (R496). -/
def execPwrokFall (s : State) : Host.Outcome State Fault Refusal :=
  runDev s (fun d => d.pwrokFall)

/-- SUPPLY_FAULT: a core rail or CORE_REFCLK fails and the device holds in step 1 as though PWROK had fallen (R497). -/
def execSupplyFault (s : State) : Host.Outcome State Fault Refusal :=
  runDev s (fun d => d.supplyFault)

/-- THERMAL_HOLD: a sensor reads 115 °C for 1 ms and the device is held in step 1 of a warm start (R501). -/
def execThermalHold (s : State) : Host.Outcome State Fault Refusal :=
  runDev s (fun d => d.thermalHold)

/-- THERMAL_RELEASE: every sensor has read below 95 °C for 1 s and the warm start proceeds (R501). -/
def execThermalRelease (s : State) : Host.Outcome State Fault Refusal :=
  runDev s (fun d => d.thermalRelease)

/-- SUPPLY_RESTORED: a core rail or CORE_REFCLK that had failed comes back, and the device leaves its hold in step 1 and
makes a cold start (R497). -/
def execSupplyRestored (s : State) : Host.Outcome State Fault Refusal :=
  runDev s (fun d => d.supplyRestored)

end Sys2Proof.Machine
end

