-- ==== Sys2Proof/Machine/ExecCx.lean ====
section
/-! DEFINITION. The commands of the CXL memory fabric (CX). -/

namespace Sys2Proof.Machine

/-- CXL_D2D_FAULT: a CXL tile's die-to-die link fails and every CXL port of the tile is fenced (R326). -/
def execCxlD2dFault (tile : Nat) (s : State) : Host.Outcome State Fault Refusal :=
  runDev s (fun d => d.cxlD2d tile)

/-- CXL_MEM_REQUEST: a host CXL.mem request is decoded and forwarded to its bound target, or answered as a decode miss
(R313). -/
def execCxlMemRequest (k tc len : Nat) (m : MemOp) (s : State) : Host.Outcome State Fault Refusal :=
  runDev s (fun d => d.memRequest k tc len m)

/-- CXL_IO_REQUEST: a CXL.io transaction ends at the device's own functions or is routed to a vPPB (R30). -/
def execCxlIoRequest (k : Nat) (r : IoReq) (s : State) : Host.Outcome State Fault Refusal :=
  runDev s (fun d => d.ioRequest k r)

/-- CXL_MEM_RESPONSE: a memory device's response is forwarded to its host (R30). -/
def execCxlMemResponse (q host tag tc len : Nat) (poison : Bool) (data : Option Nat) (s : State) : Host.Outcome State
    Fault Refusal :=
  runDev s (fun d => d.memResponse q host tag tc len poison data)

/-- MEM_TIMEOUT: a CXL.mem request is not answered within MEM_TO and completes with poison or Cmp (R323). -/
def execMemTimeout (k host tag : Nat) (s : State) : Host.Outcome State Fault Refusal :=
  runDev s (fun d => d.memTimeout k host tag)

/-- BIND: a Malthouse BIND request is checked and staged (R317). -/
def execBind (from_ : MhFrom) (s : State) : Host.Outcome State Fault Refusal :=
  runChip s (fun c => c.malthouse from_)

/-- UNBIND: a Malthouse UNBIND request runs its selected removal option (R319). -/
def execUnbind (from_ : MhFrom) (s : State) : Host.Outcome State Fault Refusal :=
  runChip s (fun c => c.malthouse from_)

/-- LD_ALLOC: a Malthouse LD_ALLOC request sets a logical device's capacity (R320). -/
def execLdAlloc (from_ : MhFrom) (s : State) : Host.Outcome State Fault Refusal :=
  runChip s (fun c => c.malthouse from_)

/-- DC_ADD: a Malthouse DC_ADD request offers an extent to the host (R324). -/
def execDcAdd (from_ : MhFrom) (s : State) : Host.Outcome State Fault Refusal :=
  runChip s (fun c => c.malthouse from_)

/-- DC_RELEASE: a Malthouse DC_RELEASE request asks the host to release an extent (R324). -/
def execDcRelease (from_ : MhFrom) (s : State) : Host.Outcome State Fault Refusal :=
  runChip s (fun c => c.malthouse from_)

/-- BINDING_APPLY: at its boundary a staged binding change takes effect and the host gets its hot-plug interrupt
(R317). -/
def execBindingApply (queue tag : Nat) (s : State) : Host.Outcome State Fault Refusal :=
  runDev s (fun d => d.bindingApply queue tag)

/-- UNBIND_HOST_ACTION: host software disables the vPPB's link or slot power, letting a pending unbind proceed (R319). -/
def execUnbindHostAction (h v : Nat) (s : State) : Host.Outcome State Fault Refusal :=
  runDev s (fun d => d.unbindAction h v)

/-- UNBIND_TIMEOUT: host software does not act within UNBIND_TO, and the request completes HOST_TIMEOUT (R319). -/
def execUnbindTimeout (h v : Nat) (s : State) : Host.Outcome State Fault Refusal :=
  runDev s (fun d => d.unbindTimeout h v)

/-- DC_HOST_RESPONSE: host software accepts, declines or releases a capacity extent (R324). -/
def execDcHostResponse (h action port ld dpa len : Nat) (s : State) : Host.Outcome State Fault Refusal :=
  runDev s (fun d => d.dcResponse h action port ld dpa len)

/-- DC_TIMEOUT: host software does not answer an extent change within DC_TO (R324). -/
def execDcTimeout (h : Nat) (s : State) : Host.Outcome State Fault Refusal :=
  runDev s (fun d => d.dcTimeout h)

/-- SURPRISE_REMOVAL: a device-facing port's link or presence goes, or its slot fails; the port is contained and
outstanding requests complete with poison (R322). -/
def execSurpriseRemoval (k : Nat) (link : Bool) (s : State) : Host.Outcome State Fault Refusal :=
  runDev s (fun d => d.surprise k link)

/-- CONTAINMENT_UNBIND: at the next boundary the bindings of a contained port are removed and DPC triggered (R322). -/
def execContainmentUnbind (k : Nat) (s : State) : Host.Outcome State Fault Refusal :=
  runDev s (fun d => d.containUnbind k)

/-- CXL_PORT_TRAINED: a device-facing port trains and Malthouse identifies the device (R324). -/
def execCxlPortTrained (k : Nat) (partner : CxPartner) (s : State) : Host.Outcome State Fault Refusal :=
  runDev s (fun d => d.cxTrained k partner)

/-- HOST_DOWN: a host-facing port's link goes down (R325). -/
def execHostDown (k : Nat) (s : State) : Host.Outcome State Fault Refusal :=
  runDev s (fun d => d.hostLinkDown k)

/-- CONTAIN_CLEAR: a write of CX_PORT_CTL.CONTAIN_CLEAR takes a port out of CONTAINED (R322). -/
def execContainClear (k value : Nat) (s : State) : Host.Outcome State Fault Refusal :=
  runDev s (fun d => d.coreWrite rCxPortCtl k value)

/-- HOST_PORT_TRAINED: a host-facing CXL port's link trains and comes up, counting in HOSTS_UP and raising LINK_DEGRADED
when below rate or width (R307). -/
def execHostPortTrained (k : Nat) (rate : Option Nat) (width : Nat) (s : State) : Host.Outcome State Fault Refusal :=
  runDev s (fun d => d.hostTrained k rate width)

end Sys2Proof.Machine
end

