-- ==== Sys2Proof/Machine/ExecFe.lean ====
section
/-! DEFINITION. The commands of fault collection (FE). -/

namespace Sys2Proof.Machine

/-- FORCE_EVENT: FE_SRC_CFG.FORCE raises a source once as a forced occurrence (R403). -/
def execForceEvent (source value : Nat) (s : State) : Host.Outcome State Fault Refusal :=
  runDev s (fun d => d.coreWrite rFeSrcCfg source value)

/-- LATCH_CLEAR: a write of 1 to FE_LATCH VALID clears the latch, keeping a same-cycle occurrence (R404). -/
def execLatchClear (sev value : Nat) (s : State) : Host.Outcome State Fault Refusal :=
  runDev s (fun d => d.coreWrite rFeLatch sev value)

/-- PEND_CLEAR: a write of 1 to FE_PEND clears pending bits unless their source fires that cycle (R405). -/
def execPendClear (k value : Nat) (s : State) : Host.Outcome State Fault Refusal :=
  runDev s (fun d => d.coreWrite rFePend k value)

/-- FENCE_RELEASE: FE_FENCE_CMD with RELEASE 1 releases a PORT, LOCK_GROUP or tile fence entry (R410). -/
def execFenceRelease (value : Nat) (s : State) : Host.Outcome State Fault Refusal :=
  runDev s (fun d => d.coreWrite rFeFenceCmd 0 value)

/-- FATAL_RESTART: 1 ms after a FATAL, with FATAL_RESTART set, the device requests a warm start (R411). -/
def execFatalRestart (s : State) : Host.Outcome State Fault Refusal :=
  runDev s (fun d => d.fatalRestart)

/-- ERR_PULSE_END: an ERR_N pulse ends; ERR_N rises unless HOLD is 1 (R412). -/
def execErrPulseEnd (s : State) : Host.Outcome State Fault Refusal :=
  runDev s (fun d => d.errPulseEnd)

/-- ERR_REPEAT_PULSE: ERR_N has been high 1 µs after an owed release and gives a new pulse (R413). -/
def execErrRepeatPulse (s : State) : Host.Outcome State Fault Refusal :=
  runDev s (fun d => d.errRepeat)

/-- ERR_HOLD: a write of FE_ERR.HOLD holds or releases ERR_N (R412). -/
def execErrHold (value : Nat) (s : State) : Host.Outcome State Fault Refusal :=
  runDev s (fun d => d.coreWrite rFeErr 0 value)

/-- ERR_ASSERT: a write of FE_ERR.ASSERT starts an ERR_N pulse with no occurrence (R413). -/
def execErrAssert (value : Nat) (s : State) : Host.Outcome State Fault Refusal :=
  runDev s (fun d => d.coreWrite rFeErr 0 value)

/-- ERR_PULSES_READ: a read of FE_ERR returns and clears PULSES (R416). -/
def execErrPulsesRead (s : State) : Host.Outcome State Fault Refusal :=
  runDev s (fun d => d.coreDo (fun d => d.errPulsesRead))

/-- DELIVERY_FOLLOWUP: at the next boundary a follow-up record carries later occurrences of a source in the tick
(R414). -/
def execDeliveryFollowup (s : State) : Host.Outcome State Fault Refusal :=
  runDev s (fun d => d.followUp)

/-- HIST_POP: a read of FE_HIST_POP returns and removes the oldest history entry (R407). -/
def execHistPop (s : State) : Host.Outcome State Fault Refusal :=
  runDev s (fun d => d.coreDo (fun d => d.histPop))

end Sys2Proof.Machine
end

