-- ==== Sys2Proof/Machine/ExecHq.lean ====
section
/-! DEFINITION. The commands of endpoint rings and control rings (HQ). -/

namespace Sys2Proof.Machine

/-- COMMAND_DOORBELL: a write of EP_CMD_DB is checked and records a new producer position, from which entries are reserved
and fetched (R58). -/
def execCommandDoorbell (h ep value : Nat) (s : State) : Host.Outcome State Fault Refusal :=
  runDev s (fun d => d.epWrite h ep rEpCmdDb value)

/-- EVENT_DOORBELL: a write of EP_EVT_DB advances the host consumer position of the event ring and frees slots (R58). -/
def execEventDoorbell (h ep value : Nat) (s : State) : Host.Outcome State Fault Refusal :=
  runDev s (fun d => d.epWrite h ep rEpEvtDb value)

/-- INTERRUPT_ARM: ARM in an event doorbell arms the endpoint's MSI-X interrupt for the next event that asks for one
(R59). -/
def execInterruptArm (h ep value : Nat) (s : State) : Host.Outcome State Fault Refusal :=
  runDev s (fun d => d.epWrite h ep rEpEvtDb value)

/-- ENDPOINT_ENABLE: a write of EP_CTL.ENABLE 1 lets the endpoint fetch commands and accept arrivals (R82). -/
def execEndpointEnable (h ep value : Nat) (s : State) : Host.Outcome State Fault Refusal :=
  runDev s (fun d => d.epWrite h ep rEpCtl value)

/-- ENDPOINT_DISABLE: a write of EP_CTL.ENABLE 0 stops fetching, discards unaccepted entries and refuses new arrivals
(R82). -/
def execEndpointDisable (h ep value : Nat) (s : State) : Host.Outcome State Fault Refusal :=
  runDev s (fun d => d.epWrite h ep rEpCtl value)

/-- RING_RESUME: a write of EP_CTL.RESUME restarts a stopped command ring (R76). -/
def execRingResume (h ep value : Nat) (s : State) : Host.Outcome State Fault Refusal :=
  runDev s (fun d => d.epWrite h ep rEpCtl value)

/-- LAP_REREAD: after 256 ns the device reads a command entry with a stale lap bit again; after LAP_RETRY reads it is
LAP_STALE (R56). -/
def execLapReread (ring : Nat) (s : State) : Host.Outcome State Fault Refusal :=
  runDev s (fun d => d.lapReread ring)

/-- NOP: a NOP entry is accepted and posts CMD_DONE OK (R512). -/
def execNop (ep entry : Nat) (frags : List Nat) (err : Bool) (s : State) : Host.Outcome State Fault Refusal :=
  runDev s (fun d => d.acceptEntry ep entry frags [] err)

/-- CONTROL_DOORBELL: a write of FN_CTRL_DB shows control entries to fetch, or fences the function when it breaks R58
(R80). -/
def execControlDoorbell (h value : Nat) (s : State) : Host.Outcome State Fault Refusal :=
  runDev s (fun d => d.fnWrite h rFnCtrlDb 0 value)

/-- CONTROL_EVENT_DOORBELL: a write of FN_CTRL_EVT_DB advances the control event ring consumer and may arm its interrupt
(R77). -/
def execControlEventDoorbell (h value : Nat) (s : State) : Host.Outcome State Fault Refusal :=
  runDev s (fun d => d.fnWrite h rFnCtrlEvtDb 0 value)

/-- CREATE_EP: a CREATE_EP control entry creates an endpoint (R79). -/
def execCreateEp (h entry : Nat) (err : Bool) (s : State) : Host.Outcome State Fault Refusal :=
  runDev s (fun d => d.ctrlArrive h entry err false)

/-- DESTROY_EP: a DESTROY_EP control entry destroys an idle endpoint (R79). -/
def execDestroyEp (h entry : Nat) (err : Bool) (s : State) : Host.Outcome State Fault Refusal :=
  runDev s (fun d => d.ctrlArrive h entry err false)

/-- MODIFY_EP: a MODIFY_EP control entry changes endpoint fields whole or not at all (R79). -/
def execModifyEp (h entry : Nat) (err : Bool) (s : State) : Host.Outcome State Fault Refusal :=
  runDev s (fun d => d.ctrlArrive h entry err false)

/-- QUERY_EP: a QUERY_EP control entry writes a 64-byte copy of the context's public state (R514). -/
def execQueryEp (h entry : Nat) (err copyErr : Bool) (s : State) : Host.Outcome State Fault Refusal :=
  runDev s (fun d => d.ctrlArrive h entry err copyErr)

/-- FUNCTION_RESET: FN_RESET.GO, HQ_FN_RESET.GO or a function-level reset destroys every endpoint of the function and ends
its fence (R81). -/
def execFunctionReset (from_ : ResetFrom) (h : Nat) (s : State) : Host.Outcome State Fault Refusal :=
  runDev s (fun d => d.functionReset from_ h)

/-- CASK_FETCH_DONE: a context fetch from the Cask completes; an LRU context is evicted and staged packets continue
(R84). -/
def execCaskFetchDone (ep : Nat) (err : Bool) (s : State) : Host.Outcome State Fault Refusal :=
  runDev s (fun d => d.caskDone ep err)

/-- CASK_SLOW: a context fetch exceeds 8 µs (R84). -/
def execCaskSlow (ep : Nat) (s : State) : Host.Outcome State Fault Refusal :=
  runDev s (fun d => d.caskSlow ep)

/-- MAINTENANCE_ENTRY: the maintenance queue set issues entries by weighted round robin (R86). -/
def execMaintenanceEntry (entries : List (Nat × Bool)) (s : State) : Host.Outcome State Fault Refusal :=
  runDev s (fun d => d.mqRun entries)

/-- MQ_STALL: a maintenance queue has waited 64 ticks without service (R86). -/
def execMqStall (queue : Nat) (s : State) : Host.Outcome State Fault Refusal :=
  runDev s (fun d => d.mqStall queue)

/-- INCOMPLETE_POSTED: an arriving message reaches the age limit unfinished; its record completes INCOMPLETE and its
reservation posts (R74). -/
def execIncompletePosted (node id fst : Nat) (s : State) : Host.Outcome State Fault Refusal :=
  runDev s (fun d => d.onRec node id fst (fun d r => d.incompleteRec r))

end Sys2Proof.Machine
end

