-- ==== Sys2Proof/Machine/ExecLk.lean ====
section
/-! DEFINITION. The commands of the link layer (LK). -/

namespace Sys2Proof.Machine

/-- FLIT_RECEIVE: a data flit arrives on a fabric port and is stored, forwarded or dropped (R259). -/
def execFlitReceive (p t w : Nat) (failed ok : Bool) (s : State) : Host.Outcome State Fault Refusal :=
  runDev s (fun d => d.flitReceive p t w failed ok)

/-- CONTROL_FLIT: a control flit arrives and updates the sender's credit limits and HOLD bits (R256). -/
def execControlFlit (p w : Nat) (s : State) : Host.Outcome State Fault Refusal :=
  runDev s (fun d => d.controlArrive p w)

/-- BYPASS_FLIT: a bypass flit arrives and its messages are taken in order (R257). -/
def execBypassFlit (p rx w : Nat) (failed ok : Bool) (s : State) : Host.Outcome State Fault Refusal :=
  runDev s (fun d => d.bypassFlit p rx w failed ok)

/-- CREDIT_AUDIT: a credit audit arrives and absorbs any SENT and RCVD difference (R262). -/
def execCreditAudit (p w : Nat) (s : State) : Host.Outcome State Fault Refusal :=
  runDev s (fun d => d.bypAlone p (fun d => d.auditArrive p w))

/-- AUDIT_PERSIST: AUDIT_RUN reaches 4 and the port is declared broken (R263). -/
def execAuditPersist (p : Nat) (s : State) : Host.Outcome State Fault Refusal :=
  runDev s (fun d => d.auditPersist p)

/-- PEER_SILENT: the peer is not alive at 4 consecutive boundaries and the port is declared broken (R263). -/
def execPeerSilent (p : Nat) (s : State) : Host.Outcome State Fault Refusal :=
  runDev s (fun d => d.peerSilent p)

/-- CREDIT_TIMEOUT: a class is starved for CREDIT_TO boundaries and the port is declared broken (R263). -/
def execCreditTimeout (p : Nat) (s : State) : Host.Outcome State Fault Refusal :=
  runDev s (fun d => d.creditTimeout p)

/-- PORT_RETRAIN: a write of LK_PORT_CTL.RETRAIN breaks the port with reason MGMT (R264). -/
def execPortRetrain (p value : Nat) (s : State) : Host.Outcome State Fault Refusal :=
  runDev s (fun d => d.coreWrite rLkPortCtl p value)

/-- PORT_ENABLE: a write of LK_PORT_CTL.ENABLE lets the port train or takes it to DISABLED (R265). -/
def execPortEnable (p value : Nat) (s : State) : Host.Outcome State Fault Refusal :=
  runDev s (fun d => d.coreWrite rLkPortCtl p value)

/-- PORT_HOLD: a write of LK_PORT_CTL.HOLD keeps the port in DISABLED or releases it (R265). -/
def execPortHold (p value : Nat) (s : State) : Host.Outcome State Fault Refusal :=
  runDev s (fun d => d.coreWrite rLkPortCtl p value)

/-- HOLDDOWN_END: the holddown ends and the port retrains (R264). -/
def execHolddownEnd (p : Nat) (s : State) : Host.Outcome State Fault Refusal :=
  runDev s (fun d => d.holddownEnd p)

/-- HELLO: a HELLO arrives; the checks pass and the port enters UP, or it stays in HELLO (R266). -/
def execHello (p w : Nat) (s : State) : Host.Outcome State Fault Refusal :=
  runDev s (fun d => d.helloArrive p w)

end Sys2Proof.Machine
end

