-- ==== Sys2Proof/Machine/ExecLn.lean ====
section
/-! DEFINITION. The commands of the serial lanes (LN). -/

namespace Sys2Proof.Machine

/-- FILLER_BLOCK: a filler block with its comma arrives on a lane and drives alignment and rate matching (R276). -/
def execFillerBlock (l pos arrived fill : Nat) (levels : List Nat) (s : State) : Host.Outcome State Fault Refusal :=
  runDev s (fun d => d.fillerBlock l pos arrived fill levels)

/-- CODEWORD_RECEIVE: a codeword is destuffed, corrected and descrambled (R272). -/
def execCodewordReceive (l : Nat) (levels : List Nat) (s : State) : Host.Outcome State Fault Refusal :=
  runDev s (fun d => d.codeword l levels)

/-- REF_LOST: a lane reference stops for 1 µs and its ports lose alignment (R279). -/
def execRefLost (r : Nat) (s : State) : Host.Outcome State Fault Refusal :=
  runDev s (fun d => d.refLost r)

/-- TRAIN_TIMEOUT: a port stays in TRAINING for TRAIN_TO (R282). -/
def execTrainTimeout (p : Nat) (s : State) : Host.Outcome State Fault Refusal :=
  runDev s (fun d => d.trainTimeout p)

/-- PRBS_LOCK_LOST: a PRBS checker loses lock and resumes its search (R283). -/
def execPrbsLockLost (l : Nat) (s : State) : Host.Outcome State Fault Refusal :=
  runDev s (fun d => d.prbsLost l)

/-- FEC_SYM_READ: a read of LN_FEC_SYM returns and clears the corrected-symbol count (R285). -/
def execFecSymRead (s : State) : Host.Outcome State Fault Refusal :=
  runDev s (fun d => d.coreDo (fun d => d.laneRead rLnFecSym (d.bankOf rLnFecSym)))

/-- FEC_CW_READ: a read of LN_FEC_CW returns and clears the corrected-codeword count (R285). -/
def execFecCwRead (s : State) : Host.Outcome State Fault Refusal :=
  runDev s (fun d => d.coreDo (fun d => d.laneRead rLnFecCw (d.bankOf rLnFecCw)))

/-- FEC_UNCORR_READ: a read of LN_FEC_UNCORR returns and clears the uncorrectable count (R285). -/
def execFecUncorrRead (s : State) : Host.Outcome State Fault Refusal :=
  runDev s (fun d => d.coreDo (fun d => d.laneRead rLnFecUncorr (d.bankOf rLnFecUncorr)))

/-- PRBS_ERR_READ: a read of LN_PRBS_ERR returns and clears the PRBS error count (R283). -/
def execPrbsErrRead (s : State) : Host.Outcome State Fault Refusal :=
  runDev s (fun d => d.coreDo (fun d => d.laneRead rLnPrbsErr (d.bankOf rLnPrbsErr)))

/-- FABRIC_D2D_FAULT: a fabric tile's die-to-die link fails and every port of the tile is fenced (R286). -/
def execFabricD2dFault (tile : Nat) (s : State) : Host.Outcome State Fault Refusal :=
  runDev s (fun d => d.fabricD2d tile)

/-- REFCLK_PRESENT: a lane reference REFCLKr starts or returns, REF_OK rises and the ports on it may train again
(R279). -/
def execRefclkPresent (r : Nat) (s : State) : Host.Outcome State Fault Refusal :=
  runDev s (fun d => d.refPresentNow r)

/-- PRBS_LOCK: a PRBS checker sees 31 error-free bits, locks and starts counting bit errors (R283). -/
def execPrbsLock (l : Nat) (s : State) : Host.Outcome State Fault Refusal :=
  runDev s (fun d => d.prbsLock l)

end Sys2Proof.Machine
end

