-- ==== Sys2Proof/Machine/ExecLs.lean ====
section
/-! DEFINITION. The commands of the lock service (LS). -/

namespace Sys2Proof.Machine

/-- LOCK_ACQUIRE: a LOCK_ACQUIRE command grants, queues or refuses a lock request (R386). -/
def execLockAcquire (ep entry : Nat) (frags : List Nat) (err : Bool) (s : State) : Host.Outcome State Fault Refusal :=
  runDev s (fun d => d.acceptEntry ep entry frags [] err)

/-- LOCK_RELEASE: a LOCK_RELEASE command frees the lock and grants the head waiter (R386). -/
def execLockRelease (ep entry : Nat) (frags : List Nat) (err : Bool) (s : State) : Host.Outcome State Fault Refusal :=
  runDev s (fun d => d.acceptEntry ep entry frags [] err)

/-- LOCK_RENEW: a LOCK_RENEW command restarts a remote holder's lease (R386). -/
def execLockRenew (ep entry : Nat) (frags : List Nat) (err : Bool) (s : State) : Host.Outcome State Fault Refusal :=
  runDev s (fun d => d.acceptEntry ep entry frags [] err)

/-- LOCK_CANCEL: a LOCK_CANCEL command removes the endpoint's waiting request (R386). -/
def execLockCancel (ep entry : Nat) (frags : List Nat) (err : Bool) (s : State) : Host.Outcome State Fault Refusal :=
  runDev s (fun d => d.acceptEntry ep entry frags [] err)

/-- LS_REQ: a remote lock request arrives and is served like the matching command (R388). -/
def execLsReq (p : Packet) (s : State) : Host.Outcome State Fault Refusal :=
  runDev s (fun d => d.ofType p tyLsReq (fun d => d.arrive p))

/-- LS_GRANT: a lock grant arrives at a remote waiter and posts LOCK_GRANT (R389). -/
def execLsGrant (p : Packet) (s : State) : Host.Outcome State Fault Refusal :=
  runDev s (fun d => d.ofType p tyLsGrant (fun d => d.arrive p))

/-- LEASE_LAPSE: a remote holder's lease reaches LS_LEASE at a boundary; the lock is freed and abandoned (R393). -/
def execLeaseLapse (lock : Nat) (s : State) : Host.Outcome State Fault Refusal :=
  runDev s (fun d => d.leaseLapse lock)

/-- FORCE_RELEASE: LS_LOCK_CMD.FORCE_RELEASE frees the selected lock as abandoned (R392). -/
def execForceRelease (value : Nat) (s : State) : Host.Outcome State Fault Refusal :=
  runDev s (fun d => d.coreWrite rLsLockCmd 0 value)

/-- MIRROR_WAIT: a grant waits more than 1 tick for MIRROR_ACK (R389). -/
def execMirrorWait (lock : Nat) (s : State) : Host.Outcome State Fault Refusal :=
  runDev s (fun d => d.mirrorWait lock)

end Sys2Proof.Machine
end

