-- ==== Sys2Proof/Machine/ExecMg.lean ====
section
/-! DEFINITION. The commands of the management interface (MG). -/

namespace Sys2Proof.Machine

/-- STATUS: the island answers the STATUS command (R487). -/
def execStatus (bytes : List Byte) (ms : Nat) (temps : List Int) (s : State) : Host.Outcome State Fault Refusal :=
  runChip s (fun c => c.eboury bytes (fun op => op == 1) (fun f c => c.serveStatus ms temps f))

/-- FAULT_READ: the island returns a part of the collector's state and may clear latches or pending bits (R487). -/
def execFaultRead (bytes : List Byte) (s : State) : Host.Outcome State Fault Refusal :=
  runChip s (fun c => c.eboury bytes (fun op => op == 2) (fun f c => c.serveFaultRead f))

/-- TEMP: the island returns the on-die temperatures (R487). -/
def execTemp (bytes : List Byte) (temps : List Int) (s : State) : Host.Outcome State Fault Refusal :=
  runChip s (fun c => c.eboury bytes (fun op => op == 3) (fun f c => c.serveTemp temps f))

/-- SLOT_OFF: the island switches off the named owned slots as OFF_NOW does (R487). -/
def execSlotOff (bytes : List Byte) (s : State) : Host.Outcome State Fault Refusal :=
  runChip s (fun c => c.eboury bytes (fun op => op == 4) (fun f c => c.serveSlotOff f))

/-- SPARGE: the island starts the key-slot and Kiln sparge (R487). -/
def execSparge (bytes : List Byte) (s : State) : Host.Outcome State Fault Refusal :=
  runChip s (fun c => c.eboury bytes (fun op => op == 5) (fun f c => c.serveSparge f))

/-- RESET_REQ: the island accepts a warm-start request and sends its response (R487). -/
def execResetReq (bytes : List Byte) (s : State) : Host.Outcome State Fault Refusal :=
  runChip s (fun c => c.eboury bytes (fun op => op == 6) (fun f c => c.serveResetReq f))

/-- RESET_REQ_DELAY: the response is read or 1 ms passes, and the requested warm start begins (R487). -/
def execResetReqDelay (s : State) : Host.Outcome State Fault Refusal :=
  runDev s (fun d => d.resetDue)

/-- REG_READ: the REG_READ command returns a run of registers (R486). -/
def execRegRead (bytes : List Byte) (s : State) : Host.Outcome State Fault Refusal :=
  runChip s (fun c => c.eboury bytes (fun op => op == 0x10) (fun f c => c.serveRegRead f))

/-- REG_WRITE: the REG_WRITE command writes one register (R486). -/
def execRegWrite (bytes : List Byte) (s : State) : Host.Outcome State Fault Refusal :=
  runChip s (fun c => c.eboury bytes (fun op => op == 0x11) (fun f c => c.serveRegWrite f))

/-- OPCODE_UNKNOWN: a frame with an unlisted opcode is answered OPCODE (R485). -/
def execOpcodeUnknown (bytes : List Byte) (s : State) : Host.Outcome State Fault Refusal :=
  runChip s (fun c => c.eboury bytes (fun op => !(listedOp op)) (fun f c => c.serveUnknown f))

/-- FLASH_READ: the FLASH_READ command returns flash data (R486). -/
def execFlashRead (bytes : List Byte) (fail : Bool) (s : State) : Host.Outcome State Fault Refusal :=
  runChip s (fun c => c.eboury bytes (fun op => op == 0x40) (fun f c => c.serveFlashRead fail f))

/-- FLASH_ERASE: the FLASH_ERASE command erases a 64 KiB block (R486). -/
def execFlashErase (bytes : List Byte) (s : State) : Host.Outcome State Fault Refusal :=
  runChip s (fun c => c.eboury bytes (fun op => op == 0x41) (fun f c => c.serveFlashErase f))

/-- FLASH_WRITE: the FLASH_WRITE command writes flash data (R486). -/
def execFlashWrite (bytes : List Byte) (s : State) : Host.Outcome State Fault Refusal :=
  runChip s (fun c => c.eboury bytes (fun op => op == 0x42) (fun f c => c.serveFlashWrite f))

/-- DBG_READ: the DBG_READ command reads the internal address space under a debug unlock (R486). -/
def execDbgRead (bytes : List Byte) (kiln : Bool) (s : State) : Host.Outcome State Fault Refusal :=
  runChip s (fun c => c.eboury bytes (fun op => op == 0x50) (fun f c => c.serveDbgRead kiln f))

/-- DBG_WRITE: the DBG_WRITE command writes the internal address space (R486). -/
def execDbgWrite (bytes : List Byte) (kiln : Bool) (s : State) : Host.Outcome State Fault Refusal :=
  runChip s (fun c => c.eboury bytes (fun op => op == 0x51) (fun f c => c.serveDbgWrite kiln f))

/-- DBG_CORE_HALT: DBG_CORE action 1 halts a management core (R486). -/
def execDbgCoreHalt (bytes : List Byte) (s : State) : Host.Outcome State Fault Refusal :=
  runChip s (fun c => c.eboury bytes (fun op => op == 0x52) (fun f c => c.serveDbgCore (f.num 1 1) f))

/-- DBG_CORE_STEP: DBG_CORE action 2 steps a management core (R486). -/
def execDbgCoreStep (bytes : List Byte) (s : State) : Host.Outcome State Fault Refusal :=
  runChip s (fun c => c.eboury bytes (fun op => op == 0x52) (fun f c => c.serveDbgCore (f.num 1 1) f))

/-- DBG_CORE_RESUME: DBG_CORE action 3 resumes a management core (R486). -/
def execDbgCoreResume (bytes : List Byte) (s : State) : Host.Outcome State Fault Refusal :=
  runChip s (fun c => c.eboury bytes (fun op => op == 0x52) (fun f c => c.serveDbgCore (f.num 1 1) f))

/-- RESPONSE_READ: an I3C private read returns the oldest ready response whole and removes it (R483). -/
def execResponseRead (whole : Bool) (s : State) : Host.Outcome State Fault Refusal :=
  runDev s (fun d => d.responseRead whole)

/-- IBI_ACK: the controller acknowledges an IBI; a fault IBI removes one record (R484). -/
def execIbiAck (s : State) : Host.Outcome State Fault Refusal :=
  runDev s (fun d => d.ibiAck)

/-- IBI_RETRY: IBI_GAP passes after a NACKed IBI and the device requests again (R484). -/
def execIbiRetry (s : State) : Host.Outcome State Fault Refusal :=
  runDev s (fun d => d.ibiRetry)

/-- HOT_JOIN: with no dynamic address the device requests Hot-Join on its timer (R478). -/
def execHotJoin (s : State) : Host.Outcome State Fault Refusal :=
  runDev s (fun d => d.hotJoin)

/-- ENEC: the ENEC CCC enables target events (R478). -/
def execEnec (bits : Nat) (s : State) : Host.Outcome State Fault Refusal :=
  runDev s (fun d => d.events bits false)

/-- DISEC: the DISEC CCC disables target events (R478). -/
def execDisec (bits : Nat) (s : State) : Host.Outcome State Fault Refusal :=
  runDev s (fun d => d.events bits true)

/-- RSTDAA: the RSTDAA CCC resets the dynamic address (R478). -/
def execRstdaa (s : State) : Host.Outcome State Fault Refusal :=
  runDev s (fun d => d.rstdaa)

/-- ENTDAA: the ENTDAA CCC assigns a dynamic address (R478). -/
def execEntdaa (addr : Nat) (s : State) : Host.Outcome State Fault Refusal :=
  runDev s (fun d => d.entdaa addr)

/-- SETDASA: the SETDASA CCC assigns a dynamic address from the static address (R480). -/
def execSetdasa (static addr : Nat) (s : State) : Host.Outcome State Fault Refusal :=
  runDev s (fun d => d.setdasa static addr)

/-- SETNEWDA: the SETNEWDA CCC changes the dynamic address (R478). -/
def execSetnewda (addr : Nat) (s : State) : Host.Outcome State Fault Refusal :=
  runDev s (fun d => d.setnewda addr)

/-- GETPID: the GETPID CCC returns the provisional ID (R479). -/
def execGetpid (s : State) : Host.Outcome State Fault Refusal :=
  runChip s (fun c => c.map (fun d => d.getpid c.nv))

/-- GETBCR: the GETBCR CCC returns BCR 0x26 (R479). -/
def execGetbcr (s : State) : Host.Outcome State Fault Refusal :=
  runDev s (fun d => d.getbcr)

/-- GETDCR: the GETDCR CCC returns DCR 0x00 (R479). -/
def execGetdcr (s : State) : Host.Outcome State Fault Refusal :=
  runDev s (fun d => d.getdcr)

/-- GETSTATUS: the GETSTATUS CCC returns the target status (R478). -/
def execGetstatus (s : State) : Host.Outcome State Fault Refusal :=
  runDev s (fun d => d.getstatus)

/-- GETMXDS: the GETMXDS CCC returns the maximum data speed (R478). -/
def execGetmxds (s : State) : Host.Outcome State Fault Refusal :=
  runDev s (fun d => d.getmxds)

/-- SETMWL: the SETMWL CCC sets the maximum write length (R479). -/
def execSetmwl (v : Nat) (s : State) : Host.Outcome State Fault Refusal :=
  runDev s (fun d => d.setmwl v)

/-- GETMWL: the GETMWL CCC returns the maximum write length (R479). -/
def execGetmwl (s : State) : Host.Outcome State Fault Refusal :=
  runDev s (fun d => d.getmwl)

/-- SETMRL: the SETMRL CCC sets the maximum read length (R479). -/
def execSetmrl (v : Nat) (s : State) : Host.Outcome State Fault Refusal :=
  runDev s (fun d => d.setmrl v)

/-- GETMRL: the GETMRL CCC returns the maximum read length (R479). -/
def execGetmrl (s : State) : Host.Outcome State Fault Refusal :=
  runDev s (fun d => d.getmrl)

/-- RSTACT: the RSTACT CCC resets the I3C target or requests a warm start (R479). -/
def execRstact (action : Nat) (s : State) : Host.Outcome State Fault Refusal :=
  runDev s (fun d => d.rstact action)

/-- LEGACY_I2C: an I2C transfer at the static address carries an Eboury frame under the legacy fallback (R480). -/
def execLegacyI2c (write : Option (List Byte)) (x : EbInputs) (s : State) : Host.Outcome State Fault Refusal :=
  runChip s (fun c => c.legacyI2c write x)

/-- BUS_ERROR: the target detects an I3C error condition (R492). -/
def execBusError (s : State) : Host.Outcome State Fault Refusal :=
  runDev s (fun d => d.busError)

/-- MC_WEDGED: the management complex has not signalled for WEDGE_MS; MC_ALIVE falls and forwarded requests get NOT_SERVED
(R488). -/
def execMcWedged (s : State) : Host.Outcome State Fault Refusal :=
  runDev s (fun d => d.mcWedged)

/-- MC_SIGNAL_RETURN: the management complex signals again; MC_ALIVE rises and forwarding resumes (R488). -/
def execMcSignalReturn (s : State) : Host.Outcome State Fault Refusal :=
  runDev s (fun d => d.mcReturn)

/-- ISLAND_PARITY: Safety-island state fails its check (R492). -/
def execIslandParity (s : State) : Host.Outcome State Fault Refusal :=
  runDev s (fun d => d.islandParity)

/-- FLASH_COMMAND_DONE: a flash erase or write finishes, its response is sent, and other flash commands are no longer
answered BUSY (R486). -/
def execFlashCommandDone (fail : Bool) (s : State) : Host.Outcome State Fault Refusal :=
  runChip s (fun c => c.flashDone fail)

end Sys2Proof.Machine
end

