-- ==== Sys2Proof/Machine/ExecMx.lean ====
section
/-! DEFINITION. The commands of message matching (MX). -/

namespace Sys2Proof.Machine

/-- POST_RECV: a POST_RECV command binds to an unexpected header or inserts a receive (R147). -/
def execPostRecv (ep entry : Nat) (frags : List Nat) (err : Bool) (s : State) : Host.Outcome State Fault Refusal :=
  runDev s (fun d => d.acceptEntry ep entry frags [] err)

/-- CANCEL_RECV: a CANCEL_RECV command removes one unbound posted receive (R148). -/
def execCancelRecv (ep entry : Nat) (frags : List Nat) (err : Bool) (s : State) : Host.Outcome State Fault Refusal :=
  runDev s (fun d => d.acceptEntry ep entry frags [] err)

/-- SET_UBUF: a SET_UBUF command sets or removes the endpoint's unexpected area (R148). -/
def execSetUbuf (ep entry : Nat) (frags : List Nat) (err : Bool) (s : State) : Host.Outcome State Fault Refusal :=
  runDev s (fun d => d.acceptEntry ep entry frags [] err)

/-- CANCEL_ALL: a CANCEL_ALL command removes every unbound posted receive of a context or all contexts (R148). -/
def execCancelAll (ep entry : Nat) (frags : List Nat) (err : Bool) (s : State) : Host.Outcome State Fault Refusal :=
  runDev s (fun d => d.acceptEntry ep entry frags [] err)

/-- UNEXP_COPY_DONE: the copy of an unexpected eager message into its receive buffer ends, the area is freed and RECV
posts (R154). -/
def execUnexpCopyDone (num : Nat) (s : State) : Host.Outcome State Fault Refusal :=
  runDev s (fun d => d.copyNow num)

/-- FIN: a FIN arrives at the sender and ends its rendezvous SEND (R159). -/
def execFin (p : Packet) (s : State) : Host.Outcome State Fault Refusal :=
  runDev s (fun d => d.ofType p tyFin (fun d => d.arrive p))

/-- RDV_EXPIRED: a rendezvous SEND stays open MX_RDV_LIMIT ticks and posts RDV_EXPIRED (R160). -/
def execRdvExpired (ep index : Nat) (lap : Bool) (s : State) : Host.Outcome State Fault Refusal :=
  runDev s (fun d => d.onCmd ep index lap (fun d c => d.rdvExpire c))

end Sys2Proof.Machine
end

