-- ==== Sys2Proof/Machine/ExecPc.lean ====
section
/-! DEFINITION. The commands of counters and sampling (PC). -/

namespace Sys2Proof.Machine

/-- SAMPLE_CONSUMER_WRITE: a write of PC_SAMP_CONS frees sample records (R425). -/
def execSampleConsumerWrite (value : Nat) (s : State) : Host.Outcome State Fault Refusal :=
  runDev s (fun d => d.coreWrite rPcSampCons 0 value)

/-- SAMP_STATUS_READ: a read of PC_SAMP_STATUS returns and clears LOST and SKIPPED (R428). -/
def execSampStatusRead (s : State) : Host.Outcome State Fault Refusal :=
  runDev s (fun d => d.coreDo (fun d => d.sampStatusRead))

end Sys2Proof.Machine
end

