-- ==== Sys2Proof/Machine/ExecPd.lean ====
section
/-! DEFINITION. The commands of power domains (PD). -/

namespace Sys2Proof.Machine

/-- PD_VOTE: a write of PD_VOTE casts or withdraws software votes for domains (R432). -/
def execPdVote (value : Nat) (s : State) : Host.Outcome State Fault Refusal :=
  runDev s (fun d => d.coreWrite rPdVote 0 value)

/-- DOMAIN_IDLE_EXPIRY: IDLE_DELAY passes after the last vote is withdrawn and the domain begins entry to its floor
(R431). -/
def execDomainIdleExpiry (k : Nat) (s : State) : Host.Outcome State Fault Refusal :=
  runDev s (fun d => d.idleExpiry k)

/-- DOMAIN_ENTRY_DONE: entry to GATED or RETAIN ends (R434). -/
def execDomainEntryDone (k : Nat) (s : State) : Host.Outcome State Fault Refusal :=
  runDev s (fun d => d.entryDone k)

/-- DOM_WAKE: a domain's wake ends; its retention is checked and waiting work proceeds (R433). -/
def execDomWake (k ns : Nat) (good : Bool) (s : State) : Host.Outcome State Fault Refusal :=
  runDev s (fun d => d.domWake k ns good)

/-- HOLD_LONG: a withdrawal waits on transfers for 1,024 µs (R432). -/
def execHoldLong (k : Nat) (s : State) : Host.Outcome State Fault Refusal :=
  runDev s (fun d => d.holdLong k)

/-- DOM_STUCK: a domain stays in transition for 100 µs (R439). -/
def execDomStuck (k : Nat) (s : State) : Host.Outcome State Fault Refusal :=
  runDev s (fun d => d.domStuck k)

/-- BIAS_FAULT: a body-bias generator leaves regulation (R439). -/
def execBiasFault (k : Nat) (s : State) : Host.Outcome State Fault Refusal :=
  runDev s (fun d => d.biasFault k)

/-- ASSIST_FAULT: a memory-assist circuit fails its self-check (R439). -/
def execAssistFault (k : Nat) (s : State) : Host.Outcome State Fault Refusal :=
  runDev s (fun d => d.assistFault k)

/-- RAIL_UV: a retention rail falls below 0.57 V (R439). -/
def execRailUv (k : Nat) (s : State) : Host.Outcome State Fault Refusal :=
  runDev s (fun d => d.railUv k)

/-- PD_PARITY: vote or state logic fails its check and the domain is held ON (R439). -/
def execPdParity (k : Nat) (s : State) : Host.Outcome State Fault Refusal :=
  runDev s (fun d => d.pdParity k)

end Sys2Proof.Machine
end

