-- ==== Sys2Proof/Machine/ExecRl.lean ====
section
/-! DEFINITION. The commands of Relay collectives (RL). -/

namespace Sys2Proof.Machine

/-- GROUP_ENABLE: RL_GRP_CMD ENABLE puts an OFF group into READY after its checks (R171). -/
def execGroupEnable (value : Nat) (s : State) : Host.Outcome State Fault Refusal :=
  runDev s (fun d => d.coreWrite rRlGrpCmd 0 value)

/-- GROUP_DISABLE: RL_GRP_CMD DISABLE turns a group OFF and frees its steps (R170). -/
def execGroupDisable (value : Nat) (s : State) : Host.Outcome State Fault Refusal :=
  runDev s (fun d => d.coreWrite rRlGrpCmd 0 value)

/-- GROUP_ABORT_CMD: RL_GRP_CMD ABORT aborts a group with reason MGMT (R170). -/
def execGroupAbortCmd (value : Nat) (s : State) : Host.Outcome State Fault Refusal :=
  runDev s (fun d => d.coreWrite rRlGrpCmd 0 value)

/-- ALLREDUCE: an ALLREDUCE command contributes to a group step (R172). -/
def execAllreduce (ep entry : Nat) (frags : List Nat) (data : List Byte) (err : Bool) (s : State) : Host.Outcome State
    Fault Refusal :=
  runDev s (fun d => d.acceptEntry ep entry frags data err)

/-- REDUCE: a REDUCE command contributes to a group step (R172). -/
def execReduce (ep entry : Nat) (frags : List Nat) (data : List Byte) (err : Bool) (s : State) : Host.Outcome State Fault
    Refusal :=
  runDev s (fun d => d.acceptEntry ep entry frags data err)

/-- BARRIER: a BARRIER command contributes to a group step (R172). -/
def execBarrier (ep entry : Nat) (frags : List Nat) (data : List Byte) (err : Bool) (s : State) : Host.Outcome State Fault
    Refusal :=
  runDev s (fun d => d.acceptEntry ep entry frags data err)

/-- COLL_ABORT: a COLL_ABORT command aborts the group with reason HOST (R172). -/
def execCollAbort (ep entry : Nat) (frags : List Nat) (data : List Byte) (err : Bool) (s : State) : Host.Outcome State
    Fault Refusal :=
  runDev s (fun d => d.acceptEntry ep entry frags data err)

/-- STEP_CLOSE: at a boundary a due step closes: a non-root sends RL_UP, the root finishes and starts downward delivery
(R183). -/
def execStepClose (s : State) : Host.Outcome State Fault Refusal :=
  runDev s (fun d => d.stepClose)

/-- RL_UP: an upward partial arrives and is combined, refused or acknowledged (R190). -/
def execRlUp (p : Packet) (s : State) : Host.Outcome State Fault Refusal :=
  runDev s (fun d => d.rlUp p)

/-- RL_DOWN: a downward result arrives and is forwarded to children and written to members (R184). -/
def execRlDown (p : Packet) (s : State) : Host.Outcome State Fault Refusal :=
  runDev s (fun d => d.rlDown p)

/-- RL_ACK: an RL_ACK arrives and may finish a step (R184). -/
def execRlAck (p : Packet) (s : State) : Host.Outcome State Fault Refusal :=
  runDev s (fun d => d.rlAckArrive p)

/-- RL_NACK: an RL_NACK arrives and the sender backs off (R191). -/
def execRlNack (p : Packet) (s : State) : Host.Outcome State Fault Refusal :=
  runDev s (fun d => d.rlNackArrive p)

/-- RL_RETRANSMIT: a Relay message's timeout passes; it is reissued or the peer is lost (R191). -/
def execRlRetransmit (num : Nat) (s : State) : Host.Outcome State Fault Refusal :=
  runDev s (fun d => d.onRlMsg num (fun d m => d.rlTimeout m))

/-- PROBE_INTERVAL: PROBE ticks pass while waiting on a peer, and an RL_PROBE is sent (R192). -/
def execProbeInterval (group peer : Nat) (s : State) : Host.Outcome State Fault Refusal :=
  runDev s (fun d => d.rlProbe group peer)

/-- RL_PROBE: an RL_PROBE arrives and is answered with RL_PROBE_ACK (R190). -/
def execRlProbe (p : Packet) (s : State) : Host.Outcome State Fault Refusal :=
  runDev s (fun d => d.rlProbeArrive p)

/-- RL_PROBE_ACK: an RL_PROBE_ACK arrives; an aborted or OFF peer makes the device abort (R192). -/
def execRlProbeAck (p : Packet) (s : State) : Host.Outcome State Fault Refusal :=
  runDev s (fun d => d.rlProbeAckArrive p)

/-- RL_ABORT: an RL_ABORT arrives and is acknowledged (R195). -/
def execRlAbort (p : Packet) (s : State) : Host.Outcome State Fault Refusal :=
  runDev s (fun d => d.rlAbortArrive p)

/-- ABORT_AT_BOUNDARY: at the first boundary after a detected failure the group aborts and spreads RL_ABORT (R195). -/
def execAbortAtBoundary (group : Nat) (s : State) : Host.Outcome State Fault Refusal :=
  runDev s (fun d => d.rlAbortBoundary group)

end Sys2Proof.Machine
end

