-- ==== Sys2Proof/Machine/ExecRt.lean ====
section
/-! DEFINITION. The commands of routing and table epochs (RT). -/

namespace Sys2Proof.Machine

/-- EPOCH_ARM: RT_EPOCH_NEXT with ARM 1 arms an epoch switch at tick n (R220). -/
def execEpochArm (value : Nat) (s : State) : Host.Outcome State Fault Refusal :=
  runDev s (fun d => d.coreWrite rRtEpochNext 0 value)

/-- EPOCH_CANCEL: RT_EPOCH_NEXT with CANCEL 1 disarms an armed switch (R220). -/
def execEpochCancel (value : Nat) (s : State) : Host.Outcome State Fault Refusal :=
  runDev s (fun d => d.coreWrite rRtEpochNext 0 value)

/-- EPOCH_SWITCH: at tick n the shadow copy becomes active and the grace starts (R221). -/
def execEpochSwitch (s : State) : Host.Outcome State Fault Refusal :=
  runDev s (fun d => d.epochSwitch)

/-- EPOCH_GRACE_END: the grace ends and the former copy becomes the shadow (R221). -/
def execEpochGraceEnd (s : State) : Host.Outcome State Fault Refusal :=
  runDev s (fun d => d.graceEnd)

/-- SHADOW_CLEAR: RT_SHADOW_CMD CLEAR invalidates every shadow entry (R219). -/
def execShadowClear (value : Nat) (s : State) : Host.Outcome State Fault Refusal :=
  runDev s (fun d => d.coreWrite rRtShadowCmd 0 value)

/-- SHADOW_COPY: RT_SHADOW_CMD COPY copies the active table into the shadow (R219). -/
def execShadowCopy (value : Nat) (s : State) : Host.Outcome State Fault Refusal :=
  runDev s (fun d => d.coreWrite rRtShadowCmd 0 value)

/-- SHADOW_CMD_DONE: a shadow command completes and BUSY clears (R219). -/
def execShadowCmdDone (s : State) : Host.Outcome State Fault Refusal :=
  runDev s (fun d => d.shadowDone)

/-- TABLE_WRITE: a write of RT_TBL_DATA writes a shadow entry with ECC, checked under R203 (R203). -/
def execTableWrite (value : Nat) (s : State) : Host.Outcome State Fault Refusal :=
  runDev s (fun d => d.coreWrite rRtTblData 0 value)

/-- TABLE_READ: a read of RT_TBL_DATA returns an entry and auto-increments the index (R224). -/
def execTableRead (s : State) : Host.Outcome State Fault Refusal :=
  runDev s (fun d => d.coreDo (fun d => d.tableRead))

/-- SCORE_MESSAGE: a congestion-score message arrives and updates the port's scores (R210). -/
def execScoreMessage (p w : Nat) (s : State) : Host.Outcome State Fault Refusal :=
  runDev s (fun d => d.bypAlone p (fun d => d.bypScore p w))

/-- SCORE_STALE: a port has delivered no valid score for 4 ticks; its scores become 255 (R210). -/
def execScoreStale (p : Nat) (s : State) : Host.Outcome State Fault Refusal :=
  runDev s (fun d => d.scoreStale p)

/-- ESC_TIMEOUT: a packet at the head of an escape channel waits ESC_TIMEOUT ticks and is dropped (R214). -/
def execEscTimeout (p tc : Nat) (s : State) : Host.Outcome State Fault Refusal :=
  runDev s (fun d => d.escTimeout p tc)

/-- RESP_DISCARD: a response not admitted within RESP_WAIT ticks is discarded (R215). -/
def execRespDiscard (s : State) : Host.Outcome State Fault Refusal :=
  runDev s (fun d => d.respDiscard)

end Sys2Proof.Machine
end

