-- ==== Sys2Proof/Machine/ExecSc.lean ====
section
/-! DEFINITION. The commands of port scheduling (SC). -/

namespace Sys2Proof.Machine

/-- SCHEDULER_DECISION: at a frame start an output's scheduler picks the next eligible frame and reads it from the Tun
(R289). -/
def execSchedulerDecision (output t : Nat) (cxl : Bool) (s : State) : Host.Outcome State Fault Refusal :=
  runDev s (fun d => d.decide_ output t cxl)

/-- GATE_SWITCH_ARM: SC_GATE_SWITCH with ARM 1 arms a gate-bank switch at tick n (R293). -/
def execGateSwitchArm (value : Nat) (s : State) : Host.Outcome State Fault Refusal :=
  runDev s (fun d => d.coreWrite rScGateSwitch 0 value)

/-- GATE_SWITCH: at tick n the inactive gate bank becomes active (R293). -/
def execGateSwitch (output : Nat) (s : State) : Host.Outcome State Fault Refusal :=
  runDev s (fun d => d.gateSwitch output)

/-- GATE_ENTRY_CHANGE: an entry's duration ends and the next gate entry opens and closes classes (R292). -/
def execGateEntryChange (output t : Nat) (s : State) : Host.Outcome State Fault Refusal :=
  runDev s (fun d => d.gateChange output t)

/-- PACE_SLOT: a pace-wheel slot passes and its flows are released (R299). -/
def execPaceSlot (t : Nat) (s : State) : Host.Outcome State Fault Refusal :=
  runDev s (fun d => d.paceSlot t)

/-- AGE_BURST: a passed-over class reaches AGE_LIMIT and is granted a guaranteed burst (R301). -/
def execAgeBurst (output tc : Nat) (s : State) : Host.Outcome State Fault Refusal :=
  runDev s (fun d => d.ageBurst output tc)

/-- ESC_HELD: a gate or flow holds an escape frame for half of ESC_TIMEOUT (R301). -/
def execEscHeld (p tc : Nat) (s : State) : Host.Outcome State Fault Refusal :=
  runDev s (fun d => d.escHeld p tc)

end Sys2Proof.Machine
end

