-- ==== Sys2Proof/Machine/ExecSe.lean ====
section
/-! DEFINITION. The commands of security and lifecycle (SE). -/

namespace Sys2Proof.Machine

/-- SE_CHALLENGE: the SE_CHALLENGE command returns a fresh nonce and replaces the old one (R450). -/
def execSeChallenge (bytes : List Byte) (s : State) : Host.Outcome State Fault Refusal :=
  runChip s (fun c => c.eboury bytes (fun op => op == 0x30) (fun f c => c.serveChallenge f))

/-- ATTEST: the ATTEST command returns a signed 432-byte report (R454). -/
def execAttest (bytes : List Byte) (s : State) : Host.Outcome State Fault Refusal :=
  runChip s (fun c => c.eboury bytes (fun op => op == 0x31) (fun f c => c.serveAttest f))

/-- CERT_READ: the CERT_READ command returns the Wevik identity certificate (R443). -/
def execCertRead (bytes : List Byte) (s : State) : Host.Outcome State Fault Refusal :=
  runChip s (fun c => c.eboury bytes (fun op => op == 0x32) (fun f c => c.serveCert f))

/-- LC_ENROLL: LC_ENROLL burns the owner key and moves BLANK to PROVISIONED (R446). -/
def execLcEnroll (bytes : List Byte) (s : State) : Host.Outcome State Fault Refusal :=
  runChip s (fun c => c.eboury bytes (fun op => op == 0x33) (fun f c => c.serveEnroll f))

/-- LC_TO_MISSION: a signed statement with CMD 1 moves PROVISIONED to MISSION (R446). -/
def execLcToMission (bytes : List Byte) (s : State) : Host.Outcome State Fault Refusal :=
  runChip s (fun c => c.eboury bytes (fun op => op == 0x34) (fun f c => c.serveStatement f))

/-- LC_TO_RETURN: a signed statement with CMD 2 moves the device to RETURN (R447). -/
def execLcToReturn (bytes : List Byte) (s : State) : Host.Outcome State Fault Refusal :=
  runChip s (fun c => c.eboury bytes (fun op => op == 0x34) (fun f c => c.serveStatement f))

/-- LC_TO_SCRAPPED: a statement with CMD 3 moves the device to SCRAPPED (R446). -/
def execLcToScrapped (bytes : List Byte) (s : State) : Host.Outcome State Fault Refusal :=
  runChip s (fun c => c.eboury bytes (fun op => op == 0x34) (fun f c => c.serveStatement f))

/-- OWNER_ROTATE: a signed statement with CMD 4 burns a new owner slot and revokes the previous one (R448). -/
def execOwnerRotate (bytes : List Byte) (s : State) : Host.Outcome State Fault Refusal :=
  runChip s (fun c => c.eboury bytes (fun op => op == 0x34) (fun f c => c.serveStatement f))

/-- DEBUG_UNLOCK: a signed statement with CMD 5 opens debug commands within SCOPE for DURATION (R450). -/
def execDebugUnlock (bytes : List Byte) (s : State) : Host.Outcome State Fault Refusal :=
  runChip s (fun c => c.eboury bytes (fun op => op == 0x34) (fun f c => c.serveStatement f))

/-- DEBUG_UNLOCK_END: a debug unlock's DURATION ends (R450). -/
def execDebugUnlockEnd (s : State) : Host.Outcome State Fault Refusal :=
  runDev s (fun d => d.unlockEnd)

/-- NONCE_EXPIRY: the nonce's lifetime ends (R450). -/
def execNonceExpiry (s : State) : Host.Outcome State Fault Refusal :=
  runDev s (fun d => d.nonceExpiry)

/-- SPARGE_DONE: a sparge's read-back ends; a clean Kiln completes it, otherwise it writes zeros again (R453). -/
def execSpargeDone (clean : Bool) (s : State) : Host.Outcome State Fault Refusal :=
  runChip s (fun c => c.spargeDone clean)

/-- ALARM_CLEAR: a write of SE_ALARM.CLEAR releases a Class B alarm (R452). -/
def execAlarmClear (value : Nat) (s : State) : Host.Outcome State Fault Refusal :=
  runDev s (fun d => d.coreWrite rSeAlarm 0 value)

end Sys2Proof.Machine
end

