-- ==== Sys2Proof/Machine/ExecSp.lean ====
section
/-! DEFINITION. The commands of slot power (SP). -/

namespace Sys2Proof.Machine

/-- SLOT_EN_PIN: SLOT_EN_N changes through its 10 µs filter; the slot becomes wanted on, stops being wanted, or its latch
clears (R346). -/
def execSlotEnPin (slot : Nat) (low : Bool) (s : State) : Host.Outcome State Fault Refusal :=
  runDev s (fun d => d.slotPin slot low)

/-- SLOT_CMD_EN: a write of SP_SLOT_CTL.CMD_EN starts or stops a slot or clears its latch (R352). -/
def execSlotCmdEn (slot value : Nat) (s : State) : Host.Outcome State Fault Refusal :=
  runDev s (fun d => d.coreWrite rSpSlotCtl slot value)

/-- SLOT_OFF_NOW: a write of OFF_NOW pulls the gate off within 1 µs and clears CMD_EN (R353). -/
def execSlotOffNow (slot value : Nat) (s : State) : Host.Outcome State Fault Refusal :=
  runDev s (fun d => d.coreWrite rSpSlotCtl slot value)

/-- SLOT_ON: the output has stayed at PG_ON for PG_DELAY after the ramp, and power-good asserts (R350). -/
def execSlotOn (slot fault : Nat) (s : State) : Host.Outcome State Fault Refusal :=
  runDev s (fun d => d.slotOn slot fault)

/-- RAMP_TIMEOUT: RAMP_TO elapses before the ramp ends and the slot trips (R347). -/
def execRampTimeout (slot : Nat) (s : State) : Host.Outcome State Fault Refusal :=
  runDev s (fun d => d.rampTimeout slot)

/-- OVERCURRENT_TRIP: the fault timer reaches FAULT_TIME and the slot latches off (R348). -/
def execOvercurrentTrip (slot : Nat) (s : State) : Host.Outcome State Fault Refusal :=
  runDev s (fun d => d.overcurrent slot)

/-- SHORT_TRIP: the short comparator sees twice I_TRIP and pulls the gate off within 1 µs (R349). -/
def execShortTrip (slot : Nat) (s : State) : Host.Outcome State Fault Refusal :=
  runDev s (fun d => d.shortTrip slot)

/-- OUTPUT_UV: a slot output falls below UV_OUT (R351). -/
def execOutputUv (slot : Nat) (s : State) : Host.Outcome State Fault Refusal :=
  runDev s (fun d => d.outputUv slot)

/-- GATE_FAULT: current flows 10 µs with the hot-swap gate commanded off, and the slot trips (R354). -/
def execGateFault (slot : Nat) (s : State) : Host.Outcome State Fault Refusal :=
  runDev s (fun d => d.gateFault slot)

/-- WARN_LEAD_EXPIRY: WARN_LEAD elapses in WARN_WAIT and the slot's gate turns off (R353). -/
def execWarnLeadExpiry (slot : Nat) (s : State) : Host.Outcome State Fault Refusal :=
  runDev s (fun d => d.warnExpiry slot)

/-- FEED_LOST: a feed falls below 10.8 V (R355). -/
def execFeedLost (group : Nat) (feedB : Bool) (s : State) : Host.Outcome State Fault Refusal :=
  runDev s (fun d => d.feedLost group feedB)

/-- ORING_REVERSE: reverse current through an ORing or bulk MOSFET turns it off within 300 ns (R355). -/
def execOringReverse (bulk : Bool) (num : Nat) (feedB : Bool) (s : State) : Host.Outcome State Fault Refusal :=
  runDev s (fun d => d.oringReverse bulk num feedB)

/-- INPUT_WARN: both rails of a group fall below WARN_LEVEL and SLOT_WARN_N goes low (R356). -/
def execInputWarn (slot : Nat) (s : State) : Host.Outcome State Fault Refusal :=
  runDev s (fun d => d.inputWarn slot)

/-- FEED_TRIM: every 1 µs the group trim adjusts bulk switch drop toward SHARE_A (R358). -/
def execFeedTrim (group iA iB : Nat) (s : State) : Host.Outcome State Fault Refusal :=
  runDev s (fun d => d.feedTrim group iA iB)

/-- FEED_IMBALANCE: the share stays more than 10 points off for 64 ticks (R358). -/
def execFeedImbalance (group : Nat) (s : State) : Host.Outcome State Fault Refusal :=
  runDev s (fun d => d.feedImbalance group)

/-- FEED_GROUP_TRIP: group current exceeds FG_TRIP for FG_FAULT_TIME and both bulk switches latch off (R359). -/
def execFeedGroupTrip (group : Nat) (s : State) : Host.Outcome State Fault Refusal :=
  runDev s (fun d => d.groupTrip group)

/-- FEED_GROUP_CLEAR: a write of SP_FG_CTL.CLEAR clears a group latch (R359). -/
def execFeedGroupClear (group value : Nat) (s : State) : Host.Outcome State Fault Refusal :=
  runDev s (fun d => d.coreWrite rSpFgCtl group value)

/-- FEED_RESTORED: a lost feed or group rail returns: ORing and bulk switches conduct again, trims resume and the input
warning ends so SLOT_WARN_N can be released (R356). -/
def execFeedRestored (group : Nat) (feedB : Bool) (s : State) : Host.Outcome State Fault Refusal :=
  runDev s (fun d => d.feedRestored group feedB)

end Sys2Proof.Machine
end

