-- ==== Sys2Proof/Machine/ExecSt.lean ====
section
/-! DEFINITION. The commands of network time (ST) and register writes. -/

namespace Sys2Proof.Machine

/-- TICK_BOUNDARY: network time reaches n × P and tick n begins; the fixed per-tick work of every block runs (R31). -/
def execTickBoundary (x : TickIn) (s : State) : Host.Outcome State Fault Refusal :=
  runChip s (fun c => c.tickBoundary x)

/-- OVERRUN_PERSIST: one activity's run of ticks with deferred work reaches 64 (R49). -/
def execOverrunPersist (activity : Nat) (s : State) : Host.Outcome State Fault Refusal :=
  runDev s (fun d => d.overrunPersist activity)

/-- REGISTER_WRITE: a write to a register that has no row of its own is judged as a whole and accepted or refused under
the apply classes (R8). -/
def execRegisterWrite (path : RegPath) (bytes value : Nat) (s : State) : Host.Outcome State Fault Refusal :=
  runChip s (fun c => c.registerWrite path bytes value)

/-- TIME_MESSAGE: a time message arrives on a port; the device validates it, computes offset and delay, and steers its
time (R35). -/
def execTimeMessage (p w rx : Nat) (s : State) : Host.Outcome State Fault Refusal :=
  runDev s (fun d => d.bypAlone p (fun d => d.bypTime p w rx))

/-- LOCK_ACQUIRED: the offset to the parent has stayed within ±20 ns for 16 consecutive ticks, and the device enters
LOCKED (R40). -/
def execLockAcquired (s : State) : Host.Outcome State Fault Refusal :=
  runDev s (fun d => d.lockAcquired)

/-- PARENT_SILENT: no time message has come from the parent for 3 ticks; the device changes parent, enters HOLDOVER or
enters UNLOCKED (R40). -/
def execParentSilent (s : State) : Host.Outcome State Fault Refusal :=
  runDev s (fun d => d.parentSilent)

/-- HOLDOVER_TIMEOUT: HOLDOVER has lasted ST_HOLDOVER.TICKS ticks, and the device enters UNLOCKED (R41). -/
def execHoldoverTimeout (s : State) : Host.Outcome State Fault Refusal :=
  runDev s (fun d => d.holdoverTimeout)

/-- TICK_IN_EDGE: a TICK_IN edge at the root marks an exact second, loads an armed seconds count and steers the rate
(R38). -/
def execTickInEdge (edge : TickEdge) (s : State) : Host.Outcome State Fault Refusal :=
  runDev s (fun d => d.tickInEdge edge)

/-- TICKIN_LOST: no TICK_IN edge has arrived for 1.5 s, and the root runs at its last learned rate (R38). -/
def execTickinLost (s : State) : Host.Outcome State Fault Refusal :=
  runDev s (fun d => d.tickInLost)

/-- ROOT_SECONDS_ARM: a write of ST_ROOT_SECONDS arms a seconds count to load at the next TICK_IN edge (R38). -/
def execRootSecondsArm (value : Nat) (s : State) : Host.Outcome State Fault Refusal :=
  runDev s (fun d => d.coreWrite rStRootSeconds 0 value)

/-- SKEW_RESTORED: e has stayed at or below 200 ns for the exit delay, and the device leaves conservative mode (R44). -/
def execSkewRestored (s : State) : Host.Outcome State Fault Refusal :=
  runDev s (fun d => d.skewRestored)

/-- NOT_LOCKED_EXPIRY: a command that has waited L_max ticks for the time unit to lock posts UNREACHABLE with reason
NOT_LOCKED (R42). -/
def execNotLockedExpiry (ep index : Nat) (lap : Bool) (s : State) : Host.Outcome State Fault Refusal :=
  runDev s (fun d => d.notLocked ep index lap)

/-- SELF_MSG_NOT_LOCKED: a message that the device builds itself has waited L_max ticks for lock and is not sent
(R516). -/
def execSelfMsgNotLocked (relay : Bool) (num : Nat) (s : State) : Host.Outcome State Fault Refusal :=
  runDev s (fun d => d.selfNotLocked relay num)

end Sys2Proof.Machine
end

