-- ==== Sys2Proof/Machine/ExecTn.lean ====
section
/-! DEFINITION. The commands of the Tun (TN). -/

namespace Sys2Proof.Machine

/-- ADMIT_WAIT: an internal-input frame waits more than 1 tick for admission (R236). -/
def execAdmitWait (input : Nat) (s : State) : Host.Outcome State Fault Refusal :=
  runDev s (fun d => d.admitWait input)

/-- CAPTURE_COPY: a pending mirror copy takes its turn and is written into the session's capture ring (R241). -/
def execCaptureCopy (session : Nat) (bus : Bool) (s : State) : Host.Outcome State Fault Refusal :=
  runDev s (fun d => d.captureCopy session bus)

/-- CAPTURE_CONSUMER_WRITE: a write of FN_CAP_CI frees capture slots (R244). -/
def execCaptureConsumerWrite (h session value : Nat) (s : State) : Host.Outcome State Fault Refusal :=
  runDev s (fun d => d.fnWrite h rFnCapCi session value)

/-- SESSION_DISABLE: a write of TN_SES_CTL.EN 0 discards the session's pending copies (R243). -/
def execSessionDisable (session value : Nat) (s : State) : Host.Outcome State Fault Refusal :=
  runDev s (fun d => d.coreWrite rTnSesCtl session value)

/-- TN_PEAK_READ: a read of TN_PEAK returns and clears the peak cell count (R248). -/
def execTnPeakRead (s : State) : Host.Outcome State Fault Refusal :=
  runDev s (fun d => d.coreDo (fun d => d.peakRead))

/-- SES_LOST_READ: a read of TN_SES_LOST returns and clears the lost-copy count (R248). -/
def execSesLostRead (session : Nat) (s : State) : Host.Outcome State Fault Refusal :=
  runDev s (fun d => d.coreDo (fun d => d.sesLostRead session))

end Sys2Proof.Machine
end

