-- ==== Sys2Proof/Machine/ExecTp.lean ====
section
/-! DEFINITION. The commands of reliable transport (TP). -/

namespace Sys2Proof.Machine

/-- PUT: a PUT entry is accepted and split into messages (R118). -/
def execPut (ep entry : Nat) (frags : List Nat) (err : Bool) (s : State) : Host.Outcome State Fault Refusal :=
  runDev s (fun d => d.acceptEntry ep entry frags [] err)

/-- GET: a GET entry is accepted and split into messages (R118). -/
def execGet (ep entry : Nat) (frags : List Nat) (err : Bool) (s : State) : Host.Outcome State Fault Refusal :=
  runDev s (fun d => d.acceptEntry ep entry frags [] err)

/-- SEND: a SEND entry is accepted as one eager message or an RTS (R118). -/
def execSend (ep entry : Nat) (frags : List Nat) (err : Bool) (s : State) : Host.Outcome State Fault Refusal :=
  runDev s (fun d => d.acceptEntry ep entry frags [] err)

/-- ATOMIC: an ATOMIC entry is accepted as one message (R118). -/
def execAtomic (ep entry : Nat) (frags : List Nat) (err : Bool) (s : State) : Host.Outcome State Fault Refusal :=
  runDev s (fun d => d.acceptEntry ep entry frags [] err)

/-- PUT_SIGNAL: a PUT_SIGNAL entry is accepted; its last message carries the signal (R120). -/
def execPutSignal (ep entry : Nat) (frags : List Nat) (err : Bool) (s : State) : Host.Outcome State Fault Refusal :=
  runDev s (fun d => d.acceptEntry ep entry frags [] err)

/-- MESSAGE_FIRST_SEND: a message takes window credit, a MSG_ID and its first-send tick, and sends its packets (R128). -/
def execMessageFirstSend (node : Nat) (s : State) : Host.Outcome State Fault Refusal :=
  runDev s (fun d => d.firstSend node)

/-- REQUEST_ARRIVAL: a transport request packet arrives at the target and runs the arrival steps (R131). -/
def execRequestArrival (p : Packet) (s : State) : Host.Outcome State Fault Refusal :=
  runDev s (fun d => d.arrive p)

/-- ACK_ARRIVAL: an ACK arrives at the initiator, ends its message and may post the command's CMD_DONE (R136). -/
def execAckArrival (p : Packet) (s : State) : Host.Outcome State Fault Refusal :=
  runDev s (fun d => d.ofType p tyAck (fun d => d.ackArrive p))

/-- GET_RESP_ARRIVAL: a GET_RESP packet arrives, is written and counted in the GET's Baton counter (R136). -/
def execGetRespArrival (p : Packet) (s : State) : Host.Outcome State Fault Refusal :=
  runDev s (fun d => d.ofType p tyGetResp (fun d => d.getRespArrive p))

/-- NACK_ARRIVAL: a NACK stops the message's sending and schedules a resend after its hint (R138). -/
def execNackArrival (p : Packet) (s : State) : Host.Outcome State Fault Refusal :=
  runDev s (fun d => d.ofType p tyNack (fun d => d.nackArrive p))

/-- RETRANSMIT_TIMEOUT: RTO passes with no reply, and the message is reissued or fails UNREACHABLE (R138). -/
def execRetransmitTimeout (id : Nat) (s : State) : Host.Outcome State Fault Refusal :=
  runDev s (fun d => d.onMsg id (fun d m => d.timeout m))

/-- BACKOFF_EXPIRY: the NACK hint passes, and the whole message is sent again (R138). -/
def execBackoffExpiry (id : Nat) (s : State) : Host.Outcome State Fault Refusal :=
  runDev s (fun d => d.backoffOver id)

/-- MESSAGE_LIFETIME_EXPIRY: a message's age reaches L_max + 2 ticks without an outcome and it fails UNREACHABLE
(R138). -/
def execMessageLifetimeExpiry (id : Nat) (s : State) : Host.Outcome State Fault Refusal :=
  runDev s (fun d => d.onMsg id (fun d m => d.lifetime m))

/-- RECORD_EXPIRY: a COMPLETED record has been kept L_max + 8 ticks and is freed (R139). -/
def execRecordExpiry (node id fst : Nat) (s : State) : Host.Outcome State Fault Refusal :=
  runDev s (fun d => d.onRec node id fst (fun d r => d.expireRec r))

end Sys2Proof.Machine
end

