-- ==== Sys2Proof/Machine/ExecTw.lean ====
section
/-! DEFINITION. The commands of twin pairs (TW). -/

namespace Sys2Proof.Machine

/-- TWIN_HEARTBEAT: a twin heartbeat arrives, resets the miss count and carries the twin's state and mirror
acknowledgement (R371). -/
def execTwinHeartbeat (p w : Nat) (ok : Bool) (s : State) : Host.Outcome State Fault Refusal :=
  runDev s (fun d => d.bypAlone p (fun d => d.bypHeartbeat p w ok))

/-- HEARTBEAT_MISS_LIMIT: the miss count reaches 4 and the pair enters PROBING (R376). -/
def execHeartbeatMissLimit (s : State) : Host.Outcome State Fault Refusal :=
  runDev s (fun d => d.missLimit)

/-- SELF_FENCE: the TW unit issues no heartbeat at 2 boundaries while PAIRED; the island releases the charge pumps and the
lease (R369). -/
def execSelfFence (s : State) : Host.Outcome State Fault Refusal :=
  runDev s (fun d => d.selfFence)

/-- TWIN_PROBE: a twin probe arrives and is answered, forwarded or discarded (R377). -/
def execTwinProbe (p w : Nat) (s : State) : Host.Outcome State Fault Refusal :=
  runDev s (fun d => d.bypAlone p (fun d => d.bypProbe p w))

/-- PROBE_WAIT_EXPIRY: PROBE_WAIT passes with no reply and the survivor takes over (R378). -/
def execProbeWaitExpiry (ok : Bool) (s : State) : Host.Outcome State Fault Refusal :=
  runDev s (fun d => d.probeExpiry ok)

/-- MIRROR_RECORD: a mirror record arrives and is accepted in SEQ order or discarded (R374). -/
def execMirrorRecord (p w : Nat) (s : State) : Host.Outcome State Fault Refusal :=
  runDev s (fun d => d.bypAlone p (fun d => d.bypMirror p w))

/-- MIRROR_APPLY: a held mirror record's tick arrives and the standby applies it (R375). -/
def execMirrorApply (seq : Nat) (s : State) : Host.Outcome State Fault Refusal :=
  runDev s (fun d => d.mirrorApply seq)

/-- MIRROR_CANCEL: at the boundary before its tick an unacknowledged Malthouse change is cancelled (R375). -/
def execMirrorCancel (seq : Nat) (s : State) : Host.Outcome State Fault Refusal :=
  runDev s (fun d => d.mirrorCancel seq)

/-- ALONE_WAIT_EXPIRY: no pair forms within ALONE_WAIT and the device takes over alone (R379). -/
def execAloneWaitExpiry (ok : Bool) (s : State) : Host.Outcome State Fault Refusal :=
  runDev s (fun d => d.aloneExpiry ok)

/-- GIVE_BACK: TW_CMD.GIVE_BACK schedules the return of adopted slots and groups at a tick (R379). -/
def execGiveBack (value : Nat) (s : State) : Host.Outcome State Fault Refusal :=
  runDev s (fun d => d.coreWrite rTwCmd 0 value)

/-- HANDOVER: TW_CMD.HANDOVER schedules the twin to become primary at a tick with TERM + 1 (R381). -/
def execHandover (value : Nat) (s : State) : Host.Outcome State Fault Refusal :=
  runDev s (fun d => d.coreWrite rTwCmd 0 value)

/-- TWIN_CMD_APPLY: the tick of a GIVE_BACK or HANDOVER arrives and the action takes effect (R379). -/
def execTwinCmdApply (ok : Bool) (s : State) : Host.Outcome State Fault Refusal :=
  runDev s (fun d => d.twCmdApply ok)

end Sys2Proof.Machine
end

