-- ==== Sys2Proof/Machine/ExecWn.lean ====
section
/-! DEFINITION. The commands of remote memory windows (WN). -/

namespace Sys2Proof.Machine

/-- WINDOW_READ: a CXL.mem read to the window device hits the line cache or misses and fills (R333). -/
def execWindowRead (host tag dpa : Nat) (s : State) : Host.Outcome State Fault Refusal :=
  runDev s (fun d => d.windowRead host tag dpa)

/-- WINDOW_WRITE: a CXL.mem write to the window device writes the line cache or is discarded (R333). -/
def execWindowWrite (host tag dpa mask data : Nat) (s : State) : Host.Outcome State Fault Refusal :=
  runDev s (fun d => d.windowWrite host tag dpa mask data)

/-- FILL_RESPONSE: fill data arrives and fills untouched sectors; waiting reads complete (R334). -/
def execFillResponse (p : Packet) (s : State) : Host.Outcome State Fault Refusal :=
  runDev s (fun d => d.ofType p tyGetResp (fun d => d.getRespArrive p))

/-- READ_TIMEOUT: a window read waits READ_TO ticks and completes with poison (R335). -/
def execReadTimeout (host tag : Nat) (s : State) : Host.Outcome State Fault Refusal :=
  runDev s (fun d => d.readTimeout host tag)

/-- WB_DELAY_EXPIRY: WB_DELAY ticks after a line first became dirty, it is written back (R336). -/
def execWbDelayExpiry (window line : Nat) (s : State) : Host.Outcome State Fault Refusal :=
  runDev s (fun d => d.wbExpiry window line)

/-- WN_FLUSH_RANGE: FN_WN_CMD scope range flushes, or flushes and drops, the lines of a host range (R338). -/
def execWnFlushRange (h value : Nat) (s : State) : Host.Outcome State Fault Refusal :=
  runDev s (fun d => d.fnWrite h rFnWnCmd 0 value)

/-- WN_FLUSH_WINDOW: FN_WN_CMD scope window flushes one window (R338). -/
def execWnFlushWindow (h value : Nat) (s : State) : Host.Outcome State Fault Refusal :=
  runDev s (fun d => d.fnWrite h rFnWnCmd 0 value)

/-- WN_FLUSH_FUNCTION: FN_WN_CMD scope 2 flushes every window that serves the function (R338). -/
def execWnFlushFunction (h value : Nat) (s : State) : Host.Outcome State Fault Refusal :=
  runDev s (fun d => d.fnWrite h rFnWnCmd 0 value)

/-- FLUSH_DONE: every covered dirty line is written back and the flush command completes (R338). -/
def execFlushDone (h : Nat) (s : State) : Host.Outcome State Fault Refusal :=
  runDev s (fun d => d.flushDone h)

/-- WINDOW_ENABLE: WN_WIN_CMD ENABLE makes an OFF window ACTIVE after its checks (R340). -/
def execWindowEnable (value : Nat) (s : State) : Host.Outcome State Fault Refusal :=
  runDev s (fun d => d.coreWrite rWnWinCmd 0 value)

/-- WINDOW_DISABLE: WN_WIN_CMD DISABLE drains an ACTIVE window or turns a FENCED window OFF (R340). -/
def execWindowDisable (value : Nat) (s : State) : Host.Outcome State Fault Refusal :=
  runDev s (fun d => d.coreWrite rWnWinCmd 0 value)

/-- WINDOW_FLUSH: WN_WIN_CMD FLUSH flushes one ACTIVE window (R340). -/
def execWindowFlush (value : Nat) (s : State) : Host.Outcome State Fault Refusal :=
  runDev s (fun d => d.coreWrite rWnWinCmd 0 value)

/-- DRAIN_DONE: a DRAINING window's write-backs end; it becomes OFF or FENCED (R340). -/
def execDrainDone (window : Nat) (s : State) : Host.Outcome State Fault Refusal :=
  runDev s (fun d => d.drainDone window)

/-- MSG_WAIT: a window message waits more than 1 tick for a table entry or credit (R339). -/
def execMsgWait (num : Nat) (s : State) : Host.Outcome State Fault Refusal :=
  runDev s (fun d => d.msgWait num)

/-- WN_FILL: a WN_FILL arrives at the home and is answered with GET_RESP (R339). -/
def execWnFill (p : Packet) (s : State) : Host.Outcome State Fault Refusal :=
  runDev s (fun d => d.ofType p tyWnFill (fun d => d.arrive p))

/-- WN_WRITE: a WN_WRITE arrives at the home and is written and acknowledged like a PUT (R339). -/
def execWnWrite (p : Packet) (s : State) : Host.Outcome State Fault Refusal :=
  runDev s (fun d => d.ofType p tyWnWrite (fun d => d.arrive p))

end Sys2Proof.Machine
end

