-- ==== Sys2Proof/Machine/ExecXl.lean ====
section
/-! DEFINITION. The commands of address translation (XL). -/

namespace Sys2Proof.Machine

/-- TABLE_WALK_READ: a read of a descriptor, table entry or key entry returns, and the walk continues, fills the cache or
faults (R100). -/
def execTableWalkRead (walk : Nat) (err : Bool) (data mem : Nat) (s : State) : Host.Outcome State Fault Refusal :=
  runDev s (fun d => d.walkReadDone walk err data mem)

/-- TRANSLATION_AGE_OUT: the ageing sweep removes an unpinned entry whose age has reached XL_AGE_LIMIT (R104). -/
def execTranslationAgeOut (place : Nat) (s : State) : Host.Outcome State Fault Refusal :=
  runDev s (fun d => d.ageOut place)

/-- INVALIDATE_RANGE: an invalidate command of scope range removes the leaves, walk entries and key entries of a tag that
overlap the range (R106). -/
def execInvalidateRange (h value : Nat) (s : State) : Host.Outcome State Fault Refusal :=
  runDev s (fun d => d.fnWrite h rFnXlInvCmd 0 value)

/-- INVALIDATE_TAG: an invalidate command of scope tag removes every entry of one tag (R106). -/
def execInvalidateTag (h value : Nat) (s : State) : Host.Outcome State Fault Refusal :=
  runDev s (fun d => d.fnWrite h rFnXlInvCmd 0 value)

/-- INVALIDATE_FUNCTION: an invalidate command of scope function removes every entry of every tag of the function
(R106). -/
def execInvalidateFunction (h value : Nat) (s : State) : Host.Outcome State Fault Refusal :=
  runDev s (fun d => d.fnWrite h rFnXlInvCmd 0 value)

/-- INVALIDATE_DEVICE: XL_INV_CMD with scope 3 removes every entry of the whole device (R106). -/
def execInvalidateDevice (value : Nat) (s : State) : Host.Outcome State Fault Refusal :=
  runDev s (fun d => d.coreWrite rXlInvCmd 0 value)

/-- INV_DONE: an invalidate completes; DONE_SEQ takes SEQ and BUSY clears (R107). -/
def execInvDone (unit_ : Nat) (s : State) : Host.Outcome State Fault Refusal :=
  runDev s (fun d => d.invDone unit_)

/-- INV_SLOW: an invalidate is still BUSY after 64 ticks (R107). -/
def execInvSlow (unit_ : Nat) (s : State) : Host.Outcome State Fault Refusal :=
  runDev s (fun d => d.invSlow unit_)

/-- PAGE_RESUME: an EP_PAGE_DB write with FAIL 0 resumes a page request (R111). -/
def execPageResume (h ep value : Nat) (s : State) : Host.Outcome State Fault Refusal :=
  runDev s (fun d => d.epWrite h ep rEpPageDb value)

/-- PAGE_FAIL: an EP_PAGE_DB write with FAIL 1 fails a page request (R111). -/
def execPageFail (h ep value : Nat) (s : State) : Host.Outcome State Fault Refusal :=
  runDev s (fun d => d.epWrite h ep rEpPageDb value)

/-- PRQ_TIMEOUT: a page-request record reaches XL_PRQ_TIMEOUT unanswered (R111). -/
def execPrqTimeout (id : Nat) (s : State) : Host.Outcome State Fault Refusal :=
  runDev s (fun d => d.prqTimeout id)

/-- PAGE_FAILED_EXPIRY: a FAILED target record has been kept for L_max + 2 ticks and is freed (R112). -/
def execPageFailedExpiry (id : Nat) (s : State) : Host.Outcome State Fault Refusal :=
  runDev s (fun d => d.failedExpiry id)

end Sys2Proof.Machine
end

