-- ==== Sys2Proof/Machine/Dispatch.lean ====
section
/-! DEFINITION. The dispatch of a command to its meaning. -/

namespace Sys2Proof.Machine

def exec (i : Instr) (s : State) : Host.Outcome State Fault Refusal :=
  match i with
  | .tickBoundary x => Sys2Proof.Machine.execTickBoundary x s
  | .overrunPersist activity => Sys2Proof.Machine.execOverrunPersist activity s
  | .registerWrite path bytes value => Sys2Proof.Machine.execRegisterWrite path bytes value s
  | .timeMessage p w rx => Sys2Proof.Machine.execTimeMessage p w rx s
  | .lockAcquired => Sys2Proof.Machine.execLockAcquired s
  | .parentSilent => Sys2Proof.Machine.execParentSilent s
  | .holdoverTimeout => Sys2Proof.Machine.execHoldoverTimeout s
  | .tickInEdge at_ => Sys2Proof.Machine.execTickInEdge at_ s
  | .tickinLost => Sys2Proof.Machine.execTickinLost s
  | .rootSecondsArm value => Sys2Proof.Machine.execRootSecondsArm value s
  | .skewRestored => Sys2Proof.Machine.execSkewRestored s
  | .notLockedExpiry ep index lap => Sys2Proof.Machine.execNotLockedExpiry ep index lap s
  | .selfMsgNotLocked relay num => Sys2Proof.Machine.execSelfMsgNotLocked relay num s
  | .commandDoorbell h ep value => Sys2Proof.Machine.execCommandDoorbell h ep value s
  | .eventDoorbell h ep value => Sys2Proof.Machine.execEventDoorbell h ep value s
  | .interruptArm h ep value => Sys2Proof.Machine.execInterruptArm h ep value s
  | .endpointEnable h ep value => Sys2Proof.Machine.execEndpointEnable h ep value s
  | .endpointDisable h ep value => Sys2Proof.Machine.execEndpointDisable h ep value s
  | .ringResume h ep value => Sys2Proof.Machine.execRingResume h ep value s
  | .lapReread ring => Sys2Proof.Machine.execLapReread ring s
  | .nop ep entry frags err => Sys2Proof.Machine.execNop ep entry frags err s
  | .put ep entry frags err => Sys2Proof.Machine.execPut ep entry frags err s
  | .get ep entry frags err => Sys2Proof.Machine.execGet ep entry frags err s
  | .send ep entry frags err => Sys2Proof.Machine.execSend ep entry frags err s
  | .atomic ep entry frags err => Sys2Proof.Machine.execAtomic ep entry frags err s
  | .putSignal ep entry frags err => Sys2Proof.Machine.execPutSignal ep entry frags err s
  | .controlDoorbell h value => Sys2Proof.Machine.execControlDoorbell h value s
  | .controlEventDoorbell h value => Sys2Proof.Machine.execControlEventDoorbell h value s
  | .createEp h entry err => Sys2Proof.Machine.execCreateEp h entry err s
  | .destroyEp h entry err => Sys2Proof.Machine.execDestroyEp h entry err s
  | .modifyEp h entry err => Sys2Proof.Machine.execModifyEp h entry err s
  | .queryEp h entry err copyErr => Sys2Proof.Machine.execQueryEp h entry err copyErr s
  | .functionReset from_ h => Sys2Proof.Machine.execFunctionReset from_ h s
  | .caskFetchDone ep err => Sys2Proof.Machine.execCaskFetchDone ep err s
  | .caskSlow ep => Sys2Proof.Machine.execCaskSlow ep s
  | .maintenanceEntry entries => Sys2Proof.Machine.execMaintenanceEntry entries s
  | .mqStall queue => Sys2Proof.Machine.execMqStall queue s
  | .incompletePosted node id fst => Sys2Proof.Machine.execIncompletePosted node id fst s
  | .tableWalkRead walk err data mem => Sys2Proof.Machine.execTableWalkRead walk err data mem s
  | .translationAgeOut place => Sys2Proof.Machine.execTranslationAgeOut place s
  | .invalidateRange h value => Sys2Proof.Machine.execInvalidateRange h value s
  | .invalidateTag h value => Sys2Proof.Machine.execInvalidateTag h value s
  | .invalidateFunction h value => Sys2Proof.Machine.execInvalidateFunction h value s
  | .invalidateDevice value => Sys2Proof.Machine.execInvalidateDevice value s
  | .invDone unit_ => Sys2Proof.Machine.execInvDone unit_ s
  | .invSlow unit_ => Sys2Proof.Machine.execInvSlow unit_ s
  | .pageResume h ep value => Sys2Proof.Machine.execPageResume h ep value s
  | .pageFail h ep value => Sys2Proof.Machine.execPageFail h ep value s
  | .prqTimeout id => Sys2Proof.Machine.execPrqTimeout id s
  | .pageFailedExpiry id => Sys2Proof.Machine.execPageFailedExpiry id s
  | .messageFirstSend node => Sys2Proof.Machine.execMessageFirstSend node s
  | .requestArrival p => Sys2Proof.Machine.execRequestArrival p s
  | .ackArrival p => Sys2Proof.Machine.execAckArrival p s
  | .getRespArrival p => Sys2Proof.Machine.execGetRespArrival p s
  | .nackArrival p => Sys2Proof.Machine.execNackArrival p s
  | .retransmitTimeout id => Sys2Proof.Machine.execRetransmitTimeout id s
  | .backoffExpiry id => Sys2Proof.Machine.execBackoffExpiry id s
  | .messageLifetimeExpiry id => Sys2Proof.Machine.execMessageLifetimeExpiry id s
  | .recordExpiry node id fst => Sys2Proof.Machine.execRecordExpiry node id fst s
  | .postRecv ep entry frags err => Sys2Proof.Machine.execPostRecv ep entry frags err s
  | .cancelRecv ep entry frags err => Sys2Proof.Machine.execCancelRecv ep entry frags err s
  | .setUbuf ep entry frags err => Sys2Proof.Machine.execSetUbuf ep entry frags err s
  | .cancelAll ep entry frags err => Sys2Proof.Machine.execCancelAll ep entry frags err s
  | .unexpCopyDone num => Sys2Proof.Machine.execUnexpCopyDone num s
  | .fin p => Sys2Proof.Machine.execFin p s
  | .rdvExpired ep index lap => Sys2Proof.Machine.execRdvExpired ep index lap s
  | .groupEnable value => Sys2Proof.Machine.execGroupEnable value s
  | .groupDisable value => Sys2Proof.Machine.execGroupDisable value s
  | .groupAbortCmd value => Sys2Proof.Machine.execGroupAbortCmd value s
  | .allreduce ep entry frags data err => Sys2Proof.Machine.execAllreduce ep entry frags data err s
  | .reduce ep entry frags data err => Sys2Proof.Machine.execReduce ep entry frags data err s
  | .barrier ep entry frags data err => Sys2Proof.Machine.execBarrier ep entry frags data err s
  | .collAbort ep entry frags data err => Sys2Proof.Machine.execCollAbort ep entry frags data err s
  | .stepClose => Sys2Proof.Machine.execStepClose s
  | .rlUp p => Sys2Proof.Machine.execRlUp p s
  | .rlDown p => Sys2Proof.Machine.execRlDown p s
  | .rlAck p => Sys2Proof.Machine.execRlAck p s
  | .rlNack p => Sys2Proof.Machine.execRlNack p s
  | .rlRetransmit num => Sys2Proof.Machine.execRlRetransmit num s
  | .probeInterval group peer => Sys2Proof.Machine.execProbeInterval group peer s
  | .rlProbe p => Sys2Proof.Machine.execRlProbe p s
  | .rlProbeAck p => Sys2Proof.Machine.execRlProbeAck p s
  | .rlAbort p => Sys2Proof.Machine.execRlAbort p s
  | .abortAtBoundary group => Sys2Proof.Machine.execAbortAtBoundary group s
  | .epochArm value => Sys2Proof.Machine.execEpochArm value s
  | .epochCancel value => Sys2Proof.Machine.execEpochCancel value s
  | .epochSwitch => Sys2Proof.Machine.execEpochSwitch s
  | .epochGraceEnd => Sys2Proof.Machine.execEpochGraceEnd s
  | .shadowClear value => Sys2Proof.Machine.execShadowClear value s
  | .shadowCopy value => Sys2Proof.Machine.execShadowCopy value s
  | .shadowCmdDone => Sys2Proof.Machine.execShadowCmdDone s
  | .tableWrite value => Sys2Proof.Machine.execTableWrite value s
  | .tableRead => Sys2Proof.Machine.execTableRead s
  | .scoreMessage p w => Sys2Proof.Machine.execScoreMessage p w s
  | .scoreStale p => Sys2Proof.Machine.execScoreStale p s
  | .escTimeout p tc => Sys2Proof.Machine.execEscTimeout p tc s
  | .respDiscard => Sys2Proof.Machine.execRespDiscard s
  | .admitWait input => Sys2Proof.Machine.execAdmitWait input s
  | .flitReceive p t w failed ok => Sys2Proof.Machine.execFlitReceive p t w failed ok s
  | .schedulerDecision output t cxl => Sys2Proof.Machine.execSchedulerDecision output t cxl s
  | .captureCopy session bus => Sys2Proof.Machine.execCaptureCopy session bus s
  | .captureConsumerWrite h session value => Sys2Proof.Machine.execCaptureConsumerWrite h session value s
  | .sessionDisable session value => Sys2Proof.Machine.execSessionDisable session value s
  | .tnPeakRead => Sys2Proof.Machine.execTnPeakRead s
  | .sesLostRead session => Sys2Proof.Machine.execSesLostRead session s
  | .controlFlit p w => Sys2Proof.Machine.execControlFlit p w s
  | .bypassFlit p rx w failed ok => Sys2Proof.Machine.execBypassFlit p rx w failed ok s
  | .creditAudit p w => Sys2Proof.Machine.execCreditAudit p w s
  | .auditPersist p => Sys2Proof.Machine.execAuditPersist p s
  | .peerSilent p => Sys2Proof.Machine.execPeerSilent p s
  | .creditTimeout p => Sys2Proof.Machine.execCreditTimeout p s
  | .portRetrain p value => Sys2Proof.Machine.execPortRetrain p value s
  | .portEnable p value => Sys2Proof.Machine.execPortEnable p value s
  | .portHold p value => Sys2Proof.Machine.execPortHold p value s
  | .holddownEnd p => Sys2Proof.Machine.execHolddownEnd p s
  | .hello p w => Sys2Proof.Machine.execHello p w s
  | .fillerBlock l pos arrived fill levels => Sys2Proof.Machine.execFillerBlock l pos arrived fill levels s
  | .codewordReceive l levels => Sys2Proof.Machine.execCodewordReceive l levels s
  | .refLost r => Sys2Proof.Machine.execRefLost r s
  | .trainTimeout p => Sys2Proof.Machine.execTrainTimeout p s
  | .prbsLockLost l => Sys2Proof.Machine.execPrbsLockLost l s
  | .fecSymRead => Sys2Proof.Machine.execFecSymRead s
  | .fecCwRead => Sys2Proof.Machine.execFecCwRead s
  | .fecUncorrRead => Sys2Proof.Machine.execFecUncorrRead s
  | .prbsErrRead => Sys2Proof.Machine.execPrbsErrRead s
  | .fabricD2dFault tile => Sys2Proof.Machine.execFabricD2dFault tile s
  | .cxlD2dFault tile => Sys2Proof.Machine.execCxlD2dFault tile s
  | .gateSwitchArm value => Sys2Proof.Machine.execGateSwitchArm value s
  | .gateSwitch output => Sys2Proof.Machine.execGateSwitch output s
  | .gateEntryChange output t => Sys2Proof.Machine.execGateEntryChange output t s
  | .paceSlot t => Sys2Proof.Machine.execPaceSlot t s
  | .ageBurst output tc => Sys2Proof.Machine.execAgeBurst output tc s
  | .escHeld p tc => Sys2Proof.Machine.execEscHeld p tc s
  | .cxlMemRequest k tc len m => Sys2Proof.Machine.execCxlMemRequest k tc len m s
  | .cxlIoRequest k r => Sys2Proof.Machine.execCxlIoRequest k r s
  | .cxlMemResponse q host tag tc len poison data => Sys2Proof.Machine.execCxlMemResponse q host tag tc len poison data s
  | .memTimeout k host tag => Sys2Proof.Machine.execMemTimeout k host tag s
  | .bind from_ => Sys2Proof.Machine.execBind from_ s
  | .unbind from_ => Sys2Proof.Machine.execUnbind from_ s
  | .ldAlloc from_ => Sys2Proof.Machine.execLdAlloc from_ s
  | .dcAdd from_ => Sys2Proof.Machine.execDcAdd from_ s
  | .dcRelease from_ => Sys2Proof.Machine.execDcRelease from_ s
  | .bindingApply queue tag => Sys2Proof.Machine.execBindingApply queue tag s
  | .unbindHostAction h v => Sys2Proof.Machine.execUnbindHostAction h v s
  | .unbindTimeout h v => Sys2Proof.Machine.execUnbindTimeout h v s
  | .dcHostResponse h action port ld dpa len => Sys2Proof.Machine.execDcHostResponse h action port ld dpa len s
  | .dcTimeout h => Sys2Proof.Machine.execDcTimeout h s
  | .surpriseRemoval k link => Sys2Proof.Machine.execSurpriseRemoval k link s
  | .containmentUnbind k => Sys2Proof.Machine.execContainmentUnbind k s
  | .cxlPortTrained k partner => Sys2Proof.Machine.execCxlPortTrained k partner s
  | .hostDown k => Sys2Proof.Machine.execHostDown k s
  | .containClear k value => Sys2Proof.Machine.execContainClear k value s
  | .windowRead host tag dpa => Sys2Proof.Machine.execWindowRead host tag dpa s
  | .windowWrite host tag dpa mask data => Sys2Proof.Machine.execWindowWrite host tag dpa mask data s
  | .fillResponse p => Sys2Proof.Machine.execFillResponse p s
  | .readTimeout host tag => Sys2Proof.Machine.execReadTimeout host tag s
  | .wbDelayExpiry window line => Sys2Proof.Machine.execWbDelayExpiry window line s
  | .wnFlushRange h value => Sys2Proof.Machine.execWnFlushRange h value s
  | .wnFlushWindow h value => Sys2Proof.Machine.execWnFlushWindow h value s
  | .wnFlushFunction h value => Sys2Proof.Machine.execWnFlushFunction h value s
  | .flushDone h => Sys2Proof.Machine.execFlushDone h s
  | .windowEnable value => Sys2Proof.Machine.execWindowEnable value s
  | .windowDisable value => Sys2Proof.Machine.execWindowDisable value s
  | .windowFlush value => Sys2Proof.Machine.execWindowFlush value s
  | .drainDone window => Sys2Proof.Machine.execDrainDone window s
  | .msgWait num => Sys2Proof.Machine.execMsgWait num s
  | .wnFill p => Sys2Proof.Machine.execWnFill p s
  | .wnWrite p => Sys2Proof.Machine.execWnWrite p s
  | .slotEnPin slot low => Sys2Proof.Machine.execSlotEnPin slot low s
  | .slotCmdEn slot value => Sys2Proof.Machine.execSlotCmdEn slot value s
  | .slotOffNow slot value => Sys2Proof.Machine.execSlotOffNow slot value s
  | .slotOn slot fault => Sys2Proof.Machine.execSlotOn slot fault s
  | .rampTimeout slot => Sys2Proof.Machine.execRampTimeout slot s
  | .overcurrentTrip slot => Sys2Proof.Machine.execOvercurrentTrip slot s
  | .shortTrip slot => Sys2Proof.Machine.execShortTrip slot s
  | .outputUv slot => Sys2Proof.Machine.execOutputUv slot s
  | .gateFault slot => Sys2Proof.Machine.execGateFault slot s
  | .warnLeadExpiry slot => Sys2Proof.Machine.execWarnLeadExpiry slot s
  | .feedLost group feedB => Sys2Proof.Machine.execFeedLost group feedB s
  | .oringReverse bulk num feedB => Sys2Proof.Machine.execOringReverse bulk num feedB s
  | .inputWarn slot => Sys2Proof.Machine.execInputWarn slot s
  | .feedTrim group iA iB => Sys2Proof.Machine.execFeedTrim group iA iB s
  | .feedImbalance group => Sys2Proof.Machine.execFeedImbalance group s
  | .feedGroupTrip group => Sys2Proof.Machine.execFeedGroupTrip group s
  | .feedGroupClear group value => Sys2Proof.Machine.execFeedGroupClear group value s
  | .twinHeartbeat p w ok => Sys2Proof.Machine.execTwinHeartbeat p w ok s
  | .heartbeatMissLimit => Sys2Proof.Machine.execHeartbeatMissLimit s
  | .selfFence => Sys2Proof.Machine.execSelfFence s
  | .twinProbe p w => Sys2Proof.Machine.execTwinProbe p w s
  | .probeWaitExpiry ok => Sys2Proof.Machine.execProbeWaitExpiry ok s
  | .mirrorRecord p w => Sys2Proof.Machine.execMirrorRecord p w s
  | .mirrorApply seq => Sys2Proof.Machine.execMirrorApply seq s
  | .mirrorCancel seq => Sys2Proof.Machine.execMirrorCancel seq s
  | .aloneWaitExpiry ok => Sys2Proof.Machine.execAloneWaitExpiry ok s
  | .giveBack value => Sys2Proof.Machine.execGiveBack value s
  | .handover value => Sys2Proof.Machine.execHandover value s
  | .twinCmdApply ok => Sys2Proof.Machine.execTwinCmdApply ok s
  | .lockAcquire ep entry frags err => Sys2Proof.Machine.execLockAcquire ep entry frags err s
  | .lockRelease ep entry frags err => Sys2Proof.Machine.execLockRelease ep entry frags err s
  | .lockRenew ep entry frags err => Sys2Proof.Machine.execLockRenew ep entry frags err s
  | .lockCancel ep entry frags err => Sys2Proof.Machine.execLockCancel ep entry frags err s
  | .lsReq p => Sys2Proof.Machine.execLsReq p s
  | .lsGrant p => Sys2Proof.Machine.execLsGrant p s
  | .leaseLapse lock => Sys2Proof.Machine.execLeaseLapse lock s
  | .forceRelease value => Sys2Proof.Machine.execForceRelease value s
  | .mirrorWait lock => Sys2Proof.Machine.execMirrorWait lock s
  | .forceEvent source value => Sys2Proof.Machine.execForceEvent source value s
  | .latchClear sev value => Sys2Proof.Machine.execLatchClear sev value s
  | .pendClear k value => Sys2Proof.Machine.execPendClear k value s
  | .fenceRelease value => Sys2Proof.Machine.execFenceRelease value s
  | .fatalRestart => Sys2Proof.Machine.execFatalRestart s
  | .errPulseEnd => Sys2Proof.Machine.execErrPulseEnd s
  | .errRepeatPulse => Sys2Proof.Machine.execErrRepeatPulse s
  | .errHold value => Sys2Proof.Machine.execErrHold value s
  | .errAssert value => Sys2Proof.Machine.execErrAssert value s
  | .errPulsesRead => Sys2Proof.Machine.execErrPulsesRead s
  | .deliveryFollowup => Sys2Proof.Machine.execDeliveryFollowup s
  | .histPop => Sys2Proof.Machine.execHistPop s
  | .sampleConsumerWrite value => Sys2Proof.Machine.execSampleConsumerWrite value s
  | .sampStatusRead => Sys2Proof.Machine.execSampStatusRead s
  | .pdVote value => Sys2Proof.Machine.execPdVote value s
  | .domainIdleExpiry k => Sys2Proof.Machine.execDomainIdleExpiry k s
  | .domainEntryDone k => Sys2Proof.Machine.execDomainEntryDone k s
  | .domWake k ns good => Sys2Proof.Machine.execDomWake k ns good s
  | .holdLong k => Sys2Proof.Machine.execHoldLong k s
  | .domStuck k => Sys2Proof.Machine.execDomStuck k s
  | .biasFault k => Sys2Proof.Machine.execBiasFault k s
  | .assistFault k => Sys2Proof.Machine.execAssistFault k s
  | .railUv k => Sys2Proof.Machine.execRailUv k s
  | .pdParity k => Sys2Proof.Machine.execPdParity k s
  | .seChallenge bytes => Sys2Proof.Machine.execSeChallenge bytes s
  | .attest bytes => Sys2Proof.Machine.execAttest bytes s
  | .certRead bytes => Sys2Proof.Machine.execCertRead bytes s
  | .lcEnroll bytes => Sys2Proof.Machine.execLcEnroll bytes s
  | .lcToMission bytes => Sys2Proof.Machine.execLcToMission bytes s
  | .lcToReturn bytes => Sys2Proof.Machine.execLcToReturn bytes s
  | .lcToScrapped bytes => Sys2Proof.Machine.execLcToScrapped bytes s
  | .ownerRotate bytes => Sys2Proof.Machine.execOwnerRotate bytes s
  | .debugUnlock bytes => Sys2Proof.Machine.execDebugUnlock bytes s
  | .debugUnlockEnd => Sys2Proof.Machine.execDebugUnlockEnd s
  | .nonceExpiry => Sys2Proof.Machine.execNonceExpiry s
  | .spargeDone clean => Sys2Proof.Machine.execSpargeDone clean s
  | .alarmClear value => Sys2Proof.Machine.execAlarmClear value s
  | .coldStart straps twinId => Sys2Proof.Machine.execColdStart straps twinId s
  | .resetN low => Sys2Proof.Machine.execResetN low s
  | .startStepDone e => Sys2Proof.Machine.execStartStepDone e s
  | .startTimeout => Sys2Proof.Machine.execStartTimeout s
  | .stableReached => Sys2Proof.Machine.execStableReached s
  | .startWindowEnd => Sys2Proof.Machine.execStartWindowEnd s
  | .setPrefer from_ => Sys2Proof.Machine.execSetPrefer from_ s
  | .clearFails from_ => Sys2Proof.Machine.execClearFails from_ s
  | .restart from_ => Sys2Proof.Machine.execRestart from_ s
  | .storeSettings from_ => Sys2Proof.Machine.execStoreSettings from_ s
  | .eraseSettings from_ => Sys2Proof.Machine.execEraseSettings from_ s
  | .storeDone ok => Sys2Proof.Machine.execStoreDone ok s
  | .pwrokFall => Sys2Proof.Machine.execPwrokFall s
  | .supplyFault => Sys2Proof.Machine.execSupplyFault s
  | .thermalHold => Sys2Proof.Machine.execThermalHold s
  | .thermalRelease => Sys2Proof.Machine.execThermalRelease s
  | .status bytes ms temps => Sys2Proof.Machine.execStatus bytes ms temps s
  | .faultRead bytes => Sys2Proof.Machine.execFaultRead bytes s
  | .temp bytes temps => Sys2Proof.Machine.execTemp bytes temps s
  | .slotOff bytes => Sys2Proof.Machine.execSlotOff bytes s
  | .sparge bytes => Sys2Proof.Machine.execSparge bytes s
  | .resetReq bytes => Sys2Proof.Machine.execResetReq bytes s
  | .resetReqDelay => Sys2Proof.Machine.execResetReqDelay s
  | .regRead bytes => Sys2Proof.Machine.execRegRead bytes s
  | .regWrite bytes => Sys2Proof.Machine.execRegWrite bytes s
  | .opcodeUnknown bytes => Sys2Proof.Machine.execOpcodeUnknown bytes s
  | .flashRead bytes fail => Sys2Proof.Machine.execFlashRead bytes fail s
  | .flashErase bytes => Sys2Proof.Machine.execFlashErase bytes s
  | .flashWrite bytes => Sys2Proof.Machine.execFlashWrite bytes s
  | .dbgRead bytes kiln => Sys2Proof.Machine.execDbgRead bytes kiln s
  | .dbgWrite bytes kiln => Sys2Proof.Machine.execDbgWrite bytes kiln s
  | .dbgCoreHalt bytes => Sys2Proof.Machine.execDbgCoreHalt bytes s
  | .dbgCoreStep bytes => Sys2Proof.Machine.execDbgCoreStep bytes s
  | .dbgCoreResume bytes => Sys2Proof.Machine.execDbgCoreResume bytes s
  | .responseRead whole => Sys2Proof.Machine.execResponseRead whole s
  | .ibiAck => Sys2Proof.Machine.execIbiAck s
  | .ibiRetry => Sys2Proof.Machine.execIbiRetry s
  | .hotJoin => Sys2Proof.Machine.execHotJoin s
  | .enec bits => Sys2Proof.Machine.execEnec bits s
  | .disec bits => Sys2Proof.Machine.execDisec bits s
  | .rstdaa => Sys2Proof.Machine.execRstdaa s
  | .entdaa addr => Sys2Proof.Machine.execEntdaa addr s
  | .setdasa static addr => Sys2Proof.Machine.execSetdasa static addr s
  | .setnewda addr => Sys2Proof.Machine.execSetnewda addr s
  | .getpid => Sys2Proof.Machine.execGetpid s
  | .getbcr => Sys2Proof.Machine.execGetbcr s
  | .getdcr => Sys2Proof.Machine.execGetdcr s
  | .getstatus => Sys2Proof.Machine.execGetstatus s
  | .getmxds => Sys2Proof.Machine.execGetmxds s
  | .setmwl v => Sys2Proof.Machine.execSetmwl v s
  | .getmwl => Sys2Proof.Machine.execGetmwl s
  | .setmrl v => Sys2Proof.Machine.execSetmrl v s
  | .getmrl => Sys2Proof.Machine.execGetmrl s
  | .rstact action => Sys2Proof.Machine.execRstact action s
  | .legacyI2c write x => Sys2Proof.Machine.execLegacyI2c write x s
  | .busError => Sys2Proof.Machine.execBusError s
  | .mcWedged => Sys2Proof.Machine.execMcWedged s
  | .mcSignalReturn => Sys2Proof.Machine.execMcSignalReturn s
  | .islandParity => Sys2Proof.Machine.execIslandParity s
  | .supplyRestored => Sys2Proof.Machine.execSupplyRestored s
  | .refclkPresent r => Sys2Proof.Machine.execRefclkPresent r s
  | .prbsLock l => Sys2Proof.Machine.execPrbsLock l s
  | .feedRestored group feedB => Sys2Proof.Machine.execFeedRestored group feedB s
  | .hostPortTrained k rate width => Sys2Proof.Machine.execHostPortTrained k rate width s
  | .flashCommandDone fail => Sys2Proof.Machine.execFlashCommandDone fail s

end Sys2Proof.Machine
end

