-- ==== Sys2Proof/Safety.lean ====
section
/-! DEFINITION. What a safe run is, and the terms the statements use. -/

namespace Sys2Proof.Machine

/-! ### Next states -/

/-- The device as a command meets it: what the last command sent out is gone. -/
def State.begun (s : State) : Dev := { s.chip.dev with out := [] }

/-- The chip as a command meets it. -/
def State.begunChip (s : State) : Chip := { s.chip with dev := s.begun }

/-- The machine after a command that gives the device `d`, once what follows within the step has followed. Fuses, NVM, flash
and the queue stay as they are. -/
def State.after (s : State) (d : Dev) : State := { s with chip := { s.chip with dev := d.settle } }

/-- The machine after a command that gives the chip `c`. -/
def State.afterChip (s : State) (c : Chip) : State := { s with chip := { c with dev := c.dev.settle } }

/-- Management cores reach the control space: the device is RUNNING or in safe mode (R4, R458). -/
def State.running (s : State) : Prop := 9 ≤ s.chip.dev.bt.phase

/-- A request frame passes its checks with an opcode (R482): the frame to serve, and the chip that serves it. -/
def State.takesFrame (s : State) (bytes : List Byte) (op : Nat) (f : EbFrame) (c : Chip) : Prop :=
  s.begun.ebCheck bytes = (some f, c.dev) ∧ f.opcode = op ∧ c.nv = s.chip.nv

/-! ### Fuses -/

/-- Every bit of a word is a bit of another. -/
def bitsIn (a b : Nat) : Prop := a &&& b = a

/-- Fuses only burn: what is burnt in the first is burnt in the second. -/
def Fuses.burnsTo (a b : Fuses) : Prop :=
  a.root = b.root ∧ a.rootRevoked = b.rootRevoked ∧ a.secret = b.secret ∧ bitsIn a.ownerRevoked b.ownerRevoked
    ∧ a.fwSvn ≤ b.fwSvn ∧ a.cfgSvn ≤ b.cfgSvn ∧ (∀ k, bitsIn (Tbl.get 0 a.lc k) (Tbl.get 0 b.lc k))
    ∧ (∀ k x, Tbl.get none a.owner k = some x → Tbl.get none b.owner k = some x)

/-- Every lifecycle word is 16 bits wide (R444). -/
def Fuses.wordsFit (f : Fuses) : Prop := ∀ k, Tbl.get 0 f.lc k < 2 ^ 16

end Sys2Proof.Machine
end

