-- ==== Sys2Proof/Certificates/Slice0/Obligations.lean ====
section
/-! DEFINITION. The statements. A command's effect is written as the device (or chip) it gives, before what follows within the
step: `State.after` and `State.afterChip` stand for the state in which that has followed. What stands in such an expression
unchanged is left unchanged by the command itself. -/

open Sys2Proof Sys2Proof.Machine

/-! ### The machine as a whole -/

/-- A step takes the command at the front of the queue and runs it with the queue's rest. On an empty queue the block idles (the
model's choice: the table has a row of its own for a tick; log entry 2). -/
def Obligations.StepTakesTheFront : Prop :=
  (∀ (s : State) (c : Instr) (rest : List Instr), s.pending = c :: rest → step s = exec c { s with pending := rest }) ∧
  (∀ (s : State), s.pending = [] → step s = .next s)

/-- Every command completes in every state, and leaves the queue of waiting commands as it is. -/
def Obligations.EveryCommandCompletes : Prop :=
  ∀ (c : Instr) (s : State), ∃ t, exec c s = .next t ∧ t.pending = s.pending

/-- R441, R444, R445, R448: no step heals a fuse. From every state whose lifecycle words keep their 16 bits, every bit that is
burnt before a step is burnt after it, a written OWNER slot keeps its digest, SVN counts do not fall, the root keys and SECRET
stay, the words keep their width, and the lifecycle state does not go back. -/
def Obligations.FusesOnlyBurn : Prop :=
  ∀ (s t : State), s.chip.nv.fuses.wordsFit → step s = .next t →
    t.chip.nv.fuses.wordsFit ∧ s.chip.nv.fuses.burnsTo t.chip.nv.fuses ∧ s.chip.nv.fuses.state ≤ t.chip.nv.fuses.state

/-- The state before power comes: no command waits, no start has begun, every register of every element and bank reads its reset
value, no fuse is burnt, and the device holds no message, no endpoint, no fence entry and no staged value. Beginning without
power and the values the spec does not give are the model's choice (log entries 1, 11, 12, 13, 17). -/
def Obligations.ResetState : Prop :=
  State.reset.pending = [] ∧ State.reset.chip.dev.bt.phase = 0 ∧
  (∀ (r : Reg) (i bank : Nat), State.reset.chip.dev.rd r i bank = r.resetAt i) ∧
  State.reset.chip.nv.fuses.wordsFit ∧ State.reset.chip.nv.fuses.state = 0 ∧
  (∀ ep, State.reset.chip.dev.ep ep = none) ∧ State.reset.chip.dev.tp.msgs = [] ∧ State.reset.chip.dev.fe.fence = [] ∧
  State.reset.chip.dev.staged = [] ∧ State.reset.chip.dev.out = []

/-- R4, R57, R77: where a write of a register goes. A management core reaches a register of the control space once start has
ended; a write that hits none is reported. A host reaches its control page, and the doorbell pages of its endpoints; a write
that hits none raises DB_IGNORED. The reading of log entry 10 is the model's. -/
def Obligations.RegisterWritesReach : Prop :=
  (∀ (s : State) (d : Dev) (addr bytes v : Nat), s.begun = d → d.bt.phase < 9 →
    exec (.registerWrite (.core addr) bytes v) s = .next (s.after d)) ∧
  (∀ (s : State) (d : Dev) (addr bytes v : Nat), s.begun = d → 9 ≤ d.bt.phase → ctlReg addr bytes = none →
    exec (.registerWrite (.core addr) bytes v) s = .next (s.after
      ((d.latch rMgErrLatch (pack [(4, 1), (2, 1), (2, 0), (32, addr % 2 ^ 32)])).raise evMgUnmappedAccess 0))) ∧
  (∀ (s : State) (d : Dev) (addr bytes v : Nat) (r : Reg) (i : Nat), s.begun = d → 9 ≤ d.bt.phase → v < 2 ^ (8 * bytes) →
    ctlReg addr bytes = some (r, i) → r.name ≠ .btCmd →
    exec (.registerWrite (.core addr) bytes v) s = .next (s.after (d.regWrite r i v))) ∧
  (∀ (s : State) (d : Dev) (h off bytes v : Nat), s.begun = d → v < 2 ^ (8 * bytes) →
    (pageReg .fn off bytes = none →
      exec (.registerWrite (.control h off) bytes v) s = .next (s.after (d.raise evHqDbIgnored h))) ∧
    (∀ r i, pageReg .fn off bytes = some (r, i) →
      exec (.registerWrite (.control h off) bytes v) s = .next (s.after (d.fnPageWrite h r i v)))) ∧
  (∀ (s : State) (d : Dev) (h ep off bytes v : Nat), s.begun = d → v < 2 ^ (8 * bytes) →
    ((pageReg .ep off bytes = none ∨ d.pageExists h ep = false) →
      exec (.registerWrite (.door h ep off) bytes v) s = .next (s.after (d.raise evHqDbIgnored h))) ∧
    (∀ r i, pageReg .ep off bytes = some (r, i) → d.pageExists h ep = true →
      exec (.registerWrite (.door h ep off) bytes v) s = .next (s.after (d.epPageWrite h ep r v))))

/-- R8, R10: the device judges a write as a whole. A write that would change an S field, or a Q field of a unit that is not
idle, is refused with APPLY_REFUSED, and no register but the collector's own changes. A write that changes no S or Q field, with
a value that no other rule refuses, takes effect; then each RW field that is not staged reads as written, each W1C field loses
the bits written 1, the others keep their value, and T fields stand staged. -/
def Obligations.RegisterWritesAreJudged : Prop :=
  (∀ (d : Dev) (r : Reg) (i v : Nat) (f : FieldDesc), f ∈ r.fields → f.acc = .rw →
    field v f.lo f.len ≠ d.fld r f.lo f.len i (d.bankOf r) →
    (f.cls = .s ∨ f.cls = .q ∧ d.qIdle r i (d.bankOf r) = false) →
    .applyRefused ∈ (d.regWrite r i v).out ∧
    (∀ (q : Reg) (j b : Nat), (q.key j b < 0x1100040 ∨ 0x1100110 ≤ q.key j b ∧ q.key j b < 0x1210000 ∨ 0x1211000 ≤ q.key j b) →
      (d.regWrite r i v).rd q j b = d.rd q j b) ∧
    (refusalEvent r (d.bankOf r) = none → d.regWrite r i v = { d with out := .applyRefused :: d.out })) ∧
  (∀ (d : Dev) (r : Reg) (i v : Nat), d.valueOk r i v = true →
    (∀ f ∈ r.fields, f.acc = .rw → f.cls = .s ∨ f.cls = .q → field v f.lo f.len = d.fld r f.lo f.len i (d.bankOf r)) →
    d.regWrite r i v = d.writeDo r i (d.bankOf r) v) ∧
  (∀ (d : Dev) (r : Reg) (i b v : Nat), Tbl.rising 0 d.regs = true →
    d.rd r i b < 2 ^ r.width → (∀ f ∈ r.fields, f.lo + f.len ≤ r.width) →
    r.fields.Pairwise (fun f g => f.lo + f.len ≤ g.lo ∨ g.lo + g.len ≤ f.lo) →
    (∀ f ∈ r.fields, (d.take r i b false v).fld r f.lo f.len i b = match f.acc with
      | .rw => if f.cls = .t then d.fld r f.lo f.len i b else field v f.lo f.len
      | .w1c => clearBits (d.fld r f.lo f.len i b) (field v f.lo f.len) % 2 ^ f.len
      | .w1s => (d.fld r f.lo f.len i b ||| field v f.lo f.len) % 2 ^ f.len
      | _ => d.fld r f.lo f.len i b) ∧
    (∀ f ∈ r.fields, f.acc = .rw → f.cls = .t →
      field ((d.take r i b false v).stagedValue r i b) f.lo f.len = field v f.lo f.len) ∧
    (∀ (q : Reg) (j c : Nat), q.key j c ≠ r.key i b → (d.take r i b false v).rd q j c = d.rd q j c))

/-- R55: the number of entries between a consumer and a producer position, empty and exactly full rings, and how it grows as the
producer moves on. -/
def Obligations.RingCountsEntries : Prop :=
  (∀ (size : Nat) (c p : Pos), c.index < size → p.index < size →
    (p.lap = c.lap → c.index ≤ p.index → ringCount size c p = p.index - c.index) ∧
    (p.lap ≠ c.lap → ringCount size c p = size - c.index + p.index) ∧
    (p.lap = c.lap → p.index = c.index → ringCount size c p = 0) ∧
    (p.lap ≠ c.lap → p.index = c.index → ringCount size c p = size)) ∧
  (∀ (size k : Nat) (c p : Pos), c.index < size → p.index < size → (p.lap = c.lap → c.index ≤ p.index) →
    (p.lap ≠ c.lap → p.index ≤ c.index) → k ≤ size - ringCount size c p →
    ringCount size c (p.advance size k) = ringCount size c p + k ∧ (p.advance size k).index < size ∧
    ((p.advance size k).lap = c.lap → c.index ≤ (p.advance size k).index) ∧
    ((p.advance size k).lap ≠ c.lap → (p.advance size k).index ≤ c.index)) ∧
  (∀ (size k : Nat) (c p : Pos), c.index < size → p.index < size → (p.lap = c.lap → c.index ≤ p.index) →
    (p.lap ≠ c.lap → p.index ≤ c.index) → k ≤ ringCount size c p →
    ringCount size (c.advance size k) p = ringCount size c p - k)

/-- R402 to R405, R418: what an occurrence of a source records. Its counter counts it; with EN 0 nothing else happens; with EN 1
its pending bit is set and the latch of its severity takes it when empty and counts it lost when full. A forced one takes no
fence entry and no FATAL action. Whatever it does, no unit but the collector changes, nor any register but the source's counter
and the collector's. The reading of log entry 42 is the model's. -/
def Obligations.OccurrencesAreRecorded : Prop :=
  ∀ (d e : Dev) (src inst sev w : Nat) (forced : Bool), src < 320 → Tbl.rising 0 d.regs = true → d.occur src inst forced = e →
    sev = field (d.srcCfg src) 1 2 → w = d.rd rFeLatch sev →
    (flag (d.srcCfg src) 0 = false → e = d.count src 1) ∧
    (e.rd rPcCtr src = (field (d.rd rPcCtr src) 0 48 + 1) % 2 ^ 48
      + 2 ^ 63 * bit (flag (d.rd rPcCtr src) 63 || decide (2 ^ 48 ≤ field (d.rd rPcCtr src) 0 48 + 1))) ∧
    (flag (d.srcCfg src) 0 = true →
      e.rd rFePend (src / 64) = (d.rd rFePend (src / 64) ||| 2 ^ (src % 64)) % 2 ^ 64 ∧
      (flag w 63 = true → e.rd rFeLatch sev = setField (setField w 37 1 1) 40 8 (satInc 255 (field w 40 8)) % 2 ^ 64 ∧
        e.rd rFeLatchTick sev = d.rd rFeLatchTick sev) ∧
      (flag w 63 = false → e.rd rFeLatchTick sev = d.now % 2 ^ 64 ∧
        e.rd rFeLatch sev = pack [(9, src), (3, 0), (4, (sourceRow src).unit.code),
          (20, if (sourceRow src).unit = .none then 0 else inst % 2 ^ 20), (1, bit forced), (26, 0), (1, 1)]) ∧
      (∀ v, v ≠ sev → v < 4 → e.rd rFeLatch v = d.rd rFeLatch v ∧ e.rd rFeLatchTick v = d.rd rFeLatchTick v)) ∧
    (forced = true → e.fe.fence = d.fe.fence ∧ e.fe.fatal = d.fe.fatal ∧ e.fe.restartOwed = d.fe.restartOwed) ∧
    { e with regs := d.regs, fe := d.fe, hq := { e.hq with fns := d.hq.fns }, out := d.out, todo := d.todo } = d ∧
    (∀ (q : Reg) (j b : Nat), (q.key j b < 0x1100040 ∨ 0x11000A8 ≤ q.key j b) → q.key j b ≠ 0x1100108 →
      q.key j b ≠ rPcCtr.key src 0 → e.rd q j b = d.rd q j b)

/-! ### Fault collection (FE) and counting (PC) -/

/-- R399, R402, R403, R404, R405, R407, R411, R412, R413, R414, R416: what a management core's write of a collector register
does. FORCE raises the source with the values from before the write; VALID and pending bits clear; HOLD and ASSERT act on ERR_N.
The end of ERR_N pulses, reads that clear, follow-up records and the restart after a FATAL. The readings of log entries 38, 39
are the model's. -/
def Obligations.CollectorRegistersAct : Prop :=
  (∀ (s : State) (d : Dev) (n v : Nat), s.begun = d → 9 ≤ d.bt.phase → n < 320 → v < 2 ^ 32 → flag v 3 = true →
    ¬(field v 1 2 = 2 ∧ (sourceRow n).unit = .none) →
    exec (.forceEvent n v) s = .next (s.after
      ((d.occur n 0 true).wr rFeSrcCfg (srcCfgValue (d.srcCfg n) v) n))) ∧
  (∀ (s : State) (d : Dev) (n v : Nat), s.begun = d → 9 ≤ d.bt.phase → n < 320 → v < 2 ^ 32 → flag v 3 = false →
    ¬(field v 1 2 = 2 ∧ (sourceRow n).unit = .none) →
    exec (.forceEvent n v) s = .next (s.after (d.wr rFeSrcCfg (srcCfgValue (d.srcCfg n) v) n))) ∧
  (∀ (s : State) (d : Dev) (n v : Nat), s.begun = d → 9 ≤ d.bt.phase → n < 320 → v < 2 ^ 32 →
    field v 1 2 = 2 → (sourceRow n).unit = .none →
    exec (.forceEvent n v) s = .next (s.after { d with out := [.applyRefused] })) ∧
  (∀ (s : State) (d : Dev) (sev v : Nat), s.begun = d → 9 ≤ d.bt.phase → sev < 4 → v < 2 ^ 64 → flag v 63 = true →
    exec (.latchClear sev v) s = .next (s.after
      (d.wr rFeLatch (setField (setField (setField (d.rd rFeLatch sev) 63 1 0) 37 1 0) 40 8 0) sev))) ∧
  (∀ (s : State) (d : Dev) (k v : Nat), s.begun = d → 9 ≤ d.bt.phase → k < 5 → v < 2 ^ 64 →
    exec (.pendClear k v) s = .next (s.after
      (d.wr rFePend (setField (d.rd rFePend k) 0 64
        (field (d.rd rFePend k) 0 64 - (field (d.rd rFePend k) 0 64 &&& field v 0 64))) k))) ∧
  (∀ (s : State) (d : Dev) (sev v : Nat), s.begun = d → 9 ≤ d.bt.phase → sev < 4 → v < 2 ^ 64 → flag v 63 = false →
    exec (.latchClear sev v) s = .next (s.after d)) ∧
  (∀ (s : State) (d d1 : Dev) (v : Nat), s.begun = d → 9 ≤ d.bt.phase → v < 2 ^ 32 →
    d1 = { d with fe := { d.fe with hold := flag v 0 } } →
    (flag v 1 = false →
      (d.fe.pin ≠ .held ∨ flag v 0 = true → exec (.errHold v) s = .next (s.after d1)) ∧
      (d.fe.pin = .held → flag v 0 = false → d.fe.repeatOwed = false →
        exec (.errHold v) s = .next (s.after { d1 with fe := { d1.fe with pin := .high } })) ∧
      (d.fe.pin = .held → flag v 0 = false → d.fe.repeatOwed = true →
        exec (.errHold v) s = .next (s.after { d1 with fe := { d1.fe with pin := .gap } }))) ∧
    (flag v 1 = true →
      (d.fe.pin = .high ∨ d.fe.pin = .held ∧ flag v 0 = false ∧ d.fe.repeatOwed = false →
        exec (.errAssert v) s = .next (s.after { d1 with fe := { d1.fe with
          pin := .pulse, pulses := satInc 0xFFFF d.fe.pulses, hold := flag v 0 || flag (d.rd rFeCtl) 6 } })) ∧
      (d.fe.pin = .held → flag v 0 = false → d.fe.repeatOwed = true →
        exec (.errAssert v) s = .next (s.after { d1 with fe := { d1.fe with pin := .gap, repeatOwed := true } })) ∧
      (d.fe.pin = .pulse ∨ d.fe.pin = .gap ∨ d.fe.pin = .held ∧ flag v 0 = true →
        exec (.errAssert v) s = .next (s.after { d1 with fe := { d1.fe with repeatOwed := true } })))) ∧
  (∀ (s : State) (d : Dev) (n v : Nat), s.begun = d → d.bt.phase < 9 →
    exec (.forceEvent n v) s = .next (s.after d) ∧ exec (.latchClear n v) s = .next (s.after d) ∧
    exec (.pendClear n v) s = .next (s.after d) ∧ exec (.errHold v) s = .next (s.after d) ∧
    exec (.errAssert v) s = .next (s.after d) ∧ exec (.fenceRelease v) s = .next (s.after d) ∧
    exec .errPulsesRead s = .next (s.after d) ∧ exec .histPop s = .next (s.after d) ∧
    exec (.sampleConsumerWrite v) s = .next (s.after d) ∧ exec .sampStatusRead s = .next (s.after d)) ∧
  (∀ (s : State) (d : Dev), s.begun = d → d.fe.pin = .pulse → d.fe.hold = false → d.fe.repeatOwed = false →
    exec .errPulseEnd s = .next (s.after { d with fe := { d.fe with pin := .high } })) ∧
  (∀ (s : State) (d : Dev), s.begun = d → d.fe.pin = .pulse → d.fe.hold = true →
    exec .errPulseEnd s = .next (s.after { d with fe := { d.fe with pin := .held } })) ∧
  (∀ (s : State) (d : Dev), s.begun = d →
    (d.fe.pin = .pulse → d.fe.hold = false → d.fe.repeatOwed = true →
      exec .errPulseEnd s = .next (s.after { d with fe := { d.fe with pin := .gap } })) ∧
    (d.fe.pin ≠ .pulse → exec .errPulseEnd s = .next (s.after d)) ∧
    (d.fe.pin ≠ .gap → exec .errRepeatPulse s = .next (s.after d)) ∧
    (d.fe.due = [] → exec .deliveryFollowup s = .next (s.after d)) ∧
    (9 ≤ d.bt.phase → (d.fe.hist = [] ∨ flag (d.rd rFeCtl) 7 = false) →
      exec .histPop s = .next (s.after { d with out := [.regValue 0] })) ∧
    ((d.fe.restartOwed = false ∨ flag (d.rd rFeCtl) 8 = false ∨ d.bt.pwrok = false ∨ d.bt.supplyBad = true) →
      exec .fatalRestart s = .next (s.after d))) ∧
  (∀ (s : State) (d : Dev), s.begun = d → d.fe.pin = .gap →
    exec .errRepeatPulse s = .next (s.after { d with fe := { d.fe with
      repeatOwed := false, pin := .pulse, pulses := satInc 0xFFFF d.fe.pulses, hold := d.fe.hold || flag (d.rd rFeCtl) 6 } })) ∧
  (∀ (s : State) (d : Dev), s.begun = d → 9 ≤ d.bt.phase →
    exec .errPulsesRead s = .next (s.after { d with
      out := [.regValue (pack [(1, bit d.fe.hold), (15, 0), (16, d.fe.pulses)])], fe := { d.fe with pulses := 0 } })) ∧
  (∀ (s : State) (d : Dev) (h : HistEntry) (rest : List HistEntry), s.begun = d → 9 ≤ d.bt.phase → d.fe.hist = h :: rest →
    flag (d.rd rFeCtl) 7 = true →
    exec .histPop s = .next (s.after { d with
      out := [.regValue (pack [(9, h.source), (2, h.sev), (1, 0), (20, h.inst), (16, h.tick), (15, 0), (1, 1)])],
      fe := { d.fe with hist := rest } })) ∧
  (∀ (s : State) (d : Dev) (k : Sink) (r : DeliveryRecord) (rest : List (Sink × DeliveryRecord)), s.begun = d →
    d.fe.due = (k, r) :: rest →
    exec .deliveryFollowup s = .next (s.after (({ d with fe := { d.fe with due := rest } }).sendRecord k r))) ∧
  (∀ (s : State) (d : Dev), s.begun = d → d.fe.restartOwed = true → flag (d.rd rFeCtl) 8 = true → d.bt.pwrok = true →
    d.bt.supplyBad = false → exec .fatalRestart s = .next (s.after (d.beginStart true)))

/-- R410: a write of FE_FENCE_CMD with RELEASE 1 names one entry. For kinds 1, 9, 10 and 11 it releases the unit and clears the
entry; for any other kind, or for an entry with VALID 0, the write is refused under R8 and changes nothing. -/
def Obligations.FenceReleaseNamesOneEntry : Prop :=
  (∀ (s : State) (d : Dev) (v : Nat) (e : FenceEntry), s.begun = d → 9 ≤ d.bt.phase → v < 2 ^ 32 → flag v 31 = true →
    Tbl.get none d.fe.fence (field v 0 6) = some e →
    (e.kind.code = 1 → exec (.fenceRelease v) s = .next (s.after
      (if e.inst < 256 then (d.clearFence e.kind e.inst).releasePort e.inst
       else (d.clearFence e.kind e.inst).releaseCx (e.inst - 256)))) ∧
    (e.kind.code = 9 → exec (.fenceRelease v) s = .next (s.after ((d.clearFence e.kind e.inst).releaseLockGroup e.inst))) ∧
    (e.kind.code = 10 → exec (.fenceRelease v) s = .next (s.after
      (forEach ((Tbl.keys d.map).filter (fun p => p / 64 == e.inst)) (fun p (d : Dev) => d.releasePort p)
        (d.clearFence e.kind e.inst)))) ∧
    (e.kind.code = 11 → exec (.fenceRelease v) s = .next (s.after ((d.clearFence e.kind e.inst).releaseCxTile e.inst))) ∧
    (e.kind.code ≠ 1 → e.kind.code ≠ 9 → e.kind.code ≠ 10 → e.kind.code ≠ 11 →
      exec (.fenceRelease v) s = .next (s.after { d with out := [.applyRefused] }))) ∧
  (∀ (s : State) (d : Dev) (v : Nat), s.begun = d → 9 ≤ d.bt.phase → v < 2 ^ 32 → flag v 31 = true →
    Tbl.get none d.fe.fence (field v 0 6) = none →
    exec (.fenceRelease v) s = .next (s.after { d with out := [.applyRefused] })) ∧
  (∀ (s : State) (d : Dev) (v : Nat), s.begun = d → 9 ≤ d.bt.phase → v < 2 ^ 32 → flag v 31 = false →
    exec (.fenceRelease v) s = .next (s.after d)) ∧
  (∀ (d : Dev) (k : UnitKind) (i : Nat), d.clearFence k i = { d with fe := { d.fe with
    fence := d.fe.fence.filter (fun p => match p.2 with
      | some e => !(decide (e.kind = k) && e.inst == i)
      | none => false) } })

/-- R425, R428: a write of PC_SAMP_CONS frees the records up to it; a position that the producer has not reached has no effect;
a read of PC_SAMP_STATUS returns LOST and SKIPPED and clears them. -/
def Obligations.SamplerRegisters : Prop :=
  (∀ (s : State) (d : Dev) (v n m : Nat), s.begun = d → 9 ≤ d.bt.phase → v < 2 ^ 32 →
    ringDist 4096 d.sampleCons ⟨field v 0 12, flag v 12⟩ = some n → ringDist 4096 d.sampleCons d.sampleProd = some m →
    exec (.sampleConsumerWrite v) s = .next (s.after (if n ≤ m then d.wr rPcSampCons (field v 0 13) else d))) ∧
  (∀ (s : State) (d : Dev) (v : Nat), s.begun = d → 9 ≤ d.bt.phase → v < 2 ^ 32 →
    (ringDist 4096 d.sampleCons ⟨field v 0 12, flag v 12⟩ = none ∨ ringDist 4096 d.sampleCons d.sampleProd = none) →
    exec (.sampleConsumerWrite v) s = .next (s.after d)) ∧
  (∀ (s : State) (d : Dev), s.begun = d → 9 ≤ d.bt.phase →
    exec .sampStatusRead s = .next (s.after { d with
      out := [.regValue (pack [(8, d.pc.follow.length), (24, d.pc.lost), (24, d.pc.skipped)])],
      pc := { d.pc with lost := 0, skipped := 0 } }))

/-! ### Network time and the tick (ST) -/

/-- R31, R48, R49, R510: with power, TICK_BOUNDARY ends a tick, brings network time to the next multiple of P, and does the
fixed work of every block in the order of the budget table, then what the checks found; a refused Kiln access among the findings
is the chip's; without power it does nothing. The work of the tick is written out block by block, and what the time unit counts
at it. The readings of log entries 4, 5, 6, 7, 28, 180, 181 are the model's. -/
def Obligations.TickBoundaryAdvancesTime : Prop :=
  (∀ (s : State) (d e : Dev) (x : TickIn), s.begun = d → d.bt.phase ≠ 0 →
    (((d.tickEnd.nextTick).snapshot d).takeStagedFields).tickWork x = e →
    (x.findings = [] → exec (.tickBoundary x) s = .next (s.after { e with st := { e.st with passed := 0 } })) ∧
    ((∀ f ∈ x.findings, f ≠ .kilnRefused) → exec (.tickBoundary x) s = .next (s.after
      (forEach x.findings (fun f (d : Dev) => d.found f) { e with st := { e.st with passed := 0 } }))) ∧
    (∀ e', forEach x.findings (fun f (d : Dev) => d.found f) { e with st := { e.st with passed := 0 } } = e' →
      e'.bt.phase ≠ 0 → exec (.tickBoundary x) s = .next (s.afterChip
        (forEach (x.findings.filter (fun f => decide (f = .kilnRefused))) (fun _ (c : Chip) => c.kilnAccess)
          { s.begunChip with dev := e' })))) ∧
  (∀ (s : State) (d : Dev) (x : TickIn), s.begun = d → d.bt.phase = 0 → exec (.tickBoundary x) s = .next (s.after d)) ∧
  (∀ (d : Dev), d.nextTick.st.ns = (d.st.ns / d.period + 1) * d.period % 2 ^ 64 ∧ d.nextTick.st.frac = 0 ∧
    d.nextTick.st.tick = d.nextTick.st.ns / d.period % 2 ^ 48 ∧ d.nextTick.st.boundaries = d.st.boundaries + 1 ∧
    d.nextTick.regs = d.regs) ∧
  (∀ (d : Dev) (x : TickIn), d.tickWork x =
    (((forEach ((forEach (Tbl.keys (d.exchangeTime.timeTick.graceTick.sendScores.sendAudits).lk.ports)
        (fun p (d : Dev) => d.linkTick p) d.exchangeTime.timeTick.graceTick.sendScores.sendAudits).outputs)
        (fun o (d : Dev) => d.schedTick o)
        (forEach (Tbl.keys (d.exchangeTime.timeTick.graceTick.sendScores.sendAudits).lk.ports)
          (fun p (d : Dev) => d.linkTick p) d.exchangeTime.timeTick.graceTick.sendScores.sendAudits)).forcedTick.laneTick.measure
      x).twinTick x.twWedged).sinkBoundary) ∧
  (∀ (d : Dev),
    d.timeTick.st.lockRun = (if d.st.lock = .locking ∧ d.st.near then d.st.lockRun + 1 else 0) ∧
    d.timeTick.st.holdTicks = (if d.st.lock = .holdover then d.st.holdTicks + 1 else 0) ∧
    d.timeTick.st.offHist = (d.st.offTick :: d.st.offHist).take 15 ∧ d.timeTick.st.offTick = none ∧
    (d.st.lock = .holdover → d.timeTick.st.skew = d.st.skew.map (· + 1)))

/-- R34, R35, R37, R38, R40, R41, R44, R49: a time message on a port in UP. A malformed one is reported; at the root a good one
is noted with its port; at a device that follows the port it is noted and steers. What the time unit does when one of its
conditions is reached. The readings of log entries 21, 29, 30, 31, 33, 168, 169, 170, 171, 172, 173, 174, 175, 177 are the
model's. -/
def Obligations.TimeIsSteered : Prop :=
  (∀ (s : State) (d : Dev) (p w rx : Nat), s.begun = d → (d.lkPort p).state = .up → tmOk w = false →
    exec (.timeMessage p w rx) s = .next (s.after ((d.noteHeard p false).raise evStTimeMsgError p))) ∧
  (∀ (s : State) (d : Dev) (p w rx : Nat), (s.begun.lkPort p).state = .up → s.begun.noteHeard p true = d → tmOk w = true →
    field w 8 2 = d.fld rStCtl 0 2 → d.isRoot = true → d.node ≤ tmRoot w → (d.notePort p w rx).isRoot = true →
    exec (.timeMessage p w rx) s = .next (s.after (d.notePort p w rx))) ∧
  (∀ (s : State) (d e : Dev) (p w rx : Nat), (s.begun.lkPort p).state = .up → s.begun.noteHeard p true = d → tmOk w = true →
    field w 8 2 = d.fld rStCtl 0 2 → d.isRoot = false → d.notePort p w rx = e → e.isRoot = false →
    e.bestCandidate = some p → e.st.parent = some p → e.st.lock = .locked →
    exec (.timeMessage p w rx) s = .next (s.after (e.follow p (d.answeredStamp p w).isSome))) ∧
  (∀ (s : State) (d : Dev), s.begun = d → d.st.lock = .locking → 16 ≤ d.st.lockRun →
    exec .lockAcquired s = .next (s.after
      ((({ d with st := { d.st with lock := .locked, lockRun := 0, holdTicks := 0, skew := d.skewLocked } }).raise
        evStLockAcquired 0).startService).afterLock)) ∧
  (∀ (s : State) (d : Dev) (p t : Nat), s.begun = d → d.st.parent = some p → (d.stPort p).lastTick = some t → 3 ≤ d.waited t →
    d.isRoot = false → d.st.lock = .locked → d.bestCandidate = none →
    exec .parentSilent s = .next (s.after
      (({ d with st := { d.st with lock := .holdover, holdTicks := 0, offTick := none, offHist := [] } }).raise evStHoldover 0))) ∧
  (∀ (s : State) (d : Dev), s.begun = d → d.st.lock = .holdover → orOne (d.fld rStHoldover 0 24) ≤ d.st.holdTicks →
    exec .holdoverTimeout s = .next (s.after
      (({ d with st := { d.st with
        lock := .unlocked, lockRun := 0, skew := none, offTick := none, offHist := [], slewing := false, rate := 0, parent := none } }).raise
        evStHoldover 0))) ∧
  (∀ (s : State) (d : Dev), s.begun = d → d.st.conserv = true → d.conservCause = false → flag (d.rd rStConservCtl) 0 = false →
    d.exitDelay ≤ d.st.exitRun →
    exec .skewRestored s = .next (s.after
      (({ d with st := { d.st with conserv := false, exitRun := 0 } }).raise evStSkewRestored 0))) ∧
  (∀ (s : State) (d : Dev), s.begun = d → d.isRoot = true → d.st.tickinLost = false → 1500000000 ≤ d.st.ns - d.st.lastEdge →
    exec .tickinLost s = .next (s.after (({ d with st := { d.st with tickinLost := true } }).raise evStTickinLost 0))) ∧
  (∀ (s : State) (d : Dev) (a : Nat), s.begun = d → Tbl.get false d.st.persistOwed a = true →
    exec (.overrunPersist a) s = .next (s.after
      (({ d with st := { d.st with persistOwed := Tbl.put false a false d.st.persistOwed } }).raise evStOverrunPersist 0)))

/-- R36, R38: a write of ST_ROOT_SECONDS arms a count, and the next TICK_IN edge at the root, of the kind TICKIN_EDGE selects,
loads it; without one the edge stands for the second expected there. An edge more than 1 us off the expected instant raises
TICKIN_JUMP. The rate is steered by the difference; one beyond 1 us raises TIME_STEP, and the root that is behind steps forward.
An edge of the other kind, and one at a device that is not the root, changes nothing. The readings of log entries 21, 32 are the
model's. -/
def Obligations.TickInLoadsArmedSeconds : Prop :=
  (∀ (s : State) (d : Dev) (v : Nat), s.begun = d → 9 ≤ d.bt.phase → v < 2 ^ 64 →
    exec (.rootSecondsArm v) s = .next (s.after
      { d.wr rStRootSeconds v with st := { d.st with armedSeconds := some v } })) ∧
  (∀ (s : State) (d e : Dev) (falling : Bool) (at_ sec : Nat) (err : Int), s.begun = d → d.isRoot = true →
    falling = flag (d.rd rStCtl) 3 → sec = d.st.armedSeconds.getD (d.edgeSecond at_) → err = (at_ : Int) - (sec * 1000000000 : Nat) →
    d.raiseIf (decide (1000 < ((at_ : Int) - (d.edgeSecond at_ * 1000000000 : Nat)).natAbs)) evStTickinJump 0 = e →
    (err.natAbs ≤ 1000 → exec (.tickInEdge ⟨falling, at_⟩) s = .next (s.after
      (({ e with st := { e.st with
          armedSeconds := none, lastEdge := max at_ (sec * 1000000000), edgeSec := some sec, tickinLost := false,
          slewing := false } }).steer (16 * err)))) ∧
    (1000 < err.natAbs → exec (.tickInEdge ⟨falling, at_⟩) s = .next (s.after
      ((({ e with st := { e.st with
          armedSeconds := none, lastEdge := max at_ (sec * 1000000000), edgeSec := some sec, tickinLost := false,
          slewing := false } }).correct (16 * err)).steer (16 * err))))) ∧
  (∀ (s : State) (d : Dev) (falling : Bool) (at_ : Nat), s.begun = d → (d.isRoot = false ∨ falling ≠ flag (d.rd rStCtl) 3) →
    exec (.tickInEdge ⟨falling, at_⟩) s = .next (s.after d)) ∧
  (∀ (d e : Dev) (o : Int), o < 0 →
    ({ d.raise evStTimeStep 0 with st := { (d.raise evStTimeStep 0).st with slewing := true } }).conservCheck = e →
    d.correct o = ({ e with st := { e.st with slewing := false } }).stepTime (o.natAbs / 16))

/-- R42, R516: a command, or a message that the device builds itself, that has waited L_max local ticks for lock ends
UNREACHABLE, with reason 8; a Relay message counts its peer as lost, but for an RL_ABORT, which is not waited for. What such a
command has made is dropped with it. The readings of log entries 34, 35 are the model's. -/
def Obligations.WaitsForLockEnd : Prop :=
  (∀ (s : State) (d : Dev) (ep index : Nat) (lap : Bool) (c : Cmd), s.begun = d → d.findCmd ep index lap = some c →
    d.waitsLock c = true → d.lmax ≤ d.waited c.fetched →
    (d.tp.msgs = [] → d.xl.walks = [] → exec (.notLockedExpiry ep index lap) s = .next (s.after
      ((d.raise evTpUnreachable ep).cmdDone c stUnreachable (8 * 2 ^ 40) 0 0))) ∧
    (∀ e, forEach (d.tp.msgs.filter (fun m => m.belongs c)) Dev.discardMsg d = e →
      exec (.notLockedExpiry ep index lap) s = .next (s.after
        ((({ e with xl := { e.xl with walks := e.xl.walks.filter (fun w => decide (w.owner ≠ XlOwner.rdv ep index lap)) } }).raise
          evTpUnreachable ep).cmdDone c stUnreachable (8 * 2 ^ 40) 0 0)))) ∧
  (∀ (s : State) (d e : Dev) (num : Nat) (m : Msg), s.begun = d → d.msg num = some m → m.id = none → m.selfMade = true →
    d.timeOk = false → d.lmax ≤ d.waited m.since → ((d.raise evTpUnreachable m.srcEp).returnCredits m).dropWaiter m.num = e →
    exec (.selfMsgNotLocked false num) s = .next (s.after
      (({ e with tp := { e.tp with
          msgs := e.tp.msgs.filter (fun x => x.num != num), opsFullRaised := false, winFullRaised := false } }).owe
        (.msgEnd m stUnreachable 0 8 [])))) ∧
  (∀ (s : State) (d : Dev) (num : Nat) (m : RlMsg), s.begun = d → firstThat d.rl.msgs (fun m => m.num == num) = some m →
    m.id = none → d.timeOk = false → d.lmax ≤ d.waited m.since →
    (m.type = tyRlAbort → exec (.selfMsgNotLocked true num) s = .next (s.after (d.dropRlMsg num))) ∧
    (m.type ≠ tyRlAbort → exec (.selfMsgNotLocked true num) s = .next (s.after
      ((d.dropRlMsg num).rlCause m.group (if m.peer = 256 then raParentLost else raChildLost) (d.dropRlMsg num).node m.node false
        (some m.peer)))))

/-! ### Endpoint rings and control rings (HQ) -/

/-- R57 to R59, R76: doorbells of an endpoint. A good EP_CMD_DB records the producer position and issues reads; a good EP_EVT_DB
advances the host position, arms where ARM is 1, lets events that wait post, and issues; a bad one stops the ring with its
reason; a doorbell of a page without an endpoint is ignored and reported. -/
def Obligations.DoorbellsOfEndpoints : Prop :=
  (∀ (s : State) (d : Dev) (h ep v n m : Nat) (c : EpCtx) (p : Pos), s.begun = d → d.ep ep = some c → c.fn = h →
    d.inRange h ep = true → c.onDie = true → v < 2 ^ 17 → p = ⟨field v 0 16, flag v 16⟩ → p.index < c.cmd.size →
    ringDist c.cmd.size c.cmd.cons p = some n → ringDist c.cmd.size c.cmd.cons c.cmd.door = some m → m ≤ n →
    exec (.commandDoorbell h ep v) s = .next (s.after
      (((d.setEp ep (some { c with cmd := { c.cmd with
        door := p, shownAt := if p = c.cmd.door then c.cmd.shownAt else c.cmd.shownAt ++ [(p, d.st.ns)] } })).touch ep).issue
        ep))) ∧
  (∀ (s : State) (d : Dev) (h ep v : Nat) (c : EpCtx), s.begun = d → d.ep ep = some c → c.fn = h →
    d.inRange h ep = true → c.onDie = true → v < 2 ^ 64 → c.cmd.size ≤ field v 0 16 →
    exec (.commandDoorbell h ep v) s = .next (s.after ((d.stopRing ep 9 none true).raise evHqDoorbellBad ep))) ∧
  (∀ (s : State) (d : Dev) (h ep v n m : Nat) (c : EpCtx) (p : Pos), s.begun = d → d.ep ep = some c → c.fn = h →
    d.inRange h ep = true → c.onDie = true → v < 2 ^ 18 → p = ⟨field v 0 16, flag v 16⟩ → p.index < c.evt.size →
    ringDist c.evt.size c.evt.host p = some n → ringDist c.evt.size c.evt.host c.evt.prod = some m → n ≤ m →
    exec (.eventDoorbell h ep v) s = .next (s.after
      (((((d.setEp ep (some { c with evt := { c.evt with host := p, armed := c.evt.armed || flag v 17 } })).drainEvt ep).touch
        ep).issue ep).owe (.epIdle ep))) ∧
    (flag v 17 = true → exec (.interruptArm h ep v) s = .next (s.after
      (((((d.setEp ep (some { c with evt := { c.evt with host := p, armed := true } })).drainEvt ep).touch ep).issue ep).owe
        (.epIdle ep)))) ∧
    (c.evt.waiting = [] → exec (.eventDoorbell h ep v) s = .next (s.after
      ((((d.setEp ep (some { c with evt := { c.evt with host := p, armed := c.evt.armed || flag v 17 } })).touch ep).issue
        ep).owe (.epIdle ep))))) ∧
  (∀ (s : State) (d : Dev) (h ep v : Nat) (c : EpCtx), s.begun = d → d.ep ep = some c → c.fn = h →
    d.inRange h ep = true → c.onDie = true → v < 2 ^ 64 → c.evt.size ≤ field v 0 16 →
    exec (.eventDoorbell h ep v) s = .next (s.after ((d.stopRing ep 10 none true).raise evHqDoorbellBad ep))) ∧
  (∀ (s : State) (d : Dev) (h ep v : Nat), s.begun = d → d.pageExists h ep = false →
    exec (.commandDoorbell h ep v) s = .next (s.after (d.raise evHqDbIgnored h)) ∧
    exec (.eventDoorbell h ep v) s = .next (s.after (d.raise evHqDbIgnored h)) ∧
    exec (.endpointEnable h ep v) s = .next (s.after (d.raise evHqDbIgnored h)))

/-- R76, R81, R82, R84: ENABLE and RESUME of an endpoint, and the three ways to reset a function. A ring that goes on is fetched
from at once, or its context is fetched from the Cask first. A reset destroys the function's endpoints, frees its locks, returns
its page to reset values and ends its fence. The reading of log entry 49 is the model's. -/
def Obligations.EndpointControl : Prop :=
  (∀ (d : Dev) (ep : Nat) (c : EpCtx), d.ep ep = some c → d.refetch ep = if c.onDie then d.issue ep else d.fetchCtx ep c) ∧
  (∀ (s : State) (d : Dev) (h ep : Nat) (c : EpCtx), s.begun = d → d.ep ep = some c → d.pageExists h ep = true →
    c.enable = false → exec (.endpointEnable h ep 1) s = .next (s.after
      ((((d.setEp ep (some { c with enable := true })).touch ep).refetch ep).owe (.epIdle ep)))) ∧
  (∀ (s : State) (d : Dev) (h ep : Nat) (c : EpCtx), s.begun = d → d.ep ep = some c → d.pageExists h ep = true →
    c.enable = true → exec (.endpointDisable h ep 0) s = .next (s.after
      ((((((d.setEp ep (some { c with enable := false })).dropIssued ep).mxDisable ep).memberGone ep).touch ep).owe
        (.epIdle ep)))) ∧
  (∀ (s : State) (d : Dev) (h ep r : Nat) (c : EpCtx), s.begun = d → d.ep ep = some c → d.pageExists h ep = true →
    c.enable = true → c.cmd.stopped = some r → c.fenced = none →
    exec (.ringResume h ep 3) s = .next (s.after
      ((((d.setEp ep (some { c with cmd := { c.cmd with stopped := none } })).clearFence .ring ep).touch ep).refetch ep))) ∧
  (∀ (s : State) (d : Dev) (h ep : Nat) (c : EpCtx), s.begun = d → d.ep ep = some c → d.pageExists h ep = true →
    c.enable = true → c.cmd.stopped = none → exec (.ringResume h ep 3) s = .next (s.after d)) ∧
  (∀ (s : State) (d e x : Dev) (h : Nat), s.begun = d → h < 32 →
    ((forEach (d.fnEps h) (fun ep d => d.destroyEp ep) d).loseHost h).setFn h {} = e →
    x = (({ e with
      regs := e.regs.filter (fun r => !(decide (2 ^ 61 ≤ r.1) && decide (field r.1 32 29 = h + 1))),
      xl := { e.xl with inv := Tbl.put {} h {} e.xl.inv },
      wn := { e.wn with flush := Tbl.put {} h {} e.wn.flush } }).clearFence .function h).raise evHqFnResetDone 0 →
    d.resetFn h = x ∧
    exec (.functionReset .page h) s = .next (s.after x) ∧ exec (.functionReset .cxlIo h) s = .next (s.after x) ∧
    (9 ≤ d.bt.phase → exec (.functionReset .management h) s = .next (s.after ((d.wrFld rHqFnReset 0 5 h).resetFn h)))) ∧
  (∀ (d : Dev) (ep : Nat), d.destroyEp ep =
    (((((((((d.dropOps ep).mxEnd ep).memberGone ep).sampleDrop ep).loseEndpoint ep).setEp ep none).clearFence .endpoint
      ep).clearFence .ring ep)))

/-- R58, R77, R79, R80: control doorbells, and what the four control entries do. A good entry is consumed, acts, posts CTRL_DONE
with the status of its action, and more entries are read (R53, R78, R513: what each action is where it succeeds). The readings
of log entries 48, 201 are the model's. -/
def Obligations.ControlRings : Prop :=
  (∀ (s : State) (d : Dev) (h v n m : Nat) (f : FnCtx) (p : Pos), s.begun = d → d.fn h = f → v < 2 ^ 17 →
    p = ⟨field v 0 16, flag v 16⟩ → p.index < f.cmd.size → ringDist f.cmd.size f.cmd.cons p = some n →
    ringDist f.cmd.size f.cmd.cons f.cmd.door = some m → m ≤ n →
    exec (.controlDoorbell h v) s = .next (s.after ((d.setFn h { f with cmd := { f.cmd with door := p } }).issueCtrl h))) ∧
  (∀ (s : State) (d : Dev) (h v n m : Nat) (f : FnCtx) (p : Pos), s.begun = d → d.fn h = f → v < 2 ^ 18 →
    p = ⟨field v 0 16, flag v 16⟩ → p.index < f.evt.size → ringDist f.evt.size f.evt.host p = some n →
    ringDist f.evt.size f.evt.host f.evt.prod = some m → n ≤ m →
    exec (.controlEventDoorbell h v) s = .next (s.after
      ((d.setFn h { f with evt := { f.evt with host := p, armed := f.evt.armed || flag v 17 } }).issueCtrl h))) ∧
  (∀ (s : State) (d : Dev) (h v : Nat) (f : FnCtx), s.begun = d → d.fn h = f → v < 2 ^ 64 → f.cmd.size ≤ field v 0 16 →
    f.fenced = none → exec (.controlDoorbell h v) s = .next (s.after
      (((d.latchHq 0 f.cmd.cons.index 9 h true).raise evHqCtrlMalformed h).fenceFn h 9 f.cmd.cons.index))) ∧
  (∀ (s : State) (d d1 : Dev) (h e : Nat) (f : FnCtx), s.begun = d → d.fn h = f → f.enable = true → f.fenced = none →
    0 < f.cmd.issued → f.cmd.stale = false → entLap e = f.cmd.cons.lap → ctrlReason e = none →
    d1 = d.setFn h { f with cmd := { f.cmd with
      cons := f.cmd.cons.advance f.cmd.size 1, issued := f.cmd.issued - 1, retries := 0 } } →
    (entOpcode e = 0x40 → exec (.createEp h e false) s = .next (s.after
      (((d1.createEp h e).2.ctrlDone h f.cmd.cons.index 0x40 (d1.createEp h e).1).issueCtrl h)) ∧
      (d1.inRange h (ctrlEp e) = true → d1.ep (ctrlEp e) = none → (flag e 218 = false ∨ d1.pinnedCtx < d1.pinMax) → ∀ c : EpCtx,
        c = { fn := h, asTag := field e 32 16, tcMask := field e 208 8, irqEn := flag e 216, ctrPage := flag e 217,
              pin := flag e 218, enable := flag e 219, idleSeen := !(flag e 219), msix := field e 224 11,
              cmd := { base := entU64 e 8, log2 := field e 192 5 }, evt := { base := entU64 e 16, log2 := field e 200 5 } } →
        exec (.createEp h e false) s = .next (s.after
          (((((d1.setEp (ctrlEp e) (some c)).touch (ctrlEp e)).evictCtx (ctrlEp e)).ctrlDone h f.cmd.cons.index 0x40 0).issueCtrl
            h)))) ∧
    (entOpcode e = 0x41 → exec (.destroyEp h e false) s = .next (s.after
      (((d1.destroyCmd h e).2.ctrlDone h f.cmd.cons.index 0x41 (d1.destroyCmd h e).1).issueCtrl h)) ∧
      (∀ c, d1.ep (ctrlEp e) = some c → c.fn = h → (d1.idle (ctrlEp e) = true ∨ c.fenced.isSome = true) →
        exec (.destroyEp h e false) s = .next (s.after
          (((d1.destroyEp (ctrlEp e)).ctrlDone h f.cmd.cons.index 0x41 0).issueCtrl h)))) ∧
    (entOpcode e = 0x42 → exec (.modifyEp h e false) s = .next (s.after
      (((d1.modifyEp h e).2.ctrlDone h f.cmd.cons.index 0x42 (d1.modifyEp h e).1).issueCtrl h)) ∧
      (∀ c, d1.ep (ctrlEp e) = some c → c.fn = h → (c.withRings e = c ∨ d1.idle (ctrlEp e) = true) →
        (flag e 218 = false ∨ c.pin = true ∨ d1.pinnedCtx < d1.pinMax) →
        exec (.modifyEp h e false) s = .next (s.after
          (((d1.setEp (ctrlEp e) (some { c.withRings e with
            tcMask := field e 208 8, irqEn := flag e 216, pin := flag e 218, msix := field e 224 11 })).ctrlDone h f.cmd.cons.index
            0x42 0).issueCtrl h)))) ∧
    (entOpcode e = 0x43 → ∀ ce, exec (.queryEp h e false ce) s = .next (s.after
      (((d1.queryEp h e ce).2.ctrlDone h f.cmd.cons.index 0x43 (d1.queryEp h e ce).1).issueCtrl h)) ∧
      (∀ c, d1.ep (ctrlEp e) = some c → c.fn = h → exec (.queryEp h e false false) s = .next (s.after
        (((d1.writeMem h [(entU64 e 32, 64)] (d1.queryBytes (ctrlEp e) c)).ctrlDone h f.cmd.cons.index 0x43 0).issueCtrl
          h)))))

/-- R53, R56, R74, R78, R79, R84, R86, R513: the action of each control entry on an endpoint in range. The timers and memory
answers of the rings: a stale entry is read again, a context fetch ends or is slow, the maintenance set is served, and an
arriving message ends INCOMPLETE. The readings of log entries 45, 49, 178 are the model's. -/
def Obligations.ControlActionsAndTimers : Prop :=
  (∀ (d : Dev) (h e : Nat) (c : EpCtx), d.inRange h (ctrlEp e) = true → d.ep (ctrlEp e) = none → flag e 218 = false →
    c = { fn := h, asTag := field e 32 16, tcMask := field e 208 8, irqEn := flag e 216, ctrPage := flag e 217, pin := false,
          enable := flag e 219, idleSeen := !(flag e 219), msix := field e 224 11,
          cmd := { base := entU64 e 8, log2 := field e 192 5 }, evt := { base := entU64 e 16, log2 := field e 200 5 } } →
    d.createEp h e = (0, ((d.setEp (ctrlEp e) (some c)).touch (ctrlEp e)).evictCtx (ctrlEp e))) ∧
  (∀ (d : Dev) (h e : Nat), d.inRange h (ctrlEp e) = false → d.createEp h e = (0x30, d)) ∧
  (∀ (d : Dev) (h e : Nat) (c : EpCtx), d.inRange h (ctrlEp e) = true → d.ep (ctrlEp e) = some c →
    d.createEp h e = (0x31, d)) ∧
  (∀ (d : Dev) (h e : Nat) (c : EpCtx), d.ep (ctrlEp e) = some c → c.fn = h → d.idle (ctrlEp e) = true →
    d.destroyCmd h e = (0, d.destroyEp (ctrlEp e))) ∧
  (∀ (d : Dev) (h e : Nat) (c : EpCtx), d.ep (ctrlEp e) = some c → c.fn = h → d.idle (ctrlEp e) = false → c.fenced = none →
    d.destroyCmd h e = (0x34, d)) ∧
  (∀ (d : Dev) (h e : Nat) (c : EpCtx), d.ep (ctrlEp e) = some c → c.fn = h → c.withRings e = c → flag e 218 = c.pin →
    d.modifyEp h e = (0, d.setEp (ctrlEp e) (some { c with
      tcMask := field e 208 8, irqEn := flag e 216, pin := c.pin, msix := field e 224 11 }))) ∧
  (∀ (d : Dev) (h e : Nat) (c : EpCtx), d.ep (ctrlEp e) = some c → c.fn = h → c.withRings e ≠ c → d.idle (ctrlEp e) = false →
    d.modifyEp h e = (0x35, d)) ∧
  (∀ (d : Dev) (h e : Nat) (c : EpCtx), d.ep (ctrlEp e) = some c → c.fn = h →
    d.queryEp h e false = (0, d.writeMem h [(entU64 e 32, 64)] (d.queryBytes (ctrlEp e) c)) ∧
    (d.boundAt h (entU64 e 32) = none → d.queryEp h e false =
      (0, { d with out := .hostBytes h [(entU64 e 32, 64)] (d.queryBytes (ctrlEp e) c) :: d.out }))) ∧
  (∀ (d : Dev) (h e : Nat), d.ep (ctrlEp e) = none → d.destroyCmd h e = (0x33, d) ∧ d.modifyEp h e = (0x33, d) ∧
    d.queryEp h e false = (0x33, d)) ∧
  (∀ (s : State) (d : Dev) (ep : Nat) (c : EpCtx), s.begun = d → ep < 0x10000 → d.ep ep = some c → c.cmd.stale = true →
    exec (.lapReread ep) s = .next (s.after
      (({ d.setEp ep (some { c with cmd := { c.cmd with stale := false, retries := c.cmd.retries + 1 } }) with
        out := [.hostRead c.fn (c.cmd.base + 64 * c.cmd.cons.index) 64] }).raiseIf (decide (c.cmd.retries = 0)) evHqLapReread
        ep))) ∧
  (∀ (s : State) (d d1 d2 : Dev) (ep t : Nat) (c : EpCtx) (err : Bool), s.begun = d → d.ep ep = some c → c.fetching = some t →
    d1 = ((d.setEp ep (some { c with fetching := none, slow := false, heldDoors := [], onDie := true })).touch ep).evictCtx ep →
    d2 = (forEach c.heldDoors (fun (x : Nat × Nat) (d : Dev) => if x.1 = 0 then d.cmdDoor ep x.2 else d.evtDoor ep x.2)
      (if err then d1.caskBus ep else d1)).issue ep →
    exec (.caskFetchDone ep err) s = .next (s.after
      (forEach (d2.takeStaged ep).1 (fun (p : Packet) (d : Dev) => d.arriveFrom4 p) (d2.takeStaged ep).2))) ∧
  (∀ (s : State) (d d1 : Dev) (ep t : Nat) (c : EpCtx), s.begun = d → d.ep ep = some c → c.fetching = some t →
    c.slow = false → d1 = (d.setEp ep (some { c with slow := true })).raise evHqCaskSlow ep →
    exec (.caskSlow ep) s = .next (s.after
      (forEach (d1.takeStaged ep).1 (fun (p : Packet) (d : Dev) => (d.raise evTpStagingBusy ep).sendNack p.tc p.hdr nkStaging)
        (d1.takeStaged ep).2))) ∧
  (∀ (s : State) (d : Dev) (l : List (Nat × Bool)), s.begun = d →
    exec (.maintenanceEntry l) s = .next (s.after (forEach l (fun e (d : Dev) => d.mqPut e.1 e.2) d).mqServe)) ∧
  (∀ (d : Dev) (q : Nat) (bad : Bool), d.mqPut q bad = d.setMq q { d.mq q with
    entries := (d.mq q).entries ++ [bad], since := if (d.mq q).entries.isEmpty then d.now else (d.mq q).since }) ∧
  (∀ (d : Dev), d.mqServe = forEach (upFrom 0 d.mqBegin.hq.mqBurst) (fun _ (d : Dev) => d.mqIssue)
    { d.mqBegin with hq := { d.mqBegin.hq with mqSlots := 0 } }) ∧
  (∀ (s : State) (d : Dev) (q : Nat), s.begun = d → (d.mq q).entries ≠ [] → (d.mq q).stalled = false →
    64 ≤ d.since (d.mq q).since →
    exec (.mqStall q) s = .next (s.after ((d.setMq q { d.mq q with stalled := true }).raise evHqMqStall 0))) ∧
  (∀ (s : State) (d e : Dev) (node id fst : Nat) (r : TgtRec), s.begun = d → d.findRec node id fst = some r →
    (r.state = .inProgress ∨ r.state = .signalWait) → d.ageLimit ≤ d.ageOf r.fst →
    (r.rsv = false → e = d) →
    (r.rsv = true → (r.type = tySend ∨ r.type = tyRts) → e = (d.recvBad r stIncomplete 0).raise evHqIncompletePosted r.dstEp) →
    (r.rsv = true → r.type = tyLsGrant → e = d.unreserve r.dstEp) →
    (r.rsv = true → r.type ≠ tySend → r.type ≠ tyRts → r.type ≠ tyLsGrant →
      e = (d.postSignal r stIncomplete 0 0).raise evHqIncompletePosted r.dstEp) →
    exec (.incompletePosted node id fst) s = .next (s.after
      (e.putRec { r with state := .completed stIncomplete 0, doneAt := e.now, rsv := false })))

/-! ### Command entries: acceptance and start (HQ, TP, MX, RL, LS) -/

/-- R56, R60, R61, R62, R64, R69, R71, R75, R515: the entry of every command opcode, read from a ring that fetches, with the lap
bit of its place and no reason to be malformed, is accepted: it is consumed, its command joins those of the endpoint, and the
ring is looked at for commands that may start. Where it is the ring's only open command it starts at once, and the clause says
what its start does: a NOP completes; PUT, GET, SEND, ATOMIC and PUT_SIGNAL make their first message; a lock command is served
here, forwarded, or sent (R385, R386, R388); the matching commands complete with their status (R147, R148, R150); a collective
joins its step (R175, R176). An entry that is not accepted. A bus error stops the ring with reason 11; a wrong lap bit makes it
stale until LAP_RETRY reads have found it so; a malformed entry stops the ring with its reason. Shown for PUT; every command
entry is judged alike. The readings of log entries 8, 47 are the model's. -/
def Obligations.EntriesAreChecked : Prop :=
  (∀ (s : State) (d x : Dev) (ep e : Nat) (frags : List Nat) (data : List Byte) (c : EpCtx) (cmd : Cmd) (alone : Prop),
    s.begun = d → d.ep ep = some c →
    0 < c.cmd.issued → c.cmd.stale = false → c.cmd.stopped = none → c.enable = true → c.fenced = none →
    d.fnFenced c.fn = false → entLap e = c.cmd.cons.lap → entryReason e c.tcMask (d.collTc ep e) = none →
    cmd = {
      ep := ep, index := c.cmd.cons.index, lap := c.cmd.cons.lap, entry := e, frags := frags, fetched := d.st.boundaries,
      data := if 0x18 ≤ entOpcode e then data else [] } →
    ({ (d.setEp ep (some { c with cmd := { c.cmd with
          cons := c.cmd.cons.advance c.cmd.size 1, issued := c.cmd.issued - 1, retries := 0,
          shownAt := c.cmd.shownAt.filter (fun s => s.1 ≠ c.cmd.cons.advance c.cmd.size 1) } })).sampleFetch
        { ep := ep, index := c.cmd.cons.index, lap := c.cmd.cons.lap, desc := e, ringAddr := c.cmd.base + 64 * c.cmd.cons.index,
          fn := c.fn, t0 := (firstThat c.cmd.shownAt (fun s => s.1 ≠ c.cmd.cons)).elim d.st.ns (fun s => s.2), fetched := d.st.ns }
      with tp := { d.tp with cmds := d.tp.cmds ++ [cmd] } } : Dev) = x →
    (alone ↔ d.openCmds ep = [] ∧ d.tp.msgs.all (fun m => !(m.ofCmd cmd)) = true) →
    (entOpcode e = 0x00 → exec (.nop ep e frags false) s = .next (s.after (x.owe (.startCmds ep))) ∧
      (alone → x.startNext ep = (x.startCmd cmd).owe (.startCmds ep) ∧
      x.startCmd cmd = x.cmdDone cmd 0 0 0 0)) ∧
    (entOpcode e = 0x01 → exec (.put ep e frags false) s = .next (s.after (x.owe (.startCmds ep))) ∧
      (alone → x.startNext ep = (x.startCmd cmd).owe (.startCmds ep) ∧
      (∀ c', c' = { cmd with phase := .running, total := splitCount (entLen e) } →
        x.startCmd cmd = ((x.setCmd c').setCmd { c' with made := 1 }).addCmdMsg c' (c'.msg 0)))) ∧
    (entOpcode e = 0x02 → exec (.get ep e frags false) s = .next (s.after (x.owe (.startCmds ep))) ∧
      (alone → x.startNext ep = (x.startCmd cmd).owe (.startCmds ep) ∧
      (∀ c', c' = { cmd with phase := .running, total := splitCount (entLen e) } →
        x.startCmd cmd = ((x.setCmd c').setCmd { c' with made := 1 }).addCmdMsg c' (c'.msg 0)))) ∧
    (entOpcode e = 0x03 → exec (.send ep e frags false) s = .next (s.after (x.owe (.startCmds ep))) ∧
      (alone → x.startNext ep = (x.startCmd cmd).owe (.startCmds ep) ∧
      (entLen e ≤ 16384 → (∀ c', c' = { cmd with phase := .running, total := 1 } →
        x.startCmd cmd = ((x.setCmd c').setCmd { c' with made := 1 }).addCmdMsg c' (c'.msg 0))) ∧
      (16384 < entLen e → entIndirect e = true → x.startCmd cmd = x.cmdDone cmd stRdvIndirect 0 0 0) ∧
      (16384 < entLen e → entIndirect e = false → (∃ l, x.evalAccess (rdvAccess cmd) {} = .ok l) → x.rdvOpen < 65536 →
        x.startCmd cmd = (x.setCmd { cmd with phase := .rdvStarted }).addCmdMsg cmd (rtsMsg cmd)))) ∧
    (entOpcode e = 0x04 → exec (.atomic ep e frags false) s = .next (s.after (x.owe (.startCmds ep))) ∧
      (alone → x.startNext ep = (x.startCmd cmd).owe (.startCmds ep) ∧
      (∀ c', c' = { cmd with phase := .running, total := 1 } →
        x.startCmd cmd = ((x.setCmd c').setCmd { c' with made := 1 }).addCmdMsg c' (c'.msg 0)))) ∧
    (entOpcode e = 0x05 → exec (.putSignal ep e frags false) s = .next (s.after (x.owe (.startCmds ep))) ∧
      (alone → x.startNext ep = (x.startCmd cmd).owe (.startCmds ep) ∧
      (∀ c', c' = { cmd with phase := .running, total := splitCount (entLen e) } →
        x.startCmd cmd = ((x.setCmd c').setCmd { c' with made := 1 }).addCmdMsg c' (c'.msg 0)))) ∧
    (entOpcode e = 0x08 → exec (.lockAcquire ep e frags false) s = .next (s.after (x.owe (.startCmds ep))) ∧
      (alone → x.startNext ep = (x.startCmd cmd).owe (.startCmds ep) ∧
      (x.lockLocal e = true → x.mirrorFull = false → (x.pairEn = false ∨ x.tw.primary = true) → x.startCmd cmd =
        (x.lockServe (entLock e) ⟨.host, x.fnOf ep, ep, false⟩ (entTc e) (entLockOp e)).2.2.cmdDone cmd
          (x.lockServe (entLock e) ⟨.host, x.fnOf ep, ep, false⟩ (entTc e) (entLockOp e)).1
          (2 ^ 32 * bit (x.lockServe (entLock e) ⟨.host, x.fnOf ep, ep, false⟩ (entTc e) (entLockOp e)).2.1) 0 0) ∧
      (x.lockLocal e = true → x.mirrorFull = false → x.pairEn = true → x.tw.primary = false → x.startCmd cmd = x.lockForward cmd) ∧
      (x.lockLocal e = false → x.startCmd cmd = (x.setCmd { cmd with phase := .running }).addMsg
        { num := 0, owner := .lockReq ep cmd.index cmd.lap, type := tyLsReq, srcEp := ep, dstNode := entNode e, dstEp := 0,
          tc := entTc e, len := 16, addr := 0, key := 0, inline_ := lockReqBytes e }))) ∧
    (entOpcode e = 0x09 → exec (.lockRelease ep e frags false) s = .next (s.after (x.owe (.startCmds ep))) ∧
      (alone → x.startNext ep = (x.startCmd cmd).owe (.startCmds ep) ∧
      (x.lockLocal e = true → x.mirrorFull = false → (x.pairEn = false ∨ x.tw.primary = true) → x.startCmd cmd =
        (x.lockServe (entLock e) ⟨.host, x.fnOf ep, ep, false⟩ (entTc e) (entLockOp e)).2.2.cmdDone cmd
          (x.lockServe (entLock e) ⟨.host, x.fnOf ep, ep, false⟩ (entTc e) (entLockOp e)).1
          (2 ^ 32 * bit (x.lockServe (entLock e) ⟨.host, x.fnOf ep, ep, false⟩ (entTc e) (entLockOp e)).2.1) 0 0) ∧
      (x.lockLocal e = true → x.mirrorFull = false → x.pairEn = true → x.tw.primary = false → x.startCmd cmd = x.lockForward cmd) ∧
      (x.lockLocal e = false → x.startCmd cmd = (x.setCmd { cmd with phase := .running }).addMsg
        { num := 0, owner := .lockReq ep cmd.index cmd.lap, type := tyLsReq, srcEp := ep, dstNode := entNode e, dstEp := 0,
          tc := entTc e, len := 16, addr := 0, key := 0, inline_ := lockReqBytes e }))) ∧
    (entOpcode e = 0x0A → exec (.lockRenew ep e frags false) s = .next (s.after (x.owe (.startCmds ep))) ∧
      (alone → x.startNext ep = (x.startCmd cmd).owe (.startCmds ep) ∧
      (x.lockLocal e = true → x.mirrorFull = false → (x.pairEn = false ∨ x.tw.primary = true) → x.startCmd cmd =
        (x.lockServe (entLock e) ⟨.host, x.fnOf ep, ep, false⟩ (entTc e) (entLockOp e)).2.2.cmdDone cmd
          (x.lockServe (entLock e) ⟨.host, x.fnOf ep, ep, false⟩ (entTc e) (entLockOp e)).1
          (2 ^ 32 * bit (x.lockServe (entLock e) ⟨.host, x.fnOf ep, ep, false⟩ (entTc e) (entLockOp e)).2.1) 0 0) ∧
      (x.lockLocal e = true → x.mirrorFull = false → x.pairEn = true → x.tw.primary = false → x.startCmd cmd = x.lockForward cmd) ∧
      (x.lockLocal e = false → x.startCmd cmd = (x.setCmd { cmd with phase := .running }).addMsg
        { num := 0, owner := .lockReq ep cmd.index cmd.lap, type := tyLsReq, srcEp := ep, dstNode := entNode e, dstEp := 0,
          tc := entTc e, len := 16, addr := 0, key := 0, inline_ := lockReqBytes e }))) ∧
    (entOpcode e = 0x0B → exec (.lockCancel ep e frags false) s = .next (s.after (x.owe (.startCmds ep))) ∧
      (alone → x.startNext ep = (x.startCmd cmd).owe (.startCmds ep) ∧
      (x.lockLocal e = true → x.mirrorFull = false → (x.pairEn = false ∨ x.tw.primary = true) → x.startCmd cmd =
        (x.lockServe (entLock e) ⟨.host, x.fnOf ep, ep, false⟩ (entTc e) (entLockOp e)).2.2.cmdDone cmd
          (x.lockServe (entLock e) ⟨.host, x.fnOf ep, ep, false⟩ (entTc e) (entLockOp e)).1
          (2 ^ 32 * bit (x.lockServe (entLock e) ⟨.host, x.fnOf ep, ep, false⟩ (entTc e) (entLockOp e)).2.1) 0 0) ∧
      (x.lockLocal e = true → x.mirrorFull = false → x.pairEn = true → x.tw.primary = false → x.startCmd cmd = x.lockForward cmd) ∧
      (x.lockLocal e = false → x.startCmd cmd = (x.setCmd { cmd with phase := .running }).addMsg
        { num := 0, owner := .lockReq ep cmd.index cmd.lap, type := tyLsReq, srcEp := ep, dstNode := entNode e, dstEp := 0,
          tc := entTc e, len := 16, addr := 0, key := 0, inline_ := lockReqBytes e }))) ∧
    (entOpcode e = 0x10 → exec (.postRecv ep e frags false) s = .next (s.after (x.owe (.startCmds ep))) ∧
      (alone → x.startNext ep = (x.startCmd cmd).owe (.startCmds ep) ∧
      (∀ r y, r = postedOf ep (x.mxEp ep).seq e →
        (x.setMxEp ep { x.mxEp ep with seq := ((x.mxEp ep).seq + 1) % 2 ^ 64 }) = y → x.mx.unexp = [] →
        y.longScan 0 0 ep = y → (y.fld rMxFnQuota 0 21 (y.fnOf ep) = 0 ∨ y.fnPosted (y.fnOf ep) < y.fld rMxFnQuota 0 21 (y.fnOf ep)) →
        y.mx.posted.length < 1048576 →
        x.startCmd cmd = ({ y with mx := { y.mx with posted := y.mx.posted ++ [r] } }).cmdDone cmd 0 0 0 0))) ∧
    (entOpcode e = 0x11 → exec (.cancelRecv ep e frags false) s = .next (s.after (x.owe (.startCmds ep))) ∧
      (alone → x.startNext ep = (x.startCmd cmd).owe (.startCmds ep) ∧
      (∀ p, firstThat x.mx.posted (fun p => p.ep == ep && p.recvId == field e 352 32) = some p →
        x.startCmd cmd = (x.unpost p).cmdDone cmd 0 0 0 0) ∧
      (firstThat x.mx.posted (fun p => p.ep == ep && p.recvId == field e 352 32) = none →
        x.startCmd cmd = (x.raise evMxCancelMiss ep).cmdDone cmd stCancelMiss 0 0 0))) ∧
    (entOpcode e = 0x12 → exec (.setUbuf ep e frags false) s = .next (s.after (x.owe (.startCmds ep))) ∧
      (alone → x.startNext ep = (x.startCmd cmd).owe (.startCmds ep) ∧
      (entLen e = 0 → entLocal e % 64 = 0 → (x.mxEp ep).alloc = [] →
        x.startCmd cmd = (x.setMxEp ep { x.mxEp ep with area := none, next := 0 }).cmdDone cmd 0 0 0 0) ∧
      (∀ n, entLen e = 2 ^ n → 16 ≤ n → n ≤ 30 → entLocal e % 64 = 0 → (x.mxEp ep).alloc = [] →
        x.startCmd cmd =
          (x.setMxEp ep { x.mxEp ep with area := some (entLocal e, n, entLocalKey e), next := 0 }).cmdDone cmd 0 0 0 0) ∧
      (entLocal e % 64 ≠ 0 → x.startCmd cmd = x.cmdDone cmd stUbufForm 0 0 0))) ∧
    (entOpcode e = 0x13 → exec (.cancelAll ep e frags false) s = .next (s.after (x.owe (.startCmds ep))) ∧
      (alone → x.startNext ep = (x.startCmd cmd).owe (.startCmds ep) ∧
      x.startCmd cmd =
        ({ x with mx := { x.mx with posted := x.mx.posted.filter (fun p =>
          !(p.ep == ep && (flag e 240 || p.ctx == field e 224 16))) } }).cmdDone cmd 0
          (countWhere x.mx.posted (fun p => p.ep == ep && (flag e 240 || p.ctx == field e 224 16))) 0 0)) ∧
    (entOpcode e = 0x18 → exec (.allreduce ep e frags data false) s = .next (s.after (x.owe (.startCmds ep))) ∧
      (alone → x.startNext ep = (x.startCmd cmd).owe (.startCmds ep) ∧
      (∀ y i k, (x.timeOk = true ∨ x.collRemote (collGroup e) = false) → x.collRefused ep e = none →
        x.setCmd { cmd with phase := .running } = y → y.rlMemberIndex (collGroup e) ep = some i →
        k = Tbl.get 0 (y.rlGroup (collGroup e)).next i →
        x.startCmd cmd = (y.setRlGroup (collGroup e) { y.rlGroup (collGroup e) with
          next := Tbl.put 0 i ((k + 1) % 2 ^ 32) (y.rlGroup (collGroup e)).next }).rlJoin { cmd with phase := .running }
            ⟨i, ep, cmd.index, cmd.lap⟩ k false) ∧
      (∀ r, x.collRefused ep e = some r → x.startCmd cmd = (x.raiseIf (decide (r = stCollForm)) evRlCollForm ep).cmdDone cmd r 0 0 0))) ∧
    (entOpcode e = 0x19 → exec (.reduce ep e frags data false) s = .next (s.after (x.owe (.startCmds ep))) ∧
      (alone → x.startNext ep = (x.startCmd cmd).owe (.startCmds ep) ∧
      (∀ y i k, (x.timeOk = true ∨ x.collRemote (collGroup e) = false) → x.collRefused ep e = none →
        x.setCmd { cmd with phase := .running } = y → y.rlMemberIndex (collGroup e) ep = some i →
        k = Tbl.get 0 (y.rlGroup (collGroup e)).next i →
        x.startCmd cmd = (y.setRlGroup (collGroup e) { y.rlGroup (collGroup e) with
          next := Tbl.put 0 i ((k + 1) % 2 ^ 32) (y.rlGroup (collGroup e)).next }).rlJoin { cmd with phase := .running }
            ⟨i, ep, cmd.index, cmd.lap⟩ k false) ∧
      (∀ r, x.collRefused ep e = some r → x.startCmd cmd = (x.raiseIf (decide (r = stCollForm)) evRlCollForm ep).cmdDone cmd r 0 0 0))) ∧
    (entOpcode e = 0x1A → exec (.barrier ep e frags data false) s = .next (s.after (x.owe (.startCmds ep))) ∧
      (alone → x.startNext ep = (x.startCmd cmd).owe (.startCmds ep) ∧
      (∀ y i k, (x.timeOk = true ∨ x.collRemote (collGroup e) = false) → x.collRefused ep e = none →
        x.setCmd { cmd with phase := .running } = y → y.rlMemberIndex (collGroup e) ep = some i →
        k = Tbl.get 0 (y.rlGroup (collGroup e)).next i →
        x.startCmd cmd = (y.setRlGroup (collGroup e) { y.rlGroup (collGroup e) with
          next := Tbl.put 0 i ((k + 1) % 2 ^ 32) (y.rlGroup (collGroup e)).next }).rlJoin { cmd with phase := .running }
            ⟨i, ep, cmd.index, cmd.lap⟩ k false) ∧
      (∀ r, x.collRefused ep e = some r → x.startCmd cmd = (x.raiseIf (decide (r = stCollForm)) evRlCollForm ep).cmdDone cmd r 0 0 0))) ∧
    (entOpcode e = 0x1B → exec (.collAbort ep e frags data false) s = .next (s.after (x.owe (.startCmds ep))) ∧
      (alone → x.startNext ep = (x.startCmd cmd).owe (.startCmds ep) ∧
      (∀ y, (x.timeOk = true ∨ x.collRemote (collGroup e) = false) → x.collRefused ep e = none →
        x.setCmd { cmd with phase := .running } = y →
        x.startCmd cmd = y.rlCause (collGroup e) raHost y.node 0 false none)))) ∧
  (∀ (s : State) (d : Dev) (ep e : Nat) (frags : List Nat) (c : EpCtx), s.begun = d → d.ep ep = some c →
    0 < c.cmd.issued → c.cmd.stale = false → c.cmd.stopped = none → c.enable = true → c.fenced = none →
    d.fnFenced c.fn = false →
    (exec (.put ep e frags true) s = .next (s.after
      ((d.stopRing ep 11 (some c.cmd.cons.index) true).raise evHqRingBus ep))) ∧
    (entLap e ≠ c.cmd.cons.lap → c.cmd.retries < d.fld rHqCtl 0 8 →
      exec (.put ep e frags false) s = .next (s.after (d.setEp ep (some { c with cmd := { c.cmd with stale := true } })))) ∧
    (entLap e ≠ c.cmd.cons.lap → d.fld rHqCtl 0 8 ≤ c.cmd.retries →
      exec (.put ep e frags false) s = .next (s.after
        ((d.stopRing ep 8 (some c.cmd.cons.index) true).raise evHqCmdMalformed ep))) ∧
    (∀ r, entLap e = c.cmd.cons.lap → entryReason e c.tcMask (d.collTc ep e) = some r →
      exec (.put ep e frags false) s = .next (s.after
        ((d.stopRing ep r (some c.cmd.cons.index) true).raise evHqCmdMalformed ep))))

/-- R62, R118, R148, R386, R512: what a command does when it starts. `c` is a command of an endpoint that has made no message.
The readings of log entries 47, 58 are the model's. -/
def Obligations.CommandsStart : Prop :=
  ∀ (d : Dev) (c c' : Cmd), c.made = 0 → c.outcomes = [] → d.tp.msgs.all (fun m => !(m.ofCmd c)) = true →
    (entOpcode c.entry = 0x00 → d.startCmd c = d.cmdDone c 0 0 0 0) ∧
    ((entOpcode c.entry = 0x01 ∨ entOpcode c.entry = 0x02 ∨ entOpcode c.entry = 0x05) →
      c' = { c with phase := .running, total := splitCount (entLen c.entry) } →
      d.startCmd c = ((d.setCmd c').setCmd { c' with made := 1 }).addCmdMsg c' (c'.msg 0)) ∧
    ((entOpcode c.entry = 0x04 ∨ (entOpcode c.entry = 0x03 ∧ entLen c.entry ≤ 16384)) →
      c' = { c with phase := .running, total := 1 } →
      d.startCmd c = ((d.setCmd c').setCmd { c' with made := 1 }).addCmdMsg c' (c'.msg 0)) ∧
    (entOpcode c.entry = 0x03 → 16384 < entLen c.entry → entIndirect c.entry = false →
      (∃ l, d.evalAccess (rdvAccess c) {} = .ok l) → d.rdvOpen < 65536 →
      d.startCmd c = (d.setCmd { c with phase := .rdvStarted }).addCmdMsg c (rtsMsg c)) ∧
    (entOpcode c.entry = 0x11 → ∀ p, firstThat d.mx.posted (fun p => p.ep == c.ep && p.recvId == field c.entry 352 32) = some p →
      d.startCmd c = (d.unpost p).cmdDone c 0 0 0 0) ∧
    (entOpcode c.entry = 0x12 → entLen c.entry = 0 → entLocal c.entry % 64 = 0 → (d.mxEp c.ep).alloc = [] →
      d.startCmd c = (d.setMxEp c.ep { d.mxEp c.ep with area := none, next := 0 }).cmdDone c 0 0 0 0) ∧
    (entOpcode c.entry = 0x13 → flag c.entry 240 = true →
      d.startCmd c = ({ d with mx := { d.mx with posted := d.mx.posted.filter (fun p => !(p.ep == c.ep)) } }).cmdDone c 0
        (countWhere d.mx.posted (fun p => p.ep == c.ep)) 0 0) ∧
    (8 ≤ entOpcode c.entry → entOpcode c.entry ≤ 0xB → d.lockLocal c.entry = true → d.mirrorFull = false → d.pairEn = false →
      d.startCmd c =
        (d.lockServe (entLock c.entry) ⟨.host, d.fnOf c.ep, c.ep, false⟩ (entTc c.entry) (entLockOp c.entry)).2.2.cmdDone c
          (d.lockServe (entLock c.entry) ⟨.host, d.fnOf c.ep, c.ep, false⟩ (entTc c.entry) (entLockOp c.entry)).1
          (2 ^ 32 * bit (d.lockServe (entLock c.entry) ⟨.host, d.fnOf c.ep, c.ep, false⟩ (entTc c.entry)
            (entLockOp c.entry)).2.1) 0 0) ∧
    (entOpcode c.entry = 0x1B → d.collRefused c.ep c.entry = none → d.timeOk = true →
      d.startCmd c = (d.setCmd { c with phase := .running }).rlCause (collGroup c.entry) raHost
        (d.setCmd { c with phase := .running }).node 0 false none) ∧
    (0x18 ≤ entOpcode c.entry → entOpcode c.entry ≤ 0x1A → d.timeOk = true → d.collRefused c.ep c.entry = none →
      ∀ i, (d.setCmd { c with phase := .running }).rlMemberIndex (collGroup c.entry) c.ep = some i →
      d.startCmd c = ((d.setCmd { c with phase := .running }).setRlGroup (collGroup c.entry)
        { d.rlGroup (collGroup c.entry) with
          next := Tbl.put 0 i ((Tbl.get 0 (d.rlGroup (collGroup c.entry)).next i + 1) % 2 ^ 32)
            (d.rlGroup (collGroup c.entry)).next }).rlJoin { c with phase := .running } ⟨i, c.ep, c.index, c.lap⟩
          (Tbl.get 0 (d.rlGroup (collGroup c.entry)).next i) false)

/-! ### Address translation (XL) -/

/-- R106 to R108: invalidate commands. An accepted one removes at once what its scope covers, marks the walks it covers, and
becomes BUSY with the walks then running; a command written while BUSY, or with a tag outside the function, is dropped and
reported. When those walks have ended DONE_SEQ takes SEQ; one still BUSY after 64 ticks is reported once. The readings of log
entries 63, 179 are the model's. -/
def Obligations.Invalidates : Prop :=
  (∀ (s : State) (d x : Dev) (i v : Nat) (sc : InvScope) (st : InvState), s.begun = d → v < 2 ^ 64 →
    Tbl.get {} d.xl.inv i = st → st.busy = false →
    x = { d with xl := { d.xl with
      leaves := d.xl.leaves.filter (fun l => !(sc.dropsLeaf l)),
      walkCache := d.xl.walkCache.filter (fun e => !(sc.dropsWalk e.tag)),
      keys := d.xl.keys.filter (fun k => !(sc.dropsKey k)),
      descs := d.xl.descs.filter (fun e => !(sc.dropsDesc e.tag)),
      walks := d.xl.walks.map (fun w => if sc.coversWalk w then { w with discard := true } else w),
      inv := Tbl.put {} i { st with
        busy := true, seq := field v 32 16, since := d.now, slow := false, walks := d.xl.walks.map (fun w => w.num) } d.xl.inv } } →
    (i < 32 → d.fld rXlFnTags 0 16 i ≤ field v 16 16 → field v 16 16 < d.fld rXlFnTags 0 16 i + d.fld rXlFnTags 16 17 i →
      (field v 0 2 = 0 → sc = .range (field v 16 16) (d.rd rFnXlInvStart 0 i) (d.rd rFnXlInvLen 0 i) →
        exec (.invalidateRange i v) s = .next (s.after x)) ∧
      (field v 0 2 = 1 → sc = .tag (field v 16 16) → exec (.invalidateTag i v) s = .next (s.after x))) ∧
    (i < 32 → field v 0 2 = 2 → sc = .tags (d.fld rXlFnTags 0 16 i) (d.fld rXlFnTags 16 17 i) →
      exec (.invalidateFunction i v) s = .next (s.after x)) ∧
    (i = 32 → 9 ≤ d.bt.phase → field v 0 2 = 3 → sc = .all → exec (.invalidateDevice v) s = .next (s.after x))) ∧
  (∀ (s : State) (d : Dev) (h v : Nat), s.begun = d → h < 32 → v < 2 ^ 64 → (Tbl.get {} d.xl.inv h).busy = true →
    exec (.invalidateRange h v) s = .next (s.after (d.raise evXlInvDropped h))) ∧
  (∀ (d : Dev) (i seq : Nat) (sc : InvScope),
    (∀ l, l ∈ (d.startInv i seq sc).xl.leaves ↔ l ∈ d.xl.leaves ∧ sc.dropsLeaf l = false) ∧
    (∀ k, k ∈ (d.startInv i seq sc).xl.keys ↔ k ∈ d.xl.keys ∧ sc.dropsKey k = false) ∧
    (∀ w, w ∈ (d.startInv i seq sc).xl.walks → sc.coversWalk w = true → w.discard = true) ∧
    (Tbl.get {} (d.startInv i seq sc).xl.inv i).busy = true ∧ (Tbl.get {} (d.startInv i seq sc).xl.inv i).seq = seq ∧
    (d.startInv i seq sc).regs = d.regs ∧ (d.startInv i seq sc).out = d.out) ∧
  (∀ (s : State) (d : Dev) (i : Nat) (st : InvState), s.begun = d → Tbl.get {} d.xl.inv i = st → st.busy = true →
    (∀ n ∈ st.walks, ∀ w ∈ d.xl.walks, w.num ≠ n) →
    exec (.invDone i) s = .next (s.after (({ d with xl := { d.xl with
      inv := Tbl.put {} i { st with busy := false, done := st.seq } d.xl.inv } }).raise evXlInvDone 0))) ∧
  (∀ (s : State) (d : Dev) (i : Nat) (st : InvState), s.begun = d → Tbl.get {} d.xl.inv i = st → st.busy = true →
    st.slow = false → 64 ≤ d.since st.since →
    exec (.invSlow i) s = .next (s.after (({ d with xl := { d.xl with
      inv := Tbl.put {} i { st with slow := true } d.xl.inv } }).raise evXlInvSlow (if i < 32 then i else 0))))

/-- R73, R91, R92, R93, R94, R96, R97, R100, R102, R104, R110, R111, R112: a read of a walk and the ageing sweep. A descriptor
or key entry joins what the access has found, and it is looked at again; a table entry that is present and no leaf leads one
level down; a leaf of one page, and a group of 16 that agrees, fill the cache and the access is looked at again; an absent entry
is NOT_PRESENT; a bus error ends the access WALK_BUS and caches nothing. Answers to page requests, and their ends. A record is
answered once its event has been posted; what is freed wakes the accesses that wait for a record. The readings of log entries
20, 41, 60, 61, 62, 180 are the model's. -/
def Obligations.WalksAndPageRequests : Prop :=
  (∀ (s : State) (d d1 : Dev) (n data mem : Nat) (w : Walk) (f : Found), s.begun = d →
    firstThat d.xl.walks (fun x => x.num == n) = some w → w.discard = false → f = ⟨w.leaves, w.desc, w.keyRaws, w.tables⟩ →
    d1 = { d with xl := { d.xl with walks := d.xl.walks.filter (fun x => x.num != n) } } →
    (exec (.tableWalkRead n true data mem) s = .next (s.after
      (d1.ownerEnds w.owner w.access stLocalFault fkWalkBus).freeResumed)) ∧
    (w.stage = .desc → exec (.tableWalkRead n false data mem) s = .next (s.after
      (d1.lookAgain w mem { f with desc := some (data % 2 ^ 256) }).freeResumed)) ∧
    (∀ i, w.stage = .key i → exec (.tableWalkRead n false data mem) s = .next (s.after
      (d1.lookAgain w mem { f with keyRaws := (i, data % 2 ^ 128) :: w.keyRaws }).freeResumed)) ∧
    (∀ va at_ e l d2, w.stage = .group va at_ e → groupOk data e va = true →
      (d1.cacheFound w.tag f).fillLeaf w.tag va 16 (field e 12 40 * 4096 - 4096 * field va 12 4) e = (l, d2) →
      exec (.tableWalkRead n false data mem) s = .next (s.after
        (d2.lookAgain w mem { f with leaves := l :: w.leaves, tables := [] }).freeResumed)) ∧
    (∀ va at_ e, w.stage = .group va at_ e → groupOk data e va = false →
      exec (.tableWalkRead n false data mem) s = .next (s.after
        ((d1.cacheFound w.tag f).ownerEnds w.owner w.access stLocalFault fkWalkFormat).freeResumed)) ∧
    (∀ level va addr, w.stage = .table level va addr → data < 2 ^ 64 →
      (flag data 0 = false → exec (.tableWalkRead n false data mem) s = .next (s.after
        ((d1.cacheFound w.tag f).ownerMissing w.owner w.access
          ((d1.cacheFound w.tag f).missingPage w.access f)).freeResumed)) ∧
      (flag data 0 = true → entryBad data level va = true →
        exec (.tableWalkRead n false data mem) s = .next (s.after
          ((d1.cacheFound w.tag f).ownerEnds w.owner w.access stLocalFault fkWalkFormat).freeResumed)) ∧
      (∀ l d2, flag data 0 = true → entryBad data level va = false → flag data 1 = true → flag data 6 = false →
        (d1.cacheFound w.tag f).fillLeaf w.tag va (12 + 9 * level) (field data 12 40 * 4096) data = (l, d2) →
        exec (.tableWalkRead n false data mem) s = .next (s.after
          (d2.lookAgain w mem { f with leaves := l :: w.leaves, tables := [] }).freeResumed)) ∧
      (flag data 0 = true → entryBad data level va = false → flag data 1 = true → flag data 6 = true →
        exec (.tableWalkRead n false data mem) s = .next (s.after
          (d1.contWalk w f (.group va (addr / 128 * 128) data)).freeResumed)) ∧
      (flag data 0 = true → entryBad data level va = false → flag data 1 = false →
        d1.refusedAddr w.fn (field data 12 40 * 4096 + 8 * field va (12 + 9 * (level - 1)) 9) = false →
        exec (.tableWalkRead n false data mem) s = .next (s.after
          (d1.contWalk w { f with tables := ⟨w.tag, level, va / 2 ^ (12 + 9 * level), field data 12 40 * 4096⟩ :: w.tables }
            (.table (level - 1) va (field data 12 40 * 4096 + 8 * field va (12 + 9 * (level - 1)) 9))).freeResumed)))) ∧
  (∀ (s : State) (d : Dev) (n data mem : Nat) (err : Bool) (w : Walk), s.begun = d →
    firstThat d.xl.walks (fun x => x.num == n) = some w → w.discard = true →
    exec (.tableWalkRead n err data mem) s = .next (s.after
      (({ d with xl := { d.xl with walks := d.xl.walks.filter (fun x => x.num != n) } }).lookAgain w mem {}).freeResumed)) ∧
  (∀ (s : State) (d : Dev) (place : Nat) (l : Leaf), s.begun = d → d.xl.leaves[place]? = some l → l.pinned = false →
    d.xlAgeLimit ≤ d.waited l.fill → d.sweepVisits l = true → exec (.translationAgeOut place) s = .next (s.after
      { d with xl := { d.xl with leaves := d.xl.leaves.eraseIdx place } })) ∧
  (∀ (s : State) (d : Dev) (h ep v : Nat) (r : PrqRecord), s.begun = d → d.pageExists h ep = true → v < 2 ^ 13 →
    Tbl.get none d.xl.prq (field v 0 12) = some r → r.ep = ep → r.state = .pending → d.requestWaits ep (field v 0 12) = false →
    (flag v 12 = false → r.target = false → exec (.pageResume h ep v) s = .next (s.after
      (forEach r.waiters Dev.resumeWaiter
        (d.setPrq (field v 0 12) (some { r with state := .resumed, waiters := [] }))).freeResumed)) ∧
    (flag v 12 = false → r.target = true → exec (.pageResume h ep v) s = .next (s.after (d.freeRec (field v 0 12)))) ∧
    (flag v 12 = true → r.target = false → exec (.pageFail h ep v) s = .next (s.after
      ((forEach r.waiters (fun (w : PrqWaiter) d => d.ownerEnds w.1 w.2 stPageFailed 0) d).freeRec (field v 0 12)))) ∧
    (flag v 12 = true → r.target = true → exec (.pageFail h ep v) s = .next (s.after
      (d.setPrq (field v 0 12) (some { r with state := .failed, failedAt := d.now }))))) ∧
  (∀ (s : State) (d : Dev) (h ep v : Nat), s.begun = d → d.pageExists h ep = true → v < 2 ^ 64 → d.answered ep v = none →
    exec (.pageResume h ep v) s = .next (s.after (d.raise evXlPrqStray (d.fnOf ep))) ∧
    exec (.pageFail h ep v) s = .next (s.after (d.raise evXlPrqStray (d.fnOf ep)))) ∧
  (∀ (s : State) (d : Dev) (id : Nat) (r : PrqRecord), s.begun = d → Tbl.get none d.xl.prq id = some r → r.state ≠ .failed →
    d.prqLimit ≤ d.since r.since → exec (.prqTimeout id) s = .next (s.after
      ((forEach r.waiters (fun (w : PrqWaiter) d => d.ownerEnds w.1 w.2 stLocalFault fkNotPresent)
        (d.raise evXlPrqTimeout (d.fnOf r.ep))).freeRec id))) ∧
  (∀ (s : State) (d : Dev) (id : Nat) (r : PrqRecord), s.begun = d → Tbl.get none d.xl.prq id = some r → r.state = .failed →
    d.ageLimit ≤ d.since r.failedAt → exec (.pageFailedExpiry id) s = .next (s.after (d.freeRec id))) ∧
  (∀ (d : Dev) (id : Nat) (r : PrqRecord), Tbl.get none d.xl.prq id = some r →
    d.freeRec id = ((d.setPrq id none).owe .prqWake).owe (.epIdle r.ep))

/-! ### Reliable transport and matching (TP, MX) -/

/-- R42, R126, R127, R128, R130, R138: sending. MESSAGE_FIRST_SEND starts the first message that waits for a node, where the
time unit is locked and the tables and the credits allow; a message of one packet takes its credits, its MSG_ID and its first-
send tick and its packet leaves; of a longer one each packet leaves in turn. A timeout reissues or fails it, a passed hint sends
it again, as a whole copy; the age limit fails it. The readings of log entries 51, 67, 181 are the model's. -/
def Obligations.MessagesAreSent : Prop :=
  (∀ (s : State) (d : Dev) (node : Nat) (m : Msg), s.begun = d → d.nextFor node = some m → d.timeOk = true →
    d.opsRoom m.num = true → ((Tbl.get none d.tp.wins m.dstNode).isSome = true ∨ d.tp.wins.length < 16384) →
    creditOk (d.winOf m.dstNode) m.wants = true →
    exec (.messageFirstSend node) s = .next (s.after (d.pump m.num {} pumpFuel)) ∧
    (d.msg m.num = some m → m.id = none → m.table = none → m.accesses = [] → m.sampled = none → m.ordered = false →
      m.nextPkt = 0 → packetsOf m.len ≤ 1 →
      ∀ m' : Msg, m' = { m with credits := m.wants, id := some d.tp.nextId, fst := d.now, prev := none } →
      exec (.messageFirstSend node) s = .next (s.after (({ d with
        tp := { d.tp with
          wins := Tbl.put none m.dstNode (some { d.winOf m.dstNode with held := (d.winOf m.dstNode).held + m.wants }) d.tp.wins,
          nextId := (d.tp.nextId + 1) % 2 ^ 32 },
        todo := d.todo ++ [.startCmds m.srcEp],
        out := [.packet ⟨m.dstNode, m.tc, m.attempt % 4, false, reqHeader d.node m' 0,
          m'.payload (d.fnOf m.srcEp) 0 (zeroFill m.here [])⟩]
        } : Dev).setMsg { m' with phase := .sent, nextPkt := packetsOf m.len, lastSend := d.now, rtoFrom := d.now })))) ∧
  (∀ (d d1 d2 d3 d4 : Dev) (num n read : Nat) (f : Found) (m m2 m3 : Msg) (pieces : List (Nat × Nat)) (x : Dev),
    d.msg num = some m → (m.tableDue = false ∨ m.table = none) → d.evalAll f m.accesses [] = .ok pieces →
    (m.id = none ∨ d.since m.fst < d.lmax) → forEach m.accesses (fun a (d : Dev) => d.useLeaves a) d = d1 →
    d1.paceHeld m = none → d1.admitMsg m = (some (d2, m2), x) →
    (if m2.accesses.isEmpty then (0, d2) else d2.fresh) = (read, d3) →
    (d3.sendPacket m2 (m2.payload (d3.fnOf m2.srcEp) read (zeroFill m2.here pieces))).paceStart m2 = d4 →
    m3 = { m2 with lastSend := d4.now, rtoFrom := d4.now } →
    ((m2.isGet = true ∨ packetsOf m2.len ≤ m2.nextPkt + 1) →
      d.pump num f (n + 1) = d4.setMsg { m3 with phase := .sent, nextPkt := packetsOf m2.len }) ∧
    (m2.isGet = false → m2.nextPkt + 1 < packetsOf m2.len →
      d.pump num f (n + 1) = (d4.setMsg { m3 with phase := .sending, nextPkt := m2.nextPkt + 1 }).pump num f n)) ∧
  (∀ (s : State) (d e : Dev) (id : Nat) (m : Msg), s.begun = d → d.msgNamed id = some m → m.timed = true →
    d.rto ≤ d.since m.rtoFrom →
    (d.retryMax ≤ m.attempt → ((d.raise evTpUnreachable m.srcEp).returnCredits m).dropWaiter m.num = e →
      exec (.retransmitTimeout id) s = .next (s.after
        (({ e with tp := { e.tp with
            msgs := e.tp.msgs.filter (fun x => x.num != m.num), opsFullRaised := false, winFullRaised := false } }).owe
          (.msgEnd m stUnreachable 0 1 [])))) ∧
    (∀ x, m.attempt < d.retryMax → d.msgAge m < d.lmax → (m.sampled = none → x = d) →
      (∀ ep index lap k, m.sampled = some (ep, index, lap, k) → x = d.sampleRetry ep index lap) → x.raise evTpRetransmit m.srcEp = e →
      exec (.retransmitTimeout id) s = .next (s.after
        ((({ e with xl := { e.xl with walks := e.xl.walks.filter (fun w => decide (w.owner ≠ XlOwner.send m.num)) } }).setMsg
          { m with attempt := m.attempt + 1, nextPkt := 0, tableDue := m.table.isSome }).pump m.num {} pumpFuel)))) ∧
  (∀ (s : State) (d : Dev) (id u r : Nat) (m : Msg), s.begun = d → d.msgNamed id = some m → m.phase = .backoff u r →
    since48 d.now u < 2 ^ 47 → d.msgAge m < d.lmax →
    exec (.backoffExpiry id) s = .next (s.after
      ((({ d with xl := { d.xl with walks := d.xl.walks.filter (fun w => decide (w.owner ≠ XlOwner.send m.num)) } }).setMsg
        { m with nextPkt := 0, tableDue := m.table.isSome }).pump m.num {} pumpFuel))) ∧
  (∀ (s : State) (d e : Dev) (id : Nat) (m : Msg), s.begun = d → d.msgNamed id = some m → m.id = some id →
    d.ageLimit ≤ d.msgAge m → ((d.raise evTpUnreachable m.srcEp).returnCredits m).dropWaiter m.num = e →
    exec (.messageLifetimeExpiry id) s = .next (s.after
      (({ e with tp := { e.tp with
          msgs := e.tp.msgs.filter (fun x => x.num != m.num), opsFullRaised := false, winFullRaised := false } }).owe
        (.msgEnd m stUnreachable 0 (if m.phase = MsgPhase.stalled then 2 else match m.lastNack with | some r => r + 2 | none => 2) []))))

/-- R121, R122, R128, R136, R138: responses. Each is checked, updates the window held for the node it comes from, and acts on
the message it names: an ACK ends it, a NACK puts it into back-off until its hint passes, GET data is written and counted, and
the last of it ends the message; one that names none is late. The reading of log entry 57 is the model's. -/
def Obligations.ResponsesArrive : Prop :=
  ∀ (s : State) (d d1 : Dev) (p : Packet), s.begun = d → d1 = d.setAdv (hSrcNode p.hdr) (hWin p.hdr) →
    (hType p.hdr = tyAck → p.crcOk = false →
      exec (.ackArrival p) s = .next (s.after ((d.latchTp p.hdr 1).raise evTpE2eCrcError p.port))) ∧
    (hType p.hdr = tyAck → p.crcOk = true → respOk p.hdr p.payload = false →
      exec (.ackArrival p) s = .next (s.after ((d.latchTp p.hdr 2).raise evTpPktMalformed p.port))) ∧
    (p.crcOk = true → respOk p.hdr p.payload = true → d1.msgById (hMsgId p.hdr) (hFst p.hdr) = none →
      (hType p.hdr = tyAck → exec (.ackArrival p) s = .next (s.after (d1.raise evTpLateResponse (hDstEp p.hdr)))) ∧
      (hType p.hdr = tyNack → exec (.nackArrival p) s = .next (s.after (d1.raise evTpLateResponse (hDstEp p.hdr)))) ∧
      (hType p.hdr = tyGetResp → exec (.getRespArrival p) s = .next (s.after (d1.raise evTpLateResponse (hDstEp p.hdr))))) ∧
    (∀ m, p.crcOk = true → respOk p.hdr p.payload = true → d1.msgById (hMsgId p.hdr) (hFst p.hdr) = some m →
      (hType p.hdr = tyAck → hSub p.hdr ≠ stRemoteAccess → hSub p.hdr ≠ stRemoteDisabled → m.isGet = false →
        exec (.ackArrival p) s = .next (s.after (d1.endMsg m (hSub p.hdr) (hKind p.hdr) 0 p.payload))) ∧
      (hType p.hdr = tyAck → (hSub p.hdr = stRemoteAccess ∨ hSub p.hdr = stRemoteDisabled) →
        exec (.ackArrival p) s = .next (s.after
          ((d1.raise evTpRemoteFault m.srcEp).endMsg m (hSub p.hdr) (hKind p.hdr) 0 []))) ∧
      (hType p.hdr = tyNack → exec (.nackArrival p) s = .next (s.after
        ((d1.setMsg { m with
          phase := .backoff ((m.lastSend + hHint p.hdr) % 2 ^ 48) (hSub p.hdr), lastNack := some (hSub p.hdr),
          rtoFrom := d.now }).raise evTpNackReceived m.srcEp))) ∧
      (∀ m', m' = { m with
          bitmap := m.bitmap ||| 2 ^ (hOffset p.hdr / 4096), baton := m.baton + hPayLen p.hdr, rtoFrom := d.now,
          lastNack := none } →
        hType p.hdr = tyGetResp → flag m.bitmap (hOffset p.hdr / 4096) = false → hMsgLen p.hdr = m.len →
        (m.type = tyWnFill → m'.baton ≠ m.len → exec (.getRespArrival p) s = .next (s.after (d1.setMsg m'))) ∧
        (m.type = tyWnFill → m'.baton = m.len → exec (.getRespArrival p) s = .next (s.after
          ((d1.setMsg m').endMsg m' stOk 0 0 p.payload))) ∧
        (∀ pieces e, m.type = tyGetReq → p.payload ≠ [] →
          d1.evalAll {} (m.landing (hOffset p.hdr) (hPayLen p.hdr)) [] = .ok pieces →
          (forEach (m.landing (hOffset p.hdr) (hPayLen p.hdr)) (fun a (d : Dev) => d.useLeaves a) d1).writeFrom p
            (d.fnOf m.srcEp) pieces p.payload = e → e.now = d.now →
          (m'.baton ≠ m.len → exec (.getRespArrival p) s = .next (s.after (e.setMsg m'))) ∧
          (m'.baton = m.len → exec (.getRespArrival p) s = .next (s.after ((e.setMsg m').endMsg m' stOk 0 0 []))))))

/-- R121, R123, R131, R134, R139, R156, R187: an arriving request. A bad CRC, a bad form, a listed Relay type that no rule
gives, and a message older than the age limit are dropped and reported; a packet of a completed record is answered again; a PUT
or WN_WRITE for an endpoint that serves makes its record, its bytes are written, and the last of them completes it with an ACK.
A record is freed after its retention, the oldest first. The readings of log entries 52, 54, 182 are the model's. -/
def Obligations.RequestsArrive : Prop :=
  (∀ (s : State) (d : Dev) (p : Packet), s.begun = d → p.crcOk = false →
    exec (.requestArrival p) s = .next (s.after ((d.latchTp p.hdr 1).raise evTpE2eCrcError p.port))) ∧
  (∀ (s : State) (d : Dev) (p : Packet), s.begun = d → p.crcOk = true → 0x17 ≤ hType p.hdr → hType p.hdr ≤ 0x1F →
    exec (.requestArrival p) s = .next (s.after (d.raise evRlRlMalformed (field p.hdr 224 12)))) ∧
  (∀ (s : State) (d : Dev) (p : Packet), s.begun = d → p.crcOk = true → rtsBad p = true →
    exec (.requestArrival p) s = .next (s.after
      ((((d.latchTp p.hdr 2).latch rMxErrLatch (pack [(16, hDstEp p.hdr), (18, hSrcNode p.hdr), (4, 1)])).raise
        evTpPktMalformed p.port).raise evMxRtsForm 0))) ∧
  (∀ (s : State) (d : Dev) (p : Packet), s.begun = d → p.crcOk = true → rtsBad p = false →
    (hType p.hdr < 0x17 ∨ 0x1F < hType p.hdr) → requestOk p = false →
    exec (.requestArrival p) s = .next (s.after ((d.latchTp p.hdr 2).raise evTpPktMalformed p.port))) ∧
  (∀ (s : State) (d : Dev) (p : Packet), s.begun = d → p.crcOk = true → requestOk p = true → hType p.hdr = tyPut →
    d.tp.service.isSome = true → d.ageLimit < d.ageOf (hFst p.hdr) →
    exec (.requestArrival p) s = .next (s.after ((d.latchTp p.hdr 3).raise evTpStaleDrop p.port))) ∧
  (∀ (s : State) (d : Dev) (p : Packet) (r : TgtRec) (status kind : Nat), s.begun = d → p.crcOk = true → requestOk p = true →
    hType p.hdr = tyPut → d.tp.service.isSome = true → d.ageOf (hFst p.hdr) ≤ d.ageLimit → d.recFor p.hdr = some r →
    r.state = .completed status kind → exec (.requestArrival p) s = .next (s.after
      ((d.raise evTpDupDiscard p.port).sendAck p.tc p.hdr status kind r.result))) ∧
  (∀ (s : State) (d d1 : Dev) (p : Packet) (c : EpCtx) (r r' : TgtRec) (a : Access) (pieces : List (Nat × Nat)), s.begun = d →
    p.crcOk = true → requestOk p = true → (hType p.hdr = tyPut ∨ hType p.hdr = tyWnWrite) → d.tp.service.isSome = true →
    d.ageOf (hFst p.hdr) ≤ d.ageLimit → d.recFor p.hdr = none → hOffset p.hdr = 0 → hPayLen p.hdr = hMsgLen p.hdr →
    0 < p.payload.length →
    d.ep (hDstEp p.hdr) = some c → c.onDie = true → d1 = d.touch (hDstEp p.hdr) → d1.epServes p.hdr = true →
    d1.early p.hdr = false → d1.prevOk p.hdr = true → d1.recFree = true → r = d1.newRec p.hdr p.tc →
    a = ⟨hDstEp p.hdr, hAddr p.hdr + 0, p.payload.length, .write, true, some (hKey p.hdr), false⟩ →
    (d1.putRec r).evalTarget a {} = .ok pieces →
    r' = { r with bitmap := 1, baton := hMsgLen p.hdr, firstDone := true } →
    ∀ e : Dev, e = ((((d1.putRec r).useLeaves a).writeFrom p ((d1.putRec r).fnOf r.dstEp) pieces p.payload).putRec
      r').endRec r' p stOk 0 →
    (hType p.hdr = tyPut → exec (.requestArrival p) s = .next (s.after e)) ∧
    (hType p.hdr = tyWnWrite → exec (.wnWrite p) s = .next (s.after e))) ∧
  (∀ (s : State) (d : Dev) (node id fst : Nat) (r : TgtRec), s.begun = d → d.findRec node id fst = some r → d.recDue r = true →
    d.recFirst r = true → d.quotaLeft actExpiry = true →
    exec (.recordExpiry node id fst) s = .next (s.after ((d.useQuota actExpiry).dropRec r)))

/-- R82, R131, R154, R159, R160: the copy of an unexpected message, the end of a rendezvous by FIN, and its time limit. The
reading of log entry 81 is the model's. -/
def Obligations.MatchingEnds : Prop :=
  (∀ (s : State) (d : Dev) (num : Nat) (u : UnexpHdr) (b : Binding) (src dst : Access) (from_ dest : List (Nat × Nat)),
    s.begun = d → num ∈ d.mx.copies → d.hdr num = some u → u.bound = some b → 0 < min u.len b.len →
    src = d.copyRead u (min u.len b.len) → dst = ⟨u.ep, b.bufAddr, min u.len b.len, .write, false, some b.key, false⟩ →
    d.evalAccess src {} = .ok from_ → d.evalAccess dst {} = .ok dest →
    (d.busMet (.copy u.num) = false → exec (.unexpCopyDone num) s = .next (s.after
      ((((d.useLeaves src).useLeaves dst).emit (.hostCopy (d.fnOf u.ep) from_ dest)).copyEnd u b
        (if b.len < u.len then stTruncated else stOk) 0))) ∧
    (d.busMet (.copy u.num) = true → exec (.unexpCopyDone num) s = .next (s.after
      ((d.busTaken (.copy u.num)).copyEnd u b stLocalBus 0)))) ∧
  (∀ (s : State) (d d1 : Dev) (p : Packet) (r r' : TgtRec), s.begun = d → hType p.hdr = tyFin → p.crcOk = true →
    requestOk p = true → rtsBad p = false → d.tp.service.isSome = true → d.ageOf (hFst p.hdr) ≤ d.ageLimit →
    d.recFor p.hdr = none → hOffset p.hdr = 0 → hPayLen p.hdr = hMsgLen p.hdr →
    ((d.ep (hDstEp p.hdr) = none ∧ d1 = d) ∨
      (∃ c, d.ep (hDstEp p.hdr) = some c ∧ c.onDie = true ∧ d1 = d.touch (hDstEp p.hdr))) →
    d1.early p.hdr = false → d1.prevOk p.hdr = true → d1.recFree = true → r = d1.newRec p.hdr p.tc →
    r' = { r with bitmap := 1, baton := hMsgLen p.hdr, firstDone := true } →
    exec (.fin p) s = .next (s.after
      ((((d1.putRec r).putRec r').finDone (hSrcNode p.hdr) (hDstEp p.hdr) (ofBytes p.payload)).endRec r' p stOk 0))) ∧
  (∀ (d : Dev) (node ep w : Nat) (c : Cmd), d.openSend node ep (field w 0 32) (field w 32 16) = some c →
    d.finDone node ep w = ((d.leaveRts c).cmdDone c (if field w 48 8 = stTruncated then stOk else field w 48 8)
      (faultInfo (field w 56 8) (field w 64 32)) 0 0).rdvFreed) ∧
  (∀ (d : Dev) (node ep w : Nat), d.openSend node ep (field w 0 32) (field w 32 16) = none →
    d.finDone node ep w = d.raise evMxFinStray 0) ∧
  (∀ (s : State) (d : Dev) (ep index i f acked : Nat) (lap : Bool) (c : Cmd), s.begun = d → d.findCmd ep index lap = some c →
    c.phase = .rdvOpen i f acked → d.fld rMxRdvLimit 0 24 ≠ 0 → d.fld rMxRdvLimit 0 24 ≤ d.since acked →
    exec (.rdvExpired ep index lap) s = .next (s.after
      (((d.raise evMxRdvExpired c.ep).cmdDone c stRdvExpired 0 0 0).rdvFreed)))

/-! ### Relay collectives (RL) -/

/-- R170, R171: the three group commands. The readings of log entries 72, 77, 162 are the model's. -/
def Obligations.RelayGroupCommands : Prop :=
  ∀ (s : State) (d : Dev) (v g : Nat), s.begun = d → 9 ≤ d.bt.phase → v < 2 ^ 32 → g = d.fld rRlGrpSel 0 12 →
    (field v 0 2 = 1 → d.rlEnableCode g = 0 →
      exec (.groupEnable v) s = .next (s.after (d.setRlGroup g { state := .ready }))) ∧
    (field v 0 2 = 1 → d.rlEnableCode g ≠ 0 → exec (.groupEnable v) s = .next (s.after
      ((d.setRlGroup g { d.rlGroup g with refuse := d.rlEnableCode g }).raise evRlConfigRefused g))) ∧
    (∀ d', field v 0 2 = 2 → ((d.rlGroup g).state = .ready ∨ (d.rlGroup g).state = .aborted) →
      d' = { d.setRlGroup g {} with rl := { (d.setRlGroup g {}).rl with
        msgs := d.rl.msgs.filter (fun m => m.group != g || m.type == tyRlAbort) } } →
      exec (.groupDisable v) s = .next (s.after
        ((forEach (d.rlGroup g).waits (fun (w : RlMember × Nat) d => match d.findCmd w.1.ep w.1.index w.1.lap with
          | some c => d.cmdDone c stGroupOff 0 0 0
          | none => d) d').clearFence .rlGroup g))) ∧
    (field v 0 2 = 2 → ((d.rlGroup g).state = .off ∨ (d.rlGroup g).state = .running) →
      exec (.groupDisable v) s = .next (s.after
        ((d.setRlGroup g { d.rlGroup g with refuse := 1 }).raise evRlConfigRefused g))) ∧
    (field v 0 2 = 3 → (d.rlGroup g).active = true → exec (.groupAbortCmd v) s = .next (s.after
      ((d.setRlGroup g { d.rlGroup g with refuse := 0 }).rlCause g raMgmt d.node 0 false none))) ∧
    (field v 0 2 = 3 → (d.rlGroup g).active = false → exec (.groupAbortCmd v) s = .next (s.after
      ((d.setRlGroup g { d.rlGroup g with refuse := 1 }).raise evRlConfigRefused g)))

/-- R183, R192, R195: what Relay does in time. A due step closes, at the root with its finished result, elsewhere with an RL_UP
to the parent; a wait of PROBE ticks sends a probe; a detected failure aborts the group once a boundary has passed. The readings
of log entries 70, 184, 185, 196 are the model's. -/
def Obligations.RelaySteps : Prop :=
  (∀ (s : State) (d : Dev) (e : Nat × Nat) (x : RlStep), s.begun = d → firstThat d.rl.due d.rlReady = some e →
    (d.rlGroup e.1).step e.2 = some x → d.quotaLeft actRelay = true → exec .stepClose s = .next (s.after
      (({ d.useQuota actRelay with rl := { d.rl with due := d.rl.due.filter (fun y => y != e) } }).rlClose e.1 x))) ∧
  (∀ (s : State) (d : Dev), s.begun = d → (firstThat d.rl.due d.rlReady = none ∨ d.quotaLeft actRelay = false) →
    exec .stepClose s = .next (s.after d)) ∧
  (∀ (d : Dev) (e : Nat × Nat), (d.rlReady e = true ↔ ∃ x, (d.rlGroup e.1).step e.2 = some x ∧ x.phase = .due ∧
    x.since ≠ d.now ∧ (d.st.conserv = true → d.now % 2 = 0) ∧ ∀ c, (d.rlGroup e.1).cause = some c → c.at_ = d.now)) ∧
  (∀ (d : Dev) (g r : Nat) (o : Bool) (x : RlStep), d.rlRoot g = true → finishAll x.dtype x.op (d.rlCombined g x) = (r, o) →
    d.rlClose g x = (if o then d.raise evRlOverflow g else d).rlDeliver g x (if x.kind = 2 then 0 else r) o) ∧
  (∀ (d : Dev) (g : Nat) (x : RlStep), d.rlRoot g = false →
    d.rlClose g x = (d.setRlStep g { x with phase := .waitDown, since := d.now }).rlNew
      { d.rlTo g 256 tyRlUp with
        step := x.num, childIndex := d.rlIndexUp g, dtype := x.dtype, op := x.op, kind := x.kind, count := x.count,
        elem := partialBytes x.dtype x.op, data := vector (partialBytes x.dtype x.op) (d.rlCombined g x) }) ∧
  (∀ (d d1 d2 : Dev) (g r : Nat) (o : Bool) (x : RlStep) (remote : List Nat),
    remote = (d.rlChildren g).filter (fun i => !(d.rlIsLocal g i)) →
    d1 = d.setRlStep g { x with phase := .down, result := r, overflow := o, acks := remote } →
    d2 = forEach remote (fun i d => d.rlNew { d.rlTo g i tyRlDown with
      step := x.num, childIndex := i, dtype := x.dtype, op := x.op, kind := x.kind + 4 * bit o, count := x.count,
      elem := hostBytes x.dtype x.op, data := r }) d1 →
    d.rlDeliver g x r o = (forEach ((d2.rlChildren g).filter (fun i => d2.rlIsLocal g i))
      (fun i d => d.resultGo g x.num i {}) d2).rlFree g x.num) ∧
  (∀ (s : State) (d : Dev) (g peer t : Nat) (x : RlGroup), s.begun = d → d.rlGroup g = x → d.rlWaitsOn g peer = some t →
    d.rlProbeTicks ≤ d.since t → (∀ u, Tbl.get none x.probed peer = some u → d.rlProbeTicks ≤ d.since u) → x.active = true →
    exec (.probeInterval g peer) s = .next (s.after
      ((d.setRlGroup g { x with probed := Tbl.put none peer (some d.now) x.probed }).rlNew (d.rlTo g peer tyRlProbe)))) ∧
  (∀ (s : State) (d : Dev) (g : Nat) (c : RlCause), s.begun = d → (d.rlGroup g).cause = some c → (d.rlGroup g).active = true →
    c.at_ ≠ d.now → exec (.abortAtBoundary g) s = .next (s.after (d.rlAbort g c))) ∧
  (∀ (d d1 d2 d3 d4 d5 d6 : Dev) (g : Nat) (c : RlCause) (x : RlGroup) (peers : List Nat), d.rlGroup g = x →
    d1 = (d.latch rRlErrLatch (pack [(12, g), (4, c.reason), (18, c.origin)])).setRlGroup g { x with
      state := .aborted, reason := c.reason, origin := c.origin, abortStep := x.oldest, steps := [], waits := [], finished := [],
      cause := none, probed := [], gone := [] } →
    d2 = { d1 with rl := { d1.rl with
      due := d1.rl.due.filter (fun s => s.1 != g), msgs := d1.rl.msgs.filter (fun m => m.group != g || m.type == tyRlAbort) } } →
    peers = (if d2.rlRoot g then [] else [256]) ++ (d2.rlChildren g).filter (fun i => !(d2.rlIsLocal g i)) →
    d3 = forEach (peers.filter (fun i => !(x.gone.contains i))) (fun i d => d.rlNew
      { d.rlTo g i tyRlAbort with reason := c.reason, origin := c.origin, failed := c.failed, step := x.base }) d2 →
    d4 = forEach ((d3.rlChildren g).filter (fun i => d3.rlIsLocal g i)) (fun i d => d.postEvent (d.rlChildEp g i)
      (groupAbortWords g (d.rlGen g) x.base c) ((d.ep (d.rlChildEp g i)).elim false (fun e => e.irqEn)) false) d3 →
    d5 = forEach (d4.rlOpenCmds g) (fun q d => d.cmdDone q stGroupAborted 0 0 0) d4 →
    d6 = (d5.raise evRlGroupAbort g).rlRetry →
    d.rlAbort g c = match causeEvent c.reason with
      | some e => if c.origin = d6.node then d6.raise e g else d6
      | none => d6) ∧
  (∀ (s : State) (d : Dev) (num t : Nat) (m : RlMsg), s.begun = d →
    firstThat d.rl.msgs (fun m => m.num == num) = some m → m.id = some t → m.backoff = none → d.rlRto ≤ d.since m.rtoFrom →
    (m.attempt < d.rlRetryMax → d.since m.fst < d.lmax → exec (.rlRetransmit num) s = .next (s.after
      ((d.raise evRlRlRetransmit m.group).rlSend { m with attempt := m.attempt + 1 })))) ∧
  (∀ (s : State) (d : Dev) (num t : Nat) (m : RlMsg), s.begun = d →
    firstThat d.rl.msgs (fun m => m.num == num) = some m → m.id = some t →
    (d.rlAgeLimit ≤ d.since m.fst ∨ (m.backoff = none ∧ d.rlRto ≤ d.since m.rtoFrom ∧ d.rlRetryMax ≤ m.attempt)) →
    (m.type = tyRlAbort → exec (.rlRetransmit num) s = .next (s.after (d.dropRlMsg m.num))) ∧
    (m.type ≠ tyRlAbort → exec (.rlRetransmit num) s = .next (s.after
      ((d.dropRlMsg m.num).rlCause m.group (if m.peer = 256 then raParentLost else raChildLost) d.node m.node false
        (some m.peer))))) ∧
  (∀ (d : Dev) (m : RlMsg) (t : Nat), m.id = some t → d.rlSend m =
    (d.setRlMsg { m with lastSend := d.now, rtoFrom := d.now, backoff := none }).rlEmit
      { m with lastSend := d.now, rtoFrom := d.now, backoff := none })

/-- R187, R190 to R195: arriving Relay messages that pass their checks. Another GEN or an OFF group is answered NOT_READY, an
aborted group acknowledges, a duplicate is acknowledged again; a packet of an open step is combined; replies end or delay the
message they name; a probe is answered in every state; an RL_ABORT is acknowledged and its cause noted. The readings of log
entries 68, 70, 71, 73, 74, 185 are the model's. -/
def Obligations.RelayArrivals : Prop :=
  ∀ (s : State) (d : Dev) (p : Packet) (g : Nat) (x : RlGroup), s.begun = d → p.crcOk = true → rlFormOk p = true →
    d.ageOf (hFst p.hdr) ≤ d.ageLimit → g = rGroup p.hdr → d.rlGroup g = x →
    (hType p.hdr = tyRlUp → rGen p.hdr ≠ d.rlGen g → exec (.rlUp p) s = .next (s.after
      ((d.raise evRlGenStale g).rlNotReady p))) ∧
    (hType p.hdr = tyRlUp → d.rlUnready p.hdr = false → x.state = .aborted →
      exec (.rlUp p) s = .next (s.after (d.rlAckTo p))) ∧
    (hType p.hdr = tyRlUp → rGen p.hdr = d.rlGen g → d.rlUnready p.hdr = true → exec (.rlUp p) s = .next (s.after
      (d.rlNotReady p))) ∧
    (hType p.hdr = tyRlUp → d.rlUnready p.hdr = false → x.state ≠ .aborted → rChild p.hdr < d.rlCount g →
      d.rlIsLocal g (rChild p.hdr) = false → d.rlChildNode g (rChild p.hdr) = hSrcNode p.hdr →
      (x.isFinished (rStep p.hdr) = true → exec (.rlUp p) s = .next (s.after ((d.raise evRlDupDiscard g).rlAckTo p))) ∧
      (x.isFinished (rStep p.hdr) = false → x.step (rStep p.hdr) = none →
        d.rlRoom (x.needs (rStep p.hdr) (rDtype p.hdr) (rOp p.hdr) (rCount p.hdr) (rChild p.hdr) (hPayLen p.hdr)) = false →
        exec (.rlUp p) s = .next (s.after (d.rlNoRoom p))) ∧
      (∀ d' st q, x.isFinished (rStep p.hdr) = false →
        d.rlRoom (x.needs (rStep p.hdr) (rDtype p.hdr) (rOp p.hdr) (rCount p.hdr) (rChild p.hdr) (hPayLen p.hdr)) = true →
        ((x.step (rStep p.hdr) = some st ∧ flag (st.part (rChild p.hdr)).bitmap (rlPacketNo p.hdr) = false ∧ d' = d) ∨
          (x.step (rStep p.hdr) = none ∧ st = {
              num := rStep p.hdr, kind := rKind p.hdr, dtype := rDtype p.hdr, op := rOp p.hdr, count := rCount p.hdr,
              openedAt := d.now } ∧
            d' = d.setRlGroup g { x with state := .running, steps := x.steps ++ [st] })) →
        (st.agrees (rKind p.hdr) (rDtype p.hdr) (rOp p.hdr) (rCount p.hdr) = true →
          q = { st.part (rChild p.hdr) with
            bitmap := (st.part (rChild p.hdr)).bitmap ||| 2 ^ rlPacketNo p.hdr,
            baton := (st.part (rChild p.hdr)).baton + hPayLen p.hdr,
            data := (st.part (rChild p.hdr)).data + ofBytes p.payload * 2 ^ (8 * hOffset p.hdr),
            full := decide ((st.part (rChild p.hdr)).baton + hPayLen p.hdr = hMsgLen p.hdr) } →
          exec (.rlUp p) s = .next (s.after (if q.full then (d'.rlAddPart g st q).rlAckTo p else d'.rlAddPart g st q))) ∧
        (st.agrees (rKind p.hdr) (rDtype p.hdr) (rOp p.hdr) (rCount p.hdr) = false →
          exec (.rlUp p) s = .next (s.after (d'.rlCause g raMismatch d'.node 0 false none))))) ∧
    (∀ st st', hType p.hdr = tyRlDown → d.rlUnready p.hdr = false → x.state ≠ .aborted → d.rlRoot g = false →
      d.rlParent g = hSrcNode p.hdr → d.rlIndexUp g = rChild p.hdr → x.isFinished (rStep p.hdr) = false →
      x.step (rStep p.hdr) = some st → flag st.downBitmap (rlPacketNo p.hdr) = false → st.phase = .waitDown →
      st.agrees (rKind p.hdr) (rDtype p.hdr) (rOp p.hdr) (rCount p.hdr) = true →
      st' = { st with
        downBitmap := st.downBitmap ||| 2 ^ rlPacketNo p.hdr, downBaton := st.downBaton + hPayLen p.hdr,
        result := st.result + ofBytes p.payload * 2 ^ (8 * hOffset p.hdr) } →
      exec (.rlDown p) s = .next (s.after (if st'.downBaton = hMsgLen p.hdr then
        ((d.setRlStep g st').rlAckTo p).rlDeliver g st' st'.result (rOverflow p.hdr) else d.setRlStep g st'))) ∧
    (hType p.hdr = tyRlDown → d.rlUnready p.hdr = false → x.state ≠ .aborted → d.rlRoot g = false →
      d.rlParent g = hSrcNode p.hdr → d.rlIndexUp g = rChild p.hdr → x.isFinished (rStep p.hdr) = true →
      exec (.rlDown p) s = .next (s.after ((d.raise evRlDupDiscard g).rlAckTo p))) ∧
    (∀ m, d.rlNamed p.hdr = some m →
      (hType p.hdr = tyRlAck → m.type ≠ tyRlDown → exec (.rlAck p) s = .next (s.after (d.dropRlMsg m.num))) ∧
      (∀ st, hType p.hdr = tyRlAck → m.type = tyRlDown → (d.rlGroup m.group).step m.step = some st →
        exec (.rlAck p) s = .next (s.after
          (((d.dropRlMsg m.num).setRlStep m.group { st with acks := st.acks.filter (· != m.peer) }).rlFree m.group m.step))) ∧
      (hType p.hdr = tyRlAck → (d.rlGroup m.group).step m.step = none →
        exec (.rlAck p) s = .next (s.after (d.dropRlMsg m.num))) ∧
      (hType p.hdr = tyRlNack → exec (.rlNack p) s = .next (s.after (d.setRlMsg { m with
        backoff := some ((m.lastSend + rHint p.hdr) % 2 ^ 48), rtoFrom := d.now,
        attempt := m.attempt + (if hSub p.hdr = 1 then 1 else 0) }))) ∧
      (hType p.hdr = tyRlProbeAck → (rState p.hdr = 0 ∨ rGen p.hdr ≠ m.gen) → exec (.rlProbeAck p) s = .next (s.after
        ((d.dropRlMsg m.num).rlCause m.group raPeerOff d.node 0 false none))) ∧
      (hType p.hdr = tyRlProbeAck → (rState p.hdr = 1 ∨ rState p.hdr = 2) → rGen p.hdr = m.gen →
        exec (.rlProbeAck p) s = .next (s.after (d.dropRlMsg m.num))) ∧
      (hType p.hdr = tyRlProbeAck → rState p.hdr = 3 → rGen p.hdr = m.gen → exec (.rlProbeAck p) s = .next (s.after
        ((d.dropRlMsg m.num).rlCause m.group (hSub p.hdr) (rOrigin p.hdr) 0 false none)))) ∧
    (hType p.hdr = tyRlProbe → exec (.rlProbe p) s = .next (s.after
      ((if rGen p.hdr ≠ d.rlGen g then d.raise evRlGenStale g else d).rlReply p tyRlProbeAck x.reason
        (if x.state = .aborted then x.abortStep else x.oldest) x.origin 0 x.state.code))) ∧
    (hType p.hdr = tyRlAbort → rGen p.hdr ≠ d.rlGen g → exec (.rlAbort p) s = .next (s.after
      ((d.rlAckTo p).raise evRlGenStale g))) ∧
    (hType p.hdr = tyRlAbort → rGen p.hdr = d.rlGen g → exec (.rlAbort p) s = .next (s.after
      ((d.rlAckTo p).rlCause g (hSub p.hdr) (rOrigin p.hdr) (rFailed p.hdr)
        (hSub p.hdr == raMemberGone || hSub p.hdr == raMemberFault) none)))

/-! ### Routing, the Tun, scheduling and the link (RT, TN, SC, LK) -/

/-- R218 to R222: table epochs. A write of RT_EPOCH_NEXT that no rule refuses arms or disarms the switch; a refused one leaves
its code and the event. At the armed tick the copies change places and the grace starts; after it the former copy is the shadow
again. The reading of log entry 66 is the model's. -/
def Obligations.TableEpochs : Prop :=
  (∀ (s : State) (d : Dev) (v : Nat), s.begun = d → 9 ≤ d.bt.phase → v < 2 ^ 64 →
    (d.epochCode (field v 0 48) (flag v 63) (flag v 62) ≠ 0 →
      exec (.epochArm v) s = .next (s.after ((({ d with rt := { d.rt with
        refuse := d.epochCode (field v 0 48) (flag v 63) (flag v 62) } }).raise evRtEpochRefused 0).emit .applyRefused))) ∧
    (∀ d', d.epochCode (field v 0 48) (flag v 63) (flag v 62) = 0 → flag v 63 = true →
      d' = ({ d with rt := { d.rt with armed := some (field v 0 48), refuse := 0 } }).raise evRtEpochArmed 0 →
      exec (.epochArm v) s = .next (s.after (if d.mirroring then
        d'.mirror 4 8 0 (pack [(48, field v 0 48), (14, 0), (1, bit (flag v 62)), (1, 1)]) else d'))) ∧
    (∀ d', d.epochCode (field v 0 48) (flag v 63) (flag v 62) = 0 → flag v 63 = false → flag v 62 = true →
      d' = { d with rt := { d.rt with armed := none, refuse := 0 } } →
      exec (.epochCancel v) s = .next (s.after (if d.mirroring then
        d'.mirror 4 8 0 (pack [(48, field v 0 48), (14, 0), (1, 1), (1, 0)]) else d')))) ∧
  (∀ (d : Dev) (n : Nat), d.epochCode n true false = 0 ↔
    d.now + 2 ≤ n ∧ n ≤ d.now + 2 ^ 20 ∧ d.rtIdle = true ∧ d.st.conserv = false) ∧
  (∀ (d : Dev) (n : Nat), d.epochCode n false true = 0 ↔ ∃ a, d.rt.armed = some a ∧ d.now + 2 ≤ a) ∧
  (∀ (s : State) (d : Dev) (n : Nat), s.begun = d → d.rt.armed = some n → n ≤ d.now →
    exec .epochSwitch s = .next (s.after
      (({ d with rt := { d.rt with
        active := d.rt.shadow, shadow := d.rt.active, epoch := 1 - d.rt.epoch, armed := none, grace := some n,
        long := d.st.conserv, lastSwitch := n } }).raise evRtEpochSwitch 0))) ∧
  (∀ (s : State) (d : Dev) (n : Nat), s.begun = d → d.rt.grace = some n → (if d.rt.long then 16 else 4) ≤ d.since n →
    exec .epochGraceEnd s = .next (s.after { d with rt := { d.rt with grace := none, long := false } }))

/-- R202, R203, R219, R224: the shadow copy of the routing table, written entry by entry or as a whole, only while no switch is
armed, no grace runs and no shadow command is in progress; and reads of either copy. -/
def Obligations.TableAccess : Prop :=
  (∀ (s : State) (d : Dev) (v : Nat), s.begun = d → 9 ≤ d.bt.phase → v < 2 ^ 64 →
    ((v % 2 ^ 39 = Tbl.get 0 d.rt.shadow d.tblNode % 2 ^ 39 ∨ (d.rtIdle = true ∧ d.entryOk (v % 2 ^ 39) = true)) →
      exec (.tableWrite v) s = .next (s.after
      ({ d with rt := { d.rt with shadow := Tbl.put 0 d.tblNode (withEcc (v % 2 ^ 39)) d.rt.shadow } }).tblNext)) ∧
    ((d.rtIdle = false ∨ d.entryOk (v % 2 ^ 39) = false) → v % 2 ^ 39 ≠ Tbl.get 0 d.rt.shadow d.tblNode % 2 ^ 39 →
      exec (.tableWrite v) s = .next (s.after (d.emit .applyRefused)))) ∧
  (∀ (s : State) (d : Dev) (w : Nat), s.begun = d → 9 ≤ d.bt.phase →
    w = Tbl.get 0 (if flag (d.rd rRtTblIndex) 31 then d.rt.active else d.rt.shadow) d.tblNode →
    (∀ x, readEntry w = .good x → exec .tableRead s = .next (s.after (d.emit (.regValue w)).tblNext)) ∧
    (∀ x, readEntry w = .corrected x → exec .tableRead s = .next (s.after
      (((d.raise evRtTableEcc 0).emit (.regValue (withEcc x))).tblNext))) ∧
    (readEntry w = .bad → exec .tableRead s = .next (s.after
      (((d.raise evRtTableEccUncorr 0).emit (.regValue w)).tblNext)))) ∧
  (∀ (d : Dev), d.tblNext = if flag (d.rd rRtTblIndex) 30 then
    d.wrFld rRtTblIndex 0 18 ((d.fld rRtTblIndex 0 18 + 1) % 262144) else d) ∧
  (∀ (s : State) (d : Dev) (v : Nat), s.begun = d → 9 ≤ d.bt.phase → v < 2 ^ 32 →
    (field v 0 2 = 1 → d.rtIdle = true → exec (.shadowClear v) s = .next (s.after { d with rt := { d.rt with cmd := some 1 } })) ∧
    (field v 0 2 = 2 → d.rtIdle = true → exec (.shadowCopy v) s = .next (s.after { d with rt := { d.rt with cmd := some 2 } })) ∧
    (field v 0 2 = 1 → d.rtIdle = false → exec (.shadowClear v) s = .next (s.after (d.emit .applyRefused))) ∧
    (field v 0 2 = 2 → d.rtIdle = false → exec (.shadowCopy v) s = .next (s.after (d.emit .applyRefused)))) ∧
  (∀ (s : State) (d : Dev), s.begun = d →
    (d.rt.cmd = some 1 → exec .shadowCmdDone s = .next (s.after { d with rt := { d.rt with
      cmd := none,
      shadow := forEach (Tbl.keys d.rt.shadow) (fun n (t : Tbl Nat) =>
        Tbl.upd 0 n (fun w => withEcc (setField (w % 2 ^ 39) 38 1 0)) t) d.rt.shadow } })) ∧
    (d.rt.cmd = some 2 → exec .shadowCmdDone s = .next (s.after
      { d with rt := { d.rt with cmd := none, shadow := d.rt.active } })))

/-- R202, R517: an entry as it is written reads back good, and with any one of its 46 bits turned over it is corrected to what
was written. -/
def Obligations.TableEntriesAreCorrected : Prop :=
  ∀ (data i : Nat), data < 2 ^ 39 → i < 47 → i ≠ 39 →
    readEntry (withEcc data) = .good data ∧ readEntry (withEcc data ^^^ 2 ^ i) = .corrected data

/-- R210, R214, R215, R236: scores of neighbours, and packets that wait too long. The reading of log entry 85 is the model's. -/
def Obligations.ScoresAndWaits : Prop :=
  (∀ (s : State) (d : Dev) (p w : Nat), s.begun = d → (d.lkPort p).state = .up →
    (smOk w = true → exec (.scoreMessage p w) s = .next (s.after
      (((d.setLk p { d.lkPort p with heard := true }).setRt p { d.rtPort p with
        scores := (upFrom 0 8).map (fun c => field w (32 + 8 * c) 8), since := d.st.boundaries, stale := false,
        node := some (field w 96 18) }).raiseIf
          (match (d.rtPort p).node with | some n => n != field w 96 18 | none => false) evRtNeighbourChange p))) ∧
    (smOk w = false → exec (.scoreMessage p w) s = .next (s.after d))) ∧
  (∀ (s : State) (d : Dev) (p : Nat), s.begun = d → d.portUp p = true → (d.rtPort p).stale = false →
    4 ≤ d.waited (d.rtPort p).since →
    exec (.scoreStale p) s = .next (s.after ((d.setRt p { d.rtPort p with stale := true }).raise evRtScoreStale p))) ∧
  (∀ (s : State) (d : Dev) (p c t : Nat) (f : Frame), s.begun = d → d.head p (2 * c + 1) = some f → f.headAt = some t →
    orOne (d.fld rRtCtl 16 8) ≤ d.since t →
    exec (.escTimeout p c) s = .next (s.after
      ((d.leave f).rtDrop f.hdr (if f.input < 256 then some f.input else none) 6))) ∧
  (∀ (d : Dev) (f : Frame), d.leave f = ((d.setFrame { f with gone := true }).freeFrames).queueChanged f.output) ∧
  (∀ (d : Dev) (w : Nat) (port : Option Nat) (reason : Nat), d.rtDrop w port reason =
    (d.latch rRtErrLatch (pack [(18, rhDst w), (8, port.getD 0), (4, reason), (1, bit port.isNone)])).raise
      (dropEvent reason) (port.getD noPort)) ∧
  (∀ (s : State) (d : Dev) (w : WaitPacket) (rest : List WaitPacket), s.begun = d → d.waitsAt 305 = w :: rest →
    orOne (d.fld rRtCtl 24 8) ≤ d.since w.since →
    exec .respDiscard s = .next (s.after ((d.setWaits 305 rest).rtDrop (d.sourceHeader w.p) none 7))) ∧
  (∀ (s : State) (d : Dev) (i : Nat) (w : WaitPacket) (rest : List WaitPacket), s.begun = d → d.waitsAt i = w :: rest → i ≠ 305 →
    w.raised = false → 1 < d.since w.since →
    exec (.admitWait i) s = .next (s.after ((d.setWaits i ({ w with raised := true } :: rest)).raise evTnAdmitWait 0)))

/-- R241 to R244, R248: capture sessions. A pending copy of a whole frame is written behind its header at the producer, or lost
where the ring is full; the consumer of the owning function frees slots; EN 0 discards what is pending; two registers clear as
they are read. The readings of log entries 104, 106 are the model's. -/
def Obligations.CaptureSessions : Prop :=
  (∀ (s : State) (d : Dev) (k q : Nat) (bus : Bool) (x : TnSession) (c : MirrorCopy) (rest : List MirrorCopy) (f : Frame),
    s.begun = d → d.ses k = x → x.pending = c :: rest → d.frame c.frame = some f → d.hostPort (d.fld rTnSesCtl 1 5 k) = some q →
    f.whole = true → d.sesBusy k = false →
    (∀ n slot tc, n = d.capSlots k → ringCount n x.cons x.prod ≠ n → slot = d.capSlot k → tc = d.fld rTnSesCtl 15 3 k →
      exec (.captureCopy k bus) s = .next (s.after
        (((d.setSes k { x with pending := rest, lostNext := 0 }).place
          { num := d.tn.nextNum, input := toSelf, output := 256 + q, chan := tc, tc := tc,
            bytes := 32 + min f.bytes (slot - 32), of := some f.num,
            body := .capture k (d.fld rTnSesCtl 1 5 k) (d.rd rTnSesBase k + slot * x.prod.index)
              (capHeader f c slot x.lostNext x.prod.lap) f.hdr f.body (min f.bytes (slot - 32)) bus }).queueChanged (256 + q)))) ∧
    (ringCount (d.capSlots k) x.cons x.prod = d.capSlots k → exec (.captureCopy k bus) s = .next (s.after
      ((((d.setSes k { x with pending := rest }).copyLost k 1).raise evTnCaptureFull 0).freeFrames)))) ∧
  (∀ (d : Dev) (f : Frame) (k fn addr hdr len : Nat) (header : List Nat) (body : FrameBody) (bus : Bool),
    f.body = .capture k fn addr header hdr body len bus →
    (bus = false → d.captureLeaves f = (((d.emit (.capture k fn addr header hdr body len)).setSes k
      { d.ses k with prod := (d.ses k).prod.advance (d.capSlots k) 1 }).leave f)) ∧
    (bus = true → d.captureLeaves f = ((((d.leave f).copyLost k 1).sesStop k).raise evTnCaptureBus 0))) ∧
  (∀ (d : Dev) (k n : Nat), d.copyLost k n = (d.setSes k { d.ses k with
    lostNext := satAdd 0xFFFFFFFF (d.ses k).lostNext n }).wr rTnSesLost (satAdd 0xFFFFFFFF (d.rd rTnSesLost k) n) k) ∧
  (∀ (d d1 d2 : Dev) (k : Nat), d1 = d.wrFld rTnSesCtl 0 1 0 k →
    d2 = { d1 with tn := { d1.tn with frames := d1.tn.frames.filter (fun f => !(f.captureOf k)) } } →
    d.sesStop k = ((((d2.setSes k { d2.ses k with pending := [] }).copyLost k
      ((d1.ses k).pending.length + countWhere d1.tn.frames (fun f => f.captureOf k))).freeFrames).markHeads)) ∧
  (∀ (s : State) (d : Dev) (h k v a b : Nat) (c : Pos), s.begun = d → k < 4 → v < 2 ^ 64 → c = ⟨field v 0 24, flag v 24⟩ →
    ringDist (d.capSlots k) (d.ses k).cons c = some a → ringDist (d.capSlots k) (d.ses k).cons (d.ses k).prod = some b →
    (v < 2 ^ 25 → d.fld rTnSesCtl 1 5 k = h → a ≤ b →
      exec (.captureConsumerWrite h k v) s = .next (s.after (d.setSes k { d.ses k with cons := c }))) ∧
    ((2 ^ 25 ≤ v ∨ d.fld rTnSesCtl 1 5 k ≠ h ∨ b < a) →
      exec (.captureConsumerWrite h k v) s = .next (s.after (d.raise evTnConfigRefused 0)))) ∧
  (∀ (s : State) (d : Dev) (k v : Nat), s.begun = d → 9 ≤ d.bt.phase → k < 4 → v < 2 ^ 64 → d.sesEn k = true → flag v 0 = false →
    d.heldField rTnSesCtl k 0 v = false → (d.sameHeld rTnSesCtl k v = true ∨ d.sesOk v = true) →
    exec (.sessionDisable k v) s = .next (s.after ((d.take rTnSesCtl k 0 false v).sesStop k))) ∧
  (∀ (s : State) (d : Dev), s.begun = d → 9 ≤ d.bt.phase →
    exec .tnPeakRead s = .next (s.after ((d.emit (.regValue (d.rd rTnPeak))).wr rTnPeak 0)) ∧
    (∀ k, exec (.sesLostRead k) s = .next (s.after ((d.emit (.regValue (d.rd rTnSesLost k))).wr rTnSesLost 0 k))))

/-- R288 to R295, R298 to R301: the schedulers. A decision serves the head that the tiers name; a gate switch is armed and taken
at its tick; entries and slots follow network time; a class passed over long enough gets a burst. The readings of log entries
66, 98, 99, 102, 103, 105, 193, 199 are the model's. -/
def Obligations.SchedulersAct : Prop :=
  (∀ (s : State) (d : Dev) (o t : Nat) (cxl : Bool) (x : ScOut), ((s.begun.at_ t).noteHeld o).endBursts o cxl = d →
    d.pick o cxl = (none, x) → exec (.schedulerDecision o t cxl) s = .next (s.after d)) ∧
  (∀ (s : State) (d d1 d2 : Dev) (o t c tier : Nat) (cxl : Bool) (x : ScOut) (f : Frame),
    ((s.begun.at_ t).noteHeld o).endBursts o cxl = d → d.sending o = false → d.pick o cxl = (some (c, tier), x) →
    d.eligibleHead o c cxl = some f →
    d1 = d.setSc o (d.afterServe o c tier f.bytes ((upFrom 0 8).filter (d.classOk o cxl)) x) →
    d2 = (match d1.queueFlow o c with | some fl => d1.flowCharge fl f.bytes | none => d1) →
    exec (.schedulerDecision o t cxl) s = .next (s.after ((d2.startFrame f).raiseIf (d.overruns o c f.bytes) evScGateOverrun o))) ∧
  (∀ (s : State) (d : Dev) (o t : Nat) (cxl : Bool), ((s.begun.at_ t).noteHeld o).endBursts o cxl = d → d.sending o = true →
    exec (.schedulerDecision o t cxl) s = .next (s.after d)) ∧
  (∀ (d d1 : Dev) (f : Frame), (∀ c, f.body ≠ .cxl c) → (∀ a b c x e g h i, f.body ≠ .capture a b c x e g h i) →
    d1 = (d.countSent f).sendFlits f →
    d.startFrame f = if f.whole then (d1.countTx f.output f.bytes).leave f else d1.queueChanged f.output) ∧
  (∀ (d : Dev) (f : Frame) (c : CxlFrame), f.body = .cxl c →
    d.startFrame f = ((d.emit (.cxl c)).countTx f.output f.bytes).leave f) ∧
  (∀ (s : State) (d : Dev) (v o : Nat) (x : ScOut), s.begun = d → 9 ≤ d.bt.phase → v < 2 ^ 64 → flag v 63 = true →
    o = d.fld rScPortSel 0 9 → d.scOut o = x → d.now + 2 ≤ field v 0 48 → x.armed = none →
    (d.gateEntries o (1 - x.bank)).any (fun e => e.2 == 0) = false →
    exec (.gateSwitchArm v) s = .next (s.after (d.setSc o { x with armed := some (field v 0 48), refuse := 0 }))) ∧
  (∀ (s : State) (d : Dev) (v o code : Nat) (x : ScOut), s.begun = d → 9 ≤ d.bt.phase → v < 2 ^ 64 → flag v 63 = true →
    o = d.fld rScPortSel 0 9 → d.scOut o = x →
    ((code = 1 ∧ field v 0 48 < d.now + 2) ∨ (code = 2 ∧ d.now + 2 ≤ field v 0 48 ∧ x.armed ≠ none) ∨
      (code = 3 ∧ d.now + 2 ≤ field v 0 48 ∧ x.armed = none ∧ (d.gateEntries o (1 - x.bank)).any (fun e => e.2 == 0) = true)) →
    exec (.gateSwitchArm v) s = .next (s.after
      (((d.setSc o { x with refuse := code }).raise evScGateRefused o).emit .applyRefused))) ∧
  (∀ (s : State) (d : Dev) (o n : Nat), s.begun = d → (d.scOut o).armed = some n → n ≤ d.now →
    exec (.gateSwitch o) s = .next (s.after
      ((d.setSc o { d.scOut o with bank := 1 - (d.scOut o).bank, armed := none }).raise evScGateSwitch o))) ∧
  (∀ (s : State) (o t : Nat), exec (.gateEntryChange o t) s = .next (s.after
    (forEach (upFrom 0 8) (fun c d => d.closedCycle o c) (s.begun.at_ t)))) ∧
  (∀ (d : Dev) (o c : Nat) (x : ScOut), d.scOut o = x →
    ((d.queued o c = false ∨ flag (d.gatesOpen o) c = true) →
      d.closedCycle o c = d.setSc o { x with closedAt := Tbl.put none c none x.closedAt }) ∧
    (d.queued o c = true → flag (d.gatesOpen o) c = false → Tbl.get none x.closedAt c = none →
      d.closedCycle o c = d.setSc o { x with closedAt := Tbl.put none c (some d.st.ns) x.closedAt }) ∧
    (∀ t, d.queued o c = true → flag (d.gatesOpen o) c = false → Tbl.get none x.closedAt c = some t →
      d.closedCycle o c = if cycleOf (d.gateEntries o x.bank) ≤ d.st.ns - t then
        (d.setSc o { x with closedAt := Tbl.put none c (some d.st.ns) x.closedAt }).raise evScGateClosedCycle o else d)) ∧
  (∀ (s : State) (d : Dev) (t : Nat), s.begun.at_ t = d → exec (.paceSlot t) s = .next (s.after
    (forEach ((d.sc.flows.filter (fun (f : Nat × ScFlow) => decide (f.2.slot = some (d.st.ns / 8 % 4096)))).map (fun f => f.1))
      (fun f d => d.passFlow f) d))) ∧
  (∀ (d d1 : Dev) (f : Nat), d1 = d.setFlow f { d.flow f with slot := none, parked := false } →
    (d1.flowOk f = false → d.passFlow f = d1.enterWheel f) ∧
    (∀ d2, d1.flowOk f = true →
      d2 = d1.raiseIf (decide ((d.flow f).due + 1 < (d.st.ns / 8 : Nat)) && !(d.flow f).parked) evScPaceLate 0 →
      d.passFlow f = forEach (d2.tp.msgs.filter (fun m => decide (d2.msgFlow m = some f)
          && (decide (m.phase = .paced) || (decide (m.phase = .waiting) && m.id.isNone))))
        (fun m d => if m.phase = .paced then (d.setMsg { m with phase := .sending }).pump m.num {} pumpFuel
          else d.firstSend m.dstNode) d2)) ∧
  (∀ (s : State) (d : Dev) (o c : Nat) (x : ScOut), s.begun = d → d.scOut o = x → d.ageLimitSc ≤ Tbl.get 0 x.age c →
    x.burst.all (fun b => b.1 != c) = true → exec (.ageBurst o c) s = .next (s.after
      ((d.setSc o { x with burst := x.burst.filter (fun e => decide (c < e.1)) ++ [(c, d.burstBytes o, false)]
          ++ x.burst.filter (fun e => decide (e.1 < c)) }).raise evScAgeBurst o))) ∧
  (∀ (s : State) (d : Dev) (p c t : Nat) (f : Frame), s.begun = d → d.head p (2 * c + 1) = some f → f.headAt = some t →
    f.heldRaised = false → orOne (d.fld rRtCtl 16 8) ≤ 2 * d.waited f.headLocal →
    (d.gatePass p c f = false ∨ d.flowPass p c = false) →
    exec (.escHeld p c) s = .next (s.after ((d.setFrame { f with heldRaised := true }).raise evScEscHeld p)))

/-! ### lk -/

/-- R250, R251, R254 to R259, R262: flits on a fabric port. A data flit is taken by the rows of R259; a flit that fails
correction or is malformed ends every open frame; a control flit that is well formed and advances replaces the limits held of
the peer, any other is reported; an audit that differs is absorbed. The readings of log entries 88, 109, 189, 192 are the
model's. -/
def Obligations.FlitsArrive : Prop :=
  (∀ (s : State) (d : Dev) (p t w : Nat) (ok : Bool), s.begun.at_ t = d →
    exec (.flitReceive p t w true ok) s = .next (s.after (d.badFlit p)) ∧
    (flChan w = 16 → exec (.flitReceive p t w false ok) s = .next (s.after (d.bypassFlit p (65536 * t) w false ok))) ∧
    (flChan w = 0x1E → exec (.flitReceive p t w false ok) s = .next (s.after (d.controlArrive p w))) ∧
    (w = 0x1F → exec (.flitReceive p t w false ok) s = .next (s.after d)) ∧
    (flChan w = 0x1F → w ≠ 0x1F → exec (.flitReceive p t w false ok) s = .next (s.after (d.badFlit p))) ∧
    (flChan w ≤ 0x1D → flChan w ≠ 16 → (16 < flChan w ∨ flitOk w = false) →
      exec (.flitReceive p t w false ok) s = .next (s.after (d.badFlit p))) ∧
    (flChan w < 16 → flitOk w = true →
      ((d.lkPort p).state ≠ .up → exec (.flitReceive p t w false ok) s = .next (s.after d)) ∧
      (∀ o, (d.lkPort p).state = .up → flCont w = true → d.openRx p (flChan w) = some o →
        exec (.flitReceive p t w false ok) s = .next (s.after
          ((d.setLk p { d.lkPort p with orphan := false }).dataPieces p w o))) ∧
      ((d.lkPort p).state = .up → flCont w = true → d.openRx p (flChan w) = none → (d.lkPort p).orphan = false →
        exec (.flitReceive p t w false ok) s = .next (s.after
          ((d.setLk p { d.lkPort p with orphan := true }).raise evLkOrphanFlit p))) ∧
      ((d.lkPort p).state = .up → flCont w = true → d.openRx p (flChan w) = none → (d.lkPort p).orphan = true →
        exec (.flitReceive p t w false ok) s = .next (s.after d)) ∧
      (∀ d1 d2 d3 payload, (d.lkPort p).state = .up → flCont w = false →
        d1 = d.setLk p { d.lkPort p with orphan := false } →
        d2 = (if (d1.openRx p (flChan w)).isSome then (d1.dropRx p (flChan w)).raise evLkFrameCut p else d1) →
        payload = (toBytes 128 w).drop 2 →
        d3 = (if flEnd w then
            (if flBad w then d2.startBad p (flChan w) (payload.take (flSplit w))
              else d2.startRx p (flChan w) (payload.take (flSplit w)) true)
          else d2.startRx p (flChan w) payload false) →
        exec (.flitReceive p t w false ok) s = .next (s.after
          (if flEnd w && flNext w then d3.startRx p (flChan w) (payload.drop (flSplit w)) false else d3))))) ∧
  (∀ (d : Dev) (p : Nat), d.badFlit p =
    ((forEach (Tbl.keys (d.lkPort p).rx) (fun ch d => d.dropRx p ch) d).raise evLkFlitBad p).raiseIf
      (!(Tbl.keys (d.lkPort p).rx).isEmpty) evLkFrameCut p) ∧
  (∀ (d d1 : Dev) (p ch : Nat) (o : OpenRx), d.openRx p ch = some o → d1 = (d.setRx p ch none).countRx p o →
    (∀ num f, (o.stage = .stored num ∨ o.stage = .here num) → d1.frame num = some f → d.dropRx p ch = d1.spoil f) ∧
    (o.stage = .fresh ∨ o.stage = .dropped → d.dropRx p ch = d1)) ∧
  (∀ (d : Dev) (p ch : Nat) (o q : OpenRx) (bytes : List Byte) (ended : Bool), q = { o with bytes := o.bytes ++ bytes } →
    ((q.len = none ∧ ended = true) ∨ (∃ len, q.len = some len ∧
        (len < q.bytes.length ∨ (ended = true ∧ q.bytes.length ≠ len))) →
      d.piece p ch o bytes ended = ((((d.setRx p ch (some q)).dropRx p ch).latchLk p 8 ch).raise evLkLenMismatch p)) ∧
    (∀ len r d1, q.len = some len → q.bytes.length ≤ len → (ended = true → q.bytes.length = len) →
      d1 = d.routeRx p ch q ended → d1.openRx p ch = some r →
      d.piece p ch o bytes ended = if ended then (((d1.growRx r true).setRx p ch none).countRx p r).takeHere p ch r
        else d1.growRx r false)) ∧
  (∀ (s : State) (d : Dev) (p w : Nat) (x : LkPort), s.begun = d → d.lkPort p = x → x.state = .up →
    ((controlOk w = false ∨ (controlLimits w).all (fun (l : Nat × Nat) => x.limitOk l.1 l.2) = false) →
      exec (.controlFlit p w) s = .next (s.after ((d.latchLk p 7 0x1E).raise evLkCtlBad p))) ∧
    (∀ lims, controlOk w = true → (controlLimits w).all (fun (l : Nat × Nat) => x.limitOk l.1 l.2) = true →
      lims = forEach (controlLimits w) (fun (l : Nat × Nat) (t : Tbl Nat) => Tbl.put 0 l.1 l.2 t) x.limRx →
      exec (.controlFlit p w) s = .next (s.after ((d.setLk p { x with
        limRx := lims, peerRsv := (if x.limSeen then x.peerRsv else lims), limSeen := true,
        holdRx := field w 176 8 }).noteDryAll p)))) ∧
  (∀ (s : State) (d : Dev) (p rx w : Nat) (ok : Bool), s.begun.at_ (rx / 65536) = d →
    exec (.bypassFlit p rx w true ok) s = .next (s.after (d.badFlit p)) ∧
    ((flChan w ≠ 16 ∨ flCont w = true ∨ flEnd w = false ∨ flBad w = true ∨ flNext w = true ∨ 126 < flSplit w) →
      exec (.bypassFlit p rx w false ok) s = .next (s.after (d.badFlit p))) ∧
    (flChan w = 16 → flCont w = false → flEnd w = true → flBad w = false → flNext w = false → flSplit w ≤ 126 →
      ((d.lkPort p).state ≠ .up → (d.lkPort p).state ≠ .hello → exec (.bypassFlit p rx w false ok) s = .next (s.after d)) ∧
      ((d.lkPort p).state = .hello → exec (.bypassFlit p rx w false ok) s = .next (s.after
        (d.bypTakeAll p rx ok (((toBytes 128 w).drop 2).take (flSplit w)) 9))) ∧
      ((d.lkPort p).state = .up → 8 ≤ ((d.lkPort p).bypUsed d.st.ns).length →
        exec (.bypassFlit p rx w false ok) s = .next (s.after
          (((d.setLk p { d.lkPort p with
            rcvd := Tbl.put 0 bypChan (add16 (Tbl.get 0 (d.lkPort p).rcvd bypChan) 1) (d.lkPort p).rcvd }).latchLk p 9
              bypChan).raise evLkBypOverrun p))) ∧
      (∀ d1, (d.lkPort p).state = .up → ((d.lkPort p).bypUsed d.st.ns).length < 8 →
        d1 = (d.setLk p { d.lkPort p with bypBusy := d.st.ns :: (d.lkPort p).bypUsed d.st.ns }).bypTakeAll p rx ok
          (((toBytes 128 w).drop 2).take (flSplit w)) 9 →
        exec (.bypassFlit p rx w false ok) s = .next (s.after (if (d1.lkPort p).state = .up then d1.setLk p { d1.lkPort p with
          rcvd := Tbl.put 0 bypChan (add16 (Tbl.get 0 (d1.lkPort p).rcvd bypChan) 1) (d1.lkPort p).rcvd } else d1))))) ∧
  (∀ (s : State) (d : Dev) (p w : Nat) (x : LkPort) (differs absorbs : Bool), s.begun = d → d.lkPort p = x → x.state = .up →
    auditOk w = true →
    differs = (upFrom 0 17).any (fun c => decide (field w (32 + 16 * c) 16 ≠ Tbl.get 0 x.rcvd c)) →
    absorbs = (upFrom 0 17).any (fun c => decide (field w (32 + 16 * c) 16 ≠ Tbl.get 0 x.rcvd c)
      && decide (diff16 (field w (32 + 16 * c) 16) (Tbl.get 0 x.rcvd c) ≤ 32768)) →
    exec (.creditAudit p w) s = .next (s.after ((d.setLk p { x with
      rcvd := forEach (upFrom 0 17) (fun c t =>
        if diff16 (field w (32 + 16 * c) 16) (Tbl.get 0 x.rcvd c) ≤ 32768 then Tbl.put 0 c (field w (32 + 16 * c) 16) t
        else t) x.rcvd,
      auditRun := if differs then min 7 (x.auditRun + 1) else 0, heard := true }).raiseIf absorbs evLkAuditMismatch p)))

/-- R263 to R266: the life of a port. Each cause breaks it with its reason, which stops it, latches and raises, and starts its
holddown; the holddown's end lets it train; ENABLE and HOLD take it to DISABLED or let it leave; a HELLO that has been answered
brings it UP. The readings of log entries 90, 91, 92, 93, 95, 191 are the model's. -/
def Obligations.PortsLive : Prop :=
  (∀ (s : State) (d : Dev) (p : Nat), s.begun = d → (d.lkPort p).state = .up →
    (4 ≤ (d.lkPort p).auditRun → exec (.auditPersist p) s = .next (s.after (d.breakPort p 4))) ∧
    (4 ≤ (d.lkPort p).silent → exec (.peerSilent p) s = .next (s.after (d.breakPort p 3))) ∧
    (∀ c < 8, (d.lkPort p).alive = true → d.creditTo ≤ Tbl.get 0 (d.lkPort p).starveRun c →
      exec (.creditTimeout p) s = .next (s.after (d.breakPort p 5)))) ∧
  (∀ (d e e1 e2 : Dev) (p reason rank cur : Nat) (flap : Bool) (x : LkPort), d.lkPort p = x →
    x.state = .training ∨ x.state = .hello ∨ x.state = .up →
    flap = (decide (x.state = .up) && decide (d.waited x.upAt ≤ 1024)) → rank = d.rankOf p reason →
    cur = (if x.holddown = 0 then d.holddownBase else x.holddown) → d.stopPort p = e →
    e1 = ((e.setLk p { e.lkPort p with
      state := .broken, reason := rank, brokenAt := e.st.boundaries, holddown := if flap then min 1024 (2 * cur) else cur,
      held := x.held || reason == 1 }).latchLk p rank 0).raise evLkLinkBroken p →
    e2 = ((if rank = 3 then e1.raise evLkPeerSilent p else if rank = 4 then e1.raise evLkAuditPersist p
      else if rank = 5 then e1.raise evLkCreditTimeout p else e1).raiseIf flap evLkLinkFlap p) →
    d.breakPort p reason = if e2.isTwin p then { e2 with tw := { e2.tw with broken := true } } else e2) ∧
  (∀ (d : Dev) (p reason : Nat), d.rankOf p reason = if (d.lkPort p).state = .up then
    min reason (if 4 ≤ (d.lkPort p).silent then 3 else if 4 ≤ (d.lkPort p).auditRun then 4
      else if d.starvedLong p then 5 else 6) else reason) ∧
  (∀ (d d1 d2 : Dev) (p : Nat), d1 = (d.setUp p false).flushPort p →
    d2 = forEach (Tbl.keys (d1.lkPort p).rx) (fun ch d =>
      ((d.dropRx p ch).latchTn p 3 (ch / 2)).raise evTnInputCut p) d1 →
    d.stopPort p = ((d2.setLk p { d2.lkPort p with
      sent := [], rcvd := [], limRx := [], lim := [], limTx := [], peerRsv := [], limSeen := false, holdRx := 0, holdTx := 0,
      flits := 0, starved := 0, starveRun := [], rx := [], orphan := false, bypBusy := [], bypQueue := [],
      auditRun := 0 }).noteDryAll p)) ∧
  (∀ (s : State) (d : Dev) (p : Nat), s.begun = d → (d.lkPort p).state = .broken → (d.lkPort p).held = false →
    d.holddownNow p ≤ d.waited (d.lkPort p).brokenAt →
    exec (.holddownEnd p) s = .next (s.after (d.enterTraining p))) ∧
  (∀ (d d1 : Dev) (p : Nat) (y : LnPort), y = d.lnPort p →
    d1 = { d with ln := { d.ln with
      lanes := forEach (d.portLanes p) (fun l (t : Tbl LnLane) =>
        Tbl.upd {} l (fun (x : LnLane) => if x.state = .off then { x with state := .hunt } else x) t) d.ln.lanes,
      ports := Tbl.put {} p { y with since := d.st.boundaries, timeout := false } d.ln.ports } } →
    d.enterTraining p = d1.setLk p { d1.lkPort p with
      state := if y.aligned then .hello else .training, seen := false, silent := 0 }) ∧
  (∀ (s : State) (d d1 : Dev) (p v : Nat), s.begun = d → 9 ≤ d.bt.phase → p < 256 → v < 8 → d.isPort p = true →
    d1 = ((if flag v 1 then d.breakLive p 6 else d).wrFld rLkPortCtl 2 1 (field v 2 1) p).wrFld rLkPortCtl 0 1 (field v 0 1) p →
    d1.isPort p = true → flag (d1.rd rLkPortCtl p) 0 = flag v 0 → flag (d1.rd rLkPortCtl p) 2 = flag v 2 →
    (flag v 0 = true → flag v 2 = false →
      (flag v 1 = true → exec (.portRetrain p v) s = .next (s.after (d1.leaveDisabled p))) ∧
      exec (.portEnable p v) s = .next (s.after (d1.leaveDisabled p)) ∧
      exec (.portHold p v) s = .next (s.after (d1.leaveDisabled p))) ∧
    (flag v 0 = false ∨ flag v 2 = true →
      (flag v 1 = true → exec (.portRetrain p v) s = .next (s.after (d1.enterDisabled p))) ∧
      exec (.portEnable p v) s = .next (s.after (d1.enterDisabled p)) ∧
      exec (.portHold p v) s = .next (s.after (d1.enterDisabled p)))) ∧
  (∀ (d : Dev) (p reason : Nat), d.breakLive p reason =
    if (d.lkPort p).state = .training ∨ (d.lkPort p).state = .hello ∨ (d.lkPort p).state = .up then d.breakPort p reason
    else d) ∧
  (∀ (d : Dev) (p : Nat), flag (d.rd rLkPortCtl p) 0 = true → flag (d.rd rLkPortCtl p) 2 = false → d.isPort p = true →
    d.leaveDisabled p = if (d.lkPort p).state = .disabled then
      (if (d.lkPort p).held then d.setLk p { d.lkPort p with state := .broken } else (d.sendFiller p).enterTraining p)
    else d) ∧
  (∀ (d d1 d2 d3 : Dev) (p : Nat),
    ((d.lkPort p).state = .disabled → d.enterDisabled p = d) ∧
    ((d.lkPort p).state ≠ .disabled → d1 = d.stopPort p →
      d2 = { d1 with ln := { d1.ln with
        lanes := forEach (upFrom p (d1.portWidth p)) (fun l (t : Tbl LnLane) =>
          Tbl.put {} l ({ state := if prbsOn (field (d1.rd rLnPrbsCtl l) 0 2) || prbsOn (field (d1.rd rLnPrbsCtl l) 2 2)
            then .prbs else .off } : LnLane) t) d1.ln.lanes,
        ports := Tbl.put {} p {} d1.ln.ports } } →
      d3 = ((d2.setLk p { d2.lkPort p with state := .disabled, seen := false }).latchLk p 0 0).raise evLkLinkBroken p →
      d.enterDisabled p = if d3.isTwin p then { d3 with tw := { d3.tw with broken := true } } else d3)) ∧
  (∀ (s : State) (d : Dev) (p v : Nat), s.begun = d → 9 ≤ d.bt.phase → p < 256 → v < 8 → d.isPort p = false →
    exec (.portEnable p v) s = .next (s.after (d.emit .applyRefused)) ∧
    exec (.portHold p v) s = .next (s.after (d.emit .applyRefused)) ∧
    exec (.portRetrain p v) s = .next (s.after (d.emit .applyRefused))) ∧
  (∀ (s : State) (d : Dev) (p w : Nat) (x : LkPort), s.begun = d → d.lkPort p = x → x.state = .hello → helloOk w = true →
    ((field w 24 8 ≠ d.portWidth p ∨ field w 32 18 = d.node) →
      exec (.hello p w) s = .next (s.after (d.raise evLkHelloMismatch p))) ∧
    (∀ d1, field w 24 8 = d.portWidth p → field w 32 18 ≠ d.node →
      d1 = d.setLk p { x with seen := true, heard := true, peerNode := field w 32 18, peerPort := field w 64 8 } →
      (flag w 8 = true → exec (.hello p w) s = .next (s.after (d1.enterUp p))) ∧
      (flag w 8 = false → exec (.hello p w) s = .next (s.after ((d1.emit (.bypass p 4 (d1.helloBody p))).setLk p
        { d1.lkPort p with helloSeq := ((d1.lkPort p).helloSeq + 1) % 256 }))))) ∧
  (∀ (d d1 d2 : Dev) (p : Nat), d1 = d.setLk p { d.lkPort p with
      state := .up, upAt := d.st.boundaries, sent := [], rcvd := [], limRx := [], lim := [], limTx := [], peerRsv := [],
      limSeen := false, holdRx := 0, flits := 0, starved := 0, starveRun := [], rx := [], orphan := false, bypBusy := [],
      bypQueue := [], auditRun := 0, silent := 0 } →
    d2 = ((((((d1.setRt p { d1.rtPort p with since := d1.st.boundaries }).advance p).sendControl p).setUp p true).raise
      evLkLinkUp p).noteDryAll p) →
    d.enterUp p = if d2.isTwin p then { d2 with tw := { d2.tw with broken := false } } else d2)

/-- R270 to R273, R276 to R280: what a lane receives. The readings of log entries 96, 97, 110, 192 are the model's. -/
def Obligations.LanesReceive : Prop :=
  (∀ (s : State) (d : Dev) (l pos arrived fill p : Nat) (levels : List Nat), s.begun = d → d.portOfLane l = some p →
    d.refPresent p = true → ((d.lane l).state = .hunt ∨ (d.lane l).state = .aligned) →
    ((fill = 0 ∨ 256 < fill) → exec (.fillerBlock l pos arrived fill levels) s = .next (s.after
      (((d.latchLn l 4).raise evLnElasticSlip p).loseLane l))) ∧
    (∀ (raw flipped : List Nat) (inv missed : Bool) (d1 : Dev), 0 < fill → fill ≤ 256 → raw = levels.map (· % 4) →
      flipped = raw.map (fun v => 3 - v) →
      inv = (if (findComma flipped).isSome then true else if (findComma raw).isSome then false else (d.lane l).inv) →
      d1 = (d.setLane l { d.lane l with inv := inv }).raiseIf (inv && !(d.lane l).inv) evLnPolarityInv p →
      missed = (decide ((d.lane l).state = .aligned) && (match (d.lane l).comma with
        | some c => decide (pos ≤ c + fillerPeriod) && decide (c + fillerPeriod < pos + levels.length)
        | none => false)) →
      (∀ i lane seq, findComma (if inv then flipped else raw) = some (i, some (lane, seq)) →
        ((d.lane l).state = .hunt ∨ (d.lane l).comma.map (· + fillerPeriod) = some (pos + i)) →
        exec (.fillerBlock l pos arrived fill levels) s = .next (s.after
          (d1.fillerSeen l p (pos + i) arrived lane seq fill))) ∧
      ((findComma (if inv then flipped else raw) = none ∨ ∃ i, findComma (if inv then flipped else raw) = some (i, none)) →
        exec (.fillerBlock l pos arrived fill levels) s = .next (s.after (if missed then d1.commaMiss l p else d1))))) ∧
  (∀ (d d1 d2 : Dev) (l p pos arrived lane seq fill : Nat) (found : Bool), d1 = d.laneRestart l p lane seq →
    found = (decide ((d1.lane l).state = .hunt) && decide ((d1.lane l).comma.map (· + fillerPeriod) = some pos)) →
    d2 = (d1.setLane l { d1.lane l with
      lane := lane, seq := seq, comma := some pos, missed := 0, arrived := arrived,
      state := if found then .aligned else (d1.lane l).state }).raiseIf found evLnLaneAligned p →
    d.fillerSeen l p pos arrived lane seq fill = (((d2.rateMatch p seq fill).checkPort p).joinPort p)) ∧
  (∀ (d d1 : Dev) (l p : Nat) (x : LnLane), d.lane l = x →
    d1 = (d.setLane l { x with missed := x.missed + 1, comma := x.comma.map (· + fillerPeriod) }).raise evLnCommaMiss p →
    d.commaMiss l p = if 2 ≤ x.missed + 1 then d1.loseLane l
      else (d1.laneRestart l p x.lane ((x.seq + x.missed + 1) % 256)).joinPort p) ∧
  (∀ (d d1 : Dev) (l : Nat), (d.lane l).state = .aligned →
    d1 = (((d.setLane l { d.lane l with state := .hunt, comma := none, missed := 0, syms := [], blocks := [] }).latchLn l
      1).raise evLnAlignLost (d.lanePort l)) → d1.portOfLane l = d.portOfLane l →
    d.loseLane l = match d.portOfLane l with | some p => d1.portUnaligned p | none => d1) ∧
  (∀ (d d1 : Dev) (p : Nat), (d.lnPort p).aligned = true → d1 = d.setLnPort p { d.lnPort p with aligned := false } →
    ((d1.lkPort p).state = .hello ∨ (d1.lkPort p).state = .up → d.portUnaligned p = d1.breakPort p 2) ∧
    ((d1.lkPort p).state = .training ∨ (d1.lkPort p).state = .disabled → d.portUnaligned p = d1)) ∧
  (∀ (s : State) (d d1 : Dev) (l : Nat) (levels : List Nat) (x y : LnLane) (u : Destuffed), s.begun = d → d.lane l = x →
    x.state = .aligned →
    u = destuff x.runLevel x.runLen (levels.map (fun v => if x.inv then 3 - v % 4 else v % 4)) →
    y = { x with
      runLevel := u.level, runLen := u.run, syms := x.syms ++ u.symbols, stuffTick := satAdd 0xFFFF x.stuffTick u.pairs } →
    d1 = forEach (upFrom 0 u.missing) (fun _ e => e.raise evLnStuffErr (d.lanePort l)) (d.setLane l y) →
    exec (.codewordReceive l levels) s = .next (s.after ((d1.decodeWords l (y.syms.length / 1360)).joinPort (d.lanePort l)))) ∧
  (∀ (d : Dev) (l n : Nat), d.decodeWords l (n + 1) =
    if (d.lane l).state = .aligned ∧ (d.lane l).words < 64 ∧ 1360 ≤ (d.lane l).syms.length then
      (((d.setLane l { d.lane l with syms := (d.lane l).syms.drop 1360 }).decodeWord l
        ((d.lane l).syms.take 1360)).decodeWords l n)
    else d) ∧
  (∀ (d : Dev) (l bits scram : Nat) (word : List Nat) (x : LnLane), d.lane l = x →
    (∀ fixed n d1 d2, rsDecode (codeSymbols word) = some (fixed, n) → scramble 2560 x.scram (dataBits fixed) = (bits, scram) →
      d1 = d.setLane l { x with
        scram := scram, words := x.words + 1, blocks := x.blocks ++ [(toBytes 320 bits, false)], corrTick := x.corrTick + n } →
      d2 = (if 0 < n then (d1.addLane rLnFecSym l n).addLane rLnFecCw l 1 else d1) →
      d.decodeWord l word = d2.raiseIf (decide (x.corrTick ≤ d2.corrWarn) && decide (d2.corrWarn < x.corrTick + n))
        evLnFecCorrHigh (d.lanePort l)) ∧
    (∀ d1, rsDecode (codeSymbols word) = none →
      scramble 2560 x.scram (dataBits (codeSymbols word)) = (bits, scram) →
      d1 = ((d.setLane l { x with
        scram := scram, words := x.words + 1, blocks := x.blocks ++ [(toBytes 320 bits, true)],
        uncorrTick := x.uncorrTick + 1 }).addLane rLnFecUncorr l 1).raise evLnFecUncorr (d.lanePort l) →
      d.decodeWord l word = if d1.uncorrLimit ≤ x.uncorrTick + 1 then d1.loseLane l else d1)) ∧
  (∀ (s : State) (d : Dev) (l : Nat) (levels : List Nat), s.begun = d → (d.lane l).state ≠ .aligned →
    exec (.codewordReceive l levels) s = .next (s.after d))

/-- R279, R282, R283, R285, R286: references, training, PRBS checkers, cleared counters, and a tile whose link fails. The
reading of log entry 110 is the model's. -/
def Obligations.LaneEvents : Prop :=
  (∀ (s : State) (d d1 : Dev) (r : Nat) (ports : List Nat), s.begun = d → flag d.ln.refOk r = true →
    ports = (Tbl.keys d.map).filter (fun p => d.fld rLnPortRef 0 2 p == r) →
    d1 = (({ d with ln := { d.ln with refOk := setField d.ln.refOk r 1 0 } }).latchLn (ports.headD 0) 5).raise evLnRefLost 0 →
    exec (.refLost r) s = .next (s.after (forEach (ports.flatMap d1.portLanes) (fun l d => d.loseLane l) d1))) ∧
  (∀ (s : State) (d : Dev) (r : Nat), s.begun = d → exec (.refclkPresent r) s = .next (s.after
    { d with ln := { d.ln with refOk := setField d.ln.refOk r 1 1 } })) ∧
  (∀ (s : State) (d : Dev) (p : Nat) (y : LnPort), s.begun = d → d.lnPort p = y → (d.lkPort p).state = .training →
    y.timeout = false → 1024 * orOne (d.fld rLnCtl 24 8) ≤ d.waited y.since → exec (.trainTimeout p) s = .next (s.after
      (((d.setLnPort p { y with timeout := true }).latchLn p 6).raise evLnTrainTimeout p))) ∧
  (∀ (s : State) (d : Dev) (l : Nat) (x : LnLane), s.begun = d → d.lane l = x →
    (x.state = .prbs → prbsOn (d.fld rLnPrbsCtl 2 2 l) = true →
      exec (.prbsLock l) s = .next (s.after (d.setLane l { x with prbsLock := true }))) ∧
    (x.prbsLock = true → exec (.prbsLockLost l) s = .next (s.after
      ((d.setLane l { x with prbsLock := false }).raise evLnPrbsLockLost (d.lanePort l))))) ∧
  (∀ (s : State) (d : Dev) (l : Nat), s.begun = d → 9 ≤ d.bt.phase → l = d.fld rLnLaneSel 0 8 →
    exec .fecSymRead s = .next (s.after ((d.emit (.regValue (d.rd rLnFecSym 0 l))).wr rLnFecSym 0 0 l)) ∧
    exec .fecCwRead s = .next (s.after ((d.emit (.regValue (d.rd rLnFecCw 0 l))).wr rLnFecCw 0 0 l)) ∧
    exec .fecUncorrRead s = .next (s.after ((d.emit (.regValue (d.rd rLnFecUncorr 0 l))).wr rLnFecUncorr 0 0 l)) ∧
    exec .prbsErrRead s = .next (s.after ((d.emit (.regValue (d.rd rLnPrbsErr 0 l))).wr rLnPrbsErr 0 0 l))) ∧
  (∀ (s : State) (d : Dev) (tile : Nat), s.begun = d → exec (.fabricD2dFault tile) s = .next (s.after
    ((forEach ((Tbl.keys (d.latchLn (64 * tile) 7).map).filter (fun p => p / 64 == tile)) (fun p d => d.breakPort p 1)
      (d.latchLn (64 * tile) 7)).raise evLnD2dFault tile)))

/-! ### cx -/

/-- R313, R322, R323, R325: CXL.mem of a host in service. A request that no decoder claims or that reaches an unbound vPPB is a
decode miss; one to a port out of service is answered at once, a read with poison; one to the window device is its own; any
other is held at its port and forwarded as it came, with the LD-ID of its logical device. A response goes to its host; the third
timeout of a tick removes the port. The readings of log entries 104, 116, 187 are the model's. -/
def Obligations.CxlMemory : Prop :=
  (∀ (s : State) (d : Dev) (k tc len : Nat) (m : MemOp) (read : Bool), s.begun = d → d.cxRole k = 1 → (d.cxPort k).link = .up →
    d.cxPortHost k = m.host → read = (m.write.isNone && !m.other) →
    ((d.hdmRoute m.host m.hpa = none ∨ (∃ v, d.hdmRoute m.host m.hpa = some v ∧ (d.vppb m.host v).target = none)
        ∨ (∃ v ld, d.hdmRoute m.host m.hpa = some v ∧ (d.vppb m.host v).target = some (0xFF, ld) ∧ m.other = false ∧
          d.winDpa m.host m.hpa = none)) →
      exec (.cxlMemRequest k tc len m) s = .next (s.after
        ((((d.emit (.cxl (.rsp m.host m.tag read none))).latchCx k 3 m.host 0).raise evCxDecodeMiss (256 + k))))) ∧
    (∀ v ld, d.hdmRoute m.host m.hpa = some v → (d.vppb m.host v).target = some (0xFF, ld) →
      (m.other = true → exec (.cxlMemRequest k tc len m) s = .next (s.after
        (d.emit (.cxl (.rsp m.host m.tag false none))))) ∧
      (∀ dpa, m.other = false → m.write = none → d.winDpa m.host m.hpa = some dpa →
        exec (.cxlMemRequest k tc len m) s = .next (s.after (d.windowRead m.host m.tag dpa))) ∧
      (∀ dpa mask data, m.other = false → m.write = some (mask, data) → d.winDpa m.host m.hpa = some dpa →
        exec (.cxlMemRequest k tc len m) s = .next (s.after (d.windowWrite m.host m.tag dpa mask data)))) ∧
    (∀ v q ld, d.hdmRoute m.host m.hpa = some v → (d.vppb m.host v).target = some (q, ld) → q ≠ 0xFF →
      ((d.cxPort q).link ≠ .up → (read = false ∨ (d.cxPort q).poisonTold = true) →
        exec (.cxlMemRequest k tc len m) s = .next (s.after (d.emit (.cxl (.rsp m.host m.tag read none))))) ∧
      ((d.cxPort q).link ≠ .up → read = true → (d.cxPort q).poisonTold = false →
        exec (.cxlMemRequest k tc len m) s = .next (s.after (((d.emit (.cxl (.rsp m.host m.tag true none))).setCx q
          { d.cxPort q with poisonTold := true }).raise evCxPoisonSent (256 + q)))) ∧
      ((d.cxPort q).link = .up → exec (.cxlMemRequest k tc len m) s = .next (s.after
        ((d.setCx q { d.cxPort q with
          reqs := (d.cxPort q).reqs ++ [MemReq.mk m.host m.tag ld read d.now false] }).cxlFrame (256 + k) (256 + q) tc
            len (.req q ld m.tag (bit (!read)) m.hpa m.write false)))))) ∧
  (∀ (d d1 : Dev) (input output tc len : Nat) (f : CxlFrame),
    d1 = (d.count (1344 + 4 * (input - 256) + 2) 1).count (1344 + 4 * (input - 256) + 3) len →
    (d1.charge input tc (cellsOf len) false = none →
      d.cxlFrame input output tc len f = (d1.latchTn input 2 tc).raise evTnCreditOverrun input) ∧
    (∀ c, d1.charge input tc (cellsOf len) false = some c →
      d.cxlFrame input output tc len f = (d1.usePromise input tc c.shared).store
        { num := 0, input := input, output := output, chan := tc, tc := tc, bytes := len, body := .cxl f, rsv := c.rsv,
          shared := c.shared, floor := c.floor })) ∧
  (∀ (s : State) (d d1 : Dev) (q host tag tc len : Nat) (poison : Bool) (data : Option Nat) (x : CxPort) (r : MemReq),
    s.begun = d → d.cxPort q = x → firstThat x.reqs (fun r => r.host == host && r.tag == tag) = some r →
    d1 = d.setCx q { x with reqs := removeFirst x.reqs (fun r => r.host == host && r.tag == tag) } →
    (∀ k, r.orphan = false → d1.hostPort host = some k →
      exec (.cxlMemResponse q host tag tc len poison data) s = .next (s.after
        (d1.cxlFrame (256 + q) (256 + k) tc len (.rsp host tag poison data)))) ∧
    ((r.orphan = true ∨ d1.hostPort host = none) →
      exec (.cxlMemResponse q host tag tc len poison data) s = .next (s.after d1))) ∧
  (∀ (s : State) (d : Dev) (q host tag tc len : Nat) (poison : Bool) (data : Option Nat), s.begun = d →
    firstThat (d.cxPort q).reqs (fun r => r.host == host && r.tag == tag) = none →
    exec (.cxlMemResponse q host tag tc len poison data) s = .next (s.after d)) ∧
  (∀ (s : State) (d d1 d2 : Dev) (k host tag : Nat) (x : CxPort) (r : MemReq), s.begun = d → d.cxPort k = x →
    firstThat x.reqs (fun r => r.host == host && r.tag == tag) = some r → orOne (d.fld rCxCtl 0 8) ≤ d.since r.since →
    d1 = d.setCx k { x with
      reqs := removeFirst x.reqs (fun r => r.host == host && r.tag == tag), timeouts := x.timeouts + 1 } →
    d2 = ((if r.orphan then d1 else d1.emit (.cxl (.rsp host tag r.read none))).latchCx k 2 host r.ld).raise evCxMemTimeout
      (256 + k) →
    (x.timeouts < 2 → exec (.memTimeout k host tag) s = .next (s.after d2)) ∧
    (2 ≤ x.timeouts → exec (.memTimeout k host tag) s = .next (s.after (d2.surprise k false)))) ∧
  (∀ (s : State) (d : Dev) (k h : Nat), s.begun = d → d.cxRole k = 1 → (d.cxPort k).link = .up → d.cxPortHost k = h →
    exec (.cxlIoRequest k .functionReset) s = .next (s.after (d.resetFn h)) ∧
    (∀ n x, n < 32 → exec (.cxlIoRequest k (.setDecoder n x)) s = .next (s.after { d with cx := { d.cx with
      hosts := Tbl.put {} h { d.cxHost h with decoders := Tbl.put none n x (d.cxHost h).decoders } d.cx.hosts } })) ∧
    (∀ n x, exec (.cxlIoRequest k (.setWinDecoder n x)) s = .next (s.after { d with cx := { d.cx with
      hosts := Tbl.put {} h { d.cxHost h with winDecoders := Tbl.put none n x (d.cxHost h).winDecoders } d.cx.hosts } })) ∧
    (∀ l, exec (.cxlIoRequest k (.setBars l)) s = .next (s.after { d with cx := { d.cx with
      hosts := Tbl.put {} h { d.cxHost h with bars := l } d.cx.hosts } })) ∧
    (∀ v id tc len, ((d.vppb h v).target = none ∨
        ∃ q ld, (d.vppb h v).target = some (q, ld) ∧ q ≠ 0xFF ∧ (d.cxPort q).link ≠ .up) →
      exec (.cxlIoRequest k (.forVppb v id tc len)) s = .next (s.after (d.emit (.cxl (.unsupported h id))))) ∧
    (∀ v id tc len q ld, (d.vppb h v).target = some (q, ld) → q ≠ 0xFF → (d.cxPort q).link = .up →
      exec (.cxlIoRequest k (.forVppb v id tc len)) s = .next (s.after
        (d.cxlFrame (256 + k) (256 + q) tc len (.io q h id))))) ∧
  (∀ (s : State) (d : Dev) (k rate width : Nat), s.begun = d → d.cxRole k = 1 → (d.cxPort k).link = .training →
    exec (.hostPortTrained k (some rate) width) s = .next (s.after
      ((d.setCx k { d.cxPort k with link := .up, rate := rate, width := width }).raiseIf
        (decide (rate < 3) || decide (width < d.outLanes (256 + k))) evCxLinkDegraded (256 + k))) ∧
    exec (.hostPortTrained k none width) s = .next (s.after
      ((d.latchCx k 4 (d.cxPortHost k) 0).raise evCxDeviceRefused (256 + k))))

/-- R314 to R321, R324: Malthouse. A request that fails a check is answered with the first status that applies; one that passes
begins, and its change applies at its boundary, on a pair the one both twins share; an unbind waits for host software or ends
without it. The readings of log entries 112, 113, 197 are the model's. -/
def Obligations.BindingChanges : Prop :=
  (∀ (s : State) (d : Dev) (q w : Nat), s.begun = d → d.runsMalthouse = true →
    (mhFormOk w = false → exec (.bind (.queue q w)) s = .next (s.after (d.mhRespond q w 1 d.now))) ∧
    (∀ st, d.mhStatus q w = st → st ≠ 0 → exec (.unbind (.queue q w)) s = .next (s.after (d.mhRespond q w st d.now)))) ∧
  (∀ (s : State) (d d1 : Dev) (q w : Nat), s.begun = d → d.runsMalthouse = false → mhFormOk w = true → d.mhSource q = true →
    (d.mirroring = true → d.mirrorFull = false → d1 = d.mirror 6 33 0 (w + 2 ^ 256 * q) →
      exec (.bind (.queue q w)) s = .next (s.after { d1 with cx := { d1.cx with
        work := d1.cx.work ++ [MhWork.mk q w none (.forwarded d1.tw.seqTx)] } })) ∧
    ((d.mirroring = false ∨ d.mirrorFull = true) →
      exec (.bind (.queue q w)) s = .next (s.after (d.mhRespond q w 3 d.now)))) ∧
  (∀ (d d1 : Dev) (q w st tick word : Nat), word = pack [(16, mhTag w), (8, st), (8, 0), (32, tick)] →
    d1 = (if q < 16 then d.emit (.mhResponse q word) else d.mirror 7 12 0 (pack [(32, q - 16), (64, word)])) →
    d.mhRespond q w st tick = ({ d1 with cx := { d1.cx with
      lastTag := mhTag w, lastStatus := st, lastTick := tick % 2 ^ 32 } }).raiseIf (decide (st ≠ 0)) evCxMhRefused 0) ∧
  (∀ (s : State) (d d1 : Dev) (q w t : Nat) (x : MhWork), s.begun = d → d.runsMalthouse = true → d.mhStatus q w = 0 →
    t = (if mhAtTick w then mhTick w else d.now + 1) → x = ⟨q, w, none, .staged t⟩ →
    d1 = { d with cx := { d.cx with work := d.cx.work ++ [x] } } →
    (mhOp w = 1 → exec (.bind (.queue q w)) s = .next (s.after
      ((d1.setVppb (mhHost w) (mhVppb w) { d1.vppb (mhHost w) (mhVppb w) with use := .binding, since := d1.now }).stageWork x t))) ∧
    (∀ d2, mhOp w = 2 →
      d2 = d1.setVppb (mhHost w) (mhVppb w) { d1.vppb (mhHost w) (mhVppb w) with use := .unbinding, since := d1.now } →
      ((mhOpt w = 2 ∨ (d1.vppb (mhHost w) (mhVppb w)).hostOff = true) →
        exec (.unbind (.queue q w)) s = .next (s.after (d2.stageWork x t))) ∧
      (mhOpt w = 1 → (d1.vppb (mhHost w) (mhVppb w)).hostOff = false → exec (.unbind (.queue q w)) s = .next (s.after
        (d2.setWork x { x with phase := .attention t }))) ∧
      (mhOpt w = 0 → (d1.vppb (mhHost w) (mhVppb w)).hostOff = false → exec (.unbind (.queue q w)) s = .next (s.after
        (d2.setWork x { x with phase := .hostWait d2.now })))) ∧
    (mhOp w = 3 → exec (.ldAlloc (.queue q w)) s = .next (s.after (d1.stageWork x t))) ∧
    (mhOp w = 4 → mhAtTick w = false → exec (.dcAdd (.queue q w)) s = .next (s.after (d1.offerExtent x))) ∧
    (mhOp w = 4 → mhAtTick w = true → exec (.dcAdd (.queue q w)) s = .next (s.after d1)) ∧
    (mhOp w = 5 → mhForce w = true → exec (.dcRelease (.queue q w)) s = .next (s.after (d1.stageWork x t))) ∧
    (mhOp w = 5 → mhForce w = false → mhAtTick w = true → exec (.dcRelease (.queue q w)) s = .next (s.after d1)) ∧
    (mhOp w = 5 → mhForce w = false → mhAtTick w = false → exec (.dcRelease (.queue q w)) s = .next (s.after
      (d1.offerExtent x)))) ∧
  (∀ (d d1 : Dev) (x : MhWork) (t t' : Nat),
    (d.mirroring = false → d.stageWork x t = d.setWork x { x with phase := .staged t }) ∧
    (d.mirroring = true → t' = max t (d.now + d.mirrorLead) → d1 = d.mirror 1 32 t' x.raw →
      d.stageWork x t = d1.setWork x { x with mirror := some d1.tw.seqTx, phase := .staged t' }) ∧
    (d1 = d.emit (.mediaEvent (mhHost x.raw) (mhDpa x.raw) (mhLen x.raw)) →
      d.offerExtent x = d1.setWork x { x with phase := .dcWait d1.now })) ∧
  (∀ (s : State) (d : Dev) (x : MhWork) (q tag w h v : Nat), s.begun = d → x.raw = w → mhHost w = h → mhVppb w = v →
    firstThat d.cx.work (fun x => x.queue == q && mhTag x.raw == tag && (match x.phase with
      | .staged t => decide (t ≤ d.now) | .attention t => decide (t ≤ d.now) | _ => false)) = some x →
    (d.targetGone w = true → mhOp w = 1 → exec (.bindingApply q tag) s = .next (s.after
      ((d.setVppb h v { since := d.now }).mhComplete x 12))) ∧
    (d.targetGone w = true → mhOp w ≠ 1 → exec (.bindingApply q tag) s = .next (s.after (d.mhComplete x 12))) ∧
    (∀ t d1, d.targetGone w = false → x.phase = .attention t →
      d1 = (d.setVppb h v { d.vppb h v with attention := true, since := d.now }).emit (.hotPlug h v hpAttention) →
      exec (.bindingApply q tag) s = .next (s.after (d1.setWork x { x with phase := .hostWait d1.now }))) ∧
    (∀ t, d.targetGone w = false → x.phase = .staged t →
      ((mhOp w = 4 ∨ mhOp w = 5) → mhForce w = false → x.mirror = none →
        exec (.bindingApply q tag) s = .next (s.after (d.offerExtent x))) ∧
      (((mhOp w ≠ 4 ∧ mhOp w ≠ 5) ∨ mhForce w = true ∨ x.mirror ≠ none) →
        exec (.bindingApply q tag) s = .next (s.after ((d.applyChange w).mhComplete x 0))))) ∧
  (∀ (d d1 : Dev) (w h v k ld : Nat), mhHost w = h → mhVppb w = v → mhPort w = k → mhLd w = ld →
    (mhOp w = 1 → d1 = d.setVppb h v { use := .bound, target := some (k, ld), presence := true, active := true, since := d.now } →
      d.applyChange w = (((if k = 0xFF then d1 else d1.setLd k ld { d1.ldOf k ld with bound := some (h, v) }).emit
        (.hotPlug h v (hpPresence + hpLink))).raise evCxBindDone 0)) ∧
    (mhOp w = 2 → d1 = (if mhOpt w = 2 then (match (d.vppb h v).target with
        | some (k, ld) => d.poisonReqs k (fun r => r.host == h && r.ld == ld)
        | none => d) else d) →
      d.applyChange w = (d1.unbindNow h v (mhOpt w == 2)).raise evCxUnbindDone 0) ∧
    (mhOp w = 3 → d.applyChange w = (d.setLd k ld { d.ldOf k ld with capacity := mhLen w }).emit (.fmTunnel k ld 3 (mhLen w))) ∧
    (mhOp w = 4 → d.applyChange w = ({ d with cx := { d.cx with
      extents := d.cx.extents ++ [Extent.mk k ld (mhRegion w) (mhDpa w) (mhLen w)] } }).raise evCxDcChange 0) ∧
    (mhOp w = 5 → d.applyChange w = ({ d with cx := { d.cx with
      extents := d.cx.extents.filter (fun e => !(e.overlaps k ld (mhDpa w) (mhLen w))) } }).raise evCxDcChange 0)) ∧
  (∀ (d d1 : Dev) (h v : Nat) (dpc : Bool), d1 = (match (d.vppb h v).target with
      | some (k, ld) => if k = 0xFF then d else d.setLd k ld { d.ldOf k ld with bound := none }
      | none => d) →
    d.unbindNow h v dpc = (d1.setVppb h v { dpc := dpc, since := d1.now }).emit (.hotPlug h v hpPresence)) ∧
  (∀ (s : State) (d d1 : Dev) (h v : Nat), s.begun = d →
    (∀ t x, firstThat d.cx.work (fun x => x.waitsHost h v) = some x → x.phase = .hostWait t →
      1024 * orOne (d.fld rCxCtl 8 12) ≤ d.since t →
      d1 = (d.setVppb h v { d.vppb h v with use := .bound, attention := false, since := d.now }).mhComplete x 10 →
      exec (.unbindTimeout h v) s = .next (s.after (d1.raise evCxUnbindTimeout (256 + (d1.hostPort h).getD 0)))) ∧
    (d1 = d.setVppb h v { d.vppb h v with hostOff := true } →
      (∀ x, firstThat d.cx.work (fun x => x.waitsHost h v) = some x →
        exec (.unbindHostAction h v) s = .next (s.after (d1.stageWork x
          (if mhAtTick x.raw && mhOpt x.raw == 0 then max (d1.now + 1) (mhTick x.raw) else d1.now + 1)))) ∧
      (firstThat d.cx.work (fun x => x.waitsHost h v) = none →
        exec (.unbindHostAction h v) s = .next (s.after d1)))) ∧
  (∀ (s : State) (d : Dev) (h port ld dpa len t : Nat) (x : MhWork), s.begun = d → d.dcWork h = some x → x.phase = .dcWait t →
    (mhOp x.raw = 4 →
      exec (.dcHostResponse h 0 port ld dpa len) s = .next (s.after (if d.mirroring then d.stageWork x (d.now + 1)
        else (d.applyChange x.raw).mhComplete x 0)) ∧
      exec (.dcHostResponse h 1 port ld dpa len) s = .next (s.after ((d.raise evCxDcChange 0).mhComplete x 11))) ∧
    (mhOp x.raw = 5 →
      exec (.dcHostResponse h 2 port ld dpa len) s = .next (s.after (if d.mirroring then d.stageWork x (d.now + 1)
        else (d.applyChange x.raw).mhComplete x 0))) ∧
    (1024 * orOne (d.fld rCxCtl 20 12) ≤ d.since t → exec (.dcTimeout h) s = .next (s.after
      ((d.raiseIf (mhOp x.raw == 4) evCxDcChange 0).mhComplete x 10)))) ∧
  (∀ (s : State) (d d1 : Dev) (h port ld dpa len : Nat) (e : Extent) (b : Nat × Nat), s.begun = d → d.dcWork h = none →
    firstThat d.cx.extents (fun e => e.port == port && e.ld == ld && e.dpa == dpa && e.len == len) = some e →
    (d.ldOf port ld).bound = some b → b.1 = h → d1 = d.dropExtent (releaseOf h e) →
    exec (.dcHostResponse h 2 port ld dpa len) s = .next (s.after
      (if d1.mirroring then d1.mirror 1 32 0 (releaseOf h e) else d1)))

/-- R322, R324 to R326: ports that come and go. A removal empties the port's queue, answers what was outstanding with poison and
contains the port; at the next boundary its bindings are removed; a trained port is identified; a host link that fails orphans
the host's requests and resets its function. The readings of log entries 115, 119 are the model's. -/
def Obligations.CxlPortsComeAndGo : Prop :=
  (∀ (s : State) (d d0 d1 d2 : Dev) (k : Nat) (link : Bool), s.begun = d → d.cxRole k = 2 → (d.cxPort k).link = .up →
    d0 = d.raiseIf (link && !((d.boundTo k).any (fun b => decide ((d.vppb b.1 b.2.1).use = .unbinding)))) evCxCxlLinkDown
      (256 + k) →
    d1 = d0.discardQueue (256 + k) → d2 = d1.poisonReqs k (fun _ => true) →
    exec (.surpriseRemoval k link) s = .next (s.after
      (((d2.setCx k { d2.cxPort k with
        link := .contained, rate := 0, width := 0, removeAfter := some d2.now,
        poisonTold := (d1.cxPort k).reqs.any (fun r => r.read && !r.orphan) }).latchCx k 1 0 0).raise evCxSurpriseRemoval
          (256 + k)))) ∧
  (∀ (d : Dev) (k : Nat) (p : MemReq → Bool) (live : List MemReq), live = (d.cxPort k).reqs.filter (fun r => p r && !r.orphan) →
    d.poisonReqs k p = (forEach live (fun r d => d.emit (.cxl (.rsp r.host r.tag r.read none)))
      (d.setCx k { d.cxPort k with reqs := (d.cxPort k).reqs.filter (fun r => !(p r)) })).raiseIf (live.any (fun r => r.read))
        evCxPoisonSent (256 + k)) ∧
  (∀ (s : State) (d d1 d2 : Dev) (k t : Nat), s.begun = d → (d.cxPort k).removeAfter = some t → d.since t ≠ 0 →
    d1 = forEach (d.cx.work.filter (fun x => match d.mhLdOf x.raw, x.phase with
      | _, .forwarded _ => false | some l, _ => l.1 == k | none, _ => false)) (fun x d => d.mhRemoved x) d →
    d2 = forEach (d1.boundTo k) (fun (b : Nat × Nat × Nat) (d : Dev) => d.unbindNow b.1 b.2.1 true) d1 →
    exec (.containmentUnbind k) s = .next (s.after
      (({ d2 with cx := { d2.cx with extents := d2.cx.extents.filter (fun e => e.port != k) } }).setCx k
        { d2.cxPort k with lds := [], ldCount := 0, kind := 0, dcd := false, regions := [], removeAfter := none }))) ∧
  (∀ (s : State) (d : Dev) (k : Nat) (x : CxPort) (p : CxPartner), s.begun = d → d.cxPort k = x → d.cxRole k = 2 →
    (x.link = .training ∨ x.link = .contained) → x.removeAfter = none →
    (p.accepted = false → exec (.cxlPortTrained k p) s = .next (s.after
      (((d.setCx k { x with link := .training, kind := 3 }).latchCx k 4 0 0).raise evCxDeviceRefused (256 + k)))) ∧
    (∀ d1 : Dev, p.accepted = true →
      d1 = ((d.setCx k { x with
        link := .up, rate := p.rate, width := p.width, kind := if p.mld then 2 else 1, dcd := p.dcd, ldCount := p.lds.length,
        total := p.total, block := p.block, regions := p.regions,
        lds := forEach (upFrom 0 p.lds.length) (fun i (t : Tbl LdState) =>
          Tbl.put {} i (LdState.mk true none (p.lds.getD i 0)) t) [],
        reqs := [], timeouts := 0, poisonTold := false }).raiseIf (decide (p.rate < 3) || decide (p.width < d.outLanes (256 + k))) evCxLinkDegraded
          (256 + k)).raise evCxDevAdded (256 + k) →
      exec (.cxlPortTrained k p) s = .next (s.after (if d1.mhSource 6 then
        forEach (d1.cx.policy.filter (fun w => field w 0 8 == k)) (fun _ d => d.mqPut 6 false) d1 else d1)))) ∧
  (∀ (s : State) (d : Dev) (k : Nat), s.begun = d → d.cxRole k = 1 → (d.cxPort k).link = .up →
    exec (.hostDown k) s = .next (s.after (d.hostDown k .training))) ∧
  (∀ (d d1 d2 d3 : Dev) (k h : Nat) (link : CxLink), h = d.cxPortHost k →
    d1 = forEach (Tbl.keys d.cx.ports) (fun q (d : Dev) => d.setCx q { d.cxPort q with
      reqs := mapWhere (d.cxPort q).reqs (fun r => r.host == h) (fun r => { r with orphan := true }) }) d →
    d2 = d1.discardQueue (256 + k) →
    d3 = ((d2.setCx k { d2.cxPort k with link := link, rate := 0, width := 0 }).latchCx k 6 h 0).raise evCxHostDown (256 + k) →
    d.hostDown k link = (if flag (d3.rd rCxMhCfg) 16 && d3.runsMalthouse then
      forEach ((upFrom 1 64).filter (fun v => decide ((d3.vppb h v).use = .bound))) (fun v d =>
        d.mhBegin 7 (pack [(8, 2), (8, 2), (16, 0), (8, h), (8, v)])) d3 else d3).resetFn h) ∧
  (∀ (s : State) (d d1 : Dev) (k v : Nat), s.begun = d → 9 ≤ d.bt.phase → k < 48 → v < 8 →
    (d.cxRole k = 0 → exec (.containClear k v) s = .next (s.after (d.emit .applyRefused))) ∧
    (d.cxRole k ≠ 0 → d1 = d.wr rCxPortCtl (pack [(1, field v 0 1), (1, 0), (1, field v 2 1)]) k →
      (flag v 1 = true → (d1.cxPort k).link = .contained → exec (.containClear k v) s = .next (s.after
        ((d1.setCx k { d1.cxPort k with link := .training }).cxPortCtl k))) ∧
      (flag v 1 = false ∨ (d1.cxPort k).link ≠ .contained → exec (.containClear k v) s = .next (s.after (d1.cxPortCtl k))))) ∧
  (∀ (d : Dev) (k : Nat) (may : Bool),
    may = (flag (d.rd rCxPortCtl k) 0 && !(flag (d.rd rCxPortCtl k) 2) && decide (d.cxRole k ≠ 0)) →
    d.cxPortCtl k = if (d.cxPort k).link = .disabled then
        (if may then d.setCx k { d.cxPort k with link := .training } else d)
      else if (d.cxPort k).link = .fenced ∨ may = true then d else d.stopCx k .disabled) ∧
  (∀ (d : Dev) (k : Nat) (link : CxLink), d.stopCx k link =
    if (d.cxPort k).link = .up ∧ d.cxRole k = 2 then d.contain k link
    else if (d.cxPort k).link = .up ∧ d.cxRole k = 1 then d.hostDown k link
    else d.setCx k { d.cxPort k with link := link }) ∧
  (∀ (s : State) (d d1 : Dev) (tile : Nat), s.begun = d → d1 = d.latchCx ((d.cxTilePorts tile).headD 0) 5 0 0 →
    exec (.cxlD2dFault tile) s = .next (s.after
      ((forEach (({ d1 with cx := { d1.cx with fencedTiles := setField d1.cx.fencedTiles tile 1 1 } }).cxTilePorts tile)
        (fun k (d : Dev) => d.stopCx k .fenced)
        { d1 with cx := { d1.cx with fencedTiles := setField d1.cx.fencedTiles tile 1 1 } }).raise evCxD2dFault tile)))

/-! ### wn -/

/-- R330, R332, R333, R334, R335, R336, R337, R338, R339, R340: requests to the window device. One that no window serves, or
whose window is not ACTIVE, is answered with poison or Cmp, and so is a write of a read-only window, which is reported. A
request behind a waiting one of its host and line waits too. A read that hits returns its sector; an old line is dropped and
missed; a write of a full sector, or of a valid one, completes in the cache; anything else waits for a fill. A miss joins the
running fill of its block or starts one, and waits where its set has no place. A read that waits too long ends with poison. The
lines of windows. A dirty line is written back when it has been dirty long enough; a fill's data is counted against its message,
and its end fills the sectors that hold nothing, or fails its reads; a write-back's end counts for the flushes, or fences its
window; a flush answers once nothing is owed; a drained window turns OFF, or FENCED where a write-back failed; the home answers
a WN_FILL from its memory. The readings of log entries 20, 61, 64, 205 are the model's. -/
def Obligations.WindowAccesses : Prop :=
  (∀ (s : State) (d : Dev) (host tag dpa mask data : Nat), s.begun = d →
    (d.winAt host dpa = none →
      exec (.windowRead host tag dpa) s = .next (s.after
        (((d.latchWn 0 2 host 0 dpa).raise evWnNoWindow host).cxlAnswer host tag true none)) ∧
      exec (.windowWrite host tag dpa mask data) s = .next (s.after
        (((d.latchWn 0 2 host 0 dpa).raise evWnNoWindow host).cxlAnswer host tag false none))) ∧
    (∀ w, d.winAt host dpa = some w → (d.win w).use ≠ .active →
      exec (.windowRead host tag dpa) s = .next (s.after (d.cxlAnswer host tag true none)) ∧
      exec (.windowWrite host tag dpa mask data) s = .next (s.after (d.cxlAnswer host tag false none))) ∧
    (∀ w, d.winAt host dpa = some w → (d.win w).use = .active →
      d.wn.blocked.any (fun y => y.host == host && y.dpa / 128 == dpa / 128) = true →
      exec (.windowRead host tag dpa) s = .next (s.after
        { d with wn := { d.wn with blocked := d.wn.blocked ++ [⟨host, tag, dpa, none, d.now⟩] } }) ∧
      exec (.windowWrite host tag dpa mask data) s = .next (s.after
        { d with wn := { d.wn with blocked := d.wn.blocked ++ [⟨host, tag, dpa, some (mask, data), d.now⟩] } })) ∧
    (∀ w x y, d.winAt host dpa = some w → (d.win w).use = .active →
      d.wn.blocked.any (fun y => y.host == host && y.dpa / 128 == dpa / 128) = false →
      x = ⟨host, tag, dpa, none, d.now⟩ → y = ⟨host, tag, dpa, some (mask, data), d.now⟩ →
      (∀ l, d.wnLine w (dpa / 128) = some l →
        (d.lineOld l = false → l.valid (dpa / 64 % 2) = true → exec (.windowRead host tag dpa) s = .next (s.after
          ((d.useLine l).cxlAnswer host tag false (some (l.data (dpa / 64 % 2)))))) ∧
        (d.lineOld l = false → l.valid (dpa / 64 % 2) = false → exec (.windowRead host tag dpa) s = .next (s.after
          (d.missWait w x))) ∧
        (d.lineOld l = true → exec (.windowRead host tag dpa) s = .next (s.after ((d.dropLine w l.line).missWait w x)))) ∧
      (d.wnLine w (dpa / 128) = none → exec (.windowRead host tag dpa) s = .next (s.after (d.missWait w x))) ∧
      (d.winMode w = 1 → exec (.windowWrite host tag dpa mask data) s = .next (s.after
        ((((d.latchWn w 1 host 0 dpa).emit (.mediaEvent host dpa 64)).raise evWnRoWrite w).cxlAnswer host tag false none))) ∧
      (d.winMode w ≠ 1 →
        (∀ l, d.wnLine w (dpa / 128) = some l →
          (mask = 2 ^ 64 - 1 → exec (.windowWrite host tag dpa mask data) s = .next (s.after (d.writeLine l y data))) ∧
          (mask ≠ 2 ^ 64 - 1 → l.valid (dpa / 64 % 2) = true → exec (.windowWrite host tag dpa mask data) s = .next (s.after
            (d.writeLine l y (mergeBytes (l.data (dpa / 64 % 2)) data mask)))) ∧
          (mask ≠ 2 ^ 64 - 1 → l.valid (dpa / 64 % 2) = false → exec (.windowWrite host tag dpa mask data) s = .next (s.after
            (d.missWait w y)))) ∧
        (d.wnLine w (dpa / 128) = none →
          (mask ≠ 2 ^ 64 - 1 → exec (.windowWrite host tag dpa mask data) s = .next (s.after (d.missWait w y))) ∧
          (∀ l : WnLine, l = { window := w, line := dpa / 128, stamp := d.st.boundaries } → mask = 2 ^ 64 - 1 →
            (∀ d1, d.allocLine l = some d1 → exec (.windowWrite host tag dpa mask data) s = .next (s.after
              (d1.writeLine l y data))) ∧
            (d.allocLine l = none → exec (.windowWrite host tag dpa mask data) s = .next (s.after
              { d with wn := { d.wn with blocked := d.wn.blocked ++ [y] } }))))))) ∧
  (∀ (d : Dev) (l : WnLine) (x : WnWait) (data : Nat), d.writeLine l x data =
    (((d.useLine { l.put (x.dpa / 64 % 2) data true with
      dirtySince := if l.dirty then l.dirtySince else d.now }).emit (.cxl (.rsp x.host x.tag false none)))).dirtyCheck) ∧
  (∀ (d : Dev) (l : WnLine),
    (∀ d1 : Dev, (d.winMax l.window = 0 ∨ countWhere d.wn.lines (fun x => x.window == l.window) < d.winMax l.window) ∧ d1 = d ∨
        (∃ v, d.winMax l.window ≠ 0 ∧ d.winMax l.window ≤ countWhere d.wn.lines (fun x => x.window == l.window) ∧
          d.victim (fun x => x.window == l.window) = some v ∧ d1 = (d.evict v).raise evWnLineQuota l.window) →
      (countWhere d1.wn.lines (fun x => decide (x.set = l.set)) < 16 → d.allocLine l = some (d1.useLine l)) ∧
      (16 ≤ countWhere d1.wn.lines (fun x => decide (x.set = l.set)) →
        (∀ v, d1.victim (fun x => decide (x.set = l.set)) = some v → d.allocLine l = some ((d1.evict v).useLine l)) ∧
        (d1.victim (fun x => decide (x.set = l.set)) = none → d.allocLine l = none))) ∧
    (d.winMax l.window ≠ 0 → d.winMax l.window ≤ countWhere d.wn.lines (fun x => x.window == l.window) →
      d.victim (fun x => x.window == l.window) = none → d.allocLine l = none) ∧
    (l.dirty = true → d.evict l = (d.sendWb l).dropLine l.window l.line) ∧
    (l.dirty = false → d.evict l = d.dropLine l.window l.line)) ∧
  (∀ (d : Dev) (w : Nat) (x : WnWait) (block : Nat), block = x.dpa / d.winBlock w * d.winBlock w →
    (d.wnLine w (x.dpa / 128) = none → d.allocLine { window := w, line := x.dpa / 128, use := .filling } = none →
      d.missWait w x = { d with wn := { d.wn with blocked := d.wn.blocked ++ [x] } }) ∧
    (∀ d1 : Dev, ((d.wnLine w (x.dpa / 128) = none ∧
          d.allocLine { window := w, line := x.dpa / 128, use := .filling } = some d1) ∨
        (∃ l, d.wnLine w (x.dpa / 128) = some l ∧ d1 = if l.use = .clean then d.setLine { l with use := .filling } else d)) →
      (∀ f, firstThat d1.wn.fills (fun f => f.of w block) = some f → d.missWait w x = { d1 with wn := { d1.wn with
        fills := mapFirst d1.wn.fills (fun f => f.of w block) (fun f => { f with waits := f.waits ++ [x] }) } }) ∧
      (∀ d2 : Dev, d2 = forEach (upFrom (block / 128) (d1.winBlock w / 128)) (Dev.fillLine w) d1 →
        firstThat d1.wn.fills (fun f => f.of w block) = none →
        d.missWait w x = ({ d2 with wn := { d2.wn with
          fills := d2.wn.fills ++ [WnFill.mk d2.wn.nextFill w block (d2.winBlock w) false d2.now [x] false],
          nextFill := d2.wn.nextFill + 1 } }).sendFills))) ∧
  (∀ (s : State) (d : Dev) (host tag : Nat) (late : WnWait → Bool), s.begun = d →
    late = (fun x => x.host == host && x.tag == tag && x.write.isNone && decide (d.readTo ≤ d.since x.since)) →
    (∀ (f : WnFill) (x : WnWait), firstThat d.wn.fills (fun f => f.waits.any late) = some f → firstThat f.waits late = some x →
      exec (.readTimeout host tag) s = .next (s.after
        ((({ d with wn := { d.wn with
          fills := mapFirst d.wn.fills (fun g => g.num == f.num)
            (fun g => { g with waits := removeFirst g.waits late }) } }).cxlAnswer host tag true none).latchWn f.window 4
          host 0 x.dpa |>.raise evWnReadTimeout f.window))) ∧
    (∀ (w : Nat) (x : WnWait), firstThat d.wn.fills (fun f => f.waits.any late) = none → firstThat d.wn.blocked late = some x →
      d.winAt host x.dpa = some w → exec (.readTimeout host tag) s = .next (s.after
        ((({ d with wn := { d.wn with blocked := removeFirst d.wn.blocked late } }).cxlAnswer host tag true none).latchWn w 4
          host 0 x.dpa |>.raise evWnReadTimeout w)))) ∧
  (∀ (s : State) (d : Dev) (num : Nat) (m : Msg), s.begun = d → d.msg num = some m →
    (m.type = tyWnFill ∨ m.type = tyWnWrite) → m.id = none → m.phase = .waiting → m.waitRaised = false → 1 < d.waited m.since →
    exec (.msgWait num) s = .next (s.after ((d.setMsg { m with waitRaised := true }).raise evWnMsgWait m.srcEp))) ∧
  (∀ (s : State) (d : Dev) (w line : Nat) (l : WnLine), s.begun = d → d.wnLine w line = some l → l.dirty = true →
    d.wbDelay w ≤ d.since l.dirtySince →
    (d.wbRuns w line = true → exec (.wbDelayExpiry w line) s = .next (s.after (d.setLine { l with again := true }))) ∧
    (d.wbRuns w line = false → exec (.wbDelayExpiry w line) s = .next (s.after
      ((d.setLine { l with dirty0 := false, dirty1 := false, use := .wb, again := false }).sendWb l)))) ∧
  (∀ (d : Dev) (l : WnLine) (home len : Nat) (data : List Byte),
    ((l.dirty0 = true ∧ l.dirty1 = true ∧ home = d.winHome l.window (128 * l.line) ∧ len = 128 ∧
        data = toBytes 64 l.data0 ++ toBytes 64 l.data1) ∨
      (l.dirty0 = true ∧ l.dirty1 = false ∧ home = d.winHome l.window (128 * l.line) ∧ len = 64 ∧ data = toBytes 64 l.data0) ∨
      (l.dirty0 = false ∧ home = d.winHome l.window (128 * l.line) + 64 ∧ len = 64 ∧ data = toBytes 64 l.data1)) →
    d.sendWb l = ({ d with wn := { d.wn with wbs := d.wn.wbs ++ [WnWb.mk l.window l.line home len] } }).addMsg
      { num := 0, owner := .writeBack l.window l.line, type := tyWnWrite, srcEp := l.window,
        dstNode := d.fld rWnWinHome 0 18 0 l.window, dstEp := d.fld rWnWinHome 18 16 0 l.window, tc := d.winTc l.window,
        len := len, addr := home, key := d.fld rWnWinHome 34 24 0 l.window, inline_ := data }) ∧
  (∀ (d : Dev) (f : WnFill), f.sent = false →
    (d.wn.wbs.any (fun b => b.window == f.window && overlaps b.home b.len (d.winHome f.window f.block) f.len) = true →
      Dev.sendFill f d = d) ∧
    (d.wn.wbs.any (fun b => b.window == f.window && overlaps b.home b.len (d.winHome f.window f.block) f.len) = false →
      Dev.sendFill f d = ({ d with wn := { d.wn with
        fills := mapFirst d.wn.fills (fun x => x.num == f.num) (fun x => { x with sent := true }) } }).addMsg
      { num := 0, owner := .fill f.window f.num, type := tyWnFill, srcEp := f.window,
        dstNode := d.fld rWnWinHome 0 18 0 f.window, dstEp := d.fld rWnWinHome 18 16 0 f.window, tc := d.winTc f.window,
        len := f.len, addr := d.winHome f.window f.block, key := d.fld rWnWinHome 34 24 0 f.window })) ∧
  (∀ (s : State) (d d1 : Dev) (p : Packet) (m m' : Msg), s.begun = d → hType p.hdr = tyGetResp → p.crcOk = true →
    respOk p.hdr p.payload = true → d1 = d.setAdv (hSrcNode p.hdr) (hWin p.hdr) →
    d1.msgById (hMsgId p.hdr) (hFst p.hdr) = some m → m.type = tyWnFill →
    flag m.bitmap (hOffset p.hdr / 4096) = false → hMsgLen p.hdr = m.len →
    m' = { m with
      bitmap := m.bitmap ||| 2 ^ (hOffset p.hdr / 4096), baton := m.baton + hPayLen p.hdr, rtoFrom := d.now, lastNack := none } →
    (m'.baton ≠ m.len → exec (.fillResponse p) s = .next (s.after (d1.setMsg m'))) ∧
    (m'.baton = m.len → exec (.fillResponse p) s = .next (s.after ((d1.setMsg m').endMsg m' stOk 0 0 p.payload)))) ∧
  (∀ (d d1 : Dev) (w num status : Nat) (data : List Byte) (f : WnFill), firstThat d.wn.fills (fun f => f.num == num) = some f →
    d1 = { d with wn := { d.wn with fills := d.wn.fills.filter (fun x => x.num != num) } } →
    (f.stale = true → status = stOk → d.fillEnd w num status data = (Dev.poisonWaits f.waits d1).raise evWnLateFill w) ∧
    (f.stale = true → status ≠ stOk → d.fillEnd w num status data = Dev.poisonWaits f.waits d1) ∧
    (f.stale = false → status = stOk → d.fillEnd w num status data =
      ((forEach (upFrom (f.block / 128) (f.len / 128)) (Dev.endFilling w)
        (forEach (upFrom 0 (f.len / 64)) (Dev.fillSector f (ofBytes data)) d1)).dirtyCheck).wnUnblock) ∧
    (f.stale = false → status ≠ stOk → d.fillEnd w num status data =
      ((forEach (upFrom (f.block / 128) (f.len / 128)) (Dev.endFilling w)
        (Dev.poisonWaits f.waits ((d1.latchWn w 3 0 status f.block).raise evWnFillFail w))).dirtyCheck).wnUnblock)) ∧
  (∀ (d d1 d2 : Dev) (w line status : Nat),
    d1 = { d with wn := { d.wn with wbs := removeFirst d.wn.wbs (fun b => b.window == w && b.line == line) } } →
    d2 = (d1.latchWn w 5 0 status (128 * line)).raise evWnWbFail w →
    (∀ (l l' : WnLine) (d3 : Dev), status = stOk → d1.wnLine w line = some l → l' = { l with
        use := if l.use = .wb then .clean else l.use, stamp := d.st.boundaries, again := false } →
      (((l.again && l.dirty) = false ∧ d3 = d1.setLine l') ∨ ((l.again && l.dirty) = true ∧ d3 = (d1.setLine l').startWb w line)) →
      d.wbEnd w line status = (((d3.mapFlush (fun x => x.count w line)).sendFills).dirtyCheck).wnUnblock) ∧
    (status = stOk → d1.wnLine w line = none →
      d.wbEnd w line status = (((d1.mapFlush (fun x => x.count w line)).sendFills).dirtyCheck).wnUnblock) ∧
    (status ≠ stOk → (d.win w).use = .active → d.wbEnd w line status = (d2.fenceWindow w 5).sendFills) ∧
    (status ≠ stOk → (d.win w).use = .draining → d.wbEnd w line status =
      ((d2.setWin w { d.win w with failed := true }).mapFlush
        (fun x => ({ x with failNow := x.failNow || x.owed.any (fun o => o.1 == w && o.2.1 == line) }).count w line)).sendFills) ∧
    (status ≠ stOk → (d.win w).use = .fenced → d.wbEnd w line status = d2.sendFills)) ∧
  (∀ (s : State) (d : Dev) (h : Nat) (x : WnFlush) (gone : WnLine → Bool), s.begun = d → Tbl.get {} d.wn.flush h = x →
    x.busy = true → x.owed = [] →
    gone = (fun l => x.inv && !l.dirty && d.lineIdle l && x.covered.any (fun c => c.1 == l.window && c.2 == l.line)) →
    exec (.flushDone h) s = .next (s.after
      ((({ d with wn := { d.wn with
        flush := Tbl.put {} h { x with busy := false, done := x.seq, fail := x.failNow, failNow := false, covered := [] }
          d.wn.flush, lines := d.wn.lines.filter (fun l => !(gone l)) } }).raise evWnFlushDone h).wnUnblock))) ∧
  (∀ (s : State) (d d1 : Dev) (w : Nat), s.begun = d → (d.win w).use = .draining → d.wn.wbs.all (fun b => b.window != w) = true →
    d.wn.lines.all (fun l => l.window != w || !l.dirty) = true →
    d1 = { d with wn := { d.wn with lines := d.wn.lines.filter (fun l => l.window != w) } } →
    ((d.win w).failed = false → exec (.drainDone w) s = .next (s.after ((d1.setWin w {}).wnUnblock))) ∧
    ((d.win w).failed = true → exec (.drainDone w) s = .next (s.after
      (((d1.setWin w { use := .fenced, fenceReason := 5 }).emit
        (.mediaEvent (d.winWriter w) (d.winBase w) (d.winSize w))).wnUnblock)))) ∧
  (∀ (s : State) (d d1 d2 : Dev) (p : Packet) (c : EpCtx) (a : Access) (pieces : List (Nat × Nat)) (read : Nat), s.begun = d →
    p.crcOk = true → requestOk p = true → (hType p.hdr = tyWnFill ∨ hType p.hdr = tyGetReq) → d.tp.service.isSome = true →
    d.ageOf (hFst p.hdr) ≤ d.ageLimit →
    d.ep (hDstEp p.hdr) = some c → c.onDie = true → d1 = d.touch (hDstEp p.hdr) → d1.epServes p.hdr = true →
    d1.early p.hdr = false → d1.prevOk p.hdr = true → recordless p.hdr = true → d1.recFor p.hdr = none →
    a = ⟨hDstEp p.hdr, hAddr p.hdr + hOffset p.hdr, hReqLen p.hdr, .read, true, some (hKey p.hdr), false⟩ →
    d1.evalTarget a {} = .ok pieces →
    ((hReqLen p.hdr = 0 ∧ read = 0 ∧ d2 = d1.useLeaves a) ∨ (hReqLen p.hdr ≠ 0 ∧ (d1.useLeaves a).fresh = (read, d2))) →
    (hType p.hdr = tyWnFill → exec (.wnFill p) s = .next (s.after
      (forEach (upFrom 0 (packetsOf (hReqLen p.hdr))) (Dev.sendGetResp p.hdr p.tc read pieces) d2))) ∧
    (hType p.hdr = tyGetReq → exec (.requestArrival p) s = .next (s.after
      (forEach (upFrom 0 (packetsOf (hReqLen p.hdr))) (Dev.sendGetResp p.hdr p.tc read pieces) d2))))

/-- R338, R340: what software commands of windows. FN_WN_CMD starts a flush over the lines it covers unless one runs, which is
reported; WN_WIN_CMD enables a window that passes its checks, drains an ACTIVE one, turns a FENCED one OFF, flushes, or refuses.
The reading of log entry 65 is the model's. -/
def Obligations.WindowCommands : Prop :=
  (∀ (s : State) (d : Dev) (h v : Nat), s.begun = d → v < 2 ^ 64 →
    ((Tbl.get {} d.wn.flush h).busy = true →
      exec (.wnFlushRange h v) s = .next (s.after (d.raise evWnCmdDropped h)) ∧
      exec (.wnFlushWindow h v) s = .next (s.after (d.raise evWnCmdDropped h)) ∧
      exec (.wnFlushFunction h v) s = .next (s.after (d.raise evWnCmdDropped h))) ∧
    ((Tbl.get {} d.wn.flush h).busy = false →
      (field v 0 2 = 0 → exec (.wnFlushRange h v) s = .next (s.after (d.startFlush h (field v 32 16) (flag v 2)
        (fun l => d.winServes l.window h && d.inHostRange h (d.rd rFnWnStart 0 h) (d.rd rFnWnLen 0 h) l)))) ∧
      (field v 0 2 = 1 → d.winServes (field v 8 8) h = true → exec (.wnFlushWindow h v) s = .next (s.after
        (d.startFlush h (field v 32 16) (flag v 2) (fun l => l.window == field v 8 8)))) ∧
      (field v 0 2 = 1 → d.winServes (field v 8 8) h = false → exec (.wnFlushWindow h v) s = .next (s.after
        (d.raise evWnCmdDropped h))) ∧
      (field v 0 2 = 2 → exec (.wnFlushFunction h v) s = .next (s.after
        (d.startFlush h (field v 32 16) (flag v 2) (fun l => d.winServes l.window h)))))) ∧
  (∀ (s : State) (d : Dev) (v w : Nat), s.begun = d → 9 ≤ d.bt.phase → v < 2 ^ 32 → w = d.fld rWnWinSel 0 8 →
    (field v 0 2 = 1 →
      (d.enableCode w = 0 → exec (.windowEnable v) s = .next (s.after (d.setWin w { use := .active }))) ∧
      (∀ c, d.enableCode w = c → c ≠ 0 → exec (.windowEnable v) s = .next (s.after
        ((d.setWin w { d.win w with refuse := c }).raise evWnConfigRefused w)))) ∧
    (field v 0 2 = 2 →
      ((d.win w).use = .active → exec (.windowDisable v) s = .next (s.after
        ((((d.setWin w { use := .draining }).endWaits w).flushLines (fun l => l.window == w)).wnUnblock))) ∧
      ((d.win w).use = .fenced → exec (.windowDisable v) s = .next (s.after ((d.setWin w {}).clearFence .window w))) ∧
      (((d.win w).use = .off ∨ (d.win w).use = .draining) → exec (.windowDisable v) s = .next (s.after
        ((d.setWin w { d.win w with refuse := 1 }).raise evWnConfigRefused w)))) ∧
    (field v 0 2 = 3 →
      ((d.win w).use = .active → exec (.windowFlush v) s = .next (s.after
        ((d.setWin w { d.win w with refuse := 0 }).flushLines (fun l => l.window == w)))) ∧
      ((d.win w).use ≠ .active → exec (.windowFlush v) s = .next (s.after
        ((d.setWin w { d.win w with refuse := 1 }).raise evWnConfigRefused w))))) ∧
  (∀ (d d1 : Dev) (h seq : Nat) (inv : Bool) (p : WnLine → Bool) (lines : List WnLine), lines = d.scopeLines p →
    d1 = { d with wn := { d.wn with flush := Tbl.put {} h { (Tbl.get {} d.wn.flush h : WnFlush) with
      busy := true, seq := seq, failNow := false, inv := inv,
      owed := (lines.filter (fun l => decide (d.owedOf l ≠ 0))).map (fun l => (l.window, l.line, d.owedOf l)),
      covered := lines.map (fun l => (l.window, l.line)) } d.wn.flush } } →
    d.startFlush h seq inv p = d1.flushLines p) ∧
  (∀ (d : Dev) (p : WnLine → Bool), d.flushLines p =
    forEach (d.wn.lines.filter (fun l => p l && l.dirty)) (fun l d => d.startWb l.window l.line) d) ∧
  (∀ (d : Dev) (w line : Nat) (l : WnLine), d.wnLine w line = some l → l.dirty = true →
    (d.wbRuns w line = true → d.startWb w line = d.setLine { l with again := true }) ∧
    (d.wbRuns w line = false → d.startWb w line =
      (d.setLine { l with dirty0 := false, dirty1 := false, use := .wb, again := false }).sendWb l)) ∧
  (∀ (d : Dev) (w : Nat), d.endWaits w =
    Dev.poisonWaits ((d.wn.fills.filter (fun f => f.window == w)).flatMap (fun f => f.waits)) { d with wn := { d.wn with
      fills := mapWhere (d.wn.fills.filter (fun f => f.window != w || f.sent)) (fun f => f.window == w)
        (fun f => { f with waits := [], stale := true }) } })

/-! ### sp -/

/-- R346 to R354: a slot. A wanted slot in OFF ramps and turns ON; each protection of a slot that this device drives latches it
off with its reason, an event and, where power-good stood, its retraction; commands and the pin start it, end it and clear its
latch. The pulse of R351 is counted in local boundaries, the model's choice (log entry 200). The readings of log entries 120,
181 are the model's. -/
def Obligations.SlotsSwitch : Prop :=
  (∀ (s : State) (d d1 : Dev) (k reason : Nat) (x : SpSlot), s.begun = d → (d.slot k).owned = true → d.sp.released = false →
    d1 = d.retractPg k → d1.slot k = x →
    ∀ e : Dev, e = ((((d1.setSlot k { x with
      reason := reason, oringA := x.oringA && decide (reason ≠ 4), oringB := x.oringB && decide (reason ≠ 4) }).slotTo k
        .latched).latchSp k false reason).raise (tripEvent reason) k).slotLost k →
    (reason = 1 → ((d.slot k).use = .ramp ∨ (d.slot k).use = .on ∨ (d.slot k).use = .warnWait) →
      exec (.overcurrentTrip k) s = .next (s.after e)) ∧
    (reason = 2 → (d.slot k).use ≠ .standby → exec (.shortTrip k) s = .next (s.after e)) ∧
    (reason = 3 → (d.slot k).use = .ramp → exec (.rampTimeout k) s = .next (s.after e)) ∧
    (reason = 4 → ((d.slot k).use = .off ∨ (d.slot k).use = .latched) → exec (.gateFault k) s = .next (s.after e)) ∧
    (((d.slot k).use = .ramp ∨ ((d.slot k).use = .on ∧ (d.slot k).pg = false)) → reason ≠ 0 →
      exec (.slotOn k reason) s = .next (s.after (e.raise evSpPgRefused k)))) ∧
  (∀ (s : State) (d : Dev) (k : Nat), s.begun = d →
    ((d.slot k).owned = false ∨ (d.slot k).use = .standby ∨ d.sp.released = true) →
    exec (.shortTrip k) s = .next (s.after (d.setSlot k { d.slot k with gateOn := false }))) ∧
  (∀ (s : State) (d : Dev) (k : Nat) (x : SpSlot), s.begun = d → d.slot k = x → x.owned = true → d.sp.released = false →
    (x.use = .ramp → exec (.slotOn k 0) s = .next (s.after
      (((d.setSlot k { x with pg := true }).slotTo k .on).raise evSpSlotOn k))) ∧
    (x.use = .on → x.pg = false → exec (.slotOn k 0) s = .next (s.after
      ((d.setSlot k { x with pg := true }).raise evSpSlotOn k)))) ∧
  (∀ (s : State) (d d1 : Dev) (k : Nat) (x : SpSlot), s.begun = d → d.slot k = x → x.pg = true →
    d1 = ((d.setSlot k { x with pg := false, pulseEnd := d.st.boundaries + 99 }).raise evSpPgRetracted k).slotLost k →
    exec (.outputUv k) s = .next (s.after (d1.raise evSpOutputUv k))) ∧
  (∀ (s : State) (d : Dev) (k : Nat), s.begun = d → (d.slot k).use = .warnWait → d.bt.slotsHeld = false →
    exec (.warnLeadExpiry k) s = .next (s.after
      ((((((d.retractPg k).slotTo k .off).raise evSpSlotOff k).slotLost k)).tryRamp k))) ∧
  (∀ (s : State) (d d1 : Dev) (k : Nat), s.begun = d →
    (d1 = d.setSlot k { d.slot k with pinEn := true } →
      exec (.slotEnPin k true) s = .next (s.after (d1.tryRamp k))) ∧
    (d1 = d.setSlot k { d.slot k with pinEn := false } →
      (d1.slotPinMode k = true → exec (.slotEnPin k false) s = .next (s.after ((d1.slotToggle k).slotUnwanted k))) ∧
      (d1.slotPinMode k = false → exec (.slotEnPin k false) s = .next (s.after d1)))) ∧
  (∀ (s : State) (d d1 : Dev) (k v : Nat), s.begun = d → 9 ≤ d.bt.phase → k < 32 → v < 2 ^ 32 →
    ((d.slot k).owned = false → exec (.slotCmdEn k v) s = .next (s.after (d.emit .applyRefused)) ∧
      exec (.slotOffNow k v) s = .next (s.after (d.emit .applyRefused))) ∧
    ((d.slot k).owned = true → flag v 1 = false → flag v 0 = true → d1 = (d.wrFld rSpSlotCtl 0 1 1 k).tryRamp k →
      exec (.slotCmdEn k v) s = .next (s.after (d1.mirrorSp (0x1010 + 64 * k) 1))) ∧
    ((d.slot k).owned = true → flag v 1 = false → flag v 0 = false → d.slotCmdEn k = true →
      d1 = ((d.wrFld rSpSlotCtl 0 1 0 k).slotToggle k).slotUnwanted k →
      exec (.slotCmdEn k v) s = .next (s.after (d1.mirrorSp (0x1010 + 64 * k) 0))) ∧
    ((d.slot k).owned = true → flag v 1 = false → flag v 0 = false → d.slotCmdEn k = false →
      exec (.slotCmdEn k v) s = .next (s.after ((d.wrFld rSpSlotCtl 0 1 0 k).mirrorSp (0x1010 + 64 * k) 0))) ∧
    ((d.slot k).owned = true → flag v 1 = true →
      (((d.slot k).use = .ramp ∨ (d.slot k).use = .on ∨ (d.slot k).use = .warnWait) ∧
          d1 = (d.wrFld rSpSlotCtl 0 1 0 k).slotToOff k ∨
        ((d.slot k).use = .off ∨ (d.slot k).use = .latched ∨ (d.slot k).use = .standby) ∧ d1 = d.wrFld rSpSlotCtl 0 1 0 k) →
      ((d.slotCmdEn k && !(flag v 0)) = false →
        exec (.slotOffNow k v) s = .next (s.after (d1.mirrorSp (0x1010 + 64 * k) (2 + bit (flag v 0))))) ∧
      ((d.slotCmdEn k && !(flag v 0)) = true →
        exec (.slotOffNow k v) s = .next (s.after ((d1.slotToggle k).mirrorSp (0x1010 + 64 * k) 2))))) ∧
  (∀ (d : Dev) (k : Nat),
    ((d.slot k).pg = true → d.retractPg k =
      ((d.setSlot k { d.slot k with pg := false, pulseEnd := d.st.boundaries + 99 }).raise evSpPgRetracted k).slotLost k) ∧
    ((d.slot k).pg = false → d.retractPg k = d) ∧
    ((d.slot k).use = .off → (d.slot k).owned = true → d.slotWanted k = true → d.bt.slotsHeld = false →
      d.tryRamp k = d.setSlot k { d.slot k with use := .ramp, since := d.now }) ∧
    (((d.slot k).use ≠ .off ∨ (d.slot k).owned = false ∨ d.slotWanted k = false ∨ d.bt.slotsHeld = true) → d.tryRamp k = d) ∧
    d.slotToOff k = (((d.retractPg k).slotTo k .off).raise evSpSlotOff k).slotLost k ∧
    (((d.slot k).use = .ramp ∨ (d.slot k).use = .on) → d.slotWanted k = false → d.bt.slotsHeld = false →
      (d.fld rSpCtl 0 8 = 0 → d.slotUnwanted k = d.slotToOff k) ∧
      (d.fld rSpCtl 0 8 ≠ 0 → d.slotUnwanted k = (d.retractPg k).slotTo k .warnWait)) ∧
    ((((d.slot k).use ≠ .ramp ∧ (d.slot k).use ≠ .on) ∨ d.slotWanted k = true ∨ d.bt.slotsHeld = true) →
      d.slotUnwanted k = d) ∧
    ((d.slot k).use = .latched → d.slotToggle k =
      ((d.setSlot k { d.slot k with reason := 0 }).slotTo k .off).clearFence .slot k) ∧
    ((d.slot k).use ≠ .latched → d.slotToggle k = d) ∧
    (∀ offset value, (d.mirroring = true → d.mirrorSp offset value = d.mirror 2 12 0 (pack [(32, offset), (64, value)])) ∧
      (d.mirroring = false → d.mirrorSp offset value = d)))

/-- R355, R356, R358, R359: feeds and groups. Losing and regaining a feed, reverse current, the input warning, the trim, the
imbalance that has lasted, and the group's trip and its clearing. The reading of log entry 22 is the model's. -/
def Obligations.FeedsAndGroups : Prop :=
  (∀ (s : State) (d : Dev) (g : Nat) (x : SpGroup), s.begun = d → d.group g = x →
    (x.lostA = false →
      exec (.feedLost g false) s = .next (s.after ((d.setGroup g { x with lostA := true }).raise evSpFeedLost g))) ∧
    (x.lostB = false →
      exec (.feedLost g true) s = .next (s.after ((d.setGroup g { x with lostB := true }).raise evSpFeedLost g))) ∧
    (x.lostA = true → exec (.feedLost g false) s = .next (s.after (d.setGroup g { x with lostA := true }))) ∧
    (x.lostB = true → exec (.feedLost g true) s = .next (s.after (d.setGroup g { x with lostB := true }))) ∧
    exec (.oringReverse true g false) s = .next (s.after (d.setGroup g { x with revA := true })) ∧
    exec (.oringReverse true g true) s = .next (s.after (d.setGroup g { x with revB := true })) ∧
    exec (.feedRestored g false) s = .next (s.after
      (forEach (upFrom (8 * g) 8) (fun k (d : Dev) => d.setSlot k { d.slot k with
        inputWarn := false, oringA := decide ((d.slot k).reason ≠ 4) })
        (d.setGroup g { x with lostA := false, revA := false }))) ∧
    exec (.feedRestored g true) s = .next (s.after
      (forEach (upFrom (8 * g) 8) (fun k (d : Dev) => d.setSlot k { d.slot k with
        inputWarn := false, oringB := decide ((d.slot k).reason ≠ 4) })
        (d.setGroup g { x with lostB := false, revB := false })))) ∧
  (∀ (s : State) (d : Dev) (k : Nat) (x : SpSlot), s.begun = d → d.slot k = x →
    exec (.oringReverse false k false) s = .next (s.after (d.setSlot k { x with oringA := false })) ∧
    exec (.oringReverse false k true) s = .next (s.after (d.setSlot k { x with oringB := false })) ∧
    (x.inputWarn = true → exec (.inputWarn k) s = .next (s.after d)) ∧
    (x.inputWarn = false → exec (.inputWarn k) s = .next (s.after
      ((d.setSlot k { x with inputWarn := true }).raise evSpInputWarn k)))) ∧
  (∀ (s : State) (d : Dev) (g iA iB : Nat) (x : SpGroup), s.begun = d →
    x = { d.group g with iA := iA, iB := iB, share := shareNow iA iB } →
    ((d.bulkA g = false ∨ d.bulkB g = false ∨ x.owned = false ∨ points (shareNow iA iB) (d.shareA g) ≤ 5) →
      exec (.feedTrim g iA iB) s = .next (s.after (d.setGroup g x))) ∧
    (d.bulkA g = true → d.bulkB g = true → x.owned = true → 5 < points (shareNow iA iB) (d.shareA g) →
      (d.shareA g < shareNow iA iB → exec (.feedTrim g iA iB) s = .next (s.after
        (d.setGroup g { x with trimA := min 250 (x.trimA + Config.feedTrim iA iB (d.shareA g)), trimB := 0 }))) ∧
      (shareNow iA iB ≤ d.shareA g → exec (.feedTrim g iA iB) s = .next (s.after
        (d.setGroup g { x with trimB := min 250 (x.trimB + Config.feedTrim iA iB (d.shareA g)), trimA := 0 }))))) ∧
  (∀ (iA iB : Nat), iA + iB ≠ 0 → shareNow iA iB = 100 * iA / (iA + iB)) ∧
  (∀ (s : State) (d : Dev) (g : Nat) (x : SpGroup), s.begun = d → d.group g = x →
    (64 ≤ x.offRun → exec (.feedImbalance g) s = .next (s.after
      ((d.setGroup g { x with offRun := 0 }).raise evSpFeedImbalance g))) ∧
    (flag (d.rd rSpFgCfg g) 38 = true → x.owned = true → x.latched = false →
      exec (.feedGroupTrip g) s = .next (s.after
        (((d.setGroup g { x with latched := true }).latchSp g true 5).raise evSpFeedGroupTrip g)))) ∧
  (∀ (s : State) (d : Dev) (g v : Nat), s.begun = d → 9 ≤ d.bt.phase → g < 4 → v < 2 ^ 32 →
    ((d.group g).owned = false → exec (.feedGroupClear g v) s = .next (s.after (d.emit .applyRefused))) ∧
    ((d.group g).owned = true → flag v 0 = false → exec (.feedGroupClear g v) s = .next (s.after d)) ∧
    ((d.group g).owned = true → flag v 0 = true → exec (.feedGroupClear g v) s = .next (s.after
      (((d.setGroup g { d.group g with latched := false }).clearFence .feedGroup g).mirrorSp (0x2010 + 32 * g) 1))))

/-! ### tw -/

/-- R368, R369, R370 to R377, R379: messages of the pair. On a port that is not the twin port a heartbeat or a mirror record
only shows the peer alive. A heartbeat with a bad form or of another device is reported and does nothing more; a good one clears
the miss count and is read: it may cost the lease, bring the pair back to FORMING, form it, pair it, or hand the primary role
over. A mirror record out of order is discarded, the next one is taken, held until its tick or applied by its KIND. A probe for
this device is answered, its reply ends PROBING in SPLIT, and one for a neighbour is forwarded once. The readings of log entries
130, 133, 202 are the model's. -/
def Obligations.PairMessages : Prop :=
  (∀ (s : State) (d d1 : Dev) (p w : Nat) (ok : Bool), s.begun = d → (d.lkPort p).state = .up → d1 = d.noteHeard p (heartbeatOk w) →
    (d1.isTwin p = false → exec (.twinHeartbeat p w ok) s = .next (s.after d1)) ∧
    (d1.isTwin p = true → heartbeatOk w = false →
      exec (.twinHeartbeat p w ok) s = .next (s.after (d1.raise evTwHbMalformed d1.twinPort))) ∧
    (d1.isTwin p = true → heartbeatOk w = true → (field w 32 18 ≠ d1.peerNode ∨ field w 24 1 = d1.twinId) →
      exec (.twinHeartbeat p w ok) s = .next (s.after
        ((d1.latchTw 1).raise evTwPeerMismatch d1.twinPort))) ∧
    (d1.isTwin p = true → heartbeatOk w = true → field w 32 18 = d1.peerNode → field w 24 1 ≠ d1.twinId →
      exec (.twinHeartbeat p w ok) s = .next (s.after
        ((({ d1 with tw := { d1.tw with heard := true, misses := 0, broken := false, peer := w } }).mirrorSlots
          w).takeAck (field w 416 32) |>.pairStep w ok)))) ∧
  (∀ (d : Dev) (ack : Nat),
    (seqLe ack d.tw.seqTx = true → seqLe ack d.tw.ackRx = false → d.takeAck ack = ({ d with tw := { d.tw with
      ackRx := ack, unacked := d.tw.unacked.filter (fun m => !(seqLe m.seq ack)) } }).owe .mirrorAcked) ∧
    ((seqLe ack d.tw.seqTx = false ∨ seqLe ack d.tw.ackRx = true) → d.takeAck ack = d)) ∧
  (∀ (d d1 d2 : Dev) (w : Nat) (ok : Bool) (peer : Lease), peer = ⟨field w 64 32, field w 96 1, true⟩ →
    d1 = (if d.tw.primary && decide (primaryOf d.tw.lease peer ≠ d.twinId) then
      ((d.giveUpLease).latchTw 4).raise evTwLeaseLost 0 else d) →
    d2 = (if d1.tw.state = .probing ∨ d1.tw.state = .split ∨ d1.tw.state = .sole then d1.enterForming else d1) →
    (d2.tw.state = .alone → d.pairStep w ok = d2) ∧
    (∀ d3, d2.tw.state = .paired → d3 = d2.takeGiven w →
      (d3.tw.primary = false → d3.tw.lease.term < peer.term → peer.holder = d3.twinId → d.pairStep w ok =
        ({ d3.writeLease peer.term peer.holder ok with
          tw := { (d3.writeLease peer.term peer.holder ok).tw with primary := true } }).raise evTwHandover 0) ∧
      ((d3.tw.primary = true ∨ peer.term ≤ d3.tw.lease.term ∨ peer.holder ≠ d3.twinId) → d.pairStep w ok = d3)) ∧
    (∀ d3 d4 d5, d2.tw.state = .forming →
      d3 = (if d2.tw.lease.term = peer.term then d2.compareOwn (field w 320 32) (field w 352 4) (d2.twinId == 0) else d2) →
      d4 = (if d2.tw.compared then d2 else { d3 with tw := { d3.tw with compared := true } }) →
      d5 = (if d4.tw.formed || !d4.tw.issued then d4 else d4.form peer ok) →
      (d5.tw.formed = false → d.pairStep w ok = d5) ∧
      (∀ seq, d5.tw.formed = true → d5.tw.primary = true → d5.tw.resyncSeq = some seq →
        (seqLe seq d5.tw.ackRx = true → d.pairStep w ok =
          (({ d5 with tw := { d5.tw with resyncSeq := none } }).raise evTwResyncDone 0).enterPaired) ∧
        (seqLe seq d5.tw.ackRx = false → d.pairStep w ok = d5)) ∧
      (d5.tw.formed = true → d5.tw.primary = false → field w 8 3 = 2 → d.pairStep w ok = d5.enterPaired) ∧
      (d5.tw.formed = true → d5.tw.primary = false → field w 8 3 ≠ 2 → d.pairStep w ok = d5))) ∧
  (∀ (a b : Lease), primaryOf a b =
    (if b.term < a.term then a.holder else if a.term < b.term then b.holder else if a.holder = b.holder then a.holder else 0)) ∧
  (∀ (d d1 d2 d3 : Dev) (peer : Lease) (ok : Bool) (win term : Nat), win = primaryOf d.tw.lease peer →
    term = (if d.tw.lease.term = peer.term then d.tw.lease.term + 1 else max d.tw.lease.term peer.term) →
    d1 = (if !decide (win = d.twinId) && decide (d.tw.lease.term < peer.term) then d.allStandby else d) →
    d2 = (if d.tw.lease.valid && d.tw.lease.term == term && d.tw.lease.holder == win then d1 else d1.writeLease term win ok) →
    d3 = (({ d2 with tw := { d2.tw with
      primary := decide (win = d.twinId), formed := true, seqTx := 0, seqRx := 0, ackRx := 0, unacked := [], heldRecs := [],
      applied := [], undo := [], resync := [] } }).reforward).owe .mirrorAcked →
    (win = d.twinId → d.form peer ok = d3.sendResync) ∧ (win ≠ d.twinId → d.form peer ok = d3)) ∧
  (∀ (d : Dev),
    d.enterForming = { d.twTo .forming with tw := { (d.twTo .forming).tw with
      issued := false, compared := false, formed := false, resyncSeq := none, formSince := (d.twTo .forming).st.boundaries,
      answered := false } } ∧
    d.enterPaired = ({ d.twTo .paired with tw := { (d.twTo .paired).tw with selfFenced := false } }).raise evTwPaired 0 ∧
    (∀ t, d.tw.state ≠ t → d.twTo t = { d with tw := { d.tw with state := t, since := d.now, entered := d.st.boundaries } })) ∧
  (∀ (s : State) (d d1 d2 : Dev) (p w : Nat) (m : Mirror), s.begun = d → (d.lkPort p).state = .up → d1 = d.noteHeard p true →
    m = mirrorOf w →
    (d1.isTwin p = false → exec (.mirrorRecord p w) s = .next (s.after d1)) ∧
    (d1.isTwin p = true → m.seq ≠ (d1.tw.seqRx + 1) % 2 ^ 32 →
      exec (.mirrorRecord p w) s = .next (s.after (d1.raise evTwMirrorGap d1.twinPort))) ∧
    (d1.isTwin p = true → m.seq = (d1.tw.seqRx + 1) % 2 ^ 32 → d2 = { d1 with tw := { d1.tw with seqRx := m.seq } } →
      (m.kind = 8 → exec (.mirrorRecord p w) s = .next (s.after (d2.mirrorUndo (field m.payload 0 32)))) ∧
      (m.kind ≠ 8 → (d1.tw.state = .probing ∨ d1.now < m.tick) → exec (.mirrorRecord p w) s = .next (s.after
        { d2 with tw := { d2.tw with heldRecs := d2.tw.heldRecs ++ [m] } })) ∧
      (m.kind ≠ 8 → d1.tw.state ≠ .probing → m.tick ≤ d1.now → exec (.mirrorRecord p w) s = .next (s.after
        (d2.mirrorDo m))))) ∧
  (∀ (d : Dev) (m : Mirror),
    (m.kind = 1 → d.mirrorDo m = { d.applyChange m.payload with tw := { (d.applyChange m.payload).tw with
      applied := ((m.seq, d.undoChange m.payload) :: (d.applyChange m.payload).tw.applied).take 4096 } }) ∧
    (∀ r i v, m.kind = 2 → regAt .blk (0xE00000 + field m.payload 0 32) allRegs = some (r, i) →
      v = field m.payload 32 64 → d.mirrorDo m =
        d.take r i 0 false (d.keepS r i 0 (if r.name = .spSlotCtl ∧ flag v 1 then 0 else v))) ∧
    (m.kind = 3 → d.mirrorDo m = d.lockRecord m.payload) ∧
    (∀ tick cancel arm, m.kind = 4 → tick = field m.payload 0 48 → cancel = flag m.payload 62 → arm = flag m.payload 63 →
      (d.epochCode tick arm cancel = 0 → d.mirrorDo m = d.epochApply tick arm cancel) ∧
      (d.epochCode tick arm cancel ≠ 0 → d.mirrorDo m =
        ((d.latchTw 2).raise evTwMirrorRefused 0).mirror 7 4 0 (field m.seq 0 32))) ∧
    (m.kind = 5 → d.mirrorDo m = { d with tw := { d.tw with resync := d.tw.resync ++ [m.payload] } }) ∧
    (m.kind = 6 → m.len = 20 → d.mirrorDo m = d.lockTwinReq m.seq m.payload) ∧
    (m.kind = 6 → m.len = 24 → d.mirrorDo m = d.lockTwinRemote m.seq m.payload) ∧
    (m.kind = 6 → m.len ≠ 20 → m.len ≠ 24 → d.mirrorDo m = d.mhRequest (16 + m.seq) (field m.payload 0 256)) ∧
    (m.kind = 7 → m.len = 21 → flag m.payload 41 = false → d.mirrorDo m = (d.lockAnswered m.payload).lockTwinAnswer m.payload) ∧
    (m.kind = 7 → m.len = 21 → flag m.payload 41 = true → d.mirrorDo m = d.lockTwinAnswer m.payload) ∧
    (m.kind = 7 → m.len = 12 → d.mirrorDo m = d.mhAnswered (field m.payload 0 32) (field m.payload 32 64)) ∧
    (m.kind = 7 → m.len ≠ 21 → m.len ≠ 12 → d.mirrorDo m = (d.latchTw 2).raise evTwMirrorRefused 0)) ∧
  (∀ (d : Dev) (seq : Nat),
    (d.tw.heldRecs.any (fun m => m.seq == seq) = true → d.mirrorUndo seq =
      { d with tw := { d.tw with heldRecs := d.tw.heldRecs.filter (fun m => m.seq != seq) } }) ∧
    (d.tw.heldRecs.any (fun m => m.seq == seq) = false → d.tw.applied.any (fun a => a.1 == seq) = true →
      d.mirrorUndo seq = { d with tw := { d.tw with undo := d.tw.undo ++ [seq] } })) ∧
  (∀ (s : State) (d d1 : Dev) (p w : Nat), s.begun = d → (d.lkPort p).state = .up → d1 = d.noteHeard p true →
    (field w 64 18 = d1.node → flag w 8 = false → exec (.twinProbe p w) s = .next (s.after
      (d1.twinSend p 6 (probeBody true false true (field w 16 8) d1.node (field w 32 18) d1.tw.lease.term)))) ∧
    (field w 64 18 = d1.node → flag w 8 = true → d1.pairEn = true → field w 32 18 = d1.peerNode →
      (∀ d2 : Dev, d1.tw.state = .probing → d2 = (d1.twTo .split).raise evTwSplit 0 →
        (d2.tw.primary = true → exec (.twinProbe p w) s = .next (s.after (d2.owe .mirrorAcked))) ∧
        (d2.tw.primary = false → exec (.twinProbe p w) s = .next (s.after
          (({ d2 with tw := { d2.tw with heldRecs := [] } }).owe .mirrorAcked)))) ∧
      (d1.tw.state = .forming → exec (.twinProbe p w) s = .next (s.after
        { d1 with tw := { d1.tw with answered := true } })) ∧
      (d1.tw.state ≠ .probing → d1.tw.state ≠ .forming → exec (.twinProbe p w) s = .next (s.after d1))) ∧
    (∀ q, field w 64 18 ≠ d1.node → flag w 9 = false → d1.portTo (field w 64 18) = some q →
      exec (.twinProbe p w) s = .next (s.after ((d1.twinSend q 6 (setField w 9 1 1)).raise evTwRelayFwd q))) ∧
    (field w 64 18 ≠ d1.node → flag w 9 = false → d1.portTo (field w 64 18) = none →
      exec (.twinProbe p w) s = .next (s.after d1)) ∧
    (field w 64 18 ≠ d1.node → flag w 9 = true → exec (.twinProbe p w) s = .next (s.after d1)))

/-- R369, R375, R376, R378 to R381: the pair's own steps. The self-fence gives the lease up; four misses begin PROBING; an
expired wait, counted in local ticks, takes over; held records apply and unacknowledged changes are cancelled; TW_CMD is armed,
refused, and applied at its tick. That ALONE_WAIT counts local ticks is the model's reading (log entry 181). The readings of log
entries 124, 128, 129, 181 are the model's. -/
def Obligations.PairSteps : Prop :=
  (∀ (s : State) (d : Dev), s.begun = d → d.tw.selfFenced = false → 2 ≤ d.tw.silent →
    ((d.pairEn = true ∧ d.tw.state = .paired) ∨ d.tw.fenceOwed = true) →
    exec .selfFence s = .next (s.after
      (({ d.giveUpLease with tw := { d.giveUpLease.tw with selfFenced := true } }).raise evTwSelfFence 0))) ∧
  (∀ (d : Dev), d.giveUpLease = { d with
    sp := { d.sp with released := true }, tw := { d.tw with primary := false } }) ∧
  (∀ (s : State) (d : Dev), s.begun = d → d.tw.state = .paired → 4 ≤ d.tw.misses →
    exec .heartbeatMissLimit s = .next (s.after (((d.twTo .probing).raise evTwProbing 0).sendProbes))) ∧
  (∀ (d d1 : Dev) (seq : Nat), seq = (d.tw.probeSeq + 1) % 256 → d1 = { d with tw := { d.tw with probeSeq := seq } } →
    d.sendProbes = forEach d1.relayPorts (fun p (d : Dev) =>
      d.twinSend p 6 (probeBody false false false seq d.node d.peerNode d.tw.lease.term)) d1) ∧
  (∀ (s : State) (d : Dev) (ok : Bool), s.begun = d →
    (d.tw.state = .probing → d.probeWait ≤ d.waited d.tw.entered → exec (.probeWaitExpiry ok) s = .next (s.after (d.takeOver ok))) ∧
    (d.tw.state = .forming → d.aloneWait ≤ d.waited d.tw.formSince →
      (d.tw.answered = true → exec (.aloneWaitExpiry ok) s = .next (s.after
        { d with tw := { d.tw with formSince := d.st.boundaries, answered := false } })) ∧
      (d.tw.answered = false → exec (.aloneWaitExpiry ok) s = .next (s.after (d.takeOver ok))))) ∧
  (∀ (d d1 d2 d3 d4 : Dev) (ok : Bool),
    d1 = (if d.tw.primary then d
      else forEach (d.tw.heldRecs.filter (fun m => decide (m.tick ≤ d.now))) (fun m (d : Dev) => d.mirrorDo m) d) →
    d2 = { d1 with
      tw := { d1.tw with primary := true, heldRecs := d1.tw.heldRecs.filter (fun m => decide (d1.now < m.tick)) },
      cx := { d1.cx with work := d1.cx.work.filter (fun x => match x.phase with | .forwarded _ => false | _ => true) } } →
    d3 = (d2.twTo .sole).loseTwin.reforward →
    d4 = (({ d3 with sp := { d3.sp with released := false } }).adoptAll).raise evTwTakeover 0 →
    d.takeOver ok = (d4.writeLease (d4.tw.lease.term + 1) d4.twinId ok).owe .mirrorAcked) ∧
  (∀ (d : Dev) (term holder : Nat),
    d.writeLease term holder true = { d with tw := { d.tw with lease := ⟨term % 2 ^ 32, holder, true⟩ } } ∧
    d.writeLease term holder false = (d.latchTw 3).raise evTwTermCommitFail 0) ∧
  (∀ (s : State) (d : Dev) (seq : Nat) (m : Mirror), s.begun = d → firstThat d.tw.heldRecs (fun m => m.seq == seq) = some m →
    ((d.tw.state = .paired ∨ d.tw.state = .sole) → m.tick ≤ d.now → exec (.mirrorApply seq) s = .next (s.after
      (({ d with tw := { d.tw with heldRecs := removeFirst d.tw.heldRecs (fun m => m.seq == seq) } }).mirrorDo m))) ∧
    (d.tw.state ≠ .paired → d.tw.state ≠ .sole → exec (.mirrorApply seq) s = .next (s.after d))) ∧
  (∀ (s : State) (d d1 : Dev) (seq t : Nat) (x : MhWork), s.begun = d →
    firstThat d.cx.work (fun x => x.mirror == some seq) = some x → x.phase = .staged t →
    (t ≤ d.now + 1 → d.mirrorCovered seq = false →
      (mhOp x.raw = 1 ∧ d1 = d.setVppb (mhHost x.raw) (mhVppb x.raw) { since := d.now } ∨
        mhOp x.raw = 2 ∧ d1 = d.vppbUse (mhHost x.raw) (mhVppb x.raw) .bound ∨ 3 ≤ mhOp x.raw ∧ d1 = d) →
      exec (.mirrorCancel seq) s = .next (s.after
        (((d1.mhComplete x 3).raise evTwMirrorCancel 0).mirror 8 4 0 (field seq 0 32)))) ∧
    ((d.now + 1 < t ∨ d.mirrorCovered seq = true) → exec (.mirrorCancel seq) s = .next (s.after d))) ∧
  (∀ (s : State) (d : Dev) (v : Nat), s.begun = d → 9 ≤ d.bt.phase → v < 2 ^ 64 →
    ((d.tw.state ≠ .paired ∨ d.tw.primary = false) → exec (.giveBack v) s = .next (s.after (d.emit .applyRefused)) ∧
      exec (.handover v) s = .next (s.after (d.emit .applyRefused))) ∧
    (d.tw.state = .paired → d.tw.primary = true → (flag v 62 = true ∨ flag v 63 = true) → field v 0 48 < d.now + 2 →
      exec (.giveBack v) s = .next (s.after ((d.emit .tickPast).emit .applyRefused)) ∧
      exec (.handover v) s = .next (s.after ((d.emit .tickPast).emit .applyRefused))) ∧
    (d.tw.state = .paired → d.tw.primary = true → flag v 62 = false → flag v 63 = false →
      exec (.giveBack v) s = .next (s.after (d.wr rTwCmd (field (field v 0 48) 0 48))) ∧
      exec (.handover v) s = .next (s.after (d.wr rTwCmd (field (field v 0 48) 0 48)))) ∧
    (d.tw.state = .paired → d.tw.primary = true → d.now + 2 ≤ field v 0 48 →
      (flag v 62 = true → exec (.giveBack v) s = .next (s.after
        { d.wr rTwCmd (field (field v 0 48) 0 48) with
          tw := { d.tw with armed := some (field v 0 48, true, flag v 63) } })) ∧
      (flag v 63 = true → exec (.handover v) s = .next (s.after
        { d.wr rTwCmd (field (field v 0 48) 0 48) with
          tw := { d.tw with armed := some (field v 0 48, flag v 62, true) } })))) ∧
  (∀ (s : State) (d d1 : Dev) (tick : Nat) (ok : Bool), s.begun = d → tick ≤ d.now →
    d1 = { d with tw := { d.tw with armed := none } } →
    (∀ give hand, (d.tw.state ≠ .paired ∨ d.tw.primary = false) → d.tw.armed = some (tick, give, hand) →
      exec (.twinCmdApply ok) s = .next (s.after d1)) ∧
    (d.tw.state = .paired → d.tw.primary = true → d.tw.armed = some (tick, true, false) →
      exec (.twinCmdApply ok) s = .next (s.after d1.giveBack)) ∧
    (∀ give d2 d3, d.tw.state = .paired → d.tw.primary = true → d.tw.armed = some (tick, give, true) →
      d2 = (if give then d1.giveBack else d1) → d3 = d2.writeLease (d2.tw.lease.term + 1) (1 - d2.twinId) ok →
      exec (.twinCmdApply ok) s = .next (s.after
        (({ d3 with tw := { d3.tw with primary := false } }).raise evTwHandover 0)))) ∧
  (∀ (d d1 : Dev), d1 = forEach ((upFrom 0 32).filter (fun k => !(d.ownsSlot k))) (fun k d => d.slotStandby k) d →
    d.giveBack = forEach ((upFrom 0 4).filter (fun g => !(d1.ownsGroup g))) (fun g d => d.groupStandby g) d1)

/-! ### ls -/

/-- R383 to R387, R389, R391, R393, R394: a lock request. A fenced group and a party that is not admitted are told so. ACQUIRE
of a free lock holds it, of a taken one waits, or is told so, or meets a full table; RELEASE by its holder frees it for the head
waiter; RENEW and CANCEL act on the party's own place; everything else is answered with its status and changes nothing but what
it reports. The readings of log entries 79, 80, 202 are the model's. -/
def Obligations.LockRequests : Prop :=
  (∀ (d : Dev) (k : Nat) (p : Party) (tc : Nat) (c : LockCell), d.lock k = c →
    (∀ op, flag d.ls.fenced (lockGroup k) = true → d.lockServe k p tc op = (stLockFenced, false, d)) ∧
    (∀ op, flag d.ls.fenced (lockGroup k) = false → d.lockAdmits (lockGroup k) p = false →
      d.lockServe k p tc op = (stDenied, false, (d.latchLs k 1 p).raise evLsAccessDenied (lockGroup k))) ∧
    (flag d.ls.fenced (lockGroup k) = false → d.lockAdmits (lockGroup k) p = true →
      (∀ t cookie, (c.holder = some p ∨ c.waiters.any (fun w => decide (w.who = p)) = true) →
        d.lockServe k p tc (.acquire t cookie) = (stOwned, false, d)) ∧
      (∀ t cookie, c.use = .free → c.waiters = [] → c.holder ≠ some p → d.lockServe k p tc (.acquire t cookie) =
        (stOk, c.abandonNext, (d.setLock k { c with
          use := .held, holder := some p, lease := d.now, abandonNext := false, abandoned := c.abandonNext }).mirrorLock k
            mlGrant p)) ∧
      (∀ cookie, (c.use ≠ .free ∨ c.waiters ≠ []) → c.holder ≠ some p → c.waiters.any (fun w => decide (w.who = p)) = false →
        d.lockServe k p tc (.acquire true cookie) = (stTaken, false, d) ∧
        (16384 ≤ d.lockWaiters → d.lockServe k p tc (.acquire false cookie) =
          (stWaitersFull, false, d.raise evLsWaitersFull (lockGroup k))) ∧
        (∀ d1, d.lockWaiters < 16384 →
          d1 = (d.setLock k { c with waiters := c.waiters ++ [⟨p, cookie, tc⟩] }).mirrorLock k mlEnqueue p →
          (c.waiters.length + 1 ≤ d1.queueWarn → d.lockServe k p tc (.acquire false cookie) = (stQueued, false, d1)) ∧
          (d1.queueWarn < c.waiters.length + 1 → d.lockServe k p tc (.acquire false cookie) =
            (stQueued, false, d1.raise evLsQueueLong (lockGroup k))))) ∧
      (c.holder = some p → d.lockServe k p tc .release = (stOk, false, (d.mirrorLock k mlRelease p).freeLock k false)) ∧
      (c.holder ≠ some p → d.lockServe k p tc .release = (stNotHolder, false, d.raise evLsNotHolder (lockGroup k))) ∧
      (c.holder = some p → p.cls = .remote → d.lockServe k p tc .renew =
        (stOk, false, (d.setLock k { c with lease := d.now }).mirrorLock k mlRenew p)) ∧
      (c.holder = some p → p.cls ≠ .remote → d.lockServe k p tc .renew = (stOk, false, d.mirrorLock k mlRenew p)) ∧
      (c.holder ≠ some p → d.lockServe k p tc .renew = (stNotHolder, false, d.raise evLsNotHolder (lockGroup k))) ∧
      (c.waiters.any (fun w => decide (w.who = p)) = true → d.lockServe k p tc .cancel =
        (stOk, false, (d.setLock k { c with waiters := removeFirst c.waiters (fun w => decide (w.who = p)) }).mirrorLock k
          mlCancel p)) ∧
      (c.waiters.any (fun w => decide (w.who = p)) = false → d.lockServe k p tc .cancel =
        (stLockCancelMiss, false, d.raise evLsCancelMiss (lockGroup k))))) ∧
  (∀ (d : Dev) (k : Nat) (abandoned : Bool) (c : LockCell), d.lock k = c →
    (c.waiters = [] → d.freeLock k abandoned = d.setLock k { abandonNext := abandoned, abandoned := c.abandoned }) ∧
    (∀ w rest d1 g, c.waiters = w :: rest → d1 = d.mirrorLock k mlGrant w.who →
      g = (if w.who.cls = .remote then LockUse.granting else LockUse.held) →
      ((d1.mirroring && d1.tw.primary) = false → d.freeLock k abandoned =
        (d1.setLock k { use := g, holder := some w.who, lease := d1.now, abandoned := abandoned, waiters := rest }).sendGrant k w
          abandoned) ∧
      ((d1.mirroring && d1.tw.primary) = true → d.freeLock k abandoned =
        d1.setLock k { use := g, holder := some w.who, lease := d1.now, abandoned := abandoned, waiters := rest,
                       grantWait := some (d1.tw.seqTx, d1.now, false, w, abandoned) }))) ∧
  (∀ (d : Dev) (k : Nat) (w : Waiter) (ab : Bool),
    (w.who.cls = .host → w.who.ofTwin = false → d.sendGrant k w ab =
      d.postEvent w.who.ep (lockGrantWords k w.cookie d.node d.now ab false)
        ((d.ep w.who.ep).elim false (fun c => c.irqEn)) false) ∧
    (w.who.cls = .host → w.who.ofTwin = true → d.sendGrant k w ab = d.answerTwin 0 stOk k w.cookie ab true w.who) ∧
    (w.who.cls = .remote → d.sendGrant k w ab = d.addMsg
      { num := 0, owner := .lockGrant k w.cookie, type := tyLsGrant, srcEp := 0, dstNode := w.who.node,
        dstEp := w.who.ep, tc := w.tc, len := 16, addr := 0, key := 0,
        inline_ := toBytes 1 (bit ab) ++ toBytes 1 0 ++ toBytes 2 k ++ toBytes 4 w.cookie ++ toBytes 8 d.now })) ∧
  (∀ (d : Dev) (k op : Nat) (p : Party),
    ((d.mirroring && d.tw.primary) = true → d.mirrorLock k op p =
      d.mirror 3 12 0 (lockPayload k op p)) ∧
    lockPayload k op p = pack [(16, k), (8, op), (8, p.cls.code), (32, p.node), (16, p.ep), (1, bit p.ofTwin)] ∧
    ((d.mirroring && d.tw.primary) = false → d.mirrorLock k op p = d))

/-- R385, R388, R389, R392, R393, R396: locks across nodes and locks lost. A bad payload is reported and dropped; a remote
request is served and its status acknowledged; a grant posts LOCK_GRANT, and its end holds the lock or loses the waiter; a party
that is lost gives up its locks and its places, which a standby tells the primary; a lapsed lease and FORCE_RELEASE abandon the
lock; a late acknowledgement of the twin is reported. That LS_CTL's refusal names instance 0, and how the twins lay out
forwarded requests and lost parties, are the model's (R401, log entries 132 and 210). The readings of log entries 56, 79, 203,
204 are the model's. -/
def Obligations.LocksAcrossNodes : Prop :=
  (∀ (s : State) (d d1 : Dev) (p : Packet), s.begun = d → p.crcOk = true → requestOk p = true → lockBad p = true →
    d1 = (d.latchLs (field (ofBytes p.payload) 16 12) 2 ⟨.remote, hSrcNode p.hdr, hSrcEp p.hdr, false⟩).raise evLsLockMalformed
        (lockGroup (field (ofBytes p.payload) 16 12)) →
    (hType p.hdr = tyLsReq → exec (.lsReq p) s = .next (s.after d1)) ∧
    (hType p.hdr = tyLsGrant → exec (.lsGrant p) s = .next (s.after d1))) ∧
  (∀ (s : State) (d d1 : Dev) (p : Packet) (op : LockOp) (r r' : TgtRec) (status : Nat) (ab : Bool), s.begun = d →
    p.crcOk = true → requestOk p = true → hType p.hdr = tyLsReq → lockReqOp (ofBytes p.payload) = some op →
    d.tp.service.isSome = true → d.ageOf (hFst p.hdr) ≤ d.ageLimit → d.recFor p.hdr = none → hOffset p.hdr = 0 →
    hPayLen p.hdr = hMsgLen p.hdr → d.early p.hdr = false → d.prevOk p.hdr = true → d.recFree = true → d.mirrorFull = false →
    r = d.newRec p.hdr p.tc → r' = { r with bitmap := 1, baton := hMsgLen p.hdr, firstDone := true } →
    (((d.putRec r).putRec r').runsLocks = true →
      ((d.putRec r).putRec r').lockServe (field (ofBytes p.payload) 16 12) ⟨.remote, r.srcNode, r.srcEp, false⟩ r.tc op =
        (status, ab, d1) →
      exec (.lsReq p) s = .next (s.after (d1.endRec r' p status 0))) ∧
    (((d.putRec r).putRec r').runsLocks = false →
      exec (.lsReq p) s = .next (s.after (((d.putRec r).putRec r').lockAsk r' p)))) ∧
  (∀ (d d1 : Dev) (r : TgtRec) (p : Packet),
    (d.ls.asked.any (fun x => hSrcNode x.2.hdr == r.srcNode && hMsgId x.2.hdr == r.msgId && hFst x.2.hdr == r.fst) = true →
      d.lockAsk r p = d) ∧
    (d.ls.asked.any (fun x => hSrcNode x.2.hdr == r.srcNode && hMsgId x.2.hdr == r.msgId && hFst x.2.hdr == r.fst) = false →
      d1 = d.mirror 6 24 0 (pack [(128, ofBytes p.payload), (32, r.srcNode), (16, r.srcEp), (8, r.tc)]) →
      d.lockAsk r p = ({ d1 with ls := { d1.ls with asked := d1.ls.asked ++ [(d1.tw.seqTx, p)] } }).raise evLsForwarded
        (lockGroup (field (ofBytes p.payload) 16 12)))) ∧
  (∀ (d d1 : Dev) (w seq : Nat) (p : Packet) (r : TgtRec), firstThat d.ls.asked (fun x => x.1 == field w 0 32) = some (seq, p) →
    d1 = { d with ls := { d.ls with asked := d.ls.asked.filter (fun x => x.1 != seq) } } →
    d1.recFor p.hdr = some r → r.state = .inProgress → d.lockAnswered w = d1.endRec r p (field w 32 8) 0) ∧
  (∀ (s : State) (d d1 d2 d3 : Dev) (p : Packet) (c : EpCtx) (r r' : TgtRec) (w : Nat), s.begun = d → p.crcOk = true →
    requestOk p = true → hType p.hdr = tyLsGrant → lockGrantOk (ofBytes p.payload) = true → d.tp.service.isSome = true →
    d.ageOf (hFst p.hdr) ≤ d.ageLimit → d.recFor p.hdr = none → hOffset p.hdr = 0 → hPayLen p.hdr = hMsgLen p.hdr →
    d.ep (hDstEp p.hdr) = some c → c.onDie = true → d1 = d.touch (hDstEp p.hdr) → d1.epServes p.hdr = true →
    d1.early p.hdr = false → d1.prevOk p.hdr = true → d1.recFree = true → d1.reserve (hDstEp p.hdr) = some d2 →
    r = { d1.newRec p.hdr p.tc with rsv := true } → r' = { r with bitmap := 1, baton := hMsgLen p.hdr, firstDone := true } →
    d3 = (d2.putRec r).putRec r' → w = ofBytes p.payload →
    exec (.lsGrant p) s = .next (s.after
      ((d3.postEvent r.dstEp (lockGrantWords (field w 16 16) (field w 32 32) r.srcNode (field w 64 48) (flag w 0) true)
        ((d3.ep r.dstEp).elim false (fun c => c.irqEn)) true).endRec r' p stOk 0))) ∧
  (∀ (d : Dev) (k status : Nat) (m : Msg) (p : Party), p = Party.mk .remote m.dstNode m.dstEp false → (d.lock k).use = .granting →
    (d.lock k).holder = some p →
    (status = stOk → d.lockGrantEnd k m status = d.setLock k { d.lock k with use := .held }) ∧
    (status ≠ stOk → d.lockGrantEnd k m status =
      (((d.latchLs k 4 p).raise evLsGrantUndelivered (lockGroup k)).mirrorLock k mlAbandon p).freeLock k true)) ∧
  (∀ (d d1 : Dev) (k cause : Nat) (gone : Party → Bool), d1 = forEach ((d.lock k).waiters.filter (fun w => gone w.who))
        (fun (w : Waiter) d => d.mirrorLock k mlCancel w.who)
        ((d.setLock k { d.lock k with waiters := (d.lock k).waiters.filter (fun w => !(gone w.who)) }).raise cause
          (lockGroup k)) →
    (∀ p, (d.lock k).holder = some p → gone p = true → Dev.loseLock gone cause k d =
      ((d1.raise evLsLockAbandoned (lockGroup k)).mirrorLock k mlAbandon p).freeLock k true) ∧
    (((d.lock k).holder = none ∨ ∃ p, (d.lock k).holder = some p ∧ gone p = false) →
      ((d.lock k).waiters.any (fun w => gone w.who) = true → Dev.loseLock gone cause k d = d1) ∧
      ((d.lock k).waiters.any (fun w => gone w.who) = false → Dev.loseLock gone cause k d = d))) ∧
  (∀ (s : State) (d : Dev) (k : Nat) (p : Party), s.begun = d → (d.lock k).holder = some p → d.runsLocks = true →
    d.leaseDue (d.lock k) = true → d.leaseFirst (d.lock k) = true → d.quotaLeft actLease = true →
    exec (.leaseLapse k) s = .next (s.after
      (((((((d.useQuota actLease).latchLs k 3 p).raise evLsLeaseLapse (lockGroup k)).raise evLsLockAbandoned
        (lockGroup k)).dropWaits p).mirrorLock k mlAbandon p).freeLock k true))) ∧
  (∀ (d : Dev) (p : Party), d.dropWaits p = forEach (Tbl.keys d.ls.locks) (fun k (d : Dev) =>
    if (d.lock k).waiters.any (fun w => decide (w.who = p)) then
      (d.setLock k { d.lock k with waiters := (d.lock k).waiters.filter (fun w => decide (w.who ≠ p)) }).mirrorLock k mlCancel p
    else d) d) ∧
  (∀ (d : Dev) (c : LockCell), (d.leaseDue c = true ↔ ∃ p, c.holder = some p ∧ p.cls = .remote ∧
    max 16 (d.fld rLsLease 0 24) + (if d.st.conserv then 16 else 0) ≤ d.since c.lease)) ∧
  (∀ (s : State) (d : Dev) (v k : Nat), s.begun = d → 9 ≤ d.bt.phase → v < 2 ^ 32 → k = d.fld rLsLockSel 0 12 →
    (flag v 0 = false → exec (.forceRelease v) s = .next (s.after d)) ∧
    (flag v 0 = true → (d.lock k).use = .free → exec (.forceRelease v) s = .next (s.after
      ((d.raise evLsConfigRefused 0).emit .applyRefused))) ∧
    (∀ p d1, flag v 0 = true → (d.lock k).use ≠ .free → (d.lock k).holder = some p → d1 = d.raise evLsForceRelease (lockGroup k) →
      (d1.runsLocks = true → exec (.forceRelease v) s = .next (s.after
        ((((d1.raise evLsLockAbandoned (lockGroup k)).dropWaits p).mirrorLock k mlAbandon p).freeLock k true))) ∧
      (d1.runsLocks = false → exec (.forceRelease v) s = .next (s.after (d1.mirror 3 12 0 (lockPayload k mlAbandon p)))))) ∧
  (∀ (s : State) (d : Dev) (k seq t : Nat) (w : Waiter) (ab : Bool), s.begun = d →
    (d.lock k).grantWait = some (seq, t, false, w, ab) → d.mirrorCovered seq = false → 1 < d.since t →
    exec (.mirrorWait k) s = .next (s.after
      ((d.setLock k { d.lock k with grantWait := some (seq, t, true, w, ab) }).raise evLsMirrorWait (lockGroup k)))) ∧
  (∀ (d : Dev) (k seq t : Nat) (raised : Bool) (w : Waiter) (ab : Bool), (d.lock k).grantWait = some (seq, t, raised, w, ab) →
    (d.mirrorCovered seq = true → d.releaseGrant k = (d.setLock k { d.lock k with grantWait := none }).sendGrant k w ab) ∧
    (d.mirrorCovered seq = false → d.releaseGrant k = d)) ∧
  (∀ (d d1 : Dev) (seq w status : Nat) (op : LockOp) (ab : Bool) (p : Party), lockReqOp (field w 0 128) = some op →
    (p = ⟨.host, field w 128 8, field w 144 16, true⟩ → d.lockServe (field w 16 12) p (field w 136 8) op = (status, ab, d1) →
      d.lockTwinReq seq w = d1.answerTwin seq status (field w 16 12) (field w 32 32) ab false p) ∧
    (p = ⟨.remote, field w 128 32, field w 160 16, false⟩ → d.lockServe (field w 16 12) p (field w 176 8) op = (status, ab, d1) →
      d.lockTwinRemote seq w = d1.answerTwin seq status (field w 16 12) (field w 32 32) ab false p)) ∧
  (∀ (d : Dev) (gone : Party → Bool) (cause : Nat),
    (d.runsLocks = true → d.loseParties gone cause = forEach (Tbl.keys d.ls.locks) (Dev.loseLock gone cause) d) ∧
    (d.runsLocks = false → d.loseParties gone cause = forEach (Tbl.keys d.ls.locks) (Dev.tellLost gone) d)) ∧
  (∀ (d : Dev) (w : Nat), d.runsLocks = true → d.lockRecord w =
    Dev.loseLock (fun x => decide (x = mirrorParty w)) evLsHolderLost (field w 0 16 % 4096) d)

/-! ### pd -/

/-- R429, R431 to R435, R439: power domains. Software votes are written, a withdrawal during a transfer waits; an idle domain
enters its floor and, unless a vote came late, rests there; a wake ends ON, is measured and checked, and a storm of wakes is
reported; faults latch and raise, and PD_PARITY holds the domain on. The reading of log entry 111 is the model's. -/
def Obligations.DomainsSleepAndWake : Prop :=
  (∀ (s : State) (d d1 : Dev) (v : Nat), s.begun = d → 9 ≤ d.bt.phase → v < 2 ^ 32 → d1 = d.wr rPdVote (field v 0 11) →
    exec (.pdVote v) s = .next (s.after
      (forEach (upFrom 0 11) (fun k (e : Dev) =>
        if flag v k then e.setDom k { e.dom k with swHeld := false }
        else if flag (d.rd rPdVote) k && e.transfers k then e.setDom k { e.dom k with swHeld := true }
        else e) d1))) ∧
  (∀ (s : State) (d : Dev) (k : Nat) (x : PdDom), s.begun = d → d.dom k = x →
    (x.use = .on → x.idle = true → d.domWanted k = false → exec (.domainIdleExpiry k) s = .next (s.after
      (d.setDom k { x with use := .entering (d.domFloor k), idle := false, late := false }))) ∧
    (∀ f, x.use = .entering f →
      (x.late = false → f = 1 → exec (.domainEntryDone k) s = .next (s.after
        ((d.setDom k { x with use := .gated, late := false }).raise evPdDomEnter 0))) ∧
      (x.late = false → f ≠ 1 → exec (.domainEntryDone k) s = .next (s.after
        ((d.setDom k { x with use := .retain, late := false }).raise evPdDomEnter 0))) ∧
      (x.late = true → exec (.domainEntryDone k) s = .next (s.after
        ((d.setDom k { x with use := .waking f, late := false }).raise evPdDomEnter 0)))) ∧
    (∀ f ns good recent d1 d2 d3, x.use = .waking f →
      recent = (d.st.boundaries :: x.recent).filter (fun t => decide (d.waited t * d.period < 1024000)) →
      d1 = ((d.setDom k { x with
        use := .on, idle := false, wakes := if f = 2 then satInc (2 ^ 32 - 1) x.wakes else x.wakes,
        recent := if 64 < recent.length then [] else recent }).wr rPdWakeLast (min ns (2 ^ 32 - 1))).raise evPdDomWake 0 →
      (good = false ∧ f = 2 → d2 = (d1.latchPd k 1).raise evPdRetainLost 0) → (good = true ∨ f ≠ 2 → d2 = d1) →
      (3 * wakeDelay k f < 2 * ns → d3 = (d2.latchPd k 2).raise evPdWakeSlow 0) → (2 * ns ≤ 3 * wakeDelay k f → d3 = d2) →
      (64 < recent.length → exec (.domWake k ns good) s = .next (s.after (d3.raise evPdWakeStorm 0))) ∧
      (recent.length ≤ 64 → exec (.domWake k ns good) s = .next (s.after d3))) ∧
    (x.use ≠ .on ∨ x.idle = false ∨ d.domWanted k = true → exec (.domainIdleExpiry k) s = .next (s.after d)) ∧
    ((x.use = .on ∨ x.use = .gated ∨ x.use = .retain) → exec (.domainEntryDone k) s = .next (s.after d) ∧
      (∀ ns good, exec (.domWake k ns good) s = .next (s.after d)) ∧ exec (.domStuck k) s = .next (s.after d)) ∧
    (d.domHeld k = true → exec (.holdLong k) s = .next (s.after (d.raise evPdHoldLong 0))) ∧
    (d.domHeld k = false → exec (.holdLong k) s = .next (s.after d)) ∧
    (∀ f, (x.use = .entering f ∨ x.use = .waking f) → exec (.domStuck k) s = .next (s.after (d.raise evPdDomStuck 0))) ∧
    exec (.biasFault k) s = .next (s.after ((d.latchPd k 3).raise evPdBiasFault 0)) ∧
    exec (.assistFault k) s = .next (s.after ((d.latchPd k 4).raise evPdAssistFault 0)) ∧
    exec (.railUv k) s = .next (s.after ((d.latchPd k 5).raise evPdRailUv 0)) ∧
    exec (.pdParity k) s = .next (s.after (((d.setDom k { x with stuckOn := true }).latchPd k 6).raise evPdPdParity 0)))

/-! ### se -/

/-- R443, R446 to R450, R454: the security commands. A challenge returns a fresh nonce; a report and the certificate are
returned; a statement that fails a check is refused before its signature is looked at; one that is signed as its transition asks
begins the sparge, rotates the owner key, or opens debug; anything else is refused. The readings of log entries 18, 19, 26, 155,
156, 157, 158 are the model's. -/
def Obligations.SecurityCommands : Prop :=
  (∀ (s : State) (bytes : List Byte) (f : EbFrame) (c : Chip), s.takesFrame bytes 0x30 f c → f.takes 0 = true →
    exec (.seChallenge bytes) s = .next (s.afterChip
      (Chip.reply { c with dev := { c.dev with
        free := c.dev.free + 1,
        se := { c.dev.se with nonce := some (Config.nonce c.dev.free % 2 ^ 256, c.dev.now) } } } f ebOk
        (toBytes 32 (Config.nonce c.dev.free % 2 ^ 256))))) ∧
  (∀ (s : State) (bytes : List Byte) (f : EbFrame) (c : Chip), s.takesFrame bytes 0x31 f c → f.takes 32 = true →
    (c.dev.se.idReady = false → exec (.attest bytes) s = .next (s.afterChip (c.reply f ebNoIdentity []))) ∧
    (c.dev.se.idReady = true → exec (.attest bytes) s = .next (s.afterChip
      ((c.map (fun d => ({ d with se := { d.se with attests := satInc (2 ^ 32 - 1) d.se.attests } }).raise evSeAttest 0)).reply f
        ebOk (c.report (f.num 0 32)))))) ∧
  (∀ (s : State) (bytes : List Byte) (f : EbFrame) (c : Chip), s.takesFrame bytes 0x32 f c → f.takes 0 = true →
    exec (.certRead bytes) s = .next (s.afterChip (c.reply f ebOk (toBytes 112 c.nv.cert)))) ∧
  (∀ (s : State) (bytes : List Byte) (f : EbFrame) (c : Chip),
    (s.takesFrame bytes 0x30 f c → f.takes 0 = false → exec (.seChallenge bytes) s = .next (s.afterChip (c.reply f ebLength []))) ∧
    (s.takesFrame bytes 0x31 f c → f.takes 32 = false → exec (.attest bytes) s = .next (s.afterChip (c.reply f ebLength []))) ∧
    (s.takesFrame bytes 0x32 f c → f.takes 0 = false → exec (.certRead bytes) s = .next (s.afterChip (c.reply f ebLength []))) ∧
    (s.takesFrame bytes 0x33 f c → f.takes 32 = false → exec (.lcEnroll bytes) s = .next (s.afterChip (c.reply f ebLength []))) ∧
    (s.takesFrame bytes 0x34 f c → f.takes 160 = false →
      exec (.lcToMission bytes) s = .next (s.afterChip (c.reply f ebLength [])))) ∧
  (∀ (s : State) (bytes : List Byte) (f : EbFrame) (c : Chip), s.takesFrame bytes 0x33 f c → f.takes 32 = true →
    (c.dev.se.sparge = none → c.dev.se.life = 0 → exec (.lcEnroll bytes) s = .next (s.afterChip
      ((c.map (fun d => { d with se := { d.se with sparge := some (.transition 1 (some (keyDigest (f.num 0 32)))) } })).reply f
        ebOk []))) ∧
    (c.dev.se.sparge = none → c.dev.se.life ≠ 0 → exec (.lcEnroll bytes) s = .next (s.afterChip
      (((c.violationBy 5).map (fun d => d.raise evSeLcRefused 0)).reply f ebRefused []))) ∧
    (c.dev.se.sparge.isSome = true → exec (.lcEnroll bytes) s = .next (s.afterChip
      ((c.map (fun d => d.raise evSeLcRefused 0)).reply f ebBusy [])))) ∧
  (∀ (s : State) (bytes : List Byte) (f : EbFrame) (c c1 : Chip) (st : Nat), s.takesFrame bytes 0x34 f c → f.takes 160 = true →
    c.statement (f.num 0 96) (f.num 96 64) = (st, c1) →
    exec (.lcToMission bytes) s = .next (s.afterChip (c1.reply f st [])) ∧
    exec (.lcToReturn bytes) s = .next (s.afterChip (c1.reply f st [])) ∧
    exec (.lcToScrapped bytes) s = .next (s.afterChip (c1.reply f st [])) ∧
    exec (.ownerRotate bytes) s = .next (s.afterChip (c1.reply f st [])) ∧
    exec (.debugUnlock bytes) s = .next (s.afterChip (c1.reply f st []))) ∧
  (∀ (c c1 : Chip) (w sig : Nat), c.statementStatus w = ebOk →
    c1 = { c with dev := { c.dev with se := { c.dev.se with nonce := none } } } →
    (∀ who, stCmd w ≠ 4 → stCmd w ≠ 5 → lcSigner c.dev.se.life (stCmd w) = some who →
      (c.nv.fuses.signed who (toBytes 96 w) sig = true → c.statement w sig =
        (ebOk, c1.map (fun d => d.startSparge (.transition (stCmd w + 1) none)))) ∧
      (c.nv.fuses.signed who (toBytes 96 w) sig = false → c.statement w sig =
        (ebRefused, (c1.violationBy 5).map (fun d => d.raise evSeLcRefused 0)))) ∧
    (stCmd w ≠ 4 → stCmd w ≠ 5 → lcSigner c.dev.se.life (stCmd w) = none → c.statement w sig =
      (ebRefused, (c1.violationBy 5).map (fun d => d.raise evSeLcRefused 0))) ∧
    (stCmd w = 4 → c.nv.fuses.signed .owner (toBytes 96 w) sig = false → c.statement w sig =
      (ebRefused, (c1.violationBy 5).map (fun d => d.raise evSeLcRefused 0))) ∧
    (stCmd w = 4 → c.nv.fuses.signed .owner (toBytes 96 w) sig = true → c.nv.fuses.freeOwner = none →
      c.statement w sig = (ebExhausted, c1)) ∧
    (stCmd w = 5 → debugSigner c.dev.se.life = none → c.statement w sig =
      (ebRefused, c1.map (fun d => d.raise evSeLcRefused 0)))) ∧
  (∀ (s : State) (bytes : List Byte) (f : EbFrame) (c c1 : Chip) (w sig st : Nat), s.takesFrame bytes 0x34 f c →
    f.takes 160 = true → w = f.num 0 96 → sig = f.num 96 64 →
    (c.statementStatus w = st → st ≠ ebOk →
      exec (.lcToMission bytes) s = .next (s.afterChip ((c.map (fun d => d.raise evSeLcRefused 0)).reply f st [])) ∧
      exec (.debugUnlock bytes) s = .next (s.afterChip ((c.map (fun d => d.raise evSeLcRefused 0)).reply f st []))) ∧
    (c.statementStatus w = ebOk → c1 = { c with dev := { c.dev with se := { c.dev.se with nonce := none } } } →
      (∀ who, lcSigner c.dev.se.life (stCmd w) = some who → c.nv.fuses.signed who (toBytes 96 w) sig = true →
        (stCmd w = 1 → exec (.lcToMission bytes) s = .next (s.afterChip
          ((c1.map (fun d => d.startSparge (.transition 2 none))).reply f ebOk []))) ∧
        (stCmd w = 2 → exec (.lcToReturn bytes) s = .next (s.afterChip
          ((c1.map (fun d => d.startSparge (.transition 3 none))).reply f ebOk []))) ∧
        (stCmd w = 3 → exec (.lcToScrapped bytes) s = .next (s.afterChip
          ((c1.map (fun d => d.startSparge (.transition 4 none))).reply f ebOk [])))) ∧
      (lcSigner c.dev.se.life (stCmd w) = none → stCmd w = 1 → exec (.lcToMission bytes) s = .next (s.afterChip
        (((c1.violationBy 5).map (fun d => d.raise evSeLcRefused 0)).reply f ebRefused []))) ∧
      (∀ slot old, stCmd w = 4 → c.nv.fuses.signed .owner (toBytes 96 w) sig = true → c.nv.fuses.freeOwner = some slot →
        c.nv.fuses.activeOwner = some old → ∀ g : Fuses, g = c.nv.fuses.burnOwner slot (keyDigest (stArg w)) →
        exec (.ownerRotate bytes) s = .next (s.afterChip (Chip.reply
          { dev := c1.dev.raise evSeOwnerRotate 0,
            nv := { c1.nv with fuses := { g with ownerRevoked := g.ownerRevoked ||| 2 ^ old } } } f ebOk []))) ∧
      (∀ who, stCmd w = 5 → debugSigner c.dev.se.life = some who →
        (c.nv.fuses.signed who (toBytes 96 w) sig = true → exec (.debugUnlock bytes) s = .next (s.afterChip
          ((c1.map (fun d => ({ d with se := { d.se with unlock := some ⟨stScope w, d.now, 1024 * stDuration w⟩ } }).raise
            evSeDebugUnlock 0)).reply f ebOk []))) ∧
        (c.nv.fuses.signed who (toBytes 96 w) sig = false → exec (.debugUnlock bytes) s = .next (s.afterChip
          (((c1.violationBy 4).map (fun d => d.raise evSeDebugDenied 0)).reply f ebRefused [])))))) ∧
  (∀ (s : State) (c : Chip) (why : SpargeFor), s.begunChip = c → c.dev.se.sparge = some why →
    exec (.spargeDone false) s = .next (s.afterChip (c.spargeAgain why)) ∧
    exec (.spargeDone true) s = .next (s.afterChip (c.spargeClean why)) ∧
    (∀ state owner, why = .transition state owner → c.spargeClean why =
      (((Chip.mk (({ c.dev with se := { c.dev.se with sparge := none, kiln := [] } }).raise evSeSpargeDone 0)
        c.nv).burnTransition state owner).map (fun d => d.warmStart)).map (fun d => d.resetDue)) ∧
    (∀ tag, why = .command tag → c.spargeClean why =
      ((Chip.mk (({ c.dev with se := { c.dev.se with sparge := none, kiln := [] } }).raise evSeSpargeDone 0) c.nv).map
        (fun d => d.ebAnswer (fun w => w.opcode == 5 && w.tag == tag) true ebOk (toBytes 1 0))).map (fun d => d.resetDue)) ∧
    ((why = .alarm ∨ why = .repair) → c.spargeClean why =
      (Chip.mk (({ c.dev with se := { c.dev.se with sparge := none, kiln := [] } }).raise evSeSpargeDone 0) c.nv).map
        (fun d => d.resetDue)) ∧
    (∀ tag d1, why = .command tag → d1 = ((c.dev.latchSe 7).raise evSeSpargeFail 0).ebAnswer
        (fun w => w.opcode == 5 && w.tag == tag) true ebOk (toBytes 1 1) →
      c.spargeAgain why = { c with dev := { d1 with se := { d1.se with sparge := some .alarm } } }) ∧
    ((∀ tag, why ≠ .command tag) → c.spargeAgain why = c.map (fun d => (d.latchSe 7).raise evSeSpargeFail 0))) ∧
  (∀ (s : State) (d : Dev) (n t : Nat) (u : Unlock), s.begun = d →
    (d.se.nonce = some (n, t) → d.nonceLife ≤ d.since t →
      exec .nonceExpiry s = .next (s.after { d with se := { d.se with nonce := none } })) ∧
    (d.se.unlock = some u → u.ticks ≤ d.since u.since →
      exec .debugUnlockEnd s = .next (s.after { d with se := { d.se with unlock := none } }))) ∧
  (∀ (s : State) (d : Dev) (v : Nat), s.begun = d → 9 ≤ d.bt.phase → v < 2 ^ 32 →
    (flag v 0 = false → exec (.alarmClear v) s = .next (s.after d)) ∧
    (flag v 0 = true → d.se.alarmA = true → exec (.alarmClear v) s = .next (s.after (d.emit .applyRefused))) ∧
    (flag v 0 = true → d.se.alarmA = false → exec (.alarmClear v) s = .next (s.after
      { d with se := { d.se with shown := false, pinLow := false } })))

/-! ### bt -/

/-- R457, R459, R460, R462, R463, R496, R497, R501: what begins and ends a start. A start clears what R459 does not keep and
stands in step 1; RESET_N, a lost supply and heat hold it there with the charge pumps released; the watchdog begins it again.
That a root which yielded stays so over a warm start is the model's (log entry 195). The readings of log entries 140, 142, 143
are the model's. -/
def Obligations.StartsBegin : Prop :=
  (∀ (d e : Dev) (warm stays : Bool), stays = (warm && d.bt.calDone && !d.bt.retainBad && !(d.starting && decide (d.bt.phase ≤ 5))) →
    e = { d.cleared stays with bt := { (d.cleared stays).bt with
      phase := 1, kind := if stays then 2 else 1, part := 3, slotsHeld := stays && !(d.cleared stays).sp.released } } →
    (d.starting = false → (warm = false ∨ stays = true) → d.beginStart warm = e) ∧
    (d.starting = false → warm = true → stays = false → d.beginStart warm = e.raise evBtWarmToCold 0) ∧
    (d.starting = true → (warm = false ∨ stays = true) → d.beginStart warm = e.raise evBtStartInterrupted 0) ∧
    (d.starting = true → warm = true → stays = false →
      d.beginStart warm = (e.raise evBtStartInterrupted 0).raise evBtWarmToCold 0)) ∧
  (∀ (d : Dev) (warm : Bool), d.cleared warm =
    { regs := if warm then d.regs.filter (fun p => keyIs keptReg p.1) else []
      staged := if warm then d.staged.filter (fun p => keyIs keptTime p.1) else []
      st := if warm then { d.st with quotaUsed := [], deferRun := [], persistOwed := [] } else {}
      fe := { hist := if warm then d.fe.hist else [] }
      ln := { refOk := d.ln.refOk }
      sp := if warm then d.sp.held else {}
      tw := { lease := d.tw.lease, fenceOwed := d.tw.fenceOwed || (d.pairEn && decide (d.tw.state = .paired)),
              silent := d.tw.silent, selfFenced := d.tw.selfFenced }
      pd := if warm then d.pd else {}
      se := if warm then { sparge := d.se.sparge, kiln := d.se.kiln } else {}
      bt := d.bt.kept warm
      mg := d.mg.kept warm
      todo := d.todo, out := d.out, free := d.free }) ∧
  (∀ (s : State) (d d1 : Dev) (straps : Nat) (id : Bool), s.begun = d →
    d1 = { d with bt := { d.bt with pwrok := true, calDone := false, straps := straps % 16, twinId := id } } →
    (d.bt.resetLow = false → exec (.coldStart straps id) s = .next (s.after (d1.beginStart false))) ∧
    (d.bt.resetLow = true → exec (.coldStart straps id) s = .next (s.after d1))) ∧
  (∀ (s : State) (d d1 : Dev), s.begun = d →
    exec (.resetN true) s = .next (s.after
      { d with bt := { d.bt with resetLow := true }, sp := { d.sp with released := true } }) ∧
    (d.bt.resetLow = true → d1 = { d with bt := { d.bt with resetLow := false } } →
      (d.bt.pwrok = true → d.bt.phase = 0 → exec (.resetN false) s = .next (s.after (d1.beginStart false))) ∧
      (d.bt.pwrok = true → d.bt.phase ≠ 0 → d.bt.supplyBad = false →
        exec (.resetN false) s = .next (s.after (d1.beginStart true))) ∧
      (d.bt.phase ≠ 0 → d.bt.supplyBad = true → exec (.resetN false) s = .next (s.after d1)) ∧
      (d.bt.pwrok = false → exec (.resetN false) s = .next (s.after d1))) ∧
    (d.bt.resetLow = false → exec (.resetN false) s = .next (s.after d))) ∧
  (∀ (s : State) (d e e1 : Dev), s.begun = d →
    e = { d.cleared false with
      bt := { (d.cleared false).bt with calDone := false }, sp := { (d.cleared false).sp with released := true } } →
    (d.starting = false ∧ e1 = e ∨ d.starting = true ∧ e1 = e.raise evBtStartInterrupted 0) →
    exec .pwrokFall s = .next (s.after { e1 with bt := { e1.bt with pwrok := false, phase := 0, kind := 0 } }) ∧
    exec .supplyFault s = .next (s.after { e1 with bt := { e1.bt with supplyBad := true, phase := 1, kind := 1, part := 3 } })) ∧
  (∀ (s : State) (d d1 : Dev), s.begun = d →
    (d.bt.supplyBad = true → d1 = { d with bt := { d.bt with supplyBad := false } } →
      (d.bt.pwrok = true → exec .supplyRestored s = .next (s.after (d1.beginStart false))) ∧
      (d.bt.pwrok = false → exec .supplyRestored s = .next (s.after { d1 with bt := { d1.bt with phase := 0, kind := 0 } }))) ∧
    (d.bt.supplyBad = false → exec .supplyRestored s = .next (s.after d)) ∧
    (d.bt.hot = false → d.bt.pwrok = true → d.bt.supplyBad = false →
      d1 = { d with bt := { d.bt with hot := true }, sp := { d.sp with released := true } } →
      exec .thermalHold s = .next (s.after (d1.beginStart true))) ∧
    ((d.bt.hot = true ∨ d.bt.pwrok = false ∨ d.bt.supplyBad = true) → exec .thermalHold s = .next (s.after d)) ∧
    exec .thermalRelease s = .next (s.after { d with bt := { d.bt with hot := false } }) ∧
    (d.starting = true → d.bt.hot = false → d.bt.resetLow = false → d.bt.supplyBad = false →
      exec .startTimeout s = .next (s.after
        (((d.beginStart true).latchBt 2 d.bt.part 0).raise evBtStartTimeout 0))) ∧
    (∀ kind, d.bt.resetReq = some kind → d.se.sparge = none → d.bt.pwrok = true → d.bt.supplyBad = false →
      (kind ≠ 2 → d1 = { d with bt := { d.bt with resetReq := none } } →
        exec .resetReqDelay s = .next (s.after (d1.beginStart true))) ∧
      (kind = 2 → d1 = { d with bt := { d.bt with resetReq := none }, sp := { d.sp with released := true } } →
        exec .resetReqDelay s = .next (s.after (d1.beginStart true)))) ∧
    (∀ kind, d.bt.resetReq = some kind → d.se.sparge.isSome = true → exec .resetReqDelay s = .next (s.after d)))

/-- R443 to R445, R451, R458, R461 to R470, R473, R476: the steps of a start and what follows it. Each step ends in the next, in
the next partition of the chain or in safe mode; the boot record counts the start and takes what commands ask; a store writes
the page with the lower GEN. The readings of log entries 134, 135, 136, 137, 138, 145, 146 are the model's. -/
def Obligations.StartSteps : Prop :=
  (∀ (s : State) (c t : Chip) (e : StepEnd), s.begunChip = c → t = c.map (fun d => d.stepTimed e.ms) →
    (c.dev.stepHeld = true → exec (.startStepDone e) s = .next (s.afterChip c)) ∧
    (c.dev.stepHeld = false →
      (c.dev.bt.phase = 1 → exec (.startStepDone e) s = .next (s.afterChip (t.map (fun d => { d with bt := { d.bt with phase := 2 } })))) ∧
      (c.dev.bt.phase = 2 → exec (.startStepDone e) s = .next (s.afterChip t.lifeStep)) ∧
      (c.dev.bt.phase = 3 → exec (.startStepDone e) s = .next (s.afterChip t.bootStep)) ∧
      (c.dev.bt.phase = 4 → exec (.startStepDone e) s = .next (s.afterChip (t.map (fun d =>
        if e.bistFail then ((d.latchBt 4 0 0).raise evBtBistFail 0).safeMode else { d with bt := { d.bt with phase := 5 } })))) ∧
      (c.dev.bt.phase = 5 → exec (.startStepDone e) s = .next (s.afterChip (t.map (fun d => d.calStep e.calFail)))) ∧
      (c.dev.bt.phase = 6 → exec (.startStepDone e) s = .next (s.afterChip (t.fwStep e.fwFail))) ∧
      (c.dev.bt.phase = 7 → exec (.startStepDone e) s = .next (s.afterChip (t.cfgStep e.cfgFail e.copyBad))) ∧
      (c.dev.bt.phase = 8 → exec (.startStepDone e) s = .next (s.afterChip t.applyStep)))) ∧
  (∀ (c c1 c2 : Chip), c1 = Chip.mk { c.dev with se := { c.dev.se with life := c.nv.fuses.repair.state } }
      { c.nv with fuses := c.nv.fuses.repair } →
    ([1, 2, 3, 4].any (fun s => c.nv.fuses.torn s) = false ∧ c2 = c1 ∨
      [1, 2, 3, 4].any (fun s => c.nv.fuses.torn s) = true ∧
        c2 = c1.map (fun d => (d.startSparge .repair).raise evSeFuseRepair 0)) →
    (c.nv.fuses.repair.contradicts = false → c.lifeStep = c2.map (fun d => { d with bt := { d.bt with phase := 3 } })) ∧
    (c.nv.fuses.repair.contradicts = true →
      c.lifeStep = (c2.violation true 5).map (fun d => { d with bt := { d.bt with phase := 3 } }))) ∧
  (∀ (c : Chip) (d1 : Dev) (nv nv1 : NvUnit) (chain : List Nat),
    (c.nv.boot ≠ none ∧ d1 = c.dev ∨ c.nv.boot = none ∧ d1 = (c.dev.latchBt 8 0 0).raise evBtNvmError 0) →
    nv = c.nv.putBoot
      { c.nv.bootRec with failCount := satInc 255 c.nv.bootRec.failCount, starts := c.nv.bootRec.starts + 1 } →
    nv1 = (if c.dev.se.life = 3 then { nv with page0 := .erased, page1 := .erased } else nv) →
    chain = (if c.dev.se.life = 4 then [] else bootChain c.nv.bootRec.failCount c.nv.bootRec.prefer) →
    c.bootStep = Chip.mk { d1 with bt := { d1.bt with chain := chain, phase := if d1.bt.kind = 2 then 5 else 4 } } nv1) ∧
  (∀ (n : NvUnit) (b : BootRec), (n.putBoot b).boot = some b ∧
    (n.bootLast1 = true → (n.putBoot b).boot1 = n.boot1 ∧ (n.putBoot b).bootLast1 = false) ∧
    (n.bootLast1 = false → (n.putBoot b).boot0 = n.boot0 ∧ (n.putBoot b).bootLast1 = true) ∧
    (n.boot = none ↔ n.boot0 = none ∧ n.boot1 = none) ∧
    (n.bootLast1 = true → n.boot1 = none → n.boot = n.boot0) ∧ (n.bootLast1 = false → n.boot0 = none → n.boot = n.boot1)) ∧
  (∀ f p, bootChain f p = if f ≤ 2 then [p % 2, 1 - p % 2, 2] else if f ≤ 5 then [2] else []) ∧
  (∀ (d d1 : Dev) (lanes : List Nat), d1 = { d with bt := { d.bt with calDone := true, badLanes := lanes } } →
    (d.bt.kind = 1 → d.calStep lanes =
      (forEach lanes (fun l (d : Dev) => (d.latchBt 5 0 l).raise evBtCalFail l) d1).nextPart) ∧
    (d.bt.kind ≠ 1 → d.calStep lanes = d.nextPart)) ∧
  (∀ (d : Dev) (p : Nat) (rest : List Nat),
    (d.bt.chain = [] → d.nextPart = d.safeMode) ∧
    (d.bt.chain = p :: rest → d.nextPart =
      { d with bt := { d.bt with phase := 6, part := p, tryFw := none, tryCfg := none, image := [] } })) ∧
  (∀ (d : Dev), d.safeMode = (({ d with
    bt := { d.bt with phase := 10, part := 3, chain := [], tryFw := none, tryCfg := none, image := [], stable := true },
    mg := { d.mg with alive := true } }).freeSlots).raise evBtSafeMode 0) ∧
  (∀ (d d1 d2 : Dev) (code : Nat), d1 = d.wrFld rBtPartStatus (8 * d.bt.part) 8 code →
    d2 = ((if code = 2 then (d1.latchBt 3 d.bt.part code).raise evBtFlashError 0 else d1).latchBt 1 d.bt.part code).raise
      evBtPartRefused 0 →
    d.refusePart code = ({ d2 with bt := { d2.bt with chain := d2.bt.chain.drop 1 } }).nextPart) ∧
  (∀ (c : Chip) (fail : Bool) (code : Nat),
    c.nv.imageCode c.dev.se.life c.dev.bt.part 1 (c.dev.retainedOf 1 false) fail = code →
    (∀ d1, code = 0 → (((c.dev.se.alarmA || c.dev.se.life == 4) = true ∧ d1 = c.dev) ∨
        ((c.dev.se.alarmA || c.dev.se.life == 4) = false ∧ d1 = c.dev.deriveId c.nv.fuses.secret)) →
      c.fwStep fail = Chip.mk { d1 with bt := { d1.bt with tryFw := some (c.nv.headRec d1.bt.part 1), phase := 7 } } c.nv) ∧
    ((code = 5 ∨ code = 6 ∨ code = 8) → c.fwStep fail =
      ((c.map (fun d => d.raise evSeSigFailFw 0)).violation false 1).map (fun d => d.refusePart code)) ∧
    (code = 7 → c.fwStep fail =
      ((c.map (fun d => d.raise evSeRollback 0)).violation false 3).map (fun d => d.refusePart code)) ∧
    (code ≠ 0 → code ≠ 5 → code ≠ 6 → code ≠ 7 → code ≠ 8 → c.fwStep fail = c.map (fun d => d.refusePart code))) ∧
  (∀ (c : Chip) (fail bad : Bool) (kept : Option Nat) (code : Nat), kept = c.dev.retainedOf 2 bad →
    c.nv.imageCode c.dev.se.life c.dev.bt.part 2 kept fail = code →
    (∀ r image, code = 0 → r = c.nv.headRec c.dev.bt.part 2 →
      image = (if kept = some r.digest then c.dev.bt.copy else c.nv.wholeImage c.dev.bt.part 2) →
      c.cfgStep fail bad = c.map (fun d => { d with bt := { d.bt with tryCfg := some r, image := image, phase := 8 } })) ∧
    ((code = 5 ∨ code = 6 ∨ code = 8) → c.cfgStep fail bad =
      ((c.map (fun d => d.raise evSeSigFailCfg 0)).violationBy 2).map (fun d => d.refusePart code)) ∧
    (code = 7 → c.cfgStep fail bad =
      ((c.map (fun d => d.raise evSeRollback 0)).violationBy 3).map (fun d => d.refusePart code)) ∧
    (code ≠ 0 → code ≠ 5 → code ≠ 6 → code ≠ 7 → code ≠ 8 → c.cfgStep fail bad = c.map (fun d => d.refusePart code))) ∧
  (∀ (c : Chip),
    (∀ d1, c.dev.apply c.nv (decide (c.dev.bt.kind = 2)) c.dev.bt.image = some d1 → c.applyStep = (Chip.mk d1 c.nv).running) ∧
    (c.dev.apply c.nv (decide (c.dev.bt.kind = 2)) c.dev.bt.image = none → c.applyStep = c.map (fun d => d.refusePart 10))) ∧
  (∀ (c : Chip) (d1 d2 : Dev) (f : Fuses) (fw cfg : Retained) (m3 : Nat), fw = c.dev.bt.tryFw.getD ⟨0, 0⟩ →
    cfg = c.dev.bt.tryCfg.getD ⟨0, 0⟩ →
    f = { c.nv.fuses with fwSvn := burnSvn c.nv.fuses.fwSvn fw.svn, cfgSvn := burnSvn c.nv.fuses.cfgSvn cfg.svn } →
    m3 = (if c.dev.se.life = 0 then 0 else (f.activeOwner.bind (fun k => Tbl.get none f.owner k)).getD 0) →
    d1 = { c.dev with
      bt := { c.dev.bt with
        phase := 9, startMs := c.dev.bt.ms, chain := [], tryFw := none, tryCfg := none, image := [], fw := some fw,
        cfg := some cfg, copy := c.dev.bt.image, runFw := some fw, runCfg := some cfg, stable := false },
      se := { c.dev.se with m0 := fw.digest, m1 := cfg.digest, m3 := m3 },
      mg := { c.dev.mg with alive := true } } →
    d2 = ((d1.wrFld rBtPartStatus (8 * c.dev.bt.part) 8 0xFF).raise evBtStartDone 0).raiseIf (decide (c.dev.bt.part = 2))
      evBtGoldenBoot 0 →
    ∀ d3 d4 d5 : Dev, d3 = (if c.dev.bt.kind = 2 then d2.startService else d2) → d4 = (if d3.isRoot then d3.enterLocked else d3) →
    d5 = (if d4.pairEn then d4.enterForming else d4) →
    c.running = Chip.mk d5.freeSlots.startPorts
      (NvUnit.putBoot { c.nv with fuses := f } { c.nv.bootRec with lastPart := c.dev.bt.part })) ∧
  (∀ (s : State) (c : Chip), s.begunChip = c → c.dev.bt.phase = 9 → c.dev.bt.stable = false → c.dev.mg.alive = true →
    exec .stableReached s = .next (s.afterChip
      { dev := { c.dev with bt := { c.dev.bt with stable := true } }, nv := c.nv.setFails (if c.dev.bt.part = 2 then 3 else 0) })) ∧
  (∀ (s : State) (d : Dev) (t : Nat), s.begun = d → d.tp.service = some t → d.ageLimit ≤ d.since t →
    exec .startWindowEnd s = .next (s.after { d with bt := { d.bt with window := false } })) ∧
  (∀ (s : State) (c : Chip) (v : Nat), s.begunChip = c → 9 ≤ c.dev.bt.phase → v < 2 ^ 32 →
    (flag v 1 = true → exec (.setPrefer (.core v)) s = .next (s.afterChip (c.btCmd v).2)) ∧
    (flag v 2 = true → exec (.clearFails (.core v)) s = .next (s.afterChip (c.btCmd v).2)) ∧
    (flag v 3 = true → exec (.restart (.core v)) s = .next (s.afterChip (c.btCmd v).2)) ∧
    (flag v 4 = true → exec (.storeSettings (.core v)) s = .next (s.afterChip (c.btCmd v).2)) ∧
    (flag v 5 = true → exec (.eraseSettings (.core v)) s = .next (s.afterChip (c.btCmd v).2))) ∧
  (∀ (c c1 c2 c3 c4 c5 : Chip) (v : Nat),
    c1 = (if flag v 1 then { c with nv := c.nv.putBoot { c.nv.bootRec with prefer := field v 0 1 % 2 } } else c) →
    c2 = (if flag v 2 then { c1 with nv := c1.nv.putBoot { c1.nv.bootRec with failCount := 0 } } else c1) →
    c3 = (if flag v 4 then c2.storeSettings.2 else c2) →
    c4 = (if flag v 5 then { c3 with nv := { c3.nv with page0 := .erased, page1 := .erased } } else c3) →
    c5 = (if flag v 3 then c4.map (fun d => if d.bt.pwrok && !d.bt.supplyBad then d.beginStart true else d) else c4) →
    (c.btCmd v).2 = c5) ∧
  (∀ (s : State) (bytes : List Byte) (f : EbFrame) (c : Chip), s.takesFrame bytes 0x48 f c → f.takes 1 = true →
    (flag (f.num 0 1) 4 = false →
      exec (.setPrefer (.frame bytes)) s = .next (s.afterChip ((c.reply f ebOk []).btCmd (f.num 0 1)).2) ∧
      exec (.clearFails (.frame bytes)) s = .next (s.afterChip ((c.reply f ebOk []).btCmd (f.num 0 1)).2) ∧
      exec (.restart (.frame bytes)) s = .next (s.afterChip ((c.reply f ebOk []).btCmd (f.num 0 1)).2) ∧
      exec (.eraseSettings (.frame bytes)) s = .next (s.afterChip ((c.reply f ebOk []).btCmd (f.num 0 1)).2)) ∧
    (flag (f.num 0 1) 4 = true → exec (.setPrefer (.frame bytes)) s = .next (s.afterChip (c.reply f ebRefused [])))) ∧
  (∀ (s : State) (bytes : List Byte) (f : EbFrame) (c c1 : Chip) (st : Nat), s.takesFrame bytes 0x49 f c → f.takes 0 = true →
    c.storeSettings = (st, c1) → exec (.storeSettings (.frame bytes)) s = .next (s.afterChip (c1.reply f st []))) ∧
  (∀ (c : Chip) (k gen : Nat),
    (c.storeStatus = ebOk → c.nv.storePage = (k, gen) →
      (c.storeSettings).1 = ebOk ∧
      (c.storeSettings).2.nv = (if k = 0 then { c.nv with page0 := .invalid } else { c.nv with page1 := .invalid }) ∧
      (c.storeSettings).2.dev = { c.dev with bt := { c.dev.bt with
        store := some (k, .valid (gen % 2 ^ 32) (match c.dev.bt.runCfg with | some r => r.digest | none => 0)
          (c.dev.storeRecs c.nv)) } }) ∧
    (c.storeStatus = ebRefused → c.storeSettings = (ebRefused, c.map (fun d => { d with bt := { d.bt with storeResult := 3 } }))) ∧
    (c.storeStatus = ebBusy → (c.storeSettings).1 = ebBusy ∧ (c.storeSettings).2.nv = c.nv ∧
      (c.storeSettings).2.dev.bt.store = c.dev.bt.store ∧ (c.storeSettings).2.dev.bt.storeResult = c.dev.bt.storeResult)) ∧
  (∀ (s : State) (c : Chip) (k : Nat) (page : SetPage), s.begunChip = c → c.dev.bt.store = some (k, page) →
    exec (.storeDone true) s = .next (s.afterChip
      { dev := ({ c.dev with bt := { c.dev.bt with store := none, storeResult := 1, page := k } }).raise evBtStoreDone 0,
        nv := if k = 0 then { c.nv with page0 := page } else { c.nv with page1 := page } }) ∧
    exec (.storeDone false) s = .next (s.afterChip
      { dev := (({ c.dev with bt := { c.dev.bt with store := none, storeResult := 2 } }).latchBt 7 0 0).raise evBtStoreFail 0,
        nv := if k = 0 then { c.nv with page0 := .invalid } else { c.nv with page1 := .invalid } }))

/-! ### mg -/

/-- R482, R483, R485, R487: request frames and the safety island. A frame that does not come out right is answered with its
status; STATUS, FAULT_READ, TEMP and SLOT_OFF are answered at once, SPARGE when its read-back ends; RESET_REQ is answered before
the start begins. The readings of log entries 149, 150, 164 are the model's. -/
def Obligations.IslandCommands : Prop :=
  (∀ (s : State) (d : Dev) (bytes : List Byte) (h : Nat) (f : EbFrame) (ms : Nat) (temps : List Int), s.begun = d →
    h = ebHead bytes → f = ⟨field h 0 8, field h 16 16, (bytes.drop 8).take (field h 32 16)⟩ → d.islandUp f.opcode = true →
    (8 ≤ d.inflight → exec (.status bytes ms temps) s = .next (s.after (d.emit .i3cNack))) ∧
    (d.inflight < 8 → ebSizeOk d.mg.mwl bytes = false → exec (.status bytes ms temps) s = .next (s.after
      ((((d.countFrame true).latchMg 5 0 0).raise evMgFrameForm 0).ebReply f (islandOp f.opcode) ebLength []))) ∧
    (d.inflight < 8 → ebSizeOk d.mg.mwl bytes = true → ebCrcOk bytes = false →
      exec (.regRead bytes) s = .next (s.after
        ((((d.countFrame true).latchMg 4 0 0).raise evMgFrameCrc 0).ebReply f (islandOp f.opcode) ebFrameCrc []))) ∧
    (d.inflight < 8 → ebSizeOk d.mg.mwl bytes = true → ebCrcOk bytes = true → ebZeroOk bytes = false →
      exec (.regRead bytes) s = .next (s.after
        ((((d.countFrame true).latchMg 5 0 0).raise evMgFrameForm 0).ebReply f (islandOp f.opcode) ebLength []))) ∧
    (d.inflight < 8 → ebSizeOk d.mg.mwl bytes = true → ebCrcOk bytes = true → ebZeroOk bytes = true →
      islandOp f.opcode = false → d.mg.alive = false → (d.starting = false ∨ f.opcode ≠ 0x49) →
      exec (.regRead bytes) s = .next (s.after (((d.countFrame false).raise evMgNotServed 0).ebReply f true ebNotServed [])))) ∧
  (∀ (s : State) (bytes : List Byte) (ms : Nat) (temps : List Int) (f : EbFrame) (c : Chip), s.takesFrame bytes 1 f c →
    (f.takes 0 = true → exec (.status bytes ms temps) s = .next (s.afterChip
      ((c.map (fun d => d.takeTemps temps)).islandReply f ebOk ((c.dev.takeTemps temps).statusBytes ms)))) ∧
    (f.takes 0 = false → exec (.status bytes ms temps) s = .next (s.afterChip (c.islandReply f ebLength [])))) ∧
  (∀ (s : State) (bytes : List Byte) (f : EbFrame) (c : Chip), s.takesFrame bytes 2 f c → f.takes 2 = true → f.num 0 1 ≤ 3 →
    (flag (f.num 1 1) 0 = false → exec (.faultRead bytes) s = .next (s.afterChip
      (c.islandReply f ebOk (c.dev.faultBytes (f.num 0 1))))) ∧
    (flag (f.num 1 1) 0 = true → exec (.faultRead bytes) s = .next (s.afterChip
      ((c.map (fun d => d.faultClear (f.num 0 1))).islandReply f ebOk (c.dev.faultBytes (f.num 0 1)))))) ∧
  (∀ (s : State) (bytes : List Byte) (temps : List Int) (f : EbFrame) (c : Chip) (l : List Int), s.takesFrame bytes 3 f c →
    f.takes 0 = true → l = (upFrom 0 8).map (fun k => temps.getD k 0) →
    exec (.temp bytes temps) s = .next (s.afterChip ((c.map (fun d => d.takeTemps temps)).islandReply f ebOk
      (l.foldr (fun t b => toBytes 2 (unsigned t 16) ++ b) [] ++ toBytes 2 (unsigned (hottest l).1 16)
        ++ toBytes 1 (hottest l).2 ++ toBytes 1 0)))) ∧
  (∀ (s : State) (bytes : List Byte) (f : EbFrame) (c : Chip) (off standby : List Nat) (d1 : Dev), s.takesFrame bytes 4 f c →
    f.takes 4 = true → off = (upFrom 0 32).filter (fun k => flag (f.num 0 4) k && c.dev.islandMayOff k) →
    standby = (upFrom 0 32).filter (fun k => flag (f.num 0 4) k && decide ((c.dev.slot k).use = .standby)) →
    d1 = forEach off (fun k (d : Dev) => d.offNow k) c.dev →
    exec (.slotOff bytes) s = .next (s.afterChip
      (Chip.islandReply { c with dev := d1.raiseIf (!off.isEmpty) evMgIslandSlotOff 0 } f ebOk
        (toBytes 4 (off.foldl (fun w k => w + 2 ^ k) 0) ++ toBytes 4 (standby.foldl (fun w k => w + 2 ^ k) 0))))) ∧
  (∀ (s : State) (bytes : List Byte) (f : EbFrame) (c : Chip), s.takesFrame bytes 5 f c → f.takes 4 = true →
    (f.num 0 4 ≠ 0x47525053 → exec (.sparge bytes) s = .next (s.afterChip (c.islandReply f ebRefused []))) ∧
    (f.num 0 4 = 0x47525053 → c.dev.se.sparge = none → exec (.sparge bytes) s = .next (s.afterChip
      (c.map (fun d => ({ d with se := { d.se with keys := [], idReady := false, sparge := some (.command f.tag) } }).ebWait f
        0))))) ∧
  (∀ (s : State) (bytes : List Byte) (f : EbFrame) (c : Chip), s.takesFrame bytes 6 f c → f.takes 1 = true →
    (f.num 0 1 = 1 ∨ f.num 0 1 = 2) → exec (.resetReq bytes) s = .next (s.afterChip
      ((c.islandReply f ebOk []).map (fun d =>
        ({ d with bt := { d.bt with resetReq := some (f.num 0 1) } }).raise evMgResetRequested 0)))) ∧
  (∀ (s : State) (bytes : List Byte) (temps : List Int) (f : EbFrame) (c : Chip),
    (s.takesFrame bytes 2 f c → (f.takes 2 = false ∨ 3 < f.num 0 1) →
      exec (.faultRead bytes) s = .next (s.afterChip (c.islandReply f ebLength []))) ∧
    (s.takesFrame bytes 3 f c → f.takes 0 = false →
      exec (.temp bytes temps) s = .next (s.afterChip (c.islandReply f ebLength []))) ∧
    (s.takesFrame bytes 4 f c → f.takes 4 = false →
      exec (.slotOff bytes) s = .next (s.afterChip (c.islandReply f ebLength []))) ∧
    (s.takesFrame bytes 5 f c → f.takes 4 = false →
      exec (.sparge bytes) s = .next (s.afterChip (c.islandReply f ebLength []))) ∧
    (s.takesFrame bytes 5 f c → f.takes 4 = true → f.num 0 4 = 0x47525053 → c.dev.se.sparge.isSome = true →
      exec (.sparge bytes) s = .next (s.afterChip (c.islandReply f ebBusy []))) ∧
    (s.takesFrame bytes 6 f c → (f.takes 1 = false ∨ (f.num 0 1 ≠ 1 ∧ f.num 0 1 ≠ 2)) →
      exec (.resetReq bytes) s = .next (s.afterChip (c.islandReply f ebLength [])))) ∧
  (∀ (d : Dev) (f : EbFrame) (island : Bool) (st : Nat) (payload : List Byte) (part : Nat),
    d.ebReply f island st payload = { d with mg := { d.mg with
      ready := d.mg.ready ++ [⟨f.opcode, ebResponse f.opcode f.tag st island payload⟩] } } ∧
    d.faultBytes 0 = (upFrom 0 4).foldr (fun v l => toBytes 8 (d.rd rFeLatch v) ++ toBytes 8 (d.rd rFeLatchTick v) ++ l) [] ∧
    d.faultBytes 1 = (upFrom 0 5).foldr (fun k l => toBytes 8 (d.rd rFePend k) ++ l) [] ∧
    d.faultBytes 2 = (upFrom 0 64).foldr (fun k l => toBytes 8 (d.feFence k) ++ l) [] ∧
    d.faultBytes 3 = toBytes 8 d.feStatus ++ toBytes 8 d.feErr ++ toBytes 8 (d.rd rFeErrLatch) ∧
    d.faultClear 0 = (((d.latchClear 0).latchClear 1).latchClear 2).latchClear 3 ∧
    d.faultClear 1 = forEach (upFrom 0 5) (fun k (e : Dev) => e.pendClear k (e.rd rFePend k)) d ∧
    (2 ≤ part → d.faultClear part = d))

/-- R485, R486: what the management complex serves. Registers are read in runs and written one by one; flash is read, and erased
and written by a command that ends later; debug commands need an open unlock; an opcode that no table lists is answered OPCODE.
The readings of log entries 23, 147, 148, 149 are the model's. -/
def Obligations.ComplexCommands : Prop :=
  (∀ (s : State) (bytes : List Byte) (f : EbFrame) (c : Chip), s.takesFrame bytes 0x10 f c → f.takes 6 = true →
    ((f.num 4 1 = 4 ∨ f.num 4 1 = 8) → 1 ≤ f.num 5 1 → ∀ data ok d1,
      c.dev.readRun c.nv (f.num 0 4) (f.num 4 1) (f.num 5 1) = (data, ok, d1) →
      exec (.regRead bytes) s = .next (s.afterChip
        (Chip.reply { c with dev := d1 } f (if ok then ebOk else ebUnmapped) data))) ∧
    ((f.num 5 1 = 0 ∨ (f.num 4 1 ≠ 4 ∧ f.num 4 1 ≠ 8)) → exec (.regRead bytes) s = .next (s.afterChip (c.reply f ebLength [])))) ∧
  (∀ (d d1 d2 : Dev) (n : NvUnit) (a w k v : Nat) (ok ok2 : Bool) (rest : List Byte),
    d.readRun n a w 0 = ([], true, d) ∧
    (d.ctlReadAt n 0 a w = (v, ok, d1) → d1.readRun n (a + w) w k = (rest, ok2, d2) →
      d.readRun n a w (k + 1) = (toBytes w v ++ rest, ok && ok2, d2)) ∧
    (ctlReg a w = none → d.ctlReadAt n 0 a w = (0, false, (d.latchMg 1 0 (a % 2 ^ 32)).raise evMgUnmappedAccess 0)) ∧
    (∀ r i, ctlReg a w = some (r, i) →
      d.ctlReadAt n 0 a w = (d.ctlRead n r i (d.bankOf r), true, d.afterRead r i (d.bankOf r)))) ∧
  (∀ (s : State) (bytes : List Byte) (f : EbFrame) (c : Chip), s.takesFrame bytes 0x11 f c → f.takes 16 = true →
    (f.num 4 1 = 4 ∨ f.num 4 1 = 8) →
    (ctlReg (f.num 0 4) (f.num 4 1) = none → exec (.regWrite bytes) s = .next (s.afterChip
      ((c.map (fun d => d.unmapped 0 (f.num 0 4))).reply f ebUnmapped []))) ∧
    (∀ r i d1, ctlReg (f.num 0 4) (f.num 4 1) = some (r, i) → r.name ≠ .btCmd → d1 = c.dev.regWrite r i (f.num 8 (f.num 4 1)) →
      exec (.regWrite bytes) s = .next (s.afterChip (Chip.reply { c with dev := d1 } f
        (if d1.out.any (fun o => decide (o = .applyRefused)) then ebApplyRefused else ebOk) []))) ∧
    (∀ r i st c1, ctlReg (f.num 0 4) (f.num 4 1) = some (r, i) → r.name = .btCmd → c.btCmd (f.num 8 (f.num 4 1)) = (st, c1) →
      exec (.regWrite bytes) s = .next (s.afterChip (c1.reply f (if st = ebOk then ebOk else ebApplyRefused) [])))) ∧
  (∀ (s : State) (bytes : List Byte) (fail kiln : Bool) (f : EbFrame) (c : Chip),
    (s.takesFrame bytes 0x10 f c → f.takes 6 = false → exec (.regRead bytes) s = .next (s.afterChip (c.reply f ebLength []))) ∧
    (s.takesFrame bytes 0x11 f c → (f.takes 16 = false ∨ (f.num 4 1 ≠ 4 ∧ f.num 4 1 ≠ 8)) →
      exec (.regWrite bytes) s = .next (s.afterChip (c.reply f ebLength []))) ∧
    (s.takesFrame bytes 0x40 f c → (f.takes 6 = false ∨ f.num 4 2 = 0 ∨ 4096 < f.num 4 2) →
      exec (.flashRead bytes fail) s = .next (s.afterChip (c.reply f ebLength []))) ∧
    (s.takesFrame bytes 0x41 f c → f.takes 4 = false → exec (.flashErase bytes) s = .next (s.afterChip (c.reply f ebLength []))) ∧
    (s.takesFrame bytes 0x42 f c → (f.payload.drop 4 = [] ∨ 4096 < (f.payload.drop 4).length) →
      exec (.flashWrite bytes) s = .next (s.afterChip (c.reply f ebLength []))) ∧
    (s.takesFrame bytes 0x50 f c → (f.takes 10 = false ∨ 4096 < f.num 8 2) →
      exec (.dbgRead bytes kiln) s = .next (s.afterChip (c.reply f ebLength []))) ∧
    (s.takesFrame bytes 0x51 f c → f.payload.length < 8 →
      exec (.dbgWrite bytes kiln) s = .next (s.afterChip (c.reply f ebLength []))) ∧
    (s.takesFrame bytes 0x52 f c → (f.takes 2 = false ∨ 3 < f.num 0 1 ∨ f.num 1 1 = 0 ∨ 3 < f.num 1 1) →
      exec (.dbgCoreHalt bytes) s = .next (s.afterChip (c.reply f ebLength [])) ∧
      exec (.dbgCoreStep bytes) s = .next (s.afterChip (c.reply f ebLength [])) ∧
      exec (.dbgCoreResume bytes) s = .next (s.afterChip (c.reply f ebLength []))) ∧
    (s.takesFrame bytes 0x20 f c → f.takes 32 = false →
      exec (.bind (.frame bytes)) s = .next (s.afterChip (c.reply f ebLength []))) ∧
    (s.takesFrame bytes 0x20 f c → f.takes 32 = true → ∀ c1 : Chip,
      c1 = c.map (fun d => (d.ebWait f (mhTag (f.num 0 32))).mhRequest 5 (f.num 0 32)) →
      exec (.bind (.frame bytes)) s = .next (s.afterChip c1) ∧ exec (.unbind (.frame bytes)) s = .next (s.afterChip c1) ∧
      exec (.ldAlloc (.frame bytes)) s = .next (s.afterChip c1) ∧ exec (.dcAdd (.frame bytes)) s = .next (s.afterChip c1) ∧
      exec (.dcRelease (.frame bytes)) s = .next (s.afterChip c1))) ∧
  (∀ (s : State) (bytes : List Byte) (op : Nat) (f : EbFrame) (c : Chip), s.takesFrame bytes op f c → listedOp op = false →
    exec (.opcodeUnknown bytes) s = .next (s.afterChip ((c.map (fun d => d.raise evMgOpcodeUnknown 0)).reply f ebOpcode []))) ∧
  (∀ (s : State) (bytes : List Byte) (f : EbFrame) (c : Chip), s.takesFrame bytes 0x40 f c → f.takes 6 = true →
    0 < f.num 4 2 → f.num 4 2 ≤ 4096 →
    exec (.flashRead bytes false) s = .next (s.afterChip (c.reply f ebOk (c.nv.flashBytes (f.num 0 4) (f.num 4 2)))) ∧
    exec (.flashRead bytes true) s = .next (s.afterChip
      ((c.map (fun d => (d.latchBt 3 0 0).raise evBtFlashError 0)).reply f ebFlash []))) ∧
  (∀ (s : State) (bytes : List Byte) (f : EbFrame) (c : Chip), s.takesFrame bytes 0x41 f c → f.takes 4 = true →
    ∀ st, c.dev.flashStatus (f.num 0 4) 65536 65536 = st →
    (st = ebOk → exec (.flashErase bytes) s = .next (s.afterChip (c.startFlash f (f.num 0 4) 65536 []))) ∧
    (st ≠ ebOk → exec (.flashErase bytes) s = .next (s.afterChip (c.reply f st [])))) ∧
  (∀ (s : State) (bytes : List Byte) (f : EbFrame) (c : Chip) (data : List Byte) (st : Nat), s.takesFrame bytes 0x42 f c →
    data = f.payload.drop 4 → data ≠ [] → data.length ≤ 4096 → c.dev.flashStatus (f.num 0 4) data.length 256 = st →
    (st = ebOk → exec (.flashWrite bytes) s = .next (s.afterChip (c.startFlash f (f.num 0 4) data.length data))) ∧
    (st ≠ ebOk → exec (.flashWrite bytes) s = .next (s.afterChip (c.reply f st [])))) ∧
  (∀ (c : Chip) (d1 : Dev) (f : EbFrame) (addr len align : Nat) (data : List Byte),
    (c.dev.bt.phase = 9 → meetsImages c.dev.bt.part addr len = true →
      d1 = { c.dev with bt := { c.dev.bt with fw := none, cfg := none, copy := [] } }) →
    (c.dev.bt.phase ≠ 9 ∨ meetsImages c.dev.bt.part addr len = false → d1 = c.dev) →
    c.startFlash f addr len data = { c with dev := { d1 with mg := { d1.mg with
      waits := d1.mg.waits ++ [⟨f.opcode, f.tag, 0⟩], flash := some (f.opcode, f.tag, addr, data) } } } ∧
    (addr % align ≠ 0 → c.dev.flashStatus addr len align = ebRefused) ∧
    (c.dev.se.life = 2 ∨ c.dev.se.life = 4 → addr < 0x1900000 → 0x1100000 < addr + len →
      c.dev.flashStatus addr len align = ebRefused) ∧
    (addr % align = 0 → (c.dev.se.life ≠ 2 ∧ c.dev.se.life ≠ 4 ∨ 0x1900000 ≤ addr ∨ addr + len ≤ 0x1100000) →
      c.dev.flashStatus addr len align = if c.dev.mg.flash.isSome then ebBusy else ebOk)) ∧
  (∀ (s : State) (c : Chip) (op tag addr : Nat) (data : List Byte), s.begunChip = c →
    c.dev.mg.flash = some (op, tag, addr, data) → ∀ d1 : Dev, d1 = { c.dev with mg := { c.dev.mg with flash := none } } →
    exec (.flashCommandDone true) s = .next (s.afterChip
      { c with dev := d1.ebAnswer (fun w => w.opcode == op && w.tag == tag) false ebFlash [] }) ∧
    exec (.flashCommandDone false) s = .next (s.afterChip
      { dev := d1.ebAnswer (fun w => w.opcode == op && w.tag == tag) false ebOk [],
        nv := if op = 0x41 then c.nv.erase addr 65536 else c.nv.program addr data })) ∧
  (∀ (s : State) (bytes : List Byte) (f : EbFrame) (c : Chip), s.takesFrame bytes 0x50 f c → f.takes 10 = true →
    f.num 8 2 ≤ 4096 →
    (c.dev.se.life ≠ 4 → c.dev.debugOpen 0 = false → exec (.dbgRead bytes false) s = .next (s.afterChip (c.reply f ebLocked []))) ∧
    (c.dev.se.life ≠ 4 → c.dev.debugOpen 0 = true → exec (.dbgRead bytes false) s = .next (s.afterChip
      ((Chip.reply { c with dev := { c.dev with free := c.dev.free + 1 } } f ebOk
        ((upFrom 0 (f.num 8 2)).map (fun i => Config.debugData c.dev.free i))).map (fun d => d.raise evMgDebugCmd 0))))) ∧
  (∀ (s : State) (bytes : List Byte) (f : EbFrame) (c : Chip), s.takesFrame bytes 0x50 f c → f.takes 10 = true →
    f.num 8 2 ≤ 4096 →
    (c.dev.se.life ≠ 4 → c.dev.debugOpen 0 = true → exec (.dbgRead bytes true) s = .next (s.afterChip
      ((c.kilnAccess.reply f ebOk (toBytes (f.num 8 2) 0)).map (fun d => d.raise evMgDebugCmd 0)))) ∧
    (∀ kiln, c.dev.se.life = 4 → exec (.dbgRead bytes kiln) s = .next (s.afterChip (c.reply f ebRefused []))) ∧
    (c.dev.se.life ≠ 4 → c.dev.debugOpen 0 = false → exec (.dbgRead bytes true) s = .next (s.afterChip (c.reply f ebLocked [])))) ∧
  (∀ (s : State) (bytes : List Byte) (f : EbFrame) (c : Chip), s.takesFrame bytes 0x51 f c → 8 ≤ f.payload.length →
    (c.dev.se.life ≠ 4 → c.dev.debugOpen 1 = true →
      exec (.dbgWrite bytes false) s = .next (s.afterChip ((c.reply f ebOk []).map (fun d => d.raise evMgDebugCmd 0))) ∧
      exec (.dbgWrite bytes true) s = .next (s.afterChip
        ((c.kilnAccess.reply f ebOk []).map (fun d => d.raise evMgDebugCmd 0)))) ∧
    (∀ kiln, c.dev.se.life = 4 → exec (.dbgWrite bytes kiln) s = .next (s.afterChip (c.reply f ebRefused []))) ∧
    (∀ kiln, c.dev.se.life ≠ 4 → c.dev.debugOpen 1 = false →
      exec (.dbgWrite bytes kiln) s = .next (s.afterChip (c.reply f ebLocked [])))) ∧
  (∀ (s : State) (bytes : List Byte) (f : EbFrame) (c : Chip) (st : Nat), s.takesFrame bytes 0x52 f c → f.takes 2 = true →
    f.num 0 1 ≤ 3 → 1 ≤ f.num 1 1 → f.num 1 1 ≤ 3 →
    (c.dev.se.life = 4 ∧ st = ebRefused ∨ c.dev.se.life ≠ 4 ∧ c.dev.debugOpen 2 = false ∧ st = ebLocked) →
    exec (.dbgCoreHalt bytes) s = .next (s.afterChip (c.reply f st [])) ∧
    exec (.dbgCoreStep bytes) s = .next (s.afterChip (c.reply f st [])) ∧
    exec (.dbgCoreResume bytes) s = .next (s.afterChip (c.reply f st []))) ∧
  (∀ (s : State) (bytes : List Byte) (f : EbFrame) (c : Chip) (core : Nat), s.takesFrame bytes 0x52 f c → f.takes 2 = true →
    core = f.num 0 1 → core ≤ 3 → c.dev.se.life ≠ 4 → c.dev.debugOpen 2 = true →
    (f.num 1 1 = 1 → exec (.dbgCoreHalt bytes) s = .next (s.afterChip (((c.map (fun d => { d with
      mg := { d.mg with cores := Tbl.put .running core .halted d.mg.cores } })).reply f ebOk []).map
        (fun d => d.raise evMgDebugCmd 0)))) ∧
    (f.num 1 1 = 2 → exec (.dbgCoreStep bytes) s = .next (s.afterChip (((c.map (fun d => { d with
      mg := { d.mg with cores := Tbl.put .running core .halted d.mg.cores } })).reply f ebOk []).map
        (fun d => d.raise evMgDebugCmd 0)))) ∧
    (f.num 1 1 = 3 → exec (.dbgCoreResume bytes) s = .next (s.afterChip (((c.map (fun d => { d with
      mg := { d.mg with cores := Tbl.put .running core .running d.mg.cores } })).reply f ebOk []).map
        (fun d => d.raise evMgDebugCmd 0)))))

/-- R478 to R480, R483, R484, R488, R492: the I3C target. A read returns the oldest response whole; IBIs are acknowledged or
retried; the CCCs assign, reset and report; the fallback answers I2C; a bus error, a silent complex and bad island state are
reported. The readings of log entries 24, 151, 152, 153, 154 are the model's. -/
def Obligations.I3cTarget : Prop :=
  (∀ (s : State) (d d1 : Dev) (x : EbResp) (rest : List EbResp), s.begun = d → d.i3cUp = true → d.mg.ready = x :: rest →
    d1 = d.emit (.i3c (x.bytes.take d.mg.mrl)) →
    exec (.responseRead false) s = .next (s.after d1) ∧
    (∀ d2 d3 : Dev, d2 = { d1 with mg := { d1.mg with ready := rest, told := d.mg.told - 1 } } →
      (x.bytes.length ≤ d.mg.mrl → d3 = d2) → (d.mg.mrl < x.bytes.length → d3 = (d2.latchMg 5 0 0).raise evMgFrameForm 0) →
      (x.opcode ≠ 6 → exec (.responseRead true) s = .next (s.after d3)) ∧
      (x.opcode = 6 → exec (.responseRead true) s = .next (s.after d3.resetDue)))) ∧
  (∀ (s : State) (d : Dev) (whole : Bool), s.begun = d →
    (d.i3cUp = true → d.mg.ready = [] → exec (.responseRead whole) s = .next (s.after (d.emit .i3cNack))) ∧
    (d.i3cUp = false → exec (.responseRead whole) s = .next (s.after d)) ∧
    (d.mg.ibiAsked = none → exec .ibiAck s = .next (s.after d) ∧ exec .ibiRetry s = .next (s.after d))) ∧
  (∀ (s : State) (d : Dev) (b : Nat), s.begun = d → d.mg.ibiAsked = some b →
    (b = 2 → exec .ibiAck s = .next (s.after
      { d with mg := { d.mg with ibiAsked := none, nacks := 0 }, fe := { d.fe with i3c := d.fe.i3c.drop 1 } })) ∧
    (b = 1 → exec .ibiAck s = .next (s.after
      { d with mg := { d.mg with ibiAsked := none, nacks := 0, told := d.mg.ready.length } })) ∧
    (d.mg.nacks ≠ 15 → exec .ibiRetry s = .next (s.after
      { d with mg := { d.mg with ibiAsked := none, nacks := d.mg.nacks + 1 } })) ∧
    (d.mg.nacks = 15 → exec .ibiRetry s = .next (s.after
      (({ d with mg := { d.mg with ibiAsked := none, nacks := 0 } }).raise evMgIbiNacked 0)))) ∧
  (∀ (s : State) (d : Dev), s.begun = d → d.i3cUp = true → d.mg.addr = none →
    (d.mg.hotJoinOff = false → exec .hotJoin s = .next (s.after (d.emit .hotJoin))) ∧
    (∀ a < 128, exec (.entdaa a) s = .next (s.after
      (({ d with mg := { d.mg with addr := some a, legacy := false } }).raise evMgAddrAssigned 0))) ∧
    (∀ a < 128, ∀ own, own = 0x2C + d.bt.straps % 4 → exec (.setdasa own a) s = .next (s.after
      (({ d with mg := { d.mg with addr := some a, legacy := false } }).raise evMgAddrAssigned 0))) ∧
    (∀ a own, own ≠ 0x2C + d.bt.straps % 4 → exec (.setdasa own a) s = .next (s.after (d.emit .i3cNack))) ∧
    (d.mg.hotJoinOff = true → exec .hotJoin s = .next (s.after d)) ∧
    exec .getbcr s = .next (s.after (d.emit .i3cNack)) ∧ exec .getdcr s = .next (s.after (d.emit .i3cNack)) ∧
    exec .getpid s = .next (s.after (d.emit .i3cNack)) ∧ exec .getstatus s = .next (s.after (d.emit .i3cNack)) ∧
    exec .getmxds s = .next (s.after (d.emit .i3cNack)) ∧ exec .getmwl s = .next (s.after (d.emit .i3cNack)) ∧
    exec .getmrl s = .next (s.after (d.emit .i3cNack)) ∧
    (∀ a, exec (.setnewda a) s = .next (s.after (d.emit .i3cNack)) ∧
      exec (.rstact a) s = .next (s.after (d.emit .i3cNack)))) ∧
  (∀ (s : State) (c c1 c2 : Chip) (x : EbInputs), s.begunChip = c → c.dev.i3cUp = true → c.dev.mg.addr = none →
    flag c.dev.bt.straps 2 = true →
    (c.dev.mg.legacy = true → c1 = c) →
    (c.dev.mg.legacy = false →
      c1 = c.map (fun d => ({ d with mg := { d.mg with legacy := true } }).raise evMgLegacyI2c 0)) →
    exec (.legacyI2c none x) s = .next (s.afterChip (c1.map (fun d => d.responseRead true))) ∧
    (∀ bytes f, c1.dev.ebCheck bytes = (some f, c2.dev) → c2.nv = c1.nv →
      exec (.legacyI2c (some bytes) x) s = .next (s.afterChip (c2.serve x f))) ∧
    (∀ bytes, c1.dev.ebCheck bytes = (none, c2.dev) → c2.nv = c1.nv →
      exec (.legacyI2c (some bytes) x) s = .next (s.afterChip c2))) ∧
  (∀ (s : State) (d : Dev) (write : Option (List Byte)) (x : EbInputs), s.begun = d →
    (d.i3cUp = false ∨ flag d.bt.straps 2 = false ∨ d.mg.addr.isSome = true) →
    exec (.legacyI2c write x) s = .next (s.after d)) ∧
  (∀ (s : State) (d : Dev) (bits : Nat), s.begun = d → d.i3cUp = true →
    exec (.enec bits) s = .next (s.after { d with mg := { d.mg with
      ibiOff := if flag bits 0 then false else d.mg.ibiOff, hotJoinOff := if flag bits 3 then false else d.mg.hotJoinOff } }) ∧
    exec (.disec bits) s = .next (s.after { d with mg := { d.mg with
      ibiOff := if flag bits 0 then true else d.mg.ibiOff, hotJoinOff := if flag bits 3 then true else d.mg.hotJoinOff } }) ∧
    exec .rstdaa s = .next (s.after { d with mg := { d.mg with addr := none, ibiAsked := none } }) ∧
    (∀ v < 65536, exec (.setmwl v) s = .next (s.after { d with mg := { d.mg with mwl := v } })) ∧
    (∀ v < 65536, exec (.setmrl v) s = .next (s.after { d with mg := { d.mg with mrl := v } }))) ∧
  (∀ (s : State) (d : Dev) (old : Nat), s.begun = d → d.i3cUp = true → d.mg.addr = some old →
    (∀ a < 128, exec (.setnewda a) s = .next (s.after
      (({ d with mg := { d.mg with addr := some a, legacy := false } }).raise evMgAddrAssigned 0))) ∧
    (∀ a, exec (.entdaa a) s = .next (s.after d)) ∧ exec .hotJoin s = .next (s.after d) ∧
    (∀ own a, exec (.setdasa own a) s = .next (s.after (d.emit .i3cNack))) ∧
    exec .getpid s = .next (s.after (d.emit (.i3c (toBytes 6 (d.pid s.chip.nv)).reverse))) ∧
    exec .getbcr s = .next (s.after (d.emit (.i3c [0x26]))) ∧
    exec .getdcr s = .next (s.after (d.emit (.i3c [0x00]))) ∧
    exec .getstatus s = .next (s.after
      (({ d with free := d.free + 1 } : Dev).emit (.i3c (toBytes 2 (Config.i3cStatus d.free)).reverse))) ∧
    exec .getmxds s = .next (s.after (d.emit (.i3c (toBytes 2 Config.i3cSpeed).reverse))) ∧
    exec .getmwl s = .next (s.after (d.emit (.i3c (toBytes 2 d.mg.mwl).reverse))) ∧
    exec .getmrl s = .next (s.after (d.emit (.i3c ((toBytes 2 d.mg.mrl).reverse ++ [17])))) ∧
    exec (.rstact 1) s = .next (s.after
      (({ d with bt := { d.bt with resetReq := some 1 } }).raise evMgResetRequested 0)) ∧
    exec (.rstact 0) s = .next (s.after { d with mg := { d.mg with
      addr := none, legacy := false, ibiOff := false, hotJoinOff := false, mwl := 4108, mrl := 4108, ibiAsked := none, nacks := 0 } }) ∧
    (∀ a, 2 ≤ a → exec (.rstact a) s = .next (s.after (d.emit .i3cNack)))) ∧
  (∀ (s : State) (d : Dev), s.begun = d →
    exec .busError s = .next (s.after ((d.latchMg 6 0 0).raise evMgBusError 0)) ∧
    exec .islandParity s = .next (s.after ((d.latchMg 7 0 0).raise evMgIslandParity 0)) ∧
    (∀ d1 : Dev, d.mg.alive = true → d1 = ({ d with mg := { d.mg with alive := false } }).raise evMgMcWedged 0 →
      exec .mcWedged s = .next (s.after (d1.dropForwarded d1.mg.waits.length).startFailed)) ∧
    (d.mg.alive = false → exec .mcWedged s = .next (s.after d)) ∧
    (9 ≤ d.bt.phase → exec .mcSignalReturn s = .next (s.after { d with mg := { d.mg with alive := true } })) ∧
    (d.bt.phase < 9 → exec .mcSignalReturn s = .next (s.after d))) ∧
  (∀ (d : Dev) (n : Nat), d.dropForwarded 0 = d ∧
    (d.mg.waits.any (fun w => !(islandOp w.opcode)) = false → d.dropForwarded n = d) ∧
    (d.mg.waits.any (fun w => !(islandOp w.opcode)) = true → d.dropForwarded (n + 1) =
      ((d.raise evMgNotServed 0).ebAnswer (fun w => !(islandOp w.opcode)) true ebNotServed []).dropForwarded n))
end

