-- ==== Sys2Proof/Laws/Commands.lean ====
section
/-! SUPPORT. What a register write of a management core does once R8 accepts it, and which registers R8 never holds back. -/

namespace Sys2Proof.Machine

/-- A write in range reaches the register once cores reach the control space. -/
theorem Dev.coreWrite_running {d : Dev} (h : 9 ≤ d.bt.phase) (r : Reg) {i v : Nat} (hi : i < r.count1 * r.count2)
    (hv : v < 2 ^ r.width) : d.coreWrite r i v = d.regWrite r i v := by
  simp [Dev.coreWrite, Dev.coreDo, h, hi, Nat.mod_eq_of_lt hv]

/-- A write that R8 accepts acts. -/
theorem Dev.regWrite_accepted {d : Dev} {r : Reg} {i v : Nat} (h : d.heldField r i (d.bankOf r) v = false)
    (hk : d.valueOk r i v = true) : d.regWrite r i v = d.writeDo r i (d.bankOf r) v := by
  simp [Dev.regWrite, h, hk]

/-- A write that R8 refuses is refused. -/
theorem Dev.regWrite_refused {d : Dev} {r : Reg} {i v : Nat}
    (h : d.heldField r i (d.bankOf r) v = true ∨ d.valueOk r i v = false) :
    d.regWrite r i v = d.refuseWrite r (d.bankOf r) := by
  rcases h with h | h <;> simp [Dev.regWrite, h]

/-- R8 holds back no write of a register whose writable fields all have class T or L. -/
theorem Dev.heldField_free (d : Dev) (r : Reg) (i bank v : Nat)
    (h : r.fields.all (fun f => decide (f.acc = .rw → f.cls ≠ .s ∧ f.cls ≠ .q)) = true) :
    d.heldField r i bank v = false := by
  simp only [Dev.heldField, List.any_eq_false]
  intro f hf
  have := List.all_eq_true.mp h f hf
  simp only [decide_eq_true_eq] at this
  by_cases ha : f.acc = .rw
  · obtain ⟨h1, h2⟩ := this ha
    simp [ha, h1, h2]
  · simp [ha]

/-- R8 holds back no write of a register without S fields whose unit is idle. -/
theorem Dev.heldField_idle {d : Dev} {r : Reg} {i bank : Nat} (v : Nat) (hq : d.qIdle r i bank = true)
    (h : r.fields.all (fun f => decide (f.cls ≠ .s)) = true) : d.heldField r i bank v = false := by
  simp only [Dev.heldField, List.any_eq_false]
  intro f hf
  have := List.all_eq_true.mp h f hf
  simp only [decide_eq_true_eq] at this
  simp [this, hq]

/-- The whole course of an accepted write of a core to a register with Q fields whose unit is idle. -/
theorem Dev.coreWrite_idle {d : Dev} (h : 9 ≤ d.bt.phase) (r : Reg) {i v : Nat} (hi : i < r.count1 * r.count2)
    (hv : v < 2 ^ r.width) (hq : d.qIdle r i (d.bankOf r) = true) (hf : r.fields.all (fun f => decide (f.cls ≠ .s)) = true)
    (hk : d.valueOk r i v = true) : d.coreWrite r i v = d.writeDo r i (d.bankOf r) v := by
  rw [Dev.coreWrite_running h r hi hv, Dev.regWrite_accepted (Dev.heldField_idle v hq hf) hk]

/-- The whole course of an accepted write of a core. -/
theorem Dev.coreWrite_does {d : Dev} (h : 9 ≤ d.bt.phase) (r : Reg) {i v : Nat} (hi : i < r.count1 * r.count2)
    (hv : v < 2 ^ r.width) (hf : r.fields.all (fun f => decide (f.acc = .rw → f.cls ≠ .s ∧ f.cls ≠ .q)) = true)
    (hk : d.valueOk r i v = true) : d.coreWrite r i v = d.writeDo r i (d.bankOf r) v := by
  rw [Dev.coreWrite_running h r hi hv, Dev.regWrite_accepted (Dev.heldField_free d r i _ v hf) hk]

/-! ### Pages -/

theorem pageReg_epCmdDb : pageReg .ep rEpCmdDb.base 8 = some (rEpCmdDb, 0) := by decide
theorem pageReg_epEvtDb : pageReg .ep rEpEvtDb.base 8 = some (rEpEvtDb, 0) := by decide
theorem pageReg_epCtl : pageReg .ep rEpCtl.base 4 = some (rEpCtl, 0) := by decide
theorem pageReg_epPageDb : pageReg .ep rEpPageDb.base 8 = some (rEpPageDb, 0) := by decide
theorem pageReg_fnCtrlDb : pageReg .fn rFnCtrlDb.base 8 = some (rFnCtrlDb, 0) := by decide
theorem pageReg_fnCtrlEvtDb : pageReg .fn rFnCtrlEvtDb.base 8 = some (rFnCtrlEvtDb, 0) := by decide
theorem pageReg_fnReset : pageReg .fn rFnReset.base 4 = some (rFnReset, 0) := by decide
theorem pageReg_fnXlInvCmd : pageReg .fn rFnXlInvCmd.base 8 = some (rFnXlInvCmd, 0) := by decide
theorem pageReg_fnWnCmd : pageReg .fn rFnWnCmd.base 8 = some (rFnWnCmd, 0) := by decide
theorem pageReg_fnCapCi {i : Nat} (h : i < 4) : pageReg .fn (rFnCapCi.base + rFnCapCi.stride1 * i) 8 = some (rFnCapCi, i) := by
  have : ∀ i < 4, pageReg .fn (rFnCapCi.base + rFnCapCi.stride1 * i) 8 = some (rFnCapCi, i) := by decide
  exact this i h

/-- A page in the window of its endpoint's function exists. -/
theorem Dev.pageExists_of {d : Dev} {h ep : Nat} {c : EpCtx} (h1 : d.ep ep = some c) (h2 : c.fn = h)
    (h3 : d.inRange h ep = true) : d.pageExists h ep = true := by
  simp [Dev.pageExists, h1, h2, h3]

/-- A host's write of a doorbell page reaches its register. -/
theorem Dev.epWrite_exists {d : Dev} {h ep v : Nat} {r : Reg} (hr : pageReg .ep r.base (r.width / 8) = some (r, 0))
    (hp : d.pageExists h ep = true) (hv : v < 2 ^ r.width) : d.epWrite h ep r v = d.epPageWrite h ep r v := by
  simp only [Dev.epWrite, Dev.doorPage, hr, hp, if_true, Nat.mod_eq_of_lt hv]

/-- A host's write of a doorbell page without an endpoint is ignored and reported. -/
theorem Dev.epWrite_ignored {d : Dev} {h ep v : Nat} {r : Reg} (hr : pageReg .ep r.base (r.width / 8) = some (r, 0))
    (hp : d.pageExists h ep = false) : d.epWrite h ep r v = d.raise evHqDbIgnored h := by
  simp [Dev.epWrite, Dev.doorPage, hr, hp]

/-- A host's write of its control page reaches its register. -/
theorem Dev.fnWrite_does {d : Dev} {h i v : Nat} {r : Reg}
    (hr : pageReg .fn (r.base + r.stride1 * i) (r.width / 8) = some (r, i)) (hv : v < 2 ^ r.width) :
    d.fnWrite h r i v = d.fnPageWrite h r i v := by
  simp only [Dev.fnWrite, Dev.ctrlPage, hr, Nat.mod_eq_of_lt hv]

end Sys2Proof.Machine
end

