-- ==== Sys2Proof/Laws/Tbl.lean ====
section
/-! SUPPORT. What reading a sparse table gives after each of its operations, and that each keeps the canonical form; what a search
of a list and a count over it give. -/

namespace Sys2Proof.Machine

variable {α : Type}

@[simp] theorem Tbl.get_nil (dflt : α) (k : Nat) : Tbl.get dflt [] k = dflt := rfl

/-- An insertion is read back. -/
@[simp] theorem Tbl.get_insert_self (dflt v : α) (k : Nat) (t : Tbl α) : Tbl.get dflt (Tbl.insert k v t) k = v := by
  induction t with
  | nil => simp [Tbl.insert, Tbl.get]
  | cons p rest ih =>
    obtain ⟨j, w⟩ := p
    simp only [Tbl.insert]
    split
    · simp [Tbl.get]
    · split
      · simp [Tbl.get]
      · rename_i h1 h2
        simp [Tbl.get, ih, Ne.symm h2]

/-- An insertion leaves every other key alone. -/
theorem Tbl.get_insert_ne (dflt v : α) {k j : Nat} (h : j ≠ k) (t : Tbl α) :
    Tbl.get dflt (Tbl.insert k v t) j = Tbl.get dflt t j := by
  induction t with
  | nil => simp [Tbl.insert, Tbl.get, Ne.symm h]
  | cons p rest ih =>
    obtain ⟨i, w⟩ := p
    simp only [Tbl.insert]
    split
    · simp [Tbl.get, Ne.symm h]
    · split
      · rename_i _ hk
        subst hk
        simp [Tbl.get, Ne.symm h]
      · simp only [Tbl.get]
        split <;> simp [ih]

/-- A removal leaves every other key alone. -/
theorem Tbl.get_erase_ne (dflt : α) {k j : Nat} (h : j ≠ k) (t : Tbl α) :
    Tbl.get dflt (Tbl.erase k t) j = Tbl.get dflt t j := by
  induction t with
  | nil => rfl
  | cons p rest ih =>
    obtain ⟨i, w⟩ := p
    simp only [Tbl.erase]
    split
    · rename_i hk
      subst hk
      simp [Tbl.get, Ne.symm h]
    · simp only [Tbl.get]
      split <;> simp [ih]

/-- A write leaves every other key alone. -/
theorem Tbl.get_put_ne [DecidableEq α] (dflt v : α) {k j : Nat} (h : j ≠ k) (t : Tbl α) :
    Tbl.get dflt (Tbl.put dflt k v t) j = Tbl.get dflt t j := by
  unfold Tbl.put
  split
  · exact Tbl.get_erase_ne dflt h t
  · exact Tbl.get_insert_ne dflt v h t

/-- Below the first key of a rising table nothing is listed. -/
theorem Tbl.get_below (dflt : α) {t : Tbl α} {lo k : Nat} (ht : Tbl.rising lo t = true) (hk : k < lo) :
    Tbl.get dflt t k = dflt := by
  induction t generalizing lo with
  | nil => rfl
  | cons p rest ih =>
    obtain ⟨i, w⟩ := p
    simp only [Tbl.rising, Bool.and_eq_true, decide_eq_true_eq] at ht
    have h1 : i ≠ k := by omega
    simp only [Tbl.get, h1, if_false]
    exact ih ht.2 (by omega)

/-- A removed key is not listed. -/
theorem Tbl.get_erase_self (dflt : α) {t : Tbl α} {lo : Nat} (ht : Tbl.rising lo t = true) (k : Nat) :
    Tbl.get dflt (Tbl.erase k t) k = dflt := by
  induction t generalizing lo with
  | nil => rfl
  | cons p rest ih =>
    obtain ⟨i, w⟩ := p
    simp only [Tbl.rising, Bool.and_eq_true, decide_eq_true_eq] at ht
    simp only [Tbl.erase]
    split
    · rename_i h1
      exact Tbl.get_below dflt ht.2 (by omega)
    · rename_i h1
      simp only [Tbl.get, h1, if_false]
      exact ih ht.2

/-- A write to a rising table is read back. -/
theorem Tbl.get_put_self [DecidableEq α] (dflt v : α) {t : Tbl α} (ht : Tbl.rising 0 t = true) (k : Nat) :
    Tbl.get dflt (Tbl.put dflt k v t) k = v := by
  unfold Tbl.put
  split
  · rename_i h
    rw [Tbl.get_erase_self dflt ht, h]
  · exact Tbl.get_insert_self dflt v k t

/-- A value that an unlisted key does not read as is read back from any table. -/
theorem Tbl.get_put_of_ne [DecidableEq α] {dflt v : α} (h : v ≠ dflt) (t : Tbl α) (k : Nat) :
    Tbl.get dflt (Tbl.put dflt k v t) k = v := by
  unfold Tbl.put
  rw [if_neg h]
  exact Tbl.get_insert_self dflt v k t

/-! ### The canonical form -/

theorem Tbl.rising_mono {t : Tbl α} {a b : Nat} (h : a ≤ b) (ht : Tbl.rising b t = true) : Tbl.rising a t = true := by
  cases t with
  | nil => rfl
  | cons p rest =>
    obtain ⟨i, w⟩ := p
    simp only [Tbl.rising, Bool.and_eq_true, decide_eq_true_eq] at ht ⊢
    exact ⟨by omega, ht.2⟩

theorem Tbl.rising_insert {t : Tbl α} {lo k : Nat} (v : α) (ht : Tbl.rising lo t = true) (hk : lo ≤ k) :
    Tbl.rising lo (Tbl.insert k v t) = true := by
  induction t generalizing lo with
  | nil => simp [Tbl.insert, Tbl.rising, hk]
  | cons p rest ih =>
    obtain ⟨i, w⟩ := p
    simp only [Tbl.rising, Bool.and_eq_true, decide_eq_true_eq] at ht
    simp only [Tbl.insert]
    split
    · simp only [Tbl.rising, Bool.and_eq_true, decide_eq_true_eq]
      exact ⟨hk, by omega, ht.2⟩
    · split
      · rename_i _ h
        subst h
        simp only [Tbl.rising, Bool.and_eq_true, decide_eq_true_eq]
        exact ht
      · simp only [Tbl.rising, Bool.and_eq_true, decide_eq_true_eq]
        exact ⟨ht.1, ih ht.2 (by omega)⟩

theorem Tbl.rising_erase {t : Tbl α} {lo : Nat} (ht : Tbl.rising lo t = true) (k : Nat) :
    Tbl.rising lo (Tbl.erase k t) = true := by
  induction t generalizing lo with
  | nil => rfl
  | cons p rest ih =>
    obtain ⟨i, w⟩ := p
    simp only [Tbl.rising, Bool.and_eq_true, decide_eq_true_eq] at ht
    simp only [Tbl.erase]
    split
    · exact Tbl.rising_mono (by omega) ht.2
    · simp only [Tbl.rising, Bool.and_eq_true, decide_eq_true_eq]
      exact ⟨ht.1, ih ht.2⟩

variable [DecidableEq α]

theorem Tbl.noDefault_insert {dflt v : α} (h : v ≠ dflt) {t : Tbl α} (ht : Tbl.noDefault dflt t = true) (k : Nat) :
    Tbl.noDefault dflt (Tbl.insert k v t) = true := by
  induction t with
  | nil => simp [Tbl.insert, Tbl.noDefault, h]
  | cons p rest ih =>
    obtain ⟨i, w⟩ := p
    simp only [Tbl.noDefault, Bool.and_eq_true] at ht
    simp only [Tbl.insert]
    split
    · simp [Tbl.noDefault, h, ht.2]
      simpa using ht.1
    · split
      · simp [Tbl.noDefault, h, ht.2]
      · simp only [Tbl.noDefault, Bool.and_eq_true]
        exact ⟨ht.1, ih ht.2⟩

theorem Tbl.noDefault_erase {dflt : α} {t : Tbl α} (ht : Tbl.noDefault dflt t = true) (k : Nat) :
    Tbl.noDefault dflt (Tbl.erase k t) = true := by
  induction t with
  | nil => rfl
  | cons p rest ih =>
    obtain ⟨i, w⟩ := p
    simp only [Tbl.noDefault, Bool.and_eq_true] at ht
    simp only [Tbl.erase]
    split
    · exact ht.2
    · simp only [Tbl.noDefault, Bool.and_eq_true]
      exact ⟨ht.1, ih ht.2⟩

/-- A write keeps the canonical form. -/
theorem Tbl.wf_put {dflt : α} {t : Tbl α} (ht : Tbl.wf dflt t = true) (k : Nat) (v : α) :
    Tbl.wf dflt (Tbl.put dflt k v t) = true := by
  simp only [Tbl.wf, Bool.and_eq_true] at ht ⊢
  unfold Tbl.put
  split
  · exact ⟨Tbl.rising_erase ht.1 k, Tbl.noDefault_erase ht.2 k⟩
  · rename_i h
    exact ⟨Tbl.rising_insert v ht.1 (Nat.zero_le k), Tbl.noDefault_insert h ht.2 k⟩

/-- A change keeps the canonical form. -/
theorem Tbl.wf_upd {dflt : α} {t : Tbl α} (ht : Tbl.wf dflt t = true) (k : Nat) (f : α → α) :
    Tbl.wf dflt (Tbl.upd dflt k f t) = true := Tbl.wf_put ht k _

/-! ### Searches and counts -/

/-- What a search finds passes its test. -/
theorem firstThat_passes {β : Type} {p : β → Bool} : ∀ {l : List β} {x : β}, firstThat l p = some x → p x = true
  | a :: l, x, h => by
    unfold firstThat at h
    split at h
    · cases h; assumption
    · exact firstThat_passes h

/-- Where nothing in a list passes, the search goes on to what is appended. -/
theorem firstThat_append_one {β : Type} {p : β → Bool} {x : β} (hx : p x = true) :
    ∀ {l : List β}, firstThat l p = none → firstThat (l ++ [x]) p = some x
  | [], _ => by simp [firstThat, hx]
  | a :: l, h => by
    simp only [List.cons_append, firstThat] at h ⊢
    split at h
    · cases h
    · rename_i h'; simp [h', firstThat_append_one hx h]

/-- A count is at most the length. -/
theorem countWhere_le_length {β : Type} (p : β → Bool) : ∀ l : List β, countWhere l p ≤ l.length
  | [] => Nat.le_refl _
  | a :: l => by
    have := countWhere_le_length p l
    simp only [countWhere, List.length_cons]
    split <;> omega

end Sys2Proof.Machine
end

