-- ==== Sys2Proof/Laws/Fuses.lean ====
section
/-! SUPPORT. What each operation of the chip does to the fuses: most leave them as they are, and the rest only burn (R441 to
R448, R462). -/

namespace Sys2Proof.Machine

/-! ### Burning -/

theorem bitsIn_refl (a : Nat) : bitsIn a a := Nat.and_self a

theorem bitsIn_trans {a b c : Nat} (h : bitsIn a b) (g : bitsIn b c) : bitsIn a c := by
  unfold bitsIn at *
  rw [← h, Nat.and_assoc, g]

theorem bitsIn_or (a b : Nat) : bitsIn a (a ||| b) := by
  apply Nat.eq_of_testBit_eq
  intro i
  simp only [Nat.testBit_and, Nat.testBit_or]
  cases a.testBit i <;> simp

theorem bitsIn_ones {a : Nat} (h : a < 2 ^ 16) : bitsIn a 0xFFFF := by
  have : a &&& (2 ^ 16 - 1) = a % 2 ^ 16 := Nat.and_two_pow_sub_one_eq_mod a 16
  unfold bitsIn
  rw [show (0xFFFF : Nat) = 2 ^ 16 - 1 from rfl, this, Nat.mod_eq_of_lt h]

theorem Fuses.burnsTo_refl (f : Fuses) : f.burnsTo f :=
  ⟨rfl, rfl, rfl, bitsIn_refl _, Nat.le_refl _, Nat.le_refl _, fun _ => bitsIn_refl _, fun _ _ h => h⟩

theorem Fuses.burnsTo_trans {f g h : Fuses} (a : f.burnsTo g) (b : g.burnsTo h) : f.burnsTo h := by
  obtain ⟨a1, a2, a3, a4, a5, a6, a7, a8⟩ := a
  obtain ⟨b1, b2, b3, b4, b5, b6, b7, b8⟩ := b
  exact ⟨a1.trans b1, a2.trans b2, a3.trans b3, bitsIn_trans a4 b4, Nat.le_trans a5 b5, Nat.le_trans a6 b6,
    fun k => bitsIn_trans (a7 k) (b7 k), fun k x h => b8 k x (a8 k x h)⟩

/-- From one chip to another, fuses only burn, and their words keep their width. -/
def Chip.burns (c e : Chip) : Prop :=
  c.nv.fuses.wordsFit → e.nv.fuses.wordsFit ∧ c.nv.fuses.burnsTo e.nv.fuses

theorem Chip.burns_of_eq {c e : Chip} (h : e.nv.fuses = c.nv.fuses) : c.burns e := fun w => by
  rw [h]; exact ⟨w, Fuses.burnsTo_refl _⟩

theorem Chip.burns_trans {c e g : Chip} (h : c.burns e) (k : e.burns g) : c.burns g := fun w =>
  ⟨(k (h w).1).1, Fuses.burnsTo_trans (h w).2 (k (h w).1).2⟩

theorem Chip.burns_ite {c e g : Chip} {p : Prop} [Decidable p] (h : c.burns e) (k : c.burns g) :
    c.burns (if p then e else g) := by split <;> assumption

/-! ### The fuses themselves -/

theorem Fuses.get_burnLc_self (f : Fuses) (s : Nat) : Tbl.get 0 (f.burnLc s).lc s = 0xFFFF :=
  Tbl.get_put_of_ne (dflt := 0) (v := 0xFFFF) (by decide) f.lc s

theorem Fuses.get_burnLc_ne (f : Fuses) {s k : Nat} (h : k ≠ s) : Tbl.get 0 (f.burnLc s).lc k = Tbl.get 0 f.lc k :=
  Tbl.get_put_ne 0 0xFFFF h f.lc

/-- Burning a lifecycle word burns. -/
theorem Fuses.burnLc_burns {f : Fuses} (w : f.wordsFit) (s : Nat) : (f.burnLc s).wordsFit ∧ f.burnsTo (f.burnLc s) := by
  refine ⟨fun k => ?_, rfl, rfl, rfl, bitsIn_refl _, Nat.le_refl _, Nat.le_refl _, fun k => ?_, fun _ _ h => h⟩
  · by_cases h : k = s
    · subst h; rw [Fuses.get_burnLc_self]; decide
    · rw [Fuses.get_burnLc_ne f h]; exact w k
  · by_cases h : k = s
    · subst h; rw [Fuses.get_burnLc_self]; exact bitsIn_ones (w k)
    · rw [Fuses.get_burnLc_ne f h]; exact bitsIn_refl _

/-- Burning an OWNER slot burns: a written slot keeps its digest. -/
theorem Fuses.burnOwner_burns {f : Fuses} (w : f.wordsFit) (slot digest : Nat) :
    (f.burnOwner slot digest).wordsFit ∧ f.burnsTo (f.burnOwner slot digest) := by
  unfold Fuses.burnOwner
  split
  · exact ⟨w, Fuses.burnsTo_refl f⟩
  · rename_i h
    refine ⟨w, rfl, rfl, rfl, bitsIn_refl _, Nat.le_refl _, Nat.le_refl _, fun _ => bitsIn_refl _, fun k x hk => ?_⟩
    have : k ≠ slot := fun e => by rw [e, h] at hk; cases hk
    exact (Tbl.get_put_ne none (some digest) this f.owner).trans hk

/-- Completing torn words burns. -/
theorem Fuses.repair_burns {f : Fuses} (w : f.wordsFit) : f.repair.wordsFit ∧ f.burnsTo f.repair := by
  have step : ∀ (l : List Nat) (f : Fuses), f.wordsFit →
      (forEach l (fun s (f : Fuses) => if f.torn s then f.burnLc s else f) f).wordsFit ∧
      f.burnsTo (forEach l (fun s (f : Fuses) => if f.torn s then f.burnLc s else f) f) := by
    intro l
    induction l with
    | nil => exact fun f w => ⟨w, Fuses.burnsTo_refl f⟩
    | cons s l ih =>
      intro f w
      have h1 : (if f.torn s then f.burnLc s else f).wordsFit ∧ f.burnsTo (if f.torn s then f.burnLc s else f) := by
        split
        · exact Fuses.burnLc_burns w s
        · exact ⟨w, Fuses.burnsTo_refl f⟩
      exact ⟨(ih _ h1.1).1, Fuses.burnsTo_trans h1.2 (ih _ h1.1).2⟩
  exact step _ f w

theorem countWhere_mono {p q : Nat → Bool} (h : ∀ k, p k = true → q k = true) (l : List Nat) :
    countWhere l p ≤ countWhere l q := by
  induction l with
  | nil => exact Nat.le_refl _
  | cons k l ih =>
    simp only [countWhere]
    have := h k
    cases hp : p k <;> cases hq : q k <;> simp_all <;> omega

/-- A word with more bits burnt counts as burnt if the other does. -/
theorem burntBits_mono {a b : Nat} (h : bitsIn a b) : burntBits a ≤ burntBits b := by
  refine countWhere_mono (fun k hk => ?_) _
  simp only [flag] at hk ⊢
  rw [← h, Nat.testBit_and] at hk
  simp only [Bool.and_eq_true] at hk
  exact hk.2

/-- LC never reads an earlier state once fuses burn (R444). -/
theorem Fuses.state_mono {f g : Fuses} (h : f.burnsTo g) : f.state ≤ g.state := by
  have m : ∀ s, 9 ≤ burntBits (Tbl.get 0 f.lc s) → 9 ≤ burntBits (Tbl.get 0 g.lc s) := fun s hs =>
    Nat.le_trans hs (burntBits_mono (h.2.2.2.2.2.2.1 s))
  have all : ∀ a b c e a' b' c' e' : Bool, (a = true → a' = true) → (b = true → b' = true) → (c = true → c' = true) →
      (e = true → e' = true) →
      ((if a = true then some 4 else if b = true then some 3 else if c = true then some 2
        else if e = true then some 1 else none).getD 0 : Nat) ≤
      (if a' = true then some 4 else if b' = true then some 3 else if c' = true then some 2
        else if e' = true then some 1 else none).getD 0 := by decide
  exact all _ _ _ _ _ _ _ _ (by simpa using m 4) (by simpa using m 3) (by simpa using m 2) (by simpa using m 1)

/-! ### Operations of the chip -/

theorem Chip.burns_refl (c : Chip) : c.burns c := Chip.burns_of_eq rfl
theorem Chip.burns_map (c : Chip) (f : Dev → Dev) : c.burns (c.map f) := Chip.burns_of_eq rfl
theorem Chip.burns_dev (c : Chip) (d : Dev) : c.burns { c with dev := d } := Chip.burns_of_eq rfl
theorem Chip.burns_then {c e : Chip} (h : c.burns e) (f : Dev → Dev) : c.burns (e.map f) :=
  Chip.burns_trans h (Chip.burns_map e f)

theorem Chip.burns_fuses {c : Chip} {f : Fuses} (d : Dev)
    (h : c.nv.fuses.wordsFit → f.wordsFit ∧ c.nv.fuses.burnsTo f) : c.burns ⟨d, { c.nv with fuses := f }⟩ := h

theorem burns_forEach {α : Type} {f : α → Chip → Chip} (h : ∀ a c, Chip.burns c (f a c)) :
    ∀ (l : List α) (c : Chip), c.burns (forEach l f c)
  | [], c => Chip.burns_refl c
  | a :: l, c => Chip.burns_trans (h a c) (burns_forEach h l (f a c))

/-- A violation counts in the NVM and burns nothing. -/
theorem Chip.violation_burns (c : Chip) (classA : Bool) (cause : Nat) : c.burns (c.violation classA cause) := by
  unfold Chip.violation
  cases classA <;> exact Chip.burns_of_eq rfl

theorem Chip.kilnAccess_burns (c : Chip) : c.burns c.kilnAccess := Chip.burns_then (Chip.violation_burns c false 6) _

theorem Chip.badTransition_burns (c : Chip) : c.burns c.badTransition.2 :=
  Chip.burns_then (Chip.violation_burns c _ 5) _

/-- An accepted transition burns its word, and a first owner key. -/
theorem Chip.burnTransition_burns (c : Chip) (state : Nat) (owner : Option Nat) : c.burns (c.burnTransition state owner) := by
  intro w
  unfold Chip.burnTransition
  cases owner with
  | none => exact Fuses.burnLc_burns w state
  | some digest =>
    have h := Fuses.burnOwner_burns w 0 digest
    have k := Fuses.burnLc_burns h.1 state
    exact ⟨k.1, Fuses.burnsTo_trans h.2 k.2⟩

/-- OWNER_ROTATE burns a free slot and a revoke fuse. -/
theorem Chip.rotate_burns (c : Chip) (key : Nat) : c.burns (c.rotate key).2 := by
  intro w
  unfold Chip.rotate
  cases c.nv.fuses.freeOwner with
  | none => exact ⟨w, Fuses.burnsTo_refl _⟩
  | some slot =>
    have h := Fuses.burnOwner_burns w slot (keyDigest key)
    cases c.nv.fuses.activeOwner with
    | none => exact h
    | some k =>
      refine ⟨h.1, Fuses.burnsTo_trans h.2 ⟨rfl, rfl, rfl, bitsIn_or _ _, Nat.le_refl _, Nat.le_refl _,
        fun _ => bitsIn_refl _, fun _ _ h => h⟩⟩

theorem Chip.statementDo_burns (c : Chip) (w sig : Nat) : c.burns (c.statementDo w sig).2 := by
  have h0 : c.burns (c.map (fun d => { d with se := { d.se with nonce := none } })) := Chip.burns_map c _
  unfold Chip.statementDo
  extract_lets msg e life
  refine Chip.burns_trans h0 ?_
  show Chip.burns e _
  split
  · split
    · exact Chip.burns_map e _
    · split
      · exact Chip.burns_map e _
      · exact Chip.burns_then (Chip.violation_burns e _ 4) _
  · split
    · split
      · exact Chip.rotate_burns e _
      · exact Chip.badTransition_burns e
    · split
      · exact Chip.badTransition_burns e
      · split
        · exact Chip.burns_map e _
        · exact Chip.badTransition_burns e

theorem Chip.statement_burns (c : Chip) (w sig : Nat) : c.burns (c.statement w sig).2 := by
  unfold Chip.statement
  extract_lets status
  split
  · exact Chip.statementDo_burns c w sig
  · exact Chip.burns_map c _

theorem Chip.enroll_burns (c : Chip) (key : Nat) : c.burns (c.enroll key).2 := by
  unfold Chip.enroll
  split
  · exact Chip.burns_map c _
  · split
    · exact Chip.burns_map c _
    · exact Chip.badTransition_burns c

/-- Step 2 of a start completes torn words. -/
theorem Chip.lifeStep_burns (c : Chip) : c.burns c.lifeStep := by
  have h0 : ∀ d : Dev, c.burns ⟨d, { c.nv with fuses := c.nv.fuses.repair }⟩ := fun d =>
    Chip.burns_fuses d (fun w => Fuses.repair_burns w)
  have h1 : ∀ (p : Prop) [Decidable p] (d e : Dev), c.burns (if p then Chip.mk d { c.nv with fuses := c.nv.fuses.repair }
      else ⟨e, { c.nv with fuses := c.nv.fuses.repair }⟩) := fun p _ d e => Chip.burns_ite (h0 d) (h0 e)
  unfold Chip.lifeStep
  exact Chip.burns_then (Chip.burns_ite (Chip.burns_trans (h1 _ _ _) (Chip.violation_burns _ true 5)) (h1 _ _ _)) _

/-- A boot record and a settings page burn no fuse. -/
theorem NvUnit.putBoot_fuses (n : NvUnit) (b : BootRec) : (n.putBoot b).fuses = n.fuses := by
  unfold NvUnit.putBoot; split <;> rfl

theorem NvUnit.putPage_fuses (n : NvUnit) (k : Nat) (page : SetPage) : (n.putPage k page).fuses = n.fuses := by
  unfold NvUnit.putPage; split <;> rfl

theorem Chip.bootStep_burns (c : Chip) : c.burns c.bootStep := by
  refine Chip.burns_of_eq ?_
  simp only [Chip.bootStep]
  split
  · exact NvUnit.putBoot_fuses _ _
  · exact NvUnit.putBoot_fuses _ _

theorem Chip.fwStep_burns (c : Chip) (flashFail : Bool) : c.burns (c.fwStep flashFail) := by
  unfold Chip.fwStep
  extract_lets d code e
  split
  · exact Chip.burns_map c _
  · exact Chip.burns_then (Chip.burns_ite (Chip.burns_trans (Chip.burns_map c _) (Chip.violation_burns _ false 1))
      (Chip.burns_ite (Chip.burns_trans (Chip.burns_map c _) (Chip.violation_burns _ false 3)) (Chip.burns_refl c))) _

theorem Chip.cfgStep_burns (c : Chip) (flashFail copyBad : Bool) : c.burns (c.cfgStep flashFail copyBad) := by
  unfold Chip.cfgStep
  extract_lets d kept code r image e
  split
  · exact Chip.burns_map c _
  · exact Chip.burns_then (Chip.burns_ite (Chip.burns_trans (Chip.burns_map c _) (Chip.violation_burns _ _ 2))
      (Chip.burns_ite (Chip.burns_trans (Chip.burns_map c _) (Chip.violation_burns _ _ 3)) (Chip.burns_refl c))) _

/-- Entering RUNNING burns SVN fuses. -/
theorem Chip.running_burns (c : Chip) : c.burns c.running := fun w => by
  simp only [Chip.running, NvUnit.putBoot_fuses]
  exact ⟨w, rfl, rfl, rfl, bitsIn_refl _, Nat.le_max_left _ _, Nat.le_max_left _ _, fun _ => bitsIn_refl _, fun _ _ h => h⟩

theorem Chip.applyStep_burns (c : Chip) : c.burns c.applyStep := by
  unfold Chip.applyStep
  split
  · exact Chip.burns_trans (Chip.burns_dev c _) (Chip.running_burns _)
  · exact Chip.burns_map c _

theorem Chip.stepDone_burns (c : Chip) (e : StepEnd) : c.burns (c.stepDone e) := by
  have h0 : c.burns (c.map (fun d => d.stepTimed e.ms)) := Chip.burns_map c _
  unfold Chip.stepDone
  extract_lets t
  split
  · exact Chip.burns_refl c
  · split
    · exact Chip.burns_then h0 _
    · exact Chip.burns_trans h0 (Chip.lifeStep_burns _)
    · exact Chip.burns_trans h0 (Chip.bootStep_burns _)
    · exact Chip.burns_then h0 _
    · exact Chip.burns_then h0 _
    · exact Chip.burns_trans h0 (Chip.fwStep_burns _ _)
    · exact Chip.burns_trans h0 (Chip.cfgStep_burns _ _ _)
    · exact Chip.burns_trans h0 (Chip.applyStep_burns _)
    · exact Chip.burns_refl c

theorem Chip.stableReached_burns (c : Chip) : c.burns c.stableReached :=
  Chip.burns_ite (Chip.burns_of_eq (NvUnit.putBoot_fuses _ _)) (Chip.burns_refl c)

theorem Chip.storeSettings_burns (c : Chip) : c.burns c.storeSettings.2 := by
  unfold Chip.storeSettings
  extract_lets status
  split
  · exact Chip.burns_of_eq (NvUnit.putPage_fuses _ _ _)
  · exact Chip.burns_map c _

theorem Chip.storeDone_burns (c : Chip) (ok : Bool) : c.burns (c.storeDone ok) := by
  unfold Chip.storeDone
  split
  · exact Chip.burns_refl c
  · exact Chip.burns_of_eq (NvUnit.putPage_fuses _ _ _)

theorem Chip.btCmd_burns (c : Chip) (v : Nat) : c.burns (c.btCmd v).2 := by
  unfold Chip.btCmd
  extract_lets nv nv2 e
  have h0 : c.burns e := Chip.burns_of_eq (by
    show nv2.fuses = _
    have h1 : nv.fuses = c.nv.fuses := by
      show (if flag v 1 = true then _ else _ : NvUnit).fuses = _
      split
      · exact NvUnit.putBoot_fuses _ _
      · rfl
    show (if flag v 2 = true then _ else _ : NvUnit).fuses = _
    split
    · exact (NvUnit.putBoot_fuses _ _).trans h1
    · exact h1)
  have h1 : c.burns (if flag v 4 = true then e.storeSettings else (ebOk, e)).2 := by
    split
    · exact Chip.burns_trans h0 (Chip.storeSettings_burns e)
    · exact h0
  revert h1
  generalize (if flag v 4 = true then e.storeSettings else (ebOk, e)) = p
  obtain ⟨st, g⟩ := p
  intro h1
  have h2 : c.burns (if flag v 5 = true then { g with nv := g.nv.eraseSettings } else g) :=
    Chip.burns_ite (Chip.burns_trans h1 (Chip.burns_of_eq rfl)) h1
  exact Chip.burns_ite (Chip.burns_then h2 _) h2

theorem Chip.ctlWrite_burns (c : Chip) (path addr bytes value : Nat) : c.burns (c.ctlWrite path addr bytes value).2 := by
  unfold Chip.ctlWrite
  split
  · exact Chip.burns_map c _
  · split
    · exact Chip.btCmd_burns c value
    · exact Chip.burns_dev c _

theorem Chip.registerWrite_burns (c : Chip) (path : RegPath) (bytes value : Nat) :
    c.burns (c.registerWrite path bytes value) := by
  cases path with
  | core addr => exact Chip.burns_ite (Chip.ctlWrite_burns c _ _ _ _) (Chip.burns_refl c)
  | control h off => exact Chip.burns_map c _
  | door h ep off => exact Chip.burns_map c _

/-! ### Eboury commands -/

theorem Chip.eboury_burns (c : Chip) (bytes : List Byte) (ops : Nat → Bool) (serve : EbFrame → Chip → Chip)
    (h : ∀ f e, Chip.burns e (serve f e)) : c.burns (c.eboury bytes ops serve) := by
  unfold Chip.eboury
  split
  · exact Chip.burns_ite (Chip.burns_trans (Chip.burns_dev c _) (h _ _)) (Chip.burns_refl c)
  · exact Chip.burns_dev c _

theorem Chip.serveStatus_burns (c : Chip) (ms : Nat) (t : List Int) (f : EbFrame) : c.burns (c.serveStatus ms t f) :=
  Chip.burns_ite (Chip.burns_of_eq rfl) (Chip.burns_map c _)

theorem Chip.serveFaultRead_burns (c : Chip) (f : EbFrame) : c.burns (c.serveFaultRead f) :=
  Chip.burns_ite (Chip.burns_then (Chip.burns_ite (Chip.burns_map c _) (Chip.burns_refl c)) _) (Chip.burns_map c _)

theorem Chip.serveTemp_burns (c : Chip) (t : List Int) (f : EbFrame) : c.burns (c.serveTemp t f) :=
  Chip.burns_ite (Chip.burns_of_eq rfl) (Chip.burns_map c _)

theorem Chip.serveSlotOff_burns (c : Chip) (f : EbFrame) : c.burns (c.serveSlotOff f) :=
  Chip.burns_ite (Chip.burns_of_eq rfl) (Chip.burns_map c _)

theorem Chip.serveSparge_burns (c : Chip) (f : EbFrame) : c.burns (c.serveSparge f) :=
  Chip.burns_ite (Chip.burns_map c _) (Chip.burns_ite (Chip.burns_map c _)
    (Chip.burns_ite (Chip.burns_map c _) (Chip.burns_map c _)))

theorem Chip.serveResetReq_burns (c : Chip) (f : EbFrame) : c.burns (c.serveResetReq f) :=
  Chip.burns_ite (Chip.burns_of_eq rfl) (Chip.burns_map c _)

theorem Chip.serveRegRead_burns (c : Chip) (f : EbFrame) : c.burns (c.serveRegRead f) :=
  Chip.burns_ite (Chip.burns_of_eq rfl) (Chip.burns_map c _)

theorem Chip.serveRegWrite_burns (c : Chip) (f : EbFrame) : c.burns (c.serveRegWrite f) :=
  Chip.burns_ite (Chip.burns_then (Chip.ctlWrite_burns c _ _ _ _) _) (Chip.burns_map c _)

theorem Chip.serveMh_burns (c : Chip) (f : EbFrame) : c.burns (c.serveMh f) :=
  Chip.burns_ite (Chip.burns_map c _) (Chip.burns_map c _)

theorem Chip.serveChallenge_burns (c : Chip) (f : EbFrame) : c.burns (c.serveChallenge f) :=
  Chip.burns_ite (Chip.burns_of_eq rfl) (Chip.burns_map c _)

theorem Chip.serveAttest_burns (c : Chip) (f : EbFrame) : c.burns (c.serveAttest f) :=
  Chip.burns_ite (Chip.burns_map c _) (Chip.burns_ite (Chip.burns_map c _) (Chip.burns_of_eq rfl))

theorem Chip.serveCert_burns (c : Chip) (f : EbFrame) : c.burns (c.serveCert f) :=
  Chip.burns_ite (Chip.burns_map c _) (Chip.burns_map c _)

theorem Chip.serveEnroll_burns (c : Chip) (f : EbFrame) : c.burns (c.serveEnroll f) :=
  Chip.burns_ite (Chip.burns_then (Chip.enroll_burns c _) _) (Chip.burns_map c _)

theorem Chip.serveStatement_burns (c : Chip) (f : EbFrame) : c.burns (c.serveStatement f) :=
  Chip.burns_ite (Chip.burns_then (Chip.statement_burns c _ _) _) (Chip.burns_map c _)

theorem Chip.serveFlashRead_burns (c : Chip) (fail : Bool) (f : EbFrame) : c.burns (c.serveFlashRead fail f) :=
  Chip.burns_ite (Chip.burns_map c _) (Chip.burns_ite (Chip.burns_of_eq rfl) (Chip.burns_map c _))

theorem Chip.startFlash_burns (c : Chip) (f : EbFrame) (addr len : Nat) (data : List Byte) :
    c.burns (c.startFlash f addr len data) := Chip.burns_dev c _

theorem Chip.serveFlashErase_burns (c : Chip) (f : EbFrame) : c.burns (c.serveFlashErase f) :=
  Chip.burns_ite (Chip.burns_map c _) (Chip.burns_ite (Chip.startFlash_burns c _ _ _ _) (Chip.burns_map c _))

theorem Chip.serveFlashWrite_burns (c : Chip) (f : EbFrame) : c.burns (c.serveFlashWrite f) :=
  Chip.burns_ite (Chip.burns_map c _) (Chip.burns_ite (Chip.startFlash_burns c _ _ _ _) (Chip.burns_map c _))

theorem NvUnit.program_fuses (n : NvUnit) (addr : Nat) (l : List Byte) : (n.program addr l).fuses = n.fuses := by
  induction l generalizing n addr with
  | nil => rfl
  | cons b l ih => exact (ih _ _).trans rfl

theorem Chip.flashDone_burns (c : Chip) (fail : Bool) : c.burns (c.flashDone fail) := by
  unfold Chip.flashDone
  split
  · exact Chip.burns_refl c
  · refine Chip.burns_of_eq ?_
    dsimp only
    split
    · rfl
    · split
      · rfl
      · exact NvUnit.program_fuses _ _ _

theorem Chip.serveBootCtl_burns (c : Chip) (f : EbFrame) : c.burns (c.serveBootCtl f) :=
  Chip.burns_ite (Chip.burns_map c _) (Chip.burns_ite (Chip.burns_map c _)
    (Chip.burns_trans (Chip.burns_map c _) (Chip.btCmd_burns _ _)))

theorem Chip.serveStore_burns (c : Chip) (f : EbFrame) : c.burns (c.serveStore f) :=
  Chip.burns_ite (Chip.burns_then (Chip.storeSettings_burns c) _) (Chip.burns_map c _)

theorem Chip.debug_burns (c : Chip) (scope : Nat) (f : EbFrame) (serve : Chip → Chip) (h : c.burns (serve c)) :
    c.burns (c.debug scope f serve) :=
  Chip.burns_ite (Chip.burns_map c _) (Chip.burns_ite (Chip.burns_map c _) (Chip.burns_then h _))

theorem Chip.serveDbgRead_burns (c : Chip) (kiln : Bool) (f : EbFrame) : c.burns (c.serveDbgRead kiln f) := by
  refine Chip.burns_ite (Chip.burns_map c _) (Chip.debug_burns c _ f _ ?_)
  cases kiln
  · exact Chip.burns_of_eq rfl
  · exact Chip.burns_then (Chip.kilnAccess_burns c) _

theorem Chip.serveDbgWrite_burns (c : Chip) (kiln : Bool) (f : EbFrame) : c.burns (c.serveDbgWrite kiln f) := by
  refine Chip.burns_ite (Chip.burns_map c _) (Chip.debug_burns c _ f _ ?_)
  exact Chip.burns_then (Chip.burns_ite (Chip.kilnAccess_burns c) (Chip.burns_refl c)) _

theorem Chip.serveDbgCore_burns (c : Chip) (action : Nat) (f : EbFrame) : c.burns (c.serveDbgCore action f) :=
  Chip.burns_ite (Chip.burns_map c _) (Chip.burns_ite (Chip.burns_refl c)
    (Chip.debug_burns c _ f _ (Chip.burns_of_eq rfl)))

theorem Chip.serveUnknown_burns (c : Chip) (f : EbFrame) : c.burns (c.serveUnknown f) := Chip.burns_of_eq rfl

theorem Chip.serve_burns (c : Chip) (x : EbInputs) (f : EbFrame) : c.burns (c.serve x f) := by
  unfold Chip.serve
  split
  · exact Chip.serveStatus_burns c _ _ f
  · exact Chip.serveFaultRead_burns c f
  · exact Chip.serveTemp_burns c _ f
  · exact Chip.serveSlotOff_burns c f
  · exact Chip.serveSparge_burns c f
  · exact Chip.serveResetReq_burns c f
  · exact Chip.serveRegRead_burns c f
  · exact Chip.serveRegWrite_burns c f
  · exact Chip.serveMh_burns c f
  · exact Chip.serveChallenge_burns c f
  · exact Chip.serveAttest_burns c f
  · exact Chip.serveCert_burns c f
  · exact Chip.serveEnroll_burns c f
  · exact Chip.serveStatement_burns c f
  · exact Chip.serveFlashRead_burns c _ f
  · exact Chip.serveFlashErase_burns c f
  · exact Chip.serveFlashWrite_burns c f
  · exact Chip.serveBootCtl_burns c f
  · exact Chip.serveStore_burns c f
  · exact Chip.serveDbgRead_burns c _ f
  · exact Chip.serveDbgWrite_burns c _ f
  · exact Chip.serveDbgCore_burns c _ f
  · exact Chip.serveUnknown_burns c f

theorem Chip.legacyI2c_burns (c : Chip) (write : Option (List Byte)) (x : EbInputs) : c.burns (c.legacyI2c write x) := by
  unfold Chip.legacyI2c
  split
  · exact Chip.burns_refl c
  · have h0 : ∀ e : Chip, c.burns e → c.burns (match write with
        | some bytes => e.eboury bytes (fun _ => true) (fun f c => c.serve x f)
        | none => e.map (fun d => d.responseRead true)) := by
      intro e h
      cases write with
      | none => exact Chip.burns_then h _
      | some bytes => exact Chip.burns_trans h (Chip.eboury_burns e _ _ _ (fun f e => Chip.serve_burns e x f))
    exact h0 _ (Chip.burns_ite (Chip.burns_refl c) (Chip.burns_map c _))

/-- A sparge that reads back clean may burn a transition. -/
theorem Chip.spargeDone_burns (c : Chip) (clean : Bool) : c.burns (c.spargeDone clean) := by
  unfold Chip.spargeDone
  split
  · exact Chip.burns_refl c
  · rename_i why _
    refine Chip.burns_ite ?_ ?_
    · have h0 : ∀ d : Dev, c.burns { c with dev := d } := Chip.burns_dev c
      unfold Chip.spargeClean
      refine Chip.burns_then ?_ _
      cases why with
      | command tag => exact Chip.burns_then (h0 _) _
      | transition state owner => exact Chip.burns_then (Chip.burns_trans (h0 _) (Chip.burnTransition_burns _ _ _)) _
      | alarm => exact h0 _
      | repair => exact h0 _
    · unfold Chip.spargeAgain
      cases why <;> exact Chip.burns_of_eq rfl

theorem Chip.btCommand_burns (c : Chip) (via : BtFrom) : c.burns (c.btCommand via) := by
  cases via with
  | core value => exact Chip.burns_ite (Chip.ctlWrite_burns c _ _ _ _) (Chip.burns_refl c)
  | frame bytes =>
    refine Chip.eboury_burns c _ _ _ (fun f e => ?_)
    exact Chip.burns_ite (Chip.serveBootCtl_burns e f) (Chip.serveStore_burns e f)

theorem Chip.malthouse_burns (c : Chip) (via : MhFrom) : c.burns (c.malthouse via) := by
  cases via with
  | queue q w => exact Chip.burns_map c _
  | frame bytes => exact Chip.eboury_burns c _ _ _ (fun f e => Chip.serveMh_burns e f)

theorem Chip.tickBoundary_burns (c : Chip) (x : TickIn) : c.burns (c.tickBoundary x) :=
  Chip.burns_ite (Chip.burns_map c _)
    (Chip.burns_trans (Chip.burns_map c _) (burns_forEach (fun _ e => Chip.kilnAccess_burns e) _ _))

/-- A command that runs an operation of the chip burns what the operation burns. -/
theorem runChip_burns {s t : State} {f : Chip → Chip} (h : ∀ c, Chip.burns c (f c)) (e : runChip s f = .next t) :
    s.chip.burns t.chip := by
  cases e
  exact Chip.burns_trans (Chip.burns_trans (Chip.burns_dev s.chip _) (h _)) (Chip.burns_dev _ _)

/-- A command that runs an operation of the device burns nothing. -/
theorem runDev_burns {s t : State} {f : Dev → Dev} (e : runDev s f = .next t) : s.chip.burns t.chip := by
  cases e
  exact Chip.burns_dev s.chip _

end Sys2Proof.Machine
end

