-- ==== Sys2Proof/Laws/Exec.lean ====
section
/-! SUPPORT. How a command's next state is computed: the four frames that every meaning runs in, and what every command can do to
the fuses. -/

namespace Sys2Proof.Machine

/-! ### The frames of the meanings -/

/-- A command that runs an operation of the device gives the device that the operation gives. -/
theorem runDev_next {s : State} {d E : Dev} {f : Dev → Dev} (hd : s.begun = d) (h : f d = E) :
    runDev s f = .next (s.after E) := by
  subst hd; subst h; rfl

/-- A command that runs an operation of the chip gives the chip that the operation gives. -/
theorem runChip_next {s : State} {c E : Chip} {f : Chip → Chip} (hc : s.begunChip = c) (h : f c = E) :
    runChip s f = .next (s.afterChip E) := by
  subst hc; subst h; rfl

/-- An operation of the chip that changes the device only. -/
theorem runChip_dev {s : State} {d E : Dev} {f : Chip → Chip} (hd : s.begun = d)
    (h : ∀ c : Chip, c.dev = d → f c = { c with dev := E }) : runChip s f = .next (s.after E) := by
  have := h s.begunChip hd
  show Host.Outcome.next _ = _
  unfold State.begunChip State.begun at this
  dsimp only
  rw [this]; rfl

/-- A frame that passes its checks is served. -/
theorem runChip_serves {s : State} {bytes : List Byte} {op : Nat} {f : EbFrame} {c : Chip} (h : s.takesFrame bytes op f c)
    {ops : Nat → Bool} {serve : EbFrame → Chip → Chip} {E : Chip} (ho : ops op = true) (he : serve f c = E) :
    runChip s (fun c => c.eboury bytes ops serve) = .next (s.afterChip E) := by
  obtain ⟨h1, h2, h3⟩ := h
  have hb : s.begunChip.dev.ebCheck bytes = (some f, c.dev) := h1
  have hc : ({ s.begunChip with dev := c.dev } : Chip) = c := by cases c; cases h3; rfl
  refine runChip_next (f := fun c => c.eboury bytes ops serve) rfl ?_
  simp only [Chip.eboury, hb, h2, ho, if_true, hc, he]

/-- A frame that fails a check is answered by the check alone. -/
theorem runChip_checks {s : State} {bytes : List Byte} {ops : Nat → Bool} {serve : EbFrame → Chip → Chip} {E : Dev}
    (h : s.begun.ebCheck bytes = (none, E)) : runChip s (fun c => c.eboury bytes ops serve) = .next (s.after E) := by
  have hb : s.begunChip.dev.ebCheck bytes = (none, E) := h
  refine runChip_next (f := fun c => c.eboury bytes ops serve) (E := { s.begunChip with dev := E }) rfl ?_
  simp only [Chip.eboury, hb]

/-- A command meets a device that has sent nothing out yet. -/
theorem State.begun_out {s : State} {d : Dev} (h : s.begun = d) : d.out = [] := by subst h; rfl

/-! ### What every command can do to the fuses -/

/-- A command that leaves the NVM as it is burns nothing. -/
theorem exec_sameNv {s t : State} {c : Instr} (h : exec c s = .next t)
    (k : ∃ u, exec c s = .next u ∧ u.chip.nv = s.chip.nv) : s.chip.burns t.chip := by
  obtain ⟨u, hu, e⟩ := k
  rw [hu] at h; cases h
  exact Chip.burns_of_eq (congrArg NvUnit.fuses e)

/-- A command that serves a frame burns what serving the frame burns. -/
theorem runChip_eboury_burns {s t : State} {bytes : List Byte} {ops : Nat → Bool} {serve : EbFrame → Chip → Chip}
    (h : runChip s (fun c => c.eboury bytes ops serve) = .next t) (k : ∀ f e, Chip.burns e (serve f e)) : s.chip.burns t.chip :=
  runChip_burns (fun c => c.eboury_burns _ _ _ k) h

/-- What every command can do to the fuses: burn. -/
theorem exec_burns (c : Instr) (s t : State) (h : exec c s = .next t) : s.chip.burns t.chip := by
  cases c
  case tickBoundary => exact runChip_burns (fun c => c.tickBoundary_burns _) h
  case registerWrite => exact runChip_burns (fun c => c.registerWrite_burns _ _ _) h
  case startStepDone => exact runChip_burns (fun c => c.stepDone_burns _) h
  case stableReached => exact runChip_burns (fun c => c.stableReached_burns) h
  case storeDone => exact runChip_burns (fun c => c.storeDone_burns _) h
  case spargeDone => exact runChip_burns (fun c => c.spargeDone_burns _) h
  case flashCommandDone => exact runChip_burns (fun c => c.flashDone_burns _) h
  case getpid => exact runChip_burns (f := fun c => c.map (fun d => d.getpid c.nv)) (fun c => c.burns_map _) h
  case legacyI2c => exact runChip_burns (fun c => c.legacyI2c_burns _ _) h
  case bind => exact runChip_burns (fun c => c.malthouse_burns _) h
  case unbind => exact runChip_burns (fun c => c.malthouse_burns _) h
  case ldAlloc => exact runChip_burns (fun c => c.malthouse_burns _) h
  case dcAdd => exact runChip_burns (fun c => c.malthouse_burns _) h
  case dcRelease => exact runChip_burns (fun c => c.malthouse_burns _) h
  case setPrefer => exact runChip_burns (fun c => c.btCommand_burns _) h
  case clearFails => exact runChip_burns (fun c => c.btCommand_burns _) h
  case restart => exact runChip_burns (fun c => c.btCommand_burns _) h
  case storeSettings => exact runChip_burns (fun c => c.btCommand_burns _) h
  case eraseSettings => exact runChip_burns (fun c => c.btCommand_burns _) h
  case seChallenge => exact runChip_eboury_burns h (fun f e => e.serveChallenge_burns f)
  case attest => exact runChip_eboury_burns h (fun f e => e.serveAttest_burns f)
  case certRead => exact runChip_eboury_burns h (fun f e => e.serveCert_burns f)
  case lcEnroll => exact runChip_eboury_burns h (fun f e => e.serveEnroll_burns f)
  case lcToMission => exact runChip_eboury_burns h (fun f e => e.serveStatement_burns f)
  case lcToReturn => exact runChip_eboury_burns h (fun f e => e.serveStatement_burns f)
  case lcToScrapped => exact runChip_eboury_burns h (fun f e => e.serveStatement_burns f)
  case ownerRotate => exact runChip_eboury_burns h (fun f e => e.serveStatement_burns f)
  case debugUnlock => exact runChip_eboury_burns h (fun f e => e.serveStatement_burns f)
  case status => exact runChip_eboury_burns h (fun f e => e.serveStatus_burns _ _ f)
  case faultRead => exact runChip_eboury_burns h (fun f e => e.serveFaultRead_burns f)
  case temp => exact runChip_eboury_burns h (fun f e => e.serveTemp_burns _ f)
  case slotOff => exact runChip_eboury_burns h (fun f e => e.serveSlotOff_burns f)
  case sparge => exact runChip_eboury_burns h (fun f e => e.serveSparge_burns f)
  case resetReq => exact runChip_eboury_burns h (fun f e => e.serveResetReq_burns f)
  case regRead => exact runChip_eboury_burns h (fun f e => e.serveRegRead_burns f)
  case regWrite => exact runChip_eboury_burns h (fun f e => e.serveRegWrite_burns f)
  case opcodeUnknown => exact runChip_eboury_burns h (fun f e => e.serveUnknown_burns f)
  case flashRead => exact runChip_eboury_burns h (fun f e => e.serveFlashRead_burns _ f)
  case flashErase => exact runChip_eboury_burns h (fun f e => e.serveFlashErase_burns f)
  case flashWrite => exact runChip_eboury_burns h (fun f e => e.serveFlashWrite_burns f)
  case dbgRead => exact runChip_eboury_burns h (fun f e => e.serveDbgRead_burns _ f)
  case dbgWrite => exact runChip_eboury_burns h (fun f e => e.serveDbgWrite_burns _ f)
  case dbgCoreHalt => exact runChip_eboury_burns h (fun f e => e.serveDbgCore_burns _ f)
  case dbgCoreStep => exact runChip_eboury_burns h (fun f e => e.serveDbgCore_burns _ f)
  case dbgCoreResume => exact runChip_eboury_burns h (fun f e => e.serveDbgCore_burns _ f)
  all_goals exact exec_sameNv h ⟨_, rfl, rfl⟩

end Sys2Proof.Machine
end

