-- ==== Sys2Proof/Laws/Fields.lean ====
section
/-! SUPPORT. Bit fields: a field that is set reads as set, and every field apart from it keeps its value (R2). -/

namespace Sys2Proof.Machine

/-- A field is below the power of its width. -/
theorem field_lt (w lo len : Nat) : field w lo len < 2 ^ len := Nat.mod_lt _ (Nat.two_pow_pos len)

/-- The bits of a field. -/
theorem field_testBit (w lo len i : Nat) : (field w lo len).testBit i = (decide (i < len) && w.testBit (lo + i)) := by
  simp [field, Nat.testBit_mod_two_pow, Nat.testBit_shiftRight]

/-- A word with a field set is its part below, the field, and its part above. -/
theorem setField_parts (w lo len v : Nat) :
    setField w lo len v = 2 ^ lo * (2 ^ len * (w / 2 ^ (lo + len)) + v % 2 ^ len) + w % 2 ^ lo := by
  have h1 : w = 2 ^ lo * (w / 2 ^ lo) + w % 2 ^ lo := (Nat.div_add_mod w (2 ^ lo)).symm
  have h2 : w / 2 ^ lo = 2 ^ len * (w / 2 ^ lo / 2 ^ len) + w / 2 ^ lo % 2 ^ len := (Nat.div_add_mod _ _).symm
  have h3 : w / 2 ^ lo / 2 ^ len = w / 2 ^ (lo + len) := by rw [Nat.div_div_eq_div_mul, ← Nat.pow_add]
  have h4 : field w lo len = w / 2 ^ lo % 2 ^ len := by rw [field, Nat.shiftRight_eq_div_pow]
  unfold setField
  rw [h4]
  rw [h3] at h2
  generalize w / 2 ^ (lo + len) = hi at *
  generalize w / 2 ^ lo % 2 ^ len = f at *
  generalize w % 2 ^ lo = low at *
  have h5 : w = 2 ^ lo * (2 ^ len * hi) + f * 2 ^ lo + low := by
    rw [h1, h2, Nat.mul_add, Nat.mul_comm f]
  rw [Nat.mul_add, h5, Nat.mul_comm (2 ^ lo) (v % 2 ^ len)]
  omega

/-- The bits of a word with a field set. -/
theorem setField_testBit (w lo len v i : Nat) :
    (setField w lo len v).testBit i = if lo ≤ i ∧ i < lo + len then v.testBit (i - lo) else w.testBit i := by
  rw [setField_parts, Nat.testBit_two_pow_mul_add _ (Nat.mod_lt _ (Nat.two_pow_pos lo))]
  by_cases h1 : i < lo
  · simp [h1, Nat.testBit_mod_two_pow, show ¬ lo ≤ i by omega]
  · rw [if_neg h1, Nat.testBit_two_pow_mul_add _ (Nat.mod_lt _ (Nat.two_pow_pos len))]
    by_cases h2 : i < lo + len
    · simp [show lo ≤ i by omega, h2, show i - lo < len by omega, Nat.testBit_mod_two_pow]
    · rw [if_neg (by omega), if_neg (by omega), ← Nat.shiftRight_eq_div_pow, Nat.testBit_shiftRight]
      congr 1; omega

/-- A field that is set reads as set. -/
theorem field_setField_self (w lo len v : Nat) : field (setField w lo len v) lo len = v % 2 ^ len := by
  apply Nat.eq_of_testBit_eq
  intro i
  rw [field_testBit, setField_testBit, Nat.testBit_mod_two_pow]
  by_cases h : i < len
  · simp [h]
  · simp [h]

/-- A field apart from the one that is set keeps its value. -/
theorem field_setField_ne (w : Nat) {lo len : Nat} (v : Nat) {lo' len' : Nat} (h : lo + len ≤ lo' ∨ lo' + len' ≤ lo) :
    field (setField w lo len v) lo' len' = field w lo' len' := by
  apply Nat.eq_of_testBit_eq
  intro i
  rw [field_testBit, field_testBit, setField_testBit]
  by_cases hi : i < len'
  · rw [if_neg (by omega)]
  · simp [hi]

/-- A word keeps its width when a field within it is set. -/
theorem setField_lt {w lo len width : Nat} (v : Nat) (hw : w < 2 ^ width) (hf : lo + len ≤ width) :
    setField w lo len v < 2 ^ width := by
  apply Nat.lt_pow_two_of_testBit
  intro i hi
  rw [setField_testBit, if_neg (by omega)]
  exact Nat.testBit_lt_two_pow (Nat.lt_of_lt_of_le hw (Nat.pow_le_pow_right (by decide) hi))

/-- A field of a width reads back. -/
theorem field_self {v len : Nat} : field v 0 len = v % 2 ^ len := by simp [field]

end Sys2Proof.Machine
end

