-- ==== Sys2Proof/Laws/Raise.lean ====
section
/-! SUPPORT. What an occurrence of a source can change: the collector's state, the control event rings it delivers to, what the
step sends out and owes, and the collector's own registers and the source's counter (R397 to R418). -/

namespace Sys2Proof.Machine

/-- Only the parts of a device that the collector writes differ, and of the register file only the places of a set. -/
def Dev.feOnly (K : Nat → Prop) (d e : Dev) : Prop :=
  ∃ regs fe fns out todo, e = { d with regs := regs, fe := fe, hq := { d.hq with fns := fns }, out := out, todo := todo }
    ∧ ∀ k, ¬ K k → ∀ v, Tbl.get v regs k = Tbl.get v d.regs k

theorem Dev.feOnly_refl (K : Nat → Prop) (d : Dev) : d.feOnly K d := ⟨_, _, _, _, _, rfl, fun _ _ _ => rfl⟩

theorem Dev.feOnly_trans {K : Nat → Prop} {d e f : Dev} (h : d.feOnly K e) (g : e.feOnly K f) : d.feOnly K f := by
  obtain ⟨r, a, b, c, t, rfl, hk⟩ := h
  obtain ⟨r', a', b', c', t', rfl, hk'⟩ := g
  exact ⟨r', a', b', c', t', rfl, fun k hn v => (hk' k hn v).trans (hk k hn v)⟩

theorem Dev.feOnly_wr {K : Nat → Prop} (d : Dev) (r : Reg) (v i bank : Nat) (h : K (r.key i bank)) :
    d.feOnly K (d.wr r v i bank) :=
  ⟨_, d.fe, d.hq.fns, d.out, d.todo, rfl, fun k hn _ => by
    have : k ≠ r.key i bank := fun e => hn (e ▸ h)
    by_cases hv : v % 2 ^ r.width = r.resetAt i
    · simp only [Tbl.put, hv, if_true]; exact Tbl.get_erase_ne _ this _
    · simp only [Tbl.put, hv, if_false]; exact Tbl.get_insert_ne _ _ this _⟩

theorem Dev.feOnly_fe (K : Nat → Prop) (d : Dev) (x : FeUnit) : d.feOnly K { d with fe := x } :=
  ⟨_, _, _, _, _, rfl, fun _ _ _ => rfl⟩

theorem Dev.feOnly_owe (K : Nat → Prop) (d : Dev) (t : Todo) : d.feOnly K (d.owe t) := ⟨_, _, _, _, _, rfl, fun _ _ _ => rfl⟩

theorem Dev.feOnly_feOwe (K : Nat → Prop) (d : Dev) (x : FeUnit) (t : Todo) : d.feOnly K ({ d with fe := x }.owe t) :=
  ⟨_, _, _, _, _, rfl, fun _ _ _ => rfl⟩

theorem feOnly_forEach {α : Type} {K : Nat → Prop} {f : α → Dev → Dev} (h : ∀ a d, Dev.feOnly K d (f a d)) :
    ∀ (l : List α) (d : Dev), d.feOnly K (forEach l f d)
  | [], d => Dev.feOnly_refl K d
  | a :: l, d => Dev.feOnly_trans (h a d) (feOnly_forEach h l (f a d))

theorem Dev.feOnly_sendHost (K : Nat → Prop) (r : DeliveryRecord) (h : Nat) (d : Dev) : d.feOnly K (d.sendHost r h) := by
  unfold Dev.sendHost
  dsimp only
  split
  · split
    · exact Dev.feOnly_fe K d _
    · exact ⟨_, _, _, _, _, rfl, fun _ _ _ => rfl⟩
  · exact Dev.feOnly_refl K d

theorem Dev.feOnly_sendRecord (K : Nat → Prop) (d : Dev) (s : Sink) (r : DeliveryRecord) : d.feOnly K (d.sendRecord s r) := by
  cases s with
  | i3c =>
    show d.feOnly K (d.sendI3c r)
    unfold Dev.sendI3c
    split
    · exact Dev.feOnly_fe K d _
    · exact ⟨_, _, _, _, _, rfl, fun _ _ _ => rfl⟩
  | host => exact feOnly_forEach (fun h d => Dev.feOnly_sendHost K r h d) _ d

theorem Dev.feOnly_deliver (K : Nat → Prop) (d : Dev) (s : Sink) (r : DeliveryRecord) : d.feOnly K (d.deliver s r) := by
  unfold Dev.deliver
  split
  · exact Dev.feOnly_trans (Dev.feOnly_fe K d _) (Dev.feOnly_sendRecord K _ s r)
  · exact Dev.feOnly_fe K d _

theorem Dev.feOnly_addFence (K : Nat → Prop) (d : Dev) (u : UnitKind) (i src : Nat) (b : Bool) :
    d.feOnly K (d.addFence u i src b) := by
  unfold Dev.addFence
  split
  · exact Dev.feOnly_refl K d
  · split
    · exact Dev.feOnly_fe K d _
    · exact Dev.feOnly_feOwe K d _ _

theorem Dev.feOnly_errN (K : Nat → Prop) (d : Dev) : d.feOnly K d.errN := by
  unfold Dev.errN
  split <;> exact Dev.feOnly_fe K d _

/-- The places of the register file an occurrence of a source may write: FE_LATCH, FE_LATCH_TICK, FE_PEND, FE_HIST_STATUS, and the
counter of the source. -/
def raisedKey (src k : Nat) : Prop :=
  (0x1100040 ≤ k ∧ k < 0x11000A8) ∨ k = 0x1100108 ∨ k = 0x1210000 + 8 * src

theorem rPcCtr_key (i b : Nat) : rPcCtr.key i b = 0x1210000 + 8 * i := by simp [Reg.key, rPcCtr, Reg.banked]
theorem rFeLatch_key (i b : Nat) : rFeLatch.key i b = 0x1100040 + 16 * i := by simp [Reg.key, rFeLatch, Reg.banked]
theorem rFeLatchTick_key (i b : Nat) : rFeLatchTick.key i b = 0x1100048 + 16 * i := by simp [Reg.key, rFeLatchTick, Reg.banked]
theorem rFePend_key (i b : Nat) : rFePend.key i b = 0x1100080 + 8 * i := by simp [Reg.key, rFePend, Reg.banked]
theorem rFeHistStatus_key (b : Nat) : rFeHistStatus.key 0 b = 0x1100108 := by simp [Reg.key, rFeHistStatus, Reg.banked]

theorem Dev.feOnly_takeLatch (d : Dev) {src sev s : Nat} (h : sev < 4) (inst : Nat) (forced : Bool) :
    d.feOnly (raisedKey s) (d.takeLatch src inst sev forced) := by
  have k1 : raisedKey s (rFeLatch.key sev 0) := by rw [rFeLatch_key]; left; omega
  have k2 : raisedKey s (rFeLatchTick.key sev 0) := by rw [rFeLatchTick_key]; left; omega
  unfold Dev.takeLatch
  dsimp only
  split
  · exact Dev.feOnly_wr d _ _ _ _ k1
  · exact Dev.feOnly_trans (Dev.feOnly_wr d _ _ _ _ k1) (Dev.feOnly_wr _ _ _ _ _ k2)

theorem Dev.feOnly_takeHistory (d : Dev) (src inst sev s : Nat) : d.feOnly (raisedKey s) (d.takeHistory src inst sev) := by
  unfold Dev.takeHistory
  split
  · split
    · exact Dev.feOnly_fe _ d _
    · exact Dev.feOnly_wr d _ _ _ _ (by rw [rFeHistStatus_key]; right; left; rfl)
  · exact Dev.feOnly_refl _ d

theorem Dev.feOnly_ite {K : Nat → Prop} {d e f : Dev} (c : Prop) [Decidable c] (h1 : d.feOnly K e) (h2 : d.feOnly K f) :
    d.feOnly K (if c then e else f) := by split <;> assumption

/-- Everything an occurrence of a source can change. -/
theorem Dev.occur_feOnly (d : Dev) {src : Nat} (h : src < 320) (inst : Nat) (forced : Bool) :
    d.feOnly (raisedKey src) (d.occur src inst forced) := by
  have kc : raisedKey src (rPcCtr.key src 0) := by rw [rPcCtr_key]; right; right; rfl
  have kp : raisedKey src (rFePend.key (src / 64) 0) := by rw [rFePend_key]; left; omega
  have hs := field_lt (d.srcCfg src) 1 2
  have tr : ∀ {x y : Dev}, d.feOnly (raisedKey src) x → x.feOnly (raisedKey src) y → d.feOnly (raisedKey src) y :=
    Dev.feOnly_trans
  have ite : ∀ {x y : Dev} (c : Bool), d.feOnly (raisedKey src) x → x.feOnly (raisedKey src) y →
      d.feOnly (raisedKey src) (if c = true then y else x) := fun c h1 h2 => Dev.feOnly_ite _ (tr h1 h2) h1
  have h1 : d.feOnly (raisedKey src) (d.count src 1) := Dev.feOnly_wr d rPcCtr _ src 0 kc
  unfold Dev.occur
  extract_lets i cfg sev d1 blockFence colFence fatal u d2 d3 d4 d5 d6 x7 d7 d8 r d9
  by_cases hc : (!(flag cfg 0)) = true
  · rw [if_pos hc]; exact h1
  rw [if_neg hc]
  have h2 : d.feOnly (raisedKey src) d2 := tr h1 (Dev.feOnly_takeLatch d1 hs i forced)
  have h3 : d.feOnly (raisedKey src) d3 := tr h2 (Dev.feOnly_wr d2 rFePend _ _ 0 kp)
  have h4 : d.feOnly (raisedKey src) d4 := tr h3 (Dev.feOnly_takeHistory d3 src i sev src)
  have h5 : d.feOnly (raisedKey src) d5 := ite _ h4 (Dev.feOnly_addFence _ d4 _ _ _ _)
  have h6 : d.feOnly (raisedKey src) d6 :=
    ite _ h5 (Dev.feOnly_trans (Dev.feOnly_addFence _ d5 _ _ _ _) (Dev.feOnly_owe _ _ _))
  have h7 : d.feOnly (raisedKey src) d7 := ite _ h6 (Dev.feOnly_feOwe _ d6 _ _)
  have h8 : d.feOnly (raisedKey src) d8 := ite _ h7 (Dev.feOnly_errN _ d7)
  have h9 : d.feOnly (raisedKey src) d9 := ite _ h8 (Dev.feOnly_deliver _ d8 _ _)
  exact ite _ h9 (Dev.feOnly_deliver _ d9 _ _)

/-- Everything a source that fires can change. -/
theorem Dev.raise_feOnly (d : Dev) {src : Nat} (h : src < 320) (inst : Nat) : d.feOnly (raisedKey src) (d.raise src inst) :=
  Dev.occur_feOnly d h inst false

theorem Dev.raise_tw (d : Dev) {src : Nat} (h : src < 320) (inst : Nat) : (d.raise src inst).tw = d.tw := by
  obtain ⟨_, _, _, _, _, e, _⟩ := d.raise_feOnly h inst; rw [e]
theorem Dev.raise_st (d : Dev) {src : Nat} (h : src < 320) (inst : Nat) : (d.raise src inst).st = d.st := by
  obtain ⟨_, _, _, _, _, e, _⟩ := d.raise_feOnly h inst; rw [e]
theorem Dev.raise_bt (d : Dev) {src : Nat} (h : src < 320) (inst : Nat) : (d.raise src inst).bt = d.bt := by
  obtain ⟨_, _, _, _, _, e, _⟩ := d.raise_feOnly h inst; rw [e]
theorem Dev.raise_eps (d : Dev) {src : Nat} (h : src < 320) (inst : Nat) : (d.raise src inst).hq.eps = d.hq.eps := by
  obtain ⟨_, _, _, _, _, e, _⟩ := d.raise_feOnly h inst; rw [e]

theorem Dev.raise_mg (d : Dev) {src : Nat} (h : src < 320) (inst : Nat) : (d.raise src inst).mg = d.mg := by
  obtain ⟨_, _, _, _, _, e, _⟩ := d.raise_feOnly h inst; rw [e]
theorem Dev.raise_lk (d : Dev) {src : Nat} (h : src < 320) (inst : Nat) : (d.raise src inst).lk = d.lk := by
  obtain ⟨_, _, _, _, _, e, _⟩ := d.raise_feOnly h inst; rw [e]

/-- A register outside the collector's own reads as before. -/
theorem Dev.raise_rd (d : Dev) {src : Nat} (h : src < 320) (inst : Nat) (r : Reg) (i bank : Nat)
    (hk : ¬ raisedKey src (r.key i bank)) : (d.raise src inst).rd r i bank = d.rd r i bank := by
  obtain ⟨_, _, _, _, _, e, g⟩ := d.raise_feOnly h inst
  rw [e]; exact g _ hk _

/-- The device once an occurrence of an enabled source has been counted, latched and marked pending (R404, R405). -/
def Dev.recorded (d : Dev) (src inst : Nat) (forced : Bool) : Dev :=
  let x := (d.count src 1).takeLatch src (occInstance src inst) (field (d.srcCfg src) 1 2) forced
  x.wr rFePend (x.rd rFePend (src / 64) ||| 2 ^ (src % 64)) (src / 64)

/-- What follows the record writes no register but FE_HIST_STATUS. -/
theorem Dev.occur_recorded (d : Dev) {src : Nat} (inst : Nat) (forced : Bool) (h : flag (d.srcCfg src) 0 = true) :
    (d.recorded src inst forced).feOnly (fun k => k = 0x1100108) (d.occur src inst forced) := by
  unfold Dev.recorded
  extract_lets x
  unfold Dev.occur
  extract_lets i cfg sev d1 blockFence colFence fatal u d2 d3 d4 d5 d6 x7 d7 d8 r d9
  rw [if_neg (by show ¬ (!(flag cfg 0)) = true; rw [show cfg = d.srcCfg src from rfl, h]; decide)]
  show d3.feOnly _ _
  generalize hK : (fun k : Nat => k = 0x1100108) = K
  have h4 : d3.feOnly K d4 := by
    show d3.feOnly K (d3.takeHistory src i sev)
    unfold Dev.takeHistory
    split
    · split
      · exact Dev.feOnly_fe K d3 _
      · refine Dev.feOnly_wr d3 _ _ _ _ ?_
        rw [rFeHistStatus_key, ← hK]
    · exact Dev.feOnly_refl K d3
  have ite : ∀ {x y : Dev} (c : Bool), d3.feOnly K x → x.feOnly K y → d3.feOnly K (if c = true then y else x) :=
    fun c h1 h2 => Dev.feOnly_ite _ (Dev.feOnly_trans h1 h2) h1
  have h5 : d3.feOnly K d5 := ite _ h4 (Dev.feOnly_addFence _ d4 _ _ _ _)
  have h6 : d3.feOnly K d6 :=
    ite _ h5 (Dev.feOnly_trans (Dev.feOnly_addFence _ d5 _ _ _ _) (Dev.feOnly_owe _ _ _))
  have h7 : d3.feOnly K d7 := ite _ h6 (Dev.feOnly_feOwe _ d6 _ _)
  have h8 : d3.feOnly K d8 := ite _ h7 (Dev.feOnly_errN _ d7)
  have h9 : d3.feOnly K d9 := ite _ h8 (Dev.feOnly_deliver _ d8 _ _)
  exact ite _ h9 (Dev.feOnly_deliver _ d9 _ _)

/-- Two devices hold the same fence table, FATAL state and restart that is owed. -/
def Dev.sameFences (d e : Dev) : Prop :=
  e.fe.fence = d.fe.fence ∧ e.fe.fatal = d.fe.fatal ∧ e.fe.restartOwed = d.fe.restartOwed

theorem Dev.sameFences_trans {d e f : Dev} (h : d.sameFences e) (g : e.sameFences f) : d.sameFences f :=
  ⟨g.1.trans h.1, g.2.1.trans h.2.1, g.2.2.trans h.2.2⟩

theorem Dev.sameFences_refl (d : Dev) : d.sameFences d := ⟨rfl, rfl, rfl⟩

/-- A delivery takes no fence entry (R414, R415). -/
theorem Dev.sameFences_deliver (d : Dev) (s : Sink) (r : DeliveryRecord) : d.sameFences (d.deliver s r) := by
  have host : ∀ (l : List Nat) (d : Dev), d.sameFences (forEach l (Dev.sendHost r) d) := by
    intro l
    induction l with
    | nil => exact Dev.sameFences_refl
    | cons a l ih =>
      intro d
      refine Dev.sameFences_trans ?_ (ih _)
      unfold Dev.sendHost
      dsimp only
      split
      · split <;> exact ⟨rfl, rfl, rfl⟩
      · exact Dev.sameFences_refl d
  have send : ∀ d : Dev, d.sameFences (d.sendRecord s r) := by
    intro d
    cases s with
    | i3c => show d.sameFences (d.sendI3c r); unfold Dev.sendI3c; split <;> exact ⟨rfl, rfl, rfl⟩
    | host => exact host _ d
  unfold Dev.deliver
  split
  · exact Dev.sameFences_trans (e := { d with fe := _ }) ⟨rfl, rfl, rfl⟩ (send _)
  · exact ⟨rfl, rfl, rfl⟩

theorem Dev.sameFences_wr (d : Dev) (r : Reg) (v i bank : Nat) : d.sameFences (d.wr r v i bank) := ⟨rfl, rfl, rfl⟩

/-- A forced occurrence takes no fence entry and no FATAL action (R403). -/
theorem Dev.occur_forced (d : Dev) (src inst : Nat) : d.sameFences (d.occur src inst true) := by
  have h1 : d.sameFences (d.count src 1) := Dev.sameFences_wr d _ _ _ _
  have latch : ∀ (d : Dev) (i sev : Nat), d.sameFences (d.takeLatch src i sev true) := by
    intro d i sev; unfold Dev.takeLatch; dsimp only; split
    · exact Dev.sameFences_wr d _ _ _ _
    · exact Dev.sameFences_trans (Dev.sameFences_wr d _ _ _ _) (Dev.sameFences_wr _ _ _ _ _)
  have hist : ∀ (d : Dev) (i sev : Nat), d.sameFences (d.takeHistory src i sev) := by
    intro d i sev; unfold Dev.takeHistory
    split
    · split
      · exact ⟨rfl, rfl, rfl⟩
      · exact Dev.sameFences_wr d _ _ _ _
    · exact Dev.sameFences_refl d
  have ern : ∀ d : Dev, d.sameFences d.errN := by intro d; unfold Dev.errN; split <;> exact ⟨rfl, rfl, rfl⟩
  have ite : ∀ {x y : Dev} (c : Bool), d.sameFences x → x.sameFences y → d.sameFences (if c = true then y else x) := by
    intro x y c h1 h2; split; exact Dev.sameFences_trans h1 h2; exact h1
  unfold Dev.occur
  extract_lets i cfg sev d1 blockFence colFence fatal u d2 d3 d4 d5 d6 x7 d7 d8 r d9
  have hb : blockFence = false := by show ((sourceRow src).bfence && !true) = false; simp
  have hc : colFence = false := by show collectorFences src i sev true = false; simp [collectorFences]
  have hf : fatal = false := by show (decide (sev = 3) && !true) = false; simp
  have h2 : d.sameFences d2 := Dev.sameFences_trans h1 (latch d1 i sev)
  have h3 : d.sameFences d3 := Dev.sameFences_trans h2 (Dev.sameFences_wr d2 _ _ _ _)
  have h4 : d.sameFences d4 := Dev.sameFences_trans h3 (hist d3 i sev)
  have h5 : d5 = d4 := if_neg (by rw [hb]; decide)
  have h6 : d6 = d5 := if_neg (by rw [hc]; decide)
  have h7 : d7 = d6 := if_neg (by rw [hf]; decide)
  have k7 : d.sameFences d7 := by rw [h7, h6, h5]; exact h4
  have h8 : d.sameFences d8 := ite _ k7 (ern d7)
  have h9 : d.sameFences d9 := ite _ h8 (Dev.sameFences_deliver d8 _ _)
  split
  · exact h1
  · exact ite _ h9 (Dev.sameFences_deliver d9 _ _)

/-- A register outside the places of a set reads as before. -/
theorem Dev.feOnly_rd {K : Nat → Prop} {d e : Dev} (h : d.feOnly K e) (q : Reg) (j b : Nat) (hk : ¬ K (q.key j b)) :
    e.rd q j b = d.rd q j b := by
  obtain ⟨_, _, _, _, _, rfl, g⟩ := h
  exact g _ hk _

end Sys2Proof.Machine
end

