-- ==== Sys2Proof/Laws/State.lean ====
section
/-! SUPPORT. What each update of the device leaves alone, unit by unit, and what reading the changed part gives. -/

namespace Sys2Proof.Machine

variable (d : Dev)

/-! ### wr -/

@[simp] theorem Dev.wr_staged (r : Reg) (v i b : Nat) : (d.wr r v i b).staged = d.staged := rfl
@[simp] theorem Dev.wr_st (r : Reg) (v i b : Nat) : (d.wr r v i b).st = d.st := rfl
@[simp] theorem Dev.wr_fe (r : Reg) (v i b : Nat) : (d.wr r v i b).fe = d.fe := rfl
@[simp] theorem Dev.wr_pc (r : Reg) (v i b : Nat) : (d.wr r v i b).pc = d.pc := rfl
@[simp] theorem Dev.wr_hq (r : Reg) (v i b : Nat) : (d.wr r v i b).hq = d.hq := rfl
@[simp] theorem Dev.wr_xl (r : Reg) (v i b : Nat) : (d.wr r v i b).xl = d.xl := rfl
@[simp] theorem Dev.wr_tp (r : Reg) (v i b : Nat) : (d.wr r v i b).tp = d.tp := rfl
@[simp] theorem Dev.wr_mx (r : Reg) (v i b : Nat) : (d.wr r v i b).mx = d.mx := rfl
@[simp] theorem Dev.wr_ls (r : Reg) (v i b : Nat) : (d.wr r v i b).ls = d.ls := rfl
@[simp] theorem Dev.wr_tw (r : Reg) (v i b : Nat) : (d.wr r v i b).tw = d.tw := rfl
@[simp] theorem Dev.wr_cx (r : Reg) (v i b : Nat) : (d.wr r v i b).cx = d.cx := rfl
@[simp] theorem Dev.wr_wn (r : Reg) (v i b : Nat) : (d.wr r v i b).wn = d.wn := rfl
@[simp] theorem Dev.wr_rl (r : Reg) (v i b : Nat) : (d.wr r v i b).rl = d.rl := rfl
@[simp] theorem Dev.wr_map (r : Reg) (v i b : Nat) : (d.wr r v i b).map = d.map := rfl
@[simp] theorem Dev.wr_rt (r : Reg) (v i b : Nat) : (d.wr r v i b).rt = d.rt := rfl
@[simp] theorem Dev.wr_tn (r : Reg) (v i b : Nat) : (d.wr r v i b).tn = d.tn := rfl
@[simp] theorem Dev.wr_lk (r : Reg) (v i b : Nat) : (d.wr r v i b).lk = d.lk := rfl
@[simp] theorem Dev.wr_ln (r : Reg) (v i b : Nat) : (d.wr r v i b).ln = d.ln := rfl
@[simp] theorem Dev.wr_sc (r : Reg) (v i b : Nat) : (d.wr r v i b).sc = d.sc := rfl
@[simp] theorem Dev.wr_sp (r : Reg) (v i b : Nat) : (d.wr r v i b).sp = d.sp := rfl
@[simp] theorem Dev.wr_pd (r : Reg) (v i b : Nat) : (d.wr r v i b).pd = d.pd := rfl
@[simp] theorem Dev.wr_se (r : Reg) (v i b : Nat) : (d.wr r v i b).se = d.se := rfl
@[simp] theorem Dev.wr_bt (r : Reg) (v i b : Nat) : (d.wr r v i b).bt = d.bt := rfl
@[simp] theorem Dev.wr_mg (r : Reg) (v i b : Nat) : (d.wr r v i b).mg = d.mg := rfl
@[simp] theorem Dev.wr_todo (r : Reg) (v i b : Nat) : (d.wr r v i b).todo = d.todo := rfl
@[simp] theorem Dev.wr_out (r : Reg) (v i b : Nat) : (d.wr r v i b).out = d.out := rfl
@[simp] theorem Dev.wr_free (r : Reg) (v i b : Nat) : (d.wr r v i b).free = d.free := rfl
@[simp] theorem Dev.wr_now (r : Reg) (v i b : Nat) : (d.wr r v i b).now = d.now := rfl

/-! ### emit -/

@[simp] theorem Dev.emit_regs (o : Out) : (d.emit o).regs = d.regs := rfl
@[simp] theorem Dev.emit_staged (o : Out) : (d.emit o).staged = d.staged := rfl
@[simp] theorem Dev.emit_st (o : Out) : (d.emit o).st = d.st := rfl
@[simp] theorem Dev.emit_fe (o : Out) : (d.emit o).fe = d.fe := rfl
@[simp] theorem Dev.emit_pc (o : Out) : (d.emit o).pc = d.pc := rfl
@[simp] theorem Dev.emit_hq (o : Out) : (d.emit o).hq = d.hq := rfl
@[simp] theorem Dev.emit_xl (o : Out) : (d.emit o).xl = d.xl := rfl
@[simp] theorem Dev.emit_tp (o : Out) : (d.emit o).tp = d.tp := rfl
@[simp] theorem Dev.emit_mx (o : Out) : (d.emit o).mx = d.mx := rfl
@[simp] theorem Dev.emit_ls (o : Out) : (d.emit o).ls = d.ls := rfl
@[simp] theorem Dev.emit_tw (o : Out) : (d.emit o).tw = d.tw := rfl
@[simp] theorem Dev.emit_cx (o : Out) : (d.emit o).cx = d.cx := rfl
@[simp] theorem Dev.emit_wn (o : Out) : (d.emit o).wn = d.wn := rfl
@[simp] theorem Dev.emit_rl (o : Out) : (d.emit o).rl = d.rl := rfl
@[simp] theorem Dev.emit_map (o : Out) : (d.emit o).map = d.map := rfl
@[simp] theorem Dev.emit_rt (o : Out) : (d.emit o).rt = d.rt := rfl
@[simp] theorem Dev.emit_tn (o : Out) : (d.emit o).tn = d.tn := rfl
@[simp] theorem Dev.emit_lk (o : Out) : (d.emit o).lk = d.lk := rfl
@[simp] theorem Dev.emit_ln (o : Out) : (d.emit o).ln = d.ln := rfl
@[simp] theorem Dev.emit_sc (o : Out) : (d.emit o).sc = d.sc := rfl
@[simp] theorem Dev.emit_sp (o : Out) : (d.emit o).sp = d.sp := rfl
@[simp] theorem Dev.emit_pd (o : Out) : (d.emit o).pd = d.pd := rfl
@[simp] theorem Dev.emit_se (o : Out) : (d.emit o).se = d.se := rfl
@[simp] theorem Dev.emit_bt (o : Out) : (d.emit o).bt = d.bt := rfl
@[simp] theorem Dev.emit_mg (o : Out) : (d.emit o).mg = d.mg := rfl
@[simp] theorem Dev.emit_todo (o : Out) : (d.emit o).todo = d.todo := rfl
@[simp] theorem Dev.emit_free (o : Out) : (d.emit o).free = d.free := rfl
@[simp] theorem Dev.emit_rd (o : Out) (q : Reg) (j bank : Nat) : (d.emit o).rd q j bank = d.rd q j bank := rfl
@[simp] theorem Dev.emit_now (o : Out) : (d.emit o).now = d.now := rfl

/-! ### owe -/

@[simp] theorem Dev.owe_regs (t : Todo) : (d.owe t).regs = d.regs := rfl
@[simp] theorem Dev.owe_staged (t : Todo) : (d.owe t).staged = d.staged := rfl
@[simp] theorem Dev.owe_st (t : Todo) : (d.owe t).st = d.st := rfl
@[simp] theorem Dev.owe_fe (t : Todo) : (d.owe t).fe = d.fe := rfl
@[simp] theorem Dev.owe_pc (t : Todo) : (d.owe t).pc = d.pc := rfl
@[simp] theorem Dev.owe_hq (t : Todo) : (d.owe t).hq = d.hq := rfl
@[simp] theorem Dev.owe_xl (t : Todo) : (d.owe t).xl = d.xl := rfl
@[simp] theorem Dev.owe_tp (t : Todo) : (d.owe t).tp = d.tp := rfl
@[simp] theorem Dev.owe_mx (t : Todo) : (d.owe t).mx = d.mx := rfl
@[simp] theorem Dev.owe_ls (t : Todo) : (d.owe t).ls = d.ls := rfl
@[simp] theorem Dev.owe_tw (t : Todo) : (d.owe t).tw = d.tw := rfl
@[simp] theorem Dev.owe_cx (t : Todo) : (d.owe t).cx = d.cx := rfl
@[simp] theorem Dev.owe_wn (t : Todo) : (d.owe t).wn = d.wn := rfl
@[simp] theorem Dev.owe_rl (t : Todo) : (d.owe t).rl = d.rl := rfl
@[simp] theorem Dev.owe_map (t : Todo) : (d.owe t).map = d.map := rfl
@[simp] theorem Dev.owe_rt (t : Todo) : (d.owe t).rt = d.rt := rfl
@[simp] theorem Dev.owe_tn (t : Todo) : (d.owe t).tn = d.tn := rfl
@[simp] theorem Dev.owe_lk (t : Todo) : (d.owe t).lk = d.lk := rfl
@[simp] theorem Dev.owe_ln (t : Todo) : (d.owe t).ln = d.ln := rfl
@[simp] theorem Dev.owe_sc (t : Todo) : (d.owe t).sc = d.sc := rfl
@[simp] theorem Dev.owe_sp (t : Todo) : (d.owe t).sp = d.sp := rfl
@[simp] theorem Dev.owe_pd (t : Todo) : (d.owe t).pd = d.pd := rfl
@[simp] theorem Dev.owe_se (t : Todo) : (d.owe t).se = d.se := rfl
@[simp] theorem Dev.owe_bt (t : Todo) : (d.owe t).bt = d.bt := rfl
@[simp] theorem Dev.owe_mg (t : Todo) : (d.owe t).mg = d.mg := rfl
@[simp] theorem Dev.owe_out (t : Todo) : (d.owe t).out = d.out := rfl
@[simp] theorem Dev.owe_free (t : Todo) : (d.owe t).free = d.free := rfl
@[simp] theorem Dev.owe_rd (t : Todo) (q : Reg) (j bank : Nat) : (d.owe t).rd q j bank = d.rd q j bank := rfl
@[simp] theorem Dev.owe_now (t : Todo) : (d.owe t).now = d.now := rfl

/-! ### setEp -/

@[simp] theorem Dev.setEp_regs (ep : Nat) (c : Option EpCtx) : (d.setEp ep c).regs = d.regs := rfl
@[simp] theorem Dev.setEp_staged (ep : Nat) (c : Option EpCtx) : (d.setEp ep c).staged = d.staged := rfl
@[simp] theorem Dev.setEp_st (ep : Nat) (c : Option EpCtx) : (d.setEp ep c).st = d.st := rfl
@[simp] theorem Dev.setEp_fe (ep : Nat) (c : Option EpCtx) : (d.setEp ep c).fe = d.fe := rfl
@[simp] theorem Dev.setEp_pc (ep : Nat) (c : Option EpCtx) : (d.setEp ep c).pc = d.pc := rfl
@[simp] theorem Dev.setEp_xl (ep : Nat) (c : Option EpCtx) : (d.setEp ep c).xl = d.xl := rfl
@[simp] theorem Dev.setEp_tp (ep : Nat) (c : Option EpCtx) : (d.setEp ep c).tp = d.tp := rfl
@[simp] theorem Dev.setEp_mx (ep : Nat) (c : Option EpCtx) : (d.setEp ep c).mx = d.mx := rfl
@[simp] theorem Dev.setEp_ls (ep : Nat) (c : Option EpCtx) : (d.setEp ep c).ls = d.ls := rfl
@[simp] theorem Dev.setEp_tw (ep : Nat) (c : Option EpCtx) : (d.setEp ep c).tw = d.tw := rfl
@[simp] theorem Dev.setEp_cx (ep : Nat) (c : Option EpCtx) : (d.setEp ep c).cx = d.cx := rfl
@[simp] theorem Dev.setEp_wn (ep : Nat) (c : Option EpCtx) : (d.setEp ep c).wn = d.wn := rfl
@[simp] theorem Dev.setEp_rl (ep : Nat) (c : Option EpCtx) : (d.setEp ep c).rl = d.rl := rfl
@[simp] theorem Dev.setEp_map (ep : Nat) (c : Option EpCtx) : (d.setEp ep c).map = d.map := rfl
@[simp] theorem Dev.setEp_rt (ep : Nat) (c : Option EpCtx) : (d.setEp ep c).rt = d.rt := rfl
@[simp] theorem Dev.setEp_tn (ep : Nat) (c : Option EpCtx) : (d.setEp ep c).tn = d.tn := rfl
@[simp] theorem Dev.setEp_lk (ep : Nat) (c : Option EpCtx) : (d.setEp ep c).lk = d.lk := rfl
@[simp] theorem Dev.setEp_ln (ep : Nat) (c : Option EpCtx) : (d.setEp ep c).ln = d.ln := rfl
@[simp] theorem Dev.setEp_sc (ep : Nat) (c : Option EpCtx) : (d.setEp ep c).sc = d.sc := rfl
@[simp] theorem Dev.setEp_sp (ep : Nat) (c : Option EpCtx) : (d.setEp ep c).sp = d.sp := rfl
@[simp] theorem Dev.setEp_pd (ep : Nat) (c : Option EpCtx) : (d.setEp ep c).pd = d.pd := rfl
@[simp] theorem Dev.setEp_se (ep : Nat) (c : Option EpCtx) : (d.setEp ep c).se = d.se := rfl
@[simp] theorem Dev.setEp_bt (ep : Nat) (c : Option EpCtx) : (d.setEp ep c).bt = d.bt := rfl
@[simp] theorem Dev.setEp_mg (ep : Nat) (c : Option EpCtx) : (d.setEp ep c).mg = d.mg := rfl
@[simp] theorem Dev.setEp_todo (ep : Nat) (c : Option EpCtx) : (d.setEp ep c).todo = d.todo := rfl
@[simp] theorem Dev.setEp_out (ep : Nat) (c : Option EpCtx) : (d.setEp ep c).out = d.out := rfl
@[simp] theorem Dev.setEp_free (ep : Nat) (c : Option EpCtx) : (d.setEp ep c).free = d.free := rfl
@[simp] theorem Dev.setEp_rd (ep : Nat) (c : Option EpCtx) (q : Reg) (j bank : Nat) : (d.setEp ep c).rd q j bank = d.rd q j bank := rfl
@[simp] theorem Dev.setEp_now (ep : Nat) (c : Option EpCtx) : (d.setEp ep c).now = d.now := rfl

/-- Another place keeps what it holds. -/
theorem Dev.setEp_ep_ne (ep : Nat) (c : Option EpCtx) (j : Nat) (h : j ≠ ep) : (d.setEp ep c).ep j = d.ep j :=
  Tbl.get_put_ne _ _ h _

/-! ### setFn -/

@[simp] theorem Dev.setFn_regs (h : Nat) (f : FnCtx) : (d.setFn h f).regs = d.regs := rfl
@[simp] theorem Dev.setFn_staged (h : Nat) (f : FnCtx) : (d.setFn h f).staged = d.staged := rfl
@[simp] theorem Dev.setFn_st (h : Nat) (f : FnCtx) : (d.setFn h f).st = d.st := rfl
@[simp] theorem Dev.setFn_fe (h : Nat) (f : FnCtx) : (d.setFn h f).fe = d.fe := rfl
@[simp] theorem Dev.setFn_pc (h : Nat) (f : FnCtx) : (d.setFn h f).pc = d.pc := rfl
@[simp] theorem Dev.setFn_xl (h : Nat) (f : FnCtx) : (d.setFn h f).xl = d.xl := rfl
@[simp] theorem Dev.setFn_tp (h : Nat) (f : FnCtx) : (d.setFn h f).tp = d.tp := rfl
@[simp] theorem Dev.setFn_mx (h : Nat) (f : FnCtx) : (d.setFn h f).mx = d.mx := rfl
@[simp] theorem Dev.setFn_ls (h : Nat) (f : FnCtx) : (d.setFn h f).ls = d.ls := rfl
@[simp] theorem Dev.setFn_tw (h : Nat) (f : FnCtx) : (d.setFn h f).tw = d.tw := rfl
@[simp] theorem Dev.setFn_cx (h : Nat) (f : FnCtx) : (d.setFn h f).cx = d.cx := rfl
@[simp] theorem Dev.setFn_wn (h : Nat) (f : FnCtx) : (d.setFn h f).wn = d.wn := rfl
@[simp] theorem Dev.setFn_rl (h : Nat) (f : FnCtx) : (d.setFn h f).rl = d.rl := rfl
@[simp] theorem Dev.setFn_map (h : Nat) (f : FnCtx) : (d.setFn h f).map = d.map := rfl
@[simp] theorem Dev.setFn_rt (h : Nat) (f : FnCtx) : (d.setFn h f).rt = d.rt := rfl
@[simp] theorem Dev.setFn_tn (h : Nat) (f : FnCtx) : (d.setFn h f).tn = d.tn := rfl
@[simp] theorem Dev.setFn_lk (h : Nat) (f : FnCtx) : (d.setFn h f).lk = d.lk := rfl
@[simp] theorem Dev.setFn_ln (h : Nat) (f : FnCtx) : (d.setFn h f).ln = d.ln := rfl
@[simp] theorem Dev.setFn_sc (h : Nat) (f : FnCtx) : (d.setFn h f).sc = d.sc := rfl
@[simp] theorem Dev.setFn_sp (h : Nat) (f : FnCtx) : (d.setFn h f).sp = d.sp := rfl
@[simp] theorem Dev.setFn_pd (h : Nat) (f : FnCtx) : (d.setFn h f).pd = d.pd := rfl
@[simp] theorem Dev.setFn_se (h : Nat) (f : FnCtx) : (d.setFn h f).se = d.se := rfl
@[simp] theorem Dev.setFn_bt (h : Nat) (f : FnCtx) : (d.setFn h f).bt = d.bt := rfl
@[simp] theorem Dev.setFn_mg (h : Nat) (f : FnCtx) : (d.setFn h f).mg = d.mg := rfl
@[simp] theorem Dev.setFn_todo (h : Nat) (f : FnCtx) : (d.setFn h f).todo = d.todo := rfl
@[simp] theorem Dev.setFn_out (h : Nat) (f : FnCtx) : (d.setFn h f).out = d.out := rfl
@[simp] theorem Dev.setFn_free (h : Nat) (f : FnCtx) : (d.setFn h f).free = d.free := rfl
@[simp] theorem Dev.setFn_rd (h : Nat) (f : FnCtx) (q : Reg) (j bank : Nat) : (d.setFn h f).rd q j bank = d.rd q j bank := rfl
@[simp] theorem Dev.setFn_now (h : Nat) (f : FnCtx) : (d.setFn h f).now = d.now := rfl

/-- Another place keeps what it holds. -/
theorem Dev.setFn_fn_ne (h : Nat) (f : FnCtx) (j : Nat) (n : j ≠ h) : (d.setFn h f).fn j = d.fn j :=
  Tbl.get_put_ne _ _ n _

/-! ### setMsg -/

@[simp] theorem Dev.setMsg_regs (m : Msg) : (d.setMsg m).regs = d.regs := rfl
@[simp] theorem Dev.setMsg_staged (m : Msg) : (d.setMsg m).staged = d.staged := rfl
@[simp] theorem Dev.setMsg_st (m : Msg) : (d.setMsg m).st = d.st := rfl
@[simp] theorem Dev.setMsg_fe (m : Msg) : (d.setMsg m).fe = d.fe := rfl
@[simp] theorem Dev.setMsg_pc (m : Msg) : (d.setMsg m).pc = d.pc := rfl
@[simp] theorem Dev.setMsg_hq (m : Msg) : (d.setMsg m).hq = d.hq := rfl
@[simp] theorem Dev.setMsg_xl (m : Msg) : (d.setMsg m).xl = d.xl := rfl
@[simp] theorem Dev.setMsg_mx (m : Msg) : (d.setMsg m).mx = d.mx := rfl
@[simp] theorem Dev.setMsg_ls (m : Msg) : (d.setMsg m).ls = d.ls := rfl
@[simp] theorem Dev.setMsg_tw (m : Msg) : (d.setMsg m).tw = d.tw := rfl
@[simp] theorem Dev.setMsg_cx (m : Msg) : (d.setMsg m).cx = d.cx := rfl
@[simp] theorem Dev.setMsg_wn (m : Msg) : (d.setMsg m).wn = d.wn := rfl
@[simp] theorem Dev.setMsg_rl (m : Msg) : (d.setMsg m).rl = d.rl := rfl
@[simp] theorem Dev.setMsg_map (m : Msg) : (d.setMsg m).map = d.map := rfl
@[simp] theorem Dev.setMsg_rt (m : Msg) : (d.setMsg m).rt = d.rt := rfl
@[simp] theorem Dev.setMsg_tn (m : Msg) : (d.setMsg m).tn = d.tn := rfl
@[simp] theorem Dev.setMsg_lk (m : Msg) : (d.setMsg m).lk = d.lk := rfl
@[simp] theorem Dev.setMsg_ln (m : Msg) : (d.setMsg m).ln = d.ln := rfl
@[simp] theorem Dev.setMsg_sc (m : Msg) : (d.setMsg m).sc = d.sc := rfl
@[simp] theorem Dev.setMsg_sp (m : Msg) : (d.setMsg m).sp = d.sp := rfl
@[simp] theorem Dev.setMsg_pd (m : Msg) : (d.setMsg m).pd = d.pd := rfl
@[simp] theorem Dev.setMsg_se (m : Msg) : (d.setMsg m).se = d.se := rfl
@[simp] theorem Dev.setMsg_bt (m : Msg) : (d.setMsg m).bt = d.bt := rfl
@[simp] theorem Dev.setMsg_mg (m : Msg) : (d.setMsg m).mg = d.mg := rfl
@[simp] theorem Dev.setMsg_todo (m : Msg) : (d.setMsg m).todo = d.todo := rfl
@[simp] theorem Dev.setMsg_out (m : Msg) : (d.setMsg m).out = d.out := rfl
@[simp] theorem Dev.setMsg_free (m : Msg) : (d.setMsg m).free = d.free := rfl
@[simp] theorem Dev.setMsg_rd (m : Msg) (q : Reg) (j bank : Nat) : (d.setMsg m).rd q j bank = d.rd q j bank := rfl
@[simp] theorem Dev.setMsg_now (m : Msg) : (d.setMsg m).now = d.now := rfl

/-! ### setLk -/

@[simp] theorem Dev.setLk_regs (p : Nat) (x : LkPort) : (d.setLk p x).regs = d.regs := rfl
@[simp] theorem Dev.setLk_staged (p : Nat) (x : LkPort) : (d.setLk p x).staged = d.staged := rfl
@[simp] theorem Dev.setLk_st (p : Nat) (x : LkPort) : (d.setLk p x).st = d.st := rfl
@[simp] theorem Dev.setLk_fe (p : Nat) (x : LkPort) : (d.setLk p x).fe = d.fe := rfl
@[simp] theorem Dev.setLk_pc (p : Nat) (x : LkPort) : (d.setLk p x).pc = d.pc := rfl
@[simp] theorem Dev.setLk_hq (p : Nat) (x : LkPort) : (d.setLk p x).hq = d.hq := rfl
@[simp] theorem Dev.setLk_xl (p : Nat) (x : LkPort) : (d.setLk p x).xl = d.xl := rfl
@[simp] theorem Dev.setLk_tp (p : Nat) (x : LkPort) : (d.setLk p x).tp = d.tp := rfl
@[simp] theorem Dev.setLk_mx (p : Nat) (x : LkPort) : (d.setLk p x).mx = d.mx := rfl
@[simp] theorem Dev.setLk_ls (p : Nat) (x : LkPort) : (d.setLk p x).ls = d.ls := rfl
@[simp] theorem Dev.setLk_tw (p : Nat) (x : LkPort) : (d.setLk p x).tw = d.tw := rfl
@[simp] theorem Dev.setLk_cx (p : Nat) (x : LkPort) : (d.setLk p x).cx = d.cx := rfl
@[simp] theorem Dev.setLk_wn (p : Nat) (x : LkPort) : (d.setLk p x).wn = d.wn := rfl
@[simp] theorem Dev.setLk_rl (p : Nat) (x : LkPort) : (d.setLk p x).rl = d.rl := rfl
@[simp] theorem Dev.setLk_map (p : Nat) (x : LkPort) : (d.setLk p x).map = d.map := rfl
@[simp] theorem Dev.setLk_rt (p : Nat) (x : LkPort) : (d.setLk p x).rt = d.rt := rfl
@[simp] theorem Dev.setLk_tn (p : Nat) (x : LkPort) : (d.setLk p x).tn = d.tn := rfl
@[simp] theorem Dev.setLk_ln (p : Nat) (x : LkPort) : (d.setLk p x).ln = d.ln := rfl
@[simp] theorem Dev.setLk_sc (p : Nat) (x : LkPort) : (d.setLk p x).sc = d.sc := rfl
@[simp] theorem Dev.setLk_sp (p : Nat) (x : LkPort) : (d.setLk p x).sp = d.sp := rfl
@[simp] theorem Dev.setLk_pd (p : Nat) (x : LkPort) : (d.setLk p x).pd = d.pd := rfl
@[simp] theorem Dev.setLk_se (p : Nat) (x : LkPort) : (d.setLk p x).se = d.se := rfl
@[simp] theorem Dev.setLk_bt (p : Nat) (x : LkPort) : (d.setLk p x).bt = d.bt := rfl
@[simp] theorem Dev.setLk_mg (p : Nat) (x : LkPort) : (d.setLk p x).mg = d.mg := rfl
@[simp] theorem Dev.setLk_todo (p : Nat) (x : LkPort) : (d.setLk p x).todo = d.todo := rfl
@[simp] theorem Dev.setLk_out (p : Nat) (x : LkPort) : (d.setLk p x).out = d.out := rfl
@[simp] theorem Dev.setLk_free (p : Nat) (x : LkPort) : (d.setLk p x).free = d.free := rfl
@[simp] theorem Dev.setLk_rd (p : Nat) (x : LkPort) (q : Reg) (j bank : Nat) : (d.setLk p x).rd q j bank = d.rd q j bank := rfl
@[simp] theorem Dev.setLk_now (p : Nat) (x : LkPort) : (d.setLk p x).now = d.now := rfl

/-- Another place keeps what it holds. -/
theorem Dev.setLk_lkPort_ne (p : Nat) (x : LkPort) (j : Nat) (h : j ≠ p) : (d.setLk p x).lkPort j = d.lkPort j :=
  Tbl.get_put_ne _ _ h _

/-! ### setRt -/

@[simp] theorem Dev.setRt_regs (p : Nat) (x : RtPort) : (d.setRt p x).regs = d.regs := rfl
@[simp] theorem Dev.setRt_staged (p : Nat) (x : RtPort) : (d.setRt p x).staged = d.staged := rfl
@[simp] theorem Dev.setRt_st (p : Nat) (x : RtPort) : (d.setRt p x).st = d.st := rfl
@[simp] theorem Dev.setRt_fe (p : Nat) (x : RtPort) : (d.setRt p x).fe = d.fe := rfl
@[simp] theorem Dev.setRt_pc (p : Nat) (x : RtPort) : (d.setRt p x).pc = d.pc := rfl
@[simp] theorem Dev.setRt_hq (p : Nat) (x : RtPort) : (d.setRt p x).hq = d.hq := rfl
@[simp] theorem Dev.setRt_xl (p : Nat) (x : RtPort) : (d.setRt p x).xl = d.xl := rfl
@[simp] theorem Dev.setRt_tp (p : Nat) (x : RtPort) : (d.setRt p x).tp = d.tp := rfl
@[simp] theorem Dev.setRt_mx (p : Nat) (x : RtPort) : (d.setRt p x).mx = d.mx := rfl
@[simp] theorem Dev.setRt_ls (p : Nat) (x : RtPort) : (d.setRt p x).ls = d.ls := rfl
@[simp] theorem Dev.setRt_tw (p : Nat) (x : RtPort) : (d.setRt p x).tw = d.tw := rfl
@[simp] theorem Dev.setRt_cx (p : Nat) (x : RtPort) : (d.setRt p x).cx = d.cx := rfl
@[simp] theorem Dev.setRt_wn (p : Nat) (x : RtPort) : (d.setRt p x).wn = d.wn := rfl
@[simp] theorem Dev.setRt_rl (p : Nat) (x : RtPort) : (d.setRt p x).rl = d.rl := rfl
@[simp] theorem Dev.setRt_map (p : Nat) (x : RtPort) : (d.setRt p x).map = d.map := rfl
@[simp] theorem Dev.setRt_tn (p : Nat) (x : RtPort) : (d.setRt p x).tn = d.tn := rfl
@[simp] theorem Dev.setRt_lk (p : Nat) (x : RtPort) : (d.setRt p x).lk = d.lk := rfl
@[simp] theorem Dev.setRt_ln (p : Nat) (x : RtPort) : (d.setRt p x).ln = d.ln := rfl
@[simp] theorem Dev.setRt_sc (p : Nat) (x : RtPort) : (d.setRt p x).sc = d.sc := rfl
@[simp] theorem Dev.setRt_sp (p : Nat) (x : RtPort) : (d.setRt p x).sp = d.sp := rfl
@[simp] theorem Dev.setRt_pd (p : Nat) (x : RtPort) : (d.setRt p x).pd = d.pd := rfl
@[simp] theorem Dev.setRt_se (p : Nat) (x : RtPort) : (d.setRt p x).se = d.se := rfl
@[simp] theorem Dev.setRt_bt (p : Nat) (x : RtPort) : (d.setRt p x).bt = d.bt := rfl
@[simp] theorem Dev.setRt_mg (p : Nat) (x : RtPort) : (d.setRt p x).mg = d.mg := rfl
@[simp] theorem Dev.setRt_todo (p : Nat) (x : RtPort) : (d.setRt p x).todo = d.todo := rfl
@[simp] theorem Dev.setRt_out (p : Nat) (x : RtPort) : (d.setRt p x).out = d.out := rfl
@[simp] theorem Dev.setRt_free (p : Nat) (x : RtPort) : (d.setRt p x).free = d.free := rfl
@[simp] theorem Dev.setRt_rd (p : Nat) (x : RtPort) (q : Reg) (j bank : Nat) : (d.setRt p x).rd q j bank = d.rd q j bank := rfl
@[simp] theorem Dev.setRt_now (p : Nat) (x : RtPort) : (d.setRt p x).now = d.now := rfl

/-- Another place keeps what it holds. -/
theorem Dev.setRt_rtPort_ne (p : Nat) (x : RtPort) (j : Nat) (h : j ≠ p) : (d.setRt p x).rtPort j = d.rtPort j :=
  Tbl.get_put_ne _ _ h _

/-! ### setLane -/

@[simp] theorem Dev.setLane_regs (l : Nat) (x : LnLane) : (d.setLane l x).regs = d.regs := rfl
@[simp] theorem Dev.setLane_staged (l : Nat) (x : LnLane) : (d.setLane l x).staged = d.staged := rfl
@[simp] theorem Dev.setLane_st (l : Nat) (x : LnLane) : (d.setLane l x).st = d.st := rfl
@[simp] theorem Dev.setLane_fe (l : Nat) (x : LnLane) : (d.setLane l x).fe = d.fe := rfl
@[simp] theorem Dev.setLane_pc (l : Nat) (x : LnLane) : (d.setLane l x).pc = d.pc := rfl
@[simp] theorem Dev.setLane_hq (l : Nat) (x : LnLane) : (d.setLane l x).hq = d.hq := rfl
@[simp] theorem Dev.setLane_xl (l : Nat) (x : LnLane) : (d.setLane l x).xl = d.xl := rfl
@[simp] theorem Dev.setLane_tp (l : Nat) (x : LnLane) : (d.setLane l x).tp = d.tp := rfl
@[simp] theorem Dev.setLane_mx (l : Nat) (x : LnLane) : (d.setLane l x).mx = d.mx := rfl
@[simp] theorem Dev.setLane_ls (l : Nat) (x : LnLane) : (d.setLane l x).ls = d.ls := rfl
@[simp] theorem Dev.setLane_tw (l : Nat) (x : LnLane) : (d.setLane l x).tw = d.tw := rfl
@[simp] theorem Dev.setLane_cx (l : Nat) (x : LnLane) : (d.setLane l x).cx = d.cx := rfl
@[simp] theorem Dev.setLane_wn (l : Nat) (x : LnLane) : (d.setLane l x).wn = d.wn := rfl
@[simp] theorem Dev.setLane_rl (l : Nat) (x : LnLane) : (d.setLane l x).rl = d.rl := rfl
@[simp] theorem Dev.setLane_map (l : Nat) (x : LnLane) : (d.setLane l x).map = d.map := rfl
@[simp] theorem Dev.setLane_rt (l : Nat) (x : LnLane) : (d.setLane l x).rt = d.rt := rfl
@[simp] theorem Dev.setLane_tn (l : Nat) (x : LnLane) : (d.setLane l x).tn = d.tn := rfl
@[simp] theorem Dev.setLane_lk (l : Nat) (x : LnLane) : (d.setLane l x).lk = d.lk := rfl
@[simp] theorem Dev.setLane_sc (l : Nat) (x : LnLane) : (d.setLane l x).sc = d.sc := rfl
@[simp] theorem Dev.setLane_sp (l : Nat) (x : LnLane) : (d.setLane l x).sp = d.sp := rfl
@[simp] theorem Dev.setLane_pd (l : Nat) (x : LnLane) : (d.setLane l x).pd = d.pd := rfl
@[simp] theorem Dev.setLane_se (l : Nat) (x : LnLane) : (d.setLane l x).se = d.se := rfl
@[simp] theorem Dev.setLane_bt (l : Nat) (x : LnLane) : (d.setLane l x).bt = d.bt := rfl
@[simp] theorem Dev.setLane_mg (l : Nat) (x : LnLane) : (d.setLane l x).mg = d.mg := rfl
@[simp] theorem Dev.setLane_todo (l : Nat) (x : LnLane) : (d.setLane l x).todo = d.todo := rfl
@[simp] theorem Dev.setLane_out (l : Nat) (x : LnLane) : (d.setLane l x).out = d.out := rfl
@[simp] theorem Dev.setLane_free (l : Nat) (x : LnLane) : (d.setLane l x).free = d.free := rfl
@[simp] theorem Dev.setLane_rd (l : Nat) (x : LnLane) (q : Reg) (j bank : Nat) : (d.setLane l x).rd q j bank = d.rd q j bank := rfl
@[simp] theorem Dev.setLane_now (l : Nat) (x : LnLane) : (d.setLane l x).now = d.now := rfl

/-- Another place keeps what it holds. -/
theorem Dev.setLane_lane_ne (l : Nat) (x : LnLane) (j : Nat) (h : j ≠ l) : (d.setLane l x).lane j = d.lane j :=
  Tbl.get_put_ne _ _ h _

/-! ### setSlot -/

@[simp] theorem Dev.setSlot_regs (s : Nat) (x : SpSlot) : (d.setSlot s x).regs = d.regs := rfl
@[simp] theorem Dev.setSlot_staged (s : Nat) (x : SpSlot) : (d.setSlot s x).staged = d.staged := rfl
@[simp] theorem Dev.setSlot_st (s : Nat) (x : SpSlot) : (d.setSlot s x).st = d.st := rfl
@[simp] theorem Dev.setSlot_fe (s : Nat) (x : SpSlot) : (d.setSlot s x).fe = d.fe := rfl
@[simp] theorem Dev.setSlot_pc (s : Nat) (x : SpSlot) : (d.setSlot s x).pc = d.pc := rfl
@[simp] theorem Dev.setSlot_hq (s : Nat) (x : SpSlot) : (d.setSlot s x).hq = d.hq := rfl
@[simp] theorem Dev.setSlot_xl (s : Nat) (x : SpSlot) : (d.setSlot s x).xl = d.xl := rfl
@[simp] theorem Dev.setSlot_tp (s : Nat) (x : SpSlot) : (d.setSlot s x).tp = d.tp := rfl
@[simp] theorem Dev.setSlot_mx (s : Nat) (x : SpSlot) : (d.setSlot s x).mx = d.mx := rfl
@[simp] theorem Dev.setSlot_ls (s : Nat) (x : SpSlot) : (d.setSlot s x).ls = d.ls := rfl
@[simp] theorem Dev.setSlot_tw (s : Nat) (x : SpSlot) : (d.setSlot s x).tw = d.tw := rfl
@[simp] theorem Dev.setSlot_cx (s : Nat) (x : SpSlot) : (d.setSlot s x).cx = d.cx := rfl
@[simp] theorem Dev.setSlot_wn (s : Nat) (x : SpSlot) : (d.setSlot s x).wn = d.wn := rfl
@[simp] theorem Dev.setSlot_rl (s : Nat) (x : SpSlot) : (d.setSlot s x).rl = d.rl := rfl
@[simp] theorem Dev.setSlot_map (s : Nat) (x : SpSlot) : (d.setSlot s x).map = d.map := rfl
@[simp] theorem Dev.setSlot_rt (s : Nat) (x : SpSlot) : (d.setSlot s x).rt = d.rt := rfl
@[simp] theorem Dev.setSlot_tn (s : Nat) (x : SpSlot) : (d.setSlot s x).tn = d.tn := rfl
@[simp] theorem Dev.setSlot_lk (s : Nat) (x : SpSlot) : (d.setSlot s x).lk = d.lk := rfl
@[simp] theorem Dev.setSlot_ln (s : Nat) (x : SpSlot) : (d.setSlot s x).ln = d.ln := rfl
@[simp] theorem Dev.setSlot_sc (s : Nat) (x : SpSlot) : (d.setSlot s x).sc = d.sc := rfl
@[simp] theorem Dev.setSlot_pd (s : Nat) (x : SpSlot) : (d.setSlot s x).pd = d.pd := rfl
@[simp] theorem Dev.setSlot_se (s : Nat) (x : SpSlot) : (d.setSlot s x).se = d.se := rfl
@[simp] theorem Dev.setSlot_bt (s : Nat) (x : SpSlot) : (d.setSlot s x).bt = d.bt := rfl
@[simp] theorem Dev.setSlot_mg (s : Nat) (x : SpSlot) : (d.setSlot s x).mg = d.mg := rfl
@[simp] theorem Dev.setSlot_todo (s : Nat) (x : SpSlot) : (d.setSlot s x).todo = d.todo := rfl
@[simp] theorem Dev.setSlot_out (s : Nat) (x : SpSlot) : (d.setSlot s x).out = d.out := rfl
@[simp] theorem Dev.setSlot_free (s : Nat) (x : SpSlot) : (d.setSlot s x).free = d.free := rfl
@[simp] theorem Dev.setSlot_rd (s : Nat) (x : SpSlot) (q : Reg) (j bank : Nat) : (d.setSlot s x).rd q j bank = d.rd q j bank := rfl
@[simp] theorem Dev.setSlot_now (s : Nat) (x : SpSlot) : (d.setSlot s x).now = d.now := rfl

/-- Another place keeps what it holds. -/
theorem Dev.setSlot_slot_ne (s : Nat) (x : SpSlot) (j : Nat) (h : j ≠ s) : (d.setSlot s x).slot j = d.slot j :=
  Tbl.get_put_ne _ _ h _

/-! ### setGroup -/

@[simp] theorem Dev.setGroup_regs (g : Nat) (x : SpGroup) : (d.setGroup g x).regs = d.regs := rfl
@[simp] theorem Dev.setGroup_staged (g : Nat) (x : SpGroup) : (d.setGroup g x).staged = d.staged := rfl
@[simp] theorem Dev.setGroup_st (g : Nat) (x : SpGroup) : (d.setGroup g x).st = d.st := rfl
@[simp] theorem Dev.setGroup_fe (g : Nat) (x : SpGroup) : (d.setGroup g x).fe = d.fe := rfl
@[simp] theorem Dev.setGroup_pc (g : Nat) (x : SpGroup) : (d.setGroup g x).pc = d.pc := rfl
@[simp] theorem Dev.setGroup_hq (g : Nat) (x : SpGroup) : (d.setGroup g x).hq = d.hq := rfl
@[simp] theorem Dev.setGroup_xl (g : Nat) (x : SpGroup) : (d.setGroup g x).xl = d.xl := rfl
@[simp] theorem Dev.setGroup_tp (g : Nat) (x : SpGroup) : (d.setGroup g x).tp = d.tp := rfl
@[simp] theorem Dev.setGroup_mx (g : Nat) (x : SpGroup) : (d.setGroup g x).mx = d.mx := rfl
@[simp] theorem Dev.setGroup_ls (g : Nat) (x : SpGroup) : (d.setGroup g x).ls = d.ls := rfl
@[simp] theorem Dev.setGroup_tw (g : Nat) (x : SpGroup) : (d.setGroup g x).tw = d.tw := rfl
@[simp] theorem Dev.setGroup_cx (g : Nat) (x : SpGroup) : (d.setGroup g x).cx = d.cx := rfl
@[simp] theorem Dev.setGroup_wn (g : Nat) (x : SpGroup) : (d.setGroup g x).wn = d.wn := rfl
@[simp] theorem Dev.setGroup_rl (g : Nat) (x : SpGroup) : (d.setGroup g x).rl = d.rl := rfl
@[simp] theorem Dev.setGroup_map (g : Nat) (x : SpGroup) : (d.setGroup g x).map = d.map := rfl
@[simp] theorem Dev.setGroup_rt (g : Nat) (x : SpGroup) : (d.setGroup g x).rt = d.rt := rfl
@[simp] theorem Dev.setGroup_tn (g : Nat) (x : SpGroup) : (d.setGroup g x).tn = d.tn := rfl
@[simp] theorem Dev.setGroup_lk (g : Nat) (x : SpGroup) : (d.setGroup g x).lk = d.lk := rfl
@[simp] theorem Dev.setGroup_ln (g : Nat) (x : SpGroup) : (d.setGroup g x).ln = d.ln := rfl
@[simp] theorem Dev.setGroup_sc (g : Nat) (x : SpGroup) : (d.setGroup g x).sc = d.sc := rfl
@[simp] theorem Dev.setGroup_pd (g : Nat) (x : SpGroup) : (d.setGroup g x).pd = d.pd := rfl
@[simp] theorem Dev.setGroup_se (g : Nat) (x : SpGroup) : (d.setGroup g x).se = d.se := rfl
@[simp] theorem Dev.setGroup_bt (g : Nat) (x : SpGroup) : (d.setGroup g x).bt = d.bt := rfl
@[simp] theorem Dev.setGroup_mg (g : Nat) (x : SpGroup) : (d.setGroup g x).mg = d.mg := rfl
@[simp] theorem Dev.setGroup_todo (g : Nat) (x : SpGroup) : (d.setGroup g x).todo = d.todo := rfl
@[simp] theorem Dev.setGroup_out (g : Nat) (x : SpGroup) : (d.setGroup g x).out = d.out := rfl
@[simp] theorem Dev.setGroup_free (g : Nat) (x : SpGroup) : (d.setGroup g x).free = d.free := rfl
@[simp] theorem Dev.setGroup_rd (g : Nat) (x : SpGroup) (q : Reg) (j bank : Nat) : (d.setGroup g x).rd q j bank = d.rd q j bank := rfl
@[simp] theorem Dev.setGroup_now (g : Nat) (x : SpGroup) : (d.setGroup g x).now = d.now := rfl

/-- Another place keeps what it holds. -/
theorem Dev.setGroup_group_ne (g : Nat) (x : SpGroup) (j : Nat) (h : j ≠ g) : (d.setGroup g x).group j = d.group j :=
  Tbl.get_put_ne _ _ h _

/-! ### setCx -/

@[simp] theorem Dev.setCx_regs (k : Nat) (x : CxPort) : (d.setCx k x).regs = d.regs := rfl
@[simp] theorem Dev.setCx_staged (k : Nat) (x : CxPort) : (d.setCx k x).staged = d.staged := rfl
@[simp] theorem Dev.setCx_st (k : Nat) (x : CxPort) : (d.setCx k x).st = d.st := rfl
@[simp] theorem Dev.setCx_fe (k : Nat) (x : CxPort) : (d.setCx k x).fe = d.fe := rfl
@[simp] theorem Dev.setCx_pc (k : Nat) (x : CxPort) : (d.setCx k x).pc = d.pc := rfl
@[simp] theorem Dev.setCx_hq (k : Nat) (x : CxPort) : (d.setCx k x).hq = d.hq := rfl
@[simp] theorem Dev.setCx_xl (k : Nat) (x : CxPort) : (d.setCx k x).xl = d.xl := rfl
@[simp] theorem Dev.setCx_tp (k : Nat) (x : CxPort) : (d.setCx k x).tp = d.tp := rfl
@[simp] theorem Dev.setCx_mx (k : Nat) (x : CxPort) : (d.setCx k x).mx = d.mx := rfl
@[simp] theorem Dev.setCx_ls (k : Nat) (x : CxPort) : (d.setCx k x).ls = d.ls := rfl
@[simp] theorem Dev.setCx_tw (k : Nat) (x : CxPort) : (d.setCx k x).tw = d.tw := rfl
@[simp] theorem Dev.setCx_wn (k : Nat) (x : CxPort) : (d.setCx k x).wn = d.wn := rfl
@[simp] theorem Dev.setCx_rl (k : Nat) (x : CxPort) : (d.setCx k x).rl = d.rl := rfl
@[simp] theorem Dev.setCx_map (k : Nat) (x : CxPort) : (d.setCx k x).map = d.map := rfl
@[simp] theorem Dev.setCx_rt (k : Nat) (x : CxPort) : (d.setCx k x).rt = d.rt := rfl
@[simp] theorem Dev.setCx_tn (k : Nat) (x : CxPort) : (d.setCx k x).tn = d.tn := rfl
@[simp] theorem Dev.setCx_lk (k : Nat) (x : CxPort) : (d.setCx k x).lk = d.lk := rfl
@[simp] theorem Dev.setCx_ln (k : Nat) (x : CxPort) : (d.setCx k x).ln = d.ln := rfl
@[simp] theorem Dev.setCx_sc (k : Nat) (x : CxPort) : (d.setCx k x).sc = d.sc := rfl
@[simp] theorem Dev.setCx_sp (k : Nat) (x : CxPort) : (d.setCx k x).sp = d.sp := rfl
@[simp] theorem Dev.setCx_pd (k : Nat) (x : CxPort) : (d.setCx k x).pd = d.pd := rfl
@[simp] theorem Dev.setCx_se (k : Nat) (x : CxPort) : (d.setCx k x).se = d.se := rfl
@[simp] theorem Dev.setCx_bt (k : Nat) (x : CxPort) : (d.setCx k x).bt = d.bt := rfl
@[simp] theorem Dev.setCx_mg (k : Nat) (x : CxPort) : (d.setCx k x).mg = d.mg := rfl
@[simp] theorem Dev.setCx_todo (k : Nat) (x : CxPort) : (d.setCx k x).todo = d.todo := rfl
@[simp] theorem Dev.setCx_out (k : Nat) (x : CxPort) : (d.setCx k x).out = d.out := rfl
@[simp] theorem Dev.setCx_free (k : Nat) (x : CxPort) : (d.setCx k x).free = d.free := rfl
@[simp] theorem Dev.setCx_rd (k : Nat) (x : CxPort) (q : Reg) (j bank : Nat) : (d.setCx k x).rd q j bank = d.rd q j bank := rfl
@[simp] theorem Dev.setCx_now (k : Nat) (x : CxPort) : (d.setCx k x).now = d.now := rfl

/-- Another place keeps what it holds. -/
theorem Dev.setCx_cxPort_ne (k : Nat) (x : CxPort) (j : Nat) (h : j ≠ k) : (d.setCx k x).cxPort j = d.cxPort j :=
  Tbl.get_put_ne _ _ h _

/-! ### setVppb -/

@[simp] theorem Dev.setVppb_regs (h v : Nat) (x : Vppb) : (d.setVppb h v x).regs = d.regs := rfl
@[simp] theorem Dev.setVppb_staged (h v : Nat) (x : Vppb) : (d.setVppb h v x).staged = d.staged := rfl
@[simp] theorem Dev.setVppb_st (h v : Nat) (x : Vppb) : (d.setVppb h v x).st = d.st := rfl
@[simp] theorem Dev.setVppb_fe (h v : Nat) (x : Vppb) : (d.setVppb h v x).fe = d.fe := rfl
@[simp] theorem Dev.setVppb_pc (h v : Nat) (x : Vppb) : (d.setVppb h v x).pc = d.pc := rfl
@[simp] theorem Dev.setVppb_hq (h v : Nat) (x : Vppb) : (d.setVppb h v x).hq = d.hq := rfl
@[simp] theorem Dev.setVppb_xl (h v : Nat) (x : Vppb) : (d.setVppb h v x).xl = d.xl := rfl
@[simp] theorem Dev.setVppb_tp (h v : Nat) (x : Vppb) : (d.setVppb h v x).tp = d.tp := rfl
@[simp] theorem Dev.setVppb_mx (h v : Nat) (x : Vppb) : (d.setVppb h v x).mx = d.mx := rfl
@[simp] theorem Dev.setVppb_ls (h v : Nat) (x : Vppb) : (d.setVppb h v x).ls = d.ls := rfl
@[simp] theorem Dev.setVppb_tw (h v : Nat) (x : Vppb) : (d.setVppb h v x).tw = d.tw := rfl
@[simp] theorem Dev.setVppb_wn (h v : Nat) (x : Vppb) : (d.setVppb h v x).wn = d.wn := rfl
@[simp] theorem Dev.setVppb_rl (h v : Nat) (x : Vppb) : (d.setVppb h v x).rl = d.rl := rfl
@[simp] theorem Dev.setVppb_map (h v : Nat) (x : Vppb) : (d.setVppb h v x).map = d.map := rfl
@[simp] theorem Dev.setVppb_rt (h v : Nat) (x : Vppb) : (d.setVppb h v x).rt = d.rt := rfl
@[simp] theorem Dev.setVppb_tn (h v : Nat) (x : Vppb) : (d.setVppb h v x).tn = d.tn := rfl
@[simp] theorem Dev.setVppb_lk (h v : Nat) (x : Vppb) : (d.setVppb h v x).lk = d.lk := rfl
@[simp] theorem Dev.setVppb_ln (h v : Nat) (x : Vppb) : (d.setVppb h v x).ln = d.ln := rfl
@[simp] theorem Dev.setVppb_sc (h v : Nat) (x : Vppb) : (d.setVppb h v x).sc = d.sc := rfl
@[simp] theorem Dev.setVppb_sp (h v : Nat) (x : Vppb) : (d.setVppb h v x).sp = d.sp := rfl
@[simp] theorem Dev.setVppb_pd (h v : Nat) (x : Vppb) : (d.setVppb h v x).pd = d.pd := rfl
@[simp] theorem Dev.setVppb_se (h v : Nat) (x : Vppb) : (d.setVppb h v x).se = d.se := rfl
@[simp] theorem Dev.setVppb_bt (h v : Nat) (x : Vppb) : (d.setVppb h v x).bt = d.bt := rfl
@[simp] theorem Dev.setVppb_mg (h v : Nat) (x : Vppb) : (d.setVppb h v x).mg = d.mg := rfl
@[simp] theorem Dev.setVppb_todo (h v : Nat) (x : Vppb) : (d.setVppb h v x).todo = d.todo := rfl
@[simp] theorem Dev.setVppb_out (h v : Nat) (x : Vppb) : (d.setVppb h v x).out = d.out := rfl
@[simp] theorem Dev.setVppb_free (h v : Nat) (x : Vppb) : (d.setVppb h v x).free = d.free := rfl
@[simp] theorem Dev.setVppb_rd (h v : Nat) (x : Vppb) (q : Reg) (j bank : Nat) : (d.setVppb h v x).rd q j bank = d.rd q j bank := rfl
@[simp] theorem Dev.setVppb_now (h v : Nat) (x : Vppb) : (d.setVppb h v x).now = d.now := rfl

/-! ### setWin -/

@[simp] theorem Dev.setWin_regs (w : Nat) (x : WinState) : (d.setWin w x).regs = d.regs := rfl
@[simp] theorem Dev.setWin_staged (w : Nat) (x : WinState) : (d.setWin w x).staged = d.staged := rfl
@[simp] theorem Dev.setWin_st (w : Nat) (x : WinState) : (d.setWin w x).st = d.st := rfl
@[simp] theorem Dev.setWin_fe (w : Nat) (x : WinState) : (d.setWin w x).fe = d.fe := rfl
@[simp] theorem Dev.setWin_pc (w : Nat) (x : WinState) : (d.setWin w x).pc = d.pc := rfl
@[simp] theorem Dev.setWin_hq (w : Nat) (x : WinState) : (d.setWin w x).hq = d.hq := rfl
@[simp] theorem Dev.setWin_xl (w : Nat) (x : WinState) : (d.setWin w x).xl = d.xl := rfl
@[simp] theorem Dev.setWin_tp (w : Nat) (x : WinState) : (d.setWin w x).tp = d.tp := rfl
@[simp] theorem Dev.setWin_mx (w : Nat) (x : WinState) : (d.setWin w x).mx = d.mx := rfl
@[simp] theorem Dev.setWin_ls (w : Nat) (x : WinState) : (d.setWin w x).ls = d.ls := rfl
@[simp] theorem Dev.setWin_tw (w : Nat) (x : WinState) : (d.setWin w x).tw = d.tw := rfl
@[simp] theorem Dev.setWin_cx (w : Nat) (x : WinState) : (d.setWin w x).cx = d.cx := rfl
@[simp] theorem Dev.setWin_rl (w : Nat) (x : WinState) : (d.setWin w x).rl = d.rl := rfl
@[simp] theorem Dev.setWin_map (w : Nat) (x : WinState) : (d.setWin w x).map = d.map := rfl
@[simp] theorem Dev.setWin_rt (w : Nat) (x : WinState) : (d.setWin w x).rt = d.rt := rfl
@[simp] theorem Dev.setWin_tn (w : Nat) (x : WinState) : (d.setWin w x).tn = d.tn := rfl
@[simp] theorem Dev.setWin_lk (w : Nat) (x : WinState) : (d.setWin w x).lk = d.lk := rfl
@[simp] theorem Dev.setWin_ln (w : Nat) (x : WinState) : (d.setWin w x).ln = d.ln := rfl
@[simp] theorem Dev.setWin_sc (w : Nat) (x : WinState) : (d.setWin w x).sc = d.sc := rfl
@[simp] theorem Dev.setWin_sp (w : Nat) (x : WinState) : (d.setWin w x).sp = d.sp := rfl
@[simp] theorem Dev.setWin_pd (w : Nat) (x : WinState) : (d.setWin w x).pd = d.pd := rfl
@[simp] theorem Dev.setWin_se (w : Nat) (x : WinState) : (d.setWin w x).se = d.se := rfl
@[simp] theorem Dev.setWin_bt (w : Nat) (x : WinState) : (d.setWin w x).bt = d.bt := rfl
@[simp] theorem Dev.setWin_mg (w : Nat) (x : WinState) : (d.setWin w x).mg = d.mg := rfl
@[simp] theorem Dev.setWin_todo (w : Nat) (x : WinState) : (d.setWin w x).todo = d.todo := rfl
@[simp] theorem Dev.setWin_out (w : Nat) (x : WinState) : (d.setWin w x).out = d.out := rfl
@[simp] theorem Dev.setWin_free (w : Nat) (x : WinState) : (d.setWin w x).free = d.free := rfl
@[simp] theorem Dev.setWin_rd (w : Nat) (x : WinState) (q : Reg) (j bank : Nat) : (d.setWin w x).rd q j bank = d.rd q j bank := rfl
@[simp] theorem Dev.setWin_now (w : Nat) (x : WinState) : (d.setWin w x).now = d.now := rfl

/-- Another place keeps what it holds. -/
theorem Dev.setWin_win_ne (w : Nat) (x : WinState) (j : Nat) (h : j ≠ w) : (d.setWin w x).win j = d.win j :=
  Tbl.get_put_ne _ _ h _

/-! ### setLock -/

@[simp] theorem Dev.setLock_regs (k : Nat) (c : LockCell) : (d.setLock k c).regs = d.regs := rfl
@[simp] theorem Dev.setLock_staged (k : Nat) (c : LockCell) : (d.setLock k c).staged = d.staged := rfl
@[simp] theorem Dev.setLock_st (k : Nat) (c : LockCell) : (d.setLock k c).st = d.st := rfl
@[simp] theorem Dev.setLock_fe (k : Nat) (c : LockCell) : (d.setLock k c).fe = d.fe := rfl
@[simp] theorem Dev.setLock_pc (k : Nat) (c : LockCell) : (d.setLock k c).pc = d.pc := rfl
@[simp] theorem Dev.setLock_hq (k : Nat) (c : LockCell) : (d.setLock k c).hq = d.hq := rfl
@[simp] theorem Dev.setLock_xl (k : Nat) (c : LockCell) : (d.setLock k c).xl = d.xl := rfl
@[simp] theorem Dev.setLock_tp (k : Nat) (c : LockCell) : (d.setLock k c).tp = d.tp := rfl
@[simp] theorem Dev.setLock_mx (k : Nat) (c : LockCell) : (d.setLock k c).mx = d.mx := rfl
@[simp] theorem Dev.setLock_tw (k : Nat) (c : LockCell) : (d.setLock k c).tw = d.tw := rfl
@[simp] theorem Dev.setLock_cx (k : Nat) (c : LockCell) : (d.setLock k c).cx = d.cx := rfl
@[simp] theorem Dev.setLock_wn (k : Nat) (c : LockCell) : (d.setLock k c).wn = d.wn := rfl
@[simp] theorem Dev.setLock_rl (k : Nat) (c : LockCell) : (d.setLock k c).rl = d.rl := rfl
@[simp] theorem Dev.setLock_map (k : Nat) (c : LockCell) : (d.setLock k c).map = d.map := rfl
@[simp] theorem Dev.setLock_rt (k : Nat) (c : LockCell) : (d.setLock k c).rt = d.rt := rfl
@[simp] theorem Dev.setLock_tn (k : Nat) (c : LockCell) : (d.setLock k c).tn = d.tn := rfl
@[simp] theorem Dev.setLock_lk (k : Nat) (c : LockCell) : (d.setLock k c).lk = d.lk := rfl
@[simp] theorem Dev.setLock_ln (k : Nat) (c : LockCell) : (d.setLock k c).ln = d.ln := rfl
@[simp] theorem Dev.setLock_sc (k : Nat) (c : LockCell) : (d.setLock k c).sc = d.sc := rfl
@[simp] theorem Dev.setLock_sp (k : Nat) (c : LockCell) : (d.setLock k c).sp = d.sp := rfl
@[simp] theorem Dev.setLock_pd (k : Nat) (c : LockCell) : (d.setLock k c).pd = d.pd := rfl
@[simp] theorem Dev.setLock_se (k : Nat) (c : LockCell) : (d.setLock k c).se = d.se := rfl
@[simp] theorem Dev.setLock_bt (k : Nat) (c : LockCell) : (d.setLock k c).bt = d.bt := rfl
@[simp] theorem Dev.setLock_mg (k : Nat) (c : LockCell) : (d.setLock k c).mg = d.mg := rfl
@[simp] theorem Dev.setLock_todo (k : Nat) (c : LockCell) : (d.setLock k c).todo = d.todo := rfl
@[simp] theorem Dev.setLock_out (k : Nat) (c : LockCell) : (d.setLock k c).out = d.out := rfl
@[simp] theorem Dev.setLock_free (k : Nat) (c : LockCell) : (d.setLock k c).free = d.free := rfl
@[simp] theorem Dev.setLock_rd (k : Nat) (c : LockCell) (q : Reg) (j bank : Nat) : (d.setLock k c).rd q j bank = d.rd q j bank := rfl
@[simp] theorem Dev.setLock_now (k : Nat) (c : LockCell) : (d.setLock k c).now = d.now := rfl

/-- Another place keeps what it holds. -/
theorem Dev.setLock_lock_ne (k : Nat) (c : LockCell) (j : Nat) (h : j ≠ k) : (d.setLock k c).lock j = d.lock j :=
  Tbl.get_put_ne _ _ h _

/-! ### setRlGroup -/

@[simp] theorem Dev.setRlGroup_regs (g : Nat) (x : RlGroup) : (d.setRlGroup g x).regs = d.regs := rfl
@[simp] theorem Dev.setRlGroup_staged (g : Nat) (x : RlGroup) : (d.setRlGroup g x).staged = d.staged := rfl
@[simp] theorem Dev.setRlGroup_st (g : Nat) (x : RlGroup) : (d.setRlGroup g x).st = d.st := rfl
@[simp] theorem Dev.setRlGroup_fe (g : Nat) (x : RlGroup) : (d.setRlGroup g x).fe = d.fe := rfl
@[simp] theorem Dev.setRlGroup_pc (g : Nat) (x : RlGroup) : (d.setRlGroup g x).pc = d.pc := rfl
@[simp] theorem Dev.setRlGroup_hq (g : Nat) (x : RlGroup) : (d.setRlGroup g x).hq = d.hq := rfl
@[simp] theorem Dev.setRlGroup_xl (g : Nat) (x : RlGroup) : (d.setRlGroup g x).xl = d.xl := rfl
@[simp] theorem Dev.setRlGroup_tp (g : Nat) (x : RlGroup) : (d.setRlGroup g x).tp = d.tp := rfl
@[simp] theorem Dev.setRlGroup_mx (g : Nat) (x : RlGroup) : (d.setRlGroup g x).mx = d.mx := rfl
@[simp] theorem Dev.setRlGroup_ls (g : Nat) (x : RlGroup) : (d.setRlGroup g x).ls = d.ls := rfl
@[simp] theorem Dev.setRlGroup_tw (g : Nat) (x : RlGroup) : (d.setRlGroup g x).tw = d.tw := rfl
@[simp] theorem Dev.setRlGroup_cx (g : Nat) (x : RlGroup) : (d.setRlGroup g x).cx = d.cx := rfl
@[simp] theorem Dev.setRlGroup_wn (g : Nat) (x : RlGroup) : (d.setRlGroup g x).wn = d.wn := rfl
@[simp] theorem Dev.setRlGroup_map (g : Nat) (x : RlGroup) : (d.setRlGroup g x).map = d.map := rfl
@[simp] theorem Dev.setRlGroup_rt (g : Nat) (x : RlGroup) : (d.setRlGroup g x).rt = d.rt := rfl
@[simp] theorem Dev.setRlGroup_tn (g : Nat) (x : RlGroup) : (d.setRlGroup g x).tn = d.tn := rfl
@[simp] theorem Dev.setRlGroup_lk (g : Nat) (x : RlGroup) : (d.setRlGroup g x).lk = d.lk := rfl
@[simp] theorem Dev.setRlGroup_ln (g : Nat) (x : RlGroup) : (d.setRlGroup g x).ln = d.ln := rfl
@[simp] theorem Dev.setRlGroup_sc (g : Nat) (x : RlGroup) : (d.setRlGroup g x).sc = d.sc := rfl
@[simp] theorem Dev.setRlGroup_sp (g : Nat) (x : RlGroup) : (d.setRlGroup g x).sp = d.sp := rfl
@[simp] theorem Dev.setRlGroup_pd (g : Nat) (x : RlGroup) : (d.setRlGroup g x).pd = d.pd := rfl
@[simp] theorem Dev.setRlGroup_se (g : Nat) (x : RlGroup) : (d.setRlGroup g x).se = d.se := rfl
@[simp] theorem Dev.setRlGroup_bt (g : Nat) (x : RlGroup) : (d.setRlGroup g x).bt = d.bt := rfl
@[simp] theorem Dev.setRlGroup_mg (g : Nat) (x : RlGroup) : (d.setRlGroup g x).mg = d.mg := rfl
@[simp] theorem Dev.setRlGroup_todo (g : Nat) (x : RlGroup) : (d.setRlGroup g x).todo = d.todo := rfl
@[simp] theorem Dev.setRlGroup_out (g : Nat) (x : RlGroup) : (d.setRlGroup g x).out = d.out := rfl
@[simp] theorem Dev.setRlGroup_free (g : Nat) (x : RlGroup) : (d.setRlGroup g x).free = d.free := rfl
@[simp] theorem Dev.setRlGroup_rd (g : Nat) (x : RlGroup) (q : Reg) (j bank : Nat) : (d.setRlGroup g x).rd q j bank = d.rd q j bank := rfl
@[simp] theorem Dev.setRlGroup_now (g : Nat) (x : RlGroup) : (d.setRlGroup g x).now = d.now := rfl

/-- Another place keeps what it holds. -/
theorem Dev.setRlGroup_rlGroup_ne (g : Nat) (x : RlGroup) (j : Nat) (h : j ≠ g) : (d.setRlGroup g x).rlGroup j = d.rlGroup j :=
  Tbl.get_put_ne _ _ h _

/-! ### setSes -/

@[simp] theorem Dev.setSes_regs (s : Nat) (x : TnSession) : (d.setSes s x).regs = d.regs := rfl
@[simp] theorem Dev.setSes_staged (s : Nat) (x : TnSession) : (d.setSes s x).staged = d.staged := rfl
@[simp] theorem Dev.setSes_st (s : Nat) (x : TnSession) : (d.setSes s x).st = d.st := rfl
@[simp] theorem Dev.setSes_fe (s : Nat) (x : TnSession) : (d.setSes s x).fe = d.fe := rfl
@[simp] theorem Dev.setSes_pc (s : Nat) (x : TnSession) : (d.setSes s x).pc = d.pc := rfl
@[simp] theorem Dev.setSes_hq (s : Nat) (x : TnSession) : (d.setSes s x).hq = d.hq := rfl
@[simp] theorem Dev.setSes_xl (s : Nat) (x : TnSession) : (d.setSes s x).xl = d.xl := rfl
@[simp] theorem Dev.setSes_tp (s : Nat) (x : TnSession) : (d.setSes s x).tp = d.tp := rfl
@[simp] theorem Dev.setSes_mx (s : Nat) (x : TnSession) : (d.setSes s x).mx = d.mx := rfl
@[simp] theorem Dev.setSes_ls (s : Nat) (x : TnSession) : (d.setSes s x).ls = d.ls := rfl
@[simp] theorem Dev.setSes_tw (s : Nat) (x : TnSession) : (d.setSes s x).tw = d.tw := rfl
@[simp] theorem Dev.setSes_cx (s : Nat) (x : TnSession) : (d.setSes s x).cx = d.cx := rfl
@[simp] theorem Dev.setSes_wn (s : Nat) (x : TnSession) : (d.setSes s x).wn = d.wn := rfl
@[simp] theorem Dev.setSes_rl (s : Nat) (x : TnSession) : (d.setSes s x).rl = d.rl := rfl
@[simp] theorem Dev.setSes_map (s : Nat) (x : TnSession) : (d.setSes s x).map = d.map := rfl
@[simp] theorem Dev.setSes_rt (s : Nat) (x : TnSession) : (d.setSes s x).rt = d.rt := rfl
@[simp] theorem Dev.setSes_lk (s : Nat) (x : TnSession) : (d.setSes s x).lk = d.lk := rfl
@[simp] theorem Dev.setSes_ln (s : Nat) (x : TnSession) : (d.setSes s x).ln = d.ln := rfl
@[simp] theorem Dev.setSes_sc (s : Nat) (x : TnSession) : (d.setSes s x).sc = d.sc := rfl
@[simp] theorem Dev.setSes_sp (s : Nat) (x : TnSession) : (d.setSes s x).sp = d.sp := rfl
@[simp] theorem Dev.setSes_pd (s : Nat) (x : TnSession) : (d.setSes s x).pd = d.pd := rfl
@[simp] theorem Dev.setSes_se (s : Nat) (x : TnSession) : (d.setSes s x).se = d.se := rfl
@[simp] theorem Dev.setSes_bt (s : Nat) (x : TnSession) : (d.setSes s x).bt = d.bt := rfl
@[simp] theorem Dev.setSes_mg (s : Nat) (x : TnSession) : (d.setSes s x).mg = d.mg := rfl
@[simp] theorem Dev.setSes_todo (s : Nat) (x : TnSession) : (d.setSes s x).todo = d.todo := rfl
@[simp] theorem Dev.setSes_out (s : Nat) (x : TnSession) : (d.setSes s x).out = d.out := rfl
@[simp] theorem Dev.setSes_free (s : Nat) (x : TnSession) : (d.setSes s x).free = d.free := rfl
@[simp] theorem Dev.setSes_rd (s : Nat) (x : TnSession) (q : Reg) (j bank : Nat) : (d.setSes s x).rd q j bank = d.rd q j bank := rfl
@[simp] theorem Dev.setSes_now (s : Nat) (x : TnSession) : (d.setSes s x).now = d.now := rfl

/-- Another place keeps what it holds. -/
theorem Dev.setSes_ses_ne (s : Nat) (x : TnSession) (j : Nat) (h : j ≠ s) : (d.setSes s x).ses j = d.ses j :=
  Tbl.get_put_ne _ _ h _

/-! ### setSc -/

@[simp] theorem Dev.setSc_regs (o : Nat) (x : ScOut) : (d.setSc o x).regs = d.regs := rfl
@[simp] theorem Dev.setSc_staged (o : Nat) (x : ScOut) : (d.setSc o x).staged = d.staged := rfl
@[simp] theorem Dev.setSc_st (o : Nat) (x : ScOut) : (d.setSc o x).st = d.st := rfl
@[simp] theorem Dev.setSc_fe (o : Nat) (x : ScOut) : (d.setSc o x).fe = d.fe := rfl
@[simp] theorem Dev.setSc_pc (o : Nat) (x : ScOut) : (d.setSc o x).pc = d.pc := rfl
@[simp] theorem Dev.setSc_hq (o : Nat) (x : ScOut) : (d.setSc o x).hq = d.hq := rfl
@[simp] theorem Dev.setSc_xl (o : Nat) (x : ScOut) : (d.setSc o x).xl = d.xl := rfl
@[simp] theorem Dev.setSc_tp (o : Nat) (x : ScOut) : (d.setSc o x).tp = d.tp := rfl
@[simp] theorem Dev.setSc_mx (o : Nat) (x : ScOut) : (d.setSc o x).mx = d.mx := rfl
@[simp] theorem Dev.setSc_ls (o : Nat) (x : ScOut) : (d.setSc o x).ls = d.ls := rfl
@[simp] theorem Dev.setSc_tw (o : Nat) (x : ScOut) : (d.setSc o x).tw = d.tw := rfl
@[simp] theorem Dev.setSc_cx (o : Nat) (x : ScOut) : (d.setSc o x).cx = d.cx := rfl
@[simp] theorem Dev.setSc_wn (o : Nat) (x : ScOut) : (d.setSc o x).wn = d.wn := rfl
@[simp] theorem Dev.setSc_rl (o : Nat) (x : ScOut) : (d.setSc o x).rl = d.rl := rfl
@[simp] theorem Dev.setSc_map (o : Nat) (x : ScOut) : (d.setSc o x).map = d.map := rfl
@[simp] theorem Dev.setSc_rt (o : Nat) (x : ScOut) : (d.setSc o x).rt = d.rt := rfl
@[simp] theorem Dev.setSc_tn (o : Nat) (x : ScOut) : (d.setSc o x).tn = d.tn := rfl
@[simp] theorem Dev.setSc_lk (o : Nat) (x : ScOut) : (d.setSc o x).lk = d.lk := rfl
@[simp] theorem Dev.setSc_ln (o : Nat) (x : ScOut) : (d.setSc o x).ln = d.ln := rfl
@[simp] theorem Dev.setSc_sp (o : Nat) (x : ScOut) : (d.setSc o x).sp = d.sp := rfl
@[simp] theorem Dev.setSc_pd (o : Nat) (x : ScOut) : (d.setSc o x).pd = d.pd := rfl
@[simp] theorem Dev.setSc_se (o : Nat) (x : ScOut) : (d.setSc o x).se = d.se := rfl
@[simp] theorem Dev.setSc_bt (o : Nat) (x : ScOut) : (d.setSc o x).bt = d.bt := rfl
@[simp] theorem Dev.setSc_mg (o : Nat) (x : ScOut) : (d.setSc o x).mg = d.mg := rfl
@[simp] theorem Dev.setSc_todo (o : Nat) (x : ScOut) : (d.setSc o x).todo = d.todo := rfl
@[simp] theorem Dev.setSc_out (o : Nat) (x : ScOut) : (d.setSc o x).out = d.out := rfl
@[simp] theorem Dev.setSc_free (o : Nat) (x : ScOut) : (d.setSc o x).free = d.free := rfl
@[simp] theorem Dev.setSc_rd (o : Nat) (x : ScOut) (q : Reg) (j bank : Nat) : (d.setSc o x).rd q j bank = d.rd q j bank := rfl
@[simp] theorem Dev.setSc_now (o : Nat) (x : ScOut) : (d.setSc o x).now = d.now := rfl

/-- Another place keeps what it holds. -/
theorem Dev.setSc_scOut_ne (o : Nat) (x : ScOut) (j : Nat) (h : j ≠ o) : (d.setSc o x).scOut j = d.scOut j :=
  Tbl.get_put_ne _ _ h _

/-! ### setFlow -/

@[simp] theorem Dev.setFlow_regs (f : Nat) (x : ScFlow) : (d.setFlow f x).regs = d.regs := rfl
@[simp] theorem Dev.setFlow_staged (f : Nat) (x : ScFlow) : (d.setFlow f x).staged = d.staged := rfl
@[simp] theorem Dev.setFlow_st (f : Nat) (x : ScFlow) : (d.setFlow f x).st = d.st := rfl
@[simp] theorem Dev.setFlow_fe (f : Nat) (x : ScFlow) : (d.setFlow f x).fe = d.fe := rfl
@[simp] theorem Dev.setFlow_pc (f : Nat) (x : ScFlow) : (d.setFlow f x).pc = d.pc := rfl
@[simp] theorem Dev.setFlow_hq (f : Nat) (x : ScFlow) : (d.setFlow f x).hq = d.hq := rfl
@[simp] theorem Dev.setFlow_xl (f : Nat) (x : ScFlow) : (d.setFlow f x).xl = d.xl := rfl
@[simp] theorem Dev.setFlow_tp (f : Nat) (x : ScFlow) : (d.setFlow f x).tp = d.tp := rfl
@[simp] theorem Dev.setFlow_mx (f : Nat) (x : ScFlow) : (d.setFlow f x).mx = d.mx := rfl
@[simp] theorem Dev.setFlow_ls (f : Nat) (x : ScFlow) : (d.setFlow f x).ls = d.ls := rfl
@[simp] theorem Dev.setFlow_tw (f : Nat) (x : ScFlow) : (d.setFlow f x).tw = d.tw := rfl
@[simp] theorem Dev.setFlow_cx (f : Nat) (x : ScFlow) : (d.setFlow f x).cx = d.cx := rfl
@[simp] theorem Dev.setFlow_wn (f : Nat) (x : ScFlow) : (d.setFlow f x).wn = d.wn := rfl
@[simp] theorem Dev.setFlow_rl (f : Nat) (x : ScFlow) : (d.setFlow f x).rl = d.rl := rfl
@[simp] theorem Dev.setFlow_map (f : Nat) (x : ScFlow) : (d.setFlow f x).map = d.map := rfl
@[simp] theorem Dev.setFlow_rt (f : Nat) (x : ScFlow) : (d.setFlow f x).rt = d.rt := rfl
@[simp] theorem Dev.setFlow_tn (f : Nat) (x : ScFlow) : (d.setFlow f x).tn = d.tn := rfl
@[simp] theorem Dev.setFlow_lk (f : Nat) (x : ScFlow) : (d.setFlow f x).lk = d.lk := rfl
@[simp] theorem Dev.setFlow_ln (f : Nat) (x : ScFlow) : (d.setFlow f x).ln = d.ln := rfl
@[simp] theorem Dev.setFlow_sp (f : Nat) (x : ScFlow) : (d.setFlow f x).sp = d.sp := rfl
@[simp] theorem Dev.setFlow_pd (f : Nat) (x : ScFlow) : (d.setFlow f x).pd = d.pd := rfl
@[simp] theorem Dev.setFlow_se (f : Nat) (x : ScFlow) : (d.setFlow f x).se = d.se := rfl
@[simp] theorem Dev.setFlow_bt (f : Nat) (x : ScFlow) : (d.setFlow f x).bt = d.bt := rfl
@[simp] theorem Dev.setFlow_mg (f : Nat) (x : ScFlow) : (d.setFlow f x).mg = d.mg := rfl
@[simp] theorem Dev.setFlow_todo (f : Nat) (x : ScFlow) : (d.setFlow f x).todo = d.todo := rfl
@[simp] theorem Dev.setFlow_out (f : Nat) (x : ScFlow) : (d.setFlow f x).out = d.out := rfl
@[simp] theorem Dev.setFlow_free (f : Nat) (x : ScFlow) : (d.setFlow f x).free = d.free := rfl
@[simp] theorem Dev.setFlow_rd (f : Nat) (x : ScFlow) (q : Reg) (j bank : Nat) : (d.setFlow f x).rd q j bank = d.rd q j bank := rfl
@[simp] theorem Dev.setFlow_now (f : Nat) (x : ScFlow) : (d.setFlow f x).now = d.now := rfl

/-- Another place keeps what it holds. -/
theorem Dev.setFlow_flow_ne (f : Nat) (x : ScFlow) (j : Nat) (h : j ≠ f) : (d.setFlow f x).flow j = d.flow j :=
  Tbl.get_put_ne _ _ h _

/-! ### setStPort -/

@[simp] theorem Dev.setStPort_regs (p : Nat) (x : StPort) : (d.setStPort p x).regs = d.regs := rfl
@[simp] theorem Dev.setStPort_staged (p : Nat) (x : StPort) : (d.setStPort p x).staged = d.staged := rfl
@[simp] theorem Dev.setStPort_fe (p : Nat) (x : StPort) : (d.setStPort p x).fe = d.fe := rfl
@[simp] theorem Dev.setStPort_pc (p : Nat) (x : StPort) : (d.setStPort p x).pc = d.pc := rfl
@[simp] theorem Dev.setStPort_hq (p : Nat) (x : StPort) : (d.setStPort p x).hq = d.hq := rfl
@[simp] theorem Dev.setStPort_xl (p : Nat) (x : StPort) : (d.setStPort p x).xl = d.xl := rfl
@[simp] theorem Dev.setStPort_tp (p : Nat) (x : StPort) : (d.setStPort p x).tp = d.tp := rfl
@[simp] theorem Dev.setStPort_mx (p : Nat) (x : StPort) : (d.setStPort p x).mx = d.mx := rfl
@[simp] theorem Dev.setStPort_ls (p : Nat) (x : StPort) : (d.setStPort p x).ls = d.ls := rfl
@[simp] theorem Dev.setStPort_tw (p : Nat) (x : StPort) : (d.setStPort p x).tw = d.tw := rfl
@[simp] theorem Dev.setStPort_cx (p : Nat) (x : StPort) : (d.setStPort p x).cx = d.cx := rfl
@[simp] theorem Dev.setStPort_wn (p : Nat) (x : StPort) : (d.setStPort p x).wn = d.wn := rfl
@[simp] theorem Dev.setStPort_rl (p : Nat) (x : StPort) : (d.setStPort p x).rl = d.rl := rfl
@[simp] theorem Dev.setStPort_map (p : Nat) (x : StPort) : (d.setStPort p x).map = d.map := rfl
@[simp] theorem Dev.setStPort_rt (p : Nat) (x : StPort) : (d.setStPort p x).rt = d.rt := rfl
@[simp] theorem Dev.setStPort_tn (p : Nat) (x : StPort) : (d.setStPort p x).tn = d.tn := rfl
@[simp] theorem Dev.setStPort_lk (p : Nat) (x : StPort) : (d.setStPort p x).lk = d.lk := rfl
@[simp] theorem Dev.setStPort_ln (p : Nat) (x : StPort) : (d.setStPort p x).ln = d.ln := rfl
@[simp] theorem Dev.setStPort_sc (p : Nat) (x : StPort) : (d.setStPort p x).sc = d.sc := rfl
@[simp] theorem Dev.setStPort_sp (p : Nat) (x : StPort) : (d.setStPort p x).sp = d.sp := rfl
@[simp] theorem Dev.setStPort_pd (p : Nat) (x : StPort) : (d.setStPort p x).pd = d.pd := rfl
@[simp] theorem Dev.setStPort_se (p : Nat) (x : StPort) : (d.setStPort p x).se = d.se := rfl
@[simp] theorem Dev.setStPort_bt (p : Nat) (x : StPort) : (d.setStPort p x).bt = d.bt := rfl
@[simp] theorem Dev.setStPort_mg (p : Nat) (x : StPort) : (d.setStPort p x).mg = d.mg := rfl
@[simp] theorem Dev.setStPort_todo (p : Nat) (x : StPort) : (d.setStPort p x).todo = d.todo := rfl
@[simp] theorem Dev.setStPort_out (p : Nat) (x : StPort) : (d.setStPort p x).out = d.out := rfl
@[simp] theorem Dev.setStPort_free (p : Nat) (x : StPort) : (d.setStPort p x).free = d.free := rfl
@[simp] theorem Dev.setStPort_rd (p : Nat) (x : StPort) (q : Reg) (j bank : Nat) : (d.setStPort p x).rd q j bank = d.rd q j bank := rfl
@[simp] theorem Dev.setStPort_now (p : Nat) (x : StPort) : (d.setStPort p x).now = d.now := rfl

/-- Another place keeps what it holds. -/
theorem Dev.setStPort_stPort_ne (p : Nat) (x : StPort) (j : Nat) (h : j ≠ p) : (d.setStPort p x).stPort j = d.stPort j :=
  Tbl.get_put_ne _ _ h _

/-! ### setDom -/

@[simp] theorem Dev.setDom_regs (k : Nat) (x : PdDom) : (d.setDom k x).regs = d.regs := rfl
@[simp] theorem Dev.setDom_staged (k : Nat) (x : PdDom) : (d.setDom k x).staged = d.staged := rfl
@[simp] theorem Dev.setDom_st (k : Nat) (x : PdDom) : (d.setDom k x).st = d.st := rfl
@[simp] theorem Dev.setDom_fe (k : Nat) (x : PdDom) : (d.setDom k x).fe = d.fe := rfl
@[simp] theorem Dev.setDom_pc (k : Nat) (x : PdDom) : (d.setDom k x).pc = d.pc := rfl
@[simp] theorem Dev.setDom_hq (k : Nat) (x : PdDom) : (d.setDom k x).hq = d.hq := rfl
@[simp] theorem Dev.setDom_xl (k : Nat) (x : PdDom) : (d.setDom k x).xl = d.xl := rfl
@[simp] theorem Dev.setDom_tp (k : Nat) (x : PdDom) : (d.setDom k x).tp = d.tp := rfl
@[simp] theorem Dev.setDom_mx (k : Nat) (x : PdDom) : (d.setDom k x).mx = d.mx := rfl
@[simp] theorem Dev.setDom_ls (k : Nat) (x : PdDom) : (d.setDom k x).ls = d.ls := rfl
@[simp] theorem Dev.setDom_tw (k : Nat) (x : PdDom) : (d.setDom k x).tw = d.tw := rfl
@[simp] theorem Dev.setDom_cx (k : Nat) (x : PdDom) : (d.setDom k x).cx = d.cx := rfl
@[simp] theorem Dev.setDom_wn (k : Nat) (x : PdDom) : (d.setDom k x).wn = d.wn := rfl
@[simp] theorem Dev.setDom_rl (k : Nat) (x : PdDom) : (d.setDom k x).rl = d.rl := rfl
@[simp] theorem Dev.setDom_map (k : Nat) (x : PdDom) : (d.setDom k x).map = d.map := rfl
@[simp] theorem Dev.setDom_rt (k : Nat) (x : PdDom) : (d.setDom k x).rt = d.rt := rfl
@[simp] theorem Dev.setDom_tn (k : Nat) (x : PdDom) : (d.setDom k x).tn = d.tn := rfl
@[simp] theorem Dev.setDom_lk (k : Nat) (x : PdDom) : (d.setDom k x).lk = d.lk := rfl
@[simp] theorem Dev.setDom_ln (k : Nat) (x : PdDom) : (d.setDom k x).ln = d.ln := rfl
@[simp] theorem Dev.setDom_sc (k : Nat) (x : PdDom) : (d.setDom k x).sc = d.sc := rfl
@[simp] theorem Dev.setDom_sp (k : Nat) (x : PdDom) : (d.setDom k x).sp = d.sp := rfl
@[simp] theorem Dev.setDom_se (k : Nat) (x : PdDom) : (d.setDom k x).se = d.se := rfl
@[simp] theorem Dev.setDom_bt (k : Nat) (x : PdDom) : (d.setDom k x).bt = d.bt := rfl
@[simp] theorem Dev.setDom_mg (k : Nat) (x : PdDom) : (d.setDom k x).mg = d.mg := rfl
@[simp] theorem Dev.setDom_todo (k : Nat) (x : PdDom) : (d.setDom k x).todo = d.todo := rfl
@[simp] theorem Dev.setDom_out (k : Nat) (x : PdDom) : (d.setDom k x).out = d.out := rfl
@[simp] theorem Dev.setDom_free (k : Nat) (x : PdDom) : (d.setDom k x).free = d.free := rfl
@[simp] theorem Dev.setDom_rd (k : Nat) (x : PdDom) (q : Reg) (j bank : Nat) : (d.setDom k x).rd q j bank = d.rd q j bank := rfl
@[simp] theorem Dev.setDom_now (k : Nat) (x : PdDom) : (d.setDom k x).now = d.now := rfl

/-- Another place keeps what it holds. -/
theorem Dev.setDom_dom_ne (k : Nat) (x : PdDom) (j : Nat) (h : j ≠ k) : (d.setDom k x).dom j = d.dom j :=
  Tbl.get_put_ne _ _ h _

/-! ### setMxEp -/

@[simp] theorem Dev.setMxEp_regs (ep : Nat) (m : MxEp) : (d.setMxEp ep m).regs = d.regs := rfl
@[simp] theorem Dev.setMxEp_staged (ep : Nat) (m : MxEp) : (d.setMxEp ep m).staged = d.staged := rfl
@[simp] theorem Dev.setMxEp_st (ep : Nat) (m : MxEp) : (d.setMxEp ep m).st = d.st := rfl
@[simp] theorem Dev.setMxEp_fe (ep : Nat) (m : MxEp) : (d.setMxEp ep m).fe = d.fe := rfl
@[simp] theorem Dev.setMxEp_pc (ep : Nat) (m : MxEp) : (d.setMxEp ep m).pc = d.pc := rfl
@[simp] theorem Dev.setMxEp_hq (ep : Nat) (m : MxEp) : (d.setMxEp ep m).hq = d.hq := rfl
@[simp] theorem Dev.setMxEp_xl (ep : Nat) (m : MxEp) : (d.setMxEp ep m).xl = d.xl := rfl
@[simp] theorem Dev.setMxEp_tp (ep : Nat) (m : MxEp) : (d.setMxEp ep m).tp = d.tp := rfl
@[simp] theorem Dev.setMxEp_ls (ep : Nat) (m : MxEp) : (d.setMxEp ep m).ls = d.ls := rfl
@[simp] theorem Dev.setMxEp_tw (ep : Nat) (m : MxEp) : (d.setMxEp ep m).tw = d.tw := rfl
@[simp] theorem Dev.setMxEp_cx (ep : Nat) (m : MxEp) : (d.setMxEp ep m).cx = d.cx := rfl
@[simp] theorem Dev.setMxEp_wn (ep : Nat) (m : MxEp) : (d.setMxEp ep m).wn = d.wn := rfl
@[simp] theorem Dev.setMxEp_rl (ep : Nat) (m : MxEp) : (d.setMxEp ep m).rl = d.rl := rfl
@[simp] theorem Dev.setMxEp_map (ep : Nat) (m : MxEp) : (d.setMxEp ep m).map = d.map := rfl
@[simp] theorem Dev.setMxEp_rt (ep : Nat) (m : MxEp) : (d.setMxEp ep m).rt = d.rt := rfl
@[simp] theorem Dev.setMxEp_tn (ep : Nat) (m : MxEp) : (d.setMxEp ep m).tn = d.tn := rfl
@[simp] theorem Dev.setMxEp_lk (ep : Nat) (m : MxEp) : (d.setMxEp ep m).lk = d.lk := rfl
@[simp] theorem Dev.setMxEp_ln (ep : Nat) (m : MxEp) : (d.setMxEp ep m).ln = d.ln := rfl
@[simp] theorem Dev.setMxEp_sc (ep : Nat) (m : MxEp) : (d.setMxEp ep m).sc = d.sc := rfl
@[simp] theorem Dev.setMxEp_sp (ep : Nat) (m : MxEp) : (d.setMxEp ep m).sp = d.sp := rfl
@[simp] theorem Dev.setMxEp_pd (ep : Nat) (m : MxEp) : (d.setMxEp ep m).pd = d.pd := rfl
@[simp] theorem Dev.setMxEp_se (ep : Nat) (m : MxEp) : (d.setMxEp ep m).se = d.se := rfl
@[simp] theorem Dev.setMxEp_bt (ep : Nat) (m : MxEp) : (d.setMxEp ep m).bt = d.bt := rfl
@[simp] theorem Dev.setMxEp_mg (ep : Nat) (m : MxEp) : (d.setMxEp ep m).mg = d.mg := rfl
@[simp] theorem Dev.setMxEp_todo (ep : Nat) (m : MxEp) : (d.setMxEp ep m).todo = d.todo := rfl
@[simp] theorem Dev.setMxEp_out (ep : Nat) (m : MxEp) : (d.setMxEp ep m).out = d.out := rfl
@[simp] theorem Dev.setMxEp_free (ep : Nat) (m : MxEp) : (d.setMxEp ep m).free = d.free := rfl
@[simp] theorem Dev.setMxEp_rd (ep : Nat) (m : MxEp) (q : Reg) (j bank : Nat) : (d.setMxEp ep m).rd q j bank = d.rd q j bank := rfl
@[simp] theorem Dev.setMxEp_now (ep : Nat) (m : MxEp) : (d.setMxEp ep m).now = d.now := rfl

/-- Another place keeps what it holds. -/
theorem Dev.setMxEp_mxEp_ne (ep : Nat) (m : MxEp) (j : Nat) (h : j ≠ ep) : (d.setMxEp ep m).mxEp j = d.mxEp j :=
  Tbl.get_put_ne _ _ h _

/-! ### The machine -/

/-- An endpoint that is stored is read back. -/
@[simp] theorem Dev.setEp_ep_self (ep : Nat) (c : EpCtx) : (d.setEp ep (some c)).ep ep = some c :=
  Tbl.get_put_of_ne (dflt := none) (v := some c) (by simp) d.hq.eps ep

@[simp] theorem State.after_pending (s : State) (e : Dev) : (s.after e).pending = s.pending := by simp only [State.after]
@[simp] theorem State.after_nv (s : State) (e : Dev) : (s.after e).chip.nv = s.chip.nv := by simp only [State.after]
@[simp] theorem State.after_dev (s : State) (e : Dev) : (s.after e).chip.dev = e.settle := by simp only [State.after]
@[simp] theorem State.afterChip_pending (s : State) (c : Chip) : (s.afterChip c).pending = s.pending := by simp only [State.afterChip]
@[simp] theorem State.afterChip_nv (s : State) (c : Chip) : (s.afterChip c).chip.nv = c.nv := by simp only [State.afterChip]
@[simp] theorem State.afterChip_dev (s : State) (c : Chip) : (s.afterChip c).chip.dev = c.dev.settle := by simp only [State.afterChip]
@[simp] theorem State.begun_begunChip (s : State) : s.begunChip.dev = s.begun := by simp only [State.begunChip]
@[simp] theorem Chip.map_nv (c : Chip) (f : Dev → Dev) : (c.map f).nv = c.nv := by simp only [Chip.map]
@[simp] theorem Chip.map_dev (c : Chip) (f : Dev → Dev) : (c.map f).dev = f c.dev := by simp only [Chip.map]

end Sys2Proof.Machine
end

