-- ==== Sys2Proof/Laws/Registers.lean ====
section
/-! SUPPORT. The register file: a register written is read back, and every other place keeps its value (R4, R14). -/

namespace Sys2Proof.Machine

/-- The offset of a register of an array in its address space (R14). -/
def Reg.offset (r : Reg) (i : Nat) : Nat := r.base + r.stride1 * (i / r.count2) + r.stride2 * (i % r.count2)

/-- The low 32 bits of a place are the register's offset. -/
theorem Reg.key_mod (r : Reg) (i b : Nat) : r.key i b % 2 ^ 32 = r.offset i % 2 ^ 32 := by
  have h : ∃ n, r.key i b = r.offset i + 2 ^ 32 * n := by
    unfold Reg.key Reg.offset
    cases r.space
    · by_cases hb : r.banked = true
      · exact ⟨b + 1, by simp only [hb, if_true]; omega⟩
      · exact ⟨0, by simp only [hb]; simp⟩
    · by_cases hb : r.banked = true
      · exact ⟨b + 1 + 2 ^ 28, by simp only [hb, if_true]; omega⟩
      · exact ⟨2 ^ 28, by simp only [hb]; simp⟩
    · by_cases hb : r.banked = true
      · exact ⟨b + 1 + 2 ^ 29, by simp only [hb, if_true]; omega⟩
      · exact ⟨2 ^ 29, by simp only [hb]; simp⟩
  obtain ⟨n, h⟩ := h
  rw [h, Nat.add_mul_mod_self_left]

/-- Registers at different offsets have different places, whatever bank they show. -/
theorem Reg.key_ne {r q : Reg} {i j b c : Nat} (h : r.offset i % 2 ^ 32 ≠ q.offset j % 2 ^ 32) : r.key i b ≠ q.key j c := by
  intro e
  have := congrArg (· % 2 ^ 32) e
  simp only [Reg.key_mod] at this
  exact h this

/-- A register at another place reads as before. -/
theorem Dev.rd_wr_ne (d : Dev) {r q : Reg} {v i j b c : Nat} (h : q.key j c ≠ r.key i b) :
    (d.wr r v i b).rd q j c = d.rd q j c := by
  simp only [Dev.rd, Dev.wr]
  by_cases hv : v % 2 ^ r.width = r.resetAt i
  · simp only [Tbl.put, hv, if_true]; exact Tbl.get_erase_ne _ h _
  · simp only [Tbl.put, hv, if_false]; exact Tbl.get_insert_ne _ _ h _

/-- A register written reads as written, in a register file whose places rise. -/
theorem Dev.rd_wr_self (d : Dev) (r : Reg) {v : Nat} (i b : Nat) (hw : Tbl.rising 0 d.regs = true) (hv : v < 2 ^ r.width) :
    (d.wr r v i b).rd r i b = v := by
  simp only [Dev.rd, Dev.wr]
  rw [Tbl.get_put_self _ _ hw, Nat.mod_eq_of_lt hv]

/-- A register written with a value that is not its reset value reads as written. -/
theorem Dev.rd_wr_of_ne (d : Dev) (r : Reg) {v i : Nat} (b : Nat) (hv : v < 2 ^ r.width) (hn : v ≠ r.resetAt i) :
    (d.wr r v i b).rd r i b = v := by
  simp only [Dev.rd, Dev.wr]
  rw [Nat.mod_eq_of_lt hv, Tbl.get_put_of_ne hn]


/-- A latch writes the register file only. -/
theorem Dev.latch_lk (d : Dev) (r : Reg) (w : Nat) : (d.latch r w).lk = d.lk := by
  unfold Dev.latch; split
  · rfl
  · exact Dev.wr_lk d r _ 0 0
theorem Dev.latch_st (d : Dev) (r : Reg) (w : Nat) : (d.latch r w).st = d.st := by
  unfold Dev.latch; split
  · rfl
  · exact Dev.wr_st d r _ 0 0

/-- A register file whose places rise keeps them rising. -/
theorem Dev.rising_wr {d : Dev} (h : Tbl.rising 0 d.regs = true) (r : Reg) (v i b : Nat) : Tbl.rising 0 (d.wr r v i b).regs = true := by
  simp only [Dev.wr, Tbl.put]
  split
  · exact Tbl.rising_erase h _
  · exact Tbl.rising_insert _ h (Nat.zero_le _)

/-- A register written reads as written, cut to its width. -/
theorem Dev.rd_wr_mod {d : Dev} (h : Tbl.rising 0 d.regs = true) (r : Reg) (v i b : Nat) :
    (d.wr r v i b).rd r i b = v % 2 ^ r.width := by
  simp only [Dev.rd, Dev.wr]
  exact Tbl.get_put_self _ _ h _

/-! ### Fields that take their values (R8, R10) -/

/-- Folding fields over a word leaves a field apart from them alone. -/
theorem fold_apart {g : FieldDesc → Nat → Nat} (hs : ∀ (f : FieldDesc) (w lo' len' : Nat),
      (f.lo + f.len ≤ lo' ∨ lo' + len' ≤ f.lo) → field (g f w) lo' len' = field w lo' len') :
    ∀ (l : List FieldDesc) (w lo' len' : Nat), (∀ f ∈ l, f.lo + f.len ≤ lo' ∨ lo' + len' ≤ f.lo) →
      field (l.foldl (fun w f => g f w) w) lo' len' = field w lo' len'
  | [], _, _, _, _ => rfl
  | f :: l, w, lo', len', h => by
    simp only [List.foldl_cons]
    rw [fold_apart hs l _ lo' len' (fun f hf => h f (List.mem_cons_of_mem _ hf))]
    exact hs f w lo' len' (h f (List.mem_cons_self ..))

/-- Folding fields that lie apart gives each field what it takes. -/
theorem fold_at {g : FieldDesc → Nat → Nat} (hs : ∀ (f : FieldDesc) (w lo' len' : Nat),
      (f.lo + f.len ≤ lo' ∨ lo' + len' ≤ f.lo) → field (g f w) lo' len' = field w lo' len')
    {F : FieldDesc → Nat → Nat} (ht : ∀ (f : FieldDesc) (w : Nat), field (g f w) f.lo f.len = F f (field w f.lo f.len)) :
    ∀ (l : List FieldDesc) (w : Nat), l.Pairwise (fun f g => f.lo + f.len ≤ g.lo ∨ g.lo + g.len ≤ f.lo) →
      ∀ f ∈ l, field (l.foldl (fun w f => g f w) w) f.lo f.len = F f (field w f.lo f.len)
  | [], _, _, f, hf => by cases hf
  | a :: l, w, hp, f, hf => by
    simp only [List.foldl_cons]
    rw [List.pairwise_cons] at hp
    rcases List.mem_cons.mp hf with rfl | hf
    · rw [fold_apart hs l _ _ _ (fun b hb => (hp.1 b hb).symm.imp id id), ht]
    · rw [fold_at hs ht l _ hp.2 f hf, hs]
      exact hp.1 f hf

/-- Folding fields within a width keeps the width. -/
theorem fold_lt {g : FieldDesc → Nat → Nat} {n : Nat} :
    ∀ (l : List FieldDesc) (w : Nat), (∀ f ∈ l, ∀ w < 2 ^ n, g f w < 2 ^ n) → w < 2 ^ n → l.foldl (fun w f => g f w) w < 2 ^ n
  | [], _, _, h => h
  | f :: l, w, hl, h => by
    simp only [List.foldl_cons]
    exact fold_lt l _ (fun f hf => hl f (List.mem_cons_of_mem _ hf)) (hl f (List.mem_cons_self ..) w h)

/-- A field that takes a value leaves the fields apart from it alone. -/
theorem take_apart (v : Nat) (f : FieldDesc) (w lo' len' : Nat) (h : f.lo + f.len ≤ lo' ∨ lo' + len' ≤ f.lo) :
    field (f.take false v w) lo' len' = field w lo' len' := by
  unfold FieldDesc.take
  cases f.acc <;> dsimp only
  case rw => split; rfl; exact field_setField_ne w _ h
  all_goals first | rfl | exact field_setField_ne w _ h

/-- What a field of a register holds after a write, from what it held. -/
def takenField (v : Nat) (f : FieldDesc) (x : Nat) : Nat := match f.acc with
      | .rw => if f.cls = .t then x else field v f.lo f.len
      | .w1c => clearBits x (field v f.lo f.len) % 2 ^ f.len
      | .w1s => (x ||| field v f.lo f.len) % 2 ^ f.len
      | _ => x

/-- What a field takes. -/
theorem take_at (v : Nat) (f : FieldDesc) (w : Nat) : field (f.take false v w) f.lo f.len = (match f.acc with
      | .rw => if f.cls = .t then field w f.lo f.len else field v f.lo f.len
      | .w1c => clearBits (field w f.lo f.len) (field v f.lo f.len) % 2 ^ f.len
      | .w1s => (field w f.lo f.len ||| field v f.lo f.len) % 2 ^ f.len
      | _ => field w f.lo f.len) := by
  unfold FieldDesc.take FieldDesc.staged
  cases f.acc <;> dsimp only
  case rw =>
    by_cases h : f.cls = .t
    · simp [h]
    · simp only [h, decide_false, Bool.and_false, Bool.false_and, if_false, Bool.false_eq_true]
      rw [field_setField_self]
      exact Nat.mod_eq_of_lt (field_lt ..)
  all_goals first | rfl | exact field_setField_self ..

/-- A field that takes a value keeps the width of the word. -/
theorem take_lt (v : Nat) (f : FieldDesc) {n : Nat} (hf : f.lo + f.len ≤ n) (w : Nat) (hw : w < 2 ^ n) :
    f.take false v w < 2 ^ n := by
  unfold FieldDesc.take
  cases f.acc <;> dsimp only
  case rw => split; exact hw; exact setField_lt _ hw hf
  all_goals first | exact hw | exact setField_lt _ hw hf

/-- A register that takes a value is written with its fields folded in. -/
theorem take_regs (d : Dev) (r : Reg) (i b v : Nat) : (d.take r i b false v).regs =
    (d.wr r (r.fields.foldl (fun w f => f.take false v w) (d.rd r i b)) i b).regs := by
  unfold Dev.take
  dsimp only
  split
  · rfl
  · split <;> rfl

end Sys2Proof.Machine
end

