-- ==== Sys2Proof/Laws/Effects.lean ====
section
/-! SUPPORT. What shared operations of single blocks do, where several meanings run through them. -/

namespace Sys2Proof.Machine

/-! ### Doorbells (R57, R58) -/

/-- A doorbell of an endpoint whose context is on the die acts on its ring. -/
theorem Dev.doorbell_onDie {d : Dev} {h ep which v : Nat} {c : EpCtx} (h1 : d.ep ep = some c) (h2 : c.fn = h)
    (h3 : d.inRange h ep = true) (h4 : c.onDie = true) :
    d.doorbell h ep which v = if which = 0 then d.cmdDoor ep v else d.evtDoor ep v := by
  simp [Dev.doorbell, h1, h2, h3, h4]

/-! ### Commands that make messages (R118) -/

/-- A running command makes its next message. -/
theorem Dev.feedCmd_makes {d : Dev} {c : Cmd} (hmine : d.tp.msgs.filter (fun m => m.ofCmd c) = []) (hp : c.phase = .running)
    (hle : ¬ (c.total ≤ c.made)) (hf : c.failed = false) (h5 : c.outcomes.length = c.made) :
    d.feedCmd c = (d.setCmd { c with made := c.made + 1 }).addCmdMsg c (c.msg c.made) := by
  unfold Dev.feedCmd
  dsimp only
  rw [hmine, if_neg]
  · rfl
  · simp [hp, hle, hf, h5]

/-- A command that has made no message makes its first. -/
theorem Dev.startMsgs_first {d : Dev} {c : Cmd} (n : Nat) (hn : 0 < n) (hm : c.made = 0) (ho : c.outcomes = [])
    (ha : d.tp.msgs.all (fun m => !(m.ofCmd c)) = true) :
    d.startMsgs c n = ((d.setCmd { c with phase := .running, total := n }).setCmd
      { c with phase := .running, total := n, made := 1 }).addCmdMsg { c with phase := .running, total := n }
        (({ c with phase := .running, total := n } : Cmd).msg 0) := by
  have hmine : (d.setCmd { c with phase := .running, total := n }).tp.msgs.filter
      (fun m => m.ofCmd { c with phase := .running, total := n }) = [] := by
    simp only [List.filter_eq_nil_iff]
    intro m hmm
    have := List.all_eq_true.mp ha m hmm
    simp only [Bool.not_eq_true'] at this
    simp only [Msg.ofCmd] at this ⊢
    rw [this]; simp
  unfold Dev.startMsgs
  dsimp only
  rw [Dev.feedCmd_makes hmine rfl (by show ¬ (n ≤ c.made); omega) (by simp [Cmd.failed, ho])
    (by show c.outcomes.length = c.made; simp [ho, hm])]
  show ((d.setCmd _).setCmd { c with phase := .running, total := n, made := c.made + 1 }).addCmdMsg
    { c with phase := .running, total := n } (({ c with phase := .running, total := n } : Cmd).msg c.made) = _
  rw [hm]

/-- A message passes the gate: time is good, no earlier SEND of its order is held, the operation table has an entry for it, the
window has credit, and no earlier message waits for that credit (R127, R128, R130). -/
theorem Dev.gate_open {d : Dev} {m : Msg} {w : WinEntry} (h1 : d.timeOk = true) (h2 : d.sendBehind m = false)
    (h3 : d.opsRoom m.num = true) (h4 : Tbl.get none d.tp.wins m.dstNode = some w) (h5 : creditOk w m.wants = true)
    (h6 : nextWaiting m.dstNode (fun x => !(d.sendBehind x)) [] (d.before m.num) = none) : d.gate m = (true, d) := by
  simp only [Dev.gate, h1, h2, h3, h4, h6, Dev.winOf]
  simp [h5]

/-! ### CXL (R314, R327) -/

/-- A write of CX_PORT_CTL leaves the role of every port alone. -/
theorem Dev.wr_cxPortCtl_cxRole (d : Dev) (v k : Nat) (hk : k < 48) : (d.wr rCxPortCtl v k).cxRole k = d.cxRole k := by
  have : ∀ k < 48, rCxPortCfg.key k 0 ≠ rCxPortCtl.key k 0 := by decide
  unfold Dev.cxRole Dev.fld
  rw [Dev.rd_wr_ne _ (this k hk)]

/-- A Malthouse request of a queue is an operation of the device. -/
theorem runChip_malthouse_queue (s : State) (q w : Nat) :
    runChip s (fun c => c.malthouse (.queue q w)) = runDev s (fun d => d.mhRequest q w) := rfl

/-- A Malthouse request that no check refuses begins. -/
theorem runChip_malthouse_begins {s : State} {d : Dev} {q w : Nat} (hd : s.begun = d) (h1 : d.runsMalthouse = true)
    (h2 : d.mhStatus q w = 0) :
    runChip s (fun c => c.malthouse (.queue q w)) = .next (s.after (d.mhBegin q w)) := by
  rw [runChip_malthouse_queue]
  refine runDev_next (f := fun d => d.mhRequest q w) hd ?_
  simp only [Dev.mhRequest, h1, h2, if_true]

/-! ### Lanes (R272) -/

/-- Counting uncorrectable codewords of a lane leaves the limit of them alone. -/
theorem Dev.uncorrLimit_counted (d : Dev) (l n p : Nat) (z : LnLane) (o : Out) :
    ((((d.setLane l z).emit o).addLane rLnFecUncorr l n).raise evLnFecUncorr p).uncorrLimit = d.uncorrLimit := by
  have k : rLnCtl.key 0 0 ≠ rLnFecUncorr.key 0 l := Reg.key_ne (by decide)
  have r : ¬ raisedKey evLnFecUncorr (rLnCtl.key 0 0) := by
    simp [raisedKey, rLnCtl, Reg.key, Reg.banked, evLnFecUncorr]
  unfold Dev.uncorrLimit Dev.fld
  rw [Dev.raise_rd _ (by decide) _ _ _ _ r]
  unfold Dev.addLane
  rw [Dev.rd_wr_ne _ k]
  rfl

/-! ### BT_CMD (R476) -/

set_option maxRecDepth 20000 in
/-- The address of BT_CMD. -/
theorem ctlReg_btCmd : ctlReg rBtCmd.base 4 = some (rBtCmd, 0) := by decide

/-- A core's write of BT_CMD is the command. -/
theorem runChip_btCmd {s : State} {c E : Chip} (h : s.begunChip = c) (hp : 9 ≤ c.dev.bt.phase) (v : Nat) (hv : v < 2 ^ 32)
    (he : (c.btCmd v).2 = E) : runChip s (fun c => c.btCommand (.core v)) = .next (s.afterChip E) := by
  refine runChip_next (f := fun c => c.btCommand (.core v)) h ?_
  have := ctlReg_btCmd
  have k : (c.ctlWrite 1 rBtCmd.base 4 v).2 = (c.btCmd v).2 := by
    simp only [Chip.ctlWrite, this]
    rw [if_pos (by rfl)]
  simp only [Chip.btCommand, hp, if_true, Nat.mod_eq_of_lt hv, k, he]

end Sys2Proof.Machine
end

