-- ==== Sys2Proof/Tests/Slice0.lean ====
section
/-! SUPPORT. Tests: an ill-formed term for each check, and for each statement with hypotheses a state and operands that meet them,
clause by clause, at values on the edge of their ranges. -/

open Sys2Proof Sys2Proof.Machine

set_option maxRecDepth 20000
set_option linter.unusedVariables false
set_option exponentiation.threshold 1024

namespace Sys2Proof.Tests

/-- The state whose device is `d`, no command waiting. -/
def up (d : Dev) : State := { chip := { dev := d } }

/-- A device whose start has ended. -/
def on : Dev := { bt := { phase := 9 } }

/-- An enabled endpoint of function 0 with empty rings. -/
def epc : EpCtx :=
  { fn := 0, asTag := 0, tcMask := 255, irqEn := true, ctrPage := false, pin := false, enable := true, msix := 0, cmd := {}, evt := {} }

/-- A device on which function 0 owns endpoints 0 to 15, with endpoint 5 as given. -/
def host (c : EpCtx) : Dev := { (on.wr rHqFnRange 0x100000) with hq := { eps := [(5, some c)] } }

/-- A command fetched from endpoint 5. -/
def cmd : Cmd := { ep := 5, index := 0, lap := true, entry := 1, frags := [], fetched := 0 }

/-- A message of the device's own making. -/
def msg : Msg := { num := 7, owner := .fin, type := 1, srcEp := 0, dstNode := 0, dstEp := 0, tc := 0, len := 0, addr := 0, key := 0 }

/-- A Relay message. -/
def rmsg : RlMsg := { num := 7, type := 0x10, group := 0, gen := 0, node := 0, peer := 0, tc := 0 }

/-- A record at the target. -/
def tgt : TgtRec := { srcNode := 1, srcEp := 2, msgId := 3, fst := 0, dstEp := 5, type := 1, tc := 0, msgLen := 0 }

/-- A device whose function 31 has an enabled control ring with one entry to come. -/
def fnOn : Dev := { hq := { fns := [(31, { enable := true, cmd := { issued := 1 } })] } }

/-- A device whose function 31 has such a ring and owns endpoints 0 to 15, with endpoint 5 as given. -/
def fnOwns (c : EpCtx) : Dev := { fnOn.wr rHqFnRange 0x100000 31 with hq := { fns := fnOn.hq.fns, eps := [(5, some c)] } }

/-- The 16 entries of a group of pages from address 0. -/
def group16 : Nat := (upFrom 0 16).foldr (fun j n => n + (0x43 + 4096 * j) * 2 ^ (64 * j)) 0

/-- The entry of an opcode with its lap bit 1 and everything else as simple as its form allows. -/
def entry (op : Nat) : Nat := op + 2 ^ 63 + if op = 4 then 8 * 2 ^ 192 else 0

/-- `d` with tag 0 of function 0 usable: a descriptor with keys, key 0 that passes all, and one leaf of 1 GiB with every right. -/
def mapped (d : Dev) : Dev :=
  { d.wr rXlFnTags 0x10000 with xl := { d.xl with
    descs := [⟨0, 3 * 2 ^ 64 + 48 * 2 ^ 72 + 3 * 2 ^ 80⟩], keys := [⟨0, 0, (2 ^ 48 - 1) * 2 ^ 64 + 31 * 2 ^ 112⟩],
    leaves := [⟨0, 0, 30, 0, 15, false, 0⟩] } }

/-- Relay group 0 with its configuration, its tree word, child entry 0, and the groups' states. -/
def team (cfg tree child : Nat) (g : Tbl RlGroup) : Dev :=
  { ((on.wr rRlGrpCfg cfg).wr rRlGrpTree tree).wr rRlChild child with rl := { groups := g } }

/-- A BARRIER step. -/
def step2 : RlStep := { num := 0, kind := 2, dtype := 0, op := 0, count := 0 }

/-- A walk at level 1. -/
def wk : Walk := { num := 4, owner := .send 7, access := ⟨5, 0, 8, .read, false, none, false⟩, fn := 0, tag := 0, stage := .table 1 0 0 }

/-- A packet whose CRC is right. -/
def pkt (hdr : Nat) (payload : List Byte := []) : Packet :=
  { port := 0, tc := 0, hdr := hdr, payload := payload, crc := crc32c (toBytes 64 hdr ++ payload), mem := 0 }

theorem pkt_crcOk (hdr : Nat) (payload : List Byte) : (pkt hdr payload).crcOk = true := beq_self_eq_true _

/-- A request of one packet to endpoint 5 with `n` bytes. -/
def req (t n : Nat) : Nat := t + 0x300 + n * 2 ^ 16 + 2 ^ 32 + 2 * 2 ^ 64 + 5 * 2 ^ 80 + 3 * 2 ^ 96 + n * 2 ^ 192

/-- A Relay header of group 0 from node 1 that names message 9. -/
def rlh (t : Nat) : Nat := t + 0x300 + 2 ^ 32 + 9 * 2 ^ 96

/-- One packet that stands at internal input 305. -/
def outp : OutPacket := ⟨1, 0, 0, false, 0, .none⟩

/-- A frame of class 0 at an output, on its escape channel. -/
def frm (o ch : Nat) : Frame :=
  { num := 0, input := 255, output := o, chan := ch, tc := 0, bytes := 64, body := .transit [], headAt := some 0 }

/-- CXL port 0 belongs to host 0, port 5 to a device; vPPB 1 of host 0 is reached at addresses from 0. -/
def cxl (ports : Tbl CxPort) (vppbs : Tbl Vppb) : Dev :=
  let hosts : Tbl CxHost := [(0, { decoders := [(0, some ⟨0, 2 ^ 28, 1, 256, [1], 0, true⟩)] })]
  { (on.wr rCxPortCfg 0x400 0).wr rCxPortCfg 0x800 5 with cx := { ports := ports, vppbs := vppbs, hosts := hosts } }

/-- The same device, whose vPPB 1 is at port 0 in UP and whose window decoder claims the addresses from 0. -/
def cxw (vppbs : Tbl Vppb) : Dev :=
  let hdm : Option Hdm := some ⟨0, 2 ^ 28, 1, 256, [1], 0, true⟩
  { cxl [(0, { link := .up })] vppbs with cx := { ports := [(0, { link := .up })], vppbs := vppbs, hosts := [(0, { decoders := [(0, hdm)], winDecoders := [(0, hdm)] })] } }

/-- A device with Malthouse requests under way. -/
def works (d : Dev) (l : List MhWork) : Dev := { d with cx := { d.cx with work := l } }

/-- A device of one gibibyte at a port that is up, with one logical device. -/
def dcd (b : Option (Nat × Nat)) : CxPort :=
  { link := .up, kind := 2, dcd := true, ldCount := 1, total := 2 ^ 30, block := 2 ^ 28,
    regions := [⟨0, 2 ^ 28, 2 ^ 12⟩], lds := [(0, ⟨true, b, 2 ^ 28⟩)] }

/-- Window 0 of one unit, for host 0 alone or read-shared by it. -/
def win (mode : Nat) (x : WinState) : Dev :=
  { (on.wr rWnWinCfg (2 ^ 18 + mode * 2 ^ 36)).wr rWnWinHosts 1 with wn := { wins := [(0, x)] } }

/-- The device of window 0 of one unit, SW, which host 0 writes, with lines, fills and the rest as given. -/
def wnd (u : WnUnit) : Dev := { win 2 {} with wn := { u with wins := [(0, { use := .active })] } }

/-- A line of window 0 at its first addresses, both sectors valid or dirty as given. -/
def line0 (valid dirty : Bool) : WnLine := { window := 0, line := 0, valid0 := valid, valid1 := valid, dirty0 := dirty, dirty1 := dirty }

/-- A fill of its first 128 bytes for which a read of host 0 waits. -/
def fill0 : WnFill := { num := 4, window := 0, block := 0, len := 128, since := 0, waits := [{ host := 0, tag := 1, dpa := 0, since := 0 }] }

/-- Sixteen lines of one place fill their set. -/
theorem full_set (l : WnLine) : 16 ≤ countWhere (List.replicate 16 l) (fun x => decide (x.set = l.set)) := by
  simp [List.replicate, countWhere]

/-- Of sixteen clean lines the last one may be replaced; while they fill, none. -/
theorem full_victim : ({ wn := { lines := List.replicate 16 (line0 true false) } } : Dev).victim
    (fun x => decide (x.set = (line0 true false).set)) = some (line0 true false) := by
  simp [Dev.victim, List.replicate, firstThat]; decide
theorem full_busy : ({ wn := { lines := List.replicate 16 { line0 true false with use := .filling } } } : Dev).victim
    (fun x => decide (x.set = ({ line0 true false with use := .filling } : WnLine).set)) = none := by
  simp [Dev.victim, List.replicate, firstThat, Dev.lineIdle]

/-- The last levels of a codeword whose last symbols but three are wrong. -/
def wrong : List Nat := (List.replicate 9 [1, 0, 0, 0, 0]).flatten ++ List.replicate 15 0

theorem codeSymbols_tail (t : List Nat) (ht : t.length = 60) :
    codeSymbols (List.replicate 1300 0 ++ t)
      = List.replicate 260 0 ++ (upFrom 0 12).map (fun k => ((t.drop (5 * k)).take 5).foldr (fun v n => levelBits v + 4 * n) 0) := by
  have h : ∀ n lo, upFrom lo n = (List.range' lo n) := by
    intro n; induction n with
    | zero => intro lo; rfl
    | succ n ih => intro lo; simp [upFrom, ih, List.range'_succ]
  simp only [codeSymbols, h, show (272 : Nat) = 260 + 12 from rfl, ← List.range'_append_1, List.map_append]
  refine congr (congrArg HAppend.hAppend ?_) ?_
  · apply List.eq_replicate_iff.2
    refine ⟨by simp, ?_⟩
    intro b hb
    obtain ⟨k, hk, rfl⟩ := List.mem_map.1 hb
    have hk' := List.mem_range'_1.1 hk
    rw [List.drop_append_of_le_length (by simp; omega), List.drop_replicate,
      List.take_append_of_le_length (by simp; omega), List.take_replicate, show min 5 (1300 - 5 * k) = 5 by omega]
    rfl
  · apply List.ext_getElem (by simp)
    intro i h1 h2
    simp only [List.length_map, List.length_range'] at h1
    simp only [List.getElem_map, List.getElem_range', List.drop_append, List.length_replicate, List.drop_replicate]
    rw [show 1300 - 5 * (0 + 260 + 1 * i) = 0 by omega, show 5 * (0 + 260 + 1 * i) - 1300 = 5 * (0 + 1 * i) by omega]
    rfl

theorem syndromes_tail (t : List Nat) : syndromes (List.replicate 260 0 ++ t) = syndromes t := by
  have h : ∀ n x, (List.replicate n 0).foldl (fun acc c => gfMul acc x ^^^ c) 0 = 0 := by
    intro n x; induction n with
    | zero => rfl
    | succ n ih =>
      rw [List.replicate_succ, List.foldl_cons]
      rw [show gfMul 0 x ^^^ 0 = 0 by simp [gfMul, gfMulGo]]; exact ih
  exact congrArg (fun f => (upFrom 0 16).map f) (funext fun j => by rw [syndrome, syndrome, List.foldl_append, h])

theorem still_decodes : rsDecode (codeSymbols (List.replicate 1300 0 ++ List.replicate 60 0)) = some (List.replicate 272 0, 0) := by
  rw [codeSymbols_tail _ rfl, rsDecode, syndromes_tail]
  decide +kernel

theorem wrong_fails : rsDecode (codeSymbols (List.replicate 1300 0 ++ wrong)) = none := by
  rw [codeSymbols_tail _ rfl, rsDecode, syndromes_tail]
  decide +kernel

/-- A device of a pair whose twin port is port 0, in UP, and whose peer is node 3. -/
def pair (x : TwUnit) : Dev := { on.wr rTwCfg (0x100 + 3 * 2 ^ 10) with lk := { ports := [(0, { state := .up })] }, tw := x }

/-- Two requesters, and a device whose lock 4095 is as given and whose group admits all. -/
def me : Party := ⟨.host, 0, 5, false⟩
def them : Party := ⟨.remote, 2 ^ 18 - 1, 65535, false⟩
def lks (c : LockCell) : Dev := { ({} : Dev).wr rLsGrpAcl (2 ^ 34 - 1) 15 with ls := { locks := [(4095, c)] } }

/-- A device whose lock 4095 is held, while `n` waiters wait for another lock. -/
def crowd (n : Nat) : Dev :=
  { lks {} with ls := { locks := [(4094, { waiters := List.replicate n ⟨me, 0, 0⟩ }), (4095, { use := .held, holder := some them })] } }
theorem crowd_waiters (n : Nat) : (crowd n).lockWaiters = n := by simp [crowd, Dev.lockWaiters]

/-- A request frame with TAG 7. -/
def fr (op : Nat) (payload : List Byte) : List Byte :=
  toBytes 8 (op + 7 * 2 ^ 16 + payload.length * 2 ^ 32) ++ payload
    ++ ebCrc (toBytes 8 (op + 7 * 2 ^ 16 + payload.length * 2 ^ 32) ++ payload)

theorem ofBytes_toBytes (n v : Nat) : ofBytes (toBytes n v) = v % 2 ^ (8 * n) := by
  induction n generalizing v with
  | zero => simp [toBytes, ofBytes, Nat.mod_one]
  | succ n ih =>
    rw [toBytes, ofBytes, ih, BitVec.toNat_ofNat, show 8 * (n + 1) = 8 + 8 * n by omega, Nat.pow_add, Nat.mod_mul]

theorem toBytes_length (n v : Nat) : (toBytes n v).length = n := by
  induction n generalizing v with
  | zero => rfl
  | succ n ih => simp [toBytes, ih]

/-- A well-formed frame passes the checks of a device in service. -/
theorem takes (s : State) (op : Nat) (payload : List Byte) (ho : op < 256) (hl : payload.length ≤ 4096)
    (hp : 2 ≤ s.begun.bt.phase) (hi : s.begun.inflight < 8) (hm : s.begun.mg.mwl = 4108) (ha : s.begun.mg.alive = true) :
    s.takesFrame (fr op payload) op ⟨op, 7, payload⟩ { s.begunChip with dev := s.begun.countFrame false } := by
  have h8 := toBytes_length 8 (op + 7 * 2 ^ 16 + payload.length * 2 ^ 32)
  have h4 (b : List Byte) : (ebCrc b).length = 4 := toBytes_length 4 _
  have hlen : (fr op payload).length = 12 + payload.length := by
    rw [fr, List.length_append, List.length_append, h8, h4]; omega
  have hh : ebHead (fr op payload) = op + 7 * 2 ^ 16 + payload.length * 2 ^ 32 := by
    rw [ebHead, fr, List.append_assoc, List.take_append_of_le_length (by omega), List.take_of_length_le (by omega), ofBytes_toBytes]
    exact Nat.mod_eq_of_lt (by omega)
  have f1 : field (ebHead (fr op payload)) 0 8 = op := by rw [hh, field, Nat.shiftRight_eq_div_pow]; omega
  have f2 : field (ebHead (fr op payload)) 16 16 = 7 := by rw [hh, field, Nat.shiftRight_eq_div_pow]; omega
  have f3 : field (ebHead (fr op payload)) 32 16 = payload.length := by rw [hh, field, Nat.shiftRight_eq_div_pow]; omega
  have f4 : field (ebHead (fr op payload)) 8 8 = 0 := by rw [hh, field, Nat.shiftRight_eq_div_pow]; omega
  have f5 : field (ebHead (fr op payload)) 48 16 = 0 := by rw [hh, field, Nat.shiftRight_eq_div_pow]; omega
  have hpay : ((fr op payload).drop 8).take payload.length = payload := by
    rw [fr, List.append_assoc, List.drop_append_of_le_length (by omega), List.drop_of_length_le (by omega)]; simp
  have hcrc : ebCrcOk (fr op payload) = true := by
    have h : (toBytes 8 (op + 7 * 2 ^ 16 + payload.length * 2 ^ 32) ++ payload).length = (fr op payload).length - 4 := by
      rw [hlen, List.length_append, h8]; omega
    rw [ebCrcOk, decide_eq_true_iff, ← h, fr, List.drop_left, List.take_left]
  have hup : s.begun.islandUp op = true := by simp [Dev.islandUp, hp]
  have hs : ebSizeOk s.begun.mg.mwl (fr op payload) = true := by
    simp [ebSizeOk, f3, hlen, hm, hl]; omega
  have hz : ebZeroOk (fr op payload) = true := by simp [ebZeroOk, f4, f5]
  have ha' : (s.begun.countFrame false).mg.alive = true := ha
  refine ⟨?_, rfl, rfl⟩
  simp only [Dev.ebCheck, f1, f2, f3, hpay, hup, hs, hcrc, hz, ha', Nat.not_le.2 hi, Bool.not_true, Bool.and_false, Bool.false_and,
    if_false, Bool.false_eq_true]

/-- A device in service, with the security unit as given. -/
def live (x : SeUnit) : State := up { on with mg := { alive := true }, se := x }

/-- The 128 bytes of a header at an address of the flash: magic, version 1, the KIND, one section, TOTAL_LEN 240, "SX5120", B0. -/
def headAt (base kind : Nat) : Tbl Nat :=
  (upFrom 0 128).map (fun k => (base + k,
    (0x4C504641 + 2 ^ 32 + kind * 2 ^ 40 + 2 ^ 48 + 240 * 2 ^ 64 + 0x303231355853 * 2 ^ 128 + 0xB0 * 2 ^ 192) / 2 ^ (8 * k) % 256))

/-! ### Ill-formed commands: one for each kind of check -/

theorem wf_resetPacket : (Instr.requestArrival (pkt 0x2)).wf = true := by decide +kernel
theorem ill_activity : (Instr.overrunPersist 12).wf = false := by decide
theorem ill_registerWidth : (Instr.registerWrite (.core 0x100000) 9 0).wf = false := by decide
theorem ill_registerValue : (Instr.registerWrite (.core 0x100000) 4 (2 ^ 32)).wf = false := by decide
theorem ill_registerAddress : (Instr.registerWrite (.core (2 ^ 32)) 4 0).wf = false := by decide
theorem ill_controlPage : (Instr.registerWrite (.control 32 0) 4 0).wf = false := by decide
theorem ill_doorOffset : (Instr.registerWrite (.door 0 5 4096) 4 0).wf = false := by decide
theorem ill_tickSlot : (Instr.tickBoundary { prbs := [(256, 1)] }).wf = false := by decide
theorem ill_tickRef : (Instr.tickBoundary { refs := [(4, 0)] }).wf = false := by decide
theorem ill_timeMessagePort : (Instr.timeMessage 256 0 0).wf = false := by decide
theorem ill_timeMessageWidth : (Instr.timeMessage 0 (2 ^ 320) 0).wf = false := by decide
theorem ill_seconds : (Instr.rootSecondsArm (2 ^ 64)).wf = false := by decide
theorem ill_endpointNumber : (Instr.commandDoorbell 0 65536 0).wf = false := by decide
theorem ill_hostNumber : (Instr.commandDoorbell 32 0 0).wf = false := by decide
theorem ill_armBit : (Instr.interruptArm 0 0 0).wf = false := by decide
theorem ill_enableBit : (Instr.endpointEnable 0 0 2).wf = false := by decide
theorem ill_disableBit : (Instr.endpointDisable 0 0 1).wf = false := by decide
theorem ill_ring : (Instr.lapReread 0x10020).wf = false := by decide
theorem ill_opcode : (Instr.put 5 2 [] false).wf = false := by decide
theorem ill_listedOpcode : (Instr.nop 5 1 [] false).wf = false := by decide
theorem ill_entryWidth : (Instr.put 5 (2 ^ 512 + 1) [] false).wf = false := by decide
theorem ill_fragmentWidth : (Instr.put 5 1 [2 ^ 128] false).wf = false := by decide
theorem ill_controlOpcode : (Instr.createEp 0 0x41 false).wf = false := by decide
theorem ill_maintenanceQueue : (Instr.maintenanceEntry [(16, false)]).wf = false := by decide
theorem ill_record : (Instr.recordExpiry (2 ^ 18) 0 0).wf = false := by decide
theorem ill_walkData : (Instr.tableWalkRead 0 false (2 ^ 512) 0).wf = false := by decide
theorem ill_scope : (Instr.invalidateTag 0 0).wf = false := by decide
theorem ill_unit : (Instr.invDone 33).wf = false := by decide
theorem ill_pageFail : (Instr.pageFail 0 0 0).wf = false := by decide
theorem ill_request : (Instr.requestArrival (pkt 0x81)).wf = false ∧ (Instr.ackArrival (pkt 0x81)).wf = true := by
  decide +kernel
theorem ill_packetPort : (Instr.ackArrival ⟨304, 0, 8, [], 0, 0⟩).wf = false := by decide
theorem ill_packetClass : (Instr.ackArrival ⟨0, 8, 8, [], 0, 0⟩).wf = false := by decide
theorem ill_packetCrc : (Instr.ackArrival ⟨0, 0, 8, [], 2 ^ 32, 0⟩).wf = false := by decide
theorem ill_groupCommand : (Instr.groupEnable 2).wf = false := by decide
theorem ill_epochArm : (Instr.epochArm 0).wf = false := by decide
theorem ill_input : (Instr.admitWait 308).wf = false := by decide
theorem ill_output : (Instr.schedulerDecision 304 0 false).wf = false := by decide
theorem ill_session : (Instr.sesLostRead 4).wf = false := by decide
theorem ill_flit : (Instr.flitReceive 0 0 (2 ^ 1024) false true).wf = false := by decide +kernel
theorem ill_lane : (Instr.prbsLockLost 256).wf = false := by decide
theorem ill_class : (Instr.escTimeout 0 8).wf = false := by decide
theorem ill_cxlPort : (Instr.hostDown 48).wf = false := by decide
theorem ill_malthouseOperation : (Instr.unbind (.queue 0 0)).wf = false := by decide
theorem ill_malthouseQueue : (Instr.unbind (.queue 16 2)).wf = false := by decide
theorem ill_malthouseFrame : (Instr.bind (.frame [0x21])).wf = false := by decide
theorem ill_btFrame : (Instr.restart (.frame [0x40])).wf = false := by decide
theorem ill_btValue : (Instr.restart (.core (2 ^ 32))).wf = false := by decide
theorem ill_mask : (Instr.windowWrite 0 0 0 (2 ^ 64) 0).wf = false := by decide
theorem ill_slot : (Instr.rampTimeout 32).wf = false := by decide
theorem ill_group : (Instr.feedImbalance 4).wf = false := by decide
theorem ill_bulkGate : (Instr.oringReverse true 4 false).wf = false := by decide
theorem ill_lock : (Instr.leaseLapse 4096).wf = false := by decide
theorem ill_source : (Instr.forceEvent 320 8).wf = false := by decide
theorem ill_severity : (Instr.latchClear 4 (2 ^ 63)).wf = false := by decide
theorem ill_domain : (Instr.domStuck 11).wf = false := by decide
theorem ill_straps : (Instr.coldStart 4 false).wf = false := by decide
theorem ill_frameOpcode : (Instr.faultRead [1]).wf = false := by decide
theorem ill_listedFrame : (Instr.opcodeUnknown [1]).wf = false := by decide
theorem ill_statement : (Instr.lcToReturn [0x34]).wf = false := by decide
theorem ill_haltCommand : (Instr.dbgCoreStep [0x52]).wf = false := by decide
theorem ill_address : (Instr.entdaa 128).wf = false := by decide

/-! ### The register map -/

/-- Fields of a list lie in order, apart, and below a width. -/
def inOrder (width : Nat) : Nat → List FieldDesc → Bool
  | lo, [] => decide (lo ≤ width)
  | lo, f :: rest => decide (lo ≤ f.lo) && inOrder width (f.lo + f.len) rest

/-- What a register shows lies in order, and so does what it takes; a doorbell takes fields where it shows others. -/
theorem test_fields_fit :
    allRegs.all (fun r => inOrder r.width 0 (r.fields.filter (fun f => f.acc != .wo))
      && inOrder r.width 0 (r.fields.filter (fun f => f.acc != .ro)) && decide (r.reset < 2 ^ r.width)) = true := by
  decide +kernel

/-! ### Examples of the spec -/

/-- An entry whose only set bit is bit 0 (R203's example). -/
theorem test_entry_ecc : withEcc 1 / 2 ^ 40 = 0x43 := by decide +kernel

/-- The offset of the exchange of chapter 02's example is 12 ns; with the longer fibre and ST_ASYM 32 it is 12 ns again. -/
theorem test_exchange :
    exchangeOffset (1000000 * 2 ^ 64 + 1000868 * 2 ^ 160) (1000192 * 65536) (1000700 * 65536) 0 = 12 * 16
    ∧ exchangeOffset (1000000 * 2 ^ 64 + 1000870 * 2 ^ 160) (1000192 * 65536) (1000700 * 65536) 32 = 12 * 16 := by
  decide

/-- One result from any order: 2^24, 1 and −2^24 in FP32 sum to 1 in both orders of chapter 07's example. -/
theorem test_sum_any_order :
    finishAll 1 0 (combineAll 1 0 [[toPartial 1 0 0x4B800000], [toPartial 1 0 0x3F800000], [toPartial 1 0 0xCB800000]])
      = (0x3F800000, false)
    ∧ finishAll 1 0 (combineAll 1 0 [[toPartial 1 0 0x4B800000], [toPartial 1 0 0xCB800000], [toPartial 1 0 0x3F800000]])
      = (0x3F800000, false) := by
  decide +kernel

/-- The same three in FP64, which is added as it comes: 2^53 + 1 rounds to 2^53 under ties-to-even (R180). -/
theorem test_fp64_in_order :
    finishAll 0 0 (combineAll 0 0 [[0x4340000000000000], [0x3FF0000000000000], [0xC340000000000000]]) = (0, false) := by
  decide +kernel

/-- The header of chapter 08's adaptive example: class 2, RSEL 0, NONMIN 0, EPOCH 1, node 0x2_1A40. -/
theorem test_route_header :
    rhTc 0x021A4042 = 2 ∧ rhRsel 0x021A4042 = 0 ∧ rhNonmin 0x021A4042 = false ∧ rhEpoch 0x021A4042 = 1
    ∧ rhDst 0x021A4042 = 0x21A40 ∧ rhTc 0xC2 = 2 ∧ rhNonmin 0xC2 = true := by
  decide

/-- A frame of 4,172 bytes with OVERHEAD +20 is charged 4,192 bytes, 41.92 slots at 100 bytes a slot; a BURST of 16,384
bytes is 163.84 slots (chapter 12's example). -/
theorem test_pacing :
    chargeOf 4172 20 = 4192 ∧ slotsOf 4192 0x00640000 = 4192 * 65536 / 100 ∧ slotsOf 16384 0x00640000 = 16384 * 65536 / 100 := by
  decide

/-- Chapter 03's example, its first pass: queue 4, of weight 6 and burst 2, issues 2 entries and has 4 credits left; queue 8, of
weight 3 and burst 4, issues 3 and has none left. -/
def mqs (pos : Nat) : Dev :=
  { ((on.wr rHqMqCfg (6 + 1 * 2 ^ 8) 4).wr rHqMqCfg (3 + 3 * 2 ^ 8) 8) with
    hq := { mqPos := pos, mq := [(4, { entries := List.replicate 9 false, credit := 6 }), (8, { entries := List.replicate 9 false, credit := 3 })] } }

theorem test_queue_burst :
    ((mqs 1).mqServe.mq 4).credit = 4 ∧ ((mqs 1).mqServe.mq 4).entries.length = 7
    ∧ ((mqs 5).mqServe.mq 8).credit = 0 ∧ ((mqs 5).mqServe.mq 8).entries.length = 6 := by
  decide +kernel

/-- Local source 5 of block LK is source 133 (chapter 00's example). -/
theorem test_source_number : 16 * 8 + 5 = evLkPeerSilent := rfl

/-- The idle device: a step on an empty queue leaves the state as it is. -/
theorem test_idle : step State.reset = .next State.reset := rfl

/-! ### Witnesses: what meets each statement's hypotheses, clause by clause -/

theorem witness_StepTakesTheFront :
  (∃ (s : State) (c : Instr) (rest : List Instr), s.pending = c :: rest) ∧
  (∃ (s : State), s.pending = []) :=
  ⟨⟨{ pending := [.coldStart 0 false] }, .coldStart 0 false, [], rfl⟩,
   ⟨{}, rfl⟩⟩

theorem witness_FusesOnlyBurn :
  ∃ (s t : State), s.chip.nv.fuses.wordsFit ∧ step s = .next t :=
  ⟨{ pending := [.coldStart 0 false] }, _, fun _ => Nat.two_pow_pos 16, rfl⟩

theorem witness_RegisterWritesReach :
  (∃ (s : State) (d : Dev) (addr bytes v : Nat), s.begun = d ∧ d.bt.phase < 9) ∧
  (∃ (s : State) (d : Dev) (addr bytes v : Nat), s.begun = d ∧ 9 ≤ d.bt.phase ∧ ctlReg addr bytes = none) ∧
  (∃ (s : State) (d : Dev) (addr bytes v : Nat) (r : Reg) (i : Nat), s.begun = d ∧ 9 ≤ d.bt.phase ∧ v < 2 ^ (8 * bytes) ∧ ctlReg
    addr bytes = some (r, i) ∧ r.name ≠ .btCmd) ∧
  (∃ (s : State) (d : Dev) (h off bytes v : Nat), s.begun = d ∧ v < 2 ^ (8 * bytes) ∧ pageReg .fn off bytes = none) ∧
  (∃ (s : State) (d : Dev) (h off bytes v : Nat), ∃ r i, s.begun = d ∧ v < 2 ^ (8 * bytes) ∧ pageReg .fn off bytes = some (r, i)) ∧
  (∃ (s : State) (d : Dev) (h ep off bytes v : Nat), s.begun = d ∧ v < 2 ^ (8 * bytes) ∧ (pageReg .ep off bytes = none ∨
    d.pageExists h ep = false)) ∧
  (∃ (s : State) (d : Dev) (h ep off bytes v : Nat), ∃ r i, s.begun = d ∧ v < 2 ^ (8 * bytes) ∧ pageReg .ep off bytes = some (r, i)
    ∧ d.pageExists h ep = true) :=
  ⟨⟨up {}, _, 0, 4, 0, rfl, by decide⟩,
   ⟨up on, _, 2, 4, 0, rfl, by decide, by decide⟩,
   ⟨up on, _, 0x1100000, 4, 0xFFFFFFFF, _, _, rfl, by decide, by decide, rfl, by decide⟩,
   ⟨up {}, _, 0, 4, 8, 0xFFFFFFFFFFFFFFFF, rfl, by decide, by decide⟩,
   ⟨up {}, _, 31, 0, 8, 1, _, _, rfl, by decide, rfl⟩,
   ⟨up {}, _, 0, 5, 0, 8, 0, rfl, by decide, by decide⟩,
   ⟨up (host epc), _, 0, 5, 0, 8, 0, _, _, rfl, by decide, rfl, by decide⟩⟩

theorem witness_RegisterWritesAreJudged :
  (∃ (d : Dev) (r : Reg) (i v : Nat) (f : FieldDesc), f ∈ r.fields ∧ f.acc = .rw ∧ field v f.lo f.len ≠ d.fld r f.lo f.len i
    (d.bankOf r) ∧ (f.cls = .s ∨ f.cls = .q ∧ d.qIdle r i (d.bankOf r) = false)) ∧
  (∃ (d : Dev) (r : Reg) (i v : Nat) (f : FieldDesc), ∃ (q : Reg) (j b : Nat), f ∈ r.fields ∧ f.acc = .rw ∧ field v f.lo f.len ≠
    d.fld r f.lo f.len i (d.bankOf r) ∧ (f.cls = .s ∨ f.cls = .q ∧ d.qIdle r i (d.bankOf r) = false) ∧ (q.key j b < 0x1100040 ∨
    0x1100110 ≤ q.key j b ∧ q.key j b < 0x1210000 ∨ 0x1211000 ≤ q.key j b)) ∧
  (∃ (d : Dev) (r : Reg) (i v : Nat) (f : FieldDesc), f ∈ r.fields ∧ f.acc = .rw ∧ field v f.lo f.len ≠ d.fld r f.lo f.len i
    (d.bankOf r) ∧ (f.cls = .s ∨ f.cls = .q ∧ d.qIdle r i (d.bankOf r) = false) ∧ refusalEvent r (d.bankOf r) = none) ∧
  (∃ (d : Dev) (r : Reg) (i v : Nat), d.valueOk r i v = true ∧ (∀ f ∈ r.fields, f.acc = .rw → f.cls = .s ∨ f.cls = .q → field v
    f.lo f.len = d.fld r f.lo f.len i (d.bankOf r))) ∧
  (∃ (d : Dev) (r : Reg) (i b v : Nat), ∃ f, f ∈ r.fields ∧ Tbl.rising 0 d.regs = true ∧ d.rd r i b < 2 ^ r.width ∧ (∀ f ∈
    r.fields, f.lo + f.len ≤ r.width) ∧ (r.fields.Pairwise (fun f g => f.lo + f.len ≤ g.lo ∨ g.lo + g.len ≤ f.lo))) ∧
  (∃ (d : Dev) (r : Reg) (i b v : Nat), ∃ f, f ∈ r.fields ∧ Tbl.rising 0 d.regs = true ∧ d.rd r i b < 2 ^ r.width ∧ (∀ f ∈
    r.fields, f.lo + f.len ≤ r.width) ∧ (r.fields.Pairwise (fun f g => f.lo + f.len ≤ g.lo ∨ g.lo + g.len ≤ f.lo)) ∧ f.acc = .rw
    ∧ f.cls = .t) ∧
  (∃ (d : Dev) (r : Reg) (i b v : Nat), ∃ (q : Reg) (j c : Nat), Tbl.rising 0 d.regs = true ∧ d.rd r i b < 2 ^ r.width ∧ (∀ f ∈
    r.fields, f.lo + f.len ≤ r.width) ∧ (r.fields.Pairwise (fun f g => f.lo + f.len ≤ g.lo ∨ g.lo + g.len ≤ f.lo)) ∧ q.key j c ≠
    r.key i b) :=
  ⟨⟨{ on with sp := { slots := [(0, { use := .on })] } }, rSpSlotCfg, 0, 0, ⟨36, 12, .rw, .q⟩, by decide, by decide, by decide, by
     decide⟩,
   ⟨on, rHqFnRange, 31, 1, ⟨0, 16, .rw, .s⟩, rStCtl, 0, 0, by decide, by decide, by decide, by decide, by decide⟩,
   ⟨{ on with sp := { slots := [(0, { use := .on })] } }, rSpSlotCfg, 0, 0, ⟨36, 12, .rw, .q⟩, by decide, by decide, by decide, by
     decide, by decide⟩,
   ⟨on, rFeHostMask, 0, 0xFFFFFFFF, by decide, by decide⟩,
   ⟨on, rHqFnRange, 31, 0, 1, ⟨0, 16, .rw, .s⟩, by decide, by decide, by decide, by decide, by decide⟩,
   ⟨on, rScPortWeight, 0, 511, 0, ⟨56, 8, .rw, .t⟩, by decide, by decide, by decide, by decide, by decide, by decide, by decide⟩,
   ⟨on, rFeCtl, 0, 0, 1, rStCtl, 0, 0, by decide, by decide, by decide, by decide, by decide⟩⟩

theorem witness_RingCountsEntries :
  (∃ (size : Nat) (c p : Pos), c.index < size ∧ p.index < size ∧ p.lap = c.lap ∧ c.index ≤ p.index) ∧
  (∃ (size : Nat) (c p : Pos), c.index < size ∧ p.index < size ∧ p.lap ≠ c.lap) ∧
  (∃ (size : Nat) (c p : Pos), c.index < size ∧ p.index < size ∧ p.lap = c.lap ∧ p.index = c.index) ∧
  (∃ (size : Nat) (c p : Pos), c.index < size ∧ p.index < size ∧ p.lap ≠ c.lap ∧ p.index = c.index) ∧
  (∃ (size k : Nat) (c p : Pos), c.index < size ∧ p.index < size ∧ (p.lap = c.lap → c.index ≤ p.index) ∧ (p.lap ≠ c.lap → p.index ≤
    c.index) ∧ k ≤ size - ringCount size c p ∧ (p.advance size k).lap = c.lap) ∧
  (∃ (size k : Nat) (c p : Pos), c.index < size ∧ p.index < size ∧ (p.lap = c.lap → c.index ≤ p.index) ∧ (p.lap ≠ c.lap → p.index ≤
    c.index) ∧ k ≤ size - ringCount size c p ∧ (p.advance size k).lap ≠ c.lap) ∧
  (∃ (size k : Nat) (c p : Pos), c.index < size ∧ p.index < size ∧ (p.lap = c.lap → c.index ≤ p.index) ∧ (p.lap ≠ c.lap → p.index ≤
    c.index) ∧ k ≤ ringCount size c p) :=
  ⟨⟨8, ⟨3, true⟩, ⟨7, true⟩, by decide, by decide, by decide, by decide⟩,
   ⟨8, ⟨7, true⟩, ⟨0, false⟩, by decide, by decide, by decide⟩,
   ⟨8, ⟨3, true⟩, ⟨3, true⟩, by decide, by decide, by decide, by decide⟩,
   ⟨1, ⟨0, true⟩, ⟨0, false⟩, by decide, by decide, by decide, by decide⟩,
   ⟨8, 4, ⟨3, true⟩, ⟨3, true⟩, by decide, by decide, by decide, by decide, by decide, by decide⟩,
   ⟨8, 8, ⟨3, true⟩, ⟨3, true⟩, by decide, by decide, by decide, by decide, by decide, by decide⟩,
   ⟨8, 8, ⟨3, true⟩, ⟨3, false⟩, by decide, by decide, by decide, by decide, by decide⟩⟩

theorem witness_OccurrencesAreRecorded :
  (∃ (d e : Dev) (src inst sev w : Nat) (forced : Bool), src < 320 ∧ Tbl.rising 0 d.regs = true ∧ d.occur src inst forced = e ∧ sev
    = field (d.srcCfg src) 1 2 ∧ w = d.rd rFeLatch sev ∧ flag (d.srcCfg src) 0 = false) ∧
  (∃ (d e : Dev) (src inst sev w : Nat) (forced : Bool), src < 320 ∧ Tbl.rising 0 d.regs = true ∧ d.occur src inst forced = e ∧ sev
    = field (d.srcCfg src) 1 2 ∧ w = d.rd rFeLatch sev ∧ flag (d.srcCfg src) 0 = true ∧ flag w 63 = true) ∧
  (∃ (d e : Dev) (src inst sev w : Nat) (forced : Bool), src < 320 ∧ Tbl.rising 0 d.regs = true ∧ d.occur src inst forced = e ∧ sev
    = field (d.srcCfg src) 1 2 ∧ w = d.rd rFeLatch sev ∧ flag (d.srcCfg src) 0 = true ∧ flag w 63 = false) ∧
  (∃ (d e : Dev) (src inst sev w : Nat) (forced : Bool), ∃ v, src < 320 ∧ Tbl.rising 0 d.regs = true ∧ d.occur src inst forced = e
    ∧ sev = field (d.srcCfg src) 1 2 ∧ w = d.rd rFeLatch sev ∧ flag (d.srcCfg src) 0 = true ∧ v ≠ sev ∧ v < 4) ∧
  (∃ (d e : Dev) (src inst sev w : Nat) (forced : Bool), src < 320 ∧ Tbl.rising 0 d.regs = true ∧ d.occur src inst forced = e ∧ sev
    = field (d.srcCfg src) 1 2 ∧ w = d.rd rFeLatch sev ∧ forced = true) ∧
  (∃ (d e : Dev) (src inst sev w : Nat) (forced : Bool), ∃ (q : Reg) (j b : Nat), src < 320 ∧ Tbl.rising 0 d.regs = true ∧ d.occur
    src inst forced = e ∧ sev = field (d.srcCfg src) 1 2 ∧ w = d.rd rFeLatch sev ∧ (q.key j b < 0x1100040 ∨ 0x11000A8 ≤ q.key j
    b) ∧ q.key j b ≠ 0x1100108 ∧ q.key j b ≠ rPcCtr.key src 0) :=
  ⟨⟨on.wr rFeSrcCfg 0 319, _, 319, 0, _, _, false, by decide, by decide, rfl, rfl, rfl, by decide⟩,
   ⟨(on.wr rFeSrcCfg 3 0).wr rFeLatch (2 ^ 63) 1, _, 0, 7, _, _, false, by decide, by decide, rfl, rfl, rfl, by decide, by decide⟩,
   ⟨on.wr rFeSrcCfg 7 319, _, 319, 0, _, _, false, by decide, by decide, rfl, rfl, rfl, by decide, by decide⟩,
   ⟨on.wr rFeSrcCfg 3 0, _, 0, 7, _, _, false, 2, by decide, by decide, rfl, rfl, rfl, by decide, by decide, by decide⟩,
   ⟨on, _, 3, 0xFFFFF, _, _, true, by decide, by decide, rfl, rfl, rfl, by decide⟩,
   ⟨on, _, 3, 7, _, _, false, rStCtl, 0, 0, by decide, by decide, rfl, rfl, rfl, by decide, by decide, by decide⟩⟩

theorem witness_CollectorRegistersAct :
  (∃ (s : State) (d : Dev) (n v : Nat), s.begun = d ∧ 9 ≤ d.bt.phase ∧ n < 320 ∧ v < 2 ^ 32 ∧ flag v 3 = true ∧ ¬(field v 1 2 = 2 ∧
    (sourceRow n).unit = .none)) ∧
  (∃ (s : State) (d : Dev) (n v : Nat), s.begun = d ∧ 9 ≤ d.bt.phase ∧ n < 320 ∧ v < 2 ^ 32 ∧ flag v 3 = false ∧ ¬(field v 1 2 = 2
    ∧ (sourceRow n).unit = .none)) ∧
  (∃ (s : State) (d : Dev) (n v : Nat), s.begun = d ∧ 9 ≤ d.bt.phase ∧ n < 320 ∧ v < 2 ^ 32 ∧ field v 1 2 = 2 ∧ (sourceRow n).unit
    = .none) ∧
  (∃ (s : State) (d : Dev) (sev v : Nat), s.begun = d ∧ 9 ≤ d.bt.phase ∧ sev < 4 ∧ v < 2 ^ 64 ∧ flag v 63 = true) ∧
  (∃ (s : State) (d : Dev) (k v : Nat), s.begun = d ∧ 9 ≤ d.bt.phase ∧ k < 5 ∧ v < 2 ^ 64) ∧
  (∃ (s : State) (d : Dev) (sev v : Nat), s.begun = d ∧ 9 ≤ d.bt.phase ∧ sev < 4 ∧ v < 2 ^ 64 ∧ flag v 63 = false) ∧
  (∃ (s : State) (d d1 : Dev) (v : Nat), s.begun = d ∧ 9 ≤ d.bt.phase ∧ v < 2 ^ 32 ∧ d1 =
    { d with fe := { d.fe with hold := flag v 0 } } ∧ flag v 1 = false ∧ (d.fe.pin ≠ .held ∨ flag v 0 = true)) ∧
  (∃ (s : State) (d d1 : Dev) (v : Nat), s.begun = d ∧ 9 ≤ d.bt.phase ∧ v < 2 ^ 32 ∧ d1 =
    { d with fe := { d.fe with hold := flag v 0 } } ∧ flag v 1 = false ∧ d.fe.pin = .held ∧ flag v 0 = false ∧ d.fe.repeatOwed =
    false) ∧
  (∃ (s : State) (d d1 : Dev) (v : Nat), s.begun = d ∧ 9 ≤ d.bt.phase ∧ v < 2 ^ 32 ∧ d1 =
    { d with fe := { d.fe with hold := flag v 0 } } ∧ flag v 1 = false ∧ d.fe.pin = .held ∧ flag v 0 = false ∧ d.fe.repeatOwed =
    true) ∧
  (∃ (s : State) (d d1 : Dev) (v : Nat), s.begun = d ∧ 9 ≤ d.bt.phase ∧ v < 2 ^ 32 ∧ d1 =
    { d with fe := { d.fe with hold := flag v 0 } } ∧ flag v 1 = true ∧ (d.fe.pin = .high ∨ d.fe.pin = .held ∧ flag v 0 = false
    ∧ d.fe.repeatOwed = false)) ∧
  (∃ (s : State) (d d1 : Dev) (v : Nat), s.begun = d ∧ 9 ≤ d.bt.phase ∧ v < 2 ^ 32 ∧ d1 =
    { d with fe := { d.fe with hold := flag v 0 } } ∧ flag v 1 = true ∧ d.fe.pin = .held ∧ flag v 0 = false ∧ d.fe.repeatOwed =
    true) ∧
  (∃ (s : State) (d d1 : Dev) (v : Nat), s.begun = d ∧ 9 ≤ d.bt.phase ∧ v < 2 ^ 32 ∧ d1 =
    { d with fe := { d.fe with hold := flag v 0 } } ∧ flag v 1 = true ∧ (d.fe.pin = .pulse ∨ d.fe.pin = .gap ∨ d.fe.pin = .held
    ∧ flag v 0 = true)) ∧
  (∃ (s : State) (d : Dev) (n v : Nat), s.begun = d ∧ d.bt.phase < 9) ∧
  (∃ (s : State) (d : Dev), s.begun = d ∧ d.fe.pin = .pulse ∧ d.fe.hold = false ∧ d.fe.repeatOwed = false) ∧
  (∃ (s : State) (d : Dev), s.begun = d ∧ d.fe.pin = .pulse ∧ d.fe.hold = true) ∧
  (∃ (s : State) (d : Dev), s.begun = d ∧ d.fe.pin = .pulse ∧ d.fe.hold = false ∧ d.fe.repeatOwed = true) ∧
  (∃ (s : State) (d : Dev), s.begun = d ∧ d.fe.pin ≠ .pulse) ∧
  (∃ (s : State) (d : Dev), s.begun = d ∧ d.fe.pin ≠ .gap) ∧
  (∃ (s : State) (d : Dev), s.begun = d ∧ d.fe.due = []) ∧
  (∃ (s : State) (d : Dev), s.begun = d ∧ 9 ≤ d.bt.phase ∧ (d.fe.hist = [] ∨ flag (d.rd rFeCtl) 7 = false)) ∧
  (∃ (s : State) (d : Dev), s.begun = d ∧ (d.fe.restartOwed = false ∨ flag (d.rd rFeCtl) 8 = false ∨ d.bt.pwrok = false ∨
    d.bt.supplyBad = true)) ∧
  (∃ (s : State) (d : Dev), s.begun = d ∧ d.fe.pin = .gap) ∧
  (∃ (s : State) (d : Dev), s.begun = d ∧ 9 ≤ d.bt.phase) ∧
  (∃ (s : State) (d : Dev) (h : HistEntry) (rest : List HistEntry), s.begun = d ∧ 9 ≤ d.bt.phase ∧ d.fe.hist = h :: rest ∧ flag
    (d.rd rFeCtl) 7 = true) ∧
  (∃ (s : State) (d : Dev) (k : Sink) (r : DeliveryRecord) (rest : List (Sink × DeliveryRecord)), s.begun = d ∧ d.fe.due = (k, r)
    :: rest) ∧
  (∃ (s : State) (d : Dev), s.begun = d ∧ d.fe.restartOwed = true ∧ flag (d.rd rFeCtl) 8 = true ∧ d.bt.pwrok = true ∧
    d.bt.supplyBad = false) :=
  ⟨⟨up on, _, 3, 13, rfl, by decide, by decide, by decide, by decide, by decide⟩,
   ⟨up on, _, 9, 320, rfl, by decide, by decide, by decide, by decide, by decide⟩,
   ⟨up on, _, 319, 5, rfl, by decide, by decide, by decide, by decide, by decide⟩,
   ⟨up on, _, 3, 0xFFFFFFFFFFFFFFFF, rfl, by decide, by decide, by decide, by decide⟩,
   ⟨up on, _, 4, 0xFFFFFFFFFFFFFFFF, rfl, by decide, by decide, by decide⟩,
   ⟨up on, _, 4 - 1, 9, rfl, by decide, by decide, by decide, by decide⟩,
   ⟨up on, _, on, 32, rfl, by decide, by decide, by decide, by decide, by decide⟩,
   ⟨up { on with fe := { pin := .held } }, _, (up { on with fe := { pin := .held } }).begun, 32, rfl, by decide, by decide, by
     decide, by decide, by decide, by decide, by decide⟩,
   ⟨up { on with fe := { pin := .held, repeatOwed := true } }, _, _, 0, rfl, by decide, by decide, rfl, by decide, by decide, by
     decide, by decide⟩,
   ⟨up on, _, on, 2, rfl, by decide, by decide, by decide, by decide, by decide⟩,
   ⟨up { on with fe := { pin := .held, repeatOwed := true } }, _, _, 2, rfl, by decide, by decide, rfl, by decide, by decide, by
     decide, by decide⟩,
   ⟨up { on with fe := { pin := .pulse } }, _, (up { on with fe := { pin := .pulse } }).begun, 2, rfl, by decide, by decide, by
     decide, by decide, by decide⟩,
   ⟨{}, _, 9, 9, rfl, by decide⟩,
   ⟨up { fe := { pin := .pulse } }, _, rfl, by decide, by decide, by decide⟩,
   ⟨up { fe := { pin := .pulse, hold := true } }, _, rfl, by decide, by decide⟩,
   ⟨up { fe := { pin := .pulse, repeatOwed := true } }, _, rfl, by decide, by decide, by decide⟩,
   ⟨{}, _, rfl, by decide⟩,
   ⟨{}, _, rfl, by decide⟩,
   ⟨{}, _, rfl, by decide⟩,
   ⟨up on, _, rfl, by decide, by decide⟩,
   ⟨{}, _, rfl, by decide⟩,
   ⟨up { fe := { pin := .gap, repeatOwed := true } }, _, rfl, by decide⟩,
   ⟨up { on with fe := { pulses := 65535 } }, _, rfl, by decide⟩,
   ⟨up { on.wr rFeCtl 0x80 with fe := { hist := [⟨1, 2, 3, 4⟩] } }, _, _, _, rfl, by decide, rfl, by decide⟩,
   ⟨up { fe := { due := [(.host, ⟨1, 2, false, false, 0, 0, 5, 1⟩)] } }, _, _, _, _, rfl, rfl⟩,
   ⟨up { on.wr rFeCtl 0x100 with fe := { restartOwed := true }, bt := { phase := 9, pwrok := true } }, _, rfl, by decide, by
     decide, by decide, by decide⟩⟩

theorem witness_FenceReleaseNamesOneEntry :
  (∃ (s : State) (d : Dev) (v : Nat) (e : FenceEntry), s.begun = d ∧ 9 ≤ d.bt.phase ∧ v < 2 ^ 32 ∧ flag v 31 = true ∧ Tbl.get none
    d.fe.fence (field v 0 6) = some e ∧ e.kind.code = 1) ∧
  (∃ (s : State) (d : Dev) (v : Nat) (e : FenceEntry), s.begun = d ∧ 9 ≤ d.bt.phase ∧ v < 2 ^ 32 ∧ flag v 31 = true ∧ Tbl.get none
    d.fe.fence (field v 0 6) = some e ∧ e.kind.code = 9) ∧
  (∃ (s : State) (d : Dev) (v : Nat) (e : FenceEntry), s.begun = d ∧ 9 ≤ d.bt.phase ∧ v < 2 ^ 32 ∧ flag v 31 = true ∧ Tbl.get none
    d.fe.fence (field v 0 6) = some e ∧ e.kind.code = 10) ∧
  (∃ (s : State) (d : Dev) (v : Nat) (e : FenceEntry), s.begun = d ∧ 9 ≤ d.bt.phase ∧ v < 2 ^ 32 ∧ flag v 31 = true ∧ Tbl.get none
    d.fe.fence (field v 0 6) = some e ∧ e.kind.code = 11) ∧
  (∃ (s : State) (d : Dev) (v : Nat) (e : FenceEntry), s.begun = d ∧ 9 ≤ d.bt.phase ∧ v < 2 ^ 32 ∧ flag v 31 = true ∧ Tbl.get none
    d.fe.fence (field v 0 6) = some e ∧ e.kind.code ≠ 1 ∧ e.kind.code ≠ 9 ∧ e.kind.code ≠ 10 ∧ e.kind.code ≠ 11) ∧
  (∃ (s : State) (d : Dev) (v : Nat), s.begun = d ∧ 9 ≤ d.bt.phase ∧ v < 2 ^ 32 ∧ flag v 31 = true ∧ Tbl.get none d.fe.fence (field
    v 0 6) = none) ∧
  (∃ (s : State) (d : Dev) (v : Nat), s.begun = d ∧ 9 ≤ d.bt.phase ∧ v < 2 ^ 32 ∧ flag v 31 = false) :=
  ⟨⟨up { on with fe := { fence := [(63, some ⟨.port, 255, 1, true⟩)] } }, _, 0x8000003F, _, rfl, by decide, by decide, by decide,
     rfl, by decide⟩,
   ⟨up { on with fe := { fence := [(0, some ⟨.lockGroup, 15, 1, true⟩)] } }, _, 0x80000000, _, rfl, by decide, by decide, by
     decide, rfl, by decide⟩,
   ⟨up { on with fe := { fence := [(0, some ⟨.fabricTile, 3, 1, true⟩)] } }, _, 0x80000000, _, rfl, by decide, by decide, by
     decide, rfl, by decide⟩,
   ⟨up { on with fe := { fence := [(0, some ⟨.cxlTile, 2, 1, true⟩)] } }, _, 0x80000000, _, rfl, by decide, by decide, by decide,
     rfl, by decide⟩,
   ⟨up { on with fe := { fence := [(0, some ⟨.ring, 65535, 1, true⟩)] } }, _, 0x80000000, _, rfl, by decide, by decide, by decide,
     rfl, by decide, by decide, by decide, by decide⟩,
   ⟨up on, _, 0x8000003F, rfl, by decide, by decide, by decide, by decide⟩,
   ⟨up on, _, 9, rfl, by decide, by decide, by decide⟩⟩

theorem witness_SamplerRegisters :
  (∃ (s : State) (d : Dev) (v n m : Nat), s.begun = d ∧ 9 ≤ d.bt.phase ∧ v < 2 ^ 32 ∧ ringDist 4096 d.sampleCons ⟨field v 0 12,
    flag v 12⟩ = some n ∧ ringDist 4096 d.sampleCons d.sampleProd = some m) ∧
  (∃ (s : State) (d : Dev) (v : Nat), s.begun = d ∧ 9 ≤ d.bt.phase ∧ v < 2 ^ 32 ∧ (ringDist 4096 d.sampleCons ⟨field v 0 12, flag v
    12⟩ = none ∨ ringDist 4096 d.sampleCons d.sampleProd = none)) ∧
  (∃ (s : State) (d : Dev), s.begun = d ∧ 9 ≤ d.bt.phase) :=
  ⟨⟨up on, _, 0x1000, _, _, rfl, by decide, by decide, rfl, rfl⟩,
   ⟨up on, _, 9, rfl, by decide, by decide, by decide⟩,
   ⟨up { on with pc := { lost := 0xFFFFFF } }, _, rfl, by decide⟩⟩

theorem witness_TickBoundaryAdvancesTime :
  (∃ (s : State) (d e : Dev) (x : TickIn), s.begun = d ∧ d.bt.phase ≠ 0 ∧ (((d.tickEnd.nextTick).snapshot
    d).takeStagedFields).tickWork x = e ∧ x.findings = []) ∧
  (∃ (s : State) (d e : Dev) (x : TickIn), s.begun = d ∧ d.bt.phase ≠ 0 ∧ (((d.tickEnd.nextTick).snapshot
    d).takeStagedFields).tickWork x = e ∧ (∀ f ∈ x.findings, f ≠ .kilnRefused)) ∧
  (∃ (s : State) (d e : Dev) (x : TickIn), ∃ e', s.begun = d ∧ d.bt.phase ≠ 0 ∧ (((d.tickEnd.nextTick).snapshot
    d).takeStagedFields).tickWork x = e ∧ forEach x.findings (fun f (d : Dev) => d.found f)
    { e with st := { e.st with passed := 0 } } = e' ∧ e'.bt.phase ≠ 0) ∧
  (∃ (s : State) (d : Dev) (x : TickIn), s.begun = d ∧ d.bt.phase = 0) ∧
  (∃ (d : Dev), d.st.lock = .holdover) :=
  ⟨⟨up on, _, _, {}, rfl, by decide, rfl, by decide⟩,
   ⟨up { bt := { phase := 1 } }, _, _, {}, rfl, by decide, rfl, by decide⟩,
   ⟨up on, _, _, {}, _, rfl, by decide, rfl, rfl, by decide⟩,
   ⟨up {}, _, {}, rfl, by decide⟩,
   ⟨{ st := { lock := .holdover }, tp := { msgs := [msg], wins := [(0, some ⟨1, 0⟩)] } }, by decide⟩⟩

theorem witness_TimeIsSteered :
  (∃ (s : State) (d : Dev) (p w rx : Nat), s.begun = d ∧ (d.lkPort p).state = .up ∧ tmOk w = false) ∧
  (∃ (s : State) (d : Dev) (p w rx : Nat), (s.begun.lkPort p).state = .up ∧ s.begun.noteHeard p true = d ∧ tmOk w = true ∧ field w
    8 2 = d.fld rStCtl 0 2 ∧ d.isRoot = true ∧ d.node ≤ tmRoot w ∧ (d.notePort p w rx).isRoot = true) ∧
  (∃ (s : State) (d e : Dev) (p w rx : Nat), (s.begun.lkPort p).state = .up ∧ s.begun.noteHeard p true = d ∧ tmOk w = true ∧ field
    w 8 2 = d.fld rStCtl 0 2 ∧ d.isRoot = false ∧ d.notePort p w rx = e ∧ e.isRoot = false ∧ e.bestCandidate = some p ∧
    e.st.parent = some p ∧ e.st.lock = .locked) ∧
  (∃ (s : State) (d : Dev), s.begun = d ∧ d.st.lock = .locking ∧ 16 ≤ d.st.lockRun) ∧
  (∃ (s : State) (d : Dev) (p t : Nat), s.begun = d ∧ d.st.parent = some p ∧ (d.stPort p).lastTick = some t ∧ 3 ≤ d.waited t ∧
    d.isRoot = false ∧ d.st.lock = .locked ∧ d.bestCandidate = none) ∧
  (∃ (s : State) (d : Dev), s.begun = d ∧ d.st.lock = .holdover ∧ orOne (d.fld rStHoldover 0 24) ≤ d.st.holdTicks) ∧
  (∃ (s : State) (d : Dev), s.begun = d ∧ d.st.conserv = true ∧ d.conservCause = false ∧ flag (d.rd rStConservCtl) 0 = false ∧
    d.exitDelay ≤ d.st.exitRun) ∧
  (∃ (s : State) (d : Dev), s.begun = d ∧ d.isRoot = true ∧ d.st.tickinLost = false ∧ 1500000000 ≤ d.st.ns - d.st.lastEdge) ∧
  (∃ (s : State) (d : Dev) (a : Nat), s.begun = d ∧ Tbl.get false d.st.persistOwed a = true) :=
  ⟨⟨up { lk := { ports := [(0, { state := .up })] } }, _, 0, 0, 0, rfl, by decide, by decide⟩,
   ⟨up ({ lk := { ports := [(0, { state := .up })] } : Dev }.wr rStCtl 5), _, 0, 0x101, 0, by decide, rfl, by decide, by decide, by
     decide, by decide, by decide⟩,
   ⟨up ({ lk := { ports := [(0, { state := .up })] }, st := { parent := some 0, lock := .locked } : Dev }.wr rStParentMask 1), _,
     _, 0, 0x101, 0, by decide, rfl, by decide, by decide, by decide, rfl, by decide, by decide, by decide, by decide⟩,
   ⟨up { st := { lock := .locking, lockRun := 16 } }, _, rfl, by decide, by decide⟩,
   ⟨up { st := { lock := .locked, parent := some 0, ports := [(0, { lastTick := some 0 })], boundaries := 3 } }, _, 0, 0, rfl, by
     decide, by decide, by decide, by decide, by decide, by decide⟩,
   ⟨up { st := { lock := .holdover, holdTicks := 16384 } }, _, rfl, by decide, by decide⟩,
   ⟨up { st := { conserv := true, exitRun := 1024 } }, _, rfl, by decide, by decide, by decide, by decide⟩,
   ⟨up ({ st := { ns := 1500000000 } : Dev }.wr rStCtl 5), _, rfl, by decide, by decide, by decide⟩,
   ⟨up { st := { persistOwed := [(11, true)] } }, _, 11, rfl, by decide⟩⟩

theorem witness_TickInLoadsArmedSeconds :
  (∃ (s : State) (d : Dev) (v : Nat), s.begun = d ∧ 9 ≤ d.bt.phase ∧ v < 2 ^ 64) ∧
  (∃ (s : State) (d e : Dev) (falling : Bool) (at_ sec : Nat) (err : Int), s.begun = d ∧ d.isRoot = true ∧ falling = flag (d.rd
    rStCtl) 3 ∧ sec = d.st.armedSeconds.getD (d.edgeSecond at_) ∧ err = (at_ : Int) - (sec * 1000000000 : Nat) ∧ d.raiseIf
    (decide (1000 < ((at_ : Int) - (d.edgeSecond at_ * 1000000000 : Nat)).natAbs)) evStTickinJump 0 = e ∧ err.natAbs ≤ 1000) ∧
  (∃ (s : State) (d e : Dev) (falling : Bool) (at_ sec : Nat) (err : Int), s.begun = d ∧ d.isRoot = true ∧ falling = flag (d.rd
    rStCtl) 3 ∧ sec = d.st.armedSeconds.getD (d.edgeSecond at_) ∧ err = (at_ : Int) - (sec * 1000000000 : Nat) ∧ d.raiseIf
    (decide (1000 < ((at_ : Int) - (d.edgeSecond at_ * 1000000000 : Nat)).natAbs)) evStTickinJump 0 = e ∧ 1000 < err.natAbs) ∧
  (∃ (s : State) (d : Dev) (falling : Bool) (at_ : Nat), s.begun = d ∧ (d.isRoot = false ∨ falling ≠ flag (d.rd rStCtl) 3)) ∧
  (∃ (d e : Dev) (o : Int), o < 0 ∧
    ({ d.raise evStTimeStep 0 with st := { (d.raise evStTimeStep 0).st with slewing := true } }).conservCheck = e) :=
  ⟨⟨up on, _, 0xFFFFFFFFFFFFFFFF, rfl, by decide, by decide⟩,
   ⟨up ({ lk := { ports := [(0, { state := .up })] } : Dev }.wr rStCtl 5), _, (up
     ({ lk := { ports := [(0, { state := .up })] } : Dev }.wr rStCtl 5)).begun, _, 3, _, _, rfl, by decide, rfl, rfl, rfl, by
     decide, by decide⟩,
   ⟨up ({ st := { armedSeconds := some 7 } : Dev }.wr rStCtl 5), _, (up ({ st := { armedSeconds := some 7 } : Dev }.wr rStCtl
     5)).begun, _, 3, _, _, rfl, by decide, rfl, rfl, rfl, by decide, by decide⟩,
   ⟨{}, _, true, 3, rfl, by decide⟩,
   ⟨{}, _, -1, by decide, rfl⟩⟩

theorem witness_WaitsForLockEnd :
  (∃ (s : State) (d : Dev) (ep index : Nat) (lap : Bool) (c : Cmd), s.begun = d ∧ d.findCmd ep index lap = some c ∧ d.waitsLock c =
    true ∧ d.lmax ≤ d.waited c.fetched ∧ d.tp.msgs = [] ∧ d.xl.walks = []) ∧
  (∃ (s : State) (d : Dev) (ep index : Nat) (lap : Bool) (c : Cmd), ∃ e, s.begun = d ∧ d.findCmd ep index lap = some c ∧
    d.waitsLock c = true ∧ d.lmax ≤ d.waited c.fetched ∧ forEach (d.tp.msgs.filter (fun m => m.belongs c)) Dev.discardMsg d = e) ∧
  (∃ (s : State) (d e : Dev) (num : Nat) (m : Msg), s.begun = d ∧ d.msg num = some m ∧ m.id = none ∧ m.selfMade = true ∧ d.timeOk =
    false ∧ d.lmax ≤ d.waited m.since ∧ ((d.raise evTpUnreachable m.srcEp).returnCredits m).dropWaiter m.num = e) ∧
  (∃ (s : State) (d : Dev) (num : Nat) (m : RlMsg), s.begun = d ∧ firstThat d.rl.msgs (fun m => m.num == num) = some m ∧ m.id =
    none ∧ d.timeOk = false ∧ d.lmax ≤ d.waited m.since ∧ m.type = tyRlAbort) ∧
  (∃ (s : State) (d : Dev) (num : Nat) (m : RlMsg), s.begun = d ∧ firstThat d.rl.msgs (fun m => m.num == num) = some m ∧ m.id =
    none ∧ d.timeOk = false ∧ d.lmax ≤ d.waited m.since ∧ m.type ≠ tyRlAbort) :=
  ⟨⟨up { st := { boundaries := 4096 }, tp := { cmds := [cmd] } }, _, 5, 0, true, _, rfl, rfl, by decide, by decide, by decide, by
     decide⟩,
   ⟨up { st := { boundaries := 4096 }, tp := { cmds := [cmd], msgs := [{ msg with owner := .cmd 5 0 true 0 }] } }, _, 5, 0, true,
     _, _, rfl, rfl, by decide, by decide, rfl⟩,
   ⟨up { st := { boundaries := 4096 }, tp := { msgs := [msg] } }, _, _, 7, _, rfl, rfl, by decide, by decide, by decide, by decide,
     rfl⟩,
   ⟨up { st := { boundaries := 4096 }, rl := { msgs := [{ rmsg with type := tyRlAbort }] } }, _, 7, _, rfl, rfl, by decide, by
     decide, by decide, by decide⟩,
   ⟨up { st := { boundaries := 4096 }, rl := { msgs := [rmsg] } }, _, 7, _, rfl, rfl, by decide, by decide, by decide, by decide⟩⟩

theorem witness_DoorbellsOfEndpoints :
  (∃ (s : State) (d : Dev) (h ep v n m : Nat) (c : EpCtx) (p : Pos), s.begun = d ∧ d.ep ep = some c ∧ c.fn = h ∧ d.inRange h ep =
    true ∧ c.onDie = true ∧ v < 2 ^ 17 ∧ p = ⟨field v 0 16, flag v 16⟩ ∧ p.index < c.cmd.size ∧ ringDist c.cmd.size c.cmd.cons p
    = some n ∧ ringDist c.cmd.size c.cmd.cons c.cmd.door = some m ∧ m ≤ n) ∧
  (∃ (s : State) (d : Dev) (h ep v : Nat) (c : EpCtx), s.begun = d ∧ d.ep ep = some c ∧ c.fn = h ∧ d.inRange h ep = true ∧ c.onDie
    = true ∧ v < 2 ^ 64 ∧ c.cmd.size ≤ field v 0 16) ∧
  (∃ (s : State) (d : Dev) (h ep v n m : Nat) (c : EpCtx) (p : Pos), s.begun = d ∧ d.ep ep = some c ∧ c.fn = h ∧ d.inRange h ep =
    true ∧ c.onDie = true ∧ v < 2 ^ 18 ∧ p = ⟨field v 0 16, flag v 16⟩ ∧ p.index < c.evt.size ∧ ringDist c.evt.size c.evt.host p
    = some n ∧ ringDist c.evt.size c.evt.host c.evt.prod = some m ∧ n ≤ m ∧ flag v 17 = true) ∧
  (∃ (s : State) (d : Dev) (h ep v n m : Nat) (c : EpCtx) (p : Pos), s.begun = d ∧ d.ep ep = some c ∧ c.fn = h ∧ d.inRange h ep =
    true ∧ c.onDie = true ∧ v < 2 ^ 18 ∧ p = ⟨field v 0 16, flag v 16⟩ ∧ p.index < c.evt.size ∧ ringDist c.evt.size c.evt.host p
    = some n ∧ ringDist c.evt.size c.evt.host c.evt.prod = some m ∧ n ≤ m ∧ c.evt.waiting = []) ∧
  (∃ (s : State) (d : Dev) (h ep v : Nat) (c : EpCtx), s.begun = d ∧ d.ep ep = some c ∧ c.fn = h ∧ d.inRange h ep = true ∧ c.onDie
    = true ∧ v < 2 ^ 64 ∧ c.evt.size ≤ field v 0 16) ∧
  (∃ (s : State) (d : Dev) (h ep v : Nat), s.begun = d ∧ d.pageExists h ep = false) :=
  ⟨⟨up (host epc), _, 0, 5, 0x1003F, _, _, _, _, rfl, rfl, by decide, by decide, by decide, by decide, rfl, by decide, rfl, rfl, by
     decide⟩,
   ⟨up (host epc), _, 0, 5, 64, _, rfl, rfl, by decide, by decide, by decide, by decide, by decide⟩,
   ⟨up (host epc), _, _, 5, 0x30000, _, _, _, _, rfl, rfl, rfl, by decide, by decide, by decide, rfl, by decide, rfl, rfl, by
     decide, by decide⟩,
   ⟨up (host epc), _, 0, 5, 0x10000, _, _, _, _, rfl, rfl, by decide, by decide, by decide, by decide, rfl, by decide, rfl, rfl, by
     decide, by decide⟩,
   ⟨up (host epc), _, 0, 5, 64, _, rfl, rfl, by decide, by decide, by decide, by decide, by decide⟩,
   ⟨up (host epc), _, 1, 5, 0, rfl, by decide⟩⟩

theorem witness_EndpointControl :
  (∃ (d : Dev) (ep : Nat) (c : EpCtx), d.ep ep = some c) ∧
  (∃ (s : State) (d : Dev) (h ep : Nat) (c : EpCtx), s.begun = d ∧ d.ep ep = some c ∧ d.pageExists h ep = true ∧ c.enable = false) ∧
  (∃ (s : State) (d : Dev) (h ep : Nat) (c : EpCtx), s.begun = d ∧ d.ep ep = some c ∧ d.pageExists h ep = true ∧ c.enable = true) ∧
  (∃ (s : State) (d : Dev) (h ep r : Nat) (c : EpCtx), s.begun = d ∧ d.ep ep = some c ∧ d.pageExists h ep = true ∧ c.enable = true
    ∧ c.cmd.stopped = some r ∧ c.fenced = none) ∧
  (∃ (s : State) (d : Dev) (h ep : Nat) (c : EpCtx), s.begun = d ∧ d.ep ep = some c ∧ d.pageExists h ep = true ∧ c.enable = true ∧
    c.cmd.stopped = none) ∧
  (∃ (s : State) (d e x : Dev) (h : Nat), s.begun = d ∧ h < 32 ∧ ((forEach (d.fnEps h) (fun ep d => d.destroyEp ep) d).loseHost
    h).setFn h {} = e ∧ x =
    (({ e with regs := e.regs.filter (fun r => !(decide (2 ^ 61 ≤ r.1) && decide (field r.1 32 29 = h + 1))), xl := { e.xl with inv := Tbl.put {} h {} e.xl.inv }, wn := { e.wn with flush := Tbl.put {} h {} e.wn.flush } }).clearFence
    .function h).raise evHqFnResetDone 0) ∧
  (∃ (s : State) (d e x : Dev) (h : Nat), s.begun = d ∧ h < 32 ∧ ((forEach (d.fnEps h) (fun ep d => d.destroyEp ep) d).loseHost
    h).setFn h {} = e ∧ x =
    (({ e with regs := e.regs.filter (fun r => !(decide (2 ^ 61 ≤ r.1) && decide (field r.1 32 29 = h + 1))), xl := { e.xl with inv := Tbl.put {} h {} e.xl.inv }, wn := { e.wn with flush := Tbl.put {} h {} e.wn.flush } }).clearFence
    .function h).raise evHqFnResetDone 0 ∧ 9 ≤ d.bt.phase) :=
  ⟨⟨host epc, 5, _, rfl⟩,
   ⟨up (host { epc with enable := false }), _, 0, 5, _, rfl, rfl, by decide, by decide⟩,
   ⟨up (host epc), _, 0, 5, _, rfl, rfl, by decide, by decide⟩,
   ⟨up (host { epc with cmd := { stopped := some 9 } }), _, 0, 5, _, _, rfl, rfl, by decide, by decide, rfl, by decide⟩,
   ⟨up (host epc), _, 0, 5, _, rfl, rfl, by decide, by decide, by decide⟩,
   ⟨up {}, _, _, _, 31, rfl, by decide, rfl, rfl⟩,
   ⟨up on, _, _, _, 31, rfl, by decide, rfl, rfl, by decide⟩⟩

theorem witness_ControlRings :
  (∃ (s : State) (d : Dev) (h v n m : Nat) (f : FnCtx) (p : Pos), s.begun = d ∧ d.fn h = f ∧ v < 2 ^ 17 ∧ p = ⟨field v 0 16, flag v
    16⟩ ∧ p.index < f.cmd.size ∧ ringDist f.cmd.size f.cmd.cons p = some n ∧ ringDist f.cmd.size f.cmd.cons f.cmd.door = some m
    ∧ m ≤ n) ∧
  (∃ (s : State) (d : Dev) (h v n m : Nat) (f : FnCtx) (p : Pos), s.begun = d ∧ d.fn h = f ∧ v < 2 ^ 18 ∧ p = ⟨field v 0 16, flag v
    16⟩ ∧ p.index < f.evt.size ∧ ringDist f.evt.size f.evt.host p = some n ∧ ringDist f.evt.size f.evt.host f.evt.prod = some m
    ∧ n ≤ m) ∧
  (∃ (s : State) (d : Dev) (h v : Nat) (f : FnCtx), s.begun = d ∧ d.fn h = f ∧ v < 2 ^ 64 ∧ f.cmd.size ≤ field v 0 16 ∧ f.fenced =
    none) ∧
  (∃ (s : State) (d d1 : Dev) (h e : Nat) (f : FnCtx), s.begun = d ∧ d.fn h = f ∧ f.enable = true ∧ f.fenced = none ∧ 0 <
    f.cmd.issued ∧ f.cmd.stale = false ∧ entLap e = f.cmd.cons.lap ∧ ctrlReason e = none ∧ d1 = d.setFn h
    { f with cmd := { f.cmd with cons := f.cmd.cons.advance f.cmd.size 1, issued := f.cmd.issued - 1, retries := 0 } } ∧
    entOpcode e = 0x40) ∧
  (∃ (s : State) (d d1 : Dev) (h e : Nat) (f : FnCtx), ∃ c : EpCtx, s.begun = d ∧ d.fn h = f ∧ f.enable = true ∧ f.fenced = none ∧
    0 < f.cmd.issued ∧ f.cmd.stale = false ∧ entLap e = f.cmd.cons.lap ∧ ctrlReason e = none ∧ d1 = d.setFn h
    { f with cmd := { f.cmd with cons := f.cmd.cons.advance f.cmd.size 1, issued := f.cmd.issued - 1, retries := 0 } } ∧
    entOpcode e = 0x40 ∧ d1.inRange h (ctrlEp e) = true ∧ d1.ep (ctrlEp e) = none ∧ (flag e 218 = false ∨ d1.pinnedCtx <
    d1.pinMax) ∧ c =
    { fn := h, asTag := field e 32 16, tcMask := field e 208 8, irqEn := flag e 216, ctrPage := flag e 217, pin := flag e 218, enable := flag e 219, idleSeen := !(flag e 219), msix := field e 224 11, cmd := { base := entU64 e 8, log2 := field e 192 5 }, evt := { base := entU64 e 16, log2 := field e 200 5 } }) ∧
  (∃ (s : State) (d d1 : Dev) (h e : Nat) (f : FnCtx), s.begun = d ∧ d.fn h = f ∧ f.enable = true ∧ f.fenced = none ∧ 0 <
    f.cmd.issued ∧ f.cmd.stale = false ∧ entLap e = f.cmd.cons.lap ∧ ctrlReason e = none ∧ d1 = d.setFn h
    { f with cmd := { f.cmd with cons := f.cmd.cons.advance f.cmd.size 1, issued := f.cmd.issued - 1, retries := 0 } } ∧
    entOpcode e = 0x41) ∧
  (∃ (s : State) (d d1 : Dev) (h e : Nat) (f : FnCtx), ∃ c, s.begun = d ∧ d.fn h = f ∧ f.enable = true ∧ f.fenced = none ∧ 0 <
    f.cmd.issued ∧ f.cmd.stale = false ∧ entLap e = f.cmd.cons.lap ∧ ctrlReason e = none ∧ d1 = d.setFn h
    { f with cmd := { f.cmd with cons := f.cmd.cons.advance f.cmd.size 1, issued := f.cmd.issued - 1, retries := 0 } } ∧
    entOpcode e = 0x41 ∧ d1.ep (ctrlEp e) = some c ∧ c.fn = h ∧ (d1.idle (ctrlEp e) = true ∨ c.fenced.isSome = true)) ∧
  (∃ (s : State) (d d1 : Dev) (h e : Nat) (f : FnCtx), s.begun = d ∧ d.fn h = f ∧ f.enable = true ∧ f.fenced = none ∧ 0 <
    f.cmd.issued ∧ f.cmd.stale = false ∧ entLap e = f.cmd.cons.lap ∧ ctrlReason e = none ∧ d1 = d.setFn h
    { f with cmd := { f.cmd with cons := f.cmd.cons.advance f.cmd.size 1, issued := f.cmd.issued - 1, retries := 0 } } ∧
    entOpcode e = 0x42) ∧
  (∃ (s : State) (d d1 : Dev) (h e : Nat) (f : FnCtx), ∃ c, s.begun = d ∧ d.fn h = f ∧ f.enable = true ∧ f.fenced = none ∧ 0 <
    f.cmd.issued ∧ f.cmd.stale = false ∧ entLap e = f.cmd.cons.lap ∧ ctrlReason e = none ∧ d1 = d.setFn h
    { f with cmd := { f.cmd with cons := f.cmd.cons.advance f.cmd.size 1, issued := f.cmd.issued - 1, retries := 0 } } ∧
    entOpcode e = 0x42 ∧ d1.ep (ctrlEp e) = some c ∧ c.fn = h ∧ (c.withRings e = c ∨ d1.idle (ctrlEp e) = true) ∧ (flag e 218 =
    false ∨ c.pin = true ∨ d1.pinnedCtx < d1.pinMax)) ∧
  (∃ (s : State) (d d1 : Dev) (h e : Nat) (f : FnCtx), s.begun = d ∧ d.fn h = f ∧ f.enable = true ∧ f.fenced = none ∧ 0 <
    f.cmd.issued ∧ f.cmd.stale = false ∧ entLap e = f.cmd.cons.lap ∧ ctrlReason e = none ∧ d1 = d.setFn h
    { f with cmd := { f.cmd with cons := f.cmd.cons.advance f.cmd.size 1, issued := f.cmd.issued - 1, retries := 0 } } ∧
    entOpcode e = 0x43) ∧
  (∃ (s : State) (d d1 : Dev) (h e : Nat) (f : FnCtx), ∃ c, s.begun = d ∧ d.fn h = f ∧ f.enable = true ∧ f.fenced = none ∧ 0 <
    f.cmd.issued ∧ f.cmd.stale = false ∧ entLap e = f.cmd.cons.lap ∧ ctrlReason e = none ∧ d1 = d.setFn h
    { f with cmd := { f.cmd with cons := f.cmd.cons.advance f.cmd.size 1, issued := f.cmd.issued - 1, retries := 0 } } ∧
    entOpcode e = 0x43 ∧ d1.ep (ctrlEp e) = some c ∧ c.fn = h) :=
  ⟨⟨up {}, _, 31, 0x1003F, _, _, _, _, rfl, rfl, by decide, rfl, by decide, rfl, rfl, by decide⟩,
   ⟨up {}, _, 31, 0x30000, _, _, _, _, rfl, rfl, by decide, rfl, by decide, rfl, rfl, by decide⟩,
   ⟨up {}, _, 31, 64, _, rfl, rfl, by decide, by decide, by decide⟩,
   ⟨up fnOn, _, _, 31, 0x40 + 2 ^ 63 + 6 * 2 ^ 192 + 6 * 2 ^ 200, _, rfl, rfl, by decide, by decide, by decide, by decide, by
     decide, by decide, rfl, by decide⟩,
   ⟨up (fnOn.wr rHqFnRange 0x100000 31), _, _, 31, 0xF0040 + 2 ^ 63 + 6 * 2 ^ 192 + 6 * 2 ^ 200, _, _, rfl, rfl, by decide, by
     decide, by decide, by decide, by decide, by decide, rfl, by decide, by decide, by decide, by decide, rfl⟩,
   ⟨up fnOn, _, _, 31, 0x41 + 2 ^ 63, _, rfl, rfl, by decide, by decide, by decide, by decide, by decide, by decide, rfl, by
     decide⟩,
   ⟨up (fnOwns { epc with fn := 31, enable := false }), _, _, 31, 0x50041 + 2 ^ 63, _, _, rfl, rfl, by decide, by decide, by
     decide, by decide, by decide, by decide, rfl, by decide, rfl, by decide, by decide⟩,
   ⟨up fnOn, _, _, 31, 0x42 + 2 ^ 63 + 16 * 2 ^ 192 + 16 * 2 ^ 200, _, rfl, rfl, by decide, by decide, by decide, by decide, by
     decide, by decide, rfl, by decide⟩,
   ⟨up (fnOwns { epc with fn := 31 }), _, _, 31, 0x50042 + 2 ^ 63 + 6 * 2 ^ 192 + 6 * 2 ^ 200, _, _, rfl, rfl, by decide, by
     decide, by decide, by decide, by decide, by decide, rfl, by decide, rfl, by decide, by decide, by decide⟩,
   ⟨up fnOn, _, _, 31, 0x43 + 2 ^ 63, _, rfl, rfl, by decide, by decide, by decide, by decide, by decide, by decide, rfl, by
     decide⟩,
   ⟨up (fnOwns { epc with fn := 31 }), _, _, 31, 0x50043 + 2 ^ 63, _, _, rfl, rfl, by decide, by decide, by decide, by decide, by
     decide, by decide, rfl, by decide, rfl, by decide⟩⟩

theorem witness_ControlActionsAndTimers :
  (∃ (d : Dev) (h e : Nat) (c : EpCtx), d.inRange h (ctrlEp e) = true ∧ d.ep (ctrlEp e) = none ∧ flag e 218 = false ∧ c =
    { fn := h, asTag := field e 32 16, tcMask := field e 208 8, irqEn := flag e 216, ctrPage := flag e 217, pin := false, enable := flag e 219, idleSeen := !(flag e 219), msix := field e 224 11, cmd := { base := entU64 e 8, log2 := field e 192 5 }, evt := { base := entU64 e 16, log2 := field e 200 5 } }) ∧
  (∃ (d : Dev) (h e : Nat), d.inRange h (ctrlEp e) = false) ∧
  (∃ (d : Dev) (h e : Nat) (c : EpCtx), d.inRange h (ctrlEp e) = true ∧ d.ep (ctrlEp e) = some c) ∧
  (∃ (d : Dev) (h e : Nat) (c : EpCtx), d.ep (ctrlEp e) = some c ∧ c.fn = h ∧ d.idle (ctrlEp e) = true) ∧
  (∃ (d : Dev) (h e : Nat) (c : EpCtx), d.ep (ctrlEp e) = some c ∧ c.fn = h ∧ d.idle (ctrlEp e) = false ∧ c.fenced = none) ∧
  (∃ (d : Dev) (h e : Nat) (c : EpCtx), d.ep (ctrlEp e) = some c ∧ c.fn = h ∧ c.withRings e = c ∧ flag e 218 = c.pin) ∧
  (∃ (d : Dev) (h e : Nat) (c : EpCtx), d.ep (ctrlEp e) = some c ∧ c.fn = h ∧ c.withRings e ≠ c ∧ d.idle (ctrlEp e) = false) ∧
  (∃ (d : Dev) (h e : Nat) (c : EpCtx), d.ep (ctrlEp e) = some c ∧ c.fn = h ∧ d.boundAt h (entU64 e 32) = none) ∧
  (∃ (d : Dev) (h e : Nat), d.ep (ctrlEp e) = none) ∧
  (∃ (s : State) (d : Dev) (ep : Nat) (c : EpCtx), s.begun = d ∧ ep < 0x10000 ∧ d.ep ep = some c ∧ c.cmd.stale = true) ∧
  (∃ (s : State) (d d1 d2 : Dev) (ep t : Nat) (c : EpCtx) (err : Bool), s.begun = d ∧ d.ep ep = some c ∧ c.fetching = some t ∧ d1 =
    ((d.setEp ep (some { c with fetching := none, slow := false, heldDoors := [], onDie := true })).touch ep).evictCtx ep ∧ d2 =
    (forEach c.heldDoors (fun (x : Nat × Nat) (d : Dev) => if x.1 = 0 then d.cmdDoor ep x.2 else d.evtDoor ep x.2) (if err then
    d1.caskBus ep else d1)).issue ep) ∧
  (∃ (s : State) (d d1 : Dev) (ep t : Nat) (c : EpCtx), s.begun = d ∧ d.ep ep = some c ∧ c.fetching = some t ∧ c.slow = false ∧ d1
    = (d.setEp ep (some { c with slow := true })).raise evHqCaskSlow ep) ∧
  (∃ (s : State) (d : Dev) (q : Nat), s.begun = d ∧ (d.mq q).entries ≠ [] ∧ (d.mq q).stalled = false ∧ 64 ≤ d.since (d.mq q).since) ∧
  (∃ (s : State) (d e : Dev) (node id fst : Nat) (r : TgtRec), s.begun = d ∧ d.findRec node id fst = some r ∧ (r.state =
    .inProgress ∨ r.state = .signalWait) ∧ d.ageLimit ≤ d.ageOf r.fst ∧ (r.rsv = false → e = d) ∧ (r.rsv = true → (r.type =
    tySend ∨ r.type = tyRts) → e = (d.recvBad r stIncomplete 0).raise evHqIncompletePosted r.dstEp) ∧ (r.rsv = true → r.type =
    tyLsGrant → e = d.unreserve r.dstEp) ∧ (r.rsv = true → r.type ≠ tySend → r.type ≠ tyRts → r.type ≠ tyLsGrant → e =
    (d.postSignal r stIncomplete 0 0).raise evHqIncompletePosted r.dstEp)) :=
  ⟨⟨host epc, 0, 0xF0000, _, by decide, by decide, by decide, rfl⟩,
   ⟨host epc, 0, 0x100000, by decide⟩,
   ⟨host epc, 0, 0x50000, _, by decide, rfl⟩,
   ⟨host { epc with enable := false }, 0, 0x50000, _, rfl, by decide, by decide⟩,
   ⟨host epc, 0, 0x50000, _, rfl, by decide, by decide, by decide⟩,
   ⟨host epc, 0, 0x50000 + 6 * 2 ^ 192 + 6 * 2 ^ 200, _, rfl, by decide, by decide, by decide⟩,
   ⟨host epc, 0, 0x50000 + 7 * 2 ^ 192 + 6 * 2 ^ 200, _, rfl, by decide, by decide, by decide⟩,
   ⟨host epc, _, 0x50000, _, rfl, rfl, by decide⟩,
   ⟨host epc, 0, 0xFFFF0000, by decide⟩,
   ⟨up { hq := { eps := [(65535, some { epc with cmd := { stale := true } })] } }, _, 65535, _, rfl, by decide, rfl, by decide⟩,
   ⟨up (host { epc with onDie := false, fetching := some 0 }), _, _, _, 5, 0, _, false, rfl, rfl, by decide, rfl, rfl⟩,
   ⟨up (host { epc with onDie := false, fetching := some 0 }), _, _, 5, _, _, rfl, rfl, rfl, by decide, rfl⟩,
   ⟨up { st := { tick := 64 }, hq := { mq := [(0, { entries := [false] })] } }, _, 0, rfl, by decide, by decide, by decide⟩,
   ⟨up { st := { tick := 4098 }, tp := { recs := [tgt] } }, _, _, 1, 3, 0, _, rfl, rfl, by decide, by decide, fun _ => rfl, fun h
     => absurd h (by decide), fun h => absurd h (by decide), fun h => absurd h (by decide)⟩⟩

theorem witness_EntriesAreChecked :
  (∃ (s : State) (d : Dev) (ep e : Nat) (frags : List Nat) (c : EpCtx), s.begun = d ∧ d.ep ep = some c ∧ 0 < c.cmd.issued ∧
    c.cmd.stale = false ∧ c.cmd.stopped = none ∧ c.enable = true ∧ c.fenced = none ∧ d.fnFenced c.fn = false ∧ entLap e ≠
    c.cmd.cons.lap ∧ c.cmd.retries < d.fld rHqCtl 0 8) ∧
  (∃ (s : State) (d : Dev) (ep e : Nat) (frags : List Nat) (c : EpCtx), s.begun = d ∧ d.ep ep = some c ∧ 0 < c.cmd.issued ∧
    c.cmd.stale = false ∧ c.cmd.stopped = none ∧ c.enable = true ∧ c.fenced = none ∧ d.fnFenced c.fn = false ∧ entLap e ≠
    c.cmd.cons.lap ∧ d.fld rHqCtl 0 8 ≤ c.cmd.retries) ∧
  (∃ (s : State) (d : Dev) (ep e : Nat) (frags : List Nat) (c : EpCtx), ∃ r, s.begun = d ∧ d.ep ep = some c ∧ 0 < c.cmd.issued ∧
    c.cmd.stale = false ∧ c.cmd.stopped = none ∧ c.enable = true ∧ c.fenced = none ∧ d.fnFenced c.fn = false ∧ entLap e =
    c.cmd.cons.lap ∧ entryReason e c.tcMask (d.collTc ep e) = some r) ∧
  (∃ (s : State) (d : Dev) (ep : Nat) (c : EpCtx), s.begun = d ∧ d.ep ep = some c ∧ 0 < c.cmd.issued ∧ c.cmd.stale = false ∧
    c.cmd.stopped = none ∧ c.enable = true ∧ c.fenced = none ∧ d.fnFenced c.fn = false ∧ ∀ op ∈ [0x00, 0x01, 0x02, 0x03, 0x04,
    0x05, 0x08, 0x09, 0x0A, 0x0B, 0x10, 0x11, 0x12, 0x13, 0x18, 0x19, 0x1A, 0x1B], entOpcode (entry op) = op ∧ entLap (entry op)
    = c.cmd.cons.lap ∧ entryReason (entry op) c.tcMask (d.collTc ep (entry op)) = none) :=
  ⟨⟨up (host { epc with cmd := { issued := 1, retries := 3 } }), _, 5, 0, [], _, rfl, rfl, by decide, by decide, by decide, by
     decide, by decide, by decide, by decide, by decide⟩,
   ⟨up (host { epc with cmd := { issued := 1, retries := 4 } }), _, 5, 0, [], _, rfl, rfl, by decide, by decide, by decide, by
     decide, by decide, by decide, by decide, by decide⟩,
   ⟨up (host { epc with cmd := { issued := 1 } }), _, 5, 6 + 2 ^ 63, [], _, _, rfl, rfl, by decide, by decide, by decide, by
     decide, by decide, by decide, by decide, rfl⟩,
   ⟨up (host { epc with cmd := { issued := 1 } }), _, 5, _, rfl, rfl, by decide, by decide, by decide, by decide, by decide, by
     decide, by decide⟩⟩

theorem witness_CommandsStart :
  (∃ (d : Dev) (c c' : Cmd), c.made = 0 ∧ c.outcomes = [] ∧ d.tp.msgs.all (fun m => !(m.ofCmd c)) = true ∧ entOpcode c.entry = 0x00) ∧
  (∃ (d : Dev) (c c' : Cmd), c.made = 0 ∧ c.outcomes = [] ∧ d.tp.msgs.all (fun m => !(m.ofCmd c)) = true ∧ (entOpcode c.entry =
    0x01 ∨ entOpcode c.entry = 0x02 ∨ entOpcode c.entry = 0x05) ∧ c' =
    { c with phase := .running, total := splitCount (entLen c.entry) }) ∧
  (∃ (d : Dev) (c c' : Cmd), c.made = 0 ∧ c.outcomes = [] ∧ d.tp.msgs.all (fun m => !(m.ofCmd c)) = true ∧ (entOpcode c.entry =
    0x04 ∨ (entOpcode c.entry = 0x03 ∧ entLen c.entry ≤ 16384)) ∧ c' = { c with phase := .running, total := 1 }) ∧
  (∃ (d : Dev) (c c' : Cmd), c.made = 0 ∧ c.outcomes = [] ∧ d.tp.msgs.all (fun m => !(m.ofCmd c)) = true ∧ entOpcode c.entry = 0x03
    ∧ 16384 < entLen c.entry ∧ entIndirect c.entry = false ∧ (∃ l, d.evalAccess (rdvAccess c) {} = .ok l) ∧ d.rdvOpen < 65536) ∧
  (∃ (d : Dev) (c c' : Cmd), ∃ p, c.made = 0 ∧ c.outcomes = [] ∧ d.tp.msgs.all (fun m => !(m.ofCmd c)) = true ∧ entOpcode c.entry =
    0x11 ∧ firstThat d.mx.posted (fun p => p.ep == c.ep && p.recvId == field c.entry 352 32) = some p) ∧
  (∃ (d : Dev) (c c' : Cmd), c.made = 0 ∧ c.outcomes = [] ∧ d.tp.msgs.all (fun m => !(m.ofCmd c)) = true ∧ entOpcode c.entry = 0x12
    ∧ entLen c.entry = 0 ∧ entLocal c.entry % 64 = 0 ∧ (d.mxEp c.ep).alloc = []) ∧
  (∃ (d : Dev) (c c' : Cmd), c.made = 0 ∧ c.outcomes = [] ∧ d.tp.msgs.all (fun m => !(m.ofCmd c)) = true ∧ entOpcode c.entry = 0x13
    ∧ flag c.entry 240 = true) ∧
  (∃ (d : Dev) (c c' : Cmd), c.made = 0 ∧ c.outcomes = [] ∧ d.tp.msgs.all (fun m => !(m.ofCmd c)) = true ∧ 8 ≤ entOpcode c.entry ∧
    entOpcode c.entry ≤ 0xB ∧ d.lockLocal c.entry = true ∧ d.mirrorFull = false ∧ d.pairEn = false) ∧
  (∃ (d : Dev) (c c' : Cmd), c.made = 0 ∧ c.outcomes = [] ∧ d.tp.msgs.all (fun m => !(m.ofCmd c)) = true ∧ entOpcode c.entry = 0x1B
    ∧ d.collRefused c.ep c.entry = none ∧ d.timeOk = true) ∧
  (∃ (d : Dev) (c c' : Cmd), ∃ i, c.made = 0 ∧ c.outcomes = [] ∧ d.tp.msgs.all (fun m => !(m.ofCmd c)) = true ∧ 0x18 ≤ entOpcode
    c.entry ∧ entOpcode c.entry ≤ 0x1A ∧ d.timeOk = true ∧ d.collRefused c.ep c.entry = none ∧ (d.setCmd
    { c with phase := .running }).rlMemberIndex (collGroup c.entry) c.ep = some i) :=
  ⟨⟨{}, { cmd with entry := 0 }, cmd, by decide, by decide, by decide, by decide⟩,
   ⟨{}, cmd, _, by decide, by decide, by decide, by decide, rfl⟩,
   ⟨{}, { cmd with entry := 3 + 16384 * 2 ^ 192 }, _, by decide, by decide, by decide, by decide, rfl⟩,
   ⟨mapped (host epc), { cmd with entry := 3 + 16385 * 2 ^ 192 }, cmd, by decide, by decide, by decide, by decide, by decide, by
     decide, ⟨_, rfl⟩, by decide⟩,
   ⟨{ mx := { posted := [⟨5, 0, 0, 0, 0, 0, 0, 0, 0, 0, 0, 0, 9⟩] } }, { cmd with entry := 0x11 + 9 * 2 ^ 352 }, cmd, _, by decide,
     by decide, by decide, by decide, rfl⟩,
   ⟨{}, { cmd with entry := 0x12 }, cmd, by decide, by decide, by decide, by decide, by decide, by decide, by decide⟩,
   ⟨{}, { cmd with entry := 0x13 + 2 ^ 240 }, cmd, by decide, by decide, by decide, by decide, by decide⟩,
   ⟨{}, { cmd with entry := 0xB }, cmd, by decide, by decide, by decide, by decide, by decide, by decide, by decide, by decide⟩,
   ⟨{ team 0x10010000 (5 * 2 ^ 26) (2 ^ 63 + 2 ^ 18 + 5) [(0, { state := .ready })] with st := { lock := .locked } },
     { cmd with entry := 0x1B }, cmd, by decide, by decide, by decide, by decide, by decide, by decide⟩,
   ⟨{ team 0x10010000 (5 * 2 ^ 26) (2 ^ 63 + 2 ^ 18 + 5) [(0, { state := .ready })] with st := { lock := .locked } },
     { cmd with entry := 0x1A }, cmd, _, by decide, by decide, by decide, by decide, by decide, by decide, by decide, rfl⟩⟩

theorem witness_Invalidates :
  (∃ (s : State) (d x : Dev) (i v : Nat) (sc : InvScope) (st : InvState), s.begun = d ∧ v < 2 ^ 64 ∧ Tbl.get {} d.xl.inv i = st ∧
    st.busy = false ∧ x =
    { d with xl := { d.xl with leaves := d.xl.leaves.filter (fun l => !(sc.dropsLeaf l)), walkCache := d.xl.walkCache.filter (fun e => !(sc.dropsWalk e.tag)), keys := d.xl.keys.filter (fun k => !(sc.dropsKey k)), descs := d.xl.descs.filter (fun e => !(sc.dropsDesc e.tag)), walks := d.xl.walks.map (fun w => if sc.coversWalk w then { w with discard := true } else w), inv := Tbl.put {} i { st with busy := true, seq := field v 32 16, since := d.now, slow := false, walks := d.xl.walks.map (fun w => w.num) } d.xl.inv } }
    ∧ i < 32 ∧ d.fld rXlFnTags 0 16 i ≤ field v 16 16 ∧ field v 16 16 < d.fld rXlFnTags 0 16 i + d.fld rXlFnTags 16 17 i ∧ field
    v 0 2 = 0 ∧ sc = .range (field v 16 16) (d.rd rFnXlInvStart 0 i) (d.rd rFnXlInvLen 0 i)) ∧
  (∃ (s : State) (d x : Dev) (i v : Nat) (sc : InvScope) (st : InvState), s.begun = d ∧ v < 2 ^ 64 ∧ Tbl.get {} d.xl.inv i = st ∧
    st.busy = false ∧ x =
    { d with xl := { d.xl with leaves := d.xl.leaves.filter (fun l => !(sc.dropsLeaf l)), walkCache := d.xl.walkCache.filter (fun e => !(sc.dropsWalk e.tag)), keys := d.xl.keys.filter (fun k => !(sc.dropsKey k)), descs := d.xl.descs.filter (fun e => !(sc.dropsDesc e.tag)), walks := d.xl.walks.map (fun w => if sc.coversWalk w then { w with discard := true } else w), inv := Tbl.put {} i { st with busy := true, seq := field v 32 16, since := d.now, slow := false, walks := d.xl.walks.map (fun w => w.num) } d.xl.inv } }
    ∧ i < 32 ∧ d.fld rXlFnTags 0 16 i ≤ field v 16 16 ∧ field v 16 16 < d.fld rXlFnTags 0 16 i + d.fld rXlFnTags 16 17 i ∧ field
    v 0 2 = 1 ∧ sc = .tag (field v 16 16)) ∧
  (∃ (s : State) (d x : Dev) (i v : Nat) (sc : InvScope) (st : InvState), s.begun = d ∧ v < 2 ^ 64 ∧ Tbl.get {} d.xl.inv i = st ∧
    st.busy = false ∧ x =
    { d with xl := { d.xl with leaves := d.xl.leaves.filter (fun l => !(sc.dropsLeaf l)), walkCache := d.xl.walkCache.filter (fun e => !(sc.dropsWalk e.tag)), keys := d.xl.keys.filter (fun k => !(sc.dropsKey k)), descs := d.xl.descs.filter (fun e => !(sc.dropsDesc e.tag)), walks := d.xl.walks.map (fun w => if sc.coversWalk w then { w with discard := true } else w), inv := Tbl.put {} i { st with busy := true, seq := field v 32 16, since := d.now, slow := false, walks := d.xl.walks.map (fun w => w.num) } d.xl.inv } }
    ∧ i < 32 ∧ field v 0 2 = 2 ∧ sc = .tags (d.fld rXlFnTags 0 16 i) (d.fld rXlFnTags 16 17 i)) ∧
  (∃ (s : State) (d x : Dev) (i v : Nat) (sc : InvScope) (st : InvState), s.begun = d ∧ v < 2 ^ 64 ∧ Tbl.get {} d.xl.inv i = st ∧
    st.busy = false ∧ x =
    { d with xl := { d.xl with leaves := d.xl.leaves.filter (fun l => !(sc.dropsLeaf l)), walkCache := d.xl.walkCache.filter (fun e => !(sc.dropsWalk e.tag)), keys := d.xl.keys.filter (fun k => !(sc.dropsKey k)), descs := d.xl.descs.filter (fun e => !(sc.dropsDesc e.tag)), walks := d.xl.walks.map (fun w => if sc.coversWalk w then { w with discard := true } else w), inv := Tbl.put {} i { st with busy := true, seq := field v 32 16, since := d.now, slow := false, walks := d.xl.walks.map (fun w => w.num) } d.xl.inv } }
    ∧ i = 32 ∧ 9 ≤ d.bt.phase ∧ field v 0 2 = 3 ∧ sc = .all) ∧
  (∃ (s : State) (d : Dev) (h v : Nat), s.begun = d ∧ h < 32 ∧ v < 2 ^ 64 ∧ (Tbl.get {} d.xl.inv h).busy = true) ∧
  (∃ (d : Dev) (i seq : Nat) (sc : InvScope), ∃ w, w ∈ (d.startInv i seq sc).xl.walks ∧ sc.coversWalk w = true) ∧
  (∃ (s : State) (d : Dev) (i : Nat) (st : InvState), s.begun = d ∧ Tbl.get {} d.xl.inv i = st ∧ st.busy = true ∧ (∀ n ∈ st.walks,
    ∀ w ∈ d.xl.walks, w.num ≠ n)) ∧
  (∃ (s : State) (d : Dev) (i : Nat) (st : InvState), s.begun = d ∧ Tbl.get {} d.xl.inv i = st ∧ st.busy = true ∧ st.slow = false ∧
    64 ≤ d.since st.since) :=
  ⟨⟨up (on.wr rXlFnTags 0x20000 31), _, _, 31, 0x10000, _, _, rfl, by decide, rfl, by decide, rfl, by decide, by decide, by decide,
     by decide, rfl⟩,
   ⟨up (on.wr rXlFnTags 0x20000 31), _, _, 31, 0x10001, _, _, rfl, by decide, rfl, by decide, rfl, by decide, by decide, by decide,
     by decide, rfl⟩,
   ⟨up (on.wr rXlFnTags 0x10000 31), _, _, 31, 2, _, {}, rfl, by decide, rfl, rfl, rfl, by decide, by decide, rfl⟩,
   ⟨up on, _, _, 32, 3, _, _, rfl, by decide, rfl, by decide, rfl, by decide, by decide, by decide, rfl⟩,
   ⟨up { on with xl := { inv := [(31, { busy := true })] } }, _, 31, 0, rfl, by decide, by decide, by decide⟩,
   ⟨{ xl := { walks := [wk] } }, 0, 0, .all, { wk with discard := true }, by decide, by decide⟩,
   ⟨up { xl := { inv := [(0, { busy := true, walks := [4] })] } }, _, 0, _, rfl, rfl, by decide, by decide⟩,
   ⟨up { st := { tick := 64 }, xl := { inv := [(31, { busy := true, walks := [4] })] } }, _, 31, _, rfl, rfl, by decide, by decide,
     by decide⟩⟩

theorem witness_WalksAndPageRequests :
  (∃ (s : State) (d d1 : Dev) (n data mem : Nat) (w : Walk) (f : Found), s.begun = d ∧ firstThat d.xl.walks (fun x => x.num == n) =
    some w ∧ w.discard = false ∧ f = ⟨w.leaves, w.desc, w.keyRaws, w.tables⟩ ∧ d1 =
    { d with xl := { d.xl with walks := d.xl.walks.filter (fun x => x.num != n) } }) ∧
  (∃ (s : State) (d d1 : Dev) (n data mem : Nat) (w : Walk) (f : Found), s.begun = d ∧ firstThat d.xl.walks (fun x => x.num == n) =
    some w ∧ w.discard = false ∧ f = ⟨w.leaves, w.desc, w.keyRaws, w.tables⟩ ∧ d1 =
    { d with xl := { d.xl with walks := d.xl.walks.filter (fun x => x.num != n) } } ∧ w.stage = .desc) ∧
  (∃ (s : State) (d d1 : Dev) (n data mem : Nat) (w : Walk) (f : Found), ∃ i, s.begun = d ∧ firstThat d.xl.walks (fun x => x.num ==
    n) = some w ∧ w.discard = false ∧ f = ⟨w.leaves, w.desc, w.keyRaws, w.tables⟩ ∧ d1 =
    { d with xl := { d.xl with walks := d.xl.walks.filter (fun x => x.num != n) } } ∧ w.stage = .key i) ∧
  (∃ (s : State) (d d1 : Dev) (n data mem : Nat) (w : Walk) (f : Found), ∃ va at_ e l d2, s.begun = d ∧ firstThat d.xl.walks (fun x
    => x.num == n) = some w ∧ w.discard = false ∧ f = ⟨w.leaves, w.desc, w.keyRaws, w.tables⟩ ∧ d1 =
    { d with xl := { d.xl with walks := d.xl.walks.filter (fun x => x.num != n) } } ∧ w.stage = .group va at_ e ∧ groupOk data e
    va = true ∧ (d1.cacheFound w.tag f).fillLeaf w.tag va 16 (field e 12 40 * 4096 - 4096 * field va 12 4) e = (l, d2)) ∧
  (∃ (s : State) (d d1 : Dev) (n data mem : Nat) (w : Walk) (f : Found), ∃ va at_ e, s.begun = d ∧ firstThat d.xl.walks (fun x =>
    x.num == n) = some w ∧ w.discard = false ∧ f = ⟨w.leaves, w.desc, w.keyRaws, w.tables⟩ ∧ d1 =
    { d with xl := { d.xl with walks := d.xl.walks.filter (fun x => x.num != n) } } ∧ w.stage = .group va at_ e ∧ groupOk data e
    va = false) ∧
  (∃ (s : State) (d d1 : Dev) (n data mem : Nat) (w : Walk) (f : Found), ∃ level va addr, s.begun = d ∧ firstThat d.xl.walks (fun x
    => x.num == n) = some w ∧ w.discard = false ∧ f = ⟨w.leaves, w.desc, w.keyRaws, w.tables⟩ ∧ d1 =
    { d with xl := { d.xl with walks := d.xl.walks.filter (fun x => x.num != n) } } ∧ w.stage = .table level va addr ∧ data < 2
    ^ 64 ∧ flag data 0 = false) ∧
  (∃ (s : State) (d d1 : Dev) (n data mem : Nat) (w : Walk) (f : Found), ∃ level va addr, s.begun = d ∧ firstThat d.xl.walks (fun x
    => x.num == n) = some w ∧ w.discard = false ∧ f = ⟨w.leaves, w.desc, w.keyRaws, w.tables⟩ ∧ d1 =
    { d with xl := { d.xl with walks := d.xl.walks.filter (fun x => x.num != n) } } ∧ w.stage = .table level va addr ∧ data < 2
    ^ 64 ∧ flag data 0 = true ∧ entryBad data level va = true) ∧
  (∃ (s : State) (d d1 : Dev) (n data mem : Nat) (w : Walk) (f : Found), ∃ level va addr, ∃ l d2, s.begun = d ∧ firstThat
    d.xl.walks (fun x => x.num == n) = some w ∧ w.discard = false ∧ f = ⟨w.leaves, w.desc, w.keyRaws, w.tables⟩ ∧ d1 =
    { d with xl := { d.xl with walks := d.xl.walks.filter (fun x => x.num != n) } } ∧ w.stage = .table level va addr ∧ data < 2
    ^ 64 ∧ flag data 0 = true ∧ entryBad data level va = false ∧ flag data 1 = true ∧ flag data 6 = false ∧ (d1.cacheFound w.tag
    f).fillLeaf w.tag va (12 + 9 * level) (field data 12 40 * 4096) data = (l, d2)) ∧
  (∃ (s : State) (d d1 : Dev) (n data mem : Nat) (w : Walk) (f : Found), ∃ level va addr, s.begun = d ∧ firstThat d.xl.walks (fun x
    => x.num == n) = some w ∧ w.discard = false ∧ f = ⟨w.leaves, w.desc, w.keyRaws, w.tables⟩ ∧ d1 =
    { d with xl := { d.xl with walks := d.xl.walks.filter (fun x => x.num != n) } } ∧ w.stage = .table level va addr ∧ data < 2
    ^ 64 ∧ flag data 0 = true ∧ entryBad data level va = false ∧ flag data 1 = true ∧ flag data 6 = true) ∧
  (∃ (s : State) (d d1 : Dev) (n data mem : Nat) (w : Walk) (f : Found), ∃ level va addr, s.begun = d ∧ firstThat d.xl.walks (fun x
    => x.num == n) = some w ∧ w.discard = false ∧ f = ⟨w.leaves, w.desc, w.keyRaws, w.tables⟩ ∧ d1 =
    { d with xl := { d.xl with walks := d.xl.walks.filter (fun x => x.num != n) } } ∧ w.stage = .table level va addr ∧ data < 2
    ^ 64 ∧ flag data 0 = true ∧ entryBad data level va = false ∧ flag data 1 = false ∧ d1.refusedAddr w.fn (field data 12 40 *
    4096 + 8 * field va (12 + 9 * (level - 1)) 9) = false) ∧
  (∃ (s : State) (d : Dev) (n data mem : Nat) (err : Bool) (w : Walk), s.begun = d ∧ firstThat d.xl.walks (fun x => x.num == n) =
    some w ∧ w.discard = true) ∧
  (∃ (s : State) (d : Dev) (place : Nat) (l : Leaf), s.begun = d ∧ d.xl.leaves[place]? = some l ∧ l.pinned = false ∧ d.xlAgeLimit ≤
    d.waited l.fill ∧ d.sweepVisits l = true) ∧
  (∃ (s : State) (d : Dev) (h ep v : Nat) (r : PrqRecord), s.begun = d ∧ d.pageExists h ep = true ∧ v < 2 ^ 13 ∧ Tbl.get none
    d.xl.prq (field v 0 12) = some r ∧ r.ep = ep ∧ r.state = .pending ∧ d.requestWaits ep (field v 0 12) = false ∧ flag v 12 =
    false ∧ r.target = false) ∧
  (∃ (s : State) (d : Dev) (h ep v : Nat) (r : PrqRecord), s.begun = d ∧ d.pageExists h ep = true ∧ v < 2 ^ 13 ∧ Tbl.get none
    d.xl.prq (field v 0 12) = some r ∧ r.ep = ep ∧ r.state = .pending ∧ d.requestWaits ep (field v 0 12) = false ∧ flag v 12 =
    false ∧ r.target = true) ∧
  (∃ (s : State) (d : Dev) (h ep v : Nat) (r : PrqRecord), s.begun = d ∧ d.pageExists h ep = true ∧ v < 2 ^ 13 ∧ Tbl.get none
    d.xl.prq (field v 0 12) = some r ∧ r.ep = ep ∧ r.state = .pending ∧ d.requestWaits ep (field v 0 12) = false ∧ flag v 12 =
    true ∧ r.target = false) ∧
  (∃ (s : State) (d : Dev) (h ep v : Nat) (r : PrqRecord), s.begun = d ∧ d.pageExists h ep = true ∧ v < 2 ^ 13 ∧ Tbl.get none
    d.xl.prq (field v 0 12) = some r ∧ r.ep = ep ∧ r.state = .pending ∧ d.requestWaits ep (field v 0 12) = false ∧ flag v 12 =
    true ∧ r.target = true) ∧
  (∃ (s : State) (d : Dev) (h ep v : Nat), s.begun = d ∧ d.pageExists h ep = true ∧ v < 2 ^ 64 ∧ d.answered ep v = none) ∧
  (∃ (s : State) (d : Dev) (id : Nat) (r : PrqRecord), s.begun = d ∧ Tbl.get none d.xl.prq id = some r ∧ r.state ≠ .failed ∧
    d.prqLimit ≤ d.since r.since) ∧
  (∃ (s : State) (d : Dev) (id : Nat) (r : PrqRecord), s.begun = d ∧ Tbl.get none d.xl.prq id = some r ∧ r.state = .failed ∧
    d.ageLimit ≤ d.since r.failedAt) ∧
  (∃ (d : Dev) (id : Nat) (r : PrqRecord), Tbl.get none d.xl.prq id = some r) :=
  ⟨⟨up { xl := { walks := [wk] } }, _, _, 4, 0, 0, _, _, rfl, rfl, by decide, rfl, rfl⟩,
   ⟨up { xl := { walks := [{ wk with stage := .desc }] } }, _, _, 4, 0, 0, _, _, rfl, rfl, by decide, rfl, rfl, by decide⟩,
   ⟨up { xl := { walks := [{ wk with stage := .key 65535 }] } }, _, _, 4, 0, 0, _, _, _, rfl, rfl, by decide, rfl, rfl, rfl⟩,
   ⟨up { xl := { walks := [{ wk with stage := .group 0 0 0x43 }] } }, _, _, 4, group16, 0, _, _, _, _, _, _, _, rfl, rfl, by
     decide, rfl, rfl, rfl, by decide, rfl⟩,
   ⟨up { xl := { walks := [{ wk with stage := .group 0 0 0x43 }] } }, _, _, 4, 0, 0, _, _, _, _, _, rfl, rfl, by decide, rfl, rfl,
     rfl, by decide⟩,
   ⟨up { xl := { walks := [wk] } }, _, _, 4, 2 ^ 64 - 2, 0, _, _, _, _, _, rfl, rfl, by decide, rfl, rfl, rfl, by decide, by
     decide⟩,
   ⟨up { xl := { walks := [wk] } }, _, _, 4, 5, 0, _, _, _, _, _, rfl, rfl, by decide, rfl, rfl, rfl, by decide, by decide, by
     decide⟩,
   ⟨up { xl := { walks := [wk] } }, _, _, 4, 3, 0, _, _, _, _, _, _, _, rfl, rfl, by decide, rfl, rfl, rfl, by decide, by decide,
     by decide, by decide, by decide, rfl⟩,
   ⟨up { xl := { walks := [{ wk with stage := .table 0 0 0 }] } }, _, _, 4, 0x43, 0, _, _, _, _, _, rfl, rfl, by decide, rfl, rfl,
     rfl, by decide, by decide, by decide, by decide, by decide⟩,
   ⟨up { xl := { walks := [wk] } }, _, _, 4, 0x1001, 0, _, _, _, _, _, rfl, rfl, by decide, rfl, rfl, rfl, by decide, by decide, by
     decide, by decide, by decide⟩,
   ⟨up { xl := { walks := [{ wk with discard := true }] } }, _, 4, 0, 0, false, _, rfl, rfl, by decide⟩,
   ⟨up { st := { boundaries := 1048576 }, xl := { leaves := [⟨0, 0, 30, 0, 15, false, 0⟩], behind := 4096 } }, _, 0, _, rfl, rfl,
     by decide, by decide, decide_eq_true (Nat.lt_of_lt_of_le (Nat.mod_lt _ (by decide)) (by decide))⟩,
   ⟨up { host epc with xl := { prq := [(4095, some { ep := 5, page := 0, target := false, since := 0 })] } }, _, 0, 5, 0xFFF, _,
     rfl, by decide, by decide, rfl, by decide, by decide, by decide, by decide, by decide⟩,
   ⟨up { host epc with xl := { prq := [(4095, some { ep := 5, page := 0, target := true, since := 0 })] } }, _, 0, 5, 0xFFF, _,
     rfl, by decide, by decide, rfl, by decide, by decide, by decide, by decide, by decide⟩,
   ⟨up { host epc with xl := { prq := [(4095, some { ep := 5, page := 0, target := false, since := 0 })] } }, _, 0, 5, 0x1FFF, _,
     rfl, by decide, by decide, rfl, by decide, by decide, by decide, by decide, by decide⟩,
   ⟨up { host epc with xl := { prq := [(4095, some { ep := 5, page := 0, target := true, since := 0 })] } }, _, 0, 5, 0x1FFF, _,
     rfl, by decide, by decide, rfl, by decide, by decide, by decide, by decide, by decide⟩,
   ⟨up (host epc), _, 0, 5, 0x2000, rfl, by decide, by decide, by decide⟩,
   ⟨up { st := { tick := 0x200000 }, xl := { prq := [(4095, some { ep := 5, page := 0, target := false, since := 0 })] } }, _,
     4095, _, rfl, rfl, by decide, by decide⟩,
   ⟨up
     { st := { tick := 4098 }, xl := { prq := [(0, some { ep := 5, page := 0, target := true, since := 0, state := .failed })] } },
     _, 0, _, rfl, rfl, by decide, by decide⟩,
   ⟨(up { host epc with xl := { prq := [(4095, some { ep := 5, page := 0, target := false, since := 0 })] } }).begun, 4095, _, rfl⟩⟩

theorem witness_MessagesAreSent :
  (∃ (s : State) (d : Dev) (node : Nat) (m : Msg), ∃ m' : Msg, s.begun = d ∧ d.nextFor node = some m ∧ d.timeOk = true ∧ d.opsRoom
    m.num = true ∧ ((Tbl.get none d.tp.wins m.dstNode).isSome = true ∨ d.tp.wins.length < 16384) ∧ creditOk (d.winOf m.dstNode)
    m.wants = true ∧ d.msg m.num = some m ∧ m.id = none ∧ m.table = none ∧ m.accesses = [] ∧ m.sampled = none ∧ m.ordered =
    false ∧ m.nextPkt = 0 ∧ packetsOf m.len ≤ 1 ∧ m' =
    { m with credits := m.wants, id := some d.tp.nextId, fst := d.now, prev := none }) ∧
  (∃ (d d1 d2 d3 d4 : Dev) (num n read : Nat) (f : Found) (m m2 m3 : Msg) (pieces : List (Nat × Nat)) (x : Dev), d.msg num = some m
    ∧ (m.tableDue = false ∨ m.table = none) ∧ d.evalAll f m.accesses [] = .ok pieces ∧ (m.id = none ∨ d.since m.fst < d.lmax) ∧
    forEach m.accesses (fun a (d : Dev) => d.useLeaves a) d = d1 ∧ d1.paceHeld m = none ∧ d1.admitMsg m = (some (d2, m2), x) ∧
    (if m2.accesses.isEmpty then (0, d2) else d2.fresh) = (read, d3) ∧ (d3.sendPacket m2 (m2.payload (d3.fnOf m2.srcEp) read
    (zeroFill m2.here pieces))).paceStart m2 = d4 ∧ m3 = { m2 with lastSend := d4.now, rtoFrom := d4.now } ∧ (m2.isGet = true ∨
    packetsOf m2.len ≤ m2.nextPkt + 1)) ∧
  (∃ (d d1 d2 d3 d4 : Dev) (num n read : Nat) (f : Found) (m m2 m3 : Msg) (pieces : List (Nat × Nat)) (x : Dev), d.msg num = some m
    ∧ (m.tableDue = false ∨ m.table = none) ∧ d.evalAll f m.accesses [] = .ok pieces ∧ (m.id = none ∨ d.since m.fst < d.lmax) ∧
    forEach m.accesses (fun a (d : Dev) => d.useLeaves a) d = d1 ∧ d1.paceHeld m = none ∧ d1.admitMsg m = (some (d2, m2), x) ∧
    (if m2.accesses.isEmpty then (0, d2) else d2.fresh) = (read, d3) ∧ (d3.sendPacket m2 (m2.payload (d3.fnOf m2.srcEp) read
    (zeroFill m2.here pieces))).paceStart m2 = d4 ∧ m3 = { m2 with lastSend := d4.now, rtoFrom := d4.now } ∧ m2.isGet = false ∧
    m2.nextPkt + 1 < packetsOf m2.len) ∧
  (∃ (s : State) (d e : Dev) (id : Nat) (m : Msg), s.begun = d ∧ d.msgNamed id = some m ∧ m.timed = true ∧ d.rto ≤ d.since
    m.rtoFrom ∧ d.retryMax ≤ m.attempt ∧ ((d.raise evTpUnreachable m.srcEp).returnCredits m).dropWaiter m.num = e) ∧
  (∃ (s : State) (d e : Dev) (id : Nat) (m : Msg), ∃ x, s.begun = d ∧ d.msgNamed id = some m ∧ m.timed = true ∧ d.rto ≤ d.since
    m.rtoFrom ∧ m.attempt < d.retryMax ∧ d.msgAge m < d.lmax ∧ (m.sampled = none → x = d) ∧ (∀ ep index lap k, m.sampled = some
    (ep, index, lap, k) → x = d.sampleRetry ep index lap) ∧ x.raise evTpRetransmit m.srcEp = e) ∧
  (∃ (s : State) (d : Dev) (id u r : Nat) (m : Msg), s.begun = d ∧ d.msgNamed id = some m ∧ m.phase = .backoff u r ∧ since48 d.now
    u < 2 ^ 47 ∧ d.msgAge m < d.lmax) ∧
  (∃ (s : State) (d e : Dev) (id : Nat) (m : Msg), s.begun = d ∧ d.msgNamed id = some m ∧ m.id = some id ∧ d.ageLimit ≤ d.msgAge m
    ∧ ((d.raise evTpUnreachable m.srcEp).returnCredits m).dropWaiter m.num = e) :=
  ⟨⟨up { st := { lock := .locked }, tp := { msgs := [msg], wins := [(0, some ⟨1, 0⟩)] } }, _, 0, _, _, rfl, rfl, by decide, by
     decide, by decide, by decide, by decide, by decide, by decide, by decide, by decide, by decide, by decide, by decide, rfl⟩,
   ⟨{ tp := { msgs := [{ msg with id := some 9 }] } }, _, _, _, _, 7, 0, _, {}, _, _, _, _, _, rfl, by decide, rfl, by decide, rfl,
     by decide, rfl, rfl, rfl, rfl, by decide⟩,
   ⟨{ tp := { msgs := [{ msg with id := some 9, len := 4097 }] } }, _, _, _, _, 7, 0, _, {}, _, _, _, _, _, rfl, by decide, rfl, by
     decide, rfl, by decide, rfl, rfl, rfl, rfl, by decide, by decide⟩,
   ⟨up { st := { tick := 64 }, tp := { msgs := [{ msg with id := some 9, phase := .sent, attempt := 8 }] } }, _, _, 9, _, rfl, rfl,
     by decide, by decide, by decide, rfl⟩,
   ⟨up { st := { tick := 64 }, tp := { msgs := [{ msg with id := some 9, phase := .sent, attempt := 7 }] } }, _, _, 9, _, _, rfl,
     rfl, by decide, by decide, by decide, by decide, fun _ => rfl, by rintro _ _ _ _ ⟨⟩, rfl⟩,
   ⟨up { tp := { msgs := [{ msg with id := some 9, phase := .backoff 0 2 }] } }, _, 9, _, _, _, rfl, rfl, rfl, by decide, by
     decide⟩,
   ⟨up { st := { tick := 4098 }, tp := { msgs := [{ msg with id := some 9 }] } }, _, _, 9, _, rfl, rfl, by decide, by decide, rfl⟩⟩

theorem witness_ResponsesArrive :
  (∃ (s : State) (d d1 : Dev) (p : Packet), s.begun = d ∧ d1 = d.setAdv (hSrcNode p.hdr) (hWin p.hdr) ∧ hType p.hdr = tyAck ∧
    p.crcOk = false) ∧
  (∃ (s : State) (d d1 : Dev) (p : Packet), s.begun = d ∧ d1 = d.setAdv (hSrcNode p.hdr) (hWin p.hdr) ∧ hType p.hdr = tyAck ∧
    p.crcOk = true ∧ respOk p.hdr p.payload = false) ∧
  (∃ (s : State) (d d1 : Dev) (p : Packet), s.begun = d ∧ d1 = d.setAdv (hSrcNode p.hdr) (hWin p.hdr) ∧ p.crcOk = true ∧ respOk
    p.hdr p.payload = true ∧ d1.msgById (hMsgId p.hdr) (hFst p.hdr) = none ∧ hType p.hdr = tyAck) ∧
  (∃ (s : State) (d d1 : Dev) (p : Packet), s.begun = d ∧ d1 = d.setAdv (hSrcNode p.hdr) (hWin p.hdr) ∧ p.crcOk = true ∧ respOk
    p.hdr p.payload = true ∧ d1.msgById (hMsgId p.hdr) (hFst p.hdr) = none ∧ hType p.hdr = tyNack) ∧
  (∃ (s : State) (d d1 : Dev) (p : Packet), s.begun = d ∧ d1 = d.setAdv (hSrcNode p.hdr) (hWin p.hdr) ∧ p.crcOk = true ∧ respOk
    p.hdr p.payload = true ∧ d1.msgById (hMsgId p.hdr) (hFst p.hdr) = none ∧ hType p.hdr = tyGetResp) ∧
  (∃ (s : State) (d d1 : Dev) (p : Packet), ∃ m, s.begun = d ∧ d1 = d.setAdv (hSrcNode p.hdr) (hWin p.hdr) ∧ p.crcOk = true ∧
    respOk p.hdr p.payload = true ∧ d1.msgById (hMsgId p.hdr) (hFst p.hdr) = some m ∧ hType p.hdr = tyAck ∧ hSub p.hdr ≠
    stRemoteAccess ∧ hSub p.hdr ≠ stRemoteDisabled ∧ m.isGet = false) ∧
  (∃ (s : State) (d d1 : Dev) (p : Packet), ∃ m, s.begun = d ∧ d1 = d.setAdv (hSrcNode p.hdr) (hWin p.hdr) ∧ p.crcOk = true ∧
    respOk p.hdr p.payload = true ∧ d1.msgById (hMsgId p.hdr) (hFst p.hdr) = some m ∧ hType p.hdr = tyAck ∧ (hSub p.hdr =
    stRemoteAccess ∨ hSub p.hdr = stRemoteDisabled)) ∧
  (∃ (s : State) (d d1 : Dev) (p : Packet), ∃ m, s.begun = d ∧ d1 = d.setAdv (hSrcNode p.hdr) (hWin p.hdr) ∧ p.crcOk = true ∧
    respOk p.hdr p.payload = true ∧ d1.msgById (hMsgId p.hdr) (hFst p.hdr) = some m ∧ hType p.hdr = tyNack) ∧
  (∃ (s : State) (d d1 : Dev) (p : Packet), ∃ m, ∃ m', s.begun = d ∧ d1 = d.setAdv (hSrcNode p.hdr) (hWin p.hdr) ∧ p.crcOk = true ∧
    respOk p.hdr p.payload = true ∧ d1.msgById (hMsgId p.hdr) (hFst p.hdr) = some m ∧ m' =
    { m with bitmap := m.bitmap ||| 2 ^ (hOffset p.hdr / 4096), baton := m.baton + hPayLen p.hdr, rtoFrom := d.now, lastNack := none }
    ∧ hType p.hdr = tyGetResp ∧ flag m.bitmap (hOffset p.hdr / 4096) = false ∧ hMsgLen p.hdr = m.len ∧ m.type = tyWnFill ∧
    m'.baton ≠ m.len) ∧
  (∃ (s : State) (d d1 : Dev) (p : Packet), ∃ m, ∃ m', s.begun = d ∧ d1 = d.setAdv (hSrcNode p.hdr) (hWin p.hdr) ∧ p.crcOk = true ∧
    respOk p.hdr p.payload = true ∧ d1.msgById (hMsgId p.hdr) (hFst p.hdr) = some m ∧ m' =
    { m with bitmap := m.bitmap ||| 2 ^ (hOffset p.hdr / 4096), baton := m.baton + hPayLen p.hdr, rtoFrom := d.now, lastNack := none }
    ∧ hType p.hdr = tyGetResp ∧ flag m.bitmap (hOffset p.hdr / 4096) = false ∧ hMsgLen p.hdr = m.len ∧ m.type = tyWnFill ∧
    m'.baton = m.len) ∧
  (∃ (s : State) (d d1 : Dev) (p : Packet), ∃ m, ∃ m', ∃ pieces e, s.begun = d ∧ d1 = d.setAdv (hSrcNode p.hdr) (hWin p.hdr) ∧
    p.crcOk = true ∧ respOk p.hdr p.payload = true ∧ d1.msgById (hMsgId p.hdr) (hFst p.hdr) = some m ∧ m' =
    { m with bitmap := m.bitmap ||| 2 ^ (hOffset p.hdr / 4096), baton := m.baton + hPayLen p.hdr, rtoFrom := d.now, lastNack := none }
    ∧ hType p.hdr = tyGetResp ∧ flag m.bitmap (hOffset p.hdr / 4096) = false ∧ hMsgLen p.hdr = m.len ∧ m.type = tyGetReq ∧
    p.payload ≠ [] ∧ d1.evalAll {} (m.landing (hOffset p.hdr) (hPayLen p.hdr)) [] = .ok pieces ∧ (forEach (m.landing (hOffset
    p.hdr) (hPayLen p.hdr)) (fun a (d : Dev) => d.useLeaves a) d1).writeFrom p (d.fnOf m.srcEp) pieces p.payload = e ∧ e.now =
    d.now ∧ m'.baton ≠ m.len) ∧
  (∃ (s : State) (d d1 : Dev) (p : Packet), ∃ m, ∃ m', ∃ pieces e, s.begun = d ∧ d1 = d.setAdv (hSrcNode p.hdr) (hWin p.hdr) ∧
    p.crcOk = true ∧ respOk p.hdr p.payload = true ∧ d1.msgById (hMsgId p.hdr) (hFst p.hdr) = some m ∧ m' =
    { m with bitmap := m.bitmap ||| 2 ^ (hOffset p.hdr / 4096), baton := m.baton + hPayLen p.hdr, rtoFrom := d.now, lastNack := none }
    ∧ hType p.hdr = tyGetResp ∧ flag m.bitmap (hOffset p.hdr / 4096) = false ∧ hMsgLen p.hdr = m.len ∧ m.type = tyGetReq ∧
    p.payload ≠ [] ∧ d1.evalAll {} (m.landing (hOffset p.hdr) (hPayLen p.hdr)) [] = .ok pieces ∧ (forEach (m.landing (hOffset
    p.hdr) (hPayLen p.hdr)) (fun a (d : Dev) => d.useLeaves a) d1).writeFrom p (d.fnOf m.srcEp) pieces p.payload = e ∧ e.now =
    d.now ∧ m'.baton = m.len) :=
  ⟨⟨{}, _, {}, { pkt 0x81 with crc := 2 ^ 32 }, rfl, by decide, by decide, by decide⟩,
   ⟨{}, _, {}, pkt 0x81 [0], rfl, by decide, by decide, pkt_crcOk _ _, by decide⟩,
   ⟨{}, _, {}, pkt 0x81, rfl, by decide, pkt_crcOk _ _, by decide, by decide, by decide⟩,
   ⟨{}, _, {}, pkt (0x83 + 2 ^ 152), rfl, by decide, pkt_crcOk _ _, by decide, by decide, by decide⟩,
   ⟨{}, _, {}, pkt 0x82, rfl, by decide, pkt_crcOk _ _, by decide, by decide, by decide⟩,
   ⟨up { tp := { msgs := [{ msg with id := some 9 }] } }, _, _, pkt (0x81 + 9 * 2 ^ 96), _, rfl, rfl, pkt_crcOk _ _, by decide,
     rfl, by decide, by decide, by decide, by decide⟩,
   ⟨up { tp := { msgs := [{ msg with id := some 9 }] } }, _, _, pkt (0x81 + 9 * 2 ^ 96 + 3 * 2 ^ 152), _, rfl, rfl, pkt_crcOk _ _,
     by decide, rfl, by decide, by decide⟩,
   ⟨up { tp := { msgs := [{ msg with id := some 9 }] } }, _, _, pkt (0x83 + 9 * 2 ^ 96 + 5 * 2 ^ 152), _, rfl, rfl, pkt_crcOk _ _,
     by decide, rfl, by decide⟩,
   ⟨up { tp := { msgs := [{ msg with id := some 9, type := 0xC, len := 8192 }] } }, _, _, pkt (0x82 + 8192 * 2 ^ 192 + 9 * 2 ^ 96),
     _, _, rfl, rfl, pkt_crcOk _ _, by decide, rfl, rfl, by decide, by decide, by decide, by decide, by decide⟩,
   ⟨up { tp := { msgs := [{ msg with id := some 9, type := 0xC, len := 64 }] } }, _, _, pkt (0x82 + 64 * 2 ^ 16 + 9 * 2 ^ 96 + 64 *
     2 ^ 192) (List.replicate 64 0), _, _, rfl, rfl, pkt_crcOk _ _, by decide, rfl, rfl, by decide, by decide, by decide, by
     decide, by decide⟩,
   ⟨up
     { mapped (host epc) with tp := { msgs := [{ msg with id := some 9, type := 2, srcEp := 5, len := 8192, pieces := [(some 0, 8192, 0)] }] } },
     _, _, pkt (0x82 + 8 * 2 ^ 16 + 9 * 2 ^ 96 + 8192 * 2 ^ 192) (List.replicate 8 0), _, _, _, _, rfl, rfl, pkt_crcOk _ _, by
     decide, rfl, rfl, by decide, by decide, by decide, by decide, by decide, rfl, rfl, by decide, by decide⟩,
   ⟨up
     { mapped (host epc) with tp := { msgs := [{ msg with id := some 9, type := 2, srcEp := 5, len := 8, pieces := [(some 0, 8, 0)] }] } },
     _, _, pkt (0x82 + 8 * 2 ^ 16 + 9 * 2 ^ 96 + 8 * 2 ^ 192) (List.replicate 8 0), _, _, _, _, rfl, rfl, pkt_crcOk _ _, by
     decide, rfl, rfl, by decide, by decide, by decide, by decide, by decide, rfl, rfl, by decide, by decide⟩⟩

theorem witness_RequestsArrive :
  (∃ (s : State) (d : Dev) (p : Packet), s.begun = d ∧ p.crcOk = false) ∧
  (∃ (s : State) (d : Dev) (p : Packet), s.begun = d ∧ p.crcOk = true ∧ 0x17 ≤ hType p.hdr ∧ hType p.hdr ≤ 0x1F) ∧
  (∃ (s : State) (d : Dev) (p : Packet), s.begun = d ∧ p.crcOk = true ∧ rtsBad p = true) ∧
  (∃ (s : State) (d : Dev) (p : Packet), s.begun = d ∧ p.crcOk = true ∧ rtsBad p = false ∧ (hType p.hdr < 0x17 ∨ 0x1F < hType
    p.hdr) ∧ requestOk p = false) ∧
  (∃ (s : State) (d : Dev) (p : Packet), s.begun = d ∧ p.crcOk = true ∧ requestOk p = true ∧ hType p.hdr = tyPut ∧
    d.tp.service.isSome = true ∧ d.ageLimit < d.ageOf (hFst p.hdr)) ∧
  (∃ (s : State) (d : Dev) (p : Packet) (r : TgtRec) (status kind : Nat), s.begun = d ∧ p.crcOk = true ∧ requestOk p = true ∧ hType
    p.hdr = tyPut ∧ d.tp.service.isSome = true ∧ d.ageOf (hFst p.hdr) ≤ d.ageLimit ∧ d.recFor p.hdr = some r ∧ r.state =
    .completed status kind) ∧
  (∃ (s : State) (d d1 : Dev) (p : Packet) (c : EpCtx) (r r' : TgtRec) (a : Access) (pieces : List (Nat × Nat)), ∃ e : Dev, s.begun
    = d ∧ p.crcOk = true ∧ requestOk p = true ∧ (hType p.hdr = tyPut ∨ hType p.hdr = tyWnWrite) ∧ d.tp.service.isSome = true ∧
    d.ageOf (hFst p.hdr) ≤ d.ageLimit ∧ d.recFor p.hdr = none ∧ hOffset p.hdr = 0 ∧ hPayLen p.hdr = hMsgLen p.hdr ∧ 0 <
    p.payload.length ∧ d.ep (hDstEp p.hdr) = some c ∧ c.onDie = true ∧ d1 = d.touch (hDstEp p.hdr) ∧ d1.epServes p.hdr = true ∧
    d1.early p.hdr = false ∧ d1.prevOk p.hdr = true ∧ d1.recFree = true ∧ r = d1.newRec p.hdr p.tc ∧ a = ⟨hDstEp p.hdr, hAddr
    p.hdr + 0, p.payload.length, .write, true, some (hKey p.hdr), false⟩ ∧ (d1.putRec r).evalTarget a {} = .ok pieces ∧ r' =
    { r with bitmap := 1, baton := hMsgLen p.hdr, firstDone := true } ∧ e = ((((d1.putRec r).useLeaves a).writeFrom p
    ((d1.putRec r).fnOf r.dstEp) pieces p.payload).putRec r').endRec r' p stOk 0 ∧ hType p.hdr = tyPut) ∧
  (∃ (s : State) (d d1 : Dev) (p : Packet) (c : EpCtx) (r r' : TgtRec) (a : Access) (pieces : List (Nat × Nat)), ∃ e : Dev, s.begun
    = d ∧ p.crcOk = true ∧ requestOk p = true ∧ (hType p.hdr = tyPut ∨ hType p.hdr = tyWnWrite) ∧ d.tp.service.isSome = true ∧
    d.ageOf (hFst p.hdr) ≤ d.ageLimit ∧ d.recFor p.hdr = none ∧ hOffset p.hdr = 0 ∧ hPayLen p.hdr = hMsgLen p.hdr ∧ 0 <
    p.payload.length ∧ d.ep (hDstEp p.hdr) = some c ∧ c.onDie = true ∧ d1 = d.touch (hDstEp p.hdr) ∧ d1.epServes p.hdr = true ∧
    d1.early p.hdr = false ∧ d1.prevOk p.hdr = true ∧ d1.recFree = true ∧ r = d1.newRec p.hdr p.tc ∧ a = ⟨hDstEp p.hdr, hAddr
    p.hdr + 0, p.payload.length, .write, true, some (hKey p.hdr), false⟩ ∧ (d1.putRec r).evalTarget a {} = .ok pieces ∧ r' =
    { r with bitmap := 1, baton := hMsgLen p.hdr, firstDone := true } ∧ e = ((((d1.putRec r).useLeaves a).writeFrom p
    ((d1.putRec r).fnOf r.dstEp) pieces p.payload).putRec r').endRec r' p stOk 0 ∧ hType p.hdr = tyWnWrite) ∧
  (∃ (s : State) (d : Dev) (node id fst : Nat) (r : TgtRec), s.begun = d ∧ d.findRec node id fst = some r ∧ d.recDue r = true ∧
    d.recFirst r = true ∧ d.quotaLeft actExpiry = true) :=
  ⟨⟨up {}, _, { pkt 1 with crc := 2 ^ 32 }, rfl, by decide⟩,
   ⟨up {}, _, pkt 0x1F, rfl, pkt_crcOk _ _, by decide, by decide⟩,
   ⟨up {}, _, pkt (req 7 17) (List.replicate 17 0), rfl, pkt_crcOk _ _, by decide⟩,
   ⟨{}, _, pkt 0x81 [0], rfl, pkt_crcOk _ _, by decide, by decide, by decide⟩,
   ⟨up { st := { tick := 4099 }, tp := { service := some 0 } }, _, pkt (req 1 0), rfl, pkt_crcOk _ _, by decide, by decide, by
     decide, by decide⟩,
   ⟨up { tp := { service := some 0, recs := [{ tgt with state := .completed 0 0 }] } }, _, pkt (req 1 0), _, _, _, rfl, pkt_crcOk _
     _, by decide, by decide, by decide, by decide, rfl, rfl⟩,
   ⟨up { mapped (host epc) with tp := { service := some 0 } }, _, _, pkt (req 1 8) (List.replicate 8 0), _, _, _, _, _, _, rfl,
     pkt_crcOk _ _, by decide, by decide, by decide, by decide, by decide, by decide, by decide, by decide, rfl, by decide, rfl,
     by decide, by decide, by decide, by decide, rfl, rfl, rfl, rfl, rfl, by decide⟩,
   ⟨up { mapped (host epc) with tp := { service := some 0 } }, _, _, pkt (req 0xD 64) (List.replicate 64 0), _, _, _, _, _, _, rfl,
     pkt_crcOk _ _, by decide, by decide, by decide, by decide, by decide, by decide, by decide, by decide, rfl, by decide, rfl,
     by decide, by decide, by decide, by decide, rfl, rfl, rfl, rfl, rfl, by decide⟩,
   ⟨up { st := { tick := 4104 }, tp := { recs := [{ tgt with state := .completed 0 0 }] } }, _, 1, 3, 0, _, rfl, rfl, by decide, by
     decide, by decide⟩⟩

theorem witness_MatchingEnds :
  (∃ (s : State) (d : Dev) (num : Nat) (u : UnexpHdr) (b : Binding) (src dst : Access) (from_ dest : List (Nat × Nat)), s.begun = d
    ∧ num ∈ d.mx.copies ∧ d.hdr num = some u ∧ u.bound = some b ∧ 0 < min u.len b.len ∧ src = d.copyRead u (min u.len b.len) ∧
    dst = ⟨u.ep, b.bufAddr, min u.len b.len, .write, false, some b.key, false⟩ ∧ d.evalAccess src {} = .ok from_ ∧ d.evalAccess
    dst {} = .ok dest ∧ d.busMet (.copy u.num) = false) ∧
  (∃ (s : State) (d : Dev) (num : Nat) (u : UnexpHdr) (b : Binding) (src dst : Access) (from_ dest : List (Nat × Nat)), s.begun = d
    ∧ num ∈ d.mx.copies ∧ d.hdr num = some u ∧ u.bound = some b ∧ 0 < min u.len b.len ∧ src = d.copyRead u (min u.len b.len) ∧
    dst = ⟨u.ep, b.bufAddr, min u.len b.len, .write, false, some b.key, false⟩ ∧ d.evalAccess src {} = .ok from_ ∧ d.evalAccess
    dst {} = .ok dest ∧ d.busMet (.copy u.num) = true) ∧
  (∃ (s : State) (d d1 : Dev) (p : Packet) (r r' : TgtRec), s.begun = d ∧ hType p.hdr = tyFin ∧ p.crcOk = true ∧ requestOk p = true
    ∧ rtsBad p = false ∧ d.tp.service.isSome = true ∧ d.ageOf (hFst p.hdr) ≤ d.ageLimit ∧ d.recFor p.hdr = none ∧ hOffset p.hdr
    = 0 ∧ hPayLen p.hdr = hMsgLen p.hdr ∧ ((d.ep (hDstEp p.hdr) = none ∧ d1 = d) ∨ (∃ c, d.ep (hDstEp p.hdr) = some c ∧ c.onDie
    = true ∧ d1 = d.touch (hDstEp p.hdr))) ∧ d1.early p.hdr = false ∧ d1.prevOk p.hdr = true ∧ d1.recFree = true ∧ r = d1.newRec
    p.hdr p.tc ∧ r' = { r with bitmap := 1, baton := hMsgLen p.hdr, firstDone := true }) ∧
  (∃ (d : Dev) (node ep w : Nat) (c : Cmd), d.openSend node ep (field w 0 32) (field w 32 16) = some c) ∧
  (∃ (d : Dev) (node ep w : Nat), d.openSend node ep (field w 0 32) (field w 32 16) = none) ∧
  (∃ (s : State) (d : Dev) (ep index i f acked : Nat) (lap : Bool) (c : Cmd), s.begun = d ∧ d.findCmd ep index lap = some c ∧
    c.phase = .rdvOpen i f acked ∧ d.fld rMxRdvLimit 0 24 ≠ 0 ∧ d.fld rMxRdvLimit 0 24 ≤ d.since acked) :=
  ⟨⟨up
     { mapped (host epc) with mx := { copies := [4], unexp := [{ num := 4, ep := 5, srcNode := 1, srcEp := 2, ctx := 0, tag := 0, tc := 0, rts := false, len := 8, msgId := 3, fst := 0, bound := some ⟨0, 0, 8, 1⟩ }], eps := [(5, { area := some (0, 6, 0) })] } },
     _, 4, _, _, _, _, _, _, rfl, by decide, rfl, rfl, by decide, rfl, rfl, rfl, rfl, by decide⟩,
   ⟨up
     { mapped (host epc) with mx := { copies := [4], unexp := [{ num := 4, ep := 5, srcNode := 1, srcEp := 2, ctx := 0, tag := 0, tc := 0, rts := false, len := 8, msgId := 3, fst := 0, bound := some ⟨0, 0, 8, 1⟩ }], eps := [(5, { area := some (0, 6, 0) })] }, xl := { (mapped on).xl with busOn := [.copy 4] } },
     _, 4, _, _, _, _, _, _, rfl, by decide, rfl, rfl, by decide, rfl, rfl, rfl, rfl, by decide⟩,
   ⟨up { tp := { service := some 0 } }, _, (up { tp := { service := some 0 } }).begun, pkt (req 7 16) (List.replicate 16 0), _, _,
     rfl, by decide, pkt_crcOk _ _, by decide, by decide, by decide, by decide, by decide, by decide, by decide, by decide, by
     decide, by decide, by decide, rfl, rfl⟩,
   ⟨{ tp := { cmds := [{ cmd with phase := .rdvOpen 3 0 0 }] } }, 0, 5, 3, _, rfl⟩,
   ⟨{}, 0, 5, 3, by decide⟩,
   ⟨up (({ st := { tick := 1 }, tp := { cmds := [{ cmd with phase := .rdvOpen 3 0 0 }] } } : Dev).wr rMxRdvLimit 1), _, 5, 0, _, _,
     _, true, _, rfl, rfl, rfl, by decide, by decide⟩⟩

theorem witness_RelayGroupCommands :
  (∃ (s : State) (d : Dev) (v g : Nat), s.begun = d ∧ 9 ≤ d.bt.phase ∧ v < 2 ^ 32 ∧ g = d.fld rRlGrpSel 0 12 ∧ field v 0 2 = 1 ∧
    d.rlEnableCode g = 0) ∧
  (∃ (s : State) (d : Dev) (v g : Nat), s.begun = d ∧ 9 ≤ d.bt.phase ∧ v < 2 ^ 32 ∧ g = d.fld rRlGrpSel 0 12 ∧ field v 0 2 = 1 ∧
    d.rlEnableCode g ≠ 0) ∧
  (∃ (s : State) (d : Dev) (v g : Nat), ∃ d', s.begun = d ∧ 9 ≤ d.bt.phase ∧ v < 2 ^ 32 ∧ g = d.fld rRlGrpSel 0 12 ∧ field v 0 2 =
    2 ∧ ((d.rlGroup g).state = .ready ∨ (d.rlGroup g).state = .aborted) ∧ d' =
    { d.setRlGroup g {} with rl := { (d.setRlGroup g {}).rl with msgs := d.rl.msgs.filter (fun m => m.group != g || m.type == tyRlAbort) } }) ∧
  (∃ (s : State) (d : Dev) (v g : Nat), s.begun = d ∧ 9 ≤ d.bt.phase ∧ v < 2 ^ 32 ∧ g = d.fld rRlGrpSel 0 12 ∧ field v 0 2 = 2 ∧
    ((d.rlGroup g).state = .off ∨ (d.rlGroup g).state = .running)) ∧
  (∃ (s : State) (d : Dev) (v g : Nat), s.begun = d ∧ 9 ≤ d.bt.phase ∧ v < 2 ^ 32 ∧ g = d.fld rRlGrpSel 0 12 ∧ field v 0 2 = 3 ∧
    (d.rlGroup g).active = true) ∧
  (∃ (s : State) (d : Dev) (v g : Nat), s.begun = d ∧ 9 ≤ d.bt.phase ∧ v < 2 ^ 32 ∧ g = d.fld rRlGrpSel 0 12 ∧ field v 0 2 = 3 ∧
    (d.rlGroup g).active = false) :=
  ⟨⟨up (team 0x10010000 (5 * 2 ^ 26) (2 ^ 63 + 2 ^ 18 + 5) []), _, 1, _, rfl, by decide, by decide, rfl, by decide, by decide⟩,
   ⟨up on, _, 1, _, rfl, by decide, by decide, rfl, by decide, by decide⟩,
   ⟨up (team 0x10010000 0 0 [(0, { state := .ready })]), _, 2, _, _, rfl, by decide, by decide, rfl, by decide, by decide, rfl⟩,
   ⟨up on, _, 2, _, rfl, by decide, by decide, rfl, by decide, by decide⟩,
   ⟨up (team 0x10010000 0 0 [(0, { state := .running })]), _, 3, _, rfl, by decide, by decide, rfl, by decide, by decide⟩,
   ⟨up on, _, 3, _, rfl, by decide, by decide, rfl, by decide, by decide⟩⟩

theorem witness_RelaySteps :
  (∃ (s : State) (d : Dev) (e : Nat × Nat) (x : RlStep), s.begun = d ∧ firstThat d.rl.due d.rlReady = some e ∧ (d.rlGroup e.1).step
    e.2 = some x ∧ d.quotaLeft actRelay = true) ∧
  (∃ (s : State) (d : Dev), s.begun = d ∧ (firstThat d.rl.due d.rlReady = none ∨ d.quotaLeft actRelay = false)) ∧
  (∃ (d : Dev) (g r : Nat) (o : Bool) (x : RlStep), d.rlRoot g = true ∧ finishAll x.dtype x.op (d.rlCombined g x) = (r, o)) ∧
  (∃ (d : Dev) (g : Nat) (x : RlStep), d.rlRoot g = false) ∧
  (∃ (d d1 d2 : Dev) (g r : Nat) (o : Bool) (x : RlStep) (remote : List Nat), remote = (d.rlChildren g).filter (fun i =>
    !(d.rlIsLocal g i)) ∧ d1 = d.setRlStep g { x with phase := .down, result := r, overflow := o, acks := remote } ∧ d2 =
    forEach remote (fun i d => d.rlNew
    { d.rlTo g i tyRlDown with step := x.num, childIndex := i, dtype := x.dtype, op := x.op, kind := x.kind + 4 * bit o, count := x.count, elem := hostBytes x.dtype x.op, data := r })
    d1) ∧
  (∃ (s : State) (d : Dev) (g peer t : Nat) (x : RlGroup), s.begun = d ∧ d.rlGroup g = x ∧ d.rlWaitsOn g peer = some t ∧
    d.rlProbeTicks ≤ d.since t ∧ (∀ u, Tbl.get none x.probed peer = some u → d.rlProbeTicks ≤ d.since u) ∧ x.active = true) ∧
  (∃ (s : State) (d : Dev) (g : Nat) (c : RlCause), s.begun = d ∧ (d.rlGroup g).cause = some c ∧ (d.rlGroup g).active = true ∧
    c.at_ ≠ d.now) ∧
  (∃ (d d1 d2 d3 d4 d5 d6 : Dev) (g : Nat) (c : RlCause) (x : RlGroup) (peers : List Nat), d.rlGroup g = x ∧ d1 = (d.latch
    rRlErrLatch (pack [(12, g), (4, c.reason), (18, c.origin)])).setRlGroup g
    { x with state := .aborted, reason := c.reason, origin := c.origin, abortStep := x.oldest, steps := [], waits := [], finished := [], cause := none, probed := [], gone := [] }
    ∧ d2 =
    { d1 with rl := { d1.rl with due := d1.rl.due.filter (fun s => s.1 != g), msgs := d1.rl.msgs.filter (fun m => m.group != g || m.type == tyRlAbort) } }
    ∧ peers = (if d2.rlRoot g then [] else [256]) ++ (d2.rlChildren g).filter (fun i => !(d2.rlIsLocal g i)) ∧ d3 = forEach
    (peers.filter (fun i => !(x.gone.contains i))) (fun i d => d.rlNew
    { d.rlTo g i tyRlAbort with reason := c.reason, origin := c.origin, failed := c.failed, step := x.base }) d2 ∧ d4 = forEach
    ((d3.rlChildren g).filter (fun i => d3.rlIsLocal g i)) (fun i d => d.postEvent (d.rlChildEp g i) (groupAbortWords g (d.rlGen
    g) x.base c) ((d.ep (d.rlChildEp g i)).elim false (fun e => e.irqEn)) false) d3 ∧ d5 = forEach (d4.rlOpenCmds g) (fun q d =>
    d.cmdDone q stGroupAborted 0 0 0) d4 ∧ d6 = (d5.raise evRlGroupAbort g).rlRetry) ∧
  (∃ (s : State) (d : Dev) (num t : Nat) (m : RlMsg), s.begun = d ∧ firstThat d.rl.msgs (fun m => m.num == num) = some m ∧ m.id =
    some t ∧ m.backoff = none ∧ d.rlRto ≤ d.since m.rtoFrom ∧ m.attempt < d.rlRetryMax ∧ d.since m.fst < d.lmax) ∧
  (∃ (s : State) (d : Dev) (num t : Nat) (m : RlMsg), s.begun = d ∧ firstThat d.rl.msgs (fun m => m.num == num) = some m ∧ m.id =
    some t ∧ (d.rlAgeLimit ≤ d.since m.fst ∨ (m.backoff = none ∧ d.rlRto ≤ d.since m.rtoFrom ∧ d.rlRetryMax ≤ m.attempt)) ∧
    m.type = tyRlAbort) ∧
  (∃ (s : State) (d : Dev) (num t : Nat) (m : RlMsg), s.begun = d ∧ firstThat d.rl.msgs (fun m => m.num == num) = some m ∧ m.id =
    some t ∧ (d.rlAgeLimit ≤ d.since m.fst ∨ (m.backoff = none ∧ d.rlRto ≤ d.since m.rtoFrom ∧ d.rlRetryMax ≤ m.attempt)) ∧
    m.type ≠ tyRlAbort) ∧
  (∃ (d : Dev) (m : RlMsg) (t : Nat), m.id = some t) :=
  ⟨⟨up
     { team 0x10010000 0 0 [(0, { state := .running, steps := [{ step2 with phase := .due }] })] with rl := { groups := [(0, { state := .running, steps := [{ step2 with phase := .due }] })], due := [(0, 0)] }, st := { tick := 1 } },
     _, _, _, rfl, rfl, rfl, by decide⟩,
   ⟨{}, _, rfl, by decide⟩,
   ⟨{ team 0x10010000 (5 * 2 ^ 26) (2 ^ 63 + 2 ^ 18 + 5) [(0, { state := .ready })] with st := { lock := .locked } }, 0, _, _,
     { step2 with kind := 0, count := 1 }, by decide, rfl⟩,
   ⟨{}, 0, step2, by decide⟩,
   ⟨{ on with sp := { slots := [(0, { use := .on })] } }, { on with sp := { slots := [(0, { use := .on })] } },
     { on with sp := { slots := [(0, { use := .on })] } }, 4, 4, true, { step2 with kind := 0, count := 1 }, _, rfl, by decide,
     by decide⟩,
   ⟨up { team 0x10000 0 0 [(0, { state := .ready, steps := [{ step2 with phase := .waitDown }] })] with st := { tick := 256 } }, _,
     0, 256, 0, _, rfl, rfl, by decide, by decide, fun u h => absurd h (by decide +revert), by decide⟩,
   ⟨up { team 0x10000 0 0 [(0, { state := .ready, cause := some ⟨2, 0, 0, false, none, 0⟩ })] with st := { tick := 1 } }, _, 0, _,
     rfl, rfl, by decide, by decide⟩,
   ⟨team 0x10010000 (5 * 2 ^ 26) (2 ^ 63 + 2 ^ 18 + 5) [(0, { state := .running })], _, _, _, _, _, _, 0, ⟨2, 0, 0, false, none,
     0⟩, _, _, rfl, rfl, rfl, rfl, rfl, rfl, rfl, rfl⟩,
   ⟨up { st := { tick := 16 }, rl := { msgs := [{ rmsg with id := some 9, attempt := 7 }] } }, _, 7, 9, _, rfl, rfl, by decide, by
     decide, by decide, by decide, by decide⟩,
   ⟨up { st := { tick := 4130 }, rl := { msgs := [{ rmsg with id := some 9, type := tyRlAbort }] } }, _, 7, 9, _, rfl, rfl, by
     decide, by decide, by decide⟩,
   ⟨up { st := { tick := 4130 }, rl := { msgs := [{ rmsg with id := some 9 }] } }, _, 7, 9, _, rfl, rfl, by decide, by decide, by
     decide⟩,
   ⟨{}, { rmsg with id := some 9 }, 9, by decide⟩⟩

theorem witness_RelayArrivals :
  (∃ (s : State) (d : Dev) (p : Packet) (g : Nat) (x : RlGroup), s.begun = d ∧ p.crcOk = true ∧ rlFormOk p = true ∧ d.ageOf (hFst
    p.hdr) ≤ d.ageLimit ∧ g = rGroup p.hdr ∧ d.rlGroup g = x ∧ hType p.hdr = tyRlUp ∧ rGen p.hdr ≠ d.rlGen g) ∧
  (∃ (s : State) (d : Dev) (p : Packet) (g : Nat) (x : RlGroup), s.begun = d ∧ p.crcOk = true ∧ rlFormOk p = true ∧ d.ageOf (hFst
    p.hdr) ≤ d.ageLimit ∧ g = rGroup p.hdr ∧ d.rlGroup g = x ∧ hType p.hdr = tyRlUp ∧ d.rlUnready p.hdr = false ∧ x.state =
    .aborted) ∧
  (∃ (s : State) (d : Dev) (p : Packet) (g : Nat) (x : RlGroup), s.begun = d ∧ p.crcOk = true ∧ rlFormOk p = true ∧ d.ageOf (hFst
    p.hdr) ≤ d.ageLimit ∧ g = rGroup p.hdr ∧ d.rlGroup g = x ∧ hType p.hdr = tyRlUp ∧ rGen p.hdr = d.rlGen g ∧ d.rlUnready p.hdr
    = true) ∧
  (∃ (s : State) (d : Dev) (p : Packet) (g : Nat) (x : RlGroup), s.begun = d ∧ p.crcOk = true ∧ rlFormOk p = true ∧ d.ageOf (hFst
    p.hdr) ≤ d.ageLimit ∧ g = rGroup p.hdr ∧ d.rlGroup g = x ∧ hType p.hdr = tyRlUp ∧ d.rlUnready p.hdr = false ∧ x.state ≠
    .aborted ∧ rChild p.hdr < d.rlCount g ∧ d.rlIsLocal g (rChild p.hdr) = false ∧ d.rlChildNode g (rChild p.hdr) = hSrcNode
    p.hdr ∧ x.isFinished (rStep p.hdr) = true) ∧
  (∃ (s : State) (d : Dev) (p : Packet) (g : Nat) (x : RlGroup), s.begun = d ∧ p.crcOk = true ∧ rlFormOk p = true ∧ d.ageOf (hFst
    p.hdr) ≤ d.ageLimit ∧ g = rGroup p.hdr ∧ d.rlGroup g = x ∧ hType p.hdr = tyRlUp ∧ d.rlUnready p.hdr = false ∧ x.state ≠
    .aborted ∧ rChild p.hdr < d.rlCount g ∧ d.rlIsLocal g (rChild p.hdr) = false ∧ d.rlChildNode g (rChild p.hdr) = hSrcNode
    p.hdr ∧ x.isFinished (rStep p.hdr) = false ∧ x.step (rStep p.hdr) = none ∧ d.rlRoom (x.needs (rStep p.hdr) (rDtype p.hdr)
    (rOp p.hdr) (rCount p.hdr) (rChild p.hdr) (hPayLen p.hdr)) = false) ∧
  (∃ (s : State) (d : Dev) (p : Packet) (g : Nat) (x : RlGroup), ∃ d' st q, s.begun = d ∧ p.crcOk = true ∧ rlFormOk p = true ∧
    d.ageOf (hFst p.hdr) ≤ d.ageLimit ∧ g = rGroup p.hdr ∧ d.rlGroup g = x ∧ hType p.hdr = tyRlUp ∧ d.rlUnready p.hdr = false ∧
    x.state ≠ .aborted ∧ rChild p.hdr < d.rlCount g ∧ d.rlIsLocal g (rChild p.hdr) = false ∧ d.rlChildNode g (rChild p.hdr) =
    hSrcNode p.hdr ∧ x.isFinished (rStep p.hdr) = false ∧ d.rlRoom (x.needs (rStep p.hdr) (rDtype p.hdr) (rOp p.hdr) (rCount
    p.hdr) (rChild p.hdr) (hPayLen p.hdr)) = true ∧ ((x.step (rStep p.hdr) = some st ∧ flag (st.part (rChild p.hdr)).bitmap
    (rlPacketNo p.hdr) = false ∧ d' = d) ∨ (x.step (rStep p.hdr) = none ∧ st =
    { num := rStep p.hdr, kind := rKind p.hdr, dtype := rDtype p.hdr, op := rOp p.hdr, count := rCount p.hdr, openedAt := d.now }
    ∧ d' = d.setRlGroup g { x with state := .running, steps := x.steps ++ [st] })) ∧ st.agrees (rKind p.hdr) (rDtype p.hdr) (rOp
    p.hdr) (rCount p.hdr) = true ∧ q =
    { st.part (rChild p.hdr) with bitmap := (st.part (rChild p.hdr)).bitmap ||| 2 ^ rlPacketNo p.hdr, baton := (st.part (rChild p.hdr)).baton + hPayLen p.hdr, data := (st.part (rChild p.hdr)).data + ofBytes p.payload * 2 ^ (8 * hOffset p.hdr), full := decide ((st.part (rChild p.hdr)).baton + hPayLen p.hdr = hMsgLen p.hdr) }) ∧
  (∃ (s : State) (d : Dev) (p : Packet) (g : Nat) (x : RlGroup), ∃ d' st, s.begun = d ∧ p.crcOk = true ∧ rlFormOk p = true ∧
    d.ageOf (hFst p.hdr) ≤ d.ageLimit ∧ g = rGroup p.hdr ∧ d.rlGroup g = x ∧ hType p.hdr = tyRlUp ∧ d.rlUnready p.hdr = false ∧
    x.state ≠ .aborted ∧ rChild p.hdr < d.rlCount g ∧ d.rlIsLocal g (rChild p.hdr) = false ∧ d.rlChildNode g (rChild p.hdr) =
    hSrcNode p.hdr ∧ x.isFinished (rStep p.hdr) = false ∧ d.rlRoom (x.needs (rStep p.hdr) (rDtype p.hdr) (rOp p.hdr) (rCount
    p.hdr) (rChild p.hdr) (hPayLen p.hdr)) = true ∧ ((x.step (rStep p.hdr) = some st ∧ flag (st.part (rChild p.hdr)).bitmap
    (rlPacketNo p.hdr) = false ∧ d' = d) ∨ (x.step (rStep p.hdr) = none ∧ st =
    { num := rStep p.hdr, kind := rKind p.hdr, dtype := rDtype p.hdr, op := rOp p.hdr, count := rCount p.hdr, openedAt := d.now }
    ∧ d' = d.setRlGroup g { x with state := .running, steps := x.steps ++ [st] })) ∧ st.agrees (rKind p.hdr) (rDtype p.hdr) (rOp
    p.hdr) (rCount p.hdr) = false) ∧
  (∃ (s : State) (d : Dev) (p : Packet) (g : Nat) (x : RlGroup), ∃ st st', s.begun = d ∧ p.crcOk = true ∧ rlFormOk p = true ∧
    d.ageOf (hFst p.hdr) ≤ d.ageLimit ∧ g = rGroup p.hdr ∧ d.rlGroup g = x ∧ hType p.hdr = tyRlDown ∧ d.rlUnready p.hdr = false
    ∧ x.state ≠ .aborted ∧ d.rlRoot g = false ∧ d.rlParent g = hSrcNode p.hdr ∧ d.rlIndexUp g = rChild p.hdr ∧ x.isFinished
    (rStep p.hdr) = false ∧ x.step (rStep p.hdr) = some st ∧ flag st.downBitmap (rlPacketNo p.hdr) = false ∧ st.phase =
    .waitDown ∧ st.agrees (rKind p.hdr) (rDtype p.hdr) (rOp p.hdr) (rCount p.hdr) = true ∧ st' =
    { st with downBitmap := st.downBitmap ||| 2 ^ rlPacketNo p.hdr, downBaton := st.downBaton + hPayLen p.hdr, result := st.result + ofBytes p.payload * 2 ^ (8 * hOffset p.hdr) }) ∧
  (∃ (s : State) (d : Dev) (p : Packet) (g : Nat) (x : RlGroup), s.begun = d ∧ p.crcOk = true ∧ rlFormOk p = true ∧ d.ageOf (hFst
    p.hdr) ≤ d.ageLimit ∧ g = rGroup p.hdr ∧ d.rlGroup g = x ∧ hType p.hdr = tyRlDown ∧ d.rlUnready p.hdr = false ∧ x.state ≠
    .aborted ∧ d.rlRoot g = false ∧ d.rlParent g = hSrcNode p.hdr ∧ d.rlIndexUp g = rChild p.hdr ∧ x.isFinished (rStep p.hdr) =
    true) ∧
  (∃ (s : State) (d : Dev) (p : Packet) (g : Nat) (x : RlGroup), ∃ m, s.begun = d ∧ p.crcOk = true ∧ rlFormOk p = true ∧ d.ageOf
    (hFst p.hdr) ≤ d.ageLimit ∧ g = rGroup p.hdr ∧ d.rlGroup g = x ∧ d.rlNamed p.hdr = some m ∧ hType p.hdr = tyRlAck ∧ m.type ≠
    tyRlDown) ∧
  (∃ (s : State) (d : Dev) (p : Packet) (g : Nat) (x : RlGroup), ∃ m, ∃ st, s.begun = d ∧ p.crcOk = true ∧ rlFormOk p = true ∧
    d.ageOf (hFst p.hdr) ≤ d.ageLimit ∧ g = rGroup p.hdr ∧ d.rlGroup g = x ∧ d.rlNamed p.hdr = some m ∧ hType p.hdr = tyRlAck ∧
    m.type = tyRlDown ∧ (d.rlGroup m.group).step m.step = some st) ∧
  (∃ (s : State) (d : Dev) (p : Packet) (g : Nat) (x : RlGroup), ∃ m, s.begun = d ∧ p.crcOk = true ∧ rlFormOk p = true ∧ d.ageOf
    (hFst p.hdr) ≤ d.ageLimit ∧ g = rGroup p.hdr ∧ d.rlGroup g = x ∧ d.rlNamed p.hdr = some m ∧ hType p.hdr = tyRlAck ∧
    (d.rlGroup m.group).step m.step = none) ∧
  (∃ (s : State) (d : Dev) (p : Packet) (g : Nat) (x : RlGroup), ∃ m, s.begun = d ∧ p.crcOk = true ∧ rlFormOk p = true ∧ d.ageOf
    (hFst p.hdr) ≤ d.ageLimit ∧ g = rGroup p.hdr ∧ d.rlGroup g = x ∧ d.rlNamed p.hdr = some m ∧ hType p.hdr = tyRlNack) ∧
  (∃ (s : State) (d : Dev) (p : Packet) (g : Nat) (x : RlGroup), ∃ m, s.begun = d ∧ p.crcOk = true ∧ rlFormOk p = true ∧ d.ageOf
    (hFst p.hdr) ≤ d.ageLimit ∧ g = rGroup p.hdr ∧ d.rlGroup g = x ∧ d.rlNamed p.hdr = some m ∧ hType p.hdr = tyRlProbeAck ∧
    (rState p.hdr = 0 ∨ rGen p.hdr ≠ m.gen)) ∧
  (∃ (s : State) (d : Dev) (p : Packet) (g : Nat) (x : RlGroup), ∃ m, s.begun = d ∧ p.crcOk = true ∧ rlFormOk p = true ∧ d.ageOf
    (hFst p.hdr) ≤ d.ageLimit ∧ g = rGroup p.hdr ∧ d.rlGroup g = x ∧ d.rlNamed p.hdr = some m ∧ hType p.hdr = tyRlProbeAck ∧
    (rState p.hdr = 1 ∨ rState p.hdr = 2) ∧ rGen p.hdr = m.gen) ∧
  (∃ (s : State) (d : Dev) (p : Packet) (g : Nat) (x : RlGroup), ∃ m, s.begun = d ∧ p.crcOk = true ∧ rlFormOk p = true ∧ d.ageOf
    (hFst p.hdr) ≤ d.ageLimit ∧ g = rGroup p.hdr ∧ d.rlGroup g = x ∧ d.rlNamed p.hdr = some m ∧ hType p.hdr = tyRlProbeAck ∧
    rState p.hdr = 3 ∧ rGen p.hdr = m.gen) ∧
  (∃ (s : State) (d : Dev) (p : Packet) (g : Nat) (x : RlGroup), s.begun = d ∧ p.crcOk = true ∧ rlFormOk p = true ∧ d.ageOf (hFst
    p.hdr) ≤ d.ageLimit ∧ g = rGroup p.hdr ∧ d.rlGroup g = x ∧ hType p.hdr = tyRlProbe) ∧
  (∃ (s : State) (d : Dev) (p : Packet) (g : Nat) (x : RlGroup), s.begun = d ∧ p.crcOk = true ∧ rlFormOk p = true ∧ d.ageOf (hFst
    p.hdr) ≤ d.ageLimit ∧ g = rGroup p.hdr ∧ d.rlGroup g = x ∧ hType p.hdr = tyRlAbort ∧ rGen p.hdr ≠ d.rlGen g) ∧
  (∃ (s : State) (d : Dev) (p : Packet) (g : Nat) (x : RlGroup), s.begun = d ∧ p.crcOk = true ∧ rlFormOk p = true ∧ d.ageOf (hFst
    p.hdr) ≤ d.ageLimit ∧ g = rGroup p.hdr ∧ d.rlGroup g = x ∧ hType p.hdr = tyRlAbort ∧ rGen p.hdr = d.rlGen g) :=
  ⟨⟨up (team 0x10010000 0 (2 ^ 63 + 1) [(0, { state := .ready })]), _, pkt (rlh 0x10 + 2 * 2 ^ 296 + 2 ^ 240), _, _, rfl, pkt_crcOk
     _ _, by decide, by decide, rfl, rfl, by decide, by decide⟩,
   ⟨up (team 0x10010000 0 (2 ^ 63 + 1) [(0, { state := .aborted })]), _, pkt (rlh 0x10 + 2 * 2 ^ 296), _, _, rfl, pkt_crcOk _ _, by
     decide, by decide, rfl, rfl, by decide, by decide, by decide⟩,
   ⟨{}, _, pkt (rlh 0x10 + 2 * 2 ^ 296), _, _, rfl, pkt_crcOk _ _, by decide, by decide, rfl, rfl, by decide, by decide, by decide⟩,
   ⟨up (team 0x10010000 0 (2 ^ 63 + 1) [(0, { state := .ready })]), _, pkt (rlh 0x10 + 2 * 2 ^ 296 + 0xFFFFFFFF * 2 ^ 256), _, _,
     rfl, pkt_crcOk _ _, by decide, by decide, rfl, rfl, by decide, by decide, by decide, by decide, by decide, by decide, by
     decide⟩,
   ⟨up ((team 0x10010000 0 (2 ^ 63 + 1) [(0, { state := .ready })]).wr rTnRelayCells 0), _, pkt (rlh 0x10 + 8 * 2 ^ 16 + 8 * 2 ^
     192 + 2 ^ 304) (toBytes 8 1), _, _, rfl, pkt_crcOk _ _, by decide, by decide, rfl, rfl, by decide, by decide, by decide, by
     decide, by decide, by decide, by decide, by decide, by decide⟩,
   ⟨up (team 0x10010000 0 (2 ^ 63 + 1) [(0, { state := .running, steps := [step2] })]), _, pkt (rlh 0x10 + 2 * 2 ^ 296), _, _, _,
     step2, _, rfl, pkt_crcOk _ _, by decide, by decide, rfl, rfl, by decide, by decide, by decide, by decide, by decide, by
     decide, by decide, by decide, .inl ⟨rfl, by decide, rfl⟩, by decide, rfl⟩,
   ⟨up (team 0x10010000 0 (2 ^ 63 + 1) [(0, { state := .running, steps := [{ step2 with kind := 1 }] })]), _, pkt (rlh 0x10 + 2 * 2
     ^ 296), _, _, _, { step2 with kind := 1 }, rfl, pkt_crcOk _ _, by decide, by decide, rfl, rfl, by decide, by decide, by
     decide, by decide, by decide, by decide, by decide, by decide, .inl ⟨rfl, by decide, rfl⟩, by decide⟩,
   ⟨up (team 0x10000 1 (2 ^ 63 + 1) [(0, { state := .running, steps := [{ step2 with phase := .waitDown }] })]), _, pkt (rlh 0x11 +
     2 * 2 ^ 296), _, _, _, _, rfl, pkt_crcOk _ _, by decide, by decide, rfl, rfl, by decide, by decide, by decide, by decide,
     by decide, by decide, by decide, rfl, by decide, by decide, by decide, rfl⟩,
   ⟨up (team 0x10000 1 (2 ^ 63 + 1) [(0, { state := .running, finished := [0] })]), _, pkt (rlh 0x11 + 2 * 2 ^ 296), _, _, rfl,
     pkt_crcOk _ _, by decide, by decide, rfl, rfl, by decide, by decide, by decide, by decide, by decide, by decide, by decide⟩,
   ⟨up { rl := { msgs := [{ rmsg with id := some 9 }] } }, _, pkt (rlh 0x12), _, _, _, rfl, pkt_crcOk _ _, by decide, by decide,
     rfl, rfl, rfl, by decide, by decide⟩,
   ⟨up { rl := { groups := [(0, { state := .running, steps := [step2] })], msgs := [{ rmsg with id := some 9, type := 0x11 }] } },
     _, pkt (rlh 0x12), _, _, _, _, rfl, pkt_crcOk _ _, by decide, by decide, rfl, rfl, rfl, by decide, by decide, rfl⟩,
   ⟨up { st := { tick := 16 }, rl := { msgs := [{ rmsg with id := some 9, attempt := 7 }] } }, _, pkt (rlh 0x12), _, _, _, rfl,
     pkt_crcOk _ _, by decide, by decide, rfl, rfl, rfl, by decide, by decide⟩,
   ⟨up { rl := { msgs := [{ rmsg with id := some 9 }] } }, _, pkt (rlh 0x13 + 2 ^ 152), _, _, _, rfl, pkt_crcOk _ _, by decide, by
     decide, rfl, rfl, rfl, by decide⟩,
   ⟨up { rl := { msgs := [{ rmsg with id := some 9 }] } }, _, pkt (rlh 0x16), _, _, _, rfl, pkt_crcOk _ _, by decide, by decide,
     rfl, rfl, rfl, by decide, by decide⟩,
   ⟨up { rl := { msgs := [{ rmsg with id := some 9 }] } }, _, pkt (rlh 0x16 + 2 * 2 ^ 392), _, _, _, rfl, pkt_crcOk _ _, by decide,
     by decide, rfl, rfl, rfl, by decide, by decide, by decide⟩,
   ⟨up { rl := { msgs := [{ rmsg with id := some 9 }] } }, _, pkt (rlh 0x16 + 3 * 2 ^ 392), _, _, _, rfl, pkt_crcOk _ _, by decide,
     by decide, rfl, rfl, rfl, by decide, by decide, by decide⟩,
   ⟨{}, _, pkt (rlh 0x15), _, _, rfl, pkt_crcOk _ _, by decide, by decide, rfl, rfl, by decide⟩,
   ⟨up (team 0x10010000 0 0 []), _, pkt (rlh 0x14 + 2 ^ 240), _, _, rfl, pkt_crcOk _ _, by decide, by decide, rfl, rfl, by decide,
     by decide⟩,
   ⟨up {}, _, pkt (rlh 0x14), _, _, rfl, pkt_crcOk _ _, by decide, by decide, rfl, rfl, by decide, by decide⟩⟩

theorem witness_TableEpochs :
  (∃ (s : State) (d : Dev) (v : Nat), s.begun = d ∧ 9 ≤ d.bt.phase ∧ v < 2 ^ 64 ∧ d.epochCode (field v 0 48) (flag v 63) (flag v
    62) ≠ 0) ∧
  (∃ (s : State) (d : Dev) (v : Nat), ∃ d', s.begun = d ∧ 9 ≤ d.bt.phase ∧ v < 2 ^ 64 ∧ d.epochCode (field v 0 48) (flag v 63)
    (flag v 62) = 0 ∧ flag v 63 = true ∧ d' = ({ d with rt := { d.rt with armed := some (field v 0 48), refuse := 0 } }).raise
    evRtEpochArmed 0) ∧
  (∃ (s : State) (d : Dev) (v : Nat), ∃ d', s.begun = d ∧ 9 ≤ d.bt.phase ∧ v < 2 ^ 64 ∧ d.epochCode (field v 0 48) (flag v 63)
    (flag v 62) = 0 ∧ flag v 63 = false ∧ flag v 62 = true ∧ d' = { d with rt := { d.rt with armed := none, refuse := 0 } }) ∧
  (∃ (s : State) (d : Dev) (n : Nat), s.begun = d ∧ d.rt.armed = some n ∧ n ≤ d.now) ∧
  (∃ (s : State) (d : Dev) (n : Nat), s.begun = d ∧ d.rt.grace = some n ∧ (if d.rt.long then 16 else 4) ≤ d.since n) :=
  ⟨⟨up on, _, 2 ^ 64 - 1, rfl, by decide, by decide, by decide⟩,
   ⟨up on, _, 2 ^ 63 + 2, _, rfl, by decide, by decide, by decide, by decide, rfl⟩,
   ⟨up { on with rt := { armed := some 2 } }, _, 2 ^ 62, _, rfl, by decide, by decide, by decide, by decide, by decide, rfl⟩,
   ⟨up { rt := { armed := some 0 } }, _, _, rfl, rfl, by decide⟩,
   ⟨up { st := { tick := 4 }, rt := { grace := some 0 } }, _, _, rfl, rfl, by decide⟩⟩

theorem witness_TableAccess :
  (∃ (s : State) (d : Dev) (v : Nat), s.begun = d ∧ 9 ≤ d.bt.phase ∧ v < 2 ^ 64 ∧ (v % 2 ^ 39 = Tbl.get 0 d.rt.shadow d.tblNode % 2
    ^ 39 ∨ (d.rtIdle = true ∧ d.entryOk (v % 2 ^ 39) = true))) ∧
  (∃ (s : State) (d : Dev) (v : Nat), s.begun = d ∧ 9 ≤ d.bt.phase ∧ v < 2 ^ 64 ∧ (d.rtIdle = false ∨ d.entryOk (v % 2 ^ 39) =
    false) ∧ v % 2 ^ 39 ≠ Tbl.get 0 d.rt.shadow d.tblNode % 2 ^ 39) ∧
  (∃ (s : State) (d : Dev) (w : Nat), ∃ x, s.begun = d ∧ 9 ≤ d.bt.phase ∧ w = Tbl.get 0 (if flag (d.rd rRtTblIndex) 31 then
    d.rt.active else d.rt.shadow) d.tblNode ∧ readEntry w = .good x) ∧
  (∃ (s : State) (d : Dev) (w : Nat), ∃ x, s.begun = d ∧ 9 ≤ d.bt.phase ∧ w = Tbl.get 0 (if flag (d.rd rRtTblIndex) 31 then
    d.rt.active else d.rt.shadow) d.tblNode ∧ readEntry w = .corrected x) ∧
  (∃ (s : State) (d : Dev) (w : Nat), s.begun = d ∧ 9 ≤ d.bt.phase ∧ w = Tbl.get 0 (if flag (d.rd rRtTblIndex) 31 then d.rt.active
    else d.rt.shadow) d.tblNode ∧ readEntry w = .bad) ∧
  (∃ (s : State) (d : Dev) (v : Nat), s.begun = d ∧ 9 ≤ d.bt.phase ∧ v < 2 ^ 32 ∧ field v 0 2 = 1 ∧ d.rtIdle = true) ∧
  (∃ (s : State) (d : Dev) (v : Nat), s.begun = d ∧ 9 ≤ d.bt.phase ∧ v < 2 ^ 32 ∧ field v 0 2 = 2 ∧ d.rtIdle = true) ∧
  (∃ (s : State) (d : Dev) (v : Nat), s.begun = d ∧ 9 ≤ d.bt.phase ∧ v < 2 ^ 32 ∧ field v 0 2 = 1 ∧ d.rtIdle = false) ∧
  (∃ (s : State) (d : Dev) (v : Nat), s.begun = d ∧ 9 ≤ d.bt.phase ∧ v < 2 ^ 32 ∧ field v 0 2 = 2 ∧ d.rtIdle = false) ∧
  (∃ (s : State) (d : Dev), s.begun = d ∧ d.rt.cmd = some 1) ∧
  (∃ (s : State) (d : Dev), s.begun = d ∧ d.rt.cmd = some 2) :=
  ⟨⟨up on, _, 9, rfl, by decide, by decide, by decide⟩,
   ⟨up on, _, 2 ^ 64 - 1, rfl, by decide, by decide, by decide, by decide⟩,
   ⟨up on, _, _, _, rfl, by decide, rfl, rfl⟩,
   ⟨up { on with rt := { shadow := [(0, withEcc 1 - 1)] } }, _, _, 1, rfl, by decide, rfl, by decide⟩,
   ⟨up { on with rt := { shadow := [(0, withEcc 0 + 3)] } }, _, _, rfl, by decide, rfl, by decide⟩,
   ⟨up on, _, 1, rfl, by decide, by decide, by decide, by decide⟩,
   ⟨up on, _, 2, rfl, by decide, by decide, by decide, by decide⟩,
   ⟨up { on with rt := { grace := some 0 } }, _, 1, rfl, by decide, by decide, by decide, by decide⟩,
   ⟨up { on with rt := { armed := some 2 } }, _, 2, rfl, by decide, by decide, by decide, by decide⟩,
   ⟨up { rt := { cmd := some 1 } }, _, rfl, by decide⟩,
   ⟨up { rt := { cmd := some 2 } }, _, rfl, by decide⟩⟩

theorem witness_TableEntriesAreCorrected :
  ∃ (data i : Nat), data < 2 ^ 39 ∧ i < 47 ∧ i ≠ 39 :=
  ⟨2 ^ 39 - 1, 46, by decide, by decide, by decide⟩

theorem witness_ScoresAndWaits :
  (∃ (s : State) (d : Dev) (p w : Nat), s.begun = d ∧ (d.lkPort p).state = .up ∧ smOk w = true) ∧
  (∃ (s : State) (d : Dev) (p w : Nat), s.begun = d ∧ (d.lkPort p).state = .up ∧ smOk w = false) ∧
  (∃ (s : State) (d : Dev) (p : Nat), s.begun = d ∧ d.portUp p = true ∧ (d.rtPort p).stale = false ∧ 4 ≤ d.waited (d.rtPort
    p).since) ∧
  (∃ (s : State) (d : Dev) (p c t : Nat) (f : Frame), s.begun = d ∧ d.head p (2 * c + 1) = some f ∧ f.headAt = some t ∧ orOne
    (d.fld rRtCtl 16 8) ≤ d.since t) ∧
  (∃ (s : State) (d : Dev) (w : WaitPacket) (rest : List WaitPacket), s.begun = d ∧ d.waitsAt 305 = w :: rest ∧ orOne (d.fld rRtCtl
    24 8) ≤ d.since w.since) ∧
  (∃ (s : State) (d : Dev) (i : Nat) (w : WaitPacket) (rest : List WaitPacket), s.begun = d ∧ d.waitsAt i = w :: rest ∧ i ≠ 305 ∧
    w.raised = false ∧ 1 < d.since w.since) :=
  ⟨⟨up { lk := { ports := [(0, { state := .up })] } }, _, 0, 2, rfl, by decide, by decide⟩,
   ⟨up { lk := { ports := [(0, { state := .up })] } }, _, 0, 0, rfl, by decide, by decide⟩,
   ⟨up ({ st := { boundaries := 4 } : Dev }.setUp 255 true), _, 255, rfl, by decide, by decide, by decide⟩,
   ⟨up { st := { tick := 16 }, tn := { frames := [frm 3 15] } }, _, 3, 7, _, _, rfl, rfl, rfl, by decide⟩,
   ⟨up { st := { tick := 4 }, tn := { waits := [(305, [⟨outp, 0, false⟩])] } }, _, _, _, rfl, rfl, by decide⟩,
   ⟨up { st := { tick := 2 }, tn := { waits := [(304, [⟨outp, 0, false⟩])] } }, _, 304, _, _, rfl, rfl, by decide, by decide, by
     decide⟩⟩

theorem witness_CaptureSessions :
  (∃ (s : State) (d : Dev) (k q : Nat) (bus : Bool) (x : TnSession) (c : MirrorCopy) (rest : List MirrorCopy) (f : Frame), ∃ n slot
    tc, s.begun = d ∧ d.ses k = x ∧ x.pending = c :: rest ∧ d.frame c.frame = some f ∧ d.hostPort (d.fld rTnSesCtl 1 5 k) = some
    q ∧ f.whole = true ∧ d.sesBusy k = false ∧ n = d.capSlots k ∧ ringCount n x.cons x.prod ≠ n ∧ slot = d.capSlot k ∧ tc =
    d.fld rTnSesCtl 15 3 k) ∧
  (∃ (s : State) (d : Dev) (k q : Nat) (bus : Bool) (x : TnSession) (c : MirrorCopy) (rest : List MirrorCopy) (f : Frame), s.begun
    = d ∧ d.ses k = x ∧ x.pending = c :: rest ∧ d.frame c.frame = some f ∧ d.hostPort (d.fld rTnSesCtl 1 5 k) = some q ∧ f.whole
    = true ∧ d.sesBusy k = false ∧ ringCount (d.capSlots k) x.cons x.prod = d.capSlots k) ∧
  (∃ (d : Dev) (f : Frame) (k fn addr hdr len : Nat) (header : List Nat) (body : FrameBody) (bus : Bool), f.body = .capture k fn
    addr header hdr body len bus ∧ bus = false) ∧
  (∃ (d : Dev) (f : Frame) (k fn addr hdr len : Nat) (header : List Nat) (body : FrameBody) (bus : Bool), f.body = .capture k fn
    addr header hdr body len bus ∧ bus = true) ∧
  (∃ (d d1 d2 : Dev) (k : Nat), d1 = d.wrFld rTnSesCtl 0 1 0 k ∧ d2 =
    { d1 with tn := { d1.tn with frames := d1.tn.frames.filter (fun f => !(f.captureOf k)) } }) ∧
  (∃ (s : State) (d : Dev) (h k v a b : Nat) (c : Pos), s.begun = d ∧ k < 4 ∧ v < 2 ^ 64 ∧ c = ⟨field v 0 24, flag v 24⟩ ∧ ringDist
    (d.capSlots k) (d.ses k).cons c = some a ∧ ringDist (d.capSlots k) (d.ses k).cons (d.ses k).prod = some b ∧ v < 2 ^ 25 ∧
    d.fld rTnSesCtl 1 5 k = h ∧ a ≤ b) ∧
  (∃ (s : State) (d : Dev) (h k v a b : Nat) (c : Pos), s.begun = d ∧ k < 4 ∧ v < 2 ^ 64 ∧ c = ⟨field v 0 24, flag v 24⟩ ∧ ringDist
    (d.capSlots k) (d.ses k).cons c = some a ∧ ringDist (d.capSlots k) (d.ses k).cons (d.ses k).prod = some b ∧ (2 ^ 25 ≤ v ∨
    d.fld rTnSesCtl 1 5 k ≠ h ∨ b < a)) ∧
  (∃ (s : State) (d : Dev) (k v : Nat), s.begun = d ∧ 9 ≤ d.bt.phase ∧ k < 4 ∧ v < 2 ^ 64 ∧ d.sesEn k = true ∧ flag v 0 = false ∧
    d.heldField rTnSesCtl k 0 v = false ∧ (d.sameHeld rTnSesCtl k v = true ∨ d.sesOk v = true)) ∧
  (∃ (s : State) (d : Dev), s.begun = d ∧ 9 ≤ d.bt.phase) ∧
  (∃ (s : State) (d : Dev), s.begun = d ∧ 9 ≤ d.bt.phase) :=
  ⟨⟨up { cxl [] [] with tn := { frames := [frm 3 15], sessions := [(3, { pending := [⟨0, false, none, 0, 0⟩] })] } }, _, 3, 0,
     false, _, _, _, _, _, _, _, rfl, rfl, rfl, rfl, by decide, by decide, by decide, rfl, by decide, rfl, rfl⟩,
   ⟨up
     { cxl [] [] with tn := { frames := [frm 3 15], sessions := [(3, { pending := [⟨0, false, none, 0, 0⟩], prod := ⟨0, false⟩ })] } },
     _, 3, 0, false, _, _, _, _, rfl, rfl, rfl, rfl, by decide, by decide, by decide, by decide⟩,
   ⟨{}, { frm 256 0 with body := .capture 3 0 0 [] 0 (.transit []) 0 false }, 3, 0, 0, 0, 0, [], _, false, rfl, by decide⟩,
   ⟨{}, { frm 256 0 with body := .capture 3 0 0 [] 0 (.transit []) 0 true }, 3, 0, 0, 0, 0, [], _, true, rfl, by decide⟩,
   ⟨{ on with sp := { slots := [(0, { use := .on })] } }, { on with sp := { slots := [(0, { use := .on })] } },
     { on with sp := { slots := [(0, { use := .on })] } }, 0, by decide, by decide⟩,
   ⟨up on, _, 0, 3, 2 ^ 24, _, _, _, rfl, by decide, by decide, rfl, rfl, rfl, by decide, by decide, by decide⟩,
   ⟨up on, _, 0, 3, 2 ^ 25 + 2 ^ 24, _, _, _, rfl, by decide, by decide, rfl, rfl, rfl, by decide⟩,
   ⟨up ((cxl [] []).wr rTnSesCtl (1 + 6 * 2 ^ 6 + 16 * 2 ^ 10) 3), _, 4 - 1, 6 * 2 ^ 6 + 16 * 2 ^ 10, rfl, by decide, by decide, by
     decide, by decide, by decide, by decide, by decide⟩,
   ⟨up on, _, rfl, by decide⟩,
   ⟨up on, _, rfl, by decide⟩⟩

theorem witness_SchedulersAct :
  (∃ (s : State) (d : Dev) (o t : Nat) (cxl : Bool) (x : ScOut), ((s.begun.at_ t).noteHeld o).endBursts o cxl = d ∧ d.pick o cxl =
    (none, x)) ∧
  (∃ (s : State) (d d1 d2 : Dev) (o t c tier : Nat) (cxl : Bool) (x : ScOut) (f : Frame), ((s.begun.at_ t).noteHeld o).endBursts o
    cxl = d ∧ d.sending o = false ∧ d.pick o cxl = (some (c, tier), x) ∧ d.eligibleHead o c cxl = some f ∧ d1 = d.setSc o
    (d.afterServe o c tier f.bytes ((upFrom 0 8).filter (d.classOk o cxl)) x) ∧ d2 =
    (match d1.queueFlow o c with | some fl => d1.flowCharge fl f.bytes | none => d1)) ∧
  (∃ (s : State) (d : Dev) (o t : Nat) (cxl : Bool), ((s.begun.at_ t).noteHeld o).endBursts o cxl = d ∧ d.sending o = true) ∧
  (∃ (d d1 : Dev) (f : Frame), (∀ c, f.body ≠ .cxl c) ∧ (∀ a b c x e g h i, f.body ≠ .capture a b c x e g h i) ∧ d1 = (d.countSent
    f).sendFlits f) ∧
  (∃ (d : Dev) (f : Frame) (c : CxlFrame), f.body = .cxl c) ∧
  (∃ (s : State) (d : Dev) (v o : Nat) (x : ScOut), s.begun = d ∧ 9 ≤ d.bt.phase ∧ v < 2 ^ 64 ∧ flag v 63 = true ∧ o = d.fld
    rScPortSel 0 9 ∧ d.scOut o = x ∧ d.now + 2 ≤ field v 0 48 ∧ x.armed = none ∧ (d.gateEntries o (1 - x.bank)).any (fun e =>
    e.2 == 0) = false) ∧
  (∃ (s : State) (d : Dev) (v o code : Nat) (x : ScOut), s.begun = d ∧ 9 ≤ d.bt.phase ∧ v < 2 ^ 64 ∧ flag v 63 = true ∧ o = d.fld
    rScPortSel 0 9 ∧ d.scOut o = x ∧ ((code = 1 ∧ field v 0 48 < d.now + 2) ∨ (code = 2 ∧ d.now + 2 ≤ field v 0 48 ∧ x.armed ≠
    none) ∨ (code = 3 ∧ d.now + 2 ≤ field v 0 48 ∧ x.armed = none ∧ (d.gateEntries o (1 - x.bank)).any (fun e => e.2 == 0) =
    true))) ∧
  (∃ (s : State) (d : Dev) (o n : Nat), s.begun = d ∧ (d.scOut o).armed = some n ∧ n ≤ d.now) ∧
  (∃ (d : Dev) (o c : Nat) (x : ScOut), d.scOut o = x ∧ (d.queued o c = false ∨ flag (d.gatesOpen o) c = true)) ∧
  (∃ (d : Dev) (o c : Nat) (x : ScOut), d.scOut o = x ∧ d.queued o c = true ∧ flag (d.gatesOpen o) c = false ∧ Tbl.get none
    x.closedAt c = none) ∧
  (∃ (d : Dev) (o c : Nat) (x : ScOut), ∃ t, d.scOut o = x ∧ d.queued o c = true ∧ flag (d.gatesOpen o) c = false ∧ Tbl.get none
    x.closedAt c = some t) ∧
  (∃ (s : State) (d : Dev) (t : Nat), s.begun.at_ t = d) ∧
  (∃ (d d1 : Dev) (f : Nat), d1 = d.setFlow f { d.flow f with slot := none, parked := false } ∧ d1.flowOk f = false) ∧
  (∃ (d d1 : Dev) (f : Nat), ∃ d2, d1 = d.setFlow f { d.flow f with slot := none, parked := false } ∧ d1.flowOk f = true ∧ d2 =
    d1.raiseIf (decide ((d.flow f).due + 1 < (d.st.ns / 8 : Nat)) && !(d.flow f).parked) evScPaceLate 0) ∧
  (∃ (s : State) (d : Dev) (o c : Nat) (x : ScOut), s.begun = d ∧ d.scOut o = x ∧ d.ageLimitSc ≤ Tbl.get 0 x.age c ∧ x.burst.all
    (fun b => b.1 != c) = true) ∧
  (∃ (s : State) (d : Dev) (p c t : Nat) (f : Frame), s.begun = d ∧ d.head p (2 * c + 1) = some f ∧ f.headAt = some t ∧
    f.heldRaised = false ∧ orOne (d.fld rRtCtl 16 8) ≤ 2 * d.waited f.headLocal ∧ (d.gatePass p c f = false ∨ d.flowPass p c =
    false)) :=
  ⟨⟨up {}, _, 0, 0, false, _, rfl, rfl⟩,
   ⟨up { on with tn := { frames := [frm 256 0] }, cx := { ports := [(0, { link := .up })] } }, _, _, _, 256, 2, 0, 2, true, _, _,
     rfl, by decide, rfl, rfl, rfl, rfl⟩,
   ⟨up { on with tn := { frames := [{ frm 256 0 with started := true }] } }, _, 256, 2, true, rfl, by decide⟩,
   ⟨{}, _, frm 3 15, by rintro _ ⟨⟩, by rintro _ _ _ _ _ _ _ _ ⟨⟩, rfl⟩,
   ⟨{}, { frm 256 0 with body := .cxl (.unsupported 0 0) }, _, rfl⟩,
   ⟨up (on.wr rScGateEntry 0x100 256), _, 2 ^ 63 + 2, _, _, rfl, by decide, by decide, by decide, rfl, rfl, by decide, by decide,
     by decide⟩,
   ⟨up
     { team 0x10010000 0 0 [(0, { state := .running, steps := [{ step2 with phase := .due }] })] with rl := { groups := [(0, { state := .running, steps := [{ step2 with phase := .due }] })], due := [(0, 0)] }, st := { tick := 1 } },
     _, 2 ^ 63 + 2, _, 1, _, rfl, by decide, by decide, by decide, rfl, rfl, by decide⟩,
   ⟨up { sc := { outs := [(0, { armed := some 0 })] } }, _, 0, _, rfl, rfl, by decide⟩,
   ⟨{ on with sp := { slots := [(0, { use := .on })] } }, 0, 0, _, rfl, by decide⟩,
   ⟨(up (({ st := { tick := 8 }, tn := { frames := [frm 3 15] } } : Dev).wr rScGateEntry 0x100 0 3)).begun, 3, 7, _, rfl, by
     decide, by decide, by decide⟩,
   ⟨{ ({} : Dev).wr rScGateEntry 0x100 0 3 with tn := { frames := [frm 3 15] }, sc := { outs := [(3, { closedAt := [(7, some 0)] })] } },
     3, 7, _, _, rfl, by decide, by decide, rfl⟩,
   ⟨up {}, _, 1, rfl⟩,
   ⟨({} : Dev).wr rScFlowCfg (2 ^ 63) 0 1023, _, 1023, rfl, by decide⟩,
   ⟨{ on with sp := { slots := [(0, { use := .on })] } }, { on with sp := { slots := [(0, { use := .on })] } }, 1, _, by decide, by
     decide, rfl⟩,
   ⟨up { sc := { outs := [(0, { age := [(7, 8)] })] } }, _, 0, 7, _, rfl, rfl, by decide, by decide⟩,
   ⟨up (({ st := { boundaries := 8 }, tn := { frames := [frm 3 15] } } : Dev).wr rScGateEntry 0x100 0 3), _, 3, 7, _, _, rfl, rfl,
     rfl, by decide, by decide, by decide⟩⟩

theorem witness_FlitsArrive :
  (∃ (s : State) (d : Dev) (p t w : Nat) (ok : Bool), s.begun.at_ t = d ∧ flChan w = 16) ∧
  (∃ (s : State) (d : Dev) (p t w : Nat) (ok : Bool), s.begun.at_ t = d ∧ flChan w = 0x1E) ∧
  (∃ (s : State) (d : Dev) (p t w : Nat) (ok : Bool), s.begun.at_ t = d ∧ w = 0x1F) ∧
  (∃ (s : State) (d : Dev) (p t w : Nat) (ok : Bool), s.begun.at_ t = d ∧ flChan w = 0x1F ∧ w ≠ 0x1F) ∧
  (∃ (s : State) (d : Dev) (p t w : Nat) (ok : Bool), s.begun.at_ t = d ∧ flChan w ≤ 0x1D ∧ flChan w ≠ 16 ∧ (16 < flChan w ∨ flitOk
    w = false)) ∧
  (∃ (s : State) (d : Dev) (p t w : Nat) (ok : Bool), s.begun.at_ t = d ∧ flChan w < 16 ∧ flitOk w = true ∧ (d.lkPort p).state ≠
    .up) ∧
  (∃ (s : State) (d : Dev) (p t w : Nat) (ok : Bool), ∃ o, s.begun.at_ t = d ∧ flChan w < 16 ∧ flitOk w = true ∧ (d.lkPort p).state
    = .up ∧ flCont w = true ∧ d.openRx p (flChan w) = some o) ∧
  (∃ (s : State) (d : Dev) (p t w : Nat) (ok : Bool), s.begun.at_ t = d ∧ flChan w < 16 ∧ flitOk w = true ∧ (d.lkPort p).state =
    .up ∧ flCont w = true ∧ d.openRx p (flChan w) = none ∧ (d.lkPort p).orphan = false) ∧
  (∃ (s : State) (d : Dev) (p t w : Nat) (ok : Bool), s.begun.at_ t = d ∧ flChan w < 16 ∧ flitOk w = true ∧ (d.lkPort p).state =
    .up ∧ flCont w = true ∧ d.openRx p (flChan w) = none ∧ (d.lkPort p).orphan = true) ∧
  (∃ (s : State) (d : Dev) (p t w : Nat) (ok : Bool), ∃ d1 d2 d3 payload, s.begun.at_ t = d ∧ flChan w < 16 ∧ flitOk w = true ∧
    (d.lkPort p).state = .up ∧ flCont w = false ∧ d1 = d.setLk p { d.lkPort p with orphan := false } ∧ d2 = (if (d1.openRx p
    (flChan w)).isSome then (d1.dropRx p (flChan w)).raise evLkFrameCut p else d1) ∧ payload = (toBytes 128 w).drop 2 ∧ d3 = (if
    flEnd w then (if flBad w then d2.startBad p (flChan w) (payload.take (flSplit w)) else d2.startRx p (flChan w) (payload.take
    (flSplit w)) true) else d2.startRx p (flChan w) payload false)) ∧
  (∃ (d d1 : Dev) (p ch : Nat) (o : OpenRx), ∃ num f, d.openRx p ch = some o ∧ d1 = (d.setRx p ch none).countRx p o ∧ (o.stage =
    .stored num ∨ o.stage = .here num) ∧ d1.frame num = some f) ∧
  (∃ (d d1 : Dev) (p ch : Nat) (o : OpenRx), d.openRx p ch = some o ∧ d1 = (d.setRx p ch none).countRx p o ∧ (o.stage = .fresh ∨
    o.stage = .dropped)) ∧
  (∃ (d : Dev) (p ch : Nat) (o q : OpenRx) (bytes : List Byte) (ended : Bool), q = { o with bytes := o.bytes ++ bytes } ∧ ((q.len =
    none ∧ ended = true) ∨ (∃ len, q.len = some len ∧ (len < q.bytes.length ∨ (ended = true ∧ q.bytes.length ≠ len))))) ∧
  (∃ (d : Dev) (p ch : Nat) (o q : OpenRx) (bytes : List Byte) (ended : Bool), ∃ len r d1, q = { o with bytes := o.bytes ++ bytes }
    ∧ q.len = some len ∧ q.bytes.length ≤ len ∧ (ended = true → q.bytes.length = len) ∧ d1 = d.routeRx p ch q ended ∧ d1.openRx
    p ch = some r) ∧
  (∃ (s : State) (d : Dev) (p w : Nat) (x : LkPort), s.begun = d ∧ d.lkPort p = x ∧ x.state = .up ∧ (controlOk w = false ∨
    (controlLimits w).all (fun (l : Nat × Nat) => x.limitOk l.1 l.2) = false)) ∧
  (∃ (s : State) (d : Dev) (p w : Nat) (x : LkPort), ∃ lims, s.begun = d ∧ d.lkPort p = x ∧ x.state = .up ∧ controlOk w = true ∧
    (controlLimits w).all (fun (l : Nat × Nat) => x.limitOk l.1 l.2) = true ∧ lims = forEach (controlLimits w) (fun (l : Nat ×
    Nat) (t : Tbl Nat) => Tbl.put 0 l.1 l.2 t) x.limRx) ∧
  (∃ (s : State) (d : Dev) (p rx w : Nat) (ok : Bool), s.begun.at_ (rx / 65536) = d ∧ (flChan w ≠ 16 ∨ flCont w = true ∨ flEnd w =
    false ∨ flBad w = true ∨ flNext w = true ∨ 126 < flSplit w)) ∧
  (∃ (s : State) (d : Dev) (p rx w : Nat) (ok : Bool), s.begun.at_ (rx / 65536) = d ∧ flChan w = 16 ∧ flCont w = false ∧ flEnd w =
    true ∧ flBad w = false ∧ flNext w = false ∧ flSplit w ≤ 126 ∧ (d.lkPort p).state ≠ .up ∧ (d.lkPort p).state ≠ .hello) ∧
  (∃ (s : State) (d : Dev) (p rx w : Nat) (ok : Bool), s.begun.at_ (rx / 65536) = d ∧ flChan w = 16 ∧ flCont w = false ∧ flEnd w =
    true ∧ flBad w = false ∧ flNext w = false ∧ flSplit w ≤ 126 ∧ (d.lkPort p).state = .hello) ∧
  (∃ (s : State) (d : Dev) (p rx w : Nat) (ok : Bool), s.begun.at_ (rx / 65536) = d ∧ flChan w = 16 ∧ flCont w = false ∧ flEnd w =
    true ∧ flBad w = false ∧ flNext w = false ∧ flSplit w ≤ 126 ∧ (d.lkPort p).state = .up ∧ 8 ≤ ((d.lkPort p).bypUsed
    d.st.ns).length) ∧
  (∃ (s : State) (d : Dev) (p rx w : Nat) (ok : Bool), ∃ d1, s.begun.at_ (rx / 65536) = d ∧ flChan w = 16 ∧ flCont w = false ∧
    flEnd w = true ∧ flBad w = false ∧ flNext w = false ∧ flSplit w ≤ 126 ∧ (d.lkPort p).state = .up ∧ ((d.lkPort p).bypUsed
    d.st.ns).length < 8 ∧ d1 = (d.setLk p { d.lkPort p with bypBusy := d.st.ns :: (d.lkPort p).bypUsed d.st.ns }).bypTakeAll p
    rx ok (((toBytes 128 w).drop 2).take (flSplit w)) 9) ∧
  (∃ (s : State) (d : Dev) (p w : Nat) (x : LkPort) (differs absorbs : Bool), s.begun = d ∧ d.lkPort p = x ∧ x.state = .up ∧
    auditOk w = true ∧ differs = (upFrom 0 17).any (fun c => decide (field w (32 + 16 * c) 16 ≠ Tbl.get 0 x.rcvd c)) ∧ absorbs =
    (upFrom 0 17).any (fun c => decide (field w (32 + 16 * c) 16 ≠ Tbl.get 0 x.rcvd c) && decide (diff16 (field w (32 + 16 * c)
    16) (Tbl.get 0 x.rcvd c) ≤ 32768))) :=
  ⟨⟨{}, _, 16, 16, 16, true, rfl, by decide⟩,
   ⟨{}, _, 0x1E, 0x1E, 0x1E, true, rfl, by decide⟩,
   ⟨{}, _, 0x1F, 0x1F, _, true, rfl, rfl⟩,
   ⟨{}, _, 0x1F, 0x1F, 0x3F, true, rfl, by decide, by decide⟩,
   ⟨{}, _, 0x1D, 0x1D, 0x1D, true, rfl, by decide, by decide, by decide⟩,
   ⟨{}, _, 16, 16, 0x20, true, rfl, by decide, by decide, by decide⟩,
   ⟨up { lk := { ports := [(0, { state := .up, rx := [(0, some { bytes := [] })] })] } }, _, 0, 16, 0x20, true, _, rfl, by decide,
     by decide, by decide, by decide, rfl⟩,
   ⟨up { lk := { ports := [(0, { state := .up })] } }, _, 0, 16, 0x20, true, rfl, by decide, by decide, by decide, by decide, by
     decide, by decide⟩,
   ⟨up { lk := { ports := [(0, { state := .up, orphan := true })] } }, _, 0, 0, 0x20, true, rfl, by decide, by decide, by decide,
     by decide, by decide, by decide⟩,
   ⟨up { lk := { ports := [(0, { state := .up })] } }, _, 0, 16, 2, true, _, _, _, _, rfl, by decide, by decide, by decide, by
     decide, rfl, rfl, rfl, rfl⟩,
   ⟨{ lk := { ports := [(0, { state := .up, rx := [(15, some { bytes := [], stage := .stored 0 })] })] }, tn := { frames := [frm 3 15] } },
     _, 0, 15, _, 0, _, rfl, rfl, by decide, rfl⟩,
   ⟨{ lk := { ports := [(0, { state := .up, rx := [(15, some { bytes := [] })] })] } }, _, 0, 15, _, rfl, rfl, by decide⟩,
   ⟨{}, 0, 15, { bytes := [] }, _, [], true, rfl, .inl ⟨rfl, rfl⟩⟩,
   ⟨{ lk := { ports := [(0, { state := .up, rx := [(15, some { bytes := [] })] })] } }, 0, 15, { bytes := [] }, _, toBytes 8 (2 ^
     64 - 1), false, _, _, _, rfl, rfl, by decide, by decide, rfl, rfl⟩,
   ⟨up { lk := { ports := [(0, { state := .up })] } }, _, 0, 0, _, rfl, rfl, by decide, by decide⟩,
   ⟨up { lk := { ports := [(0, { state := .up, limSeen := true })] } }, _, 0, 0x1E + crc32c (toBytes 124 0x1E) * 2 ^ 992, _, _,
     rfl, rfl, by decide, by decide, by decide, rfl⟩,
   ⟨{}, _, 65536, 65536, 65536, true, rfl, by decide⟩,
   ⟨{}, _, 65536, 65536, 0x7E50, true, rfl, by decide, by decide, by decide, by decide, by decide, by decide, by decide, by decide⟩,
   ⟨up { map := [(0, 16)], lk := { ports := [(0, { state := .hello })] } }, _, 0, 65536, 0x7E50, true, rfl, by decide, by decide,
     by decide, by decide, by decide, by decide, by decide⟩,
   ⟨up { lk := { ports := [(0, { state := .up, bypBusy := [0, 0, 0, 0, 0, 0, 0, 0] })] } }, _, 0, 65536, 0x7E50, true, rfl, by
     decide, by decide, by decide, by decide, by decide, by decide, by decide, by decide⟩,
   ⟨up { lk := { ports := [(0, { state := .up })] } }, _, 0, 0, 0x7E50, true, _, rfl, by decide, by decide, by decide, by decide,
     by decide, by decide, by decide, by decide, rfl⟩,
   ⟨up { lk := { ports := [(0, { state := .up })] } }, _, 0, 3, _, _, _, rfl, rfl, by decide, by decide, rfl, rfl⟩⟩

theorem witness_PortsLive :
  (∃ (s : State) (d : Dev) (p : Nat), s.begun = d ∧ (d.lkPort p).state = .up ∧ 4 ≤ (d.lkPort p).auditRun) ∧
  (∃ (s : State) (d : Dev) (p : Nat), s.begun = d ∧ (d.lkPort p).state = .up ∧ 4 ≤ (d.lkPort p).silent) ∧
  (∃ (s : State) (d : Dev) (p : Nat), ∃ c, c < 8 ∧ s.begun = d ∧ (d.lkPort p).state = .up ∧ (d.lkPort p).alive = true ∧ d.creditTo
    ≤ Tbl.get 0 (d.lkPort p).starveRun c) ∧
  (∃ (d e e1 e2 : Dev) (p reason rank cur : Nat) (flap : Bool) (x : LkPort), d.lkPort p = x ∧ (x.state = .training ∨ x.state =
    .hello ∨ x.state = .up) ∧ flap = (decide (x.state = .up) && decide (d.waited x.upAt ≤ 1024)) ∧ rank = d.rankOf p reason ∧
    cur = (if x.holddown = 0 then d.holddownBase else x.holddown) ∧ d.stopPort p = e ∧ e1 = ((e.setLk p
    { e.lkPort p with state := .broken, reason := rank, brokenAt := e.st.boundaries, holddown := if flap then min 1024 (2 * cur) else cur, held := x.held || reason == 1 }).latchLk
    p rank 0).raise evLkLinkBroken p ∧ e2 = ((if rank = 3 then e1.raise evLkPeerSilent p else if rank = 4 then e1.raise
    evLkAuditPersist p else if rank = 5 then e1.raise evLkCreditTimeout p else e1).raiseIf flap evLkLinkFlap p)) ∧
  (∃ (d d1 d2 : Dev) (p : Nat), d1 = (d.setUp p false).flushPort p ∧ d2 = forEach (Tbl.keys (d1.lkPort p).rx) (fun ch d =>
    ((d.dropRx p ch).latchTn p 3 (ch / 2)).raise evTnInputCut p) d1) ∧
  (∃ (s : State) (d : Dev) (p : Nat), s.begun = d ∧ (d.lkPort p).state = .broken ∧ (d.lkPort p).held = false ∧ d.holddownNow p ≤
    d.waited (d.lkPort p).brokenAt) ∧
  (∃ (d d1 : Dev) (p : Nat) (y : LnPort), y = d.lnPort p ∧ d1 =
    { d with ln := { d.ln with lanes := forEach (d.portLanes p) (fun l (t : Tbl LnLane) => Tbl.upd {} l (fun (x : LnLane) => if x.state = .off then { x with state := .hunt } else x) t) d.ln.lanes, ports := Tbl.put {} p { y with since := d.st.boundaries, timeout := false } d.ln.ports } }) ∧
  (∃ (s : State) (d d1 : Dev) (p v : Nat), s.begun = d ∧ 9 ≤ d.bt.phase ∧ p < 256 ∧ v < 8 ∧ d.isPort p = true ∧ d1 = ((if flag v 1
    then d.breakLive p 6 else d).wrFld rLkPortCtl 2 1 (field v 2 1) p).wrFld rLkPortCtl 0 1 (field v 0 1) p ∧ d1.isPort p = true
    ∧ flag (d1.rd rLkPortCtl p) 0 = flag v 0 ∧ flag (d1.rd rLkPortCtl p) 2 = flag v 2 ∧ flag v 0 = true ∧ flag v 2 = false ∧
    flag v 1 = true) ∧
  (∃ (s : State) (d d1 : Dev) (p v : Nat), s.begun = d ∧ 9 ≤ d.bt.phase ∧ p < 256 ∧ v < 8 ∧ d.isPort p = true ∧ d1 = ((if flag v 1
    then d.breakLive p 6 else d).wrFld rLkPortCtl 2 1 (field v 2 1) p).wrFld rLkPortCtl 0 1 (field v 0 1) p ∧ d1.isPort p = true
    ∧ flag (d1.rd rLkPortCtl p) 0 = flag v 0 ∧ flag (d1.rd rLkPortCtl p) 2 = flag v 2 ∧ (flag v 0 = false ∨ flag v 2 = true) ∧
    flag v 1 = true) ∧
  (∃ (d : Dev) (p : Nat), flag (d.rd rLkPortCtl p) 0 = true ∧ flag (d.rd rLkPortCtl p) 2 = false ∧ d.isPort p = true) ∧
  (∃ (d d1 d2 d3 : Dev) (p : Nat), (d.lkPort p).state = .disabled) ∧
  (∃ (d d1 d2 d3 : Dev) (p : Nat), (d.lkPort p).state ≠ .disabled ∧ d1 = d.stopPort p ∧ d2 =
    { d1 with ln := { d1.ln with lanes := forEach (upFrom p (d1.portWidth p)) (fun l (t : Tbl LnLane) => Tbl.put {} l ({ state := if prbsOn (field (d1.rd rLnPrbsCtl l) 0 2) || prbsOn (field (d1.rd rLnPrbsCtl l) 2 2) then .prbs else .off } : LnLane) t) d1.ln.lanes, ports := Tbl.put {} p {} d1.ln.ports } }
    ∧ d3 = ((d2.setLk p { d2.lkPort p with state := .disabled, seen := false }).latchLk p 0 0).raise evLkLinkBroken p) ∧
  (∃ (s : State) (d : Dev) (p v : Nat), s.begun = d ∧ 9 ≤ d.bt.phase ∧ p < 256 ∧ v < 8 ∧ d.isPort p = false) ∧
  (∃ (s : State) (d : Dev) (p w : Nat) (x : LkPort), s.begun = d ∧ d.lkPort p = x ∧ x.state = .hello ∧ helloOk w = true ∧ (field w
    24 8 ≠ d.portWidth p ∨ field w 32 18 = d.node)) ∧
  (∃ (s : State) (d : Dev) (p w : Nat) (x : LkPort), ∃ d1, s.begun = d ∧ d.lkPort p = x ∧ x.state = .hello ∧ helloOk w = true ∧
    field w 24 8 = d.portWidth p ∧ field w 32 18 ≠ d.node ∧ d1 = d.setLk p
    { x with seen := true, heard := true, peerNode := field w 32 18, peerPort := field w 64 8 } ∧ flag w 8 = true) ∧
  (∃ (s : State) (d : Dev) (p w : Nat) (x : LkPort), ∃ d1, s.begun = d ∧ d.lkPort p = x ∧ x.state = .hello ∧ helloOk w = true ∧
    field w 24 8 = d.portWidth p ∧ field w 32 18 ≠ d.node ∧ d1 = d.setLk p
    { x with seen := true, heard := true, peerNode := field w 32 18, peerPort := field w 64 8 } ∧ flag w 8 = false) ∧
  (∃ (d d1 d2 : Dev) (p : Nat), d1 = d.setLk p
    { d.lkPort p with state := .up, upAt := d.st.boundaries, sent := [], rcvd := [], limRx := [], lim := [], limTx := [], peerRsv := [], limSeen := false, holdRx := 0, flits := 0, starved := 0, starveRun := [], rx := [], orphan := false, bypBusy := [], bypQueue := [], auditRun := 0, silent := 0 }
    ∧ d2 = ((((((d1.setRt p { d1.rtPort p with since := d1.st.boundaries }).advance p).sendControl p).setUp p true).raise
    evLkLinkUp p).noteDryAll p)) :=
  ⟨⟨up { lk := { ports := [(0, { state := .up, auditRun := 4 })] } }, _, 0, rfl, by decide, by decide⟩,
   ⟨up { lk := { ports := [(0, { state := .up, silent := 4 })] } }, _, 0, rfl, by decide, by decide⟩,
   ⟨up { lk := { ports := [(0, { state := .up, heard := true, starveRun := [(7, 255)] })] } }, _, 0, 7, by decide, rfl, by decide,
     by decide, by decide⟩,
   ⟨{ lk := { ports := [(0, { state := .up })] }, st := { boundaries := 1024 } }, _, _, _, 0, 3, _, _, _, _, rfl, by decide, rfl,
     rfl, rfl, rfl, rfl, rfl⟩,
   ⟨{ on with sp := { slots := [(0, { use := .on })] } }, { on with sp := { slots := [(0, { use := .on })] } },
     { on with sp := { slots := [(0, { use := .on })] } }, 3, by decide, by decide⟩,
   ⟨up { st := { boundaries := 255 }, lk := { ports := [(0, { state := .broken })] } }, _, 0, rfl, by decide, by decide, by decide⟩,
   ⟨{ on with sp := { slots := [(0, { use := .on })] } }, { on with sp := { slots := [(0, { use := .on })] } }, 0, _, rfl, by
     decide⟩,
   ⟨up { on with map := [(240, 16)], lk := { ports := [(240, { state := .up })] } }, _, _, 240, 3, rfl, by decide, by decide, by
     decide, by decide, rfl, by decide, by decide, by decide, by decide, by decide, by decide⟩,
   ⟨up { on with map := [(240, 16)], lk := { ports := [(240, { state := .up })] } }, _, _, 240, 7, rfl, by decide, by decide, by
     decide, by decide, rfl, by decide, by decide, by decide, by decide, by decide⟩,
   ⟨(up { on with map := [(240, 16)] }).begun, 240, by decide, by decide, by decide⟩,
   ⟨{ on with sp := { slots := [(0, { use := .on })] } }, { on with sp := { slots := [(0, { use := .on })] } },
     { on with sp := { slots := [(0, { use := .on })] } }, { on with sp := { slots := [(0, { use := .on })] } }, 0, by decide⟩,
   ⟨{ map := [(240, 16)], lk := { ports := [(240, { state := .up })] } }, _, _, _, 240, by decide, rfl, rfl, rfl⟩,
   ⟨up { on with map := [(240, 16)] }, _, 255, 0, rfl, by decide, by decide, by decide, by decide⟩,
   ⟨up { map := [(0, 16)], lk := { ports := [(0, { state := .hello })] } }, _, 0, 4, _, rfl, rfl, by decide, by decide, by decide⟩,
   ⟨up { map := [(0, 16)], lk := { ports := [(0, { state := .hello })] } }, _, 0, 4 + 2 ^ 8 + 2 ^ 28 + 2 ^ 32, _, _, rfl, rfl, by
     decide, by decide, by decide, by decide, rfl, by decide⟩,
   ⟨up { map := [(0, 16)], lk := { ports := [(0, { state := .hello })] } }, _, 0, 4 + 2 ^ 28 + 2 ^ 32, _, _, rfl, rfl, by decide,
     by decide, by decide, by decide, rfl, by decide⟩,
   ⟨{ map := [(240, 16)], lk := { ports := [(240, { state := .hello })] } }, _, _, 240, rfl, rfl⟩⟩

theorem witness_LanesReceive :
  (∃ (s : State) (d : Dev) (l pos arrived fill p : Nat) (levels : List Nat), s.begun = d ∧ d.portOfLane l = some p ∧ d.refPresent p
    = true ∧ ((d.lane l).state = .hunt ∨ (d.lane l).state = .aligned) ∧ (fill = 0 ∨ 256 < fill)) ∧
  (∃ (s : State) (d : Dev) (l pos arrived fill p : Nat) (levels : List Nat), ∃ (raw flipped : List Nat) (inv missed : Bool) (d1 :
    Dev), ∃ i lane seq, s.begun = d ∧ d.portOfLane l = some p ∧ d.refPresent p = true ∧ ((d.lane l).state = .hunt ∨ (d.lane
    l).state = .aligned) ∧ 0 < fill ∧ fill ≤ 256 ∧ raw = levels.map (· % 4) ∧ flipped = raw.map (fun v => 3 - v) ∧ inv = (if
    (findComma flipped).isSome then true else if (findComma raw).isSome then false else (d.lane l).inv) ∧ d1 = (d.setLane l
    { d.lane l with inv := inv }).raiseIf (inv && !(d.lane l).inv) evLnPolarityInv p ∧ missed = (decide ((d.lane l).state =
    .aligned) &&
    (match (d.lane l).comma with | some c => decide (pos ≤ c + fillerPeriod) && decide (c + fillerPeriod < pos + levels.length) | none => false))
    ∧ findComma (if inv then flipped else raw) = some (i, some (lane, seq)) ∧ ((d.lane l).state = .hunt ∨ (d.lane l).comma.map
    (· + fillerPeriod) = some (pos + i))) ∧
  (∃ (s : State) (d : Dev) (l pos arrived fill p : Nat) (levels : List Nat), ∃ (raw flipped : List Nat) (inv missed : Bool) (d1 :
    Dev), s.begun = d ∧ d.portOfLane l = some p ∧ d.refPresent p = true ∧ ((d.lane l).state = .hunt ∨ (d.lane l).state =
    .aligned) ∧ 0 < fill ∧ fill ≤ 256 ∧ raw = levels.map (· % 4) ∧ flipped = raw.map (fun v => 3 - v) ∧ inv = (if (findComma
    flipped).isSome then true else if (findComma raw).isSome then false else (d.lane l).inv) ∧ d1 = (d.setLane l
    { d.lane l with inv := inv }).raiseIf (inv && !(d.lane l).inv) evLnPolarityInv p ∧ missed = (decide ((d.lane l).state =
    .aligned) &&
    (match (d.lane l).comma with | some c => decide (pos ≤ c + fillerPeriod) && decide (c + fillerPeriod < pos + levels.length) | none => false))
    ∧ (findComma (if inv then flipped else raw) = none ∨ ∃ i, findComma (if inv then flipped else raw) = some (i, none))) ∧
  (∃ (d d1 d2 : Dev) (l p pos arrived lane seq fill : Nat) (found : Bool), d1 = d.laneRestart l p lane seq ∧ found = (decide
    ((d1.lane l).state = .hunt) && decide ((d1.lane l).comma.map (· + fillerPeriod) = some pos)) ∧ d2 = (d1.setLane l
    { d1.lane l with lane := lane, seq := seq, comma := some pos, missed := 0, arrived := arrived, state := if found then .aligned else (d1.lane l).state }).raiseIf
    found evLnLaneAligned p) ∧
  (∃ (d d1 : Dev) (l p : Nat) (x : LnLane), d.lane l = x ∧ d1 = (d.setLane l
    { x with missed := x.missed + 1, comma := x.comma.map (· + fillerPeriod) }).raise evLnCommaMiss p) ∧
  (∃ (d d1 : Dev) (l : Nat), (d.lane l).state = .aligned ∧ d1 = (((d.setLane l
    { d.lane l with state := .hunt, comma := none, missed := 0, syms := [], blocks := [] }).latchLn l 1).raise evLnAlignLost
    (d.lanePort l)) ∧ d1.portOfLane l = d.portOfLane l) ∧
  (∃ (d d1 : Dev) (p : Nat), (d.lnPort p).aligned = true ∧ d1 = d.setLnPort p { d.lnPort p with aligned := false } ∧ ((d1.lkPort
    p).state = .hello ∨ (d1.lkPort p).state = .up)) ∧
  (∃ (d d1 : Dev) (p : Nat), (d.lnPort p).aligned = true ∧ d1 = d.setLnPort p { d.lnPort p with aligned := false } ∧ ((d1.lkPort
    p).state = .training ∨ (d1.lkPort p).state = .disabled)) ∧
  (∃ (s : State) (d d1 : Dev) (l : Nat) (levels : List Nat) (x y : LnLane) (u : Destuffed), s.begun = d ∧ d.lane l = x ∧ x.state =
    .aligned ∧ u = destuff x.runLevel x.runLen (levels.map (fun v => if x.inv then 3 - v % 4 else v % 4)) ∧ y =
    { x with runLevel := u.level, runLen := u.run, syms := x.syms ++ u.symbols, stuffTick := satAdd 0xFFFF x.stuffTick u.pairs }
    ∧ d1 = forEach (upFrom 0 u.missing) (fun _ e => e.raise evLnStuffErr (d.lanePort l)) (d.setLane l y)) ∧
  (∃ (d : Dev) (l bits scram : Nat) (word : List Nat) (x : LnLane), ∃ fixed n d1 d2, d.lane l = x ∧ rsDecode (codeSymbols word) =
    some (fixed, n) ∧ scramble 2560 x.scram (dataBits fixed) = (bits, scram) ∧ d1 = d.setLane l
    { x with scram := scram, words := x.words + 1, blocks := x.blocks ++ [(toBytes 320 bits, false)], corrTick := x.corrTick + n }
    ∧ d2 = (if 0 < n then (d1.addLane rLnFecSym l n).addLane rLnFecCw l 1 else d1)) ∧
  (∃ (d : Dev) (l bits scram : Nat) (word : List Nat) (x : LnLane), ∃ d1, d.lane l = x ∧ rsDecode (codeSymbols word) = none ∧
    scramble 2560 x.scram (dataBits (codeSymbols word)) = (bits, scram) ∧ d1 = ((d.setLane l
    { x with scram := scram, words := x.words + 1, blocks := x.blocks ++ [(toBytes 320 bits, true)], uncorrTick := x.uncorrTick + 1 }).addLane
    rLnFecUncorr l 1).raise evLnFecUncorr (d.lanePort l)) ∧
  (∃ (s : State) (d : Dev) (l : Nat) (levels : List Nat), s.begun = d ∧ (d.lane l).state ≠ .aligned) :=
  ⟨⟨up { map := [(0, 16)], ln := { refOk := 1, lanes := [(15, { state := .aligned })] } }, _, 15, 0, 0, 257, 0, [], rfl, by decide,
     by decide, by decide, by decide⟩,
   ⟨up { map := [(0, 16)], ln := { refOk := 1, lanes := [(15, { state := .hunt })] } }, _, 15, 0, 0, 256, 0, fillerLevels 15 255,
     _, _, _, _, _, 47, 15, 255, rfl, by decide, by decide, by decide, by decide, by decide, rfl, rfl, rfl, rfl, rfl, by decide,
     by decide⟩,
   ⟨up { map := [(0, 16)], ln := { refOk := 1, lanes := [(15, { state := .aligned })] } }, _, 15, 0, 0, 256, 0, [], _, _, _, _, _,
     rfl, by decide, by decide, by decide, by decide, by decide, rfl, rfl, rfl, rfl, rfl, .inl rfl⟩,
   ⟨{}, _, _, 15, 0, 0, 0, 15, 255, 256, _, rfl, rfl, rfl⟩,
   ⟨{ ln := { lanes := [(255, { state := .aligned, missed := 1 })] } }, _, 255, 0, _, rfl, rfl⟩,
   ⟨{ map := [(240, 16)], ln := { lanes := [(255, { state := .aligned })] } }, _, 255, by decide, rfl, by decide⟩,
   ⟨{ lk := { ports := [(0, { state := .up })] }, ln := { ports := [(0, { aligned := true })] } }, _, 0, by decide, rfl, by decide⟩,
   ⟨{ lk := { ports := [(0, { state := .training })] }, ln := { ports := [(0, { aligned := true })] } }, _, 0, by decide, rfl, by
     decide⟩,
   ⟨up { ln := { lanes := [(255, { state := .aligned })] } }, _, _, 255, [3, 0], _, _, _, rfl, rfl, by decide, rfl, rfl, rfl⟩,
   ⟨{ ln := { lanes := [(255, { state := .aligned })] } }, 255, _, _, (List.replicate 1300 0 ++ List.replicate 60 0), _, _, _, _,
     _, rfl, still_decodes, (Prod.eta _).symm, rfl, rfl⟩,
   ⟨{ ln := { lanes := [(255, { state := .aligned })] } }, 255, _, _, (List.replicate 1300 0 ++ wrong), _, _, rfl, wrong_fails,
     (Prod.eta _).symm, rfl⟩,
   ⟨up {}, _, 0, [], rfl, by decide⟩⟩

theorem witness_LaneEvents :
  (∃ (s : State) (d d1 : Dev) (r : Nat) (ports : List Nat), s.begun = d ∧ flag d.ln.refOk r = true ∧ ports = (Tbl.keys
    d.map).filter (fun p => d.fld rLnPortRef 0 2 p == r) ∧ d1 =
    (({ d with ln := { d.ln with refOk := setField d.ln.refOk r 1 0 } }).latchLn (ports.headD 0) 5).raise evLnRefLost 0) ∧
  (∃ (s : State) (d : Dev) (p : Nat) (y : LnPort), s.begun = d ∧ d.lnPort p = y ∧ (d.lkPort p).state = .training ∧ y.timeout =
    false ∧ 1024 * orOne (d.fld rLnCtl 24 8) ≤ d.waited y.since) ∧
  (∃ (s : State) (d : Dev) (l : Nat) (x : LnLane), s.begun = d ∧ d.lane l = x ∧ x.state = .prbs ∧ prbsOn (d.fld rLnPrbsCtl 2 2 l) =
    true) ∧
  (∃ (s : State) (d : Dev) (l : Nat) (x : LnLane), s.begun = d ∧ d.lane l = x ∧ x.prbsLock = true) ∧
  (∃ (s : State) (d : Dev) (l : Nat), s.begun = d ∧ 9 ≤ d.bt.phase ∧ l = d.fld rLnLaneSel 0 8) :=
  ⟨⟨up { map := [(0, 16)], ln := { refOk := 15 } }, _, _, 3, _, rfl, by decide, rfl, rfl⟩,
   ⟨up { st := { boundaries := 2 ^ 18 }, lk := { ports := [(0, { state := .training })] } }, _, 0, _, rfl, rfl, by decide, by
     decide, by decide⟩,
   ⟨up (({ ln := { lanes := [(255, { state := .prbs })] } } : Dev).wr rLnPrbsCtl 4 255), _, 255, _, rfl, rfl, by decide, by decide⟩,
   ⟨up { ln := { lanes := [(255, { state := .prbs, prbsLock := true })] } }, _, 255, _, rfl, rfl, by decide⟩,
   ⟨up on, _, _, rfl, by decide, rfl⟩⟩

theorem witness_CxlMemory :
  (∃ (s : State) (d : Dev) (k tc len : Nat) (m : MemOp) (read : Bool), s.begun = d ∧ d.cxRole k = 1 ∧ (d.cxPort k).link = .up ∧
    d.cxPortHost k = m.host ∧ read = (m.write.isNone && !m.other) ∧ (d.hdmRoute m.host m.hpa = none ∨ (∃ v, d.hdmRoute m.host
    m.hpa = some v ∧ (d.vppb m.host v).target = none) ∨ (∃ v ld, d.hdmRoute m.host m.hpa = some v ∧ (d.vppb m.host v).target =
    some (0xFF, ld) ∧ m.other = false ∧ d.winDpa m.host m.hpa = none))) ∧
  (∃ (s : State) (d : Dev) (k tc len : Nat) (m : MemOp) (read : Bool), ∃ v ld, s.begun = d ∧ d.cxRole k = 1 ∧ (d.cxPort k).link =
    .up ∧ d.cxPortHost k = m.host ∧ read = (m.write.isNone && !m.other) ∧ d.hdmRoute m.host m.hpa = some v ∧ (d.vppb m.host
    v).target = some (0xFF, ld) ∧ m.other = true) ∧
  (∃ (s : State) (d : Dev) (k tc len : Nat) (m : MemOp) (read : Bool), ∃ v ld, ∃ dpa, s.begun = d ∧ d.cxRole k = 1 ∧ (d.cxPort
    k).link = .up ∧ d.cxPortHost k = m.host ∧ read = (m.write.isNone && !m.other) ∧ d.hdmRoute m.host m.hpa = some v ∧ (d.vppb
    m.host v).target = some (0xFF, ld) ∧ m.other = false ∧ m.write = none ∧ d.winDpa m.host m.hpa = some dpa) ∧
  (∃ (s : State) (d : Dev) (k tc len : Nat) (m : MemOp) (read : Bool), ∃ v ld, ∃ dpa mask data, s.begun = d ∧ d.cxRole k = 1 ∧
    (d.cxPort k).link = .up ∧ d.cxPortHost k = m.host ∧ read = (m.write.isNone && !m.other) ∧ d.hdmRoute m.host m.hpa = some v ∧
    (d.vppb m.host v).target = some (0xFF, ld) ∧ m.other = false ∧ m.write = some (mask, data) ∧ d.winDpa m.host m.hpa = some
    dpa) ∧
  (∃ (s : State) (d : Dev) (k tc len : Nat) (m : MemOp) (read : Bool), ∃ v q ld, s.begun = d ∧ d.cxRole k = 1 ∧ (d.cxPort k).link =
    .up ∧ d.cxPortHost k = m.host ∧ read = (m.write.isNone && !m.other) ∧ d.hdmRoute m.host m.hpa = some v ∧ (d.vppb m.host
    v).target = some (q, ld) ∧ q ≠ 0xFF ∧ (d.cxPort q).link ≠ .up ∧ (read = false ∨ (d.cxPort q).poisonTold = true)) ∧
  (∃ (s : State) (d : Dev) (k tc len : Nat) (m : MemOp) (read : Bool), ∃ v q ld, s.begun = d ∧ d.cxRole k = 1 ∧ (d.cxPort k).link =
    .up ∧ d.cxPortHost k = m.host ∧ read = (m.write.isNone && !m.other) ∧ d.hdmRoute m.host m.hpa = some v ∧ (d.vppb m.host
    v).target = some (q, ld) ∧ q ≠ 0xFF ∧ (d.cxPort q).link ≠ .up ∧ read = true ∧ (d.cxPort q).poisonTold = false) ∧
  (∃ (s : State) (d : Dev) (k tc len : Nat) (m : MemOp) (read : Bool), ∃ v q ld, s.begun = d ∧ d.cxRole k = 1 ∧ (d.cxPort k).link =
    .up ∧ d.cxPortHost k = m.host ∧ read = (m.write.isNone && !m.other) ∧ d.hdmRoute m.host m.hpa = some v ∧ (d.vppb m.host
    v).target = some (q, ld) ∧ q ≠ 0xFF ∧ (d.cxPort q).link = .up) ∧
  (∃ (d d1 : Dev) (input output tc len : Nat) (f : CxlFrame), d1 = (d.count (1344 + 4 * (input - 256) + 2) 1).count (1344 + 4 *
    (input - 256) + 3) len ∧ d1.charge input tc (cellsOf len) false = none) ∧
  (∃ (d d1 : Dev) (input output tc len : Nat) (f : CxlFrame), ∃ c, d1 = (d.count (1344 + 4 * (input - 256) + 2) 1).count (1344 + 4
    * (input - 256) + 3) len ∧ d1.charge input tc (cellsOf len) false = some c) ∧
  (∃ (s : State) (d d1 : Dev) (q host tag tc len : Nat) (poison : Bool) (data : Option Nat) (x : CxPort) (r : MemReq), ∃ k, s.begun
    = d ∧ d.cxPort q = x ∧ firstThat x.reqs (fun r => r.host == host && r.tag == tag) = some r ∧ d1 = d.setCx q
    { x with reqs := removeFirst x.reqs (fun r => r.host == host && r.tag == tag) } ∧ r.orphan = false ∧ d1.hostPort host = some
    k) ∧
  (∃ (s : State) (d d1 : Dev) (q host tag tc len : Nat) (poison : Bool) (data : Option Nat) (x : CxPort) (r : MemReq), s.begun = d
    ∧ d.cxPort q = x ∧ firstThat x.reqs (fun r => r.host == host && r.tag == tag) = some r ∧ d1 = d.setCx q
    { x with reqs := removeFirst x.reqs (fun r => r.host == host && r.tag == tag) } ∧ (r.orphan = true ∨ d1.hostPort host =
    none)) ∧
  (∃ (s : State) (d : Dev) (q host tag tc len : Nat) (poison : Bool) (data : Option Nat), s.begun = d ∧ firstThat (d.cxPort q).reqs
    (fun r => r.host == host && r.tag == tag) = none) ∧
  (∃ (s : State) (d d1 d2 : Dev) (k host tag : Nat) (x : CxPort) (r : MemReq), s.begun = d ∧ d.cxPort k = x ∧ firstThat x.reqs (fun
    r => r.host == host && r.tag == tag) = some r ∧ orOne (d.fld rCxCtl 0 8) ≤ d.since r.since ∧ d1 = d.setCx k
    { x with reqs := removeFirst x.reqs (fun r => r.host == host && r.tag == tag), timeouts := x.timeouts + 1 } ∧ d2 = ((if
    r.orphan then d1 else d1.emit (.cxl (.rsp host tag r.read none))).latchCx k 2 host r.ld).raise evCxMemTimeout (256 + k) ∧
    x.timeouts < 2) ∧
  (∃ (s : State) (d d1 d2 : Dev) (k host tag : Nat) (x : CxPort) (r : MemReq), s.begun = d ∧ d.cxPort k = x ∧ firstThat x.reqs (fun
    r => r.host == host && r.tag == tag) = some r ∧ orOne (d.fld rCxCtl 0 8) ≤ d.since r.since ∧ d1 = d.setCx k
    { x with reqs := removeFirst x.reqs (fun r => r.host == host && r.tag == tag), timeouts := x.timeouts + 1 } ∧ d2 = ((if
    r.orphan then d1 else d1.emit (.cxl (.rsp host tag r.read none))).latchCx k 2 host r.ld).raise evCxMemTimeout (256 + k) ∧ 2
    ≤ x.timeouts) ∧
  (∃ (s : State) (d : Dev) (k h : Nat), s.begun = d ∧ d.cxRole k = 1 ∧ (d.cxPort k).link = .up ∧ d.cxPortHost k = h) ∧
  (∃ (s : State) (d : Dev) (k h : Nat), ∃ n, s.begun = d ∧ d.cxRole k = 1 ∧ (d.cxPort k).link = .up ∧ d.cxPortHost k = h ∧ n < 32) ∧
  (∃ (s : State) (d : Dev) (k h : Nat), s.begun = d ∧ d.cxRole k = 1 ∧ (d.cxPort k).link = .up ∧ d.cxPortHost k = h) ∧
  (∃ (s : State) (d : Dev) (k h : Nat), ∃ v, s.begun = d ∧ d.cxRole k = 1 ∧ (d.cxPort k).link = .up ∧ d.cxPortHost k = h ∧ ((d.vppb
    h v).target = none ∨ ∃ q ld, (d.vppb h v).target = some (q, ld) ∧ q ≠ 0xFF ∧ (d.cxPort q).link ≠ .up)) ∧
  (∃ (s : State) (d : Dev) (k h : Nat), ∃ v q ld, s.begun = d ∧ d.cxRole k = 1 ∧ (d.cxPort k).link = .up ∧ d.cxPortHost k = h ∧
    (d.vppb h v).target = some (q, ld) ∧ q ≠ 0xFF ∧ (d.cxPort q).link = .up) ∧
  (∃ (s : State) (d : Dev) (k rate width : Nat), s.begun = d ∧ d.cxRole k = 1 ∧ (d.cxPort k).link = .training) :=
  ⟨⟨up (cxl [(0, { link := .up })] []), _, 0, 0, 64, ⟨0, 1, 2 ^ 28, none, false⟩, _, rfl, by decide, by decide, by decide, rfl,
     .inl (by decide)⟩,
   ⟨up (cxl [(0, { link := .up })] [(1, { use := .bound, target := some (0xFF, 0) })]), _, 0, 0, 64, ⟨0, 1, 2 ^ 28 - 1, none,
     true⟩, _, _, _, rfl, by decide, by decide, by decide, rfl, rfl, rfl, by decide⟩,
   ⟨up (cxw [(1, { use := .bound, target := some (0xFF, 0) })]), _, 0, 0, 64, ⟨0, 1, 2 ^ 28 - 1, none, false⟩, _, _, _, _, rfl, by
     decide, by decide, by decide, rfl, rfl, rfl, by decide, by decide, rfl⟩,
   ⟨up (cxw [(1, { use := .bound, target := some (0xFF, 0) })]), _, 0, 0, 64, ⟨0, 1, 2 ^ 28 - 1, some (2 ^ 64 - 1, 0), false⟩, _,
     _, _, _, _, _, rfl, by decide, by decide, by decide, rfl, rfl, rfl, by decide, rfl, rfl⟩,
   ⟨up (cxl [(0, { link := .up })] [(1, { use := .bound, target := some (5, 0) })]), _, 0, 0, 64, ⟨0, 1, 2 ^ 28 - 1, some (2 ^ 64 -
     1, 0), false⟩, _, _, _, _, rfl, by decide, by decide, by decide, rfl, rfl, rfl, by decide, by decide, by decide⟩,
   ⟨up (cxl [(0, { link := .up })] [(1, { use := .bound, target := some (5, 0) })]), _, 0, 0, 64, ⟨0, 1, 2 ^ 28 - 1, none, false⟩,
     _, _, _, _, rfl, by decide, by decide, by decide, rfl, rfl, rfl, by decide, by decide, by decide, by decide⟩,
   ⟨up (cxl [(0, { link := .up }), (5, dcd (some (0, 1)))] [(1, { use := .bound, target := some (5, 0) })]), _, 0, 0, 64, ⟨0, 1, 0,
     some (1, 0), false⟩, _, _, _, _, rfl, by decide, by decide, by decide, rfl, rfl, rfl, by decide, by decide⟩,
   ⟨{}, _, 303, 256, 7, 2 ^ 30, .unsupported 0 0, rfl, by decide⟩,
   ⟨{ tn := { cxPromise := [(8 * 303 + 7, 1)] } }, _, 303, 256, 7, 64, .unsupported 0 0, _, rfl, rfl⟩,
   ⟨up (cxl [(5, { link := .up, reqs := [⟨0, 1, 0, true, 0, false⟩] })] []), _, _, 5, 0, 1, 0, 64, false, none, _, _, _, rfl, rfl,
     rfl, rfl, by decide, rfl⟩,
   ⟨up (cxl [(5, { link := .up, reqs := [⟨0, 1, 0, true, 0, true⟩] })] []), _, _, 5, 0, 1, 0, 64, false, none, _, _, rfl, rfl, rfl,
     rfl, by decide⟩,
   ⟨{}, _, 5, 0, 1, 0, 64, true, none, rfl, by decide⟩,
   ⟨up { cxl [(5, { link := .up, reqs := [⟨0, 1, 0, true, 0, false⟩], timeouts := 1 })] [] with st := { tick := 8 } }, _, _, _, 5,
     0, 1, _, _, rfl, rfl, rfl, by decide, rfl, rfl, by decide⟩,
   ⟨up { cxl [(5, { link := .up, reqs := [⟨0, 1, 0, true, 0, false⟩], timeouts := 2 })] [] with st := { tick := 8 } }, _, _, _, 5,
     0, 1, _, _, rfl, rfl, rfl, by decide, rfl, rfl, by decide⟩,
   ⟨up (cxl [(0, { link := .up })] []), _, 0, _, rfl, by decide, by decide, rfl⟩,
   ⟨up (cxl [(0, { link := .up })] []), _, 0, _, 1, rfl, by decide, by decide, rfl, by decide⟩,
   ⟨up (cxl [(0, { link := .up })] []), _, 0, _, rfl, by decide, by decide, rfl⟩,
   ⟨up (cxl [(0, { link := .up })] []), _, 0, 0, 1, rfl, by decide, by decide, by decide, .inl (by decide)⟩,
   ⟨up (cxl [(0, { link := .up }), (5, dcd (some (0, 1)))] [(1, { use := .bound, target := some (5, 0) })]), _, 0, _, 1, _, _, rfl,
     by decide, by decide, rfl, rfl, by decide, by decide⟩,
   ⟨up (cxl [(0, { link := .training })] []), _, 0, 1, 1, rfl, by decide, by decide⟩⟩

theorem witness_BindingChanges :
  (∃ (s : State) (d : Dev) (q w : Nat), s.begun = d ∧ d.runsMalthouse = true ∧ mhFormOk w = false) ∧
  (∃ (s : State) (d : Dev) (q w : Nat), ∃ st, s.begun = d ∧ d.runsMalthouse = true ∧ d.mhStatus q w = st ∧ st ≠ 0) ∧
  (∃ (s : State) (d d1 : Dev) (q w : Nat), s.begun = d ∧ d.runsMalthouse = false ∧ mhFormOk w = true ∧ d.mhSource q = true ∧
    d.mirroring = true ∧ d.mirrorFull = false ∧ d1 = d.mirror 6 33 0 (w + 2 ^ 256 * q)) ∧
  (∃ (s : State) (d d1 : Dev) (q w : Nat), s.begun = d ∧ d.runsMalthouse = false ∧ mhFormOk w = true ∧ d.mhSource q = true ∧
    (d.mirroring = false ∨ d.mirrorFull = true)) ∧
  (∃ (d d1 : Dev) (q w st tick word : Nat), word = pack [(16, mhTag w), (8, st), (8, 0), (32, tick)] ∧ d1 = (if q < 16 then d.emit
    (.mhResponse q word) else d.mirror 7 12 0 (pack [(32, q - 16), (64, word)]))) ∧
  (∃ (s : State) (d d1 : Dev) (q w t : Nat) (x : MhWork), s.begun = d ∧ d.runsMalthouse = true ∧ d.mhStatus q w = 0 ∧ t = (if
    mhAtTick w then mhTick w else d.now + 1) ∧ x = ⟨q, w, none, .staged t⟩ ∧ d1 =
    { d with cx := { d.cx with work := d.cx.work ++ [x] } } ∧ mhOp w = 1) ∧
  (∃ (s : State) (d d1 : Dev) (q w t : Nat) (x : MhWork), ∃ d2, s.begun = d ∧ d.runsMalthouse = true ∧ d.mhStatus q w = 0 ∧ t = (if
    mhAtTick w then mhTick w else d.now + 1) ∧ x = ⟨q, w, none, .staged t⟩ ∧ d1 =
    { d with cx := { d.cx with work := d.cx.work ++ [x] } } ∧ mhOp w = 2 ∧ d2 = d1.setVppb (mhHost w) (mhVppb w)
    { d1.vppb (mhHost w) (mhVppb w) with use := .unbinding, since := d1.now } ∧ (mhOpt w = 2 ∨ (d1.vppb (mhHost w) (mhVppb
    w)).hostOff = true)) ∧
  (∃ (s : State) (d d1 : Dev) (q w t : Nat) (x : MhWork), ∃ d2, s.begun = d ∧ d.runsMalthouse = true ∧ d.mhStatus q w = 0 ∧ t = (if
    mhAtTick w then mhTick w else d.now + 1) ∧ x = ⟨q, w, none, .staged t⟩ ∧ d1 =
    { d with cx := { d.cx with work := d.cx.work ++ [x] } } ∧ mhOp w = 2 ∧ d2 = d1.setVppb (mhHost w) (mhVppb w)
    { d1.vppb (mhHost w) (mhVppb w) with use := .unbinding, since := d1.now } ∧ mhOpt w = 1 ∧ (d1.vppb (mhHost w) (mhVppb
    w)).hostOff = false) ∧
  (∃ (s : State) (d d1 : Dev) (q w t : Nat) (x : MhWork), ∃ d2, s.begun = d ∧ d.runsMalthouse = true ∧ d.mhStatus q w = 0 ∧ t = (if
    mhAtTick w then mhTick w else d.now + 1) ∧ x = ⟨q, w, none, .staged t⟩ ∧ d1 =
    { d with cx := { d.cx with work := d.cx.work ++ [x] } } ∧ mhOp w = 2 ∧ d2 = d1.setVppb (mhHost w) (mhVppb w)
    { d1.vppb (mhHost w) (mhVppb w) with use := .unbinding, since := d1.now } ∧ mhOpt w = 0 ∧ (d1.vppb (mhHost w) (mhVppb
    w)).hostOff = false) ∧
  (∃ (s : State) (d d1 : Dev) (q w t : Nat) (x : MhWork), s.begun = d ∧ d.runsMalthouse = true ∧ d.mhStatus q w = 0 ∧ t = (if
    mhAtTick w then mhTick w else d.now + 1) ∧ x = ⟨q, w, none, .staged t⟩ ∧ d1 =
    { d with cx := { d.cx with work := d.cx.work ++ [x] } } ∧ mhOp w = 3) ∧
  (∃ (s : State) (d d1 : Dev) (q w t : Nat) (x : MhWork), s.begun = d ∧ d.runsMalthouse = true ∧ d.mhStatus q w = 0 ∧ t = (if
    mhAtTick w then mhTick w else d.now + 1) ∧ x = ⟨q, w, none, .staged t⟩ ∧ d1 =
    { d with cx := { d.cx with work := d.cx.work ++ [x] } } ∧ mhOp w = 4 ∧ mhAtTick w = false) ∧
  (∃ (s : State) (d d1 : Dev) (q w t : Nat) (x : MhWork), s.begun = d ∧ d.runsMalthouse = true ∧ d.mhStatus q w = 0 ∧ t = (if
    mhAtTick w then mhTick w else d.now + 1) ∧ x = ⟨q, w, none, .staged t⟩ ∧ d1 =
    { d with cx := { d.cx with work := d.cx.work ++ [x] } } ∧ mhOp w = 4 ∧ mhAtTick w = true) ∧
  (∃ (s : State) (d d1 : Dev) (q w t : Nat) (x : MhWork), s.begun = d ∧ d.runsMalthouse = true ∧ d.mhStatus q w = 0 ∧ t = (if
    mhAtTick w then mhTick w else d.now + 1) ∧ x = ⟨q, w, none, .staged t⟩ ∧ d1 =
    { d with cx := { d.cx with work := d.cx.work ++ [x] } } ∧ mhOp w = 5 ∧ mhForce w = true) ∧
  (∃ (s : State) (d d1 : Dev) (q w t : Nat) (x : MhWork), s.begun = d ∧ d.runsMalthouse = true ∧ d.mhStatus q w = 0 ∧ t = (if
    mhAtTick w then mhTick w else d.now + 1) ∧ x = ⟨q, w, none, .staged t⟩ ∧ d1 =
    { d with cx := { d.cx with work := d.cx.work ++ [x] } } ∧ mhOp w = 5 ∧ mhForce w = false ∧ mhAtTick w = true) ∧
  (∃ (s : State) (d d1 : Dev) (q w t : Nat) (x : MhWork), s.begun = d ∧ d.runsMalthouse = true ∧ d.mhStatus q w = 0 ∧ t = (if
    mhAtTick w then mhTick w else d.now + 1) ∧ x = ⟨q, w, none, .staged t⟩ ∧ d1 =
    { d with cx := { d.cx with work := d.cx.work ++ [x] } } ∧ mhOp w = 5 ∧ mhForce w = false ∧ mhAtTick w = false) ∧
  (∃ (d d1 : Dev) (x : MhWork) (t t' : Nat), d.mirroring = false) ∧
  (∃ (d d1 : Dev) (x : MhWork) (t t' : Nat), d.mirroring = true ∧ t' = max t (d.now + d.mirrorLead) ∧ d1 = d.mirror 1 32 t' x.raw) ∧
  (∃ (d d1 : Dev) (x : MhWork) (t t' : Nat), d1 = d.emit (.mediaEvent (mhHost x.raw) (mhDpa x.raw) (mhLen x.raw))) ∧
  (∃ (s : State) (d : Dev) (x : MhWork) (q tag w h v : Nat), s.begun = d ∧ x.raw = w ∧ mhHost w = h ∧ mhVppb w = v ∧ firstThat
    d.cx.work (fun x => x.queue == q && mhTag x.raw == tag &&
    (match x.phase with | .staged t => decide (t ≤ d.now) | .attention t => decide (t ≤ d.now) | _ => false)) = some x ∧
    d.targetGone w = true ∧ mhOp w = 1) ∧
  (∃ (s : State) (d : Dev) (x : MhWork) (q tag w h v : Nat), s.begun = d ∧ x.raw = w ∧ mhHost w = h ∧ mhVppb w = v ∧ firstThat
    d.cx.work (fun x => x.queue == q && mhTag x.raw == tag &&
    (match x.phase with | .staged t => decide (t ≤ d.now) | .attention t => decide (t ≤ d.now) | _ => false)) = some x ∧
    d.targetGone w = true ∧ mhOp w ≠ 1) ∧
  (∃ (s : State) (d : Dev) (x : MhWork) (q tag w h v : Nat), ∃ t d1, s.begun = d ∧ x.raw = w ∧ mhHost w = h ∧ mhVppb w = v ∧
    firstThat d.cx.work (fun x => x.queue == q && mhTag x.raw == tag &&
    (match x.phase with | .staged t => decide (t ≤ d.now) | .attention t => decide (t ≤ d.now) | _ => false)) = some x ∧
    d.targetGone w = false ∧ x.phase = .attention t ∧ d1 = (d.setVppb h v
    { d.vppb h v with attention := true, since := d.now }).emit (.hotPlug h v hpAttention)) ∧
  (∃ (s : State) (d : Dev) (x : MhWork) (q tag w h v : Nat), ∃ t, s.begun = d ∧ x.raw = w ∧ mhHost w = h ∧ mhVppb w = v ∧ firstThat
    d.cx.work (fun x => x.queue == q && mhTag x.raw == tag &&
    (match x.phase with | .staged t => decide (t ≤ d.now) | .attention t => decide (t ≤ d.now) | _ => false)) = some x ∧
    d.targetGone w = false ∧ x.phase = .staged t ∧ (mhOp w = 4 ∨ mhOp w = 5) ∧ mhForce w = false ∧ x.mirror = none) ∧
  (∃ (s : State) (d : Dev) (x : MhWork) (q tag w h v : Nat), ∃ t, s.begun = d ∧ x.raw = w ∧ mhHost w = h ∧ mhVppb w = v ∧ firstThat
    d.cx.work (fun x => x.queue == q && mhTag x.raw == tag &&
    (match x.phase with | .staged t => decide (t ≤ d.now) | .attention t => decide (t ≤ d.now) | _ => false)) = some x ∧
    d.targetGone w = false ∧ x.phase = .staged t ∧ ((mhOp w ≠ 4 ∧ mhOp w ≠ 5) ∨ mhForce w = true ∨ x.mirror ≠ none)) ∧
  (∃ (d d1 : Dev) (w h v k ld : Nat), mhHost w = h ∧ mhVppb w = v ∧ mhPort w = k ∧ mhLd w = ld ∧ mhOp w = 1 ∧ d1 = d.setVppb h v
    { use := .bound, target := some (k, ld), presence := true, active := true, since := d.now }) ∧
  (∃ (d d1 : Dev) (w h v k ld : Nat), mhHost w = h ∧ mhVppb w = v ∧ mhPort w = k ∧ mhLd w = ld ∧ mhOp w = 2 ∧ d1 = (if mhOpt w = 2
    then (match (d.vppb h v).target with | some (k, ld) => d.poisonReqs k (fun r => r.host == h && r.ld == ld) | none => d) else
    d)) ∧
  (∃ (d d1 : Dev) (w h v k ld : Nat), mhHost w = h ∧ mhVppb w = v ∧ mhPort w = k ∧ mhLd w = ld ∧ mhOp w = 3) ∧
  (∃ (d d1 : Dev) (w h v k ld : Nat), mhHost w = h ∧ mhVppb w = v ∧ mhPort w = k ∧ mhLd w = ld ∧ mhOp w = 4) ∧
  (∃ (d d1 : Dev) (w h v k ld : Nat), mhHost w = h ∧ mhVppb w = v ∧ mhPort w = k ∧ mhLd w = ld ∧ mhOp w = 5) ∧
  (∃ (d d1 : Dev) (h v : Nat) (dpc : Bool), d1 =
    (match (d.vppb h v).target with | some (k, ld) => if k = 0xFF then d else d.setLd k ld { d.ldOf k ld with bound := none } | none => d)) ∧
  (∃ (s : State) (d d1 : Dev) (h v : Nat), ∃ t x, s.begun = d ∧ firstThat d.cx.work (fun x => x.waitsHost h v) = some x ∧ x.phase =
    .hostWait t ∧ 1024 * orOne (d.fld rCxCtl 8 12) ≤ d.since t ∧ d1 = (d.setVppb h v
    { d.vppb h v with use := .bound, attention := false, since := d.now }).mhComplete x 10) ∧
  (∃ (s : State) (d d1 : Dev) (h v : Nat), ∃ x, s.begun = d ∧ d1 = d.setVppb h v { d.vppb h v with hostOff := true } ∧ firstThat
    d.cx.work (fun x => x.waitsHost h v) = some x) ∧
  (∃ (s : State) (d d1 : Dev) (h v : Nat), s.begun = d ∧ d1 = d.setVppb h v { d.vppb h v with hostOff := true } ∧ firstThat
    d.cx.work (fun x => x.waitsHost h v) = none) ∧
  (∃ (s : State) (d : Dev) (h port ld dpa len t : Nat) (x : MhWork), s.begun = d ∧ d.dcWork h = some x ∧ x.phase = .dcWait t ∧ mhOp
    x.raw = 4) ∧
  (∃ (s : State) (d : Dev) (h port ld dpa len t : Nat) (x : MhWork), s.begun = d ∧ d.dcWork h = some x ∧ x.phase = .dcWait t ∧ mhOp
    x.raw = 5) ∧
  (∃ (s : State) (d : Dev) (h port ld dpa len t : Nat) (x : MhWork), s.begun = d ∧ d.dcWork h = some x ∧ x.phase = .dcWait t ∧ 1024
    * orOne (d.fld rCxCtl 20 12) ≤ d.since t) ∧
  (∃ (s : State) (d d1 : Dev) (h port ld dpa len : Nat) (e : Extent) (b : Nat × Nat), s.begun = d ∧ d.dcWork h = none ∧ firstThat
    d.cx.extents (fun e => e.port == port && e.ld == ld && e.dpa == dpa && e.len == len) = some e ∧ (d.ldOf port ld).bound =
    some b ∧ b.1 = h ∧ d1 = d.dropExtent (releaseOf h e)) :=
  ⟨⟨up {}, _, 0, 0, rfl, by decide, by decide⟩,
   ⟨up {}, _, 0, 0, _, rfl, by decide, rfl, by decide⟩,
   ⟨up (pair { state := .paired }), _, _, 0, 1 + 2 ^ 40 + 5 * 2 ^ 48, rfl, by decide, by decide, by decide, by decide, by decide,
     rfl⟩,
   ⟨up (pair {}), _, { on with sp := { slots := [(0, { use := .on })] } }, 0, 1 + 2 ^ 40 + 5 * 2 ^ 48, rfl, by decide, by decide,
     by decide, by decide⟩,
   ⟨{}, _, 15, 1, 0, 0, _, rfl, rfl⟩,
   ⟨up (cxl [(5, dcd none)] []), _, _, 0, 1 + 2 ^ 40 + 5 * 2 ^ 48, _, _, rfl, by decide, by decide, rfl, rfl, rfl, by decide⟩,
   ⟨up (cxl [(5, dcd (some (0, 1)))] [(1, { use := .bound, target := some (5, 0) })]), _, _, 0, 2 + 2 * 2 ^ 8 + 2 ^ 40, _, _, _,
     rfl, by decide, by decide, rfl, rfl, rfl, by decide, rfl, by decide⟩,
   ⟨up (cxl [(5, dcd (some (0, 1)))] [(1, { use := .bound, target := some (5, 0) })]), _, _, 0, 2 + 2 ^ 8 + 2 ^ 40, _, _, _, rfl,
     by decide, by decide, rfl, rfl, rfl, by decide, rfl, by decide, by decide⟩,
   ⟨up (cxl [(5, dcd (some (0, 1)))] [(1, { use := .bound, target := some (5, 0) })]), _, _, 0, 2 + 2 ^ 40, _, _, _, rfl, by
     decide, by decide, rfl, rfl, rfl, by decide, rfl, by decide, by decide⟩,
   ⟨up (cxl [(5, dcd none)] []), _, _, 0, 3 + 5 * 2 ^ 48 + 2 ^ 28 * 2 ^ 128, _, _, rfl, by decide, by decide, rfl, rfl, rfl, by
     decide⟩,
   ⟨up (cxl [(5, dcd (some (0, 1)))] []), _, _, 0, 4 + 5 * 2 ^ 48 + 2 ^ 12 * 2 ^ 128, _, _, rfl, by decide, by decide, rfl, rfl,
     rfl, by decide, by decide⟩,
   ⟨up (cxl [(5, dcd (some (0, 1)))] []), _, _, 0, 4 + 2 ^ 10 + 5 * 2 ^ 48 + 2 ^ 12 * 2 ^ 128 + 2 * 2 ^ 192, _, _, rfl, by decide,
     by decide, rfl, rfl, rfl, by decide, by decide⟩,
   ⟨up (cxl [(5, dcd (some (0, 1)))] []), _, _, 0, 5 + 2 ^ 11 + 5 * 2 ^ 48 + 2 ^ 12 * 2 ^ 128, _, _, rfl, by decide, by decide,
     rfl, rfl, rfl, by decide, by decide⟩,
   ⟨up (cxl [(5, dcd (some (0, 1)))] []), _, _, 0, 5 + 2 ^ 10 + 5 * 2 ^ 48 + 2 ^ 12 * 2 ^ 128 + 2 * 2 ^ 192, _, _, rfl, by decide,
     by decide, rfl, rfl, rfl, by decide, by decide, by decide⟩,
   ⟨up (cxl [(5, dcd (some (0, 1)))] []), _, _, 0, 5 + 5 * 2 ^ 48 + 2 ^ 12 * 2 ^ 128, _, _, rfl, by decide, by decide, rfl, rfl,
     rfl, by decide, by decide, by decide⟩,
   ⟨{}, {}, ⟨0, 1, none, .staged 0⟩, 0, 0, by decide⟩,
   ⟨pair { state := .paired }, _, ⟨0, 1, none, .staged 0⟩, 0, _, by decide, rfl, rfl⟩,
   ⟨{}, _, ⟨0, 1, none, .staged 0⟩, 0, 0, rfl⟩,
   ⟨up (works (cxl [(5, { dcd none with removeAfter := some 0 })] []) [⟨0, 1 + 2 ^ 40 + 5 * 2 ^ 48, none, .staged 0⟩]), _, ⟨0, 1 +
     2 ^ 40 + 5 * 2 ^ 48, none, .staged 0⟩, 0, 0, _, _, _, rfl, rfl, rfl, rfl, by decide, by decide, by decide⟩,
   ⟨up (works (cxl [(5, { dcd none with removeAfter := some 0 })] []) [⟨0, 4 + 5 * 2 ^ 48, none, .staged 0⟩]), _, ⟨0, 4 + 5 * 2 ^
     48, none, .staged 0⟩, 0, 0, _, _, _, rfl, rfl, rfl, rfl, by decide, by decide, by decide⟩,
   ⟨up { cx := { work := [⟨0, 2 + 2 ^ 40, none, .attention 0⟩] } }, _, ⟨0, 2 + 2 ^ 40, none, .attention 0⟩, 0, 0, _, _, _, 0, _,
     rfl, rfl, rfl, rfl, by decide, by decide, by decide, rfl⟩,
   ⟨up { cx := { work := [⟨0, 4 + 5 * 2 ^ 48, none, .staged 0⟩] } }, _, ⟨0, 4 + 5 * 2 ^ 48, none, .staged 0⟩, 0, 0, _, _, _, 0,
     rfl, rfl, rfl, rfl, by decide, by decide, by decide, by decide, by decide, by decide⟩,
   ⟨up { cx := { work := [⟨0, 1 + 2 ^ 40 + 5 * 2 ^ 48, none, .staged 0⟩] } }, _, ⟨0, 1 + 2 ^ 40 + 5 * 2 ^ 48, none, .staged 0⟩, 0,
     0, _, _, _, 0, rfl, rfl, rfl, rfl, by decide, by decide, by decide, by decide⟩,
   ⟨{ on with sp := { slots := [(0, { use := .on })] } }, _, 1, _, _, _, _, rfl, rfl, rfl, rfl, by decide, rfl⟩,
   ⟨{ on with sp := { slots := [(0, { use := .on })] } }, { on with sp := { slots := [(0, { use := .on })] } }, 2, _, _, _, _, rfl,
     rfl, rfl, rfl, by decide, by decide⟩,
   ⟨{ on with sp := { slots := [(0, { use := .on })] } }, { on with sp := { slots := [(0, { use := .on })] } }, 3, _, _, _, _, rfl,
     rfl, rfl, rfl, by decide⟩,
   ⟨{ on with sp := { slots := [(0, { use := .on })] } }, { on with sp := { slots := [(0, { use := .on })] } }, 4, _, _, _, _, rfl,
     rfl, rfl, rfl, by decide⟩,
   ⟨{ on with sp := { slots := [(0, { use := .on })] } }, { on with sp := { slots := [(0, { use := .on })] } }, 5, _, _, _, _, rfl,
     rfl, rfl, rfl, by decide⟩,
   ⟨{ on with sp := { slots := [(0, { use := .on })] } }, { on with sp := { slots := [(0, { use := .on })] } }, 0xFF, 0xFF, true,
     by decide⟩,
   ⟨up { st := { tick := 2 ^ 20 }, cx := { work := [⟨0, 2 + 2 ^ 40, none, .hostWait 0⟩] } }, _, _, 0, 1, _, _, rfl, rfl, rfl, by
     decide, rfl⟩,
   ⟨up { cx := { work := [⟨0, 2 + 2 ^ 40, none, .hostWait 0⟩] } }, _, _, 0, 1, _, rfl, rfl, rfl⟩,
   ⟨up {}, _, _, 0, 1, rfl, rfl, by decide⟩,
   ⟨up { cx := { work := [⟨0, 4, none, .dcWait 0⟩] } }, _, 0, 4, 4, 4, 4, _, _, rfl, rfl, rfl, by decide⟩,
   ⟨up { st := { tick := 2 ^ 20 }, cx := { work := [⟨0, 5, none, .dcWait 0⟩] } }, _, 0, 5, 5, 5, 5, _, _, rfl, rfl, rfl, by decide⟩,
   ⟨up { st := { tick := 2 ^ 20 }, cx := { work := [⟨0, 5, none, .dcWait 0⟩] } }, _, 0, 1024, 1024, 1024, 1024, _, _, rfl, rfl,
     rfl, by decide⟩,
   ⟨up { cx := { extents := [⟨5, 0, 0, 0, 4096⟩], ports := [(5, dcd (some (0, 1)))] } }, _, _, 0, 5, 0, 0, 4096, _, _, rfl, by
     decide, rfl, rfl, by decide, rfl⟩⟩

theorem witness_CxlPortsComeAndGo :
  (∃ (s : State) (d d0 d1 d2 : Dev) (k : Nat) (link : Bool), s.begun = d ∧ d.cxRole k = 2 ∧ (d.cxPort k).link = .up ∧ d0 =
    d.raiseIf (link && !((d.boundTo k).any (fun b => decide ((d.vppb b.1 b.2.1).use = .unbinding)))) evCxCxlLinkDown (256 + k) ∧
    d1 = d0.discardQueue (256 + k) ∧ d2 = d1.poisonReqs k (fun _ => true)) ∧
  (∃ (d : Dev) (k : Nat) (p : MemReq → Bool) (live : List MemReq), live = (d.cxPort k).reqs.filter (fun r => p r && !r.orphan)) ∧
  (∃ (s : State) (d d1 d2 : Dev) (k t : Nat), s.begun = d ∧ (d.cxPort k).removeAfter = some t ∧ d.since t ≠ 0 ∧ d1 = forEach
    (d.cx.work.filter (fun x =>
    match d.mhLdOf x.raw, x.phase with | _, .forwarded _ => false | some l, _ => l.1 == k | none, _ => false)) (fun x d =>
    d.mhRemoved x) d ∧ d2 = forEach (d1.boundTo k) (fun (b : Nat × Nat × Nat) (d : Dev) => d.unbindNow b.1 b.2.1 true) d1) ∧
  (∃ (s : State) (d : Dev) (k : Nat) (x : CxPort) (p : CxPartner), s.begun = d ∧ d.cxPort k = x ∧ d.cxRole k = 2 ∧ (x.link =
    .training ∨ x.link = .contained) ∧ x.removeAfter = none ∧ p.accepted = false) ∧
  (∃ (s : State) (d : Dev) (k : Nat) (x : CxPort) (p : CxPartner), ∃ d1 : Dev, s.begun = d ∧ d.cxPort k = x ∧ d.cxRole k = 2 ∧
    (x.link = .training ∨ x.link = .contained) ∧ x.removeAfter = none ∧ p.accepted = true ∧ d1 = ((d.setCx k
    { x with link := .up, rate := p.rate, width := p.width, kind := if p.mld then 2 else 1, dcd := p.dcd, ldCount := p.lds.length, total := p.total, block := p.block, regions := p.regions, lds := forEach (upFrom 0 p.lds.length) (fun i (t : Tbl LdState) => Tbl.put {} i (LdState.mk true none (p.lds.getD i 0)) t) [], reqs := [], timeouts := 0, poisonTold := false }).raiseIf
    (decide (p.rate < 3) || decide (p.width < d.outLanes (256 + k))) evCxLinkDegraded (256 + k)).raise evCxDevAdded (256 + k)) ∧
  (∃ (s : State) (d : Dev) (k : Nat), s.begun = d ∧ d.cxRole k = 1 ∧ (d.cxPort k).link = .up) ∧
  (∃ (d d1 d2 d3 : Dev) (k h : Nat) (link : CxLink), h = d.cxPortHost k ∧ d1 = forEach (Tbl.keys d.cx.ports) (fun q (d : Dev) =>
    d.setCx q
    { d.cxPort q with reqs := mapWhere (d.cxPort q).reqs (fun r => r.host == h) (fun r => { r with orphan := true }) }) d ∧ d2 =
    d1.discardQueue (256 + k) ∧ d3 = ((d2.setCx k { d2.cxPort k with link := link, rate := 0, width := 0 }).latchCx k 6 h
    0).raise evCxHostDown (256 + k)) ∧
  (∃ (s : State) (d d1 : Dev) (k v : Nat), s.begun = d ∧ 9 ≤ d.bt.phase ∧ k < 48 ∧ v < 8 ∧ d.cxRole k = 0) ∧
  (∃ (s : State) (d d1 : Dev) (k v : Nat), s.begun = d ∧ 9 ≤ d.bt.phase ∧ k < 48 ∧ v < 8 ∧ d.cxRole k ≠ 0 ∧ d1 = d.wr rCxPortCtl
    (pack [(1, field v 0 1), (1, 0), (1, field v 2 1)]) k ∧ flag v 1 = true ∧ (d1.cxPort k).link = .contained) ∧
  (∃ (s : State) (d d1 : Dev) (k v : Nat), s.begun = d ∧ 9 ≤ d.bt.phase ∧ k < 48 ∧ v < 8 ∧ d.cxRole k ≠ 0 ∧ d1 = d.wr rCxPortCtl
    (pack [(1, field v 0 1), (1, 0), (1, field v 2 1)]) k ∧ (flag v 1 = false ∨ (d1.cxPort k).link ≠ .contained)) ∧
  (∃ (d : Dev) (k : Nat) (may : Bool), may = (flag (d.rd rCxPortCtl k) 0 && !(flag (d.rd rCxPortCtl k) 2) && decide (d.cxRole k ≠
    0))) ∧
  (∃ (s : State) (d d1 : Dev) (tile : Nat), s.begun = d ∧ d1 = d.latchCx ((d.cxTilePorts tile).headD 0) 5 0 0) :=
  ⟨⟨up (cxl [(5, { link := .up })] []), _, _, _, _, 5, true, rfl, by decide, by decide, rfl, rfl, rfl⟩,
   ⟨{}, 0, fun _ => true, _, rfl⟩,
   ⟨up { cxl [(5, { dcd none with removeAfter := some 0 })] [] with st := { tick := 1 } }, _, _, _, 5, _, rfl, rfl, by decide, rfl,
     rfl⟩,
   ⟨up (cxl [(5, { link := .training })] []), _, 5, _, ⟨false, false, false, [], 0, 1, [], 3, 2⟩, rfl, rfl, by decide, by decide,
     by decide, by decide⟩,
   ⟨up (cxl [(5, { link := .training })] []), _, 5, _, ⟨true, true, true, [2 ^ 28], 2 ^ 30, 2 ^ 28, [], 2, 8⟩, _, rfl, rfl, by
     decide, by decide, by decide, by decide, rfl⟩,
   ⟨up (cxl [(0, { link := .up })] []), _, 0, rfl, by decide, by decide⟩,
   ⟨cxl [(0, { link := .up })] [], _, _, _, 0, _, .disabled, rfl, rfl, rfl, rfl⟩,
   ⟨up on, _, on, 47, 7, rfl, by decide, by decide, by decide, by decide⟩,
   ⟨up (cxl [(0, { link := .contained })] []), _, _, 0, 7, rfl, by decide, by decide, by decide, by decide, rfl, by decide, by
     decide⟩,
   ⟨up (cxl [(0, { link := .up })] []), _, _, 0, 7, rfl, by decide, by decide, by decide, by decide, rfl, by decide⟩,
   ⟨{ on with sp := { slots := [(0, { use := .on })] } }, 0, _, rfl⟩,
   ⟨up {}, _, _, 2, rfl, rfl⟩⟩

theorem witness_WindowAccesses :
  (∃ (s : State) (d : Dev) (host tag dpa mask data : Nat), s.begun = d ∧ d.winAt host dpa = none) ∧
  (∃ (s : State) (d : Dev) (host tag dpa mask data : Nat), ∃ w, s.begun = d ∧ d.winAt host dpa = some w ∧ (d.win w).use ≠ .active) ∧
  (∃ (s : State) (d : Dev) (host tag dpa mask data : Nat), ∃ w, s.begun = d ∧ d.winAt host dpa = some w ∧ (d.win w).use = .active ∧
    d.wn.blocked.any (fun y => y.host == host && y.dpa / 128 == dpa / 128) = true) ∧
  (∃ (s : State) (d : Dev) (host tag dpa mask data : Nat), ∃ w, ∃ (x : WnWait), ∃ (y : WnWait), ∃ l, s.begun = d ∧ d.winAt host dpa
    = some w ∧ (d.win w).use = .active ∧ d.wn.blocked.any (fun y => y.host == host && y.dpa / 128 == dpa / 128) = false ∧ x =
    ⟨host, tag, dpa, none, d.now⟩ ∧ y = ⟨host, tag, dpa, some (mask, data), d.now⟩ ∧ d.wnLine w (dpa / 128) = some l ∧ d.lineOld
    l = false ∧ l.valid (dpa / 64 % 2) = true) ∧
  (∃ (s : State) (d : Dev) (host tag dpa mask data : Nat), ∃ w, ∃ (x : WnWait), ∃ (y : WnWait), ∃ l, s.begun = d ∧ d.winAt host dpa
    = some w ∧ (d.win w).use = .active ∧ d.wn.blocked.any (fun y => y.host == host && y.dpa / 128 == dpa / 128) = false ∧ x =
    ⟨host, tag, dpa, none, d.now⟩ ∧ y = ⟨host, tag, dpa, some (mask, data), d.now⟩ ∧ d.wnLine w (dpa / 128) = some l ∧ d.lineOld
    l = false ∧ l.valid (dpa / 64 % 2) = false) ∧
  (∃ (s : State) (d : Dev) (host tag dpa mask data : Nat), ∃ w, ∃ (x : WnWait), ∃ (y : WnWait), ∃ l, s.begun = d ∧ d.winAt host dpa
    = some w ∧ (d.win w).use = .active ∧ d.wn.blocked.any (fun y => y.host == host && y.dpa / 128 == dpa / 128) = false ∧ x =
    ⟨host, tag, dpa, none, d.now⟩ ∧ y = ⟨host, tag, dpa, some (mask, data), d.now⟩ ∧ d.wnLine w (dpa / 128) = some l ∧ d.lineOld
    l = true) ∧
  (∃ (s : State) (d : Dev) (host tag dpa mask data : Nat), ∃ w, ∃ (x : WnWait), ∃ (y : WnWait), s.begun = d ∧ d.winAt host dpa =
    some w ∧ (d.win w).use = .active ∧ d.wn.blocked.any (fun y => y.host == host && y.dpa / 128 == dpa / 128) = false ∧ x =
    ⟨host, tag, dpa, none, d.now⟩ ∧ y = ⟨host, tag, dpa, some (mask, data), d.now⟩ ∧ d.winMode w = 1) ∧
  (∃ (s : State) (d : Dev) (host tag dpa mask data : Nat), ∃ w, ∃ (x : WnWait), ∃ (y : WnWait), ∃ l, s.begun = d ∧ d.winAt host dpa
    = some w ∧ (d.win w).use = .active ∧ d.wn.blocked.any (fun y => y.host == host && y.dpa / 128 == dpa / 128) = false ∧ x =
    ⟨host, tag, dpa, none, d.now⟩ ∧ y = ⟨host, tag, dpa, some (mask, data), d.now⟩ ∧ d.winMode w ≠ 1 ∧ d.wnLine w (dpa / 128) =
    some l ∧ mask = 2 ^ 64 - 1) ∧
  (∃ (s : State) (d : Dev) (host tag dpa mask data : Nat), ∃ w, ∃ (x : WnWait), ∃ (y : WnWait), ∃ l, s.begun = d ∧ d.winAt host dpa
    = some w ∧ (d.win w).use = .active ∧ d.wn.blocked.any (fun y => y.host == host && y.dpa / 128 == dpa / 128) = false ∧ x =
    ⟨host, tag, dpa, none, d.now⟩ ∧ y = ⟨host, tag, dpa, some (mask, data), d.now⟩ ∧ d.winMode w ≠ 1 ∧ d.wnLine w (dpa / 128) =
    some l ∧ mask ≠ 2 ^ 64 - 1 ∧ l.valid (dpa / 64 % 2) = true) ∧
  (∃ (s : State) (d : Dev) (host tag dpa mask data : Nat), ∃ w, ∃ (x : WnWait), ∃ (y : WnWait), ∃ l, s.begun = d ∧ d.winAt host dpa
    = some w ∧ (d.win w).use = .active ∧ d.wn.blocked.any (fun y => y.host == host && y.dpa / 128 == dpa / 128) = false ∧ x =
    ⟨host, tag, dpa, none, d.now⟩ ∧ y = ⟨host, tag, dpa, some (mask, data), d.now⟩ ∧ d.winMode w ≠ 1 ∧ d.wnLine w (dpa / 128) =
    some l ∧ mask ≠ 2 ^ 64 - 1 ∧ l.valid (dpa / 64 % 2) = false) ∧
  (∃ (s : State) (d : Dev) (host tag dpa mask data : Nat), ∃ w, ∃ (x : WnWait), ∃ (y : WnWait), s.begun = d ∧ d.winAt host dpa =
    some w ∧ (d.win w).use = .active ∧ d.wn.blocked.any (fun y => y.host == host && y.dpa / 128 == dpa / 128) = false ∧ x =
    ⟨host, tag, dpa, none, d.now⟩ ∧ y = ⟨host, tag, dpa, some (mask, data), d.now⟩ ∧ d.winMode w ≠ 1 ∧ d.wnLine w (dpa / 128) =
    none ∧ mask ≠ 2 ^ 64 - 1) ∧
  (∃ (s : State) (d : Dev) (host tag dpa mask data : Nat), ∃ w, ∃ (x : WnWait), ∃ (y : WnWait), ∃ l : WnLine, ∃ d1, s.begun = d ∧
    d.winAt host dpa = some w ∧ (d.win w).use = .active ∧ d.wn.blocked.any (fun y => y.host == host && y.dpa / 128 == dpa / 128)
    = false ∧ x = ⟨host, tag, dpa, none, d.now⟩ ∧ y = ⟨host, tag, dpa, some (mask, data), d.now⟩ ∧ d.winMode w ≠ 1 ∧ d.wnLine w
    (dpa / 128) = none ∧ l = { window := w, line := dpa / 128, stamp := d.st.boundaries } ∧ mask = 2 ^ 64 - 1 ∧ d.allocLine l =
    some d1) ∧
  (∃ (s : State) (d : Dev) (host tag dpa mask data : Nat), ∃ w, ∃ (x : WnWait), ∃ (y : WnWait), ∃ l : WnLine, s.begun = d ∧ d.winAt
    host dpa = some w ∧ (d.win w).use = .active ∧ d.wn.blocked.any (fun y => y.host == host && y.dpa / 128 == dpa / 128) = false
    ∧ x = ⟨host, tag, dpa, none, d.now⟩ ∧ y = ⟨host, tag, dpa, some (mask, data), d.now⟩ ∧ d.winMode w ≠ 1 ∧ d.wnLine w (dpa /
    128) = none ∧ l = { window := w, line := dpa / 128, stamp := d.st.boundaries } ∧ mask = 2 ^ 64 - 1 ∧ d.allocLine l = none) ∧
  (∃ (d : Dev) (l : WnLine), ∃ d1 : Dev, ((d.winMax l.window = 0 ∨ countWhere d.wn.lines (fun x => x.window == l.window) < d.winMax
    l.window) ∧ d1 = d ∨ (∃ v, d.winMax l.window ≠ 0 ∧ d.winMax l.window ≤ countWhere d.wn.lines (fun x => x.window == l.window)
    ∧ d.victim (fun x => x.window == l.window) = some v ∧ d1 = (d.evict v).raise evWnLineQuota l.window)) ∧ countWhere
    d1.wn.lines (fun x => decide (x.set = l.set)) < 16) ∧
  (∃ (d : Dev) (l : WnLine), ∃ d1 : Dev, ∃ v, ((d.winMax l.window = 0 ∨ countWhere d.wn.lines (fun x => x.window == l.window) <
    d.winMax l.window) ∧ d1 = d ∨ (∃ v, d.winMax l.window ≠ 0 ∧ d.winMax l.window ≤ countWhere d.wn.lines (fun x => x.window ==
    l.window) ∧ d.victim (fun x => x.window == l.window) = some v ∧ d1 = (d.evict v).raise evWnLineQuota l.window)) ∧ 16 ≤
    countWhere d1.wn.lines (fun x => decide (x.set = l.set)) ∧ d1.victim (fun x => decide (x.set = l.set)) = some v) ∧
  (∃ (d : Dev) (l : WnLine), ∃ d1 : Dev, ((d.winMax l.window = 0 ∨ countWhere d.wn.lines (fun x => x.window == l.window) < d.winMax
    l.window) ∧ d1 = d ∨ (∃ v, d.winMax l.window ≠ 0 ∧ d.winMax l.window ≤ countWhere d.wn.lines (fun x => x.window == l.window)
    ∧ d.victim (fun x => x.window == l.window) = some v ∧ d1 = (d.evict v).raise evWnLineQuota l.window)) ∧ 16 ≤ countWhere
    d1.wn.lines (fun x => decide (x.set = l.set)) ∧ d1.victim (fun x => decide (x.set = l.set)) = none) ∧
  (∃ (d : Dev) (l : WnLine), d.winMax l.window ≠ 0 ∧ d.winMax l.window ≤ countWhere d.wn.lines (fun x => x.window == l.window) ∧
    d.victim (fun x => x.window == l.window) = none) ∧
  (∃ (d : Dev) (l : WnLine), l.dirty = true) ∧
  (∃ (d : Dev) (l : WnLine), l.dirty = false) ∧
  (∃ (d : Dev) (w : Nat) (x : WnWait) (block : Nat), block = x.dpa / d.winBlock w * d.winBlock w ∧ d.wnLine w (x.dpa / 128) = none
    ∧ d.allocLine { window := w, line := x.dpa / 128, use := .filling } = none) ∧
  (∃ (d : Dev) (w : Nat) (x : WnWait) (block : Nat), ∃ d1 : Dev, ∃ f, block = x.dpa / d.winBlock w * d.winBlock w ∧ ((d.wnLine w
    (x.dpa / 128) = none ∧ d.allocLine { window := w, line := x.dpa / 128, use := .filling } = some d1) ∨ (∃ l, d.wnLine w
    (x.dpa / 128) = some l ∧ d1 = if l.use = .clean then d.setLine { l with use := .filling } else d)) ∧ firstThat d1.wn.fills
    (fun f => f.of w block) = some f) ∧
  (∃ (d : Dev) (w : Nat) (x : WnWait) (block : Nat), ∃ d1 : Dev, ∃ d2 : Dev, block = x.dpa / d.winBlock w * d.winBlock w ∧
    ((d.wnLine w (x.dpa / 128) = none ∧ d.allocLine { window := w, line := x.dpa / 128, use := .filling } = some d1) ∨ (∃ l,
    d.wnLine w (x.dpa / 128) = some l ∧ d1 = if l.use = .clean then d.setLine { l with use := .filling } else d)) ∧ d2 = forEach
    (upFrom (block / 128) (d1.winBlock w / 128)) (Dev.fillLine w) d1 ∧ firstThat d1.wn.fills (fun f => f.of w block) = none) ∧
  (∃ (s : State) (d : Dev) (host tag : Nat) (late : WnWait → Bool), ∃ (f : WnFill) (x : WnWait), s.begun = d ∧ late = (fun x =>
    x.host == host && x.tag == tag && x.write.isNone && decide (d.readTo ≤ d.since x.since)) ∧ firstThat d.wn.fills (fun f =>
    f.waits.any late) = some f ∧ firstThat f.waits late = some x) ∧
  (∃ (s : State) (d : Dev) (host tag : Nat) (late : WnWait → Bool), ∃ (w : Nat) (x : WnWait), s.begun = d ∧ late = (fun x => x.host
    == host && x.tag == tag && x.write.isNone && decide (d.readTo ≤ d.since x.since)) ∧ firstThat d.wn.fills (fun f =>
    f.waits.any late) = none ∧ firstThat d.wn.blocked late = some x ∧ d.winAt host x.dpa = some w) ∧
  (∃ (s : State) (d : Dev) (num : Nat) (m : Msg), s.begun = d ∧ d.msg num = some m ∧ (m.type = tyWnFill ∨ m.type = tyWnWrite) ∧
    m.id = none ∧ m.phase = .waiting ∧ m.waitRaised = false ∧ 1 < d.waited m.since) ∧
  (∃ (s : State) (d : Dev) (w line : Nat) (l : WnLine), s.begun = d ∧ d.wnLine w line = some l ∧ l.dirty = true ∧ d.wbDelay w ≤
    d.since l.dirtySince ∧ d.wbRuns w line = true) ∧
  (∃ (s : State) (d : Dev) (w line : Nat) (l : WnLine), s.begun = d ∧ d.wnLine w line = some l ∧ l.dirty = true ∧ d.wbDelay w ≤
    d.since l.dirtySince ∧ d.wbRuns w line = false) ∧
  (∃ (d : Dev) (l : WnLine) (home len : Nat) (data : List Byte), ((l.dirty0 = true ∧ l.dirty1 = true ∧ home = d.winHome l.window
    (128 * l.line) ∧ len = 128 ∧ data = toBytes 64 l.data0 ++ toBytes 64 l.data1) ∨ (l.dirty0 = true ∧ l.dirty1 = false ∧ home =
    d.winHome l.window (128 * l.line) ∧ len = 64 ∧ data = toBytes 64 l.data0) ∨ (l.dirty0 = false ∧ home = d.winHome l.window
    (128 * l.line) + 64 ∧ len = 64 ∧ data = toBytes 64 l.data1))) ∧
  (∃ (d : Dev) (f : WnFill), f.sent = false ∧ d.wn.wbs.any (fun b => b.window == f.window && overlaps b.home b.len (d.winHome
    f.window f.block) f.len) = true) ∧
  (∃ (d : Dev) (f : WnFill), f.sent = false ∧ d.wn.wbs.any (fun b => b.window == f.window && overlaps b.home b.len (d.winHome
    f.window f.block) f.len) = false) ∧
  (∃ (s : State) (d d1 : Dev) (p : Packet) (m m' : Msg), s.begun = d ∧ hType p.hdr = tyGetResp ∧ p.crcOk = true ∧ respOk p.hdr
    p.payload = true ∧ d1 = d.setAdv (hSrcNode p.hdr) (hWin p.hdr) ∧ d1.msgById (hMsgId p.hdr) (hFst p.hdr) = some m ∧ m.type =
    tyWnFill ∧ flag m.bitmap (hOffset p.hdr / 4096) = false ∧ hMsgLen p.hdr = m.len ∧ m' =
    { m with bitmap := m.bitmap ||| 2 ^ (hOffset p.hdr / 4096), baton := m.baton + hPayLen p.hdr, rtoFrom := d.now, lastNack := none }
    ∧ m'.baton ≠ m.len) ∧
  (∃ (s : State) (d d1 : Dev) (p : Packet) (m m' : Msg), s.begun = d ∧ hType p.hdr = tyGetResp ∧ p.crcOk = true ∧ respOk p.hdr
    p.payload = true ∧ d1 = d.setAdv (hSrcNode p.hdr) (hWin p.hdr) ∧ d1.msgById (hMsgId p.hdr) (hFst p.hdr) = some m ∧ m.type =
    tyWnFill ∧ flag m.bitmap (hOffset p.hdr / 4096) = false ∧ hMsgLen p.hdr = m.len ∧ m' =
    { m with bitmap := m.bitmap ||| 2 ^ (hOffset p.hdr / 4096), baton := m.baton + hPayLen p.hdr, rtoFrom := d.now, lastNack := none }
    ∧ m'.baton = m.len) ∧
  (∃ (d d1 : Dev) (w num status : Nat) (data : List Byte) (f : WnFill), firstThat d.wn.fills (fun f => f.num == num) = some f ∧ d1
    = { d with wn := { d.wn with fills := d.wn.fills.filter (fun x => x.num != num) } } ∧ f.stale = true ∧ status = stOk) ∧
  (∃ (d d1 : Dev) (w num status : Nat) (data : List Byte) (f : WnFill), firstThat d.wn.fills (fun f => f.num == num) = some f ∧ d1
    = { d with wn := { d.wn with fills := d.wn.fills.filter (fun x => x.num != num) } } ∧ f.stale = true ∧ status ≠ stOk) ∧
  (∃ (d d1 : Dev) (w num status : Nat) (data : List Byte) (f : WnFill), firstThat d.wn.fills (fun f => f.num == num) = some f ∧ d1
    = { d with wn := { d.wn with fills := d.wn.fills.filter (fun x => x.num != num) } } ∧ f.stale = false ∧ status = stOk) ∧
  (∃ (d d1 : Dev) (w num status : Nat) (data : List Byte) (f : WnFill), firstThat d.wn.fills (fun f => f.num == num) = some f ∧ d1
    = { d with wn := { d.wn with fills := d.wn.fills.filter (fun x => x.num != num) } } ∧ f.stale = false ∧ status ≠ stOk) ∧
  (∃ (d d1 d2 : Dev) (w line status : Nat), ∃ (l l' : WnLine) (d3 : Dev), d1 =
    { d with wn := { d.wn with wbs := removeFirst d.wn.wbs (fun b => b.window == w && b.line == line) } } ∧ d2 = (d1.latchWn w 5
    0 status (128 * line)).raise evWnWbFail w ∧ status = stOk ∧ d1.wnLine w line = some l ∧ l' =
    { l with use := if l.use = .wb then .clean else l.use, stamp := d.st.boundaries, again := false } ∧ (((l.again && l.dirty) =
    false ∧ d3 = d1.setLine l') ∨ ((l.again && l.dirty) = true ∧ d3 = (d1.setLine l').startWb w line))) ∧
  (∃ (d d1 d2 : Dev) (w line status : Nat), d1 =
    { d with wn := { d.wn with wbs := removeFirst d.wn.wbs (fun b => b.window == w && b.line == line) } } ∧ d2 = (d1.latchWn w 5
    0 status (128 * line)).raise evWnWbFail w ∧ status = stOk ∧ d1.wnLine w line = none) ∧
  (∃ (d d1 d2 : Dev) (w line status : Nat), d1 =
    { d with wn := { d.wn with wbs := removeFirst d.wn.wbs (fun b => b.window == w && b.line == line) } } ∧ d2 = (d1.latchWn w 5
    0 status (128 * line)).raise evWnWbFail w ∧ status ≠ stOk ∧ (d.win w).use = .active) ∧
  (∃ (d d1 d2 : Dev) (w line status : Nat), d1 =
    { d with wn := { d.wn with wbs := removeFirst d.wn.wbs (fun b => b.window == w && b.line == line) } } ∧ d2 = (d1.latchWn w 5
    0 status (128 * line)).raise evWnWbFail w ∧ status ≠ stOk ∧ (d.win w).use = .draining) ∧
  (∃ (d d1 d2 : Dev) (w line status : Nat), d1 =
    { d with wn := { d.wn with wbs := removeFirst d.wn.wbs (fun b => b.window == w && b.line == line) } } ∧ d2 = (d1.latchWn w 5
    0 status (128 * line)).raise evWnWbFail w ∧ status ≠ stOk ∧ (d.win w).use = .fenced) ∧
  (∃ (s : State) (d : Dev) (h : Nat) (x : WnFlush) (gone : WnLine → Bool), s.begun = d ∧ Tbl.get {} d.wn.flush h = x ∧ x.busy =
    true ∧ x.owed = [] ∧ gone = (fun l => x.inv && !l.dirty && d.lineIdle l && x.covered.any (fun c => c.1 == l.window && c.2 ==
    l.line))) ∧
  (∃ (s : State) (d d1 : Dev) (w : Nat), s.begun = d ∧ (d.win w).use = .draining ∧ d.wn.wbs.all (fun b => b.window != w) = true ∧
    d.wn.lines.all (fun l => l.window != w || !l.dirty) = true ∧ d1 =
    { d with wn := { d.wn with lines := d.wn.lines.filter (fun l => l.window != w) } } ∧ (d.win w).failed = false) ∧
  (∃ (s : State) (d d1 : Dev) (w : Nat), s.begun = d ∧ (d.win w).use = .draining ∧ d.wn.wbs.all (fun b => b.window != w) = true ∧
    d.wn.lines.all (fun l => l.window != w || !l.dirty) = true ∧ d1 =
    { d with wn := { d.wn with lines := d.wn.lines.filter (fun l => l.window != w) } } ∧ (d.win w).failed = true) ∧
  (∃ (s : State) (d d1 d2 : Dev) (p : Packet) (c : EpCtx) (a : Access) (pieces : List (Nat × Nat)) (read : Nat), s.begun = d ∧
    p.crcOk = true ∧ requestOk p = true ∧ (hType p.hdr = tyWnFill ∨ hType p.hdr = tyGetReq) ∧ d.tp.service.isSome = true ∧
    d.ageOf (hFst p.hdr) ≤ d.ageLimit ∧ d.ep (hDstEp p.hdr) = some c ∧ c.onDie = true ∧ d1 = d.touch (hDstEp p.hdr) ∧
    d1.epServes p.hdr = true ∧ d1.early p.hdr = false ∧ d1.prevOk p.hdr = true ∧ recordless p.hdr = true ∧ d1.recFor p.hdr =
    none ∧ a = ⟨hDstEp p.hdr, hAddr p.hdr + hOffset p.hdr, hReqLen p.hdr, .read, true, some (hKey p.hdr), false⟩ ∧ d1.evalTarget
    a {} = .ok pieces ∧ ((hReqLen p.hdr = 0 ∧ read = 0 ∧ d2 = d1.useLeaves a) ∨ (hReqLen p.hdr ≠ 0 ∧ (d1.useLeaves a).fresh =
    (read, d2))) ∧ hType p.hdr = tyWnFill) ∧
  (∃ (s : State) (d d1 d2 : Dev) (p : Packet) (c : EpCtx) (a : Access) (pieces : List (Nat × Nat)) (read : Nat), s.begun = d ∧
    p.crcOk = true ∧ requestOk p = true ∧ (hType p.hdr = tyWnFill ∨ hType p.hdr = tyGetReq) ∧ d.tp.service.isSome = true ∧
    d.ageOf (hFst p.hdr) ≤ d.ageLimit ∧ d.ep (hDstEp p.hdr) = some c ∧ c.onDie = true ∧ d1 = d.touch (hDstEp p.hdr) ∧
    d1.epServes p.hdr = true ∧ d1.early p.hdr = false ∧ d1.prevOk p.hdr = true ∧ recordless p.hdr = true ∧ d1.recFor p.hdr =
    none ∧ a = ⟨hDstEp p.hdr, hAddr p.hdr + hOffset p.hdr, hReqLen p.hdr, .read, true, some (hKey p.hdr), false⟩ ∧ d1.evalTarget
    a {} = .ok pieces ∧ ((hReqLen p.hdr = 0 ∧ read = 0 ∧ d2 = d1.useLeaves a) ∨ (hReqLen p.hdr ≠ 0 ∧ (d1.useLeaves a).fresh =
    (read, d2))) ∧ hType p.hdr = tyGetReq) :=
  ⟨⟨up on, _, 0, 1, 0, 0, 0, rfl, by decide⟩,
   ⟨up (win 2 { use := .draining }), _, 0, 1, 0, 0, 0, _, rfl, rfl, by decide⟩,
   ⟨up (wnd { blocked := [{ host := 0, tag := 2, dpa := 127, since := 0 }] }), _, 0, 1, 0, 0, 0, _, rfl, rfl, by decide, by decide⟩,
   ⟨up (wnd { lines := [line0 true false] }), _, 0, 1, 64, 0, 0, _, _, _, _, rfl, rfl, by decide, rfl, rfl, rfl, rfl, by decide, by
     decide⟩,
   ⟨up (wnd { lines := [line0 false false] }), _, 0, 1, 64, 0, 0, _, _, _, _, rfl, rfl, by decide, rfl, rfl, rfl, rfl, by decide,
     by decide⟩,
   ⟨up { (wnd { lines := [line0 true false] }).wr rWnWinLimit (2 ^ 32) with st := { boundaries := 1 } }, _, 0, 1, 64, 0, 0, _, _,
     _, _, rfl, rfl, by decide, rfl, rfl, rfl, rfl, by decide⟩,
   ⟨up (win 1 { use := .active }), _, 0, 1, 0, 0, 0, _, _, _, rfl, rfl, by decide, rfl, rfl, rfl, by decide⟩,
   ⟨up (wnd { lines := [line0 false false] }), _, 0, 1, 64, 2 ^ 64 - 1, 0, _, _, _, _, rfl, rfl, by decide, rfl, rfl, rfl, by
     decide, rfl, by decide⟩,
   ⟨up (wnd { lines := [line0 true false] }), _, 0, 1, 64, 1, 0, _, _, _, _, rfl, rfl, by decide, rfl, rfl, rfl, by decide, rfl, by
     decide, by decide⟩,
   ⟨up (wnd { lines := [line0 false false] }), _, 0, 1, 64, 1, 0, _, _, _, _, rfl, rfl, by decide, rfl, rfl, rfl, by decide, rfl,
     by decide, by decide⟩,
   ⟨up (wnd {}), _, 0, 1, 2 ^ 28 - 1, 1, 0, _, _, _, rfl, rfl, by decide, rfl, rfl, rfl, by decide, by decide, by decide⟩,
   ⟨up (wnd {}), _, 0, 1, 64, 2 ^ 64 - 1, 0, _, _, _, _, _, rfl, rfl, by decide, rfl, rfl, rfl, by decide, by decide, rfl, by
     decide, rfl⟩,
   ⟨up ((wnd { lines := [{ line0 true false with use := .filling }] }).wr rWnWinLimit 1), _, 0, 1, 128, 2 ^ 64 - 1, 0, _, _, _, _,
     rfl, rfl, by decide, rfl, rfl, rfl, by decide, by decide, rfl, by decide, by decide⟩,
   ⟨{}, line0 true false, _, .inl ⟨by decide, rfl⟩, by decide⟩,
   ⟨{ wn := { lines := List.replicate 16 (line0 true false) } }, line0 true false, _, _, .inl ⟨by decide, rfl⟩, full_set _,
     full_victim⟩,
   ⟨{ wn := { lines := List.replicate 16 { line0 true false with use := .filling } } }, { line0 true false with use := .filling },
     _, .inl ⟨by decide, rfl⟩, full_set _, full_busy⟩,
   ⟨(wnd { lines := [{ line0 true false with use := .filling }] }).wr rWnWinLimit 1, line0 true false, by decide, by decide, by
     decide⟩,
   ⟨{}, line0 true true, by decide⟩,
   ⟨{}, line0 true false, by decide⟩,
   ⟨(wnd { lines := [{ line0 true false with use := .filling }] }).wr rWnWinLimit 1, 0,
     { host := 0, tag := 1, dpa := 128, since := 0 }, _, rfl, by decide, by decide⟩,
   ⟨wnd { lines := [line0 false false], fills := [fill0] }, 0, { host := 0, tag := 1, dpa := 127, since := 0 }, _, _, _, rfl, .inr
     ⟨_, rfl, rfl⟩, rfl⟩,
   ⟨wnd { lines := [line0 false false] }, 0, { host := 0, tag := 1, dpa := 127, since := 0 }, _, _, _, rfl, .inr ⟨_, rfl, rfl⟩,
     rfl, by decide⟩,
   ⟨up { st := { tick := 128 }, wn := { fills := [fill0] } }, _, 0, 1, _, _, _, rfl, rfl, rfl, rfl⟩,
   ⟨up { wnd { blocked := [{ host := 0, tag := 1, dpa := 127, since := 0 }] } with st := { tick := 128 } }, _, 0, 1, _, _, _, rfl,
     rfl, rfl, rfl, rfl⟩,
   ⟨up { st := { boundaries := 2 }, tp := { msgs := [{ msg with type := 0xC }] } }, _, 7, _, rfl, rfl, by decide, by decide, by
     decide, by decide, by decide⟩,
   ⟨up { st := { tick := 16 }, wn := { lines := [{ window := 0, line := 0, dirty0 := true }], wbs := [⟨0, 0, 0, 64⟩] } }, _, 0, 0,
     _, rfl, rfl, by decide, by decide, by decide⟩,
   ⟨up { st := { tick := 16 }, wn := { lines := [{ window := 0, line := 0, dirty0 := true }] } }, _, 0, 0, _, rfl, rfl, by decide,
     by decide, by decide⟩,
   ⟨{}, { line0 true true with data0 := 1 }, _, _, _, .inl ⟨rfl, rfl, rfl, rfl, rfl⟩⟩,
   ⟨{ wn := { wbs := [⟨0, 0, 0, 64⟩] } }, fill0, by decide, by decide⟩,
   ⟨{}, fill0, by decide, by decide⟩,
   ⟨up { tp := { msgs := [{ msg with id := some 9, type := 0xC, len := 8192 }] } }, _, _, pkt (0x82 + 8192 * 2 ^ 192 + 9 * 2 ^ 96),
     _, _, rfl, by decide, pkt_crcOk _ _, by decide, rfl, rfl, by decide, by decide, by decide, rfl, by decide⟩,
   ⟨up { tp := { msgs := [{ msg with id := some 9, type := 0xC, len := 64 }] } }, _, _, pkt (0x82 + 64 * 2 ^ 16 + 9 * 2 ^ 96 + 64 *
     2 ^ 192) (List.replicate 64 0), _, _, rfl, by decide, pkt_crcOk _ _, by decide, rfl, rfl, by decide, by decide, by decide,
     rfl, by decide⟩,
   ⟨wnd { fills := [{ fill0 with stale := true }] }, _, 0, 4, 0, [], _, rfl, rfl, by decide, by decide⟩,
   ⟨wnd { fills := [{ fill0 with stale := true }] }, _, 0, 4, 255, [], _, rfl, rfl, by decide, by decide⟩,
   ⟨wnd { fills := [fill0] }, _, 0, 4, 0, [], _, rfl, rfl, by decide, by decide⟩,
   ⟨wnd { fills := [fill0] }, _, 0, 4, 255, [], _, rfl, rfl, by decide, by decide⟩,
   ⟨wnd { lines := [line0 true false], wbs := [⟨0, 0, 0, 128⟩] }, _, _, 0, 0, 0, _, _, _, rfl, rfl, by decide, rfl, rfl, .inl ⟨by
     decide, rfl⟩⟩,
   ⟨wnd { wbs := [⟨0, 0, 0, 128⟩] }, _, _, 0, 0, 0, rfl, rfl, by decide, by decide⟩,
   ⟨wnd { wbs := [⟨0, 0, 0, 128⟩] }, _, _, 0, 0, 255, rfl, rfl, by decide, by decide⟩,
   ⟨win 2 { use := .draining }, _, _, 0, 0, 255, rfl, rfl, by decide, by decide⟩,
   ⟨win 2 { use := .fenced }, _, _, 0, 0, 255, rfl, rfl, by decide, by decide⟩,
   ⟨up { wn := { flush := [(31, { busy := true })] } }, _, 31, _, _, rfl, rfl, by decide, by decide, rfl⟩,
   ⟨up { wn := { wins := [(255, { use := .draining })] } }, _, _, 255, rfl, by decide, by decide, by decide, rfl, by decide⟩,
   ⟨up { wn := { wins := [(255, { use := .draining, failed := true })] } }, _, _, 255, rfl, by decide, by decide, by decide, rfl,
     by decide⟩,
   ⟨up { mapped (host epc) with tp := { service := some 0 } }, _, _, _, pkt (0xC + 0x300 + 2 ^ 32 + 2 * 2 ^ 64 + 5 * 2 ^ 80 + 3 * 2
     ^ 96 + 64 * 2 ^ 192 + 64 * 2 ^ 384), _, _, _, _, rfl, pkt_crcOk _ _, by decide, by decide, by decide, by decide, rfl, by
     decide, rfl, by decide, by decide, by decide, by decide, by decide, rfl, rfl, .inr ⟨by decide, rfl⟩, by decide⟩,
   ⟨up { mapped (host epc) with tp := { service := some 0 } }, _, _, _, pkt (2 + 0x300 + 2 ^ 32 + 2 * 2 ^ 64 + 5 * 2 ^ 80 + 3 * 2 ^
     96 + 64 * 2 ^ 192 + 64 * 2 ^ 384), _, _, _, _, rfl, pkt_crcOk _ _, by decide, by decide, by decide, by decide, rfl, by
     decide, rfl, by decide, by decide, by decide, by decide, by decide, rfl, rfl, .inr ⟨by decide, rfl⟩, by decide⟩⟩

theorem witness_WindowCommands :
  (∃ (s : State) (d : Dev) (h v : Nat), s.begun = d ∧ v < 2 ^ 64 ∧ (Tbl.get {} d.wn.flush h).busy = true) ∧
  (∃ (s : State) (d : Dev) (h v : Nat), s.begun = d ∧ v < 2 ^ 64 ∧ (Tbl.get {} d.wn.flush h).busy = false ∧ field v 0 2 = 0) ∧
  (∃ (s : State) (d : Dev) (h v : Nat), s.begun = d ∧ v < 2 ^ 64 ∧ (Tbl.get {} d.wn.flush h).busy = false ∧ field v 0 2 = 1 ∧
    d.winServes (field v 8 8) h = true) ∧
  (∃ (s : State) (d : Dev) (h v : Nat), s.begun = d ∧ v < 2 ^ 64 ∧ (Tbl.get {} d.wn.flush h).busy = false ∧ field v 0 2 = 1 ∧
    d.winServes (field v 8 8) h = false) ∧
  (∃ (s : State) (d : Dev) (h v : Nat), s.begun = d ∧ v < 2 ^ 64 ∧ (Tbl.get {} d.wn.flush h).busy = false ∧ field v 0 2 = 2) ∧
  (∃ (s : State) (d : Dev) (v w : Nat), s.begun = d ∧ 9 ≤ d.bt.phase ∧ v < 2 ^ 32 ∧ w = d.fld rWnWinSel 0 8 ∧ field v 0 2 = 1 ∧
    d.enableCode w = 0) ∧
  (∃ (s : State) (d : Dev) (v w : Nat), ∃ c, s.begun = d ∧ 9 ≤ d.bt.phase ∧ v < 2 ^ 32 ∧ w = d.fld rWnWinSel 0 8 ∧ field v 0 2 = 1
    ∧ d.enableCode w = c ∧ c ≠ 0) ∧
  (∃ (s : State) (d : Dev) (v w : Nat), s.begun = d ∧ 9 ≤ d.bt.phase ∧ v < 2 ^ 32 ∧ w = d.fld rWnWinSel 0 8 ∧ field v 0 2 = 2 ∧
    (d.win w).use = .active) ∧
  (∃ (s : State) (d : Dev) (v w : Nat), s.begun = d ∧ 9 ≤ d.bt.phase ∧ v < 2 ^ 32 ∧ w = d.fld rWnWinSel 0 8 ∧ field v 0 2 = 2 ∧
    (d.win w).use = .fenced) ∧
  (∃ (s : State) (d : Dev) (v w : Nat), s.begun = d ∧ 9 ≤ d.bt.phase ∧ v < 2 ^ 32 ∧ w = d.fld rWnWinSel 0 8 ∧ field v 0 2 = 2 ∧
    ((d.win w).use = .off ∨ (d.win w).use = .draining)) ∧
  (∃ (s : State) (d : Dev) (v w : Nat), s.begun = d ∧ 9 ≤ d.bt.phase ∧ v < 2 ^ 32 ∧ w = d.fld rWnWinSel 0 8 ∧ field v 0 2 = 3 ∧
    (d.win w).use = .active) ∧
  (∃ (s : State) (d : Dev) (v w : Nat), s.begun = d ∧ 9 ≤ d.bt.phase ∧ v < 2 ^ 32 ∧ w = d.fld rWnWinSel 0 8 ∧ field v 0 2 = 3 ∧
    (d.win w).use ≠ .active) ∧
  (∃ (d d1 : Dev) (h seq : Nat) (inv : Bool) (p : WnLine → Bool) (lines : List WnLine), lines = d.scopeLines p ∧ d1 =
    { d with wn := { d.wn with flush := Tbl.put {} h { (Tbl.get {} d.wn.flush h : WnFlush) with busy := true, seq := seq, failNow := false, inv := inv, owed := (lines.filter (fun l => decide (d.owedOf l ≠ 0))).map (fun l => (l.window, l.line, d.owedOf l)), covered := lines.map (fun l => (l.window, l.line)) } d.wn.flush } }) ∧
  (∃ (d : Dev) (w line : Nat) (l : WnLine), d.wnLine w line = some l ∧ l.dirty = true ∧ d.wbRuns w line = true) ∧
  (∃ (d : Dev) (w line : Nat) (l : WnLine), d.wnLine w line = some l ∧ l.dirty = true ∧ d.wbRuns w line = false) :=
  ⟨⟨up { wn := { flush := [(31, { busy := true })] } }, _, 31, 0, rfl, by decide, by decide⟩,
   ⟨up {}, _, 31, 0, rfl, by decide, by decide, by decide⟩,
   ⟨up (win 1 { use := .active }), _, 0, 1, rfl, by decide, by decide, by decide, by decide⟩,
   ⟨up (win 1 { use := .active }), _, 0, 0xFF01, rfl, by decide, by decide, by decide, by decide⟩,
   ⟨up {}, _, 31, 2, rfl, by decide, by decide, by decide⟩,
   ⟨up ((cxl [] []).wr rWnWinCfg (2 ^ 18 + 2 * 2 ^ 36)), _, 1, _, rfl, by decide, by decide, rfl, by decide, by decide⟩,
   ⟨up on, _, 1, _, _, rfl, by decide, by decide, rfl, by decide, rfl, by decide⟩,
   ⟨up (win 1 { use := .active }), _, 2, _, rfl, by decide, by decide, rfl, by decide, by decide⟩,
   ⟨up (win 1 { use := .fenced }), _, 2, _, rfl, by decide, by decide, rfl, by decide, by decide⟩,
   ⟨up on, _, 2, _, rfl, by decide, by decide, rfl, by decide, by decide⟩,
   ⟨up (win 1 { use := .active }), _, 3, _, rfl, by decide, by decide, rfl, by decide, by decide⟩,
   ⟨up on, _, 3, _, rfl, by decide, by decide, rfl, by decide, by decide⟩,
   ⟨wnd { lines := [line0 true true] }, _, 31, 0xFFFF, true, fun _ => true, _, rfl, rfl⟩,
   ⟨(up { st := { tick := 16 }, wn := { lines := [{ window := 0, line := 0, dirty0 := true }], wbs := [⟨0, 0, 0, 64⟩] } }).begun,
     0, 0, _, rfl, by decide, by decide⟩,
   ⟨(up { st := { tick := 16 }, wn := { lines := [{ window := 0, line := 0, dirty0 := true }] } }).begun, 0, 0, _, rfl, by decide,
     by decide⟩⟩

theorem witness_SlotsSwitch :
  (∃ (s : State) (d d1 : Dev) (k reason : Nat) (x : SpSlot), ∃ e : Dev, s.begun = d ∧ (d.slot k).owned = true ∧ d.sp.released =
    false ∧ d1 = d.retractPg k ∧ d1.slot k = x ∧ e = ((((d1.setSlot k
    { x with reason := reason, oringA := x.oringA && decide (reason ≠ 4), oringB := x.oringB && decide (reason ≠ 4) }).slotTo k
    .latched).latchSp k false reason).raise (tripEvent reason) k).slotLost k ∧ reason = 1 ∧ ((d.slot k).use = .ramp ∨ (d.slot
    k).use = .on ∨ (d.slot k).use = .warnWait)) ∧
  (∃ (s : State) (d d1 : Dev) (k reason : Nat) (x : SpSlot), ∃ e : Dev, s.begun = d ∧ (d.slot k).owned = true ∧ d.sp.released =
    false ∧ d1 = d.retractPg k ∧ d1.slot k = x ∧ e = ((((d1.setSlot k
    { x with reason := reason, oringA := x.oringA && decide (reason ≠ 4), oringB := x.oringB && decide (reason ≠ 4) }).slotTo k
    .latched).latchSp k false reason).raise (tripEvent reason) k).slotLost k ∧ reason = 2 ∧ (d.slot k).use ≠ .standby) ∧
  (∃ (s : State) (d d1 : Dev) (k reason : Nat) (x : SpSlot), ∃ e : Dev, s.begun = d ∧ (d.slot k).owned = true ∧ d.sp.released =
    false ∧ d1 = d.retractPg k ∧ d1.slot k = x ∧ e = ((((d1.setSlot k
    { x with reason := reason, oringA := x.oringA && decide (reason ≠ 4), oringB := x.oringB && decide (reason ≠ 4) }).slotTo k
    .latched).latchSp k false reason).raise (tripEvent reason) k).slotLost k ∧ reason = 3 ∧ (d.slot k).use = .ramp) ∧
  (∃ (s : State) (d d1 : Dev) (k reason : Nat) (x : SpSlot), ∃ e : Dev, s.begun = d ∧ (d.slot k).owned = true ∧ d.sp.released =
    false ∧ d1 = d.retractPg k ∧ d1.slot k = x ∧ e = ((((d1.setSlot k
    { x with reason := reason, oringA := x.oringA && decide (reason ≠ 4), oringB := x.oringB && decide (reason ≠ 4) }).slotTo k
    .latched).latchSp k false reason).raise (tripEvent reason) k).slotLost k ∧ reason = 4 ∧ ((d.slot k).use = .off ∨ (d.slot
    k).use = .latched)) ∧
  (∃ (s : State) (d d1 : Dev) (k reason : Nat) (x : SpSlot), ∃ e : Dev, s.begun = d ∧ (d.slot k).owned = true ∧ d.sp.released =
    false ∧ d1 = d.retractPg k ∧ d1.slot k = x ∧ e = ((((d1.setSlot k
    { x with reason := reason, oringA := x.oringA && decide (reason ≠ 4), oringB := x.oringB && decide (reason ≠ 4) }).slotTo k
    .latched).latchSp k false reason).raise (tripEvent reason) k).slotLost k ∧ ((d.slot k).use = .ramp ∨ ((d.slot k).use = .on ∧
    (d.slot k).pg = false)) ∧ reason ≠ 0) ∧
  (∃ (s : State) (d : Dev) (k : Nat), s.begun = d ∧ ((d.slot k).owned = false ∨ (d.slot k).use = .standby ∨ d.sp.released = true)) ∧
  (∃ (s : State) (d : Dev) (k : Nat) (x : SpSlot), s.begun = d ∧ d.slot k = x ∧ x.owned = true ∧ d.sp.released = false ∧ x.use =
    .ramp) ∧
  (∃ (s : State) (d : Dev) (k : Nat) (x : SpSlot), s.begun = d ∧ d.slot k = x ∧ x.owned = true ∧ d.sp.released = false ∧ x.use =
    .on ∧ x.pg = false) ∧
  (∃ (s : State) (d d1 : Dev) (k : Nat) (x : SpSlot), s.begun = d ∧ d.slot k = x ∧ x.pg = true ∧ d1 = ((d.setSlot k
    { x with pg := false, pulseEnd := d.st.boundaries + 99 }).raise evSpPgRetracted k).slotLost k) ∧
  (∃ (s : State) (d : Dev) (k : Nat), s.begun = d ∧ (d.slot k).use = .warnWait ∧ d.bt.slotsHeld = false) ∧
  (∃ (s : State) (d d1 : Dev) (k : Nat), s.begun = d ∧ d1 = d.setSlot k { d.slot k with pinEn := true }) ∧
  (∃ (s : State) (d d1 : Dev) (k : Nat), s.begun = d ∧ d1 = d.setSlot k { d.slot k with pinEn := false } ∧ d1.slotPinMode k = true) ∧
  (∃ (s : State) (d d1 : Dev) (k : Nat), s.begun = d ∧ d1 = d.setSlot k { d.slot k with pinEn := false } ∧ d1.slotPinMode k = false) ∧
  (∃ (s : State) (d d1 : Dev) (k v : Nat), s.begun = d ∧ 9 ≤ d.bt.phase ∧ k < 32 ∧ v < 2 ^ 32 ∧ (d.slot k).owned = false) ∧
  (∃ (s : State) (d d1 : Dev) (k v : Nat), s.begun = d ∧ 9 ≤ d.bt.phase ∧ k < 32 ∧ v < 2 ^ 32 ∧ (d.slot k).owned = true ∧ flag v 1
    = false ∧ flag v 0 = true ∧ d1 = (d.wrFld rSpSlotCtl 0 1 1 k).tryRamp k) ∧
  (∃ (s : State) (d d1 : Dev) (k v : Nat), s.begun = d ∧ 9 ≤ d.bt.phase ∧ k < 32 ∧ v < 2 ^ 32 ∧ (d.slot k).owned = true ∧ flag v 1
    = false ∧ flag v 0 = false ∧ d.slotCmdEn k = true ∧ d1 = ((d.wrFld rSpSlotCtl 0 1 0 k).slotToggle k).slotUnwanted k) ∧
  (∃ (s : State) (d d1 : Dev) (k v : Nat), s.begun = d ∧ 9 ≤ d.bt.phase ∧ k < 32 ∧ v < 2 ^ 32 ∧ (d.slot k).owned = true ∧ flag v 1
    = false ∧ flag v 0 = false ∧ d.slotCmdEn k = false) ∧
  (∃ (s : State) (d d1 : Dev) (k v : Nat), s.begun = d ∧ 9 ≤ d.bt.phase ∧ k < 32 ∧ v < 2 ^ 32 ∧ (d.slot k).owned = true ∧ flag v 1
    = true ∧ (((d.slot k).use = .ramp ∨ (d.slot k).use = .on ∨ (d.slot k).use = .warnWait) ∧ d1 = (d.wrFld rSpSlotCtl 0 1 0
    k).slotToOff k ∨ ((d.slot k).use = .off ∨ (d.slot k).use = .latched ∨ (d.slot k).use = .standby) ∧ d1 = d.wrFld rSpSlotCtl 0
    1 0 k) ∧ (d.slotCmdEn k && !(flag v 0)) = false) ∧
  (∃ (s : State) (d d1 : Dev) (k v : Nat), s.begun = d ∧ 9 ≤ d.bt.phase ∧ k < 32 ∧ v < 2 ^ 32 ∧ (d.slot k).owned = true ∧ flag v 1
    = true ∧ (((d.slot k).use = .ramp ∨ (d.slot k).use = .on ∨ (d.slot k).use = .warnWait) ∧ d1 = (d.wrFld rSpSlotCtl 0 1 0
    k).slotToOff k ∨ ((d.slot k).use = .off ∨ (d.slot k).use = .latched ∨ (d.slot k).use = .standby) ∧ d1 = d.wrFld rSpSlotCtl 0
    1 0 k) ∧ (d.slotCmdEn k && !(flag v 0)) = true) ∧
  (∃ (d : Dev) (k : Nat), (d.slot k).pg = true) ∧
  (∃ (d : Dev) (k : Nat), (d.slot k).pg = false) ∧
  (∃ (d : Dev) (k : Nat), (d.slot k).use = .off ∧ (d.slot k).owned = true ∧ d.slotWanted k = true ∧ d.bt.slotsHeld = false) ∧
  (∃ (d : Dev) (k : Nat), ((d.slot k).use ≠ .off ∨ (d.slot k).owned = false ∨ d.slotWanted k = false ∨ d.bt.slotsHeld = true)) ∧
  (∃ (d : Dev) (k : Nat), ((d.slot k).use = .ramp ∨ (d.slot k).use = .on) ∧ d.slotWanted k = false ∧ d.bt.slotsHeld = false ∧ d.fld
    rSpCtl 0 8 = 0) ∧
  (∃ (d : Dev) (k : Nat), ((d.slot k).use = .ramp ∨ (d.slot k).use = .on) ∧ d.slotWanted k = false ∧ d.bt.slotsHeld = false ∧ d.fld
    rSpCtl 0 8 ≠ 0) ∧
  (∃ (d : Dev) (k : Nat), (((d.slot k).use ≠ .ramp ∧ (d.slot k).use ≠ .on) ∨ d.slotWanted k = true ∨ d.bt.slotsHeld = true)) ∧
  (∃ (d : Dev) (k : Nat), (d.slot k).use = .latched) ∧
  (∃ (d : Dev) (k : Nat), (d.slot k).use ≠ .latched) ∧
  (∃ (d : Dev) (k : Nat), d.mirroring = true) ∧
  (∃ (d : Dev) (k : Nat), d.mirroring = false) :=
  ⟨⟨up { sp := { slots := [(31, { use := .warnWait, pg := true })], released := false } }, _, _, 31, 1, _, _, rfl, by decide, by
     decide, rfl, rfl, rfl, by decide, by decide⟩,
   ⟨up { sp := { slots := [(31, { use := .on, pg := true })], released := false } }, _, _, 31, 2, _, _, rfl, by decide, by decide,
     rfl, rfl, rfl, by decide, by decide⟩,
   ⟨up { sp := { slots := [(31, { use := .ramp })], released := false } }, _, _, 31, 3, _, _, rfl, by decide, by decide, rfl, rfl,
     rfl, by decide, by decide⟩,
   ⟨up { sp := { slots := [(31, { use := .latched })], released := false } }, _, _, 31, 4, _, _, rfl, by decide, by decide, rfl,
     rfl, rfl, by decide, by decide⟩,
   ⟨up { sp := { slots := [(31, { use := .ramp })], released := false } }, _, _, 31, 1, _, _, rfl, by decide, by decide, rfl, rfl,
     rfl, by decide, by decide⟩,
   ⟨{}, _, 31, rfl, by decide⟩,
   ⟨up { sp := { slots := [(31, { use := .ramp })], released := false } }, _, 31, _, rfl, rfl, by decide, by decide, by decide⟩,
   ⟨up { sp := { slots := [(31, { use := .on })], released := false } }, _, 31, _, rfl, rfl, by decide, by decide, by decide, by
     decide⟩,
   ⟨up { sp := { slots := [(31, { use := .on, pg := true })] } }, _, _, 31, _, rfl, rfl, by decide, rfl⟩,
   ⟨up { sp := { slots := [(31, { use := .warnWait })] } }, _, 31, rfl, by decide, by decide⟩,
   ⟨up {}, _, _, 31, rfl, rfl⟩,
   ⟨{}, _, {}, 31, rfl, by decide, by decide⟩,
   ⟨up (({} : Dev).wr rSpSlotCfg 0 31), _, _, 31, rfl, rfl, by decide⟩,
   ⟨up { on with sp := { slots := [(31, { owned := false })] } }, _, on, 31, 3, rfl, by decide, by decide, by decide, by decide⟩,
   ⟨up on, _, _, 31, 1, rfl, by decide, by decide, by decide, by decide, by decide, by decide, rfl⟩,
   ⟨up ({ on with sp := { slots := [(31, { use := .on })], released := false } }.wr rSpSlotCtl 1 31), _, _, 31, 0, rfl, by decide,
     by decide, by decide, by decide, by decide, by decide, by decide, rfl⟩,
   ⟨up on, _, { on with sp := { slots := [(0, { use := .on })] } }, 9, 32, rfl, by decide, by decide, by decide, by decide, by
     decide, by decide, by decide⟩,
   ⟨up on, _, on, 9, 2 ^ 32 - 1, rfl, by decide, by decide, by decide, by decide, by decide, by decide, by decide⟩,
   ⟨up ({ on with sp := { slots := [(31, { use := .on })], released := false } }.wr rSpSlotCtl 1 31), _, _, 31, 2, rfl, by decide,
     by decide, by decide, by decide, by decide, .inl ⟨by decide, rfl⟩, by decide⟩,
   ⟨(up { sp := { slots := [(31, { use := .warnWait, pg := true })] } }).begun, 31, by decide⟩,
   ⟨{ on with sp := { slots := [(0, { use := .on })] } }, 31, by decide⟩,
   ⟨(({ sp := { slots := [(31, {})], released := false } } : Dev).wr rSpSlotCtl 1 31).wr rSpSlotCfg (2 ^ 17) 31, 31, by decide, by
     decide, by decide, by decide⟩,
   ⟨{ on with sp := { slots := [(0, { use := .on })] } }, 31, by decide⟩,
   ⟨({ sp := { slots := [(31, { use := .on })], released := false } } : Dev).wr rSpCtl 0, 31, by decide, by decide, by decide, by
     decide⟩,
   ⟨{ on with sp := { slots := [(0, { use := .on })] } }, 0, by decide, by decide, by decide, by decide⟩,
   ⟨{ on with sp := { slots := [(0, { use := .on })] } }, 31, by decide⟩,
   ⟨(up { sp := { slots := [(31, { use := .latched, pinEn := true })] } }).begun, 31, by decide⟩,
   ⟨{ on with sp := { slots := [(0, { use := .on })] } }, 31, by decide⟩,
   ⟨(up (pair { state := .paired, silent := 2 })).begun, 31, by decide⟩,
   ⟨{ on with sp := { slots := [(0, { use := .on })] } }, 31, by decide⟩⟩

theorem witness_FeedsAndGroups :
  (∃ (s : State) (d : Dev) (g : Nat) (x : SpGroup), s.begun = d ∧ d.group g = x ∧ x.lostA = false) ∧
  (∃ (s : State) (d : Dev) (g : Nat) (x : SpGroup), s.begun = d ∧ d.group g = x ∧ x.lostB = false) ∧
  (∃ (s : State) (d : Dev) (g : Nat) (x : SpGroup), s.begun = d ∧ d.group g = x ∧ x.lostA = true) ∧
  (∃ (s : State) (d : Dev) (g : Nat) (x : SpGroup), s.begun = d ∧ d.group g = x ∧ x.lostB = true) ∧
  (∃ (s : State) (d : Dev) (k : Nat) (x : SpSlot), s.begun = d ∧ d.slot k = x ∧ x.inputWarn = true) ∧
  (∃ (s : State) (d : Dev) (k : Nat) (x : SpSlot), s.begun = d ∧ d.slot k = x ∧ x.inputWarn = false) ∧
  (∃ (s : State) (d : Dev) (g iA iB : Nat) (x : SpGroup), s.begun = d ∧ x =
    { d.group g with iA := iA, iB := iB, share := shareNow iA iB } ∧ (d.bulkA g = false ∨ d.bulkB g = false ∨ x.owned = false ∨
    points (shareNow iA iB) (d.shareA g) ≤ 5)) ∧
  (∃ (s : State) (d : Dev) (g iA iB : Nat) (x : SpGroup), s.begun = d ∧ x =
    { d.group g with iA := iA, iB := iB, share := shareNow iA iB } ∧ d.bulkA g = true ∧ d.bulkB g = true ∧ x.owned = true ∧ 5 <
    points (shareNow iA iB) (d.shareA g) ∧ d.shareA g < shareNow iA iB) ∧
  (∃ (s : State) (d : Dev) (g iA iB : Nat) (x : SpGroup), s.begun = d ∧ x =
    { d.group g with iA := iA, iB := iB, share := shareNow iA iB } ∧ d.bulkA g = true ∧ d.bulkB g = true ∧ x.owned = true ∧ 5 <
    points (shareNow iA iB) (d.shareA g) ∧ shareNow iA iB ≤ d.shareA g) ∧
  (∃ (iA iB : Nat), iA + iB ≠ 0) ∧
  (∃ (s : State) (d : Dev) (g : Nat) (x : SpGroup), s.begun = d ∧ d.group g = x ∧ 64 ≤ x.offRun) ∧
  (∃ (s : State) (d : Dev) (g : Nat) (x : SpGroup), s.begun = d ∧ d.group g = x ∧ flag (d.rd rSpFgCfg g) 38 = true ∧ x.owned = true
    ∧ x.latched = false) ∧
  (∃ (s : State) (d : Dev) (g v : Nat), s.begun = d ∧ 9 ≤ d.bt.phase ∧ g < 4 ∧ v < 2 ^ 32 ∧ (d.group g).owned = false) ∧
  (∃ (s : State) (d : Dev) (g v : Nat), s.begun = d ∧ 9 ≤ d.bt.phase ∧ g < 4 ∧ v < 2 ^ 32 ∧ (d.group g).owned = true ∧ flag v 0 =
    false) ∧
  (∃ (s : State) (d : Dev) (g v : Nat), s.begun = d ∧ 9 ≤ d.bt.phase ∧ g < 4 ∧ v < 2 ^ 32 ∧ (d.group g).owned = true ∧ flag v 0 =
    true) :=
  ⟨⟨{}, _, 3, _, rfl, rfl, by decide⟩,
   ⟨{}, _, 3, _, rfl, rfl, by decide⟩,
   ⟨up { sp := { groups := [(3, { lostA := true })] } }, _, 3, _, rfl, rfl, by decide⟩,
   ⟨up { sp := { groups := [(3, { lostB := true })] } }, _, 3, _, rfl, rfl, by decide⟩,
   ⟨up { sp := { slots := [(31, { inputWarn := true })] } }, _, 31, _, rfl, rfl, by decide⟩,
   ⟨up {}, _, 31, _, rfl, rfl, by decide⟩,
   ⟨{}, _, 5, 5, 5, _, rfl, rfl, by decide⟩,
   ⟨up {}, _, 3, 56, 44, _, rfl, rfl, by decide, by decide, by decide, by decide, by decide⟩,
   ⟨up {}, _, 3, 44, 56, _, rfl, rfl, by decide, by decide, by decide, by decide, by decide⟩,
   ⟨0, 55, by decide⟩,
   ⟨up { sp := { groups := [(3, { offRun := 64 })] } }, _, 3, _, rfl, rfl, by decide⟩,
   ⟨up {}, _, 3, _, rfl, rfl, by decide, by decide, by decide⟩,
   ⟨up { on with sp := { groups := [(3, { owned := false })] } }, _, 3, 1, rfl, by decide, by decide, by decide, by decide⟩,
   ⟨up on, _, 4 - 1, 4, rfl, by decide, by decide, by decide, by decide, by decide⟩,
   ⟨up on, _, 3, 1, rfl, by decide, by decide, by decide, by decide, by decide⟩⟩

theorem witness_PairMessages :
  (∃ (s : State) (d d1 : Dev) (p w : Nat) (ok : Bool), s.begun = d ∧ (d.lkPort p).state = .up ∧ d1 = d.noteHeard p (heartbeatOk w)
    ∧ d1.isTwin p = false) ∧
  (∃ (s : State) (d d1 : Dev) (p w : Nat) (ok : Bool), s.begun = d ∧ (d.lkPort p).state = .up ∧ d1 = d.noteHeard p (heartbeatOk w)
    ∧ d1.isTwin p = true ∧ heartbeatOk w = false) ∧
  (∃ (s : State) (d d1 : Dev) (p w : Nat) (ok : Bool), s.begun = d ∧ (d.lkPort p).state = .up ∧ d1 = d.noteHeard p (heartbeatOk w)
    ∧ d1.isTwin p = true ∧ heartbeatOk w = true ∧ (field w 32 18 ≠ d1.peerNode ∨ field w 24 1 = d1.twinId)) ∧
  (∃ (s : State) (d d1 : Dev) (p w : Nat) (ok : Bool), s.begun = d ∧ (d.lkPort p).state = .up ∧ d1 = d.noteHeard p (heartbeatOk w)
    ∧ d1.isTwin p = true ∧ heartbeatOk w = true ∧ field w 32 18 = d1.peerNode ∧ field w 24 1 ≠ d1.twinId) ∧
  (∃ (d : Dev) (ack : Nat), seqLe ack d.tw.seqTx = true ∧ seqLe ack d.tw.ackRx = false) ∧
  (∃ (d : Dev) (ack : Nat), (seqLe ack d.tw.seqTx = false ∨ seqLe ack d.tw.ackRx = true)) ∧
  (∃ (d d1 d2 : Dev) (w : Nat) (ok : Bool) (peer : Lease), peer = ⟨field w 64 32, field w 96 1, true⟩ ∧ d1 = (if d.tw.primary &&
    decide (primaryOf d.tw.lease peer ≠ d.twinId) then ((d.giveUpLease).latchTw 4).raise evTwLeaseLost 0 else d) ∧ (d2 = (if
    d1.tw.state = .probing ∨ d1.tw.state = .split ∨ d1.tw.state = .sole then d1.enterForming else d1)) ∧ d2.tw.state = .alone) ∧
  (∃ (d d1 d2 : Dev) (w : Nat) (ok : Bool) (peer : Lease), ∃ d3, peer = ⟨field w 64 32, field w 96 1, true⟩ ∧ d1 = (if d.tw.primary
    && decide (primaryOf d.tw.lease peer ≠ d.twinId) then ((d.giveUpLease).latchTw 4).raise evTwLeaseLost 0 else d) ∧ (d2 = (if
    d1.tw.state = .probing ∨ d1.tw.state = .split ∨ d1.tw.state = .sole then d1.enterForming else d1)) ∧ d2.tw.state = .paired ∧
    d3 = d2.takeGiven w ∧ d3.tw.primary = false ∧ d3.tw.lease.term < peer.term ∧ peer.holder = d3.twinId) ∧
  (∃ (d d1 d2 : Dev) (w : Nat) (ok : Bool) (peer : Lease), ∃ d3, peer = ⟨field w 64 32, field w 96 1, true⟩ ∧ d1 = (if d.tw.primary
    && decide (primaryOf d.tw.lease peer ≠ d.twinId) then ((d.giveUpLease).latchTw 4).raise evTwLeaseLost 0 else d) ∧ (d2 = (if
    d1.tw.state = .probing ∨ d1.tw.state = .split ∨ d1.tw.state = .sole then d1.enterForming else d1)) ∧ d2.tw.state = .paired ∧
    d3 = d2.takeGiven w ∧ (d3.tw.primary = true ∨ peer.term ≤ d3.tw.lease.term ∨ peer.holder ≠ d3.twinId)) ∧
  (∃ (d d1 d2 : Dev) (w : Nat) (ok : Bool) (peer : Lease), ∃ d3 d4 d5, peer = ⟨field w 64 32, field w 96 1, true⟩ ∧ d1 = (if
    d.tw.primary && decide (primaryOf d.tw.lease peer ≠ d.twinId) then ((d.giveUpLease).latchTw 4).raise evTwLeaseLost 0 else d)
    ∧ (d2 = (if d1.tw.state = .probing ∨ d1.tw.state = .split ∨ d1.tw.state = .sole then d1.enterForming else d1)) ∧ d2.tw.state
    = .forming ∧ d3 = (if d2.tw.lease.term = peer.term then d2.compareOwn (field w 320 32) (field w 352 4) (d2.twinId == 0) else
    d2) ∧ d4 = (if d2.tw.compared then d2 else { d3 with tw := { d3.tw with compared := true } }) ∧ d5 = (if d4.tw.formed ||
    !d4.tw.issued then d4 else d4.form peer ok) ∧ d5.tw.formed = false) ∧
  (∃ (d d1 d2 : Dev) (w : Nat) (ok : Bool) (peer : Lease), ∃ d3 d4 d5, ∃ seq, peer = ⟨field w 64 32, field w 96 1, true⟩ ∧ d1 = (if
    d.tw.primary && decide (primaryOf d.tw.lease peer ≠ d.twinId) then ((d.giveUpLease).latchTw 4).raise evTwLeaseLost 0 else d)
    ∧ (d2 = (if d1.tw.state = .probing ∨ d1.tw.state = .split ∨ d1.tw.state = .sole then d1.enterForming else d1)) ∧ d2.tw.state
    = .forming ∧ d3 = (if d2.tw.lease.term = peer.term then d2.compareOwn (field w 320 32) (field w 352 4) (d2.twinId == 0) else
    d2) ∧ d4 = (if d2.tw.compared then d2 else { d3 with tw := { d3.tw with compared := true } }) ∧ d5 = (if d4.tw.formed ||
    !d4.tw.issued then d4 else d4.form peer ok) ∧ d5.tw.formed = true ∧ d5.tw.primary = true ∧ d5.tw.resyncSeq = some seq ∧
    seqLe seq d5.tw.ackRx = true) ∧
  (∃ (d d1 d2 : Dev) (w : Nat) (ok : Bool) (peer : Lease), ∃ d3 d4 d5, ∃ seq, peer = ⟨field w 64 32, field w 96 1, true⟩ ∧ d1 = (if
    d.tw.primary && decide (primaryOf d.tw.lease peer ≠ d.twinId) then ((d.giveUpLease).latchTw 4).raise evTwLeaseLost 0 else d)
    ∧ (d2 = (if d1.tw.state = .probing ∨ d1.tw.state = .split ∨ d1.tw.state = .sole then d1.enterForming else d1)) ∧ d2.tw.state
    = .forming ∧ d3 = (if d2.tw.lease.term = peer.term then d2.compareOwn (field w 320 32) (field w 352 4) (d2.twinId == 0) else
    d2) ∧ d4 = (if d2.tw.compared then d2 else { d3 with tw := { d3.tw with compared := true } }) ∧ d5 = (if d4.tw.formed ||
    !d4.tw.issued then d4 else d4.form peer ok) ∧ d5.tw.formed = true ∧ d5.tw.primary = true ∧ d5.tw.resyncSeq = some seq ∧
    seqLe seq d5.tw.ackRx = false) ∧
  (∃ (d d1 d2 : Dev) (w : Nat) (ok : Bool) (peer : Lease), ∃ d3 d4 d5, peer = ⟨field w 64 32, field w 96 1, true⟩ ∧ d1 = (if
    d.tw.primary && decide (primaryOf d.tw.lease peer ≠ d.twinId) then ((d.giveUpLease).latchTw 4).raise evTwLeaseLost 0 else d)
    ∧ (d2 = (if d1.tw.state = .probing ∨ d1.tw.state = .split ∨ d1.tw.state = .sole then d1.enterForming else d1)) ∧ d2.tw.state
    = .forming ∧ d3 = (if d2.tw.lease.term = peer.term then d2.compareOwn (field w 320 32) (field w 352 4) (d2.twinId == 0) else
    d2) ∧ d4 = (if d2.tw.compared then d2 else { d3 with tw := { d3.tw with compared := true } }) ∧ d5 = (if d4.tw.formed ||
    !d4.tw.issued then d4 else d4.form peer ok) ∧ d5.tw.formed = true ∧ d5.tw.primary = false ∧ field w 8 3 = 2) ∧
  (∃ (d d1 d2 : Dev) (w : Nat) (ok : Bool) (peer : Lease), ∃ d3 d4 d5, peer = ⟨field w 64 32, field w 96 1, true⟩ ∧ d1 = (if
    d.tw.primary && decide (primaryOf d.tw.lease peer ≠ d.twinId) then ((d.giveUpLease).latchTw 4).raise evTwLeaseLost 0 else d)
    ∧ (d2 = (if d1.tw.state = .probing ∨ d1.tw.state = .split ∨ d1.tw.state = .sole then d1.enterForming else d1)) ∧ d2.tw.state
    = .forming ∧ d3 = (if d2.tw.lease.term = peer.term then d2.compareOwn (field w 320 32) (field w 352 4) (d2.twinId == 0) else
    d2) ∧ d4 = (if d2.tw.compared then d2 else { d3 with tw := { d3.tw with compared := true } }) ∧ d5 = (if d4.tw.formed ||
    !d4.tw.issued then d4 else d4.form peer ok) ∧ d5.tw.formed = true ∧ d5.tw.primary = false ∧ field w 8 3 ≠ 2) ∧
  (∃ (d d1 d2 d3 : Dev) (peer : Lease) (ok : Bool) (win term : Nat), win = primaryOf d.tw.lease peer ∧ term = (if d.tw.lease.term =
    peer.term then d.tw.lease.term + 1 else max d.tw.lease.term peer.term) ∧ d1 = (if !decide (win = d.twinId) && decide
    (d.tw.lease.term < peer.term) then d.allStandby else d) ∧ d2 = (if d.tw.lease.valid && d.tw.lease.term == term &&
    d.tw.lease.holder == win then d1 else d1.writeLease term win ok) ∧ d3 =
    (({ d2 with tw := { d2.tw with primary := decide (win = d.twinId), formed := true, seqTx := 0, seqRx := 0, ackRx := 0, unacked := [], heldRecs := [], applied := [], undo := [], resync := [] } }).reforward).owe
    .mirrorAcked ∧ win = d.twinId) ∧
  (∃ (d d1 d2 d3 : Dev) (peer : Lease) (ok : Bool) (win term : Nat), win = primaryOf d.tw.lease peer ∧ term = (if d.tw.lease.term =
    peer.term then d.tw.lease.term + 1 else max d.tw.lease.term peer.term) ∧ d1 = (if !decide (win = d.twinId) && decide
    (d.tw.lease.term < peer.term) then d.allStandby else d) ∧ d2 = (if d.tw.lease.valid && d.tw.lease.term == term &&
    d.tw.lease.holder == win then d1 else d1.writeLease term win ok) ∧ d3 =
    (({ d2 with tw := { d2.tw with primary := decide (win = d.twinId), formed := true, seqTx := 0, seqRx := 0, ackRx := 0, unacked := [], heldRecs := [], applied := [], undo := [], resync := [] } }).reforward).owe
    .mirrorAcked ∧ win ≠ d.twinId) ∧
  (∃ (d : Dev), ∃ t, d.tw.state ≠ t) ∧
  (∃ (s : State) (d d1 d2 : Dev) (p w : Nat) (m : Mirror), s.begun = d ∧ (d.lkPort p).state = .up ∧ d1 = d.noteHeard p true ∧ m =
    mirrorOf w ∧ d1.isTwin p = false) ∧
  (∃ (s : State) (d d1 d2 : Dev) (p w : Nat) (m : Mirror), s.begun = d ∧ (d.lkPort p).state = .up ∧ d1 = d.noteHeard p true ∧ m =
    mirrorOf w ∧ d1.isTwin p = true ∧ m.seq ≠ (d1.tw.seqRx + 1) % 2 ^ 32) ∧
  (∃ (s : State) (d d1 d2 : Dev) (p w : Nat) (m : Mirror), s.begun = d ∧ (d.lkPort p).state = .up ∧ d1 = d.noteHeard p true ∧ m =
    mirrorOf w ∧ d1.isTwin p = true ∧ m.seq = (d1.tw.seqRx + 1) % 2 ^ 32 ∧ d2 = { d1 with tw := { d1.tw with seqRx := m.seq } }
    ∧ m.kind = 8) ∧
  (∃ (s : State) (d d1 d2 : Dev) (p w : Nat) (m : Mirror), s.begun = d ∧ (d.lkPort p).state = .up ∧ d1 = d.noteHeard p true ∧ m =
    mirrorOf w ∧ d1.isTwin p = true ∧ m.seq = (d1.tw.seqRx + 1) % 2 ^ 32 ∧ d2 = { d1 with tw := { d1.tw with seqRx := m.seq } }
    ∧ m.kind ≠ 8 ∧ (d1.tw.state = .probing ∨ d1.now < m.tick)) ∧
  (∃ (s : State) (d d1 d2 : Dev) (p w : Nat) (m : Mirror), s.begun = d ∧ (d.lkPort p).state = .up ∧ d1 = d.noteHeard p true ∧ m =
    mirrorOf w ∧ d1.isTwin p = true ∧ m.seq = (d1.tw.seqRx + 1) % 2 ^ 32 ∧ d2 = { d1 with tw := { d1.tw with seqRx := m.seq } }
    ∧ m.kind ≠ 8 ∧ d1.tw.state ≠ .probing ∧ m.tick ≤ d1.now) ∧
  (∃ (d : Dev) (m : Mirror), m.kind = 1) ∧
  (∃ (d : Dev) (m : Mirror), ∃ r i v, m.kind = 2 ∧ regAt .blk (0xE00000 + field m.payload 0 32) allRegs = some (r, i) ∧ v = field
    m.payload 32 64) ∧
  (∃ (d : Dev) (m : Mirror), m.kind = 3) ∧
  (∃ (d : Dev) (m : Mirror), ∃ tick cancel arm, m.kind = 4 ∧ tick = field m.payload 0 48 ∧ cancel = flag m.payload 62 ∧ arm = flag
    m.payload 63 ∧ d.epochCode tick arm cancel = 0) ∧
  (∃ (d : Dev) (m : Mirror), ∃ tick cancel arm, m.kind = 4 ∧ tick = field m.payload 0 48 ∧ cancel = flag m.payload 62 ∧ arm = flag
    m.payload 63 ∧ d.epochCode tick arm cancel ≠ 0) ∧
  (∃ (d : Dev) (m : Mirror), m.kind = 5) ∧
  (∃ (d : Dev) (m : Mirror), m.kind = 6 ∧ m.len = 20) ∧
  (∃ (d : Dev) (m : Mirror), m.kind = 6 ∧ m.len = 24) ∧
  (∃ (d : Dev) (m : Mirror), m.kind = 6 ∧ m.len ≠ 20 ∧ m.len ≠ 24) ∧
  (∃ (d : Dev) (m : Mirror), m.kind = 7 ∧ m.len = 21 ∧ flag m.payload 41 = false) ∧
  (∃ (d : Dev) (m : Mirror), m.kind = 7 ∧ m.len = 21 ∧ flag m.payload 41 = true) ∧
  (∃ (d : Dev) (m : Mirror), m.kind = 7 ∧ m.len = 12) ∧
  (∃ (d : Dev) (m : Mirror), m.kind = 7 ∧ m.len ≠ 21 ∧ m.len ≠ 12) ∧
  (∃ (d : Dev) (seq : Nat), d.tw.heldRecs.any (fun m => m.seq == seq) = true) ∧
  (∃ (d : Dev) (seq : Nat), d.tw.heldRecs.any (fun m => m.seq == seq) = false ∧ d.tw.applied.any (fun a => a.1 == seq) = true) ∧
  (∃ (s : State) (d d1 : Dev) (p w : Nat), s.begun = d ∧ (d.lkPort p).state = .up ∧ d1 = d.noteHeard p true ∧ field w 64 18 =
    d1.node ∧ flag w 8 = false) ∧
  (∃ (s : State) (d d1 : Dev) (p w : Nat), ∃ d2 : Dev, s.begun = d ∧ (d.lkPort p).state = .up ∧ d1 = d.noteHeard p true ∧ field w
    64 18 = d1.node ∧ flag w 8 = true ∧ d1.pairEn = true ∧ field w 32 18 = d1.peerNode ∧ d1.tw.state = .probing ∧ d2 = (d1.twTo
    .split).raise evTwSplit 0 ∧ d2.tw.primary = true) ∧
  (∃ (s : State) (d d1 : Dev) (p w : Nat), ∃ d2 : Dev, s.begun = d ∧ (d.lkPort p).state = .up ∧ d1 = d.noteHeard p true ∧ field w
    64 18 = d1.node ∧ flag w 8 = true ∧ d1.pairEn = true ∧ field w 32 18 = d1.peerNode ∧ d1.tw.state = .probing ∧ d2 = (d1.twTo
    .split).raise evTwSplit 0 ∧ d2.tw.primary = false) ∧
  (∃ (s : State) (d d1 : Dev) (p w : Nat), s.begun = d ∧ (d.lkPort p).state = .up ∧ d1 = d.noteHeard p true ∧ field w 64 18 =
    d1.node ∧ flag w 8 = true ∧ d1.pairEn = true ∧ field w 32 18 = d1.peerNode ∧ d1.tw.state = .forming) ∧
  (∃ (s : State) (d d1 : Dev) (p w : Nat), s.begun = d ∧ (d.lkPort p).state = .up ∧ d1 = d.noteHeard p true ∧ field w 64 18 =
    d1.node ∧ flag w 8 = true ∧ d1.pairEn = true ∧ field w 32 18 = d1.peerNode ∧ d1.tw.state ≠ .probing ∧ d1.tw.state ≠ .forming) ∧
  (∃ (s : State) (d d1 : Dev) (p w : Nat), ∃ q, s.begun = d ∧ (d.lkPort p).state = .up ∧ d1 = d.noteHeard p true ∧ field w 64 18 ≠
    d1.node ∧ flag w 9 = false ∧ d1.portTo (field w 64 18) = some q) ∧
  (∃ (s : State) (d d1 : Dev) (p w : Nat), s.begun = d ∧ (d.lkPort p).state = .up ∧ d1 = d.noteHeard p true ∧ field w 64 18 ≠
    d1.node ∧ flag w 9 = false ∧ d1.portTo (field w 64 18) = none) ∧
  (∃ (s : State) (d d1 : Dev) (p w : Nat), s.begun = d ∧ (d.lkPort p).state = .up ∧ d1 = d.noteHeard p true ∧ field w 64 18 ≠
    d1.node ∧ flag w 9 = true) :=
  ⟨⟨up { lk := { ports := [(0, { state := .up })] } }, _, _, 0, 5, true, rfl, by decide, rfl, by decide⟩,
   ⟨up (pair {}), _, _, 0, 0, true, rfl, by decide, rfl, by decide, by decide⟩,
   ⟨up (pair {}), _, _, 0, 5, true, rfl, by decide, rfl, by decide, by decide, by decide⟩,
   ⟨up (pair {}), _, _, 0, 5 + 2 ^ 24 + 3 * 2 ^ 32, true, rfl, by decide, rfl, by decide, by decide, by decide, by decide⟩,
   ⟨{ tw := { seqTx := 0, ackRx := 2 ^ 32 - 1 } }, 0, by decide, by decide⟩,
   ⟨{ on with sp := { slots := [(0, { use := .on })] } }, 0, by decide⟩,
   ⟨{ on with sp := { slots := [(0, { use := .on })] } }, { on with sp := { slots := [(0, { use := .on })] } }, _, 64, true, _,
     rfl, by decide, rfl, by decide⟩,
   ⟨pair { state := .paired }, _, _, 2 ^ 64, true, _, _, rfl, rfl, rfl, by decide, rfl, by decide, by decide, by decide⟩,
   ⟨pair { state := .paired }, _, _, 2 ^ 64 + 2 ^ 96, true, _, _, rfl, rfl, rfl, by decide, rfl, by decide⟩,
   ⟨(up { st := { tick := 4 }, tw := { state := .probing } }).begun, (up
     { st := { tick := 4 }, tw := { state := .probing } }).begun, _, 64, true, _, _, _, _, rfl, by decide, rfl, by decide, rfl,
     rfl, rfl, by decide⟩,
   ⟨pair { state := .forming, formed := true, primary := true, compared := true, ackRx := 5, resyncSeq := some 5 }, _, _, 0, true,
     _, _, _, _, _, rfl, rfl, rfl, by decide, rfl, rfl, rfl, by decide, by decide, rfl, by decide⟩,
   ⟨pair { state := .forming, formed := true, primary := true, compared := true, ackRx := 4, resyncSeq := some 5 }, _, _, 0, true,
     _, _, _, _, _, rfl, rfl, rfl, by decide, rfl, rfl, rfl, by decide, by decide, rfl, by decide⟩,
   ⟨pair { state := .forming, formed := true, compared := true }, _, _, 2 * 2 ^ 8, true, _, _, _, _, rfl, rfl, rfl, by decide, rfl,
     rfl, rfl, by decide, by decide, by decide⟩,
   ⟨pair { state := .forming, formed := true, compared := true }, _, _, 0, true, _, _, _, _, rfl, rfl, rfl, by decide, rfl, rfl,
     rfl, by decide, by decide, by decide⟩,
   ⟨{}, _, _, _, ⟨0, 0, true⟩, true, _, _, rfl, rfl, rfl, rfl, rfl, by decide⟩,
   ⟨{}, _, _, _, ⟨1, 1, true⟩, true, _, _, rfl, rfl, rfl, rfl, rfl, by decide⟩,
   ⟨{}, .paired, by decide⟩,
   ⟨up { lk := { ports := [(0, { state := .up })] } }, _, _, {}, 0, 0, _, rfl, by decide, rfl, rfl, by decide⟩,
   ⟨up (pair {}), _, _, {}, 0, 0, _, rfl, by decide, rfl, rfl, by decide, by decide⟩,
   ⟨up (pair {}), _, _, _, 0, 8 * 2 ^ 8 + 2 ^ 32, _, rfl, by decide, rfl, rfl, by decide, by decide, rfl, by decide⟩,
   ⟨up (pair {}), _, _, _, 0, 1 * 2 ^ 8 + 2 ^ 32 + 2 ^ 64, _, rfl, by decide, rfl, rfl, by decide, by decide, rfl, by decide, by
     decide⟩,
   ⟨up (pair { seqRx := 2 ^ 32 - 1 }), _, _, _, 0, 1 * 2 ^ 8, _, rfl, by decide, rfl, rfl, by decide, by decide, rfl, by decide, by
     decide, by decide⟩,
   ⟨{}, ⟨1, 32, 1, 0, 0⟩, by decide⟩,
   ⟨{}, ⟨2, 12, 1, 0, 0⟩, rSpCtl, 0, _, by decide, by decide +kernel, rfl⟩,
   ⟨{}, ⟨3, 12, 1, 0, 0⟩, by decide⟩,
   ⟨on, ⟨4, 8, 1, 0, 2 ^ 63 + 2⟩, _, _, _, by decide, rfl, rfl, rfl, by decide⟩,
   ⟨on, ⟨4, 8, 1, 0, 2 ^ 63 + 1⟩, _, _, _, by decide, rfl, rfl, rfl, by decide⟩,
   ⟨{}, ⟨5, 12, 1, 0, 0⟩, by decide⟩,
   ⟨{}, ⟨6, 20, 1, 0, 0⟩, by decide, by decide⟩,
   ⟨{}, ⟨6, 24, 1, 0, 0⟩, by decide, by decide⟩,
   ⟨{}, ⟨6, 33, 1, 0, 0⟩, by decide, by decide, by decide⟩,
   ⟨{}, ⟨7, 21, 1, 0, 0⟩, by decide, by decide, by decide⟩,
   ⟨{}, ⟨7, 21, 1, 0, 2 ^ 41⟩, by decide, by decide, by decide⟩,
   ⟨{}, ⟨7, 12, 1, 0, 0⟩, by decide, by decide⟩,
   ⟨{}, ⟨7, 0, 1, 0, 0⟩, by decide, by decide, by decide⟩,
   ⟨(up { tw := { state := .paired, heldRecs := [⟨1, 0, 1, 0, 0⟩] } }).begun, 1, by decide⟩,
   ⟨{ tw := { applied := [(1, 0)] } }, 1, by decide, by decide⟩,
   ⟨up (pair {}), _, _, 0, 0, rfl, by decide, rfl, by decide, by decide⟩,
   ⟨up (pair { state := .probing, primary := true }), _, _, 0, 2 ^ 8 + 3 * 2 ^ 32, _, rfl, by decide, rfl, by decide, by decide, by
     decide, by decide, by decide, rfl, by decide⟩,
   ⟨up (pair { state := .probing }), _, _, 0, 2 ^ 8 + 3 * 2 ^ 32, _, rfl, by decide, rfl, by decide, by decide, by decide, by
     decide, by decide, rfl, by decide⟩,
   ⟨up (pair { state := .forming }), _, _, 0, 2 ^ 8 + 3 * 2 ^ 32, rfl, by decide, rfl, by decide, by decide, by decide, by decide,
     by decide⟩,
   ⟨up (pair { state := .paired }), _, _, 0, 2 ^ 8 + 3 * 2 ^ 32, rfl, by decide, rfl, by decide, by decide, by decide, by decide,
     by decide, by decide⟩,
   ⟨up { (pair {}).wr rRtPortUp 1 with map := [(0, 16)], lk := { ports := [(0, { state := .up, peerNode := 1 })] } }, _, _, 0, 2 ^
     64, _, rfl, by decide, rfl, by decide, by decide, rfl⟩,
   ⟨up (pair {}), _, _, 0, 2 ^ 64, rfl, by decide, rfl, by decide, by decide, by decide⟩,
   ⟨up (pair {}), _, _, 0, 2 ^ 9 + 2 ^ 64, rfl, by decide, rfl, by decide, by decide⟩⟩

theorem witness_PairSteps :
  (∃ (s : State) (d : Dev), s.begun = d ∧ d.tw.selfFenced = false ∧ 2 ≤ d.tw.silent ∧ ((d.pairEn = true ∧ d.tw.state = .paired) ∨
    d.tw.fenceOwed = true)) ∧
  (∃ (s : State) (d : Dev), s.begun = d ∧ d.tw.state = .paired ∧ 4 ≤ d.tw.misses) ∧
  (∃ (d d1 : Dev) (seq : Nat), seq = (d.tw.probeSeq + 1) % 256 ∧ d1 = { d with tw := { d.tw with probeSeq := seq } }) ∧
  (∃ (s : State) (d : Dev) (ok : Bool), s.begun = d ∧ d.tw.state = .probing ∧ d.probeWait ≤ d.waited d.tw.entered) ∧
  (∃ (s : State) (d : Dev) (ok : Bool), s.begun = d ∧ d.tw.state = .forming ∧ d.aloneWait ≤ d.waited d.tw.formSince ∧ d.tw.answered
    = true) ∧
  (∃ (s : State) (d : Dev) (ok : Bool), s.begun = d ∧ d.tw.state = .forming ∧ d.aloneWait ≤ d.waited d.tw.formSince ∧ d.tw.answered
    = false) ∧
  (∃ (d d1 d2 d3 d4 : Dev) (ok : Bool), d1 = (if d.tw.primary then d else forEach (d.tw.heldRecs.filter (fun m => decide (m.tick ≤
    d.now))) (fun m (d : Dev) => d.mirrorDo m) d) ∧ d2 =
    { d1 with tw := { d1.tw with primary := true, heldRecs := d1.tw.heldRecs.filter (fun m => decide (d1.now < m.tick)) }, cx := { d1.cx with work := d1.cx.work.filter (fun x => match x.phase with | .forwarded _ => false | _ => true) } }
    ∧ d3 = (d2.twTo .sole).loseTwin.reforward ∧ d4 = (({ d3 with sp := { d3.sp with released := false } }).adoptAll).raise
    evTwTakeover 0) ∧
  (∃ (s : State) (d : Dev) (seq : Nat) (m : Mirror), s.begun = d ∧ firstThat d.tw.heldRecs (fun m => m.seq == seq) = some m ∧
    (d.tw.state = .paired ∨ d.tw.state = .sole) ∧ m.tick ≤ d.now) ∧
  (∃ (s : State) (d : Dev) (seq : Nat) (m : Mirror), s.begun = d ∧ firstThat d.tw.heldRecs (fun m => m.seq == seq) = some m ∧
    d.tw.state ≠ .paired ∧ d.tw.state ≠ .sole) ∧
  (∃ (s : State) (d d1 : Dev) (seq t : Nat) (x : MhWork), s.begun = d ∧ firstThat d.cx.work (fun x => x.mirror == some seq) = some
    x ∧ x.phase = .staged t ∧ t ≤ d.now + 1 ∧ d.mirrorCovered seq = false ∧ (mhOp x.raw = 1 ∧ d1 = d.setVppb (mhHost x.raw)
    (mhVppb x.raw) { since := d.now } ∨ mhOp x.raw = 2 ∧ d1 = d.vppbUse (mhHost x.raw) (mhVppb x.raw) .bound ∨ 3 ≤ mhOp x.raw ∧
    d1 = d)) ∧
  (∃ (s : State) (d d1 : Dev) (seq t : Nat) (x : MhWork), s.begun = d ∧ firstThat d.cx.work (fun x => x.mirror == some seq) = some
    x ∧ x.phase = .staged t ∧ (d.now + 1 < t ∨ d.mirrorCovered seq = true)) ∧
  (∃ (s : State) (d : Dev) (v : Nat), s.begun = d ∧ 9 ≤ d.bt.phase ∧ v < 2 ^ 64 ∧ (d.tw.state ≠ .paired ∨ d.tw.primary = false)) ∧
  (∃ (s : State) (d : Dev) (v : Nat), s.begun = d ∧ 9 ≤ d.bt.phase ∧ v < 2 ^ 64 ∧ d.tw.state = .paired ∧ d.tw.primary = true ∧
    (flag v 62 = true ∨ flag v 63 = true) ∧ field v 0 48 < d.now + 2) ∧
  (∃ (s : State) (d : Dev) (v : Nat), s.begun = d ∧ 9 ≤ d.bt.phase ∧ v < 2 ^ 64 ∧ d.tw.state = .paired ∧ d.tw.primary = true ∧ flag
    v 62 = false ∧ flag v 63 = false) ∧
  (∃ (s : State) (d : Dev) (v : Nat), s.begun = d ∧ 9 ≤ d.bt.phase ∧ v < 2 ^ 64 ∧ d.tw.state = .paired ∧ d.tw.primary = true ∧
    d.now + 2 ≤ field v 0 48 ∧ flag v 62 = true) ∧
  (∃ (s : State) (d : Dev) (v : Nat), s.begun = d ∧ 9 ≤ d.bt.phase ∧ v < 2 ^ 64 ∧ d.tw.state = .paired ∧ d.tw.primary = true ∧
    d.now + 2 ≤ field v 0 48 ∧ flag v 63 = true) ∧
  (∃ (s : State) (d d1 : Dev) (tick : Nat) (ok : Bool), ∃ give hand, s.begun = d ∧ tick ≤ d.now ∧ d1 =
    { d with tw := { d.tw with armed := none } } ∧ (d.tw.state ≠ .paired ∨ d.tw.primary = false) ∧ d.tw.armed = some (tick,
    give, hand)) ∧
  (∃ (s : State) (d d1 : Dev) (tick : Nat) (ok : Bool), s.begun = d ∧ tick ≤ d.now ∧ d1 =
    { d with tw := { d.tw with armed := none } } ∧ d.tw.state = .paired ∧ d.tw.primary = true ∧ d.tw.armed = some (tick, true,
    false)) ∧
  (∃ (s : State) (d d1 : Dev) (tick : Nat) (ok : Bool), ∃ give d2 d3, s.begun = d ∧ tick ≤ d.now ∧ d1 =
    { d with tw := { d.tw with armed := none } } ∧ d.tw.state = .paired ∧ d.tw.primary = true ∧ d.tw.armed = some (tick, give,
    true) ∧ d2 = (if give then d1.giveBack else d1) ∧ d3 = d2.writeLease (d2.tw.lease.term + 1) (1 - d2.twinId) ok) ∧
  (∃ (d d1 : Dev), d1 = forEach ((upFrom 0 32).filter (fun k => !(d.ownsSlot k))) (fun k d => d.slotStandby k) d) :=
  ⟨⟨up (pair { state := .paired, silent := 2 }), _, rfl, by decide, by decide, by decide⟩,
   ⟨up { tw := { state := .paired, misses := 4 } }, _, rfl, by decide, by decide⟩,
   ⟨{ on with sp := { slots := [(0, { use := .on })] } }, _, _, rfl, rfl⟩,
   ⟨up { st := { boundaries := 4 }, tw := { state := .probing } }, _, true, rfl, by decide, by decide⟩,
   ⟨up { st := { boundaries := 2 ^ 20 }, tw := { state := .forming, answered := true } }, _, true, rfl, by decide, by decide, by
     decide⟩,
   ⟨up { st := { boundaries := 2 ^ 20 }, tw := { state := .forming } }, _, true, rfl, by decide, by decide, by decide⟩,
   ⟨{}, _, _, _, _, true, rfl, rfl, rfl, rfl⟩,
   ⟨up { tw := { state := .paired, heldRecs := [⟨1, 0, 1, 0, 0⟩] } }, _, 1, _, rfl, rfl, by decide, by decide⟩,
   ⟨up { tw := { state := .split, heldRecs := [⟨1, 0, 1, 0, 0⟩] } }, _, 1, _, rfl, rfl, by decide, by decide⟩,
   ⟨up { pair { state := .paired } with cx := { work := [⟨0, 1 + 2 ^ 40 + 5 * 2 ^ 48, some 1, .staged 1⟩] } }, _, _, 1, 1, _, rfl,
     rfl, by decide, by decide, by decide, .inl ⟨by decide, rfl⟩⟩,
   ⟨up { pair { state := .paired } with cx := { work := [⟨0, 1 + 2 ^ 40 + 5 * 2 ^ 48, some 1, .staged 2⟩] } }, _, {}, 1, 2, _, rfl,
     rfl, by decide, by decide⟩,
   ⟨up on, _, 9, rfl, by decide, by decide, by decide⟩,
   ⟨up { on with tw := { state := .paired, primary := true } }, _, 2 ^ 62 + 1, rfl, by decide, by decide, by decide, by decide, by
     decide, by decide⟩,
   ⟨up { on with tw := { state := .paired, primary := true } }, _, 9, rfl, by decide, by decide, by decide, by decide, by decide,
     by decide⟩,
   ⟨up { on with tw := { state := .paired, primary := true } }, _, 2 ^ 62 + 2, rfl, by decide, by decide, by decide, by decide, by
     decide, by decide⟩,
   ⟨up { on with tw := { state := .paired, primary := true } }, _, 2 ^ 63 + 2, rfl, by decide, by decide, by decide, by decide, by
     decide, by decide⟩,
   ⟨up { tw := { armed := some (0, true, false) } }, _, _, 0, true, _, _, rfl, by decide, rfl, by decide, rfl⟩,
   ⟨up { tw := { state := .paired, primary := true, armed := some (0, true, false) } }, _, _, _, true, rfl, by decide, rfl, by
     decide, by decide, rfl⟩,
   ⟨up { tw := { state := .paired, primary := true, armed := some (0, false, true) } }, _, _, _, true, _, _, _, rfl, by decide,
     rfl, by decide, by decide, rfl, rfl, rfl⟩,
   ⟨on, _, rfl⟩⟩

theorem witness_LockRequests :
  (∃ (d : Dev) (k : Nat) (p : Party) (tc : Nat) (c : LockCell), d.lock k = c ∧ flag d.ls.fenced (lockGroup k) = true) ∧
  (∃ (d : Dev) (k : Nat) (p : Party) (tc : Nat) (c : LockCell), d.lock k = c ∧ flag d.ls.fenced (lockGroup k) = false ∧
    d.lockAdmits (lockGroup k) p = false) ∧
  (∃ (d : Dev) (k : Nat) (p : Party) (tc : Nat) (c : LockCell), d.lock k = c ∧ flag d.ls.fenced (lockGroup k) = false ∧
    d.lockAdmits (lockGroup k) p = true ∧ (c.holder = some p ∨ c.waiters.any (fun w => decide (w.who = p)) = true)) ∧
  (∃ (d : Dev) (k : Nat) (p : Party) (tc : Nat) (c : LockCell), d.lock k = c ∧ flag d.ls.fenced (lockGroup k) = false ∧
    d.lockAdmits (lockGroup k) p = true ∧ c.use = .free ∧ c.waiters = [] ∧ c.holder ≠ some p) ∧
  (∃ (d : Dev) (k : Nat) (p : Party) (tc : Nat) (c : LockCell), d.lock k = c ∧ flag d.ls.fenced (lockGroup k) = false ∧
    d.lockAdmits (lockGroup k) p = true ∧ (c.use ≠ .free ∨ c.waiters ≠ []) ∧ c.holder ≠ some p ∧ c.waiters.any (fun w => decide
    (w.who = p)) = false ∧ 16384 ≤ d.lockWaiters) ∧
  (∃ (d : Dev) (k : Nat) (p : Party) (tc : Nat) (c : LockCell), ∃ cookie, ∃ d1, d.lock k = c ∧ flag d.ls.fenced (lockGroup k) =
    false ∧ d.lockAdmits (lockGroup k) p = true ∧ (c.use ≠ .free ∨ c.waiters ≠ []) ∧ c.holder ≠ some p ∧ c.waiters.any (fun w =>
    decide (w.who = p)) = false ∧ d.lockWaiters < 16384 ∧ d1 = (d.setLock k
    { c with waiters := c.waiters ++ [⟨p, cookie, tc⟩] }).mirrorLock k mlEnqueue p ∧ c.waiters.length + 1 ≤ d1.queueWarn) ∧
  (∃ (d : Dev) (k : Nat) (p : Party) (tc : Nat) (c : LockCell), ∃ cookie, ∃ d1, d.lock k = c ∧ flag d.ls.fenced (lockGroup k) =
    false ∧ d.lockAdmits (lockGroup k) p = true ∧ (c.use ≠ .free ∨ c.waiters ≠ []) ∧ c.holder ≠ some p ∧ c.waiters.any (fun w =>
    decide (w.who = p)) = false ∧ d.lockWaiters < 16384 ∧ d1 = (d.setLock k
    { c with waiters := c.waiters ++ [⟨p, cookie, tc⟩] }).mirrorLock k mlEnqueue p ∧ d1.queueWarn < c.waiters.length + 1) ∧
  (∃ (d : Dev) (k : Nat) (p : Party) (tc : Nat) (c : LockCell), d.lock k = c ∧ flag d.ls.fenced (lockGroup k) = false ∧
    d.lockAdmits (lockGroup k) p = true ∧ c.holder = some p) ∧
  (∃ (d : Dev) (k : Nat) (p : Party) (tc : Nat) (c : LockCell), d.lock k = c ∧ flag d.ls.fenced (lockGroup k) = false ∧
    d.lockAdmits (lockGroup k) p = true ∧ c.holder ≠ some p) ∧
  (∃ (d : Dev) (k : Nat) (p : Party) (tc : Nat) (c : LockCell), d.lock k = c ∧ flag d.ls.fenced (lockGroup k) = false ∧
    d.lockAdmits (lockGroup k) p = true ∧ c.holder = some p ∧ p.cls = .remote) ∧
  (∃ (d : Dev) (k : Nat) (p : Party) (tc : Nat) (c : LockCell), d.lock k = c ∧ flag d.ls.fenced (lockGroup k) = false ∧
    d.lockAdmits (lockGroup k) p = true ∧ c.holder = some p ∧ p.cls ≠ .remote) ∧
  (∃ (d : Dev) (k : Nat) (p : Party) (tc : Nat) (c : LockCell), d.lock k = c ∧ flag d.ls.fenced (lockGroup k) = false ∧
    d.lockAdmits (lockGroup k) p = true ∧ c.waiters.any (fun w => decide (w.who = p)) = true) ∧
  (∃ (d : Dev) (k : Nat) (p : Party) (tc : Nat) (c : LockCell), d.lock k = c ∧ flag d.ls.fenced (lockGroup k) = false ∧
    d.lockAdmits (lockGroup k) p = true ∧ c.waiters.any (fun w => decide (w.who = p)) = false) ∧
  (∃ (d : Dev) (k : Nat) (abandoned : Bool) (c : LockCell), d.lock k = c ∧ c.waiters = []) ∧
  (∃ (d : Dev) (k : Nat) (abandoned : Bool) (c : LockCell), ∃ w rest d1 g, d.lock k = c ∧ c.waiters = w :: rest ∧ d1 = d.mirrorLock
    k mlGrant w.who ∧ g = (if w.who.cls = .remote then LockUse.granting else LockUse.held) ∧ (d1.mirroring && d1.tw.primary) =
    false) ∧
  (∃ (d : Dev) (k : Nat) (abandoned : Bool) (c : LockCell), ∃ w rest d1 g, d.lock k = c ∧ c.waiters = w :: rest ∧ d1 = d.mirrorLock
    k mlGrant w.who ∧ g = (if w.who.cls = .remote then LockUse.granting else LockUse.held) ∧ (d1.mirroring && d1.tw.primary) =
    true) ∧
  (∃ (d : Dev) (k : Nat) (w : Waiter) (ab : Bool), w.who.cls = .host ∧ w.who.ofTwin = false) ∧
  (∃ (d : Dev) (k : Nat) (w : Waiter) (ab : Bool), w.who.cls = .host ∧ w.who.ofTwin = true) ∧
  (∃ (d : Dev) (k : Nat) (w : Waiter) (ab : Bool), w.who.cls = .remote) ∧
  (∃ (d : Dev) (k op : Nat) (p : Party), (d.mirroring && d.tw.primary) = true) ∧
  (∃ (d : Dev) (k op : Nat) (p : Party), (d.mirroring && d.tw.primary) = false) :=
  ⟨⟨{ ls := { fenced := 2 ^ 15 } }, 4095, me, 0, _, rfl, by decide⟩,
   ⟨{}, 4095, me, 0, _, rfl, by decide, by decide⟩,
   ⟨lks { use := .granting, holder := some me }, 4095, me, 0, _, rfl, by decide, by decide, by decide⟩,
   ⟨lks {}, 4095, me, 0, _, rfl, by decide, by decide, by decide, by decide, by decide⟩,
   ⟨crowd 16384, 4095, me, 0, _, rfl, by decide, by decide, by decide, by decide, by decide, Nat.le_of_eq (crowd_waiters
     16384).symm⟩,
   ⟨lks { use := .granting, holder := some me }, 4095, them, 16384, _, 16384, _, rfl, by decide, by decide, by decide, by decide,
     by decide, by decide, rfl, by decide⟩,
   ⟨(lks { use := .held, holder := some them, waiters := [⟨{ me with ep := 6 }, 0, 0⟩] }).wr rLsCtl 1, 4095, me, 0, _, 7, _, rfl,
     by decide, by decide, by decide, by decide, by decide, by decide, rfl, by decide⟩,
   ⟨lks { use := .held, holder := some me }, 4095, me, 0, _, rfl, by decide, by decide, by decide⟩,
   ⟨lks { use := .held, holder := some them }, 4095, me, 0, _, rfl, by decide, by decide, by decide⟩,
   ⟨lks { use := .held, holder := some them }, 4095, them, 0, _, rfl, by decide, by decide, by decide, by decide⟩,
   ⟨lks { use := .held, holder := some me }, 4095, me, 0, _, rfl, by decide, by decide, by decide, by decide⟩,
   ⟨lks { use := .held, holder := some them, waiters := [⟨me, 1, 0⟩] }, 4095, me, 0, _, rfl, by decide, by decide, by decide⟩,
   ⟨lks {}, 4095, me, 0, _, rfl, by decide, by decide, by decide⟩,
   ⟨{ on with sp := { slots := [(0, { use := .on })] } }, 4095, true, _, rfl, by decide⟩,
   ⟨lks { use := .held, holder := some them, waiters := [⟨me, 1, 0⟩] }, 4095, true, _, _, _, _, _, rfl, rfl, rfl, rfl, by decide⟩,
   ⟨{ pair { state := .paired, primary := true } with ls := { locks := [(4095, { use := .held, holder := some them, waiters := [⟨me, 1, 0⟩] })] } },
     4095, true, _, _, _, _, _, rfl, rfl, rfl, rfl, by decide⟩,
   ⟨{}, 4095, ⟨me, 1, 0⟩, true, by decide, by decide⟩,
   ⟨{}, 4095, ⟨{ me with ofTwin := true }, 1, 0⟩, true, by decide, by decide⟩,
   ⟨{}, 4095, ⟨them, 1, 0⟩, true, by decide⟩,
   ⟨pair { state := .paired, primary := true }, 4095, 0x7F, me, by decide⟩,
   ⟨{ on with sp := { slots := [(0, { use := .on })] } }, 4095, 0x7F, me, by decide⟩⟩

theorem witness_LocksAcrossNodes :
  (∃ (s : State) (d d1 : Dev) (p : Packet), s.begun = d ∧ p.crcOk = true ∧ requestOk p = true ∧ lockBad p = true ∧ d1 = (d.latchLs
    (field (ofBytes p.payload) 16 12) 2 ⟨.remote, hSrcNode p.hdr, hSrcEp p.hdr, false⟩).raise evLsLockMalformed (lockGroup
    (field (ofBytes p.payload) 16 12)) ∧ hType p.hdr = tyLsReq) ∧
  (∃ (s : State) (d d1 : Dev) (p : Packet), s.begun = d ∧ p.crcOk = true ∧ requestOk p = true ∧ lockBad p = true ∧ d1 = (d.latchLs
    (field (ofBytes p.payload) 16 12) 2 ⟨.remote, hSrcNode p.hdr, hSrcEp p.hdr, false⟩).raise evLsLockMalformed (lockGroup
    (field (ofBytes p.payload) 16 12)) ∧ hType p.hdr = tyLsGrant) ∧
  (∃ (s : State) (d d1 : Dev) (p : Packet) (op : LockOp) (r r' : TgtRec) (status : Nat) (ab : Bool), s.begun = d ∧ p.crcOk = true ∧
    requestOk p = true ∧ hType p.hdr = tyLsReq ∧ lockReqOp (ofBytes p.payload) = some op ∧ d.tp.service.isSome = true ∧ d.ageOf
    (hFst p.hdr) ≤ d.ageLimit ∧ d.recFor p.hdr = none ∧ hOffset p.hdr = 0 ∧ hPayLen p.hdr = hMsgLen p.hdr ∧ d.early p.hdr =
    false ∧ d.prevOk p.hdr = true ∧ d.recFree = true ∧ d.mirrorFull = false ∧ r = d.newRec p.hdr p.tc ∧ r' =
    { r with bitmap := 1, baton := hMsgLen p.hdr, firstDone := true } ∧ ((d.putRec r).putRec r').runsLocks = true ∧ ((d.putRec
    r).putRec r').lockServe (field (ofBytes p.payload) 16 12) ⟨.remote, r.srcNode, r.srcEp, false⟩ r.tc op = (status, ab, d1)) ∧
  (∃ (s : State) (d d1 : Dev) (p : Packet) (op : LockOp) (r r' : TgtRec) (status : Nat) (ab : Bool), s.begun = d ∧ p.crcOk = true ∧
    requestOk p = true ∧ hType p.hdr = tyLsReq ∧ lockReqOp (ofBytes p.payload) = some op ∧ d.tp.service.isSome = true ∧ d.ageOf
    (hFst p.hdr) ≤ d.ageLimit ∧ d.recFor p.hdr = none ∧ hOffset p.hdr = 0 ∧ hPayLen p.hdr = hMsgLen p.hdr ∧ d.early p.hdr =
    false ∧ d.prevOk p.hdr = true ∧ d.recFree = true ∧ d.mirrorFull = false ∧ r = d.newRec p.hdr p.tc ∧ r' =
    { r with bitmap := 1, baton := hMsgLen p.hdr, firstDone := true } ∧ ((d.putRec r).putRec r').runsLocks = false) ∧
  (∃ (d d1 : Dev) (r : TgtRec) (p : Packet), d.ls.asked.any (fun x => hSrcNode x.2.hdr == r.srcNode && hMsgId x.2.hdr == r.msgId &&
    hFst x.2.hdr == r.fst) = true) ∧
  (∃ (d d1 : Dev) (r : TgtRec) (p : Packet), d.ls.asked.any (fun x => hSrcNode x.2.hdr == r.srcNode && hMsgId x.2.hdr == r.msgId &&
    hFst x.2.hdr == r.fst) = false ∧ d1 = d.mirror 6 24 0 (pack [(128, ofBytes p.payload), (32, r.srcNode), (16, r.srcEp), (8,
    r.tc)])) ∧
  (∃ (d d1 : Dev) (w seq : Nat) (p : Packet) (r : TgtRec), firstThat d.ls.asked (fun x => x.1 == field w 0 32) = some (seq, p) ∧ d1
    = { d with ls := { d.ls with asked := d.ls.asked.filter (fun x => x.1 != seq) } } ∧ d1.recFor p.hdr = some r ∧ r.state =
    .inProgress) ∧
  (∃ (s : State) (d d1 d2 d3 : Dev) (p : Packet) (c : EpCtx) (r r' : TgtRec) (w : Nat), s.begun = d ∧ p.crcOk = true ∧ requestOk p
    = true ∧ hType p.hdr = tyLsGrant ∧ lockGrantOk (ofBytes p.payload) = true ∧ d.tp.service.isSome = true ∧ d.ageOf (hFst
    p.hdr) ≤ d.ageLimit ∧ d.recFor p.hdr = none ∧ hOffset p.hdr = 0 ∧ hPayLen p.hdr = hMsgLen p.hdr ∧ d.ep (hDstEp p.hdr) = some
    c ∧ c.onDie = true ∧ d1 = d.touch (hDstEp p.hdr) ∧ d1.epServes p.hdr = true ∧ d1.early p.hdr = false ∧ d1.prevOk p.hdr =
    true ∧ d1.recFree = true ∧ d1.reserve (hDstEp p.hdr) = some d2 ∧ r = { d1.newRec p.hdr p.tc with rsv := true } ∧ r' =
    { r with bitmap := 1, baton := hMsgLen p.hdr, firstDone := true } ∧ d3 = (d2.putRec r).putRec r' ∧ w = ofBytes p.payload) ∧
  (∃ (d : Dev) (k status : Nat) (m : Msg) (p : Party), p = Party.mk .remote m.dstNode m.dstEp false ∧ (d.lock k).use = .granting ∧
    (d.lock k).holder = some p ∧ status = stOk) ∧
  (∃ (d : Dev) (k status : Nat) (m : Msg) (p : Party), p = Party.mk .remote m.dstNode m.dstEp false ∧ (d.lock k).use = .granting ∧
    (d.lock k).holder = some p ∧ status ≠ stOk) ∧
  (∃ (d d1 : Dev) (k cause : Nat) (gone : Party → Bool), ∃ p, d1 = forEach ((d.lock k).waiters.filter (fun w => gone w.who)) (fun
    (w : Waiter) d => d.mirrorLock k mlCancel w.who) ((d.setLock k
    { d.lock k with waiters := (d.lock k).waiters.filter (fun w => !(gone w.who)) }).raise cause (lockGroup k)) ∧ (d.lock
    k).holder = some p ∧ gone p = true) ∧
  (∃ (d d1 : Dev) (k cause : Nat) (gone : Party → Bool), d1 = forEach ((d.lock k).waiters.filter (fun w => gone w.who)) (fun (w :
    Waiter) d => d.mirrorLock k mlCancel w.who) ((d.setLock k
    { d.lock k with waiters := (d.lock k).waiters.filter (fun w => !(gone w.who)) }).raise cause (lockGroup k)) ∧ ((d.lock
    k).holder = none ∨ ∃ p, (d.lock k).holder = some p ∧ gone p = false) ∧ (d.lock k).waiters.any (fun w => gone w.who) = true) ∧
  (∃ (d d1 : Dev) (k cause : Nat) (gone : Party → Bool), d1 = forEach ((d.lock k).waiters.filter (fun w => gone w.who)) (fun (w :
    Waiter) d => d.mirrorLock k mlCancel w.who) ((d.setLock k
    { d.lock k with waiters := (d.lock k).waiters.filter (fun w => !(gone w.who)) }).raise cause (lockGroup k)) ∧ ((d.lock
    k).holder = none ∨ ∃ p, (d.lock k).holder = some p ∧ gone p = false) ∧ (d.lock k).waiters.any (fun w => gone w.who) = false) ∧
  (∃ (s : State) (d : Dev) (k : Nat) (p : Party), s.begun = d ∧ (d.lock k).holder = some p ∧ d.runsLocks = true ∧ d.leaseDue
    (d.lock k) = true ∧ d.leaseFirst (d.lock k) = true ∧ d.quotaLeft actLease = true) ∧
  (∃ (s : State) (d : Dev) (v k : Nat), s.begun = d ∧ 9 ≤ d.bt.phase ∧ v < 2 ^ 32 ∧ k = d.fld rLsLockSel 0 12 ∧ flag v 0 = false) ∧
  (∃ (s : State) (d : Dev) (v k : Nat), s.begun = d ∧ 9 ≤ d.bt.phase ∧ v < 2 ^ 32 ∧ k = d.fld rLsLockSel 0 12 ∧ flag v 0 = true ∧
    (d.lock k).use = .free) ∧
  (∃ (s : State) (d : Dev) (v k : Nat), ∃ p d1, s.begun = d ∧ 9 ≤ d.bt.phase ∧ v < 2 ^ 32 ∧ k = d.fld rLsLockSel 0 12 ∧ flag v 0 =
    true ∧ (d.lock k).use ≠ .free ∧ (d.lock k).holder = some p ∧ d1 = d.raise evLsForceRelease (lockGroup k) ∧ d1.runsLocks =
    true) ∧
  (∃ (s : State) (d : Dev) (v k : Nat), ∃ p d1, s.begun = d ∧ 9 ≤ d.bt.phase ∧ v < 2 ^ 32 ∧ k = d.fld rLsLockSel 0 12 ∧ flag v 0 =
    true ∧ (d.lock k).use ≠ .free ∧ (d.lock k).holder = some p ∧ d1 = d.raise evLsForceRelease (lockGroup k) ∧ d1.runsLocks =
    false) ∧
  (∃ (s : State) (d : Dev) (k seq t : Nat) (w : Waiter) (ab : Bool), s.begun = d ∧ (d.lock k).grantWait = some (seq, t, false, w,
    ab) ∧ d.mirrorCovered seq = false ∧ 1 < d.since t) ∧
  (∃ (d : Dev) (k seq t : Nat) (raised : Bool) (w : Waiter) (ab : Bool), (d.lock k).grantWait = some (seq, t, raised, w, ab) ∧
    d.mirrorCovered seq = true) ∧
  (∃ (d : Dev) (k seq t : Nat) (raised : Bool) (w : Waiter) (ab : Bool), (d.lock k).grantWait = some (seq, t, raised, w, ab) ∧
    d.mirrorCovered seq = false) ∧
  (∃ (d d1 : Dev) (seq w status : Nat) (op : LockOp) (ab : Bool) (p : Party), lockReqOp (field w 0 128) = some op ∧ p = ⟨.host,
    field w 128 8, field w 144 16, true⟩ ∧ d.lockServe (field w 16 12) p (field w 136 8) op = (status, ab, d1)) ∧
  (∃ (d d1 : Dev) (seq w status : Nat) (op : LockOp) (ab : Bool) (p : Party), lockReqOp (field w 0 128) = some op ∧ p = ⟨.remote,
    field w 128 32, field w 160 16, false⟩ ∧ d.lockServe (field w 16 12) p (field w 176 8) op = (status, ab, d1)) ∧
  (∃ (d : Dev) (gone : Party → Bool) (cause : Nat), d.runsLocks = true) ∧
  (∃ (d : Dev) (gone : Party → Bool) (cause : Nat), d.runsLocks = false) ∧
  (∃ (d : Dev) (w : Nat), d.runsLocks = true) :=
  ⟨⟨up {}, _, _, pkt (req 8 16) (List.replicate 16 0), rfl, pkt_crcOk _ _, by decide, by decide, rfl, by decide⟩,
   ⟨up {}, _, _, pkt (req 9 16) (List.replicate 16 255), rfl, pkt_crcOk _ _, by decide, by decide, rfl, by decide⟩,
   ⟨up { tp := { service := some 0 } }, _, _, pkt (req 8 16) ([1] ++ List.replicate 15 0), _, _, _, _, _, rfl, pkt_crcOk _ _, by
     decide, by decide, rfl, by decide, by decide, by decide, by decide, by decide, by decide, by decide, by decide, by decide,
     rfl, rfl, by decide, rfl⟩,
   ⟨up { on.wr rTwCfg 0x100 with tp := { service := some 0 } }, _, {}, pkt (req 8 16) ([1] ++ List.replicate 15 0), _, _, _, 0,
     false, rfl, pkt_crcOk _ _, by decide, by decide, rfl, by decide, by decide, by decide, by decide, by decide, by decide, by
     decide, by decide, by decide, rfl, rfl, by decide⟩,
   ⟨{ ls := { asked := [(1, pkt (req 8 16))] } }, {}, ({} : Dev).newRec (req 8 16) 0, pkt 0, by decide⟩,
   ⟨{ ls := { asked := [(1, pkt 0)] } }, _, ({} : Dev).newRec (req 8 16) 0, pkt 0, by decide, rfl⟩,
   ⟨{ ls := { asked := [(1, pkt (req 8 16))] }, tp := { recs := [({} : Dev).newRec (req 8 16) 0] } }, _, 1, _, _, _, rfl, rfl, rfl,
     by decide⟩,
   ⟨up { host epc with tp := { service := some 0 } }, _, _, _, _, pkt (req 9 16) (List.replicate 16 0), _, _, _, _, rfl, pkt_crcOk
     _ _, by decide, by decide, by decide, by decide, by decide, by decide, by decide, by decide, rfl, by decide, rfl, by
     decide, by decide, by decide, by decide, rfl, rfl, rfl, rfl, rfl⟩,
   ⟨{ ls := { locks := [(4095, { use := .granting, holder := some ⟨.remote, 1, 2, false⟩ })] } }, 4095, 0,
     { msg with dstNode := 1, dstEp := 2 }, _, rfl, by decide, by decide, by decide⟩,
   ⟨{ ls := { locks := [(4095, { use := .granting, holder := some ⟨.remote, 1, 2, false⟩ })] } }, 4095, 255,
     { msg with dstNode := 1, dstEp := 2 }, _, rfl, by decide, by decide, by decide⟩,
   ⟨lks { use := .held, holder := some me }, _, 4095, 0, fun _ => true, _, rfl, rfl, by decide⟩,
   ⟨lks { use := .held, holder := some them, waiters := [⟨me, 1, 0⟩] }, _, 4095, 0, fun p => decide (p = me), rfl, .inr ⟨them, rfl,
     by decide⟩, by decide⟩,
   ⟨lks {}, _, 4095, 0, fun _ => true, rfl, .inl rfl, by decide⟩,
   ⟨up { lks { use := .held, holder := some them } with st := { tick := 2 ^ 20 } }, _, 4095, _, rfl, rfl, by decide, by decide, by
     decide, by decide⟩,
   ⟨up on, _, 2, _, rfl, by decide, by decide, rfl, by decide⟩,
   ⟨up on, _, 1, _, rfl, by decide, by decide, rfl, by decide, by decide⟩,
   ⟨up { on with ls := { locks := [(0, { use := .held, holder := some me })] } }, _, 1, _, _, _, rfl, by decide, by decide, rfl, by
     decide, by decide, rfl, rfl, by decide⟩,
   ⟨up { on.wr rTwCfg 0x100 with ls := { locks := [(0, { use := .held, holder := some me })] } }, _, 1, _, _, _, rfl, by decide, by
     decide, rfl, by decide, by decide, rfl, rfl, by decide⟩,
   ⟨up
     { pair { state := .paired } with st := { tick := 2 }, ls := { locks := [(0, { grantWait := some (1, 0, false, ⟨me, 1, 0⟩, false) })] } },
     _, 0, _, _, _, _, rfl, rfl, by decide, by decide⟩,
   ⟨{ ls := { locks := [(4095, { grantWait := some (1, 0, true, ⟨me, 1, 0⟩, false) })] } }, 4095, _, _, _, _, _, rfl, by decide⟩,
   ⟨(up
     { pair { state := .paired } with st := { tick := 2 }, ls := { locks := [(0, { grantWait := some (1, 0, false, ⟨me, 1, 0⟩, false) })] } }).begun,
     0, _, _, _, _, _, rfl, by decide⟩,
   ⟨{ on with sp := { slots := [(0, { use := .on })] } }, _, 0, 0x101, _, _, _, _, rfl, rfl, rfl⟩,
   ⟨{ on with sp := { slots := [(0, { use := .on })] } }, _, 0, 0x101, _, _, _, _, rfl, rfl, rfl⟩,
   ⟨{}, fun _ => true, 0, by decide⟩,
   ⟨on.wr rTwCfg 0x100, fun _ => true, 0, by decide⟩,
   ⟨{}, 0, by decide⟩⟩

theorem witness_DomainsSleepAndWake :
  (∃ (s : State) (d d1 : Dev) (v : Nat), s.begun = d ∧ 9 ≤ d.bt.phase ∧ v < 2 ^ 32 ∧ d1 = d.wr rPdVote (field v 0 11)) ∧
  (∃ (s : State) (d : Dev) (k : Nat) (x : PdDom), s.begun = d ∧ d.dom k = x ∧ x.use = .on ∧ x.idle = true ∧ d.domWanted k = false) ∧
  (∃ (s : State) (d : Dev) (k : Nat) (x : PdDom), ∃ f, s.begun = d ∧ d.dom k = x ∧ x.use = .entering f ∧ x.late = false ∧ f = 1) ∧
  (∃ (s : State) (d : Dev) (k : Nat) (x : PdDom), ∃ f, s.begun = d ∧ d.dom k = x ∧ x.use = .entering f ∧ x.late = false ∧ f ≠ 1) ∧
  (∃ (s : State) (d : Dev) (k : Nat) (x : PdDom), ∃ f, s.begun = d ∧ d.dom k = x ∧ x.use = .entering f ∧ x.late = true) ∧
  (∃ (s : State) (d : Dev) (k : Nat) (x : PdDom), ∃ f ns good recent d1 d2 d3, s.begun = d ∧ d.dom k = x ∧ x.use = .waking f ∧
    recent = (d.st.boundaries :: x.recent).filter (fun t => decide (d.waited t * d.period < 1024000)) ∧ d1 = ((d.setDom k
    { x with use := .on, idle := false, wakes := if f = 2 then satInc (2 ^ 32 - 1) x.wakes else x.wakes, recent := if 64 < recent.length then [] else recent }).wr
    rPdWakeLast (min ns (2 ^ 32 - 1))).raise evPdDomWake 0 ∧ (good = false ∧ f = 2 → d2 = (d1.latchPd k 1).raise evPdRetainLost
    0) ∧ (good = true ∨ f ≠ 2 → d2 = d1) ∧ (3 * wakeDelay k f < 2 * ns → d3 = (d2.latchPd k 2).raise evPdWakeSlow 0) ∧ (2 * ns ≤
    3 * wakeDelay k f → d3 = d2) ∧ 64 < recent.length) ∧
  (∃ (s : State) (d : Dev) (k : Nat) (x : PdDom), ∃ f ns good recent d1 d2 d3, s.begun = d ∧ d.dom k = x ∧ x.use = .waking f ∧
    recent = (d.st.boundaries :: x.recent).filter (fun t => decide (d.waited t * d.period < 1024000)) ∧ d1 = ((d.setDom k
    { x with use := .on, idle := false, wakes := if f = 2 then satInc (2 ^ 32 - 1) x.wakes else x.wakes, recent := if 64 < recent.length then [] else recent }).wr
    rPdWakeLast (min ns (2 ^ 32 - 1))).raise evPdDomWake 0 ∧ (good = false ∧ f = 2 → d2 = (d1.latchPd k 1).raise evPdRetainLost
    0) ∧ (good = true ∨ f ≠ 2 → d2 = d1) ∧ (3 * wakeDelay k f < 2 * ns → d3 = (d2.latchPd k 2).raise evPdWakeSlow 0) ∧ (2 * ns ≤
    3 * wakeDelay k f → d3 = d2) ∧ recent.length ≤ 64) ∧
  (∃ (s : State) (d : Dev) (k : Nat) (x : PdDom), s.begun = d ∧ d.dom k = x ∧ (x.use ≠ .on ∨ x.idle = false ∨ d.domWanted k = true)) ∧
  (∃ (s : State) (d : Dev) (k : Nat) (x : PdDom), s.begun = d ∧ d.dom k = x ∧ (x.use = .on ∨ x.use = .gated ∨ x.use = .retain)) ∧
  (∃ (s : State) (d : Dev) (k : Nat) (x : PdDom), s.begun = d ∧ d.dom k = x ∧ d.domHeld k = true) ∧
  (∃ (s : State) (d : Dev) (k : Nat) (x : PdDom), s.begun = d ∧ d.dom k = x ∧ d.domHeld k = false) ∧
  (∃ (s : State) (d : Dev) (k : Nat) (x : PdDom), ∃ f, s.begun = d ∧ d.dom k = x ∧ (x.use = .entering f ∨ x.use = .waking f)) :=
  ⟨⟨up on, _, _, 0xFFFFFFFF, rfl, by decide, by decide, rfl⟩,
   ⟨up { pd := { doms := [(10, { idle := true })] } }, _, 10, _, rfl, rfl, by decide, by decide, by decide⟩,
   ⟨up { pd := { doms := [(10, { use := .entering 1 })] } }, _, 10, _, _, rfl, rfl, rfl, by decide, by decide⟩,
   ⟨up { pd := { doms := [(10, { use := .entering 2 })] } }, _, 10, _, _, rfl, rfl, rfl, by decide, by decide⟩,
   ⟨up { pd := { doms := [(10, { use := .entering 2, late := true })] } }, _, 10, _, _, rfl, rfl, rfl, by decide⟩,
   ⟨up { pd := { doms := [(10, { use := .waking 1, recent := List.replicate 64 0 })] } }, _, 10, _, _, 0, true, _, _, _, _, rfl,
     rfl, rfl, rfl, rfl, fun h => absurd h.1 (by decide), fun _ => rfl, fun h => absurd h (by decide), fun _ => rfl, by decide⟩,
   ⟨up { pd := { doms := [(10, { use := .waking 1 })] } }, _, 10, _, _, 0, true, _, _, _, _, rfl, rfl, rfl, rfl, rfl, fun h =>
     absurd h.1 (by decide), fun _ => rfl, fun h => absurd h (by decide), fun _ => rfl, by decide⟩,
   ⟨{}, _, 10, _, rfl, rfl, by decide⟩,
   ⟨{}, _, 10, _, rfl, rfl, by decide⟩,
   ⟨up { pd := { doms := [(10, { swHeld := true })] } }, _, 10, _, rfl, rfl, by decide⟩,
   ⟨up {}, _, 10, _, rfl, rfl, by decide⟩,
   ⟨up { pd := { doms := [(0, { use := .waking 1 })] } }, _, 0, _, 1, rfl, rfl, by decide⟩⟩

theorem witness_SecurityCommands :
  (∃ (s : State) (bytes : List Byte) (f : EbFrame) (c : Chip), s.takesFrame bytes 0x30 f c ∧ f.takes 0 = true) ∧
  (∃ (s : State) (bytes : List Byte) (f : EbFrame) (c : Chip), s.takesFrame bytes 0x31 f c ∧ f.takes 32 = true ∧ c.dev.se.idReady =
    false) ∧
  (∃ (s : State) (bytes : List Byte) (f : EbFrame) (c : Chip), s.takesFrame bytes 0x31 f c ∧ f.takes 32 = true ∧ c.dev.se.idReady =
    true) ∧
  (∃ (s : State) (bytes : List Byte) (f : EbFrame) (c : Chip), s.takesFrame bytes 0x32 f c ∧ f.takes 0 = true) ∧
  (∃ (s : State) (bytes : List Byte) (f : EbFrame) (c : Chip), s.takesFrame bytes 0x30 f c ∧ f.takes 0 = false) ∧
  (∃ (s : State) (bytes : List Byte) (f : EbFrame) (c : Chip), s.takesFrame bytes 0x31 f c ∧ f.takes 32 = false) ∧
  (∃ (s : State) (bytes : List Byte) (f : EbFrame) (c : Chip), s.takesFrame bytes 0x32 f c ∧ f.takes 0 = false) ∧
  (∃ (s : State) (bytes : List Byte) (f : EbFrame) (c : Chip), s.takesFrame bytes 0x33 f c ∧ f.takes 32 = false) ∧
  (∃ (s : State) (bytes : List Byte) (f : EbFrame) (c : Chip), s.takesFrame bytes 0x34 f c ∧ f.takes 160 = false) ∧
  (∃ (s : State) (bytes : List Byte) (f : EbFrame) (c : Chip), s.takesFrame bytes 0x33 f c ∧ f.takes 32 = true ∧ c.dev.se.sparge =
    none ∧ c.dev.se.life = 0) ∧
  (∃ (s : State) (bytes : List Byte) (f : EbFrame) (c : Chip), s.takesFrame bytes 0x33 f c ∧ f.takes 32 = true ∧ c.dev.se.sparge =
    none ∧ c.dev.se.life ≠ 0) ∧
  (∃ (s : State) (bytes : List Byte) (f : EbFrame) (c : Chip), s.takesFrame bytes 0x33 f c ∧ f.takes 32 = true ∧
    c.dev.se.sparge.isSome = true) ∧
  (∃ (s : State) (bytes : List Byte) (f : EbFrame) (c c1 : Chip) (st : Nat), s.takesFrame bytes 0x34 f c ∧ f.takes 160 = true ∧
    c.statement (f.num 0 96) (f.num 96 64) = (st, c1)) ∧
  (∃ (c c1 : Chip) (w sig : Nat), ∃ who, c.statementStatus w = ebOk ∧ c1 =
    { c with dev := { c.dev with se := { c.dev.se with nonce := none } } } ∧ stCmd w ≠ 4 ∧ stCmd w ≠ 5 ∧ lcSigner c.dev.se.life
    (stCmd w) = some who ∧ c.nv.fuses.signed who (toBytes 96 w) sig = true) ∧
  (∃ (c c1 : Chip) (w sig : Nat), ∃ who, c.statementStatus w = ebOk ∧ c1 =
    { c with dev := { c.dev with se := { c.dev.se with nonce := none } } } ∧ stCmd w ≠ 4 ∧ stCmd w ≠ 5 ∧ lcSigner c.dev.se.life
    (stCmd w) = some who ∧ c.nv.fuses.signed who (toBytes 96 w) sig = false) ∧
  (∃ (c c1 : Chip) (w sig : Nat), c.statementStatus w = ebOk ∧ c1 =
    { c with dev := { c.dev with se := { c.dev.se with nonce := none } } } ∧ stCmd w ≠ 4 ∧ stCmd w ≠ 5 ∧ lcSigner c.dev.se.life
    (stCmd w) = none) ∧
  (∃ (c c1 : Chip) (w sig : Nat), c.statementStatus w = ebOk ∧ c1 =
    { c with dev := { c.dev with se := { c.dev.se with nonce := none } } } ∧ stCmd w = 4 ∧ c.nv.fuses.signed .owner (toBytes 96
    w) sig = false) ∧
  (∃ (c c1 : Chip) (w sig : Nat), c.statementStatus w = ebOk ∧ c1 =
    { c with dev := { c.dev with se := { c.dev.se with nonce := none } } } ∧ stCmd w = 5 ∧ debugSigner c.dev.se.life = none) ∧
  (∃ (s : State) (bytes : List Byte) (f : EbFrame) (c c1 : Chip) (w sig st : Nat), s.takesFrame bytes 0x34 f c ∧ f.takes 160 = true
    ∧ w = f.num 0 96 ∧ sig = f.num 96 64 ∧ c.statementStatus w = st ∧ st ≠ ebOk) ∧
  (∃ (s : State) (bytes : List Byte) (f : EbFrame) (c c1 : Chip) (w sig st : Nat), ∃ who, s.takesFrame bytes 0x34 f c ∧ f.takes 160
    = true ∧ w = f.num 0 96 ∧ sig = f.num 96 64 ∧ c.statementStatus w = ebOk ∧ c1 =
    { c with dev := { c.dev with se := { c.dev.se with nonce := none } } } ∧ lcSigner c.dev.se.life (stCmd w) = some who ∧
    c.nv.fuses.signed who (toBytes 96 w) sig = true ∧ stCmd w = 3) ∧
  (∃ (s : State) (bytes : List Byte) (f : EbFrame) (c c1 : Chip) (w sig st : Nat), s.takesFrame bytes 0x34 f c ∧ f.takes 160 = true
    ∧ w = f.num 0 96 ∧ sig = f.num 96 64 ∧ c.statementStatus w = ebOk ∧ c1 =
    { c with dev := { c.dev with se := { c.dev.se with nonce := none } } } ∧ lcSigner c.dev.se.life (stCmd w) = none ∧ stCmd w =
    1) ∧
  (∃ (s : State) (bytes : List Byte) (f : EbFrame) (c c1 : Chip) (w sig st : Nat), ∃ who, s.takesFrame bytes 0x34 f c ∧ f.takes 160
    = true ∧ w = f.num 0 96 ∧ sig = f.num 96 64 ∧ c.statementStatus w = ebOk ∧ c1 =
    { c with dev := { c.dev with se := { c.dev.se with nonce := none } } } ∧ stCmd w = 5 ∧ debugSigner c.dev.se.life = some who
    ∧ c.nv.fuses.signed who (toBytes 96 w) sig = true) ∧
  (∃ (s : State) (bytes : List Byte) (f : EbFrame) (c c1 : Chip) (w sig st : Nat), ∃ who, s.takesFrame bytes 0x34 f c ∧ f.takes 160
    = true ∧ w = f.num 0 96 ∧ sig = f.num 96 64 ∧ c.statementStatus w = ebOk ∧ c1 =
    { c with dev := { c.dev with se := { c.dev.se with nonce := none } } } ∧ stCmd w = 5 ∧ debugSigner c.dev.se.life = some who
    ∧ c.nv.fuses.signed who (toBytes 96 w) sig = false) ∧
  (∃ (s : State) (c : Chip) (why : SpargeFor), ∃ state owner, s.begunChip = c ∧ c.dev.se.sparge = some why ∧ why = .transition
    state owner) ∧
  (∃ (s : State) (c : Chip) (why : SpargeFor), ∃ tag, s.begunChip = c ∧ c.dev.se.sparge = some why ∧ why = .command tag) ∧
  (∃ (s : State) (c : Chip) (why : SpargeFor), s.begunChip = c ∧ c.dev.se.sparge = some why ∧ (why = .alarm ∨ why = .repair)) ∧
  (∃ (s : State) (c : Chip) (why : SpargeFor), ∃ tag d1, s.begunChip = c ∧ c.dev.se.sparge = some why ∧ why = .command tag ∧ d1 =
    ((c.dev.latchSe 7).raise evSeSpargeFail 0).ebAnswer (fun w => w.opcode == 5 && w.tag == tag) true ebOk (toBytes 1 1)) ∧
  (∃ (s : State) (c : Chip) (why : SpargeFor), s.begunChip = c ∧ c.dev.se.sparge = some why ∧ (∀ tag, why ≠ .command tag)) ∧
  (∃ (s : State) (d : Dev) (n t : Nat) (u : Unlock), s.begun = d ∧ d.se.nonce = some (n, t) ∧ d.nonceLife ≤ d.since t) ∧
  (∃ (s : State) (d : Dev) (n t : Nat) (u : Unlock), s.begun = d ∧ d.se.unlock = some u ∧ u.ticks ≤ d.since u.since) ∧
  (∃ (s : State) (d : Dev) (v : Nat), s.begun = d ∧ 9 ≤ d.bt.phase ∧ v < 2 ^ 32 ∧ flag v 0 = false) ∧
  (∃ (s : State) (d : Dev) (v : Nat), s.begun = d ∧ 9 ≤ d.bt.phase ∧ v < 2 ^ 32 ∧ flag v 0 = true ∧ d.se.alarmA = true) ∧
  (∃ (s : State) (d : Dev) (v : Nat), s.begun = d ∧ 9 ≤ d.bt.phase ∧ v < 2 ^ 32 ∧ flag v 0 = true ∧ d.se.alarmA = false) :=
  ⟨⟨live {}, fr 0x30 ([]), ⟨0x30, 7, []⟩, _, takes _ _ _ (by decide) (by decide) (by decide) (by decide) rfl rfl, by decide⟩,
   ⟨live {}, fr 0x31 (List.replicate 32 0), ⟨0x31, 7, List.replicate 32 0⟩, _, takes _ _ _ (by decide) (by decide) (by decide) (by
     decide) rfl rfl, by decide, by decide⟩,
   ⟨live { idReady := true }, fr 0x31 (List.replicate 32 0), ⟨0x31, 7, List.replicate 32 0⟩, _, takes _ _ _ (by decide) (by decide)
     (by decide) (by decide) rfl rfl, by decide, by decide⟩,
   ⟨live {}, fr 0x32 ([]), ⟨0x32, 7, []⟩, _, takes _ _ _ (by decide) (by decide) (by decide) (by decide) rfl rfl, by decide⟩,
   ⟨live {}, fr 0x30 ([0]), ⟨0x30, 7, [0]⟩, _, takes _ _ _ (by decide) (by decide) (by decide) (by decide) rfl rfl, by decide⟩,
   ⟨live {}, fr 0x31 (List.replicate 31 0), ⟨0x31, 7, List.replicate 31 0⟩, _, takes _ _ _ (by decide) (by decide) (by decide) (by
     decide) rfl rfl, by decide⟩,
   ⟨live {}, fr 0x32 ([0]), ⟨0x32, 7, [0]⟩, _, takes _ _ _ (by decide) (by decide) (by decide) (by decide) rfl rfl, by decide⟩,
   ⟨live {}, fr 0x33 (List.replicate 33 0), ⟨0x33, 7, List.replicate 33 0⟩, _, takes _ _ _ (by decide) (by decide) (by decide) (by
     decide) rfl rfl, by decide⟩,
   ⟨live {}, fr 0x34 (List.replicate 159 0), ⟨0x34, 7, List.replicate 159 0⟩, _, takes _ _ _ (by decide) (by decide) (by decide)
     (by decide) rfl rfl, by decide⟩,
   ⟨live {}, fr 0x33 (List.replicate 32 0), ⟨0x33, 7, List.replicate 32 0⟩, _, takes _ _ _ (by decide) (by decide) (by decide) (by
     decide) rfl rfl, by decide, by decide, by decide⟩,
   ⟨live { nonce := some (0, 0), life := 1 }, fr 0x33 (List.replicate 32 0), ⟨0x33, 7, List.replicate 32 0⟩, _, takes _ _ _ (by
     decide) (by decide) (by decide) (by decide) rfl rfl, by decide, by decide, by decide⟩,
   ⟨live { sparge := some (.transition 4 none) }, fr 0x33 (List.replicate 32 0), ⟨0x33, 7, List.replicate 32 0⟩, _, takes _ _ _ (by
     decide) (by decide) (by decide) (by decide) rfl rfl, by decide, by decide⟩,
   ⟨live {}, fr 0x34 (List.replicate 160 0), ⟨0x34, 7, List.replicate 160 0⟩, _, _, _, takes _ _ _ (by decide) (by decide) (by
     decide) (by decide) rfl rfl, by decide, rfl⟩,
   ⟨(live { nonce := some (0, 0) }).begunChip, _, 3, 4, _, by decide, rfl, by decide, by decide, rfl, by decide⟩,
   ⟨(live { nonce := some (0, 0), life := 1 }).begunChip, _, 3, 4, _, by decide, rfl, by decide, by decide, rfl, by decide⟩,
   ⟨(live { nonce := some (0, 0) }).begunChip, _, 2, 4, by decide, rfl, by decide, by decide, by decide⟩,
   ⟨(live { nonce := some (0, 0) }).begunChip, _, 4, 4, by decide, rfl, by decide, by decide⟩,
   ⟨(live { nonce := some (0, 0), life := 4 }).begunChip, _, 5 + 7 * 2 ^ 8 + 4 * 2 ^ 24, 0, by decide, rfl, by decide, by decide⟩,
   ⟨live {}, fr 0x34 (List.replicate 160 0), ⟨0x34, 7, List.replicate 160 0⟩, _, {}, _, _, _, takes _ _ _ (by decide) (by decide)
     (by decide) (by decide) rfl rfl, by decide, rfl, rfl, rfl, by decide⟩,
   ⟨live { nonce := some (0, 0) }, fr 0x34 ([3] ++ List.replicate 159 0), ⟨0x34, 7, [3] ++ List.replicate 159 0⟩, _, _, _, _, 0, _,
     takes _ _ _ (by decide) (by decide) (by decide) (by decide) rfl rfl, by decide, rfl, rfl, by decide, rfl, rfl, by decide,
     by decide⟩,
   ⟨live { nonce := some (0, 0) }, fr 0x34 ([1] ++ List.replicate 159 0), ⟨0x34, 7, [1] ++ List.replicate 159 0⟩, _, _, _, _, 0,
     takes _ _ _ (by decide) (by decide) (by decide) (by decide) rfl rfl, by decide, rfl, rfl, by decide, rfl, by decide, by
     decide⟩,
   ⟨live { nonce := some (0, 0) }, fr 0x34 ([5, 7, 0, 4] ++ List.replicate 156 0), ⟨0x34, 7, [5, 7, 0, 4] ++ List.replicate 156 0⟩,
     _, _, _, _, 0, _, takes _ _ _ (by decide) (by decide) (by decide) (by decide) rfl rfl, by decide, rfl, rfl, by decide, rfl,
     by decide, rfl, by decide⟩,
   ⟨live { nonce := some (0, 0), life := 1 }, fr 0x34 ([5, 7, 0, 4] ++ List.replicate 156 0), ⟨0x34, 7, [5, 7, 0, 4] ++
     List.replicate 156 0⟩, _, _, _, _, 0, _, takes _ _ _ (by decide) (by decide) (by decide) (by decide) rfl rfl, by decide,
     rfl, rfl, by decide, rfl, by decide, rfl, by decide⟩,
   ⟨live { sparge := some (.transition 4 none) }, _, _, _, _, rfl, rfl, rfl⟩,
   ⟨live { sparge := some (.command 7) }, _, _, _, rfl, rfl, rfl⟩,
   ⟨live { sparge := some .alarm }, _, _, rfl, rfl, .inl rfl⟩,
   ⟨live { sparge := some (.command 7) }, _, _, _, _, rfl, rfl, rfl, rfl⟩,
   ⟨live { sparge := some .alarm }, _, _, rfl, rfl, by rintro _ ⟨⟩⟩,
   ⟨up { st := { tick := 2 ^ 26 }, se := { nonce := some (5, 0) } }, _, _, _, ⟨0, 0, 0⟩, rfl, rfl, by decide⟩,
   ⟨up { st := { tick := 4 }, se := { unlock := some ⟨1, 0, 4⟩ } }, _, 0, 0, _, rfl, rfl, by decide⟩,
   ⟨up on, _, 2, rfl, by decide, by decide, by decide⟩,
   ⟨up { on with se := { alarmA := true } }, _, 1, rfl, by decide, by decide, by decide, by decide⟩,
   ⟨up on, _, 0xFFFFFFFF, rfl, by decide, by decide, by decide, by decide⟩⟩

theorem witness_StartsBegin :
  (∃ (d e : Dev) (warm stays : Bool), stays = (warm && d.bt.calDone && !d.bt.retainBad && !(d.starting && decide (d.bt.phase ≤ 5)))
    ∧ e =
    { d.cleared stays with bt := { (d.cleared stays).bt with phase := 1, kind := if stays then 2 else 1, part := 3, slotsHeld := stays && !(d.cleared stays).sp.released } }
    ∧ d.starting = false ∧ (warm = false ∨ stays = true)) ∧
  (∃ (d e : Dev) (warm stays : Bool), stays = (warm && d.bt.calDone && !d.bt.retainBad && !(d.starting && decide (d.bt.phase ≤ 5)))
    ∧ e =
    { d.cleared stays with bt := { (d.cleared stays).bt with phase := 1, kind := if stays then 2 else 1, part := 3, slotsHeld := stays && !(d.cleared stays).sp.released } }
    ∧ d.starting = false ∧ warm = true ∧ stays = false) ∧
  (∃ (d e : Dev) (warm stays : Bool), stays = (warm && d.bt.calDone && !d.bt.retainBad && !(d.starting && decide (d.bt.phase ≤ 5)))
    ∧ e =
    { d.cleared stays with bt := { (d.cleared stays).bt with phase := 1, kind := if stays then 2 else 1, part := 3, slotsHeld := stays && !(d.cleared stays).sp.released } }
    ∧ d.starting = true ∧ (warm = false ∨ stays = true)) ∧
  (∃ (d e : Dev) (warm stays : Bool), stays = (warm && d.bt.calDone && !d.bt.retainBad && !(d.starting && decide (d.bt.phase ≤ 5)))
    ∧ e =
    { d.cleared stays with bt := { (d.cleared stays).bt with phase := 1, kind := if stays then 2 else 1, part := 3, slotsHeld := stays && !(d.cleared stays).sp.released } }
    ∧ d.starting = true ∧ warm = true ∧ stays = false) ∧
  (∃ (s : State) (d d1 : Dev) (straps : Nat) (id : Bool), s.begun = d ∧ d1 =
    { d with bt := { d.bt with pwrok := true, calDone := false, straps := straps % 16, twinId := id } } ∧ d.bt.resetLow = false) ∧
  (∃ (s : State) (d d1 : Dev) (straps : Nat) (id : Bool), s.begun = d ∧ d1 =
    { d with bt := { d.bt with pwrok := true, calDone := false, straps := straps % 16, twinId := id } } ∧ d.bt.resetLow = true) ∧
  (∃ (s : State) (d d1 : Dev), s.begun = d ∧ d.bt.resetLow = true ∧ d1 = { d with bt := { d.bt with resetLow := false } } ∧
    d.bt.pwrok = true ∧ d.bt.phase = 0) ∧
  (∃ (s : State) (d d1 : Dev), s.begun = d ∧ d.bt.resetLow = true ∧ d1 = { d with bt := { d.bt with resetLow := false } } ∧
    d.bt.pwrok = true ∧ d.bt.phase ≠ 0 ∧ d.bt.supplyBad = false) ∧
  (∃ (s : State) (d d1 : Dev), s.begun = d ∧ d.bt.resetLow = true ∧ d1 = { d with bt := { d.bt with resetLow := false } } ∧
    d.bt.phase ≠ 0 ∧ d.bt.supplyBad = true) ∧
  (∃ (s : State) (d d1 : Dev), s.begun = d ∧ d.bt.resetLow = true ∧ d1 = { d with bt := { d.bt with resetLow := false } } ∧
    d.bt.pwrok = false) ∧
  (∃ (s : State) (d e e1 : Dev), s.begun = d ∧ e =
    { d.cleared false with bt := { (d.cleared false).bt with calDone := false }, sp := { (d.cleared false).sp with released := true } }
    ∧ (d.starting = false ∧ e1 = e ∨ d.starting = true ∧ e1 = e.raise evBtStartInterrupted 0)) ∧
  (∃ (s : State) (d d1 : Dev), s.begun = d ∧ d.bt.supplyBad = true ∧ d1 = { d with bt := { d.bt with supplyBad := false } } ∧
    d.bt.pwrok = true) ∧
  (∃ (s : State) (d d1 : Dev), s.begun = d ∧ d.bt.supplyBad = true ∧ d1 = { d with bt := { d.bt with supplyBad := false } } ∧
    d.bt.pwrok = false) ∧
  (∃ (s : State) (d d1 : Dev), s.begun = d ∧ d.bt.hot = false ∧ d.bt.pwrok = true ∧ d.bt.supplyBad = false ∧ d1 =
    { d with bt := { d.bt with hot := true }, sp := { d.sp with released := true } }) ∧
  (∃ (s : State) (d d1 : Dev), s.begun = d ∧ (d.bt.hot = true ∨ d.bt.pwrok = false ∨ d.bt.supplyBad = true)) ∧
  (∃ (s : State) (d d1 : Dev), s.begun = d ∧ d.starting = true ∧ d.bt.hot = false ∧ d.bt.resetLow = false ∧ d.bt.supplyBad = false) ∧
  (∃ (s : State) (d d1 : Dev), ∃ kind, s.begun = d ∧ d.bt.resetReq = some kind ∧ d.se.sparge = none ∧ d.bt.pwrok = true ∧
    d.bt.supplyBad = false ∧ kind ≠ 2 ∧ d1 = { d with bt := { d.bt with resetReq := none } }) ∧
  (∃ (s : State) (d d1 : Dev), ∃ kind, s.begun = d ∧ d.bt.resetReq = some kind ∧ d.se.sparge = none ∧ d.bt.pwrok = true ∧
    d.bt.supplyBad = false ∧ kind = 2 ∧ d1 =
    { d with bt := { d.bt with resetReq := none }, sp := { d.sp with released := true } }) ∧
  (∃ (s : State) (d d1 : Dev), ∃ kind, s.begun = d ∧ d.bt.resetReq = some kind ∧ d.se.sparge.isSome = true) :=
  ⟨⟨{}, _, false, _, rfl, rfl, rfl, .inl rfl⟩,
   ⟨{ on with sp := { slots := [(0, { use := .on })] } }, _, true, _, rfl, rfl, rfl, rfl, rfl⟩,
   ⟨{ bt := { phase := 1 } }, _, false, _, rfl, rfl, rfl, .inl rfl⟩,
   ⟨{ bt := { phase := 1 } }, _, true, _, rfl, rfl, rfl, rfl, rfl⟩,
   ⟨up {}, _, _, 31, true, rfl, rfl, by decide⟩,
   ⟨up { bt := { resetLow := true } }, _, _, 31, true, rfl, rfl, by decide⟩,
   ⟨up { bt := { resetLow := true, pwrok := true } }, _, _, rfl, by decide, rfl, by decide, by decide⟩,
   ⟨up { bt := { resetLow := true, pwrok := true, phase := 1 } }, _, _, rfl, by decide, rfl, by decide, by decide, by decide⟩,
   ⟨up { bt := { resetLow := true, supplyBad := true, phase := 1 } }, _, _, rfl, by decide, rfl, by decide, by decide⟩,
   ⟨up { bt := { resetLow := true } }, _, _, rfl, by decide, rfl, by decide⟩,
   ⟨{}, _, _, {}, rfl, rfl, by decide⟩,
   ⟨up { bt := { supplyBad := true, pwrok := true } }, _, _, rfl, by decide, rfl, by decide⟩,
   ⟨up { bt := { supplyBad := true } }, _, _, rfl, by decide, rfl, by decide⟩,
   ⟨up { bt := { phase := 9, pwrok := true } }, _, _, rfl, by decide, by decide, by decide, rfl⟩,
   ⟨{}, _, { on with sp := { slots := [(0, { use := .on })] } }, rfl, by decide⟩,
   ⟨up { bt := { phase := 8 } }, _, {}, rfl, by decide, by decide, by decide, by decide⟩,
   ⟨up { bt := { phase := 9, pwrok := true, resetReq := some 0 } }, _, _, _, rfl, rfl, by decide, by decide, by decide, by decide,
     rfl⟩,
   ⟨up { bt := { phase := 9, pwrok := true, resetReq := some 2 } }, _, _, _, rfl, rfl, by decide, by decide, by decide, rfl, rfl⟩,
   ⟨up { bt := { phase := 9, pwrok := true, resetReq := some 1 }, se := { sparge := some .alarm } }, _, {}, _, rfl, rfl, by decide⟩⟩

theorem witness_StartSteps :
  (∃ (s : State) (c t : Chip) (e : StepEnd), s.begunChip = c ∧ t = c.map (fun d => d.stepTimed e.ms) ∧ c.dev.stepHeld = true) ∧
  (∃ (s : State) (c t : Chip) (e : StepEnd), s.begunChip = c ∧ t = c.map (fun d => d.stepTimed e.ms) ∧ c.dev.stepHeld = false ∧
    c.dev.bt.phase = 1) ∧
  (∃ (s : State) (c t : Chip) (e : StepEnd), s.begunChip = c ∧ t = c.map (fun d => d.stepTimed e.ms) ∧ c.dev.stepHeld = false ∧
    c.dev.bt.phase = 2) ∧
  (∃ (s : State) (c t : Chip) (e : StepEnd), s.begunChip = c ∧ t = c.map (fun d => d.stepTimed e.ms) ∧ c.dev.stepHeld = false ∧
    c.dev.bt.phase = 3) ∧
  (∃ (s : State) (c t : Chip) (e : StepEnd), s.begunChip = c ∧ t = c.map (fun d => d.stepTimed e.ms) ∧ c.dev.stepHeld = false ∧
    c.dev.bt.phase = 4) ∧
  (∃ (s : State) (c t : Chip) (e : StepEnd), s.begunChip = c ∧ t = c.map (fun d => d.stepTimed e.ms) ∧ c.dev.stepHeld = false ∧
    c.dev.bt.phase = 5) ∧
  (∃ (s : State) (c t : Chip) (e : StepEnd), s.begunChip = c ∧ t = c.map (fun d => d.stepTimed e.ms) ∧ c.dev.stepHeld = false ∧
    c.dev.bt.phase = 6) ∧
  (∃ (s : State) (c t : Chip) (e : StepEnd), s.begunChip = c ∧ t = c.map (fun d => d.stepTimed e.ms) ∧ c.dev.stepHeld = false ∧
    c.dev.bt.phase = 7) ∧
  (∃ (s : State) (c t : Chip) (e : StepEnd), s.begunChip = c ∧ t = c.map (fun d => d.stepTimed e.ms) ∧ c.dev.stepHeld = false ∧
    c.dev.bt.phase = 8) ∧
  (∃ (c c1 c2 : Chip), c1 = Chip.mk { c.dev with se := { c.dev.se with life := c.nv.fuses.repair.state } }
    { c.nv with fuses := c.nv.fuses.repair } ∧ ([1, 2, 3, 4].any (fun s => c.nv.fuses.torn s) = false ∧ c2 = c1 ∨ [1, 2, 3,
    4].any (fun s => c.nv.fuses.torn s) = true ∧ c2 = c1.map (fun d => (d.startSparge .repair).raise evSeFuseRepair 0)) ∧
    c.nv.fuses.repair.contradicts = false) ∧
  (∃ (c c1 c2 : Chip), c1 = Chip.mk { c.dev with se := { c.dev.se with life := c.nv.fuses.repair.state } }
    { c.nv with fuses := c.nv.fuses.repair } ∧ ([1, 2, 3, 4].any (fun s => c.nv.fuses.torn s) = false ∧ c2 = c1 ∨ [1, 2, 3,
    4].any (fun s => c.nv.fuses.torn s) = true ∧ c2 = c1.map (fun d => (d.startSparge .repair).raise evSeFuseRepair 0)) ∧
    c.nv.fuses.repair.contradicts = true) ∧
  (∃ (c : Chip) (d1 : Dev) (nv nv1 : NvUnit) (chain : List Nat), (c.nv.boot ≠ none ∧ d1 = c.dev ∨ c.nv.boot = none ∧ d1 =
    (c.dev.latchBt 8 0 0).raise evBtNvmError 0) ∧ nv = c.nv.putBoot
    { c.nv.bootRec with failCount := satInc 255 c.nv.bootRec.failCount, starts := c.nv.bootRec.starts + 1 } ∧ nv1 = (if
    c.dev.se.life = 3 then { nv with page0 := .erased, page1 := .erased } else nv) ∧ chain = (if c.dev.se.life = 4 then [] else
    bootChain c.nv.bootRec.failCount c.nv.bootRec.prefer)) ∧
  (∃ (n : NvUnit) (b : BootRec), n.bootLast1 = true) ∧
  (∃ (n : NvUnit) (b : BootRec), n.bootLast1 = false) ∧
  (∃ (n : NvUnit) (b : BootRec), n.bootLast1 = true ∧ n.boot1 = none) ∧
  (∃ (n : NvUnit) (b : BootRec), n.bootLast1 = false ∧ n.boot0 = none) ∧
  (∃ (d d1 : Dev) (lanes : List Nat), d1 = { d with bt := { d.bt with calDone := true, badLanes := lanes } } ∧ d.bt.kind = 1) ∧
  (∃ (d d1 : Dev) (lanes : List Nat), d1 = { d with bt := { d.bt with calDone := true, badLanes := lanes } } ∧ d.bt.kind ≠ 1) ∧
  (∃ (d : Dev) (p : Nat) (rest : List Nat), d.bt.chain = []) ∧
  (∃ (d : Dev) (p : Nat) (rest : List Nat), d.bt.chain = p :: rest) ∧
  (∃ (d d1 d2 : Dev) (code : Nat), d1 = d.wrFld rBtPartStatus (8 * d.bt.part) 8 code ∧ d2 = ((if code = 2 then (d1.latchBt 3
    d.bt.part code).raise evBtFlashError 0 else d1).latchBt 1 d.bt.part code).raise evBtPartRefused 0) ∧
  (∃ (c : Chip) (fail : Bool) (code : Nat), c.nv.imageCode c.dev.se.life c.dev.bt.part 1 (c.dev.retainedOf 1 false) fail = code ∧
    (code = 5 ∨ code = 6 ∨ code = 8)) ∧
  (∃ (c : Chip) (fail : Bool) (code : Nat), c.nv.imageCode c.dev.se.life c.dev.bt.part 1 (c.dev.retainedOf 1 false) fail = code ∧
    code ≠ 0 ∧ code ≠ 5 ∧ code ≠ 6 ∧ code ≠ 7 ∧ code ≠ 8) ∧
  (∃ (c : Chip) (fail bad : Bool) (kept : Option Nat) (code : Nat), kept = c.dev.retainedOf 2 bad ∧ c.nv.imageCode c.dev.se.life
    c.dev.bt.part 2 kept fail = code ∧ (code = 5 ∨ code = 6 ∨ code = 8)) ∧
  (∃ (c : Chip) (fail bad : Bool) (kept : Option Nat) (code : Nat), kept = c.dev.retainedOf 2 bad ∧ c.nv.imageCode c.dev.se.life
    c.dev.bt.part 2 kept fail = code ∧ code ≠ 0 ∧ code ≠ 5 ∧ code ≠ 6 ∧ code ≠ 7 ∧ code ≠ 8) ∧
  (∃ (c : Chip) (d1 d2 : Dev) (f : Fuses) (fw cfg : Retained) (m3 : Nat), ∃ d3 d4 d5 : Dev, fw = c.dev.bt.tryFw.getD ⟨0, 0⟩ ∧ cfg =
    c.dev.bt.tryCfg.getD ⟨0, 0⟩ ∧ f =
    { c.nv.fuses with fwSvn := burnSvn c.nv.fuses.fwSvn fw.svn, cfgSvn := burnSvn c.nv.fuses.cfgSvn cfg.svn } ∧ m3 = (if
    c.dev.se.life = 0 then 0 else (f.activeOwner.bind (fun k => Tbl.get none f.owner k)).getD 0) ∧ d1 =
    { c.dev with bt := { c.dev.bt with phase := 9, startMs := c.dev.bt.ms, chain := [], tryFw := none, tryCfg := none, image := [], fw := some fw, cfg := some cfg, copy := c.dev.bt.image, runFw := some fw, runCfg := some cfg, stable := false }, se := { c.dev.se with m0 := fw.digest, m1 := cfg.digest, m3 := m3 }, mg := { c.dev.mg with alive := true } }
    ∧ d2 = ((d1.wrFld rBtPartStatus (8 * c.dev.bt.part) 8 0xFF).raise evBtStartDone 0).raiseIf (decide (c.dev.bt.part = 2))
    evBtGoldenBoot 0 ∧ d3 = (if c.dev.bt.kind = 2 then d2.startService else d2) ∧ d4 = (if d3.isRoot then d3.enterLocked else
    d3) ∧ d5 = (if d4.pairEn then d4.enterForming else d4)) ∧
  (∃ (s : State) (c : Chip), s.begunChip = c ∧ c.dev.bt.phase = 9 ∧ c.dev.bt.stable = false ∧ c.dev.mg.alive = true) ∧
  (∃ (s : State) (d : Dev) (t : Nat), s.begun = d ∧ d.tp.service = some t ∧ d.ageLimit ≤ d.since t) ∧
  (∃ (s : State) (c : Chip) (v : Nat), s.begunChip = c ∧ 9 ≤ c.dev.bt.phase ∧ v < 2 ^ 32 ∧ flag v 1 = true) ∧
  (∃ (s : State) (c : Chip) (v : Nat), s.begunChip = c ∧ 9 ≤ c.dev.bt.phase ∧ v < 2 ^ 32 ∧ flag v 2 = true) ∧
  (∃ (s : State) (c : Chip) (v : Nat), s.begunChip = c ∧ 9 ≤ c.dev.bt.phase ∧ v < 2 ^ 32 ∧ flag v 3 = true) ∧
  (∃ (s : State) (c : Chip) (v : Nat), s.begunChip = c ∧ 9 ≤ c.dev.bt.phase ∧ v < 2 ^ 32 ∧ flag v 4 = true) ∧
  (∃ (s : State) (c : Chip) (v : Nat), s.begunChip = c ∧ 9 ≤ c.dev.bt.phase ∧ v < 2 ^ 32 ∧ flag v 5 = true) ∧
  (∃ (c c1 c2 c3 c4 c5 : Chip) (v : Nat), c1 = (if flag v 1 then
    { c with nv := c.nv.putBoot { c.nv.bootRec with prefer := field v 0 1 % 2 } } else c) ∧ c2 = (if flag v 2 then
    { c1 with nv := c1.nv.putBoot { c1.nv.bootRec with failCount := 0 } } else c1) ∧ c3 = (if flag v 4 then c2.storeSettings.2
    else c2) ∧ c4 = (if flag v 5 then { c3 with nv := { c3.nv with page0 := .erased, page1 := .erased } } else c3) ∧ c5 = (if
    flag v 3 then c4.map (fun d => if d.bt.pwrok && !d.bt.supplyBad then d.beginStart true else d) else c4)) ∧
  (∃ (s : State) (bytes : List Byte) (f : EbFrame) (c : Chip), s.takesFrame bytes 0x48 f c ∧ f.takes 1 = true ∧ flag (f.num 0 1) 4
    = false) ∧
  (∃ (s : State) (bytes : List Byte) (f : EbFrame) (c : Chip), s.takesFrame bytes 0x48 f c ∧ f.takes 1 = true ∧ flag (f.num 0 1) 4
    = true) ∧
  (∃ (s : State) (bytes : List Byte) (f : EbFrame) (c c1 : Chip) (st : Nat), s.takesFrame bytes 0x49 f c ∧ f.takes 0 = true ∧
    c.storeSettings = (st, c1)) ∧
  (∃ (c : Chip) (k gen : Nat), c.storeStatus = ebOk ∧ c.nv.storePage = (k, gen)) ∧
  (∃ (c : Chip) (k gen : Nat), c.storeStatus = ebRefused) ∧
  (∃ (c : Chip) (k gen : Nat), c.storeStatus = ebBusy) ∧
  (∃ (s : State) (c : Chip) (k : Nat) (page : SetPage), s.begunChip = c ∧ c.dev.bt.store = some (k, page)) :=
  ⟨⟨up { bt := { phase := 1 } }, _, _, ⟨1, true, [0], true, true, true⟩, rfl, rfl, by decide⟩,
   ⟨up { bt := { phase := 1, pwrok := true } }, _, _, ⟨1, true, [0], true, true, true⟩, rfl, rfl, by decide, by decide⟩,
   ⟨up { bt := { phase := 2, pwrok := true } }, _, _, ⟨1, true, [0], true, true, true⟩, rfl, rfl, by decide, by decide⟩,
   ⟨up { bt := { phase := 3, pwrok := true } }, _, _, ⟨1, true, [0], true, true, true⟩, rfl, rfl, by decide, by decide⟩,
   ⟨up { bt := { phase := 4, pwrok := true } }, _, _, ⟨1, true, [0], true, true, true⟩, rfl, rfl, by decide, by decide⟩,
   ⟨up { bt := { phase := 5, pwrok := true } }, _, _, ⟨1, true, [0], true, true, true⟩, rfl, rfl, by decide, by decide⟩,
   ⟨up { bt := { phase := 6, pwrok := true } }, _, _, ⟨1, true, [0], true, true, true⟩, rfl, rfl, by decide, by decide⟩,
   ⟨up { bt := { phase := 7, pwrok := true } }, _, _, ⟨1, true, [0], true, true, true⟩, rfl, rfl, by decide, by decide⟩,
   ⟨up { bt := { phase := 8, pwrok := true } }, _, _, ⟨1, true, [0], true, true, true⟩, rfl, rfl, by decide, by decide⟩,
   ⟨{}, _, {}, rfl, by decide, by decide⟩,
   ⟨{ nv := { fuses := { lc := [(1, 0x7FFF)] } } }, _, _, rfl, .inr ⟨by decide, rfl⟩, by decide⟩,
   ⟨{}, _, _, _, _, .inr ⟨rfl, rfl⟩, rfl, rfl, rfl⟩,
   ⟨{ bootLast1 := true }, {}, by decide⟩,
   ⟨{}, {}, by decide⟩,
   ⟨{ bootLast1 := true, boot0 := some {} }, {}, by decide, by decide⟩,
   ⟨{ boot1 := some {} }, {}, by decide, by decide⟩,
   ⟨{ bt := { phase := 3, kind := 1 } }, _, [3], rfl, by decide⟩,
   ⟨{ bt := { phase := 3, kind := 2 } }, _, [], rfl, by decide⟩,
   ⟨{}, 0, [], by decide⟩,
   ⟨{ bt := { chain := [1, 2] } }, _, _, rfl⟩,
   ⟨{}, _, _, 2, rfl, rfl⟩,
   ⟨{ nv := { flash := headAt (imageBase ({} : Dev).bt.part 1) 1 } }, false, _, rfl, .inl (by decide +kernel)⟩,
   ⟨{}, true, _, rfl, by decide, by decide, by decide, by decide, by decide⟩,
   ⟨{ nv := { flash := headAt (imageBase ({} : Dev).bt.part 2) 2 } }, false, true, _, _, rfl, rfl, .inl (by decide +kernel)⟩,
   ⟨{}, true, true, _, _, rfl, rfl, by decide, by decide, by decide, by decide, by decide⟩,
   ⟨{}, _, _, _, _, _, _, _, _, _, rfl, rfl, rfl, rfl, rfl, rfl, rfl, rfl, rfl⟩,
   ⟨up { on with mg := { alive := true } }, _, rfl, by decide, by decide, by decide⟩,
   ⟨up { st := { tick := 4098 }, tp := { service := some 0 } }, _, _, rfl, rfl, by decide⟩,
   ⟨up on, _, 2 ^ 32 - 1, rfl, by decide, by decide, by decide⟩,
   ⟨up on, _, 2 ^ 32 - 1, rfl, by decide, by decide, by decide⟩,
   ⟨up on, _, 9, rfl, by decide, by decide, by decide⟩,
   ⟨up on, _, 2 ^ 32 - 1, rfl, by decide, by decide, by decide⟩,
   ⟨up on, _, 2 ^ 32 - 1, rfl, by decide, by decide, by decide⟩,
   ⟨{}, {}, {}, {}, {}, {}, 1, by decide, by decide, by decide, by decide, by decide⟩,
   ⟨live {}, fr 0x48 ([0]), ⟨0x48, 7, [0]⟩, _, takes _ _ _ (by decide) (by decide) (by decide) (by decide) rfl rfl, by decide, by
     decide⟩,
   ⟨live {}, fr 0x48 ([16]), ⟨0x48, 7, [16]⟩, _, takes _ _ _ (by decide) (by decide) (by decide) (by decide) rfl rfl, by decide, by
     decide⟩,
   ⟨live {}, fr 0x49 ([]), ⟨0x49, 7, []⟩, _, _, _, takes _ _ _ (by decide) (by decide) (by decide) (by decide) rfl rfl, by decide,
     rfl⟩,
   ⟨{ dev := on }, _, _, by decide, rfl⟩,
   ⟨{}, 4, 0, by decide⟩,
   ⟨(up { bt := { phase := 1 } }).begunChip, 4, 0, by decide⟩,
   ⟨up { bt := { store := some (0, .erased) } }, _, _, _, rfl, rfl⟩⟩

theorem witness_IslandCommands :
  (∃ (s : State) (d : Dev) (bytes : List Byte) (h : Nat) (f : EbFrame) (ms : Nat) (temps : List Int), s.begun = d ∧ h = ebHead
    bytes ∧ f = ⟨field h 0 8, field h 16 16, (bytes.drop 8).take (field h 32 16)⟩ ∧ d.islandUp f.opcode = true ∧ 8 ≤ d.inflight) ∧
  (∃ (s : State) (d : Dev) (bytes : List Byte) (h : Nat) (f : EbFrame) (ms : Nat) (temps : List Int), s.begun = d ∧ h = ebHead
    bytes ∧ f = ⟨field h 0 8, field h 16 16, (bytes.drop 8).take (field h 32 16)⟩ ∧ d.islandUp f.opcode = true ∧ d.inflight < 8
    ∧ ebSizeOk d.mg.mwl bytes = false) ∧
  (∃ (s : State) (d : Dev) (bytes : List Byte) (h : Nat) (f : EbFrame) (ms : Nat) (temps : List Int), s.begun = d ∧ h = ebHead
    bytes ∧ f = ⟨field h 0 8, field h 16 16, (bytes.drop 8).take (field h 32 16)⟩ ∧ d.islandUp f.opcode = true ∧ d.inflight < 8
    ∧ ebSizeOk d.mg.mwl bytes = true ∧ ebCrcOk bytes = false) ∧
  (∃ (s : State) (d : Dev) (bytes : List Byte) (h : Nat) (f : EbFrame) (ms : Nat) (temps : List Int), s.begun = d ∧ h = ebHead
    bytes ∧ f = ⟨field h 0 8, field h 16 16, (bytes.drop 8).take (field h 32 16)⟩ ∧ d.islandUp f.opcode = true ∧ d.inflight < 8
    ∧ ebSizeOk d.mg.mwl bytes = true ∧ ebCrcOk bytes = true ∧ ebZeroOk bytes = false) ∧
  (∃ (s : State) (d : Dev) (bytes : List Byte) (h : Nat) (f : EbFrame) (ms : Nat) (temps : List Int), s.begun = d ∧ h = ebHead
    bytes ∧ f = ⟨field h 0 8, field h 16 16, (bytes.drop 8).take (field h 32 16)⟩ ∧ d.islandUp f.opcode = true ∧ d.inflight < 8
    ∧ ebSizeOk d.mg.mwl bytes = true ∧ ebCrcOk bytes = true ∧ ebZeroOk bytes = true ∧ islandOp f.opcode = false ∧ d.mg.alive =
    false ∧ (d.starting = false ∨ f.opcode ≠ 0x49)) ∧
  (∃ (s : State) (bytes : List Byte) (ms : Nat) (temps : List Int) (f : EbFrame) (c : Chip), s.takesFrame bytes 1 f c ∧ f.takes 0 =
    true) ∧
  (∃ (s : State) (bytes : List Byte) (ms : Nat) (temps : List Int) (f : EbFrame) (c : Chip), s.takesFrame bytes 1 f c ∧ f.takes 0 =
    false) ∧
  (∃ (s : State) (bytes : List Byte) (f : EbFrame) (c : Chip), s.takesFrame bytes 2 f c ∧ f.takes 2 = true ∧ f.num 0 1 ≤ 3 ∧ flag
    (f.num 1 1) 0 = false) ∧
  (∃ (s : State) (bytes : List Byte) (f : EbFrame) (c : Chip), s.takesFrame bytes 2 f c ∧ f.takes 2 = true ∧ f.num 0 1 ≤ 3 ∧ flag
    (f.num 1 1) 0 = true) ∧
  (∃ (s : State) (bytes : List Byte) (temps : List Int) (f : EbFrame) (c : Chip) (l : List Int), s.takesFrame bytes 3 f c ∧ f.takes
    0 = true ∧ l = (upFrom 0 8).map (fun k => temps.getD k 0)) ∧
  (∃ (s : State) (bytes : List Byte) (f : EbFrame) (c : Chip) (off standby : List Nat) (d1 : Dev), s.takesFrame bytes 4 f c ∧
    f.takes 4 = true ∧ off = (upFrom 0 32).filter (fun k => flag (f.num 0 4) k && c.dev.islandMayOff k) ∧ standby = (upFrom 0
    32).filter (fun k => flag (f.num 0 4) k && decide ((c.dev.slot k).use = .standby)) ∧ d1 = forEach off (fun k (d : Dev) =>
    d.offNow k) c.dev) ∧
  (∃ (s : State) (bytes : List Byte) (f : EbFrame) (c : Chip), s.takesFrame bytes 5 f c ∧ f.takes 4 = true ∧ f.num 0 4 ≠ 0x47525053) ∧
  (∃ (s : State) (bytes : List Byte) (f : EbFrame) (c : Chip), s.takesFrame bytes 5 f c ∧ f.takes 4 = true ∧ f.num 0 4 = 0x47525053
    ∧ c.dev.se.sparge = none) ∧
  (∃ (s : State) (bytes : List Byte) (f : EbFrame) (c : Chip), s.takesFrame bytes 6 f c ∧ f.takes 1 = true ∧ (f.num 0 1 = 1 ∨ f.num
    0 1 = 2)) ∧
  (∃ (s : State) (bytes : List Byte) (temps : List Int) (f : EbFrame) (c : Chip), s.takesFrame bytes 2 f c ∧ (f.takes 2 = false ∨ 3
    < f.num 0 1)) ∧
  (∃ (s : State) (bytes : List Byte) (temps : List Int) (f : EbFrame) (c : Chip), s.takesFrame bytes 3 f c ∧ f.takes 0 = false) ∧
  (∃ (s : State) (bytes : List Byte) (temps : List Int) (f : EbFrame) (c : Chip), s.takesFrame bytes 4 f c ∧ f.takes 4 = false) ∧
  (∃ (s : State) (bytes : List Byte) (temps : List Int) (f : EbFrame) (c : Chip), s.takesFrame bytes 5 f c ∧ f.takes 4 = false) ∧
  (∃ (s : State) (bytes : List Byte) (temps : List Int) (f : EbFrame) (c : Chip), s.takesFrame bytes 5 f c ∧ f.takes 4 = true ∧
    f.num 0 4 = 0x47525053 ∧ c.dev.se.sparge.isSome = true) ∧
  (∃ (s : State) (bytes : List Byte) (temps : List Int) (f : EbFrame) (c : Chip), s.takesFrame bytes 6 f c ∧ (f.takes 1 = false ∨
    (f.num 0 1 ≠ 1 ∧ f.num 0 1 ≠ 2))) ∧
  (∃ (d : Dev) (f : EbFrame) (island : Bool) (st : Nat) (payload : List Byte) (part : Nat), 2 ≤ part) :=
  ⟨⟨up { on with mg := { ready := List.replicate 8 ⟨1, []⟩ } }, _, [], _, _, 0, [], rfl, rfl, rfl, by decide, by decide⟩,
   ⟨up on, _, List.replicate 11 0, _, _, 0, [], rfl, rfl, rfl, by decide, by decide, by decide⟩,
   ⟨up on, _, List.replicate 12 0, _, _, 0, [], rfl, rfl, rfl, by decide, by decide, by decide, by decide⟩,
   ⟨up on, _, toBytes 8 (1 + 2 ^ 8) ++ ebCrc (toBytes 8 (1 + 2 ^ 8)), _, _, 0, [], rfl, rfl, rfl, by decide, by decide, by decide,
     by decide, by decide⟩,
   ⟨up on, _, toBytes 8 0x48 ++ ebCrc (toBytes 8 0x48), _, _, 0, [], rfl, rfl, rfl, by decide, by decide, by decide, by decide, by
     decide, by decide, by decide, .inl rfl⟩,
   ⟨live {}, fr 1 ([]), 0, [], ⟨1, 7, []⟩, _, takes _ _ _ (by decide) (by decide) (by decide) (by decide) rfl rfl, by decide⟩,
   ⟨live {}, fr 1 ([0]), 0, [], ⟨1, 7, [0]⟩, _, takes _ _ _ (by decide) (by decide) (by decide) (by decide) rfl rfl, by decide⟩,
   ⟨live {}, fr 2 ([3, 0]), ⟨2, 7, [3, 0]⟩, _, takes _ _ _ (by decide) (by decide) (by decide) (by decide) rfl rfl, by decide, by
     decide, by decide⟩,
   ⟨live {}, fr 2 ([3, 1]), ⟨2, 7, [3, 1]⟩, _, takes _ _ _ (by decide) (by decide) (by decide) (by decide) rfl rfl, by decide, by
     decide, by decide⟩,
   ⟨live {}, fr 3 ([]), [16, -16], ⟨3, 7, []⟩, _, _, takes _ _ _ (by decide) (by decide) (by decide) (by decide) rfl rfl, by
     decide, rfl⟩,
   ⟨live {}, fr 4 ([1, 0, 0, 128]), ⟨4, 7, [1, 0, 0, 128]⟩, _, _, _, _, takes _ _ _ (by decide) (by decide) (by decide) (by decide)
     rfl rfl, by decide, rfl, rfl, rfl⟩,
   ⟨live {}, fr 5 ([0, 0, 0, 0]), ⟨5, 7, [0, 0, 0, 0]⟩, _, takes _ _ _ (by decide) (by decide) (by decide) (by decide) rfl rfl, by
     decide, by decide⟩,
   ⟨live {}, fr 5 ([0x53, 0x50, 0x52, 0x47]), ⟨5, 7, [0x53, 0x50, 0x52, 0x47]⟩, _, takes _ _ _ (by decide) (by decide) (by decide)
     (by decide) rfl rfl, by decide, by decide, by decide⟩,
   ⟨live {}, fr 6 ([2]), ⟨6, 7, [2]⟩, _, takes _ _ _ (by decide) (by decide) (by decide) (by decide) rfl rfl, by decide, by decide⟩,
   ⟨live {}, fr 2 ([4, 0]), [], ⟨2, 7, [4, 0]⟩, _, takes _ _ _ (by decide) (by decide) (by decide) (by decide) rfl rfl, .inr (by
     decide)⟩,
   ⟨live {}, fr 3 ([0]), [], ⟨3, 7, [0]⟩, _, takes _ _ _ (by decide) (by decide) (by decide) (by decide) rfl rfl, by decide⟩,
   ⟨live {}, fr 4 ([0]), [], ⟨4, 7, [0]⟩, _, takes _ _ _ (by decide) (by decide) (by decide) (by decide) rfl rfl, by decide⟩,
   ⟨live {}, fr 5 ([0]), [], ⟨5, 7, [0]⟩, _, takes _ _ _ (by decide) (by decide) (by decide) (by decide) rfl rfl, by decide⟩,
   ⟨live { sparge := some (.transition 4 none) }, fr 5 ([0x53, 0x50, 0x52, 0x47]), [], ⟨5, 7, [0x53, 0x50, 0x52, 0x47]⟩, _, takes _
     _ _ (by decide) (by decide) (by decide) (by decide) rfl rfl, by decide, by decide, by decide⟩,
   ⟨live {}, fr 6 ([3]), [], ⟨6, 7, [3]⟩, _, takes _ _ _ (by decide) (by decide) (by decide) (by decide) rfl rfl, .inr (by decide)⟩,
   ⟨{}, ⟨1, 0, []⟩, true, 0, [], 2, by decide⟩⟩

theorem witness_ComplexCommands :
  (∃ (s : State) (bytes : List Byte) (f : EbFrame) (c : Chip), ∃ data ok d1, s.takesFrame bytes 0x10 f c ∧ f.takes 6 = true ∧
    (f.num 4 1 = 4 ∨ f.num 4 1 = 8) ∧ 1 ≤ f.num 5 1 ∧ c.dev.readRun c.nv (f.num 0 4) (f.num 4 1) (f.num 5 1) = (data, ok, d1)) ∧
  (∃ (s : State) (bytes : List Byte) (f : EbFrame) (c : Chip), s.takesFrame bytes 0x10 f c ∧ f.takes 6 = true ∧ (f.num 5 1 = 0 ∨
    (f.num 4 1 ≠ 4 ∧ f.num 4 1 ≠ 8))) ∧
  (∃ (d d1 d2 : Dev) (n : NvUnit) (a w k v : Nat) (ok ok2 : Bool) (rest : List Byte), d.ctlReadAt n 0 a w = (v, ok, d1) ∧
    d1.readRun n (a + w) w k = (rest, ok2, d2)) ∧
  (∃ (d d1 d2 : Dev) (n : NvUnit) (a w k v : Nat) (ok ok2 : Bool) (rest : List Byte), ctlReg a w = none) ∧
  (∃ (d d1 d2 : Dev) (n : NvUnit) (a w k v : Nat) (ok ok2 : Bool) (rest : List Byte), ∃ r i, ctlReg a w = some (r, i)) ∧
  (∃ (s : State) (bytes : List Byte) (f : EbFrame) (c : Chip), s.takesFrame bytes 0x11 f c ∧ f.takes 16 = true ∧ (f.num 4 1 = 4 ∨
    f.num 4 1 = 8) ∧ ctlReg (f.num 0 4) (f.num 4 1) = none) ∧
  (∃ (s : State) (bytes : List Byte) (f : EbFrame) (c : Chip), ∃ r i d1, s.takesFrame bytes 0x11 f c ∧ f.takes 16 = true ∧ (f.num 4
    1 = 4 ∨ f.num 4 1 = 8) ∧ ctlReg (f.num 0 4) (f.num 4 1) = some (r, i) ∧ r.name ≠ .btCmd ∧ d1 = c.dev.regWrite r i (f.num 8
    (f.num 4 1))) ∧
  (∃ (s : State) (bytes : List Byte) (f : EbFrame) (c : Chip), ∃ r i st c1, s.takesFrame bytes 0x11 f c ∧ f.takes 16 = true ∧
    (f.num 4 1 = 4 ∨ f.num 4 1 = 8) ∧ ctlReg (f.num 0 4) (f.num 4 1) = some (r, i) ∧ r.name = .btCmd ∧ c.btCmd (f.num 8 (f.num 4
    1)) = (st, c1)) ∧
  (∃ (s : State) (bytes : List Byte) (fail kiln : Bool) (f : EbFrame) (c : Chip), s.takesFrame bytes 0x10 f c ∧ f.takes 6 = false) ∧
  (∃ (s : State) (bytes : List Byte) (fail kiln : Bool) (f : EbFrame) (c : Chip), s.takesFrame bytes 0x11 f c ∧ (f.takes 16 = false
    ∨ (f.num 4 1 ≠ 4 ∧ f.num 4 1 ≠ 8))) ∧
  (∃ (s : State) (bytes : List Byte) (fail kiln : Bool) (f : EbFrame) (c : Chip), s.takesFrame bytes 0x40 f c ∧ (f.takes 6 = false
    ∨ f.num 4 2 = 0 ∨ 4096 < f.num 4 2)) ∧
  (∃ (s : State) (bytes : List Byte) (fail kiln : Bool) (f : EbFrame) (c : Chip), s.takesFrame bytes 0x41 f c ∧ f.takes 4 = false) ∧
  (∃ (s : State) (bytes : List Byte) (fail kiln : Bool) (f : EbFrame) (c : Chip), s.takesFrame bytes 0x42 f c ∧ (f.payload.drop 4 =
    [] ∨ 4096 < (f.payload.drop 4).length)) ∧
  (∃ (s : State) (bytes : List Byte) (fail kiln : Bool) (f : EbFrame) (c : Chip), s.takesFrame bytes 0x50 f c ∧ (f.takes 10 = false
    ∨ 4096 < f.num 8 2)) ∧
  (∃ (s : State) (bytes : List Byte) (fail kiln : Bool) (f : EbFrame) (c : Chip), s.takesFrame bytes 0x51 f c ∧ f.payload.length <
    8) ∧
  (∃ (s : State) (bytes : List Byte) (fail kiln : Bool) (f : EbFrame) (c : Chip), s.takesFrame bytes 0x52 f c ∧ (f.takes 2 = false
    ∨ 3 < f.num 0 1 ∨ f.num 1 1 = 0 ∨ 3 < f.num 1 1)) ∧
  (∃ (s : State) (bytes : List Byte) (fail kiln : Bool) (f : EbFrame) (c : Chip), s.takesFrame bytes 0x20 f c ∧ f.takes 32 = false) ∧
  (∃ (s : State) (bytes : List Byte) (fail kiln : Bool) (f : EbFrame) (c : Chip), ∃ c1 : Chip, s.takesFrame bytes 0x20 f c ∧
    f.takes 32 = true ∧ c1 = c.map (fun d => (d.ebWait f (mhTag (f.num 0 32))).mhRequest 5 (f.num 0 32))) ∧
  (∃ (s : State) (bytes : List Byte) (op : Nat) (f : EbFrame) (c : Chip), s.takesFrame bytes op f c ∧ listedOp op = false) ∧
  (∃ (s : State) (bytes : List Byte) (f : EbFrame) (c : Chip), s.takesFrame bytes 0x40 f c ∧ f.takes 6 = true ∧ 0 < f.num 4 2 ∧
    f.num 4 2 ≤ 4096) ∧
  (∃ (s : State) (bytes : List Byte) (f : EbFrame) (c : Chip), ∃ st, s.takesFrame bytes 0x41 f c ∧ f.takes 4 = true ∧
    c.dev.flashStatus (f.num 0 4) 65536 65536 = st ∧ st = ebOk) ∧
  (∃ (s : State) (bytes : List Byte) (f : EbFrame) (c : Chip), ∃ st, s.takesFrame bytes 0x41 f c ∧ f.takes 4 = true ∧
    c.dev.flashStatus (f.num 0 4) 65536 65536 = st ∧ st ≠ ebOk) ∧
  (∃ (s : State) (bytes : List Byte) (f : EbFrame) (c : Chip) (data : List Byte) (st : Nat), s.takesFrame bytes 0x42 f c ∧ data =
    f.payload.drop 4 ∧ data ≠ [] ∧ data.length ≤ 4096 ∧ c.dev.flashStatus (f.num 0 4) data.length 256 = st ∧ st = ebOk) ∧
  (∃ (s : State) (bytes : List Byte) (f : EbFrame) (c : Chip) (data : List Byte) (st : Nat), s.takesFrame bytes 0x42 f c ∧ data =
    f.payload.drop 4 ∧ data ≠ [] ∧ data.length ≤ 4096 ∧ c.dev.flashStatus (f.num 0 4) data.length 256 = st ∧ st ≠ ebOk) ∧
  (∃ (c : Chip) (d1 : Dev) (f : EbFrame) (addr len align : Nat) (data : List Byte), (c.dev.bt.phase = 9 → meetsImages c.dev.bt.part
    addr len = true → d1 = { c.dev with bt := { c.dev.bt with fw := none, cfg := none, copy := [] } }) ∧ (c.dev.bt.phase ≠ 9 ∨
    meetsImages c.dev.bt.part addr len = false → d1 = c.dev)) ∧
  (∃ (c : Chip) (d1 : Dev) (f : EbFrame) (addr len align : Nat) (data : List Byte), (c.dev.bt.phase = 9 → meetsImages c.dev.bt.part
    addr len = true → d1 = { c.dev with bt := { c.dev.bt with fw := none, cfg := none, copy := [] } }) ∧ (c.dev.bt.phase ≠ 9 ∨
    meetsImages c.dev.bt.part addr len = false → d1 = c.dev) ∧ addr % align ≠ 0) ∧
  (∃ (c : Chip) (d1 : Dev) (f : EbFrame) (addr len align : Nat) (data : List Byte), (c.dev.bt.phase = 9 → meetsImages c.dev.bt.part
    addr len = true → d1 = { c.dev with bt := { c.dev.bt with fw := none, cfg := none, copy := [] } }) ∧ (c.dev.bt.phase ≠ 9 ∨
    meetsImages c.dev.bt.part addr len = false → d1 = c.dev) ∧ (c.dev.se.life = 2 ∨ c.dev.se.life = 4) ∧ addr < 0x1900000 ∧
    0x1100000 < addr + len) ∧
  (∃ (c : Chip) (d1 : Dev) (f : EbFrame) (addr len align : Nat) (data : List Byte), (c.dev.bt.phase = 9 → meetsImages c.dev.bt.part
    addr len = true → d1 = { c.dev with bt := { c.dev.bt with fw := none, cfg := none, copy := [] } }) ∧ (c.dev.bt.phase ≠ 9 ∨
    meetsImages c.dev.bt.part addr len = false → d1 = c.dev) ∧ addr % align = 0 ∧ (c.dev.se.life ≠ 2 ∧ c.dev.se.life ≠ 4 ∨
    0x1900000 ≤ addr ∨ addr + len ≤ 0x1100000)) ∧
  (∃ (s : State) (c : Chip) (op tag addr : Nat) (data : List Byte), ∃ d1 : Dev, s.begunChip = c ∧ c.dev.mg.flash = some (op, tag,
    addr, data) ∧ d1 = { c.dev with mg := { c.dev.mg with flash := none } }) ∧
  (∃ (s : State) (bytes : List Byte) (f : EbFrame) (c : Chip), s.takesFrame bytes 0x50 f c ∧ f.takes 10 = true ∧ f.num 8 2 ≤ 4096 ∧
    c.dev.se.life ≠ 4 ∧ c.dev.debugOpen 0 = false) ∧
  (∃ (s : State) (bytes : List Byte) (f : EbFrame) (c : Chip), s.takesFrame bytes 0x50 f c ∧ f.takes 10 = true ∧ f.num 8 2 ≤ 4096 ∧
    c.dev.se.life ≠ 4 ∧ c.dev.debugOpen 0 = true) ∧
  (∃ (s : State) (bytes : List Byte) (f : EbFrame) (c : Chip), s.takesFrame bytes 0x50 f c ∧ f.takes 10 = true ∧ f.num 8 2 ≤ 4096 ∧
    c.dev.se.life = 4) ∧
  (∃ (s : State) (bytes : List Byte) (f : EbFrame) (c : Chip), s.takesFrame bytes 0x51 f c ∧ 8 ≤ f.payload.length ∧ c.dev.se.life ≠
    4 ∧ c.dev.debugOpen 1 = true) ∧
  (∃ (s : State) (bytes : List Byte) (f : EbFrame) (c : Chip), s.takesFrame bytes 0x51 f c ∧ 8 ≤ f.payload.length ∧ c.dev.se.life =
    4) ∧
  (∃ (s : State) (bytes : List Byte) (f : EbFrame) (c : Chip), s.takesFrame bytes 0x51 f c ∧ 8 ≤ f.payload.length ∧ c.dev.se.life ≠
    4 ∧ c.dev.debugOpen 1 = false) ∧
  (∃ (s : State) (bytes : List Byte) (f : EbFrame) (c : Chip) (st : Nat), s.takesFrame bytes 0x52 f c ∧ f.takes 2 = true ∧ f.num 0
    1 ≤ 3 ∧ 1 ≤ f.num 1 1 ∧ f.num 1 1 ≤ 3 ∧ (c.dev.se.life = 4 ∧ st = ebRefused ∨ c.dev.se.life ≠ 4 ∧ c.dev.debugOpen 2 = false
    ∧ st = ebLocked)) ∧
  (∃ (s : State) (bytes : List Byte) (f : EbFrame) (c : Chip) (core : Nat), s.takesFrame bytes 0x52 f c ∧ f.takes 2 = true ∧ core =
    f.num 0 1 ∧ core ≤ 3 ∧ c.dev.se.life ≠ 4 ∧ c.dev.debugOpen 2 = true ∧ f.num 1 1 = 1) ∧
  (∃ (s : State) (bytes : List Byte) (f : EbFrame) (c : Chip) (core : Nat), s.takesFrame bytes 0x52 f c ∧ f.takes 2 = true ∧ core =
    f.num 0 1 ∧ core ≤ 3 ∧ c.dev.se.life ≠ 4 ∧ c.dev.debugOpen 2 = true ∧ f.num 1 1 = 2) ∧
  (∃ (s : State) (bytes : List Byte) (f : EbFrame) (c : Chip) (core : Nat), s.takesFrame bytes 0x52 f c ∧ f.takes 2 = true ∧ core =
    f.num 0 1 ∧ core ≤ 3 ∧ c.dev.se.life ≠ 4 ∧ c.dev.debugOpen 2 = true ∧ f.num 1 1 = 3) :=
  ⟨⟨live {}, fr 0x10 ([0, 0, 0x10, 0, 4, 1]), ⟨0x10, 7, [0, 0, 0x10, 0, 4, 1]⟩, _, _, _, _, takes _ _ _ (by decide) (by decide) (by
     decide) (by decide) rfl rfl, by decide, by decide, by decide, rfl⟩,
   ⟨live {}, fr 0x10 ([0, 0, 0x10, 0, 4, 0]), ⟨0x10, 7, [0, 0, 0x10, 0, 4, 0]⟩, _, takes _ _ _ (by decide) (by decide) (by decide)
     (by decide) rfl rfl, by decide, by decide⟩,
   ⟨on, _, _, {}, 0x100000, 4, 1, _, _, _, _, rfl, rfl⟩,
   ⟨on, {}, {}, {}, 0x100002, 4, 1, 0, true, true, [], by decide⟩,
   ⟨on, {}, {}, {}, 0x100000, 4, 1, 0, true, true, [], _, _, rfl⟩,
   ⟨live {}, fr 0x11 ([2, 0, 0x10, 0, 4] ++ List.replicate 11 0), ⟨0x11, 7, [2, 0, 0x10, 0, 4] ++ List.replicate 11 0⟩, _, takes _
     _ _ (by decide) (by decide) (by decide) (by decide) rfl rfl, by decide, by decide, by decide⟩,
   ⟨live {}, fr 0x11 ([0, 0, 0x10, 1, 4] ++ List.replicate 11 0), ⟨0x11, 7, [0, 0, 0x10, 1, 4] ++ List.replicate 11 0⟩, _, _, _, _,
     takes _ _ _ (by decide) (by decide) (by decide) (by decide) rfl rfl, by decide, by decide, rfl, by decide, rfl⟩,
   ⟨live {}, fr 0x11 ([0x20, 0, 0x50, 1, 4] ++ List.replicate 11 0), ⟨0x11, 7, [0x20, 0, 0x50, 1, 4] ++ List.replicate 11 0⟩, _, _,
     _, _, _, takes _ _ _ (by decide) (by decide) (by decide) (by decide) rfl rfl, by decide, by decide, rfl, rfl, rfl⟩,
   ⟨live {}, fr 0x10 ([0]), true, true, ⟨0x10, 7, [0]⟩, _, takes _ _ _ (by decide) (by decide) (by decide) (by decide) rfl rfl, by
     decide⟩,
   ⟨live {}, fr 0x11 ([0]), true, true, ⟨0x11, 7, [0]⟩, _, takes _ _ _ (by decide) (by decide) (by decide) (by decide) rfl rfl,
     .inl (by decide)⟩,
   ⟨live {}, fr 0x40 ([0, 0, 0, 0, 1, 16]), true, true, ⟨0x40, 7, [0, 0, 0, 0, 1, 16]⟩, _, takes _ _ _ (by decide) (by decide) (by
     decide) (by decide) rfl rfl, .inr (.inr (by decide))⟩,
   ⟨live {}, fr 0x41 ([0]), true, true, ⟨0x41, 7, [0]⟩, _, takes _ _ _ (by decide) (by decide) (by decide) (by decide) rfl rfl, by
     decide⟩,
   ⟨live {}, fr 0x42 ([0, 0, 0, 0]), true, true, ⟨0x42, 7, [0, 0, 0, 0]⟩, _, takes _ _ _ (by decide) (by decide) (by decide) (by
     decide) rfl rfl, .inl rfl⟩,
   ⟨live {}, fr 0x50 ([0, 0, 0, 0, 0, 0, 0, 0, 1, 16]), true, true, ⟨0x50, 7, [0, 0, 0, 0, 0, 0, 0, 0, 1, 16]⟩, _, takes _ _ _ (by
     decide) (by decide) (by decide) (by decide) rfl rfl, .inr (by decide)⟩,
   ⟨live {}, fr 0x51 (List.replicate 7 0), true, true, ⟨0x51, 7, List.replicate 7 0⟩, _, takes _ _ _ (by decide) (by decide) (by
     decide) (by decide) rfl rfl, by decide⟩,
   ⟨live {}, fr 0x52 ([4, 1]), true, true, ⟨0x52, 7, [4, 1]⟩, _, takes _ _ _ (by decide) (by decide) (by decide) (by decide) rfl
     rfl, .inr (.inl (by decide))⟩,
   ⟨live {}, fr 0x20 ([0]), true, true, ⟨0x20, 7, [0]⟩, _, takes _ _ _ (by decide) (by decide) (by decide) (by decide) rfl rfl, by
     decide⟩,
   ⟨live {}, fr 0x20 (List.replicate 32 0), true, true, ⟨0x20, 7, List.replicate 32 0⟩, _, _, takes _ _ _ (by decide) (by decide)
     (by decide) (by decide) rfl rfl, by decide, rfl⟩,
   ⟨live {}, fr 0x7F ([]), 0x7F, ⟨0x7F, 7, []⟩, _, takes _ _ _ (by decide) (by decide) (by decide) (by decide) rfl rfl, by decide⟩,
   ⟨live {}, fr 0x40 ([0, 0, 0, 0, 0, 16]), ⟨0x40, 7, [0, 0, 0, 0, 0, 16]⟩, _, takes _ _ _ (by decide) (by decide) (by decide) (by
     decide) rfl rfl, by decide, by decide, by decide⟩,
   ⟨live {}, fr 0x41 ([0, 0, 1, 0]), ⟨0x41, 7, [0, 0, 1, 0]⟩, _, _, takes _ _ _ (by decide) (by decide) (by decide) (by decide) rfl
     rfl, by decide, rfl, by decide⟩,
   ⟨live {}, fr 0x41 ([1, 0, 0, 0]), ⟨0x41, 7, [1, 0, 0, 0]⟩, _, _, takes _ _ _ (by decide) (by decide) (by decide) (by decide) rfl
     rfl, by decide, rfl, by decide⟩,
   ⟨live {}, fr 0x42 ([0, 0, 0, 0, 7]), ⟨0x42, 7, [0, 0, 0, 0, 7]⟩, _, _, _, takes _ _ _ (by decide) (by decide) (by decide) (by
     decide) rfl rfl, rfl, by decide, by decide, rfl, by decide⟩,
   ⟨live {}, fr 0x42 ([255, 0, 0, 0, 7, 7]), ⟨0x42, 7, [255, 0, 0, 0, 7, 7]⟩, _, _, _, takes _ _ _ (by decide) (by decide) (by
     decide) (by decide) rfl rfl, rfl, by decide, by decide, rfl, by decide⟩,
   ⟨{ dev := on }, _, ⟨0x41, 7, []⟩, partBase on.bt.part, 65536, 65536, [], fun _ _ => rfl, fun h => absurd h (by decide)⟩,
   ⟨{}, {}, ⟨0x41, 7, []⟩, 1, 65536, 65536, [], fun h => absurd h (by decide), fun _ => rfl, by decide⟩,
   ⟨{ dev := { se := { life := 4 } } }, _, ⟨0x41, 7, []⟩, 0x1900000 - 65536, 65536, 65536, [], fun h => absurd h (by decide), fun _
     => rfl, .inr rfl, by decide, by decide⟩,
   ⟨{ dev := { se := { life := 4 } } }, _, ⟨0x41, 7, []⟩, 0x1900000, 65536, 65536, [], fun h => absurd h (by decide), fun _ => rfl,
     by decide, .inr (.inl (by decide))⟩,
   ⟨up { mg := { flash := some (0x41, 7, 0, []) } }, _, _, _, _, _, _, rfl, rfl, rfl⟩,
   ⟨live { life := 1 }, fr 0x50 (List.replicate 10 0), ⟨0x50, 7, List.replicate 10 0⟩, _, takes _ _ _ (by decide) (by decide) (by
     decide) (by decide) rfl rfl, by decide, by decide, by decide, by decide⟩,
   ⟨live {}, fr 0x50 (List.replicate 9 0 ++ [16]), ⟨0x50, 7, List.replicate 9 0 ++ [16]⟩, _, takes _ _ _ (by decide) (by decide)
     (by decide) (by decide) rfl rfl, by decide, by decide, by decide, by decide⟩,
   ⟨live { life := 4 }, fr 0x50 (List.replicate 10 0), ⟨0x50, 7, List.replicate 10 0⟩, _, takes _ _ _ (by decide) (by decide) (by
     decide) (by decide) rfl rfl, by decide, by decide, by decide⟩,
   ⟨live {}, fr 0x51 (List.replicate 8 0), ⟨0x51, 7, List.replicate 8 0⟩, _, takes _ _ _ (by decide) (by decide) (by decide) (by
     decide) rfl rfl, by decide, by decide, by decide⟩,
   ⟨live { life := 4 }, fr 0x51 (List.replicate 8 0), ⟨0x51, 7, List.replicate 8 0⟩, _, takes _ _ _ (by decide) (by decide) (by
     decide) (by decide) rfl rfl, by decide, by decide⟩,
   ⟨live { nonce := some (0, 0), life := 1 }, fr 0x51 (List.replicate 8 0), ⟨0x51, 7, List.replicate 8 0⟩, _, takes _ _ _ (by
     decide) (by decide) (by decide) (by decide) rfl rfl, by decide, by decide, by decide⟩,
   ⟨live { nonce := some (0, 0), life := 1 }, fr 0x52 ([3, 1]), ⟨0x52, 7, [3, 1]⟩, _, 6, takes _ _ _ (by decide) (by decide) (by
     decide) (by decide) rfl rfl, by decide, by decide, by decide, by decide, by decide⟩,
   ⟨live {}, fr 0x52 ([3, 1]), ⟨0x52, 7, [3, 1]⟩, _, _, takes _ _ _ (by decide) (by decide) (by decide) (by decide) rfl rfl, by
     decide, rfl, by decide, by decide, by decide, by decide⟩,
   ⟨live {}, fr 0x52 ([3, 2]), ⟨0x52, 7, [3, 2]⟩, _, _, takes _ _ _ (by decide) (by decide) (by decide) (by decide) rfl rfl, by
     decide, rfl, by decide, by decide, by decide, by decide⟩,
   ⟨live { life := 3, unlock := some ⟨4, 0, 9⟩ }, fr 0x52 ([3, 3]), ⟨0x52, 7, [3, 3]⟩, _, _, takes _ _ _ (by decide) (by decide)
     (by decide) (by decide) rfl rfl, by decide, rfl, by decide, by decide, by decide, by decide⟩⟩

theorem witness_I3cTarget :
  (∃ (s : State) (d d1 : Dev) (x : EbResp) (rest : List EbResp), ∃ d2 d3 : Dev, s.begun = d ∧ d.i3cUp = true ∧ d.mg.ready = x ::
    rest ∧ d1 = d.emit (.i3c (x.bytes.take d.mg.mrl)) ∧ d2 =
    { d1 with mg := { d1.mg with ready := rest, told := d.mg.told - 1 } } ∧ (x.bytes.length ≤ d.mg.mrl → d3 = d2) ∧ (d.mg.mrl <
    x.bytes.length → d3 = (d2.latchMg 5 0 0).raise evMgFrameForm 0) ∧ x.opcode ≠ 6) ∧
  (∃ (s : State) (d d1 : Dev) (x : EbResp) (rest : List EbResp), ∃ d2 d3 : Dev, s.begun = d ∧ d.i3cUp = true ∧ d.mg.ready = x ::
    rest ∧ d1 = d.emit (.i3c (x.bytes.take d.mg.mrl)) ∧ d2 =
    { d1 with mg := { d1.mg with ready := rest, told := d.mg.told - 1 } } ∧ (x.bytes.length ≤ d.mg.mrl → d3 = d2) ∧ (d.mg.mrl <
    x.bytes.length → d3 = (d2.latchMg 5 0 0).raise evMgFrameForm 0) ∧ x.opcode = 6) ∧
  (∃ (s : State) (d : Dev) (whole : Bool), s.begun = d ∧ d.i3cUp = true ∧ d.mg.ready = []) ∧
  (∃ (s : State) (d : Dev) (whole : Bool), s.begun = d ∧ d.i3cUp = false) ∧
  (∃ (s : State) (d : Dev) (whole : Bool), s.begun = d ∧ d.mg.ibiAsked = none) ∧
  (∃ (s : State) (d : Dev) (b : Nat), s.begun = d ∧ d.mg.ibiAsked = some b ∧ b = 2) ∧
  (∃ (s : State) (d : Dev) (b : Nat), s.begun = d ∧ d.mg.ibiAsked = some b ∧ b = 1) ∧
  (∃ (s : State) (d : Dev) (b : Nat), s.begun = d ∧ d.mg.ibiAsked = some b ∧ d.mg.nacks ≠ 15) ∧
  (∃ (s : State) (d : Dev) (b : Nat), s.begun = d ∧ d.mg.ibiAsked = some b ∧ d.mg.nacks = 15) ∧
  (∃ (s : State) (d : Dev), s.begun = d ∧ d.i3cUp = true ∧ d.mg.addr = none ∧ d.mg.hotJoinOff = false) ∧
  (∃ (s : State) (d : Dev), ∃ a, a < 128 ∧ s.begun = d ∧ d.i3cUp = true ∧ d.mg.addr = none) ∧
  (∃ (s : State) (d : Dev), ∃ a, ∃ own, a < 128 ∧ s.begun = d ∧ d.i3cUp = true ∧ d.mg.addr = none ∧ own = 0x2C + d.bt.straps % 4) ∧
  (∃ (s : State) (d : Dev), ∃ own, s.begun = d ∧ d.i3cUp = true ∧ d.mg.addr = none ∧ own ≠ 0x2C + d.bt.straps % 4) ∧
  (∃ (s : State) (d : Dev), s.begun = d ∧ d.i3cUp = true ∧ d.mg.addr = none ∧ d.mg.hotJoinOff = true) ∧
  (∃ (s : State) (d : Dev), s.begun = d ∧ d.i3cUp = true ∧ d.mg.addr = none) ∧
  (∃ (s : State) (c c1 c2 : Chip) (x : EbInputs), ∃ bytes f, s.begunChip = c ∧ c.dev.i3cUp = true ∧ c.dev.mg.addr = none ∧ flag
    c.dev.bt.straps 2 = true ∧ (c.dev.mg.legacy = true → c1 = c) ∧ (c.dev.mg.legacy = false → c1 = c.map (fun d =>
    ({ d with mg := { d.mg with legacy := true } }).raise evMgLegacyI2c 0)) ∧ c1.dev.ebCheck bytes = (some f, c2.dev) ∧ c2.nv =
    c1.nv) ∧
  (∃ (s : State) (c c1 c2 : Chip) (x : EbInputs), ∃ bytes, s.begunChip = c ∧ c.dev.i3cUp = true ∧ c.dev.mg.addr = none ∧ flag
    c.dev.bt.straps 2 = true ∧ (c.dev.mg.legacy = true → c1 = c) ∧ (c.dev.mg.legacy = false → c1 = c.map (fun d =>
    ({ d with mg := { d.mg with legacy := true } }).raise evMgLegacyI2c 0)) ∧ c1.dev.ebCheck bytes = (none, c2.dev) ∧ c2.nv =
    c1.nv) ∧
  (∃ (s : State) (d : Dev) (write : Option (List Byte)) (x : EbInputs), s.begun = d ∧ (d.i3cUp = false ∨ flag d.bt.straps 2 = false
    ∨ d.mg.addr.isSome = true)) ∧
  (∃ (s : State) (d : Dev) (bits : Nat), ∃ v, v < 65536 ∧ s.begun = d ∧ d.i3cUp = true) ∧
  (∃ (s : State) (d : Dev) (old : Nat), ∃ a, a < 128 ∧ s.begun = d ∧ d.i3cUp = true ∧ d.mg.addr = some old) ∧
  (∃ (s : State) (d : Dev) (old : Nat), s.begun = d ∧ d.i3cUp = true ∧ d.mg.addr = some old) ∧
  (∃ (s : State) (d : Dev) (old : Nat), ∃ a, s.begun = d ∧ d.i3cUp = true ∧ d.mg.addr = some old ∧ 2 ≤ a) ∧
  (∃ (s : State) (d : Dev), ∃ d1 : Dev, s.begun = d ∧ d.mg.alive = true ∧ d1 =
    ({ d with mg := { d.mg with alive := false } }).raise evMgMcWedged 0) ∧
  (∃ (s : State) (d : Dev), s.begun = d ∧ d.mg.alive = false) ∧
  (∃ (s : State) (d : Dev), s.begun = d ∧ 9 ≤ d.bt.phase) ∧
  (∃ (s : State) (d : Dev), s.begun = d ∧ d.bt.phase < 9) ∧
  (∃ (d : Dev) (n : Nat), d.mg.waits.any (fun w => !(islandOp w.opcode)) = false) ∧
  (∃ (d : Dev) (n : Nat), d.mg.waits.any (fun w => !(islandOp w.opcode)) = true) :=
  ⟨⟨up { on with mg := { ready := [⟨1, [7]⟩] } }, _, _, _, _, _, _, rfl, by decide, rfl, rfl, rfl, fun _ => rfl, fun h => absurd h
     (by decide), by decide⟩,
   ⟨up { on with mg := { mrl := 12, ready := [⟨6, List.replicate 13 7⟩] } }, _, _, _, _, _, _, rfl, by decide, rfl, rfl, rfl, fun h
     => absurd h (by decide), fun _ => rfl, by decide⟩,
   ⟨up on, _, true, rfl, by decide, by decide⟩,
   ⟨{}, _, true, rfl, by decide⟩,
   ⟨{}, _, true, rfl, by decide⟩,
   ⟨up { mg := { ibiAsked := some 2 } }, _, _, rfl, rfl, by decide⟩,
   ⟨up { mg := { ibiAsked := some 1 } }, _, _, rfl, rfl, by decide⟩,
   ⟨up { mg := { ibiAsked := some 2 } }, _, _, rfl, rfl, by decide⟩,
   ⟨up { mg := { ibiAsked := some 1, nacks := 15 } }, _, _, rfl, rfl, by decide⟩,
   ⟨up on, _, rfl, by decide, by decide, by decide⟩,
   ⟨up on, _, 127, by decide, rfl, by decide, by decide⟩,
   ⟨up on, _, 127, _, by decide, rfl, by decide, by decide, rfl⟩,
   ⟨up on, _, 4, rfl, by decide, by decide, by decide⟩,
   ⟨up { on with mg := { hotJoinOff := true } }, _, rfl, by decide, by decide, by decide⟩,
   ⟨up on, _, rfl, by decide, by decide⟩,
   ⟨up { on with bt := { phase := 9, straps := 4 }, mg := { alive := true, legacy := true } }, _, _,
     { (up { on with bt := { phase := 9, straps := 4 }, mg := { alive := true, legacy := true } }).begunChip with dev := (up { on with bt := { phase := 9, straps := 4 }, mg := { alive := true, legacy := true } }).begun.countFrame false },
     ⟨0, [], true, true⟩, fr 1 [], ⟨1, 7, []⟩, rfl, by decide, by decide, by decide, fun _ => rfl, fun h => absurd h (by
     decide), (takes (up { on with bt := { phase := 9, straps := 4 }, mg := { alive := true, legacy := true } }) 1 [] (by
     decide) (by decide) (by decide) (by decide) rfl rfl).1, rfl⟩,
   ⟨up { on with bt := { phase := 9, straps := 4 } }, _, _,
     { (up { on with bt := { phase := 9, straps := 4 } }).begunChip with dev := ((({ on with bt := { phase := 9, straps := 4 }, mg := { legacy := true } } : Dev).raise evMgLegacyI2c 0).ebCheck []).2 },
     ⟨0, [], true, true⟩, [], rfl, by decide, by decide, by decide, fun h => absurd h (by decide), fun _ => rfl, Prod.ext rfl
     rfl, rfl⟩,
   ⟨up on, _, none, ⟨0, [], true, true⟩, rfl, .inr (.inl rfl)⟩,
   ⟨up on, _, 65536, 65536 - 1, by decide, rfl, by decide⟩,
   ⟨up { on with mg := { addr := some 8 } }, _, _, 127, by decide, rfl, by decide, rfl⟩,
   ⟨up { on with mg := { addr := some 8 } }, _, _, rfl, by decide, rfl⟩,
   ⟨up { on with mg := { addr := some 8 } }, _, _, 2, rfl, by decide, rfl, by decide⟩,
   ⟨live {}, _, _, rfl, by decide, rfl⟩,
   ⟨{}, _, rfl, by decide⟩,
   ⟨up on, _, rfl, by decide⟩,
   ⟨{}, _, rfl, by decide⟩,
   ⟨{ on with sp := { slots := [(0, { use := .on })] } }, 3, by decide⟩,
   ⟨{ on with mg := { waits := [⟨0x49, 7, 0⟩] } }, 3, by decide⟩⟩

/-- The clauses that need a signature: they are met as soon as the functions of Config accept one signature of the owner's key. -/
theorem witness_SecurityCommands_signed (g sig : Nat) (hs : sig < 2 ^ 512) (hk : keyDigest (Config.keyOf g) = g)
    (h1 : verifies (Config.keyOf g) (toBytes 96 1) sig = true) (h2 : verifies (Config.keyOf g) (toBytes 96 2) sig = true)
    (h4 : verifies (Config.keyOf g) (toBytes 96 4) sig = true) :
    ∀ cmd ∈ [1, 2, 4], ∃ (s : State) (bytes : List Byte) (f : EbFrame) (c : Chip) (w : Nat),
      s.takesFrame bytes 0x34 f c ∧ f.takes 160 = true ∧ w = f.num 0 96 ∧ sig = f.num 96 64 ∧ c.statementStatus w = ebOk ∧
      stCmd w = cmd ∧ (cmd ≠ 4 → lcSigner c.dev.se.life (stCmd w) = some .owner) ∧
      c.nv.fuses.signed .owner (toBytes 96 w) sig = true ∧ c.nv.fuses.freeOwner = some 1 ∧ c.nv.fuses.activeOwner = some 0 := by
  have hv : ∀ cmd ∈ [1, 2, 4], verifies (Config.keyOf g) (toBytes 96 cmd) sig = true := by
    intro cmd hc; simp only [List.mem_cons, List.not_mem_nil, or_false] at hc; rcases hc with rfl | rfl | rfl <;> assumption
  have hst : ∀ cmd ∈ [1, 2, 4], ({ dev := (live { nonce := some (0, 0), life := 1 }).begun.countFrame false } : Chip).statementStatus cmd = ebOk ∧ stCmd cmd = cmd ∧
      (cmd ≠ 4 → lcSigner 1 (stCmd cmd) = some .owner) ∧ cmd < 2 ^ 768 := by decide +kernel
  intro cmd hc
  obtain ⟨a1, a2, a3, a4⟩ := hst cmd hc
  have hsame (c c' : Chip) (w : Nat) (h1 : c.dev = c'.dev) (h2 : c.nv.serial = c'.nv.serial) :
      c.statementStatus w = c'.statementStatus w := by simp only [Chip.statementStatus, h1, h2]
  have hp : (toBytes 96 cmd ++ toBytes 64 sig).length = 160 := by simp [toBytes_length]
  have n1 : (EbFrame.mk 0x34 7 (toBytes 96 cmd ++ toBytes 64 sig)).num 0 96 = cmd := by
    simp only [EbFrame.num, leAt, List.drop_zero]
    rw [List.take_append_of_le_length (Nat.le_of_eq (toBytes_length _ _).symm),
      List.take_of_length_le (Nat.le_of_eq (toBytes_length _ _)), ofBytes_toBytes]
    exact Nat.mod_eq_of_lt a4
  have n2 : (EbFrame.mk 0x34 7 (toBytes 96 cmd ++ toBytes 64 sig)).num 96 64 = sig := by
    simp only [EbFrame.num, leAt]
    rw [List.drop_append_of_le_length (Nat.le_of_eq (toBytes_length _ _).symm),
      List.drop_of_length_le (Nat.le_of_eq (toBytes_length _ _)), List.nil_append,
      List.take_of_length_le (Nat.le_of_eq (toBytes_length _ _)), ofBytes_toBytes]
    exact Nat.mod_eq_of_lt hs
  have hact : Fuses.activeOwner { owner := [(0, some g)] } = some 0 := by simp [Fuses.activeOwner, firstThat, Tbl.get, flag]
  refine ⟨{ live { nonce := some (0, 0), life := 1 } with chip := { (live { nonce := some (0, 0), life := 1 }).chip with
    nv := { fuses := { owner := [(0, some g)] } } } }, _, _, _, cmd,
    takes _ 0x34 (toBytes 96 cmd ++ toBytes 64 sig) (by decide) (by omega) (show 2 ≤ 9 by decide) (show 0 < 8 by decide) rfl rfl, ?_, n1.symm, n2.symm,
    (hsame _ _ _ rfl rfl).trans a1, a2, a3, ?_, rfl, hact⟩
  · simp [EbFrame.takes, hp]
  · show Fuses.signed { owner := [(0, some g)] } .owner (toBytes 96 cmd) sig = true
    rw [Fuses.signed, Fuses.trusted, hact]
    simp [Tbl.get, hk, hv cmd hc]

/-- The clause of a full OWNER set, under the same kind of condition. -/
theorem witness_SecurityCommands_exhausted (g sig : Nat) (hk : keyDigest (Config.keyOf g) = g)
    (h4 : verifies (Config.keyOf g) (toBytes 96 4) sig = true) :
    ∃ (c : Chip) (w : Nat), c.statementStatus w = ebOk ∧ stCmd w = 4 ∧ c.nv.fuses.signed .owner (toBytes 96 w) sig = true ∧
      c.nv.fuses.freeOwner = none := by
  have hst : ({ dev := (live { nonce := some (0, 0), life := 1 }).begun } : Chip).statementStatus 4 = ebOk ∧ stCmd 4 = 4 := by
    decide +kernel
  have hact : Fuses.activeOwner { owner := [(0, some 0), (1, some 0), (2, some 0), (3, some g)] } = some 3 := by
    simp [Fuses.activeOwner, firstThat, Tbl.get, flag]
  refine ⟨{ dev := (live { nonce := some (0, 0), life := 1 }).begun,
            nv := { fuses := { owner := [(0, some 0), (1, some 0), (2, some 0), (3, some g)] } } }, 4, hst.1, hst.2, ?_, ?_⟩
  · rw [Fuses.signed, Fuses.trusted, hact]
    simp [Tbl.get, hk, h4]
  · simp [Fuses.freeOwner, firstThat, Tbl.get]

/-- The clauses of an accepted firmware and of a refused one with an old SVN: an image whose head has that code meets them. -/
theorem witness_StartSteps_accepted (n : NvUnit) (code : Nat) (hc : code = 0 ∨ code = 7)
    (h1 : n.headCode 0 0 1 = code) (h2 : n.headCode 0 0 2 = code) :
    (∃ (c : Chip) (fail : Bool), c.nv.imageCode c.dev.se.life c.dev.bt.part 1 (c.dev.retainedOf 1 false) fail = code) ∧
    ∃ (c : Chip) (fail bad : Bool), c.nv.imageCode c.dev.se.life c.dev.bt.part 2 (c.dev.retainedOf 2 bad) fail = code := by
  refine ⟨⟨⟨{ bt := { kind := 2, fw := some ⟨hdrDigest (n.flashBytes (imageBase 0 1) 128), 0⟩ } }, n⟩, false, ?_⟩,
    ⟨{ bt := { kind := 2, cfg := some ⟨hdrDigest (n.flashBytes (imageBase 0 2) 128), 0⟩ } }, n⟩, false, false, ?_⟩
  · rcases hc with rfl | rfl <;> simp [NvUnit.imageCode, h1, Dev.retainedOf]
  · rcases hc with rfl | rfl <;> simp [NvUnit.imageCode, h2, Dev.retainedOf]

/-- A device whose image sets the port map `m` and nothing else. -/
def mapIs (d : Dev) (m : Tbl Nat) : Dev := { d with map := m }

/-- What an empty image makes of a device, by the port map of Config. -/
theorem apply_empty (d : Dev) (h : portMapOk (Config.portMap []) = true) :
    ∃ m, (Config.portMap [] = [] → m = []) ∧ ∀ w, d.applyImage w [] = some (mapIs d m) := by
  have h0 : (sectionsOf []).getD [] = [] := by decide
  have hs : ∀ n t (d : Dev) w, d.applySections w [] n t = some d := by
    intro n; induction n with
    | zero => intro _ _ _; rfl
    | succ n ih => intro t d w; simp [Dev.applySections, firstThat, ih]
  refine ⟨forEach (Config.portMap []) (fun (p : Nat × Nat) t => Tbl.put 0 p.1 p.2 t) [], fun he => by rw [he]; rfl, fun w => ?_⟩
  simp only [Dev.applyImage, Dev.applyMap, h0, h, if_true, hs, firstThat]
  rfl

/-- Apply of an empty image is accepted where the free port map of Config is empty, and refused whatever that map is where
TP_LMAX is below its range. -/
theorem witness_StartSteps_apply :
    (Config.portMap [] = [] → ∃ (c : Chip) (d1 : Dev),
      c.dev.apply c.nv (decide (c.dev.bt.kind = 2)) c.dev.bt.image = some d1) ∧
    ∃ c : Chip, c.dev.apply c.nv (decide (c.dev.bt.kind = 2)) c.dev.bt.image = none := by
  constructor
  · intro he
    obtain ⟨m, hm, hi⟩ := apply_empty on (by rw [he]; rfl)
    obtain rfl := hm he
    have hk : (mapIs { on with bt := { on.bt with base := on.regs } } []).imageRules = true := by decide +kernel
    have ha : Dev.apply on {} false [] = some (mapIs { on with bt := { on.bt with base := on.regs } } []) := by
      unfold Dev.apply; rw [hi]; exact if_pos hk
    exact ⟨{ dev := on }, _, ha⟩
  · refine ⟨{ dev := on.wr rTpLmax 0 }, show Dev.apply (on.wr rTpLmax 0) {} false [] = none from ?_⟩
    by_cases h : portMapOk (Config.portMap []) = true
    · obtain ⟨m, -, hi⟩ := apply_empty (on.wr rTpLmax 0) h
      have hk : (mapIs { on.wr rTpLmax 0 with bt := { on.bt with base := (on.wr rTpLmax 0).regs } } m).imageRules = false := by
        unfold Dev.imageRules
        rw [show decide (256 ≤ (mapIs { on.wr rTpLmax 0 with bt := { on.bt with base := (on.wr rTpLmax 0).regs } } m).fld
          rTpLmax 0 16) = false from rfl]
        simp only [Bool.and_false, Bool.false_and]
      unfold Dev.apply; rw [hi]; exact if_neg (fun e => by cases hk.symm.trans e)
    · simp only [Dev.apply, Dev.applyImage, Dev.applyMap, h]; rfl

end Sys2Proof.Tests
end

/-! SUPPORT. The scope of register accesses (R4, R8, R10, R57, R77, R457): where a write goes, how it is judged, and the state
before power comes. -/

namespace Sys2Proof.Machine

/-! ### Where a register write goes (R4, R57, R77) -/

/-- A register write that changes the device only, into `E`. -/
theorem exec_registerWrite_dev {s : State} {d E : Dev} {path : RegPath} {bytes v : Nat} (hd : s.begun = d)
    (h : ∀ c : Chip, c.dev = d → c.registerWrite path bytes v = { c with dev := E }) :
    exec (.registerWrite path bytes v) s = .next (s.after E) :=
  runChip_dev (f := fun c => c.registerWrite path bytes v) hd h

/-- Before the end of start a core's write has no effect. -/
theorem Chip.registerWrite_core_early {c : Chip} (addr bytes v : Nat) (hp : c.dev.bt.phase < 9) :
    c.registerWrite (.core addr) bytes v = c :=
  if_neg (Nat.not_le.2 hp)

/-- After start a core's write goes to the control space. -/
theorem Chip.registerWrite_core_running {c : Chip} (addr bytes v : Nat) (hp : 9 ≤ c.dev.bt.phase) :
    c.registerWrite (.core addr) bytes v = (c.ctlWrite 1 addr bytes (v % 2 ^ (8 * bytes))).2 :=
  if_pos hp

/-- A write of the control space that hits no register is reported (R4). -/
theorem Chip.ctlWrite_unmapped (c : Chip) {addr bytes : Nat} (path v : Nat) (h : ctlReg addr bytes = none) :
    (c.ctlWrite path addr bytes v).2 = { c with dev := c.dev.unmapped path addr } := by
  simp only [Chip.ctlWrite, h, Chip.map]

/-- A write of the control space that hits a register other than BT_CMD is judged there (R8). -/
theorem Chip.ctlWrite_mapped (c : Chip) {addr bytes i : Nat} {r : Reg} (path v : Nat) (h : ctlReg addr bytes = some (r, i))
    (hr : r.name ≠ .btCmd) : (c.ctlWrite path addr bytes v).2 = { c with dev := c.dev.regWrite r i v } := by
  simp only [Chip.ctlWrite, h, if_neg hr]

/-- A host's write of an offset of its control page without a register is ignored and reported. -/
theorem Dev.ctrlPage_ignored (d : Dev) (h v : Nat) {off bytes : Nat} (hr : pageReg .fn off bytes = none) :
    d.ctrlPage h off bytes v = d.raise evHqDbIgnored h := by
  simp only [Dev.ctrlPage, hr]

/-- A host's write of its control page reaches the register at its offset. -/
theorem Dev.ctrlPage_reaches (d : Dev) (h v : Nat) {off bytes i : Nat} {r : Reg} (hr : pageReg .fn off bytes = some (r, i)) :
    d.ctrlPage h off bytes v = d.fnPageWrite h r i v := by
  simp only [Dev.ctrlPage, hr]

/-- A host's write of a doorbell page is ignored and reported where no register or no endpoint is. -/
theorem Dev.doorPage_ignored {d : Dev} {h ep off bytes : Nat} (v : Nat)
    (hn : pageReg .ep off bytes = none ∨ d.pageExists h ep = false) : d.doorPage h ep off bytes v = d.raise evHqDbIgnored h := by
  unfold Dev.doorPage
  rcases hn with hr | hp
  · rw [hr]
  · split
    · rw [hp, if_neg Bool.false_ne_true]
    · rfl

/-- A host's write of the doorbell page of an endpoint reaches the register at its offset. -/
theorem Dev.doorPage_reaches {d : Dev} {h ep off bytes i : Nat} {r : Reg} (v : Nat) (hr : pageReg .ep off bytes = some (r, i))
    (hp : d.pageExists h ep = true) : d.doorPage h ep off bytes v = d.epPageWrite h ep r v := by
  simp only [Dev.doorPage, hr, hp, if_true]

/-- A host's write of an offset of its control page is the device's own affair. -/
theorem exec_registerWrite_control {s : State} {d : Dev} (h off : Nat) {bytes v : Nat} (hd : s.begun = d)
    (hv : v < 2 ^ (8 * bytes)) :
    exec (.registerWrite (.control h off) bytes v) s = .next (s.after (d.ctrlPage h off bytes v)) :=
  exec_registerWrite_dev hd fun c hc => by subst hc; simp only [Chip.registerWrite, Chip.map, Nat.mod_eq_of_lt hv]

/-- A host's write of an offset of a doorbell page is the device's own affair. -/
theorem exec_registerWrite_door {s : State} {d : Dev} (h ep off : Nat) {bytes v : Nat} (hd : s.begun = d)
    (hv : v < 2 ^ (8 * bytes)) :
    exec (.registerWrite (.door h ep off) bytes v) s = .next (s.after (d.doorPage h ep off bytes v)) :=
  exec_registerWrite_dev hd fun c hc => by subst hc; simp only [Chip.registerWrite, Chip.map, Nat.mod_eq_of_lt hv]

/-- Settles O5, path by path: a core before and after the end of start, a control page, a doorbell page. -/
theorem registerWritesReach : Obligations.RegisterWritesReach := by
  refine ⟨?early, ?unmapped, ?mapped, ?control, ?door⟩
  case early =>
    intro s d addr bytes v hd hp
    exact exec_registerWrite_dev hd fun c hc => by subst hc; exact Chip.registerWrite_core_early addr bytes v hp
  case unmapped =>
    intro s d addr bytes v hd hp hr
    exact exec_registerWrite_dev hd fun c hc => by
      subst hc; rw [Chip.registerWrite_core_running addr bytes v hp, Chip.ctlWrite_unmapped c 1 _ hr]; rfl
  case mapped =>
    intro s d addr bytes v r i hd hp hv hr hn
    exact exec_registerWrite_dev hd fun c hc => by
      subst hc; rw [Chip.registerWrite_core_running addr bytes v hp, Nat.mod_eq_of_lt hv, Chip.ctlWrite_mapped c 1 v hr hn]
  case control =>
    intro s d h off bytes v hd hv
    rw [exec_registerWrite_control h off hd hv]
    exact ⟨fun hr => by rw [Dev.ctrlPage_ignored d h v hr], fun r i hr => by rw [Dev.ctrlPage_reaches d h v hr]⟩
  case door =>
    intro s d h ep off bytes v hd hv
    rw [exec_registerWrite_door h ep off hd hv]
    exact ⟨fun hn => by rw [Dev.doorPage_ignored v hn], fun r i hr hp => by rw [Dev.doorPage_reaches v hr hp]⟩

/-! ### The judgement of a write (R8) -/

/-- A write that would change an S field, or a Q field of a unit that is not idle, is held back. -/
theorem Dev.heldField_of_change {d : Dev} {r : Reg} {i bank v : Nat} {f : FieldDesc} (hf : f ∈ r.fields) (ha : f.acc = .rw)
    (hv : field v f.lo f.len ≠ d.fld r f.lo f.len i bank) (hc : f.cls = .s ∨ f.cls = .q ∧ d.qIdle r i bank = false) :
    d.heldField r i bank v = true := by
  refine List.any_eq_true.2 ⟨f, hf, ?_⟩
  rcases hc with hs | ⟨hq, hi⟩
  · simp [ha, hv, hs]
  · simp [ha, hv, hq, hi]

/-- A write that keeps every S and Q field is not held back. -/
theorem Dev.heldField_of_same {d : Dev} {r : Reg} {i bank v : Nat}
    (h : ∀ f ∈ r.fields, f.acc = .rw → f.cls = .s ∨ f.cls = .q → field v f.lo f.len = d.fld r f.lo f.len i bank) :
    d.heldField r i bank v = false := by
  refine List.any_eq_false.2 fun f hf hheld => ?_
  simp only [Bool.and_eq_true, Bool.or_eq_true, decide_eq_true_eq, bne_iff_ne] at hheld
  obtain ⟨⟨ha, hv⟩, hc⟩ := hheld
  exact hv (h f hf ha (hc.imp id And.left))

/-- The event of a refusal is one of the sources. -/
theorem refusalEvent_lt {r : Reg} {bank src inst : Nat} (h : refusalEvent r bank = some (src, inst)) : src < 320 := by
  unfold refusalEvent at h
  split at h <;> cases h <;> decide

/-- A refused write tells its path. -/
theorem Dev.applyRefused_mem_refuseWrite (d : Dev) (r : Reg) (bank : Nat) : .applyRefused ∈ (d.refuseWrite r bank).out := by
  unfold Dev.refuseWrite
  split <;> exact List.mem_cons_self

/-- A refusal without an event of its own changes nothing. -/
theorem Dev.refuseWrite_silent (d : Dev) {r : Reg} {bank : Nat} (h : refusalEvent r bank = none) :
    d.refuseWrite r bank = { d with out := .applyRefused :: d.out } := by
  unfold Dev.refuseWrite
  rw [h]; rfl

/-- A refused write leaves every register but those that an occurrence records in as it is. -/
theorem Dev.refuseWrite_rd (d : Dev) (r : Reg) (bank : Nat) {q : Reg} {j b : Nat}
    (hk : ∀ src < 320, ¬ raisedKey src (q.key j b)) : (d.refuseWrite r bank).rd q j b = d.rd q j b := by
  unfold Dev.refuseWrite
  split
  · next src inst he => exact Dev.raise_rd d (refusalEvent_lt he) inst q j b (hk src (refusalEvent_lt he))
  · rfl

/-- The places an occurrence records in lie among the collector's own and the source counters. -/
theorem not_raisedKey {k src : Nat} (hs : src < 320)
    (hk : k < 0x1100040 ∨ 0x1100110 ≤ k ∧ k < 0x1210000 ∨ 0x1211000 ≤ k) : ¬ raisedKey src k := by
  unfold raisedKey; omega

/-! ### The fields that take a value (R8, R10) -/

/-- What each field of a register reads after a write. -/
theorem Dev.fld_take {d : Dev} {r : Reg} {i b : Nat} (v : Nat) (hrise : Tbl.rising 0 d.regs = true)
    (hw : d.rd r i b < 2 ^ r.width) (hfit : ∀ f ∈ r.fields, f.lo + f.len ≤ r.width)
    (hapart : r.fields.Pairwise (fun f g => f.lo + f.len ≤ g.lo ∨ g.lo + g.len ≤ f.lo)) {f : FieldDesc} (hf : f ∈ r.fields) :
    (d.take r i b false v).fld r f.lo f.len i b = takenField v f (d.fld r f.lo f.len i b) := by
  have hlt := fold_lt (g := fun f => f.take false v) r.fields _ (fun f hf w hw => take_lt v f (hfit f hf) w hw) hw
  have hrd : (d.take r i b false v).rd r i b = r.fields.foldl (fun w f => f.take false v w) (d.rd r i b) := by
    rw [← Dev.rd_wr_self d r i b hrise hlt]
    simp only [Dev.rd, take_regs]
  unfold Dev.fld
  rw [hrd]
  exact fold_at (g := fun f => f.take false v) (take_apart v) (take_at v) r.fields _ hapart f hf

/-- A write of a register with T fields stages them. -/
theorem Dev.stagedValue_take (d : Dev) {r : Reg} (i b v : Nat) (h : r.fields.any (fun f => f.staged) = true) :
    (d.take r i b false v).stagedValue r i b =
      (r.fields.filter (fun f => f.staged)).foldl (fun w f => setField w f.lo f.len (field v f.lo f.len)) 0 := by
  simp only [Dev.take, h, Bool.not_false, Bool.and_self, if_true, Dev.stagedValue]
  rw [Tbl.get_put_of_ne (Option.some_ne_none _)]

/-- Each T field stands staged as written. -/
theorem Dev.field_stagedValue_take (d : Dev) {r : Reg} (i b v : Nat)
    (hapart : r.fields.Pairwise (fun f g => f.lo + f.len ≤ g.lo ∨ g.lo + g.len ≤ f.lo)) {f : FieldDesc} (hf : f ∈ r.fields)
    (hs : f.staged = true) : field ((d.take r i b false v).stagedValue r i b) f.lo f.len = field v f.lo f.len := by
  rw [Dev.stagedValue_take d i b v (List.any_eq_true.2 ⟨f, hf, hs⟩)]
  exact fold_at (g := fun f w => setField w f.lo f.len (field v f.lo f.len)) (F := fun f _ => field v f.lo f.len)
    (fun f w _ _ h => field_setField_ne w _ h)
    (fun f w => by rw [field_setField_self, Nat.mod_eq_of_lt (field_lt ..)])
    _ 0 (hapart.filter _) f (List.mem_filter.2 ⟨hf, hs⟩)

/-- A write leaves every register at another place as it is. -/
theorem Dev.rd_take_ne (d : Dev) {r q : Reg} {i b j c : Nat} (v : Nat) (h : q.key j c ≠ r.key i b) :
    (d.take r i b false v).rd q j c = d.rd q j c := by
  rw [← Dev.rd_wr_ne d (v := r.fields.foldl (fun w f => f.take false v w) (d.rd r i b)) h]
  simp only [Dev.rd, take_regs]

/-- Settles O6: a held write comes to `Dev.refuseWrite`, any other that no rule refuses to `Dev.writeDo`, and `Dev.take` gives
each field its value. -/
theorem registerWritesAreJudged : Obligations.RegisterWritesAreJudged := by
  refine ⟨?refused, ?taken, ?fields⟩
  case refused =>
    intro d r i v f hf ha hv hc
    rw [Dev.regWrite_refused (.inl (Dev.heldField_of_change hf ha hv hc))]
    exact ⟨Dev.applyRefused_mem_refuseWrite d r _,
      fun q j b hk => Dev.refuseWrite_rd d r _ fun src hs => not_raisedKey hs hk, Dev.refuseWrite_silent d⟩
  case taken =>
    intro d r i v hok hsame
    exact Dev.regWrite_accepted (Dev.heldField_of_same hsame) hok
  case fields =>
    intro d r i b v hrise hw hfit hapart
    refine ⟨fun f hf => Dev.fld_take v hrise hw hfit hapart hf, fun f hf ha ht => ?_, fun q j c => Dev.rd_take_ne d v⟩
    exact Dev.field_stagedValue_take d i b v hapart hf (by simp [FieldDesc.staged, ha, ht])

/-! ### Before power comes (R14, R457) -/

/-- An empty register file shows every register at its reset value. -/
theorem Dev.rd_of_regs_nil {d : Dev} (h : d.regs = []) (r : Reg) (i bank : Nat) : d.rd r i bank = r.resetAt i := by
  simp only [Dev.rd, h, Tbl.get_nil]

/-- Unburnt lifecycle words have no width to exceed, and no word of them reaches a state. -/
theorem Fuses.unburnt {f : Fuses} (h : f.lc = []) : f.wordsFit ∧ f.state = 0 := by
  have hz : ∀ k, Tbl.get 0 f.lc k = 0 := fun k => by rw [h, Tbl.get_nil]
  exact ⟨fun k => by rw [hz]; exact Nat.two_pow_pos 16, by simp [Fuses.state, hz, firstThat, show burntBits 0 = 0 from rfl]⟩

/-- Settles O4: the register file, the lifecycle words and the lists of the device are empty. -/
theorem resetState : Obligations.ResetState := by
  obtain ⟨hfit, hstate⟩ := Fuses.unburnt (f := State.reset.chip.nv.fuses) rfl
  exact ⟨rfl, rfl, Dev.rd_of_regs_nil rfl, hfit, hstate, fun ep => Tbl.get_nil none ep, rfl, rfl, rfl, rfl⟩

end Sys2Proof.Machine

/-! SUPPORT. Network time (R31 to R51, R508 to R510, R516): the tick boundary, time messages and the states of the time unit,
TICK_IN at the root, and waits for lock. -/

namespace Sys2Proof.Machine

/-! ### The tick boundary (R31, R48, R49, R510) -/

/-- Without power a boundary passes unnoticed. -/
theorem Dev.tickBoundary_unpowered {d : Dev} (x : TickIn) (h : d.bt.phase = 0) : d.tickBoundary x = d := if_pos h

/-- With power a boundary ends the tick, advances time, does the tick's work, then what the checks found. -/
theorem Dev.tickBoundary_powered {d e : Dev} {x : TickIn} (h : d.bt.phase ≠ 0)
    (he : (((d.tickEnd.nextTick).snapshot d).takeStagedFields).tickWork x = e) :
    d.tickBoundary x = forEach x.findings (fun f (d : Dev) => d.found f) { e with st := { e.st with passed := 0 } } := by
  subst he; exact if_neg h

/-- A boundary at which no Kiln access was refused changes the device only. -/
theorem Chip.tickBoundary_dev (c : Chip) {x : TickIn} (h : ∀ f ∈ x.findings, f ≠ .kilnRefused) :
    c.tickBoundary x = { c with dev := c.dev.tickBoundary x } := by
  have hnone : x.findings.filter (fun f => decide (f = .kilnRefused)) = [] :=
    List.filter_eq_nil_iff.2 fun f hf => by simpa using h f hf
  unfold Chip.tickBoundary
  rw [hnone]
  exact ite_self _

/-- A boundary that leaves the device with power counts a violation for each refused Kiln access. -/
theorem Chip.tickBoundary_kiln {c : Chip} {e : Dev} {x : TickIn} (he : c.dev.tickBoundary x = e) (h : e.bt.phase ≠ 0) :
    c.tickBoundary x = forEach (x.findings.filter (fun f => decide (f = .kilnRefused))) (fun _ (c : Chip) => c.kilnAccess)
      { c with dev := e } := by
  subst he; exact if_neg h

/-- A boundary at which no Kiln access was refused is an operation of the device. -/
theorem exec_tickBoundary_dev {s : State} {d : Dev} {x : TickIn} (hd : s.begun = d) (h : ∀ f ∈ x.findings, f ≠ .kilnRefused) :
    exec (.tickBoundary x) s = .next (s.after (d.tickBoundary x)) :=
  runChip_dev (f := fun c => c.tickBoundary x) hd fun c hc => by rw [Chip.tickBoundary_dev c h, hc]

/-- Without power a boundary leaves the whole chip alone, whatever was found. -/
theorem exec_tickBoundary_unpowered {s : State} {d : Dev} (x : TickIn) (hd : s.begun = d) (h : d.bt.phase = 0) :
    exec (.tickBoundary x) s = .next (s.after d) :=
  runChip_dev (f := fun c => c.tickBoundary x) hd fun c hc => by
    have hoff : c.dev.tickBoundary x = d := by rw [hc, Dev.tickBoundary_unpowered x h]
    simp only [Chip.tickBoundary, Chip.map, hoff, if_pos h]

/-- The check for conservative mode changes, of the time unit, only the mode and the run of its exit delay (R44). -/
theorem Dev.conservCheck_st (d : Dev) : ∃ c r, d.conservCheck.st = { d.st with conserv := c, exitRun := r } := by
  unfold Dev.conservCheck
  extract_lets cause _ d1 _
  have hrun : ∃ r, d1.st = { d.st with exitRun := r } := by
    simp only [d1]
    split <;> exact ⟨_, rfl⟩
  obtain ⟨r, hr⟩ := hrun
  split
  · refine ⟨true, 0, (Dev.raise_st _ (by decide) _).trans ?_⟩
    show ({ d1.st with conserv := true, exitRun := 0 } : StUnit) = _
    rw [hr]
  · exact ⟨_, _, hr⟩

/-- What the time unit counts at a boundary; E is the one that grows in HOLDOVER (R40, R41, R43). -/
theorem Dev.timeTick_st (d : Dev) : ∃ e c r,
    d.timeTick.st = { d.st with
      lockRun := if d.st.lock = .locking ∧ d.st.near then d.st.lockRun + 1 else 0,
      holdTicks := if d.st.lock = .holdover then d.st.holdTicks + 1 else 0, offTick := none,
      offHist := (d.st.offTick :: d.st.offHist).take 15, skew := e, conserv := c, exitRun := r } ∧
    (d.st.lock = .holdover → e = d.st.skew.map (· + 1)) := by
  unfold Dev.timeTick
  extract_lets hold run _ d1 skew low _ d2 d3
  obtain ⟨c, r, hc⟩ := d3.conservCheck_st
  have h3 : d3.st = d2.st := by
    show (if d2.tickOutFires = true then d2.emit (.tickOut d2.now) else d2).st = d2.st
    split <;> rfl
  have hticks : (if hold = true then d.st.holdTicks + 1 else 0) = if d.st.lock = .holdover then d.st.holdTicks + 1 else 0 := by
    simp only [hold, decide_eq_true_eq]
  refine ⟨skew, c, r, ?_, fun hh => if_pos (decide_eq_true hh)⟩
  rw [hc, h3, ← hticks]

/-- Settles O12, from the equations of the boundary on the device and on the chip; the counts come from `Dev.timeTick_st`. -/
theorem tickBoundaryAdvancesTime : Obligations.TickBoundaryAdvancesTime := by
  refine ⟨?powered, ?unpowered, fun d => ⟨rfl, rfl, rfl, rfl, rfl⟩, fun d x => rfl, ?counts⟩
  case powered =>
    intro s d e x hd hp he
    have hb := Dev.tickBoundary_powered hp he
    refine ⟨fun hf => ?_, fun hf => ?_, fun e' he' hp' => ?_⟩
    · rw [exec_tickBoundary_dev hd (by rw [hf]; exact fun _ h => absurd h List.not_mem_nil), hb, hf]; rfl
    · rw [exec_tickBoundary_dev hd hf, hb]
    · have hdev : s.begunChip.dev.tickBoundary x = e' := by rw [← he', ← hb, ← hd]; rfl
      exact runChip_next (f := fun c => c.tickBoundary x) rfl (Chip.tickBoundary_kiln hdev hp')
  case unpowered => exact fun s d x hd hp => exec_tickBoundary_unpowered x hd hp
  case counts =>
    intro d
    obtain ⟨e, c, r, hst, hskew⟩ := d.timeTick_st
    rw [hst]
    exact ⟨rfl, rfl, rfl, rfl, hskew⟩

/-! ### Time messages (R34, R37, R40, R44) -/

/-- A time message on a port in UP is taken by the device. -/
theorem exec_timeMessage_up {s : State} {p : Nat} (w rx : Nat) (hup : (s.begun.lkPort p).state = .up) :
    exec (.timeMessage p w rx) s = .next (s.after ((s.begun.noteHeard p (tmOk w)).timeMessage p w rx)) :=
  runDev_next (f := fun d => d.bypAlone p (fun d => d.bypTime p w rx)) rfl (if_pos hup)

/-- A malformed time message is reported. -/
theorem Dev.timeMessage_malformed (d : Dev) (p : Nat) {w : Nat} (rx : Nat) (h : tmOk w = false) :
    d.timeMessage p w rx = d.raise evStTimeMsgError p := by
  simp only [Dev.timeMessage, h, Bool.not_false, if_true]

/-- A good time message of the own period that makes no root yield is noted with its port; a device that is not the root then
takes it. -/
theorem Dev.timeMessage_noted {d : Dev} {p w rx : Nat} (hok : tmOk w = true) (hperiod : field w 8 2 = d.fld rStCtl 0 2)
    (hkeeps : d.isRoot = false ∨ d.node ≤ tmRoot w) :
    d.timeMessage p w rx = if (d.notePort p w rx).isRoot = true then d.notePort p w rx
      else (d.notePort p w rx).takeTime p (d.answeredStamp p w).isSome := by
  have hyields : (d.isRoot && decide (tmStratum w ≤ 62) && decide (tmRoot w < d.node)) = false := by
    rcases hkeeps with hr | hn
    · simp [hr]
    · simp [Nat.not_lt.2 hn]
  simp only [Dev.timeMessage, hok, hperiod, hyields, Bool.not_true, Bool.false_eq_true, ne_eq, not_true_eq_false, if_false]

/-- A message of the parent that a locked device keeps steers it. -/
theorem Dev.takeTime_parent {d : Dev} {p : Nat} (fresh : Bool) (hbest : d.bestCandidate = some p) (hp : d.st.parent = some p)
    (hl : d.st.lock = .locked) : d.takeTime p fresh = d.follow p fresh := by
  simp only [Dev.takeTime, hbest, hp, hl, true_or, and_self, if_true]

/-! ### The conditions of the time unit (R38, R40, R41, R44, R49) -/

/-- A port whose last message is 3 local ticks old is silent. -/
theorem Dev.timeSilent_of_waited {d : Dev} {p t : Nat} (ht : (d.stPort p).lastTick = some t) (hw : 3 ≤ d.waited t) :
    d.timeSilent p = true := by
  unfold Dev.timeSilent
  rw [ht]
  exact decide_eq_true hw

/-- A locked device whose parent falls silent and that has no other candidate enters HOLDOVER. -/
theorem Dev.parentSilent_holdover {d : Dev} {p : Nat} (hp : d.st.parent = some p) (hs : d.timeSilent p = true)
    (hr : d.isRoot = false) (hl : d.st.lock = .locked) (hb : d.bestCandidate = none) : d.parentSilent = d.enterHoldover := by
  simp [Dev.parentSilent, hp, hs, hr, hl, hb]

/-- Settles O13: a message that arrives is malformed, or noted, or of the parent; each condition of the time unit is the guard of
its command. -/
theorem timeIsSteered : Obligations.TimeIsSteered := by
  refine ⟨?malformed, ?root, ?parent, ?locks, ?silent, ?timeout, ?restored, ?lost, ?persists⟩
  case malformed =>
    intro s d p w rx hd hup hbad
    subst hd
    rw [exec_timeMessage_up w rx hup, hbad, Dev.timeMessage_malformed _ p rx hbad]
  case root =>
    intro s d p w rx hup hd hok hperiod _ hnode hroot
    rw [exec_timeMessage_up w rx hup, hok, hd, Dev.timeMessage_noted hok hperiod (.inr hnode), if_pos hroot]
  case parent =>
    intro s d e p w rx hup hd hok hperiod hnr he hnr' hbest hparent hlock
    rw [exec_timeMessage_up w rx hup, hok, hd, Dev.timeMessage_noted hok hperiod (.inl hnr), he, hnr',
      if_neg Bool.false_ne_true, Dev.takeTime_parent _ hbest hparent hlock]
  case locks =>
    intro s d hd hl hrun
    exact runDev_next (f := fun d => d.lockAcquired) hd (if_pos ⟨hl, hrun⟩)
  case silent =>
    intro s d p t hd hp ht hw hr hl hb
    exact runDev_next (f := fun d => d.parentSilent) hd
      (Dev.parentSilent_holdover hp (Dev.timeSilent_of_waited ht hw) hr hl hb)
  case timeout =>
    intro s d hd hl ht
    exact runDev_next (f := fun d => d.holdoverTimeout) hd (if_pos ⟨hl, ht⟩)
  case restored =>
    intro s d hd hc hcause hforce hrun
    exact runDev_next (f := fun d => d.skewRestored) hd (if_pos (by simp [hc, hcause, hforce, hrun]))
  case lost =>
    intro s d hd hr hl ht
    exact runDev_next (f := fun d => d.tickInLost) hd (if_pos (by simp [hr, hl, ht]))
  case persists =>
    intro s d a hd ho
    exact runDev_next (f := fun d => d.overrunPersist a) hd (if_pos ho)

/-! ### TICK_IN (R36, R38) -/

/-- A core's write of ST_ROOT_SECONDS arms its value. -/
theorem Dev.coreWrite_stRootSeconds {d : Dev} {v : Nat} (hp : 9 ≤ d.bt.phase) (hv : v < 2 ^ 64) :
    d.coreWrite rStRootSeconds 0 v = { d.wr rStRootSeconds v with st := { d.st with armedSeconds := some v } } := by
  rw [Dev.coreWrite_does hp rStRootSeconds (by decide) hv (by decide) rfl]
  show d.armSeconds v = _
  simp only [Dev.armSeconds, Nat.mod_eq_of_lt hv, Dev.wr_st]

/-- The root's edge marks its second: the one armed, else the one expected; it corrects by an error beyond 1 us, then steers. -/
theorem Dev.tickInEdge_root {d e x : Dev} {falling : Bool} {at_ sec : Nat} {err : Int} (hr : d.isRoot = true)
    (hf : falling = flag (d.rd rStCtl) 3) (hs : sec = d.st.armedSeconds.getD (d.edgeSecond at_))
    (herr : err = (at_ : Int) - (sec * 1000000000 : Nat))
    (he : d.raiseIf (decide (1000 < ((at_ : Int) - (d.edgeSecond at_ * 1000000000 : Nat)).natAbs)) evStTickinJump 0 = e)
    (hx : { e with st := { e.st with
      armedSeconds := none, lastEdge := max at_ (sec * 1000000000), edgeSec := some sec, tickinLost := false,
      slewing := false } } = x) :
    d.tickInEdge ⟨falling, at_⟩ = (if 1000 < err.natAbs then x.correct (16 * err) else x).steer (16 * err) := by
  subst hf hs herr he hx
  exact if_neg (by simp [hr])

/-- An edge of the kind that is not selected, or at a device that is not the root, does nothing. -/
theorem Dev.tickInEdge_ignored {d : Dev} {falling : Bool} (at_ : Nat) (h : d.isRoot = false ∨ falling ≠ flag (d.rd rStCtl) 3) :
    d.tickInEdge ⟨falling, at_⟩ = d := by
  refine if_pos ?_
  rcases h with hr | hf
  · simp [hr]
  · simp [hf]

/-- Settles O14: an edge of the selected kind at the root comes to `Dev.tickInEdge_root`, any other to nothing. -/
theorem tickInLoadsArmedSeconds : Obligations.TickInLoadsArmedSeconds := by
  refine ⟨?arms, ?edge, ?other, ?behind⟩
  case arms =>
    intro s d v hd hp hv
    exact runDev_next (f := fun d => d.coreWrite rStRootSeconds 0 v) hd (Dev.coreWrite_stRootSeconds hp hv)
  case edge =>
    intro s d e falling at_ sec err hd hr hf hs herr he
    have hedge := runDev_next (f := fun d => d.tickInEdge ⟨falling, at_⟩) hd (Dev.tickInEdge_root hr hf hs herr he rfl)
    refine ⟨fun hsmall => ?_, fun hlarge => ?_⟩
    · rw [if_neg (Nat.not_lt.2 hsmall)] at hedge
      exact hedge
    · rw [if_pos hlarge] at hedge
      exact hedge
  case other =>
    intro s d falling at_ hd hother
    exact runDev_next (f := fun d => d.tickInEdge ⟨falling, at_⟩) hd (Dev.tickInEdge_ignored at_ hother)
  case behind =>
    intro d e o ho he
    subst he
    exact if_pos ho

/-! ### Waits for lock (R42, R516) -/

/-- A command that has waited L_max local ticks for lock ends, and what it has made is dropped with it. -/
theorem Dev.notLocked_due {d : Dev} {ep index : Nat} {lap : Bool} {c : Cmd} (hc : d.findCmd ep index lap = some c)
    (hw : d.waitsLock c = true) (hl : d.lmax ≤ d.waited c.fetched) {e : Dev}
    (he : forEach (d.tp.msgs.filter (fun m => m.belongs c)) Dev.discardMsg d = e) :
    d.notLocked ep index lap =
      (({ e with xl := { e.xl with walks := e.xl.walks.filter (fun w => decide (w.owner ≠ XlOwner.rdv ep index lap)) } }).raise
        evTpUnreachable ep).cmdDone c stUnreachable (8 * 2 ^ 40) 0 0 := by
  simp only [Dev.notLocked, hc, hw, hl, decide_true, Bool.and_self, if_true, he]

/-- A message that the device builds itself, not yet first sent after L_max local ticks without lock, fails with reason 8. -/
theorem Dev.selfNotLocked_msg {d : Dev} {num : Nat} {m : Msg} (hm : d.msg num = some m) (hid : m.id = none)
    (hself : m.selfMade = true) (ht : d.timeOk = false) (hl : d.lmax ≤ d.waited m.since) :
    d.selfNotLocked false num = d.unreachable m 8 := by
  simp [Dev.selfNotLocked, hm, hid, hself, ht, hl]

/-- A Relay message not yet first sent after L_max local ticks without lock is lost. -/
theorem Dev.selfNotLocked_relay {d : Dev} {num : Nat} {m : RlMsg} (hm : firstThat d.rl.msgs (fun m => m.num == num) = some m)
    (hid : m.id = none) (ht : d.timeOk = false) (hl : d.lmax ≤ d.waited m.since) : d.selfNotLocked true num = d.rlLost m := by
  simp [Dev.selfNotLocked, hm, hid, ht, hl]

/-- What a search for a number finds has the number. -/
theorem firstThat_numbered {β : Type} {number : β → Nat} {l : List β} {n : Nat} {x : β}
    (h : firstThat l (fun y => number y == n) = some x) : number x = n :=
  eq_of_beq (firstThat_passes (p := fun y => number y == n) h)

/-- A message fails UNREACHABLE: it leaves the operation table and its owner is told the reason (R138). -/
theorem Dev.unreachable_of {d e : Dev} {m : Msg} (reason : Nat)
    (he : ((d.raise evTpUnreachable m.srcEp).returnCredits m).dropWaiter m.num = e) :
    d.unreachable m reason = ({ e with tp := { e.tp with
      msgs := e.tp.msgs.filter (fun x => x.num != m.num), opsFullRaised := false, winFullRaised := false } }).owe
        (.msgEnd m stUnreachable 0 reason []) := by
  subst he; rfl

/-- Settles O15: a command comes to `Dev.notLocked_due`, a message to `Dev.unreachable`, a Relay message to `Dev.rlLost`. -/
theorem waitsForLockEnd : Obligations.WaitsForLockEnd := by
  refine ⟨?command, ?message, ?relay⟩
  case command =>
    intro s d ep index lap c hd hc hw hl
    refine ⟨fun hmsgs hwalks => ?_, fun e he => ?_⟩
    · refine runDev_next (f := fun d => d.notLocked ep index lap) hd ?_
      have hkeep : ({ d with xl := { d.xl with walks := [] } } : Dev) = d := by rw [← hwalks]
      rw [Dev.notLocked_due hc hw hl (e := d) (by rw [hmsgs]; rfl), hwalks, List.filter_nil, hkeep]
    · exact runDev_next (f := fun d => d.notLocked ep index lap) hd (Dev.notLocked_due hc hw hl he)
  case message =>
    intro s d e num m hd hm hid hself ht hl he
    refine runDev_next (f := fun d => d.selfNotLocked false num) hd ?_
    rw [Dev.selfNotLocked_msg hm hid hself ht hl, Dev.unreachable_of 8 he, firstThat_numbered (number := Msg.num) hm]
  case relay =>
    intro s d num m hd hm hid ht hl
    have hlost : exec (.selfMsgNotLocked true num) s = .next (s.after (d.rlLost m)) :=
      runDev_next (f := fun d => d.selfNotLocked true num) hd (Dev.selfNotLocked_relay hm hid ht hl)
    rw [hlost, Dev.rlLost, firstThat_numbered (number := RlMsg.num) hm]
    exact ⟨fun habort => by rw [if_pos habort], fun hother => by rw [if_neg hother]⟩

end Sys2Proof.Machine

/-! SUPPORT. First sends, timeouts, back-off and the age limit of messages (R42, R126, R127, R128, R130, R138). -/

namespace Sys2Proof.Machine

/-! ### The gate of a first send (R42, R127, R128, R130) -/

/-- The message of a node that is first sent next is free to go and addressed to the node. -/
theorem nextWaiting_free {node : Nat} {free : Msg → Bool} {m : Msg} :
    ∀ {l earlier : List Msg}, nextWaiting node free earlier l = some m → free m = true ∧ m.dstNode = node
  | [], _, h => nomatch h
  | x :: rest, earlier, h => by
    unfold nextWaiting at h
    split at h
    · next hx =>
      cases h
      simp only [Bool.and_eq_true, beq_iff_eq] at hx
      obtain ⟨⟨⟨⟨hnode, _⟩, _⟩, hfree⟩, _⟩ := hx
      exact ⟨hfree, hnode⟩
    · exact nextWaiting_free h

/-- No message fetched before the one that is first sent next waits to be first sent to the node. -/
theorem nextWaiting_before {node : Nat} {free : Msg → Bool} {m : Msg} :
    ∀ {l earlier : List Msg}, nextWaiting node free earlier l = some m →
      nextWaiting node free earlier (l.takeWhile (fun x => x.num != m.num)) = none
  | [], _, _ => rfl
  | x :: rest, earlier, h => by
    unfold nextWaiting at h
    split at h
    · cases h
      simp [nextWaiting]
    · next hx =>
      rw [List.takeWhile_cons]
      split
      · rw [nextWaiting, if_neg hx]
        exact nextWaiting_before h
      · rfl

/-- The message of a node that is first sent next passes the gate, where time is good, the tables have room and the window has
credit. -/
theorem Dev.gate_nextFor {d : Dev} {node : Nat} {m : Msg} (hnext : d.nextFor node = some m) (ht : d.timeOk = true)
    (hops : d.opsRoom m.num = true) (hwin : (Tbl.get none d.tp.wins m.dstNode).isSome = true ∨ d.tp.wins.length < 16384)
    (hcredit : creditOk (d.winOf m.dstNode) m.wants = true) : d.gate m = (true, d) := by
  obtain ⟨hfree, hnode⟩ := nextWaiting_free hnext
  have hbehind : d.sendBehind m = false := by simpa using hfree
  have hbefore : nextWaiting m.dstNode (fun x => !(d.sendBehind x)) [] (d.before m.num) = none := by
    rw [hnode]; exact nextWaiting_before hnext
  have hroom : ¬ ((Tbl.get none d.tp.wins m.dstNode).isNone = true ∧ 16384 ≤ d.tp.wins.length) := by
    rintro ⟨hnone, hfull⟩
    rcases hwin with hsome | hlen
    · rw [Option.isNone_iff_eq_none] at hnone
      rw [hnone] at hsome
      exact absurd hsome Bool.false_ne_true
    · omega
  simp only [Dev.gate, ht, hbehind, hops, hcredit, hbefore, if_neg hroom, Bool.not_true, Bool.or_self, Bool.false_eq_true,
    if_false, Option.isNone_none, Bool.and_self]

/-- MESSAGE_FIRST_SEND sends the packets of a message that passes the gate. -/
theorem Dev.firstSend_gate {d : Dev} {node : Nat} {m : Msg} (hnext : d.nextFor node = some m) (hg : d.gate m = (true, d)) :
    d.firstSend node = d.pump m.num {} pumpFuel := by
  simp only [Dev.firstSend, hnext, hg, if_true]

/-- An unordered message takes the next MSG_ID and the present tick. -/
theorem Dev.launch_unordered (d : Dev) {m : Msg} (hid : m.id = none) (ho : m.ordered = false) :
    d.launch m = ({ d with tp := { d.tp with nextId := (d.tp.nextId + 1) % 2 ^ 32 } },
      { m with id := some d.tp.nextId, fst := d.now, prev := none }) := by
  simp only [Dev.launch, hid, ho, Bool.false_eq_true, if_false]

/-- An unordered message that passes the gate takes its credits, its MSG_ID and its first-send tick. -/
theorem Dev.admitMsg_first {d : Dev} {m : Msg} (hid : m.id = none) (ho : m.ordered = false) (hg : d.gate m = (true, d)) :
    ∃ x, d.admitMsg m = (some ({ d with
        tp := { d.tp with
          wins := Tbl.put none m.dstNode (some { d.winOf m.dstNode with held := (d.winOf m.dstNode).held + m.wants }) d.tp.wins,
          nextId := (d.tp.nextId + 1) % 2 ^ 32 },
        todo := d.todo ++ [.startCmds m.srcEp] },
      { m with credits := m.wants, id := some d.tp.nextId, fst := d.now, prev := none }), x) := by
  have hl := Dev.launch_unordered ((d.takeCredits m).1.owe (.startCmds m.srcEp)) (m := (d.takeCredits m).2) hid ho
  refine ⟨(d.takeCredits m).1, ?_⟩
  unfold Dev.admitMsg
  rw [hid, hg]
  show (some (((d.takeCredits m).1.owe (.startCmds m.srcEp)).launch (d.takeCredits m).2), (d.takeCredits m).1) = _
  rw [hl]
  rfl

/-! ### Packets (R119, R126, R298, R426) -/

/-- A message that stands for no command has no flow. -/
theorem Dev.msgFlow_unsampled (d : Dev) {m : Msg} (h : m.sampled = none) : d.msgFlow m = none := by
  simp only [Dev.msgFlow, h, Option.isSome_none, Bool.false_eq_true, if_false]

/-- A message that stands for no command is not held back. -/
theorem Dev.paceHeld_unsampled (d : Dev) {m : Msg} (h : m.sampled = none) : d.paceHeld m = none := by
  simp only [Dev.paceHeld, d.msgFlow_unsampled h]

/-- A packet of a message that stands for no command leaves without a stamp and charges no flow. -/
theorem Dev.sendPacket_unsampled (d : Dev) {m : Msg} (payload : Payload) (h : m.sampled = none) :
    (d.sendPacket m payload).paceStart m =
      d.emit (.packet ⟨m.dstNode, m.tc, m.attempt % 4, m.ordered, reqHeader d.node m m.nextPkt, payload⟩) := by
  simp only [Dev.sendPacket, Dev.stampPacket, Dev.paceStart, Dev.msgFlow_unsampled _ h, h]

/-- The next packet of a message leaves: the message is sent with its last packet, and otherwise goes on with the next one. -/
theorem Dev.pump_packet {d d1 d2 d3 d4 x : Dev} {num read : Nat} (n : Nat) {f : Found} {m m2 m3 : Msg}
    {pieces : List (Nat × Nat)} (hm : d.msg num = some m) (htable : m.tableDue = false ∨ m.table = none)
    (hev : d.evalAll f m.accesses [] = .ok pieces) (hage : m.id = none ∨ d.since m.fst < d.lmax)
    (h1 : forEach m.accesses (fun a (d : Dev) => d.useLeaves a) d = d1) (hpace : d1.paceHeld m = none)
    (hadmit : d1.admitMsg m = (some (d2, m2), x)) (hread : (if m2.accesses.isEmpty then (0, d2) else d2.fresh) = (read, d3))
    (h4 : (d3.sendPacket m2 (m2.payload (d3.fnOf m2.srcEp) read (zeroFill m2.here pieces))).paceStart m2 = d4)
    (h3 : m3 = { m2 with lastSend := d4.now, rtoFrom := d4.now }) :
    d.pump num f (n + 1) = if m2.isGet = true ∨ packetsOf m2.len ≤ m2.nextPkt + 1 then
        d4.setMsg { m3 with phase := .sent, nextPkt := packetsOf m2.len }
      else (d4.setMsg { m3 with phase := .sending, nextPkt := m2.nextPkt + 1 }).pump num f n := by
  have hnotable : (if m.tableDue = true then m.table else none) = none := by
    rcases htable with h | h
    · rw [h]; rfl
    · rw [h]; exact ite_self none
  have hyoung : ¬ (m.id.isSome = true ∧ d.lmax ≤ d.since m.fst) := by
    rcases hage with h | h
    · rw [h]; exact fun hc => absurd hc.1 Bool.false_ne_true
    · omega
  subst h3
  rw [Dev.pump]
  simp only [hm, hnotable, hev, if_neg hyoung, h1, hpace, hadmit, hread, h4]

/-- The whole of a message of one packet that needs no memory leaves at once. -/
theorem Dev.pump_single {d : Dev} (n : Nat) {m m' : Msg} (hm : d.msg m.num = some m) (hid : m.id = none) (htable : m.table = none)
    (hacc : m.accesses = []) (hs : m.sampled = none) (ho : m.ordered = false) (hpkt : m.nextPkt = 0)
    (hlen : packetsOf m.len ≤ 1) (hg : d.gate m = (true, d))
    (hm' : m' = { m with credits := m.wants, id := some d.tp.nextId, fst := d.now, prev := none }) :
    d.pump m.num {} (n + 1) = ({ d with
        tp := { d.tp with
          wins := Tbl.put none m.dstNode (some { d.winOf m.dstNode with held := (d.winOf m.dstNode).held + m.wants }) d.tp.wins,
          nextId := (d.tp.nextId + 1) % 2 ^ 32 },
        todo := d.todo ++ [.startCmds m.srcEp],
        out := .packet ⟨m.dstNode, m.tc, m.attempt % 4, false, reqHeader d.node m' 0,
          m'.payload (d.fnOf m.srcEp) 0 (zeroFill m.here [])⟩ :: d.out
        } : Dev).setMsg { m' with phase := .sent, nextPkt := packetsOf m.len, lastSend := d.now, rtoFrom := d.now } := by
  obtain ⟨x, hadmit⟩ := Dev.admitMsg_first hid ho hg
  rw [← hm'] at hadmit
  have hacc' : m'.accesses = [] := by rw [hm']; exact hacc
  have hs' : m'.sampled = none := by rw [hm']; exact hs
  have ho' : m'.ordered = false := by rw [hm']; exact ho
  have hpkt' : m'.nextPkt = 0 := by rw [hm']; exact hpkt
  have hlast : packetsOf m'.len ≤ m'.nextPkt + 1 := by rw [hpkt', hm']; exact hlen
  rw [Dev.pump_packet (d1 := d) (read := 0) (pieces := []) n hm (.inr htable) (by rw [hacc]; rfl) (.inl hid) (by rw [hacc]; rfl)
    (d.paceHeld_unsampled hs) hadmit (by rw [hacc']; rfl) (Dev.sendPacket_unsampled _ _ hs') rfl, if_pos (.inr hlast), ho', hpkt']
  subst hm'
  rfl

/-! ### Timeouts, back-off and the age limit (R138) -/

/-- What acts on the message of a MSG_ID acts on the one that is found. -/
theorem Dev.onMsg_named {d : Dev} {id : Nat} {m : Msg} (h : d.msgNamed id = some m) (f : Dev → Msg → Dev) :
    d.onMsg id f = f d m := by
  simp only [Dev.onMsg, h]

/-- A timeout with the retry budget spent fails the message. -/
theorem Dev.timeout_spent {d : Dev} {m : Msg} (ht : m.timed = true) (hr : d.rto ≤ d.since m.rtoFrom)
    (hb : d.retryMax ≤ m.attempt) : d.timeout m = d.unreachable m 1 := by
  have hdue : ¬ ((!m.timed) = true ∨ d.since m.rtoFrom < d.rto) := by rw [ht]; simpa using hr
  rw [Dev.timeout, if_neg hdue, if_pos hb]

/-- A timeout within the retry budget and the age reissues the message with the next ATTEMPT. -/
theorem Dev.timeout_reissues {d x : Dev} {m : Msg} (ht : m.timed = true) (hr : d.rto ≤ d.since m.rtoFrom)
    (hb : m.attempt < d.retryMax) (ha : d.msgAge m < d.lmax) (hplain : m.sampled = none → x = d)
    (hsampled : ∀ ep index lap k, m.sampled = some (ep, index, lap, k) → x = d.sampleRetry ep index lap) :
    d.timeout m = (x.raise evTpRetransmit m.srcEp).resend { m with attempt := m.attempt + 1 } := by
  have hdue : ¬ ((!m.timed) = true ∨ d.since m.rtoFrom < d.rto) := by rw [ht]; simpa using hr
  rw [Dev.timeout, if_neg hdue, if_neg (Nat.not_le.2 hb), if_neg (Nat.not_le.2 ha)]
  rcases hs : m.sampled with _ | ⟨ep, index, lap, k⟩
  · rw [hplain hs]
  · rw [hsampled ep index lap k hs]

/-- The end of a hint sends the whole message again. -/
theorem Dev.backoffEnd_resends {d : Dev} {m : Msg} {u r : Nat} (hp : m.phase = .backoff u r) (hu : since48 d.now u < 2 ^ 47)
    (ha : d.msgAge m < d.lmax) : d.backoffEnd m = d.resend m := by
  simp only [Dev.backoffEnd, hp, if_pos hu, if_neg (Nat.not_le.2 ha)]

/-- The hint of a transport message ends as its back-off does. -/
theorem Dev.backoffOver_named {d : Dev} {id : Nat} {m : Msg} (h : d.msgNamed id = some m) : d.backoffOver id = d.backoffEnd m := by
  simp only [Dev.backoffOver, h]

/-- A message in flight whose age has reached the limit fails, with the reason of a stall or of its last NACK. -/
theorem Dev.lifetime_over {d : Dev} {m : Msg} (hid : m.id.isSome = true) (ha : d.ageLimit ≤ d.msgAge m) :
    d.lifetime m = d.unreachable m (if m.phase = .stalled then 2 else m.lastNack.elim 2 (· + 2)) := by
  rw [Dev.lifetime, if_pos ⟨hid, ha⟩]
  cases m.lastNack <;> rfl

/-- Settles O24: first sends come to `Dev.pump` through the gate, one packet to `Dev.pump_packet`; a timeout, a hint and the age
limit to `Dev.resend` and `Dev.unreachable`. -/
theorem messagesAreSent : Obligations.MessagesAreSent := by
  refine ⟨?first, ?packet, ?timeout, ?hint, ?age⟩
  case first =>
    intro s d node m hd hnext ht hops hwin hcredit
    have hg := Dev.gate_nextFor hnext ht hops hwin hcredit
    have hsend : exec (.messageFirstSend node) s = .next (s.after (d.pump m.num {} pumpFuel)) :=
      runDev_next (f := fun d => d.firstSend node) hd (Dev.firstSend_gate hnext hg)
    refine ⟨hsend, fun hm hid htable hacc hs ho hpkt hlen m' hm' => ?_⟩
    rw [hsend, pumpFuel, Dev.pump_single 17 hm hid htable hacc hs ho hpkt hlen hg hm', State.begun_out hd]
  case packet =>
    intro d d1 d2 d3 d4 num n read f m m2 m3 pieces x hm htable hev hage h1 hpace hadmit hread h4 h3
    rw [Dev.pump_packet n hm htable hev hage h1 hpace hadmit hread h4 h3]
    exact ⟨fun hlast => if_pos hlast, fun hget hmore => if_neg (by rw [hget]; simpa using hmore)⟩
  case timeout =>
    intro s d e id m hd hm ht hr
    have hexec : exec (.retransmitTimeout id) s = .next (s.after (d.timeout m)) :=
      runDev_next (f := fun d => d.onMsg id (fun d m => d.timeout m)) hd (Dev.onMsg_named hm _)
    refine ⟨fun hb he => ?_, fun x hb ha hplain hsampled he => ?_⟩
    · rw [hexec, Dev.timeout_spent ht hr hb, Dev.unreachable_of 1 he]
    · rw [hexec, Dev.timeout_reissues ht hr hb ha hplain hsampled, he]
      rfl
  case hint =>
    intro s d id u r m hd hm hp hu ha
    refine runDev_next (f := fun d => d.backoffOver id) hd ?_
    rw [Dev.backoffOver_named hm, Dev.backoffEnd_resends hp hu ha]
    rfl
  case age =>
    intro s d e id m hd hm hid ha he
    refine runDev_next (f := fun d => d.onMsg id (fun d m => d.lifetime m)) hd ?_
    rw [Dev.onMsg_named hm, Dev.lifetime_over (by rw [hid]; rfl) ha, Dev.unreachable_of _ he]
    cases m.lastNack <;> rfl

end Sys2Proof.Machine

/-! SUPPORT. Command, event and control rings (R53 to R89, R513 to R515): ring counts, doorbells, endpoint control, control
entries and the timers of rings. -/

namespace Sys2Proof.Machine

/-! ### Ring positions (R54, R55) -/

/-- The other lap is another. -/
theorem otherLap_ne (l : Bool) : (!l) ≠ l := by cases l <;> decide

/-- On one lap the count is the distance of the indices. -/
theorem ringCount_sameLap (size i j : Nat) (l : Bool) : ringCount size ⟨i, l⟩ ⟨j, l⟩ = j - i := if_pos rfl

/-- A lap apart the count runs over the end of the ring. -/
theorem ringCount_lapApart (size i j : Nat) (l : Bool) : ringCount size ⟨i, l⟩ ⟨j, !l⟩ = size - i + j :=
  if_neg (otherLap_ne l).symm

/-- A position whose steps stay below the end keeps its lap. -/
theorem Pos.advance_within {size i k : Nat} (h : i + k < size) (l : Bool) : Pos.advance ⟨i, l⟩ size k = ⟨i + k, l⟩ := if_pos h

/-- A position that passes the end changes its lap. -/
theorem Pos.advance_around {size i k : Nat} (h : ¬ i + k < size) (l : Bool) : Pos.advance ⟨i, l⟩ size k = ⟨i + k - size, !l⟩ :=
  if_neg h

/-- Settles O7: two positions stand on one lap or a lap apart, and the one that moves stays on its lap or passes the end. -/
theorem ringCountsEntries : Obligations.RingCountsEntries := by
  refine ⟨?count, ?producer, ?consumer⟩
  case count =>
    rintro size ⟨i, l⟩ ⟨j, m⟩ hi hj
    dsimp only at hi hj ⊢
    by_cases hl : m = l
    · subst hl
      rw [ringCount_sameLap]
      exact ⟨fun _ _ => rfl, fun h => absurd rfl h, fun _ h => by omega, fun h => absurd rfl h⟩
    · obtain rfl := Bool.eq_not_of_ne hl
      rw [ringCount_lapApart]
      exact ⟨fun h => absurd h hl, fun _ => rfl, fun h => absurd h hl, fun _ h => by omega⟩
  case producer =>
    rintro size k ⟨i, l⟩ ⟨j, m⟩ hi hj hsame hapart hk
    dsimp only at hi hj hsame hapart
    by_cases hl : m = l
    · subst hl
      have hle := hsame rfl
      rw [ringCount_sameLap] at hk ⊢
      by_cases hw : j + k < size
      · rw [Pos.advance_within hw, ringCount_sameLap]
        exact ⟨by omega, hw, fun _ => Nat.le_add_right_of_le hle, fun h => absurd rfl h⟩
      · rw [Pos.advance_around hw, ringCount_lapApart]
        dsimp only
        exact ⟨by omega, by omega, fun h => absurd h (otherLap_ne m), fun _ => by omega⟩
    · obtain rfl := Bool.eq_not_of_ne hl
      have hle := hapart hl
      rw [ringCount_lapApart] at hk ⊢
      have hw : j + k < size := by omega
      rw [Pos.advance_within hw, ringCount_lapApart]
      dsimp only
      exact ⟨by omega, hw, fun h => absurd h hl, fun _ => by omega⟩
  case consumer =>
    rintro size k ⟨i, l⟩ ⟨j, m⟩ hi hj hsame hapart hk
    dsimp only at hi hj hsame hapart
    by_cases hl : m = l
    · subst hl
      have hle := hsame rfl
      rw [ringCount_sameLap] at hk ⊢
      rw [Pos.advance_within (by omega), ringCount_sameLap]
      omega
    · obtain rfl := Bool.eq_not_of_ne hl
      have hle := hapart hl
      rw [ringCount_lapApart] at hk ⊢
      by_cases hw : i + k < size
      · rw [Pos.advance_within hw, ringCount_lapApart]
        omega
      · rw [Pos.advance_around hw, ringCount_sameLap]
        omega

/-! ### Doorbells of endpoints (R57, R58, R76) -/

/-- A command doorbell that shows entries not before those already shown is recorded, and reads are issued. -/
theorem Dev.cmdDoor_good {d : Dev} {ep v n m : Nat} {c : EpCtx} {p : Pos} (hc : d.ep ep = some c) (hv : v < 2 ^ 17)
    (hp : p = ⟨field v 0 16, flag v 16⟩) (hi : p.index < c.cmd.size) (hn : ringDist c.cmd.size c.cmd.cons p = some n)
    (hm : ringDist c.cmd.size c.cmd.cons c.cmd.door = some m) (hle : m ≤ n) :
    d.cmdDoor ep v = ((d.setEp ep (some { c with cmd := { c.cmd with
      door := p, shownAt := if p = c.cmd.door then c.cmd.shownAt else c.cmd.shownAt ++ [(p, d.st.ns)] } })).touch ep).issue
        ep := by
  subst hp
  simp only [Dev.cmdDoor, hc, hn, hm]
  exact if_pos (by simpa [hle] using ⟨hv, hi⟩)

/-- A command doorbell with an index outside its ring stops the ring. -/
theorem Dev.cmdDoor_outside {d : Dev} {ep v : Nat} {c : EpCtx} (hc : d.ep ep = some c) (hi : c.cmd.size ≤ field v 0 16) :
    d.cmdDoor ep v = (d.stopRing ep 9 none true).raise evHqDoorbellBad ep := by
  simp only [Dev.cmdDoor, hc]
  exact if_neg (by simp [Nat.not_lt.2 hi])

/-- An event doorbell that consumes posted events only frees their slots, and what waits for a slot goes on. -/
theorem Dev.evtDoor_good {d : Dev} {ep v n m : Nat} {c : EpCtx} {p : Pos} (hc : d.ep ep = some c) (hv : v < 2 ^ 18)
    (hp : p = ⟨field v 0 16, flag v 16⟩) (hi : p.index < c.evt.size) (hn : ringDist c.evt.size c.evt.host p = some n)
    (hm : ringDist c.evt.size c.evt.host c.evt.prod = some m) (hle : n ≤ m) :
    d.evtDoor ep v = ((((d.setEp ep (some { c with evt := { c.evt with
      host := p, armed := c.evt.armed || flag v 17 } })).drainEvt ep).touch ep).issue ep).owe (.epIdle ep) := by
  subst hp
  simp only [Dev.evtDoor, hc, hn, hm]
  exact if_pos (by simpa [hle] using ⟨hv, hi⟩)

/-- An event doorbell with an index outside its ring stops the command ring. -/
theorem Dev.evtDoor_outside {d : Dev} {ep v : Nat} {c : EpCtx} (hc : d.ep ep = some c) (hi : c.evt.size ≤ field v 0 16) :
    d.evtDoor ep v = (d.stopRing ep 10 none true).raise evHqDoorbellBad ep := by
  simp only [Dev.evtDoor, hc]
  exact if_neg (by simp [Nat.not_lt.2 hi])

/-- Where no event waits, freed slots change nothing. -/
theorem Dev.drainEvt_setEp (d : Dev) (ep : Nat) {c : EpCtx} (hw : c.evt.waiting = []) :
    (d.setEp ep (some c)).drainEvt ep = d.setEp ep (some c) := by
  simp [Dev.drainEvt, hw]

/-- A host's write of EP_CMD_DB is a command doorbell of the endpoint. -/
theorem Dev.epWrite_cmdDb {d : Dev} {h ep v : Nat} {c : EpCtx} (hc : d.ep ep = some c) (hfn : c.fn = h)
    (hr : d.inRange h ep = true) (hdie : c.onDie = true) (hv : v < 2 ^ 64) : d.epWrite h ep rEpCmdDb v = d.cmdDoor ep v := by
  rw [Dev.epWrite_exists pageReg_epCmdDb (Dev.pageExists_of hc hfn hr) hv]
  exact Dev.doorbell_onDie (which := 0) hc hfn hr hdie

/-- A host's write of EP_EVT_DB is an event doorbell of the endpoint. -/
theorem Dev.epWrite_evtDb {d : Dev} {h ep v : Nat} {c : EpCtx} (hc : d.ep ep = some c) (hfn : c.fn = h)
    (hr : d.inRange h ep = true) (hdie : c.onDie = true) (hv : v < 2 ^ 64) : d.epWrite h ep rEpEvtDb v = d.evtDoor ep v := by
  rw [Dev.epWrite_exists pageReg_epEvtDb (Dev.pageExists_of hc hfn hr) hv]
  exact Dev.doorbell_onDie (which := 1) hc hfn hr hdie

/-- Settles O16: a write of a doorbell page comes to `Dev.cmdDoor` or `Dev.evtDoor`, good or outside the ring, or is ignored. -/
theorem doorbellsOfEndpoints : Obligations.DoorbellsOfEndpoints := by
  refine ⟨?command, ?commandBad, ?event, ?eventBad, ?ignored⟩
  case command =>
    intro s d h ep v n m c p hd hc hfn hr hdie hv hp hi hn hm hle
    refine runDev_next (f := fun d => d.epWrite h ep rEpCmdDb v) hd ?_
    rw [Dev.epWrite_cmdDb hc hfn hr hdie (Nat.lt_trans hv (by decide)), Dev.cmdDoor_good hc hv hp hi hn hm hle]
  case commandBad =>
    intro s d h ep v c hd hc hfn hr hdie hv hi
    refine runDev_next (f := fun d => d.epWrite h ep rEpCmdDb v) hd ?_
    rw [Dev.epWrite_cmdDb hc hfn hr hdie hv, Dev.cmdDoor_outside hc hi]
  case event =>
    intro s d h ep v n m c p hd hc hfn hr hdie hv hp hi hn hm hle
    have hdoor := (Dev.epWrite_evtDb hc hfn hr hdie (Nat.lt_trans hv (by decide))).trans (Dev.evtDoor_good hc hv hp hi hn hm hle)
    refine ⟨runDev_next (f := fun d => d.epWrite h ep rEpEvtDb v) hd hdoor, fun harm => ?_, fun hw => ?_⟩
    · rw [harm, Bool.or_true] at hdoor
      exact runDev_next (f := fun d => d.epWrite h ep rEpEvtDb v) hd hdoor
    · rw [Dev.drainEvt_setEp d ep (by exact hw)] at hdoor
      exact runDev_next (f := fun d => d.epWrite h ep rEpEvtDb v) hd hdoor
  case eventBad =>
    intro s d h ep v c hd hc hfn hr hdie hv hi
    refine runDev_next (f := fun d => d.epWrite h ep rEpEvtDb v) hd ?_
    rw [Dev.epWrite_evtDb hc hfn hr hdie hv, Dev.evtDoor_outside hc hi]
  case ignored =>
    intro s d h ep v hd hp
    exact ⟨runDev_next (f := fun d => d.epWrite h ep rEpCmdDb v) hd (Dev.epWrite_ignored pageReg_epCmdDb hp),
      runDev_next (f := fun d => d.epWrite h ep rEpEvtDb v) hd (Dev.epWrite_ignored pageReg_epEvtDb hp),
      runDev_next (f := fun d => d.epWrite h ep rEpCtl v) hd (Dev.epWrite_ignored pageReg_epCtl hp)⟩

/-! ### Endpoint control and function resets (R76, R81, R82) -/

/-- A host's write of EP_CTL acts on the endpoint. -/
theorem Dev.epWrite_ctl {d : Dev} {h ep v : Nat} (hp : d.pageExists h ep = true) (hv : v < 2 ^ 32) :
    d.epWrite h ep rEpCtl v = d.epCtlWrite ep v :=
  Dev.epWrite_exists pageReg_epCtl hp hv

/-- EP_CTL with ENABLE 1 enables a disabled endpoint. -/
theorem Dev.epCtlWrite_enables {d : Dev} {ep : Nat} {c : EpCtx} (hc : d.ep ep = some c) (he : c.enable = false) :
    d.epCtlWrite ep 1 = d.enableEp ep := by
  simp [Dev.epCtlWrite, hc, he, flag, Nat.testBit]

/-- EP_CTL with ENABLE 0 disables an enabled endpoint. -/
theorem Dev.epCtlWrite_disables {d : Dev} {ep : Nat} {c : EpCtx} (hc : d.ep ep = some c) (he : c.enable = true) :
    d.epCtlWrite ep 0 = d.disableEp ep := by
  simp [Dev.epCtlWrite, hc, he, flag, Nat.testBit]

/-- EP_CTL with ENABLE 1 and RESUME 1 resumes the ring of an enabled endpoint. -/
theorem Dev.epCtlWrite_resumes {d : Dev} {ep : Nat} {c : EpCtx} (hc : d.ep ep = some c) (he : c.enable = true) :
    d.epCtlWrite ep 3 = d.resumeRing ep := by
  simp [Dev.epCtlWrite, hc, he, flag, Nat.testBit]

/-- A ring that stands stopped, of an endpoint without a fence, goes on. -/
theorem Dev.resumeRing_stopped {d : Dev} {ep r : Nat} {c : EpCtx} (hc : d.ep ep = some c) (hs : c.cmd.stopped = some r)
    (hf : c.fenced = none) : d.resumeRing ep =
      (((d.setEp ep (some { c with cmd := { c.cmd with stopped := none } })).clearFence .ring ep).touch ep).refetch ep := by
  simp [Dev.resumeRing, hc, hs, hf]

/-- RESUME of a ring that is not stopped changes nothing. -/
theorem Dev.resumeRing_running {d : Dev} {ep : Nat} {c : EpCtx} (hc : d.ep ep = some c) (hs : c.cmd.stopped = none) :
    d.resumeRing ep = d := by
  simp [Dev.resumeRing, hc, hs]

/-- GO written by a host function's control page resets the function. -/
theorem Dev.fnWrite_reset (d : Dev) (h : Nat) : d.fnWrite h rFnReset 0 1 = d.resetFn h := by
  rw [Dev.fnWrite_does (i := 0) (r := rFnReset) pageReg_fnReset (by decide)]
  rfl

/-- GO written by a management core to HQ_FN_RESET resets the function it names. -/
theorem Dev.coreWrite_fnReset {d : Dev} {h : Nat} (hp : 9 ≤ d.bt.phase) (hh : h < 32) :
    d.coreWrite rHqFnReset 0 (h + 2 ^ 31) = (d.wrFld rHqFnReset 0 5 h).resetFn h := by
  have hfn : field (h + 2 ^ 31) 0 5 = h := by simp [field]; omega
  have hgo : flag (h + 2 ^ 31) 31 = true := by
    rw [flag, Nat.add_comm, Nat.testBit_two_pow_add_eq, Nat.testBit_lt_two_pow (by omega)]; rfl
  rw [Dev.coreWrite_does hp rHqFnReset (by decide) (by show h + 2 ^ 31 < 2 ^ 32; omega) (by decide) rfl]
  show d.fnResetWrite (h + 2 ^ 31) = _
  rw [Dev.fnResetWrite, hfn, hgo, if_pos rfl]

/-- Settles O17: each write of EP_CTL comes to one operation of the endpoint, and each way of a function reset to
`Dev.resetFn`. -/
theorem endpointControl : Obligations.EndpointControl := by
  refine ⟨?refetch, ?enable, ?disable, ?resume, ?running, ?reset, fun d ep => rfl⟩
  case refetch =>
    intro d ep c hc
    simp only [Dev.refetch, hc]
  case enable =>
    intro s d h ep c hd hc hp he
    refine runDev_next (f := fun d => d.epWrite h ep rEpCtl 1) hd ?_
    rw [Dev.epWrite_ctl hp (by decide), Dev.epCtlWrite_enables hc he]
    simp only [Dev.enableEp, hc]
  case disable =>
    intro s d h ep c hd hc hp he
    refine runDev_next (f := fun d => d.epWrite h ep rEpCtl 0) hd ?_
    rw [Dev.epWrite_ctl hp (by decide), Dev.epCtlWrite_disables hc he]
    simp only [Dev.disableEp, hc, he, if_true]
  case resume =>
    intro s d h ep r c hd hc hp he hs hf
    refine runDev_next (f := fun d => d.epWrite h ep rEpCtl 3) hd ?_
    rw [Dev.epWrite_ctl hp (by decide), Dev.epCtlWrite_resumes hc he, Dev.resumeRing_stopped hc hs hf]
  case running =>
    intro s d h ep c hd hc hp he hs
    refine runDev_next (f := fun d => d.epWrite h ep rEpCtl 3) hd ?_
    rw [Dev.epWrite_ctl hp (by decide), Dev.epCtlWrite_resumes hc he, Dev.resumeRing_running hc hs]
  case reset =>
    intro s d e x h hd hh he hx
    have hreset : d.resetFn h = x := by subst hx he; rfl
    refine ⟨hreset, ?_, ?_, fun hp => ?_⟩
    · exact runDev_next (f := fun d => d.functionReset .page h) hd ((Dev.fnWrite_reset d h).trans hreset)
    · exact runDev_next (f := fun d => d.functionReset .cxlIo h) hd hreset
    · exact runDev_next (f := fun d => d.functionReset .management h) hd (Dev.coreWrite_fnReset hp hh)

/-! ### Control doorbells (R58, R77, R80) -/

/-- A host's write of FN_CTRL_DB is a control doorbell. -/
theorem Dev.fnWrite_ctrlDb {d : Dev} {h v : Nat} (hv : v < 2 ^ 64) : d.fnWrite h rFnCtrlDb 0 v = d.ctrlDoor h v :=
  Dev.fnWrite_does (i := 0) (r := rFnCtrlDb) pageReg_fnCtrlDb hv

/-- A host's write of FN_CTRL_EVT_DB is a control event doorbell. -/
theorem Dev.fnWrite_ctrlEvtDb {d : Dev} {h v : Nat} (hv : v < 2 ^ 64) : d.fnWrite h rFnCtrlEvtDb 0 v = d.ctrlEvtDoor h v :=
  Dev.fnWrite_does (i := 0) (r := rFnCtrlEvtDb) pageReg_fnCtrlEvtDb hv

/-- A control doorbell that shows entries not before those already shown is recorded, and reads are issued. -/
theorem Dev.ctrlDoor_good {d : Dev} {h v n m : Nat} {f : FnCtx} {p : Pos} (hf : d.fn h = f) (hv : v < 2 ^ 17)
    (hp : p = ⟨field v 0 16, flag v 16⟩) (hi : p.index < f.cmd.size) (hn : ringDist f.cmd.size f.cmd.cons p = some n)
    (hm : ringDist f.cmd.size f.cmd.cons f.cmd.door = some m) (hle : m ≤ n) :
    d.ctrlDoor h v = (d.setFn h { f with cmd := { f.cmd with door := p } }).issueCtrl h := by
  subst hp
  simp only [Dev.ctrlDoor, hf, hn, hm]
  exact if_pos (by simpa [hle] using ⟨hv, hi⟩)

/-- A control event doorbell that consumes posted events only frees their slots. -/
theorem Dev.ctrlEvtDoor_good {d : Dev} {h v n m : Nat} {f : FnCtx} {p : Pos} (hf : d.fn h = f) (hv : v < 2 ^ 18)
    (hp : p = ⟨field v 0 16, flag v 16⟩) (hi : p.index < f.evt.size) (hn : ringDist f.evt.size f.evt.host p = some n)
    (hm : ringDist f.evt.size f.evt.host f.evt.prod = some m) (hle : n ≤ m) :
    d.ctrlEvtDoor h v =
      (d.setFn h { f with evt := { f.evt with host := p, armed := f.evt.armed || flag v 17 } }).issueCtrl h := by
  subst hp
  simp only [Dev.ctrlEvtDoor, hf, hn, hm]
  exact if_pos (by simpa [hle] using ⟨hv, hi⟩)

/-- A control doorbell with an index outside its ring fences a function that has no fence yet. -/
theorem Dev.ctrlDoor_outside {d : Dev} {h v : Nat} {f : FnCtx} (hf : d.fn h = f) (hi : f.cmd.size ≤ field v 0 16)
    (hfence : f.fenced = none) : d.ctrlDoor h v =
      ((d.latchHq 0 f.cmd.cons.index 9 h true).raise evHqCtrlMalformed h).fenceFn h 9 f.cmd.cons.index := by
  have hbad : d.ctrlDoor h v = d.ctrlMalformed h 9 f.cmd.cons.index := by
    simp only [Dev.ctrlDoor, hf]
    exact if_neg (by simp [Nat.not_lt.2 hi])
  rw [hbad, Dev.ctrlMalformed, Dev.fenceFnOnce, if_neg (by simp [Dev.fnFenced, hf, hfence])]

/-! ### Control entries (R78, R79, R513, R514) -/

/-- The context of a new endpoint, as CREATE_EP gives it (R78). -/
def createdCtx (h e : Nat) : EpCtx :=
  { fn := h, asTag := field e 32 16, tcMask := field e 208 8, irqEn := flag e 216, ctrPage := flag e 217, pin := flag e 218,
    enable := flag e 219, idleSeen := !(flag e 219), msix := field e 224 11,
    cmd := { base := entU64 e 8, log2 := field e 192 5 }, evt := { base := entU64 e 16, log2 := field e 200 5 } }

/-- CREATE_EP of an endpoint of the function's range that is not there, and need not be pinned beyond the limit. -/
theorem Dev.createEp_new {d : Dev} {h e : Nat} (hr : d.inRange h (ctrlEp e) = true) (hnone : d.ep (ctrlEp e) = none)
    (hpin : flag e 218 = false ∨ d.pinnedCtx < d.pinMax) : d.createEp h e =
      (0, ((d.setEp (ctrlEp e) (some (createdCtx h e))).touch (ctrlEp e)).evictCtx (ctrlEp e)) := by
  have hroom : ¬ (flag e 218 && decide (d.pinMax ≤ d.pinnedCtx)) = true := by
    rcases hpin with hpin | hpin <;> simp [hpin]
  simp only [Dev.createEp, hr, hnone, if_neg hroom]
  rfl

/-- DESTROY_EP of an endpoint of the function that is idle or fenced. -/
theorem Dev.destroyCmd_done {d : Dev} {h e : Nat} {c : EpCtx} (hc : d.ep (ctrlEp e) = some c) (hfn : c.fn = h)
    (hi : d.idle (ctrlEp e) = true ∨ c.fenced.isSome = true) : d.destroyCmd h e = (0, d.destroyEp (ctrlEp e)) := by
  have hends : (c.fenced.isSome || d.idle (ctrlEp e)) = true := by rcases hi with hi | hi <;> simp [hi]
  simp [Dev.destroyCmd, hc, hfn, hends, stOk]

/-- MODIFY_EP of an endpoint of the function that keeps its rings or is idle, and need not be pinned beyond the limit. -/
theorem Dev.modifyEp_done {d : Dev} {h e : Nat} {c : EpCtx} (hc : d.ep (ctrlEp e) = some c) (hfn : c.fn = h)
    (hq : c.withRings e = c ∨ d.idle (ctrlEp e) = true) (hpin : flag e 218 = false ∨ c.pin = true ∨ d.pinnedCtx < d.pinMax) :
    d.modifyEp h e = (0, d.setEp (ctrlEp e) (some { c.withRings e with
      tcMask := field e 208 8, irqEn := flag e 216, pin := flag e 218, msix := field e 224 11 })) := by
  have hfree : ¬ (c.wantsQ e && !(d.idle (ctrlEp e))) = true := by
    rcases hq with hq | hq <;> simp [EpCtx.wantsQ, hq]
  have hroom : ¬ (flag e 218 && !c.pin && decide (d.pinMax ≤ d.pinnedCtx)) = true := by
    rcases hpin with hpin | hpin | hpin <;> simp [hpin]
  simp only [Dev.modifyEp, hc, hfn, ne_eq, not_true_eq_false, if_false, if_neg hfree, if_neg hroom]
  rfl

/-- QUERY_EP of an endpoint of the function, whose copy is written. -/
theorem Dev.queryEp_done {d : Dev} {h e : Nat} {c : EpCtx} (hc : d.ep (ctrlEp e) = some c) (hfn : c.fn = h) :
    d.queryEp h e false = (0, d.writeMem h [(entU64 e 32, 64)] (d.queryBytes (ctrlEp e) c)) := by
  simp [Dev.queryEp, hc, hfn, stOk]

/-- Opcode 0x40 is CREATE_EP (R78). -/
theorem Dev.ctrlAct_create {d : Dev} {h e : Nat} (ce : Bool) (ho : entOpcode e = 0x40) :
    d.ctrlAct h e ce = d.createEp h e := by
  simp only [Dev.ctrlAct, ho]

/-- Opcode 0x41 is DESTROY_EP (R78). -/
theorem Dev.ctrlAct_destroy {d : Dev} {h e : Nat} (ce : Bool) (ho : entOpcode e = 0x41) :
    d.ctrlAct h e ce = d.destroyCmd h e := by
  simp only [Dev.ctrlAct, ho]

/-- Opcode 0x42 is MODIFY_EP (R78). -/
theorem Dev.ctrlAct_modify {d : Dev} {h e : Nat} (ce : Bool) (ho : entOpcode e = 0x42) :
    d.ctrlAct h e ce = d.modifyEp h e := by
  simp only [Dev.ctrlAct, ho]

/-- Opcode 0x43 is QUERY_EP (R78). -/
theorem Dev.ctrlAct_query {d : Dev} {h e : Nat} (ce : Bool) (ho : entOpcode e = 0x43) :
    d.ctrlAct h e ce = d.queryEp h e ce := by
  simp only [Dev.ctrlAct, ho]

/-- A good control entry is consumed, acts, posts CTRL_DONE with the status of its action, and more entries are read. -/
theorem Dev.ctrlArrive_good {d d1 d2 : Dev} {h e op st : Nat} {ce : Bool} {f : FnCtx} (hf : d.fn h = f)
    (hen : f.enable = true) (hfence : f.fenced = none) (hi : 0 < f.cmd.issued) (hs : f.cmd.stale = false)
    (hl : entLap e = f.cmd.cons.lap) (hr : ctrlReason e = none) (hd1 : d1 = d.setFn h { f with cmd := { f.cmd with
      cons := f.cmd.cons.advance f.cmd.size 1, issued := f.cmd.issued - 1, retries := 0 } })
    (ho : entOpcode e = op) (ha : d1.ctrlAct h e ce = (st, d2)) :
    d.ctrlArrive h e false ce = (d2.ctrlDone h f.cmd.cons.index op st).issueCtrl h := by
  have hread : ¬ (!f.enable || f.fenced.isSome || decide (f.cmd.issued = 0) || f.cmd.stale) = true := by
    simp [hen, hfence, hs, Nat.ne_of_gt hi]
  have hlap : ¬ (entLap e != f.cmd.cons.lap) = true := by simp [hl]
  simp only [Dev.ctrlArrive, Dev.ctrlEntry, hf, if_neg hread, if_neg hlap, hr, ← hd1, ha, ho]
  rfl

/-- Settles O18: a good doorbell comes to `Dev.ctrlDoor_good` or `Dev.ctrlEvtDoor_good`, a good entry to `Dev.ctrlEntry_good`
with the action of its opcode. -/
theorem controlRings : Obligations.ControlRings := by
  refine ⟨?door, ?evtDoor, ?outside, ?entry⟩
  case door =>
    intro s d h v n m f p hd hf hv hp hi hn hm hle
    refine runDev_next (f := fun d => d.fnWrite h rFnCtrlDb 0 v) hd ?_
    rw [Dev.fnWrite_ctrlDb (Nat.lt_trans hv (by decide)), Dev.ctrlDoor_good hf hv hp hi hn hm hle]
  case evtDoor =>
    intro s d h v n m f p hd hf hv hp hi hn hm hle
    refine runDev_next (f := fun d => d.fnWrite h rFnCtrlEvtDb 0 v) hd ?_
    rw [Dev.fnWrite_ctrlEvtDb (Nat.lt_trans hv (by decide)), Dev.ctrlEvtDoor_good hf hv hp hi hn hm hle]
  case outside =>
    intro s d h v f hd hf hv hi hfence
    refine runDev_next (f := fun d => d.fnWrite h rFnCtrlDb 0 v) hd ?_
    rw [Dev.fnWrite_ctrlDb hv, Dev.ctrlDoor_outside hf hi hfence]
  case entry =>
    intro s d d1 h e f hd hf hen hfence hi hs hl hr hd1
    have hrun {op st : Nat} {d2 : Dev} {ce : Bool} (ho : entOpcode e = op) (ha : d1.ctrlAct h e ce = (st, d2)) :
        runDev s (fun d => d.ctrlArrive h e false ce) =
          .next (s.after ((d2.ctrlDone h f.cmd.cons.index op st).issueCtrl h)) :=
      runDev_next hd (Dev.ctrlArrive_good hf hen hfence hi hs hl hr hd1 ho ha)
    refine ⟨fun ho => ⟨hrun ho (Dev.ctrlAct_create _ ho), fun hin hnone hpin c hc => ?create⟩,
      fun ho => ⟨hrun ho (Dev.ctrlAct_destroy _ ho), fun c hc hfn hends => ?destroy⟩,
      fun ho => ⟨hrun ho (Dev.ctrlAct_modify _ ho), fun c hc hfn hq hpin => ?modify⟩,
      fun ho ce => ⟨hrun ho (Dev.ctrlAct_query _ ho), fun c hc hfn => ?query⟩⟩
    case create =>
      subst hc
      exact hrun ho ((Dev.ctrlAct_create _ ho).trans (Dev.createEp_new hin hnone hpin))
    case destroy => exact hrun ho ((Dev.ctrlAct_destroy _ ho).trans (Dev.destroyCmd_done hc hfn hends))
    case modify => exact hrun ho ((Dev.ctrlAct_modify _ ho).trans (Dev.modifyEp_done hc hfn hq hpin))
    case query => exact hrun ho ((Dev.ctrlAct_query _ ho).trans (Dev.queryEp_done hc hfn))

/-! ### What ends a control entry with another status (R79) -/

/-- CREATE_EP of an endpoint outside the function's range. -/
theorem Dev.createEp_outside {d : Dev} {h e : Nat} (hr : d.inRange h (ctrlEp e) = false) : d.createEp h e = (0x30, d) := by
  simp [Dev.createEp, hr, stEpRange]

/-- CREATE_EP of an endpoint that is there. -/
theorem Dev.createEp_exists {d : Dev} {h e : Nat} {c : EpCtx} (hr : d.inRange h (ctrlEp e) = true)
    (hc : d.ep (ctrlEp e) = some c) : d.createEp h e = (0x31, d) := by
  simp [Dev.createEp, hr, hc, stExists]

/-- DESTROY_EP of an endpoint that is neither idle nor fenced. -/
theorem Dev.destroyCmd_busy {d : Dev} {h e : Nat} {c : EpCtx} (hc : d.ep (ctrlEp e) = some c) (hfn : c.fn = h)
    (hi : d.idle (ctrlEp e) = false) (hf : c.fenced = none) : d.destroyCmd h e = (0x34, d) := by
  simp [Dev.destroyCmd, hc, hfn, hi, hf, stEpBusy]

/-- MODIFY_EP of a ring of an endpoint that is not idle. -/
theorem Dev.modifyEp_refused {d : Dev} {h e : Nat} {c : EpCtx} (hc : d.ep (ctrlEp e) = some c) (hfn : c.fn = h)
    (hq : c.withRings e ≠ c) (hi : d.idle (ctrlEp e) = false) : d.modifyEp h e = (0x35, d) := by
  simp [Dev.modifyEp, hc, hfn, EpCtx.wantsQ, hq, hi, stApplyRefused]

/-- A control entry on an endpoint that is not there. -/
theorem Dev.ctrl_notFound {d : Dev} {h e : Nat} (hc : d.ep (ctrlEp e) = none) :
    d.destroyCmd h e = (0x33, d) ∧ d.modifyEp h e = (0x33, d) ∧ d.queryEp h e false = (0x33, d) := by
  simp [Dev.destroyCmd, Dev.modifyEp, Dev.queryEp, hc, stNotFound]

/-- A write of memory that no CXL device is bound to goes to the host. -/
theorem Dev.writeMem_host {d : Dev} {h pa n : Nat} (hb : d.boundAt h pa = none) (data : List Byte) :
    d.writeMem h [(pa, n)] data = { d with out := .hostBytes h [(pa, n)] data :: d.out } := by
  simp [Dev.writeMem, hb, Dev.emit]

/-! ### Timers and memory answers of rings (R56, R74, R84, R86) -/

/-- A stale entry of an endpoint's ring is read again, reported the first time. -/
theorem Dev.lapReread_ep {d : Dev} {ep : Nat} {c : EpCtx} (hep : ep < 0x10000) (hc : d.ep ep = some c) (hs : c.cmd.stale = true)
    (hout : d.out = []) : d.lapReread ep =
      ({ d.setEp ep (some { c with cmd := { c.cmd with stale := false, retries := c.cmd.retries + 1 } }) with
        out := [.hostRead c.fn (c.cmd.base + 64 * c.cmd.cons.index) 64] }).raiseIf (decide (c.cmd.retries = 0)) evHqLapReread
        ep := by
  simp only [Dev.lapReread, if_neg (Nat.not_le.2 hep), hc, hs, if_true, Dev.emit, Dev.setEp, hout]

/-- A context fetch ends: the context stands on die, held doorbells and the ring go on, and staged packets arrive. -/
theorem Dev.caskDone_fetched {d d1 d2 : Dev} {ep t : Nat} {c : EpCtx} {err : Bool} (hc : d.ep ep = some c)
    (hf : c.fetching = some t)
    (h1 : d1 =
      ((d.setEp ep (some { c with fetching := none, slow := false, heldDoors := [], onDie := true })).touch ep).evictCtx ep)
    (h2 : d2 = (forEach c.heldDoors (fun (x : Nat × Nat) (d : Dev) => if x.1 = 0 then d.cmdDoor ep x.2 else d.evtDoor ep x.2)
      (if err then d1.caskBus ep else d1)).issue ep) :
    d.caskDone ep err = forEach (d2.takeStaged ep).1 (fun (p : Packet) (d : Dev) => d.arriveFrom4 p) (d2.takeStaged ep).2 := by
  simp only [Dev.caskDone, hc, hf, h2, h1]

/-- A context fetch is slow: it is reported once, and the packets staged for it are refused. -/
theorem Dev.caskSlow_fetching {d d1 : Dev} {ep t : Nat} {c : EpCtx} (hc : d.ep ep = some c) (hf : c.fetching = some t)
    (hs : c.slow = false) (h1 : d1 = (d.setEp ep (some { c with slow := true })).raise evHqCaskSlow ep) :
    d.caskSlow ep =
      forEach (d1.takeStaged ep).1 (fun (p : Packet) (d : Dev) => (d.raise evTpStagingBusy ep).sendNack p.tc p.hdr nkStaging)
        (d1.takeStaged ep).2 := by
  simp only [Dev.caskSlow, hc, hf, hs, h1]
  rfl

/-- A queue that has waited 64 ticks stalls, and it is reported. -/
theorem Dev.mqStall_due {d : Dev} {q : Nat} (hn : (d.mq q).entries ≠ []) (hs : (d.mq q).stalled = false)
    (ht : 64 ≤ d.since (d.mq q).since) :
    d.mqStall q = (d.setMq q { d.mq q with stalled := true }).raise evHqMqStall 0 := by
  simp [Dev.mqStall, hn, hs, ht]

/-- A record in progress whose age has reached the limit completes INCOMPLETE, after what its reservation posts. -/
theorem Dev.incompleteRec_due {d e : Dev} {r : TgtRec} (hr : r.state = .inProgress ∨ r.state = .signalWait)
    (hage : d.ageLimit ≤ d.ageOf r.fst)
    (he : (if !r.rsv then d
      else if r.type = tySend ∨ r.type = tyRts then (d.recvBad r stIncomplete 0).raise evHqIncompletePosted r.dstEp
      else if r.type = tyLsGrant then d.unreserve r.dstEp
      else (d.postSignal r stIncomplete 0 0).raise evHqIncompletePosted r.dstEp) = e) :
    d.incompleteRec r = e.putRec { r with state := .completed stIncomplete 0, doneAt := e.now, rsv := false } := by
  subst he
  rcases hr with hr | hr <;> simp [Dev.incompleteRec, hr, Nat.not_lt.2 hage, Dev.completeRec]

/-- Settles O19: each action of a control entry, and each timer and memory answer, comes to the lemma of its case. -/
theorem controlActionsAndTimers : Obligations.ControlActionsAndTimers := by
  refine ⟨?create, fun d h e => Dev.createEp_outside, fun d h e c => Dev.createEp_exists,
    fun d h e c hc hfn hi => Dev.destroyCmd_done hc hfn (.inl hi), fun d h e c => Dev.destroyCmd_busy, ?modify,
    fun d h e c => Dev.modifyEp_refused, ?query, fun d h e => Dev.ctrl_notFound, ?reread, ?fetched, ?slow, ?maintenance,
    fun d q bad => rfl, fun d => rfl, ?stall, ?incomplete⟩
  case create =>
    intro d h e c hr hnone hpin hc
    rw [Dev.createEp_new hr hnone (.inl hpin), hc, createdCtx, hpin]
  case modify =>
    intro d h e c hc hfn hsame hpin
    have hroom : flag e 218 = false ∨ c.pin = true ∨ d.pinnedCtx < d.pinMax := by
      rw [hpin]
      cases c.pin
      · exact .inl rfl
      · exact .inr (.inl rfl)
    rw [Dev.modifyEp_done hc hfn (.inl hsame) hroom, hsame, hpin]
  case query =>
    intro d h e c hc hfn
    refine ⟨Dev.queryEp_done hc hfn, fun hb => ?_⟩
    rw [Dev.queryEp_done hc hfn, Dev.writeMem_host hb]
  case reread =>
    intro s d ep c hd hep hc hs
    exact runDev_next (f := fun d => d.lapReread ep) hd (Dev.lapReread_ep hep hc hs (State.begun_out hd))
  case fetched =>
    intro s d d1 d2 ep t c err hd hc hf h1 h2
    exact runDev_next (f := fun d => d.caskDone ep err) hd (Dev.caskDone_fetched hc hf h1 h2)
  case slow =>
    intro s d d1 ep t c hd hc hf hs h1
    exact runDev_next (f := fun d => d.caskSlow ep) hd (Dev.caskSlow_fetching hc hf hs h1)
  case maintenance =>
    intro s d l hd
    exact runDev_next (f := fun d => d.mqRun l) hd rfl
  case stall =>
    intro s d q hd hn hs ht
    exact runDev_next (f := fun d => d.mqStall q) hd (Dev.mqStall_due hn hs ht)
  case incomplete =>
    intro s d e node id fst r hd hrec hr hage hfree hsend hgrant hsignal
    refine runDev_next (f := fun d => d.onRec node id fst (fun d r => d.incompleteRec r)) hd ?_
    simp only [Dev.onRec, hrec]
    refine Dev.incompleteRec_due hr hage ?_
    rcases hv : r.rsv with _ | _
    · exact (hfree hv).symm
    by_cases ht : r.type = tySend ∨ r.type = tyRts
    · exact (if_pos ht).trans (hsend hv ht).symm
    rw [if_neg (by simp), if_neg ht]
    by_cases hg : r.type = tyLsGrant
    · exact (if_pos hg).trans (hgrant hv hg).symm
    · exact (if_neg hg).trans (hsignal hv (fun h => ht (.inl h)) (fun h => ht (.inr h)) hg).symm

end Sys2Proof.Machine

/-! SUPPORT. Command entries (R56 to R75, R118 to R120, R147, R148, R155, R172 to R176, R386 to R388, R512, R515): what a
command does when it starts, and how its entry is accepted. -/

namespace Sys2Proof.Machine

/-! ### Data commands (R118, R120, R155) -/

/-- A data command splits into at least one message. -/
theorem splitCount_pos (len : Nat) : 0 < splitCount len := by
  unfold splitCount
  split <;> omega

/-- PUT, GET and PUT_SIGNAL run and make their first message. -/
theorem Dev.startCmd_split {d : Dev} {c c' : Cmd}
    (ho : entOpcode c.entry = 0x01 ∨ entOpcode c.entry = 0x02 ∨ entOpcode c.entry = 0x05)
    (hm : c.made = 0) (hn : c.outcomes = []) (ha : d.tp.msgs.all (fun m => !(m.ofCmd c)) = true)
    (hc' : c' = { c with phase := .running, total := splitCount (entLen c.entry) }) :
    d.startCmd c = ((d.setCmd c').setCmd { c' with made := 1 }).addCmdMsg c' (c'.msg 0) := by
  have hstart : d.startCmd c = d.startMsgs c (splitCount (entLen c.entry)) := by
    rcases ho with ho | ho | ho <;> simp only [Dev.startCmd, ho, Dev.startSplit]
  rw [hstart, Dev.startMsgs_first _ (splitCount_pos _) hm hn ha, hc']

/-- ATOMIC and an eager SEND run and make their one message. -/
theorem Dev.startCmd_single {d : Dev} {c c' : Cmd}
    (ho : entOpcode c.entry = 0x04 ∨ entOpcode c.entry = 0x03 ∧ entLen c.entry ≤ 16384)
    (hm : c.made = 0) (hn : c.outcomes = []) (ha : d.tp.msgs.all (fun m => !(m.ofCmd c)) = true)
    (hc' : c' = { c with phase := .running, total := 1 }) :
    d.startCmd c = ((d.setCmd c').setCmd { c' with made := 1 }).addCmdMsg c' (c'.msg 0) := by
  have hstart : d.startCmd c = d.startMsgs c 1 := by
    rcases ho with ho | ⟨ho, hlen⟩
    · simp only [Dev.startCmd, ho, Dev.startAtomic]
    · simp only [Dev.startCmd, ho, Dev.startSend, if_pos hlen]
  rw [hstart, Dev.startMsgs_first 1 Nat.one_pos hm hn ha, hc']

/-- A SEND above 16,384 bytes starts as a rendezvous. -/
theorem Dev.startCmd_long {d : Dev} {c : Cmd} (ho : entOpcode c.entry = 0x03) (hlen : 16384 < entLen c.entry) :
    d.startCmd c = d.startRdv c := by
  simp only [Dev.startCmd, ho, Dev.startSend, if_neg (Nat.not_le.2 hlen)]

/-- A rendezvous whose buffer its key lets through takes an entry of the table and makes its RTS. -/
theorem Dev.startRdv_enters {d : Dev} {c : Cmd} (hi : entIndirect c.entry = false)
    (hk : ∃ l, d.evalAccess (rdvAccess c) {} = .ok l) (hr : d.rdvOpen < 65536) :
    d.startRdv c = (d.setCmd { c with phase := .rdvStarted }).addCmdMsg c (rtsMsg c) := by
  obtain ⟨l, hl⟩ := hk
  simp [Dev.startRdv, hi, Dev.rdvCheck, hl, Dev.rdvEnter, hr]

/-! ### Lock commands (R385, R386, R388) -/

/-- A lock command starts as one. -/
theorem Dev.startCmd_lock {d : Dev} {c : Cmd} (h8 : 8 ≤ entOpcode c.entry) (hb : entOpcode c.entry ≤ 0xB) :
    d.startCmd c = d.startLock c := by
  have ho : entOpcode c.entry = 8 ∨ entOpcode c.entry = 9 ∨ entOpcode c.entry = 0xA ∨ entOpcode c.entry = 0xB := by omega
  rcases ho with ho | ho | ho | ho <;> simp only [Dev.startCmd, ho]

/-- The device that runs the lock table of its pair, or of its own, serves the command and posts what the service says. -/
theorem Dev.startLock_served {d : Dev} {c : Cmd} (hl : d.lockLocal c.entry = true) (hf : d.mirrorFull = false)
    (hp : d.pairEn = false ∨ d.tw.primary = true) : d.startLock c =
      (d.lockServe (entLock c.entry) ⟨.host, d.fnOf c.ep, c.ep, false⟩ (entTc c.entry) (entLockOp c.entry)).2.2.cmdDone c
        (d.lockServe (entLock c.entry) ⟨.host, d.fnOf c.ep, c.ep, false⟩ (entTc c.entry) (entLockOp c.entry)).1
        (2 ^ 32 * bit (d.lockServe (entLock c.entry) ⟨.host, d.fnOf c.ep, c.ep, false⟩ (entTc c.entry)
          (entLockOp c.entry)).2.1) 0 0 := by
  have hown : ¬ (d.pairEn && !d.tw.primary) = true := by rcases hp with hp | hp <;> simp [hp]
  rw [Dev.startLock, if_pos hl, if_neg (by simp [hf]), if_neg hown]

/-- The standby of a pair forwards the command to the primary. -/
theorem Dev.startLock_forwarded {d : Dev} {c : Cmd} (hl : d.lockLocal c.entry = true) (hf : d.mirrorFull = false)
    (hp : d.pairEn = true) (ht : d.tw.primary = false) : d.startLock c = d.lockForward c := by
  rw [Dev.startLock, if_pos hl, if_neg (by simp [hf]), if_pos (by simp [hp, ht])]

/-- A lock of another node is asked for by an LS_REQ. -/
theorem Dev.startLock_sent {d : Dev} {c : Cmd} (hl : d.lockLocal c.entry = false) : d.startLock c =
    (d.setCmd { c with phase := .running }).addMsg
      { num := 0, owner := .lockReq c.ep c.index c.lap, type := tyLsReq, srcEp := c.ep, dstNode := entNode c.entry, dstEp := 0,
        tc := entTc c.entry, len := 16, addr := 0, key := 0, inline_ := lockReqBytes c.entry } := by
  rw [Dev.startLock, if_neg (by simp [hl])]

/-! ### Matching commands (R147, R148) -/

/-- POST_RECV where no unexpected message waits and no quota is used up inserts its receive. -/
theorem Dev.postRecv_inserted {d y : Dev} {c : Cmd} {r : Posted} (hr : r = postedOf c.ep (d.mxEp c.ep).seq c.entry)
    (hy : d.setMxEp c.ep { d.mxEp c.ep with seq := ((d.mxEp c.ep).seq + 1) % 2 ^ 64 } = y) (hu : d.mx.unexp = [])
    (hscan : y.longScan 0 0 c.ep = y)
    (hq : y.fld rMxFnQuota 0 21 (y.fnOf c.ep) = 0 ∨ y.fnPosted (y.fnOf c.ep) < y.fld rMxFnQuota 0 21 (y.fnOf c.ep))
    (hroom : y.mx.posted.length < 1048576) :
    d.postRecv c = ({ y with mx := { y.mx with posted := y.mx.posted ++ [r] } }).cmdDone c 0 0 0 0 := by
  have hnone : y.mx.unexp = [] := by rw [← hy]; exact hu
  have hfree : ¬ ((decide (y.fld rMxFnQuota 0 21 (y.fnOf c.ep) ≠ 0)
      && decide (y.fld rMxFnQuota 0 21 (y.fnOf c.ep) ≤ y.fnPosted (y.fnOf c.ep)))
      || decide (1048576 ≤ y.mx.posted.length)) = true := by
    simp only [Bool.or_eq_true, Bool.and_eq_true, decide_eq_true_eq]
    omega
  simp only [Dev.postRecv, hy, hnone, List.filter_nil, List.length_nil, scanned, hscan, firstThat, if_neg hfree, ← hr]
  rfl

/-- CANCEL_RECV of a posted receive removes it. -/
theorem Dev.cancelRecv_hit {d : Dev} {c : Cmd} {p : Posted}
    (hp : firstThat d.mx.posted (fun p => p.ep == c.ep && p.recvId == field c.entry 352 32) = some p) :
    d.cancelRecv c = (d.unpost p).cmdDone c 0 0 0 0 := by
  simp only [Dev.cancelRecv, hp]
  rfl

/-- CANCEL_RECV of a receive that is not posted is reported. -/
theorem Dev.cancelRecv_miss {d : Dev} {c : Cmd}
    (hp : firstThat d.mx.posted (fun p => p.ep == c.ep && p.recvId == field c.entry 352 32) = none) :
    d.cancelRecv c = (d.raise evMxCancelMiss c.ep).cmdDone c stCancelMiss 0 0 0 := by
  simp only [Dev.cancelRecv, hp]

/-- The lengths that SET_UBUF accepts are known by their exponent. -/
theorem ubufLog2_pow {n : Nat} (h16 : 16 ≤ n) (h30 : n ≤ 30) : ubufLog2 (2 ^ n) = some n := by
  have hpow : ∀ n < 31, 16 ≤ n → ubufLog2 (2 ^ n) = some n := by decide
  exact hpow n (by omega) h16

/-- SET_UBUF with LENGTH 0 removes an area that holds nothing. -/
theorem Dev.setUbuf_removed {d : Dev} {c : Cmd} (hlen : entLen c.entry = 0) (hal : entLocal c.entry % 64 = 0)
    (hfree : (d.mxEp c.ep).alloc = []) :
    d.setUbuf c = (d.setMxEp c.ep { d.mxEp c.ep with area := none, next := 0 }).cmdDone c 0 0 0 0 := by
  simp only [Dev.setUbuf, hlen, hal, hfree]
  rfl

/-- SET_UBUF with a length it accepts sets the area of an endpoint whose area holds nothing. -/
theorem Dev.setUbuf_set {d : Dev} {c : Cmd} {n : Nat} (hlen : entLen c.entry = 2 ^ n) (h16 : 16 ≤ n) (h30 : n ≤ 30)
    (hal : entLocal c.entry % 64 = 0) (hfree : (d.mxEp c.ep).alloc = []) :
    d.setUbuf c = (d.setMxEp c.ep { d.mxEp c.ep with
      area := some (entLocal c.entry, n, entLocalKey c.entry), next := 0 }).cmdDone c 0 0 0 0 := by
  simp only [Dev.setUbuf, hlen, ubufLog2_pow h16 h30, hal, hfree]
  simp [stOk]

/-- SET_UBUF of an area that is not aligned ends with UBUF_FORM. -/
theorem Dev.setUbuf_unaligned {d : Dev} {c : Cmd} (hal : entLocal c.entry % 64 ≠ 0) :
    d.setUbuf c = d.cmdDone c stUbufForm 0 0 0 := by
  simp only [Dev.setUbuf]
  exact if_pos (by simp [hal])

/-! ### Collective commands (R42, R172, R175, R176) -/

/-- A collective command that R175 refuses ends at once with the status of its refusal. -/
theorem Dev.collStart_refused {d : Dev} {c : Cmd} {r : Nat} (act : Dev → Cmd → Dev) (hr : d.collRefused c.ep c.entry = some r) :
    d.collStart c act = (d.raiseIf (decide (r = stCollForm)) evRlCollForm c.ep).cmdDone c r 0 0 0 := by
  simp only [Dev.collStart, hr]

/-- A collective command that R175 lets through acts, where time is good or it does not need the fabric. -/
theorem Dev.collStart_acts {d : Dev} {c : Cmd} (act : Dev → Cmd → Dev)
    (ht : d.timeOk = true ∨ d.collRemote (collGroup c.entry) = false) (hr : d.collRefused c.ep c.entry = none) :
    d.collStart c act = act (d.setCmd { c with phase := .running }) { c with phase := .running } := by
  have hgo : ¬ (!d.timeOk && d.collRemote (collGroup c.entry)) = true := by rcases ht with ht | ht <;> simp [ht]
  simp only [Dev.collStart, hr, if_neg hgo]

/-- ALLREDUCE, REDUCE and BARRIER start as one. -/
theorem Dev.startCmd_coll {d : Dev} {c : Cmd} (h8 : 0x18 ≤ entOpcode c.entry) (ha : entOpcode c.entry ≤ 0x1A) :
    d.startCmd c = d.startColl c := by
  have ho : entOpcode c.entry = 0x18 ∨ entOpcode c.entry = 0x19 ∨ entOpcode c.entry = 0x1A := by omega
  rcases ho with ho | ho | ho <;> simp only [Dev.startCmd, ho]

/-- A member's command takes the number of its next step on the group and joins that step. -/
theorem Dev.startColl_joins {d y : Dev} {c : Cmd} {i k : Nat} (ht : d.timeOk = true ∨ d.collRemote (collGroup c.entry) = false)
    (hr : d.collRefused c.ep c.entry = none) (hy : d.setCmd { c with phase := .running } = y)
    (hi : y.rlMemberIndex (collGroup c.entry) c.ep = some i) (hk : k = Tbl.get 0 (y.rlGroup (collGroup c.entry)).next i) :
    d.startColl c = (y.setRlGroup (collGroup c.entry) { y.rlGroup (collGroup c.entry) with
      next := Tbl.put 0 i ((k + 1) % 2 ^ 32) (y.rlGroup (collGroup c.entry)).next }).rlJoin { c with phase := .running }
        ⟨i, c.ep, c.index, c.lap⟩ k false := by
  rw [Dev.startColl, Dev.collStart_acts _ ht hr, hy]
  simp only [hi, ← hk]

/-- COLL_ABORT lets its group abort for the host. -/
theorem Dev.startCollAbort_acts {d y : Dev} {c : Cmd} (ht : d.timeOk = true ∨ d.collRemote (collGroup c.entry) = false)
    (hr : d.collRefused c.ep c.entry = none) (hy : d.setCmd { c with phase := .running } = y) :
    d.startCollAbort c = y.rlCause (collGroup c.entry) raHost y.node 0 false none := by
  rw [Dev.startCollAbort, Dev.collStart_acts _ ht hr, hy]

/-- Settles O21: each opcode starts as its kind of command does. -/
theorem commandsStart : Obligations.CommandsStart := by
  intro d c c' hm hn ha
  refine ⟨fun ho => ?nop, fun ho hc' => Dev.startCmd_split ho hm hn ha hc', fun ho hc' => Dev.startCmd_single ho hm hn ha hc',
    fun ho hlen hi hk hr => ?send, fun ho p hp => ?cancel, fun ho hlen hal hfree => ?ubuf, fun ho hall => ?cancelAll,
    fun h8 hb hl hf hp => ?lock, fun ho hr ht => ?abort, fun h8 ha ht hr i hi => ?coll⟩
  case nop => simp only [Dev.startCmd, ho, Dev.startNop, stOk]
  case send => rw [Dev.startCmd_long ho hlen, Dev.startRdv_enters hi hk hr]
  case cancel => simp only [Dev.startCmd, ho, Dev.cancelRecv_hit hp]
  case ubuf => simp only [Dev.startCmd, ho, Dev.setUbuf_removed hlen hal hfree]
  case cancelAll => simp only [Dev.startCmd, ho, Dev.cancelAll, hall, Bool.true_or, Bool.and_true, stOk]
  case lock => rw [Dev.startCmd_lock h8 hb, Dev.startLock_served hl hf (.inl hp)]
  case abort => simp only [Dev.startCmd, ho, Dev.startCollAbort_acts (.inl ht) hr rfl]
  case coll => exact (Dev.startCmd_coll h8 ha).trans (Dev.startColl_joins (.inl ht) hr rfl hi rfl)

/-! ### The entry of a command (R56, R64, R71, R75, R515) -/

/-- Choosing what is sampled leaves the transport unit as it is. -/
theorem Dev.sampleFetch_tp (d : Dev) (c : SampleRef) : (d.sampleFetch c).tp = d.tp := by
  simp only [Dev.sampleFetch]
  split
  · rfl
  split
  · rfl
  split <;> rfl

/-- The ring `c` of an endpoint is fetched from: the entry that comes next is judged (R75, R80, R82). -/
def Dev.fetches (d : Dev) (c : EpCtx) : Prop :=
  0 < c.cmd.issued ∧ c.cmd.stale = false ∧ c.cmd.stopped = none ∧ c.enable = true ∧ c.fenced = none ∧ d.fnFenced c.fn = false

/-- A ring that is fetched from ignores no entry. -/
theorem Dev.fetches_judges {d : Dev} {c : EpCtx} (hf : d.fetches c) :
    ¬ (decide (c.cmd.issued = 0) || c.cmd.stale || c.cmd.stopped.isSome || !c.enable || c.fenced.isSome
      || d.fnFenced c.fn) = true := by
  obtain ⟨hi, hs, hstop, hen, hfence, hfn⟩ := hf
  simp [Nat.ne_of_gt hi, hs, hstop, hen, hfence, hfn]

/-- A bus error on the read of an entry stops the ring with reason 11. -/
theorem Dev.acceptEntry_bus {d : Dev} {ep e : Nat} {c : EpCtx} (frags : List Nat) (data : List Byte) (hc : d.ep ep = some c)
    (hf : d.fetches c) :
    d.acceptEntry ep e frags data true = (d.stopRing ep 11 (some c.cmd.cons.index) true).raise evHqRingBus ep := by
  simp only [Dev.acceptEntry, hc, if_neg (Dev.fetches_judges hf)]
  rfl

/-- An entry with the lap bit of another lap is stale, to be read again. -/
theorem Dev.acceptEntry_stale {d : Dev} {ep e : Nat} {c : EpCtx} (frags : List Nat) (data : List Byte) (hc : d.ep ep = some c)
    (hf : d.fetches c) (hl : entLap e ≠ c.cmd.cons.lap) (hr : c.cmd.retries < d.fld rHqCtl 0 8) :
    d.acceptEntry ep e frags data false = d.setEp ep (some { c with cmd := { c.cmd with stale := true } }) := by
  simp only [Dev.acceptEntry, hc, if_neg (Dev.fetches_judges hf), if_pos (bne_iff_ne.2 hl), if_neg (Nat.not_le.2 hr)]
  rfl

/-- An entry that LAP_RETRY reads have found stale stops the ring with reason 8. -/
theorem Dev.acceptEntry_lapStale {d : Dev} {ep e : Nat} {c : EpCtx} (frags : List Nat) (data : List Byte)
    (hc : d.ep ep = some c) (hf : d.fetches c) (hl : entLap e ≠ c.cmd.cons.lap) (hr : d.fld rHqCtl 0 8 ≤ c.cmd.retries) :
    d.acceptEntry ep e frags data false = (d.stopRing ep 8 (some c.cmd.cons.index) true).raise evHqCmdMalformed ep := by
  simp only [Dev.acceptEntry, hc, if_neg (Dev.fetches_judges hf), if_pos (bne_iff_ne.2 hl), if_pos hr]
  rfl

/-- A malformed entry stops the ring with its reason. -/
theorem Dev.acceptEntry_malformed {d : Dev} {ep e r : Nat} {c : EpCtx} (frags : List Nat) (data : List Byte)
    (hc : d.ep ep = some c) (hf : d.fetches c) (hl : entLap e = c.cmd.cons.lap) (hr : entryReason e c.tcMask (d.collTc ep e) = some r) :
    d.acceptEntry ep e frags data false = (d.stopRing ep r (some c.cmd.cons.index) true).raise evHqCmdMalformed ep := by
  have hlap : ¬ (entLap e != c.cmd.cons.lap) = true := by simp [hl]
  simp only [Dev.acceptEntry, hc, if_neg (Dev.fetches_judges hf), if_neg hlap, hr]
  rfl

/-- A good entry is admitted. -/
theorem Dev.acceptEntry_good {d : Dev} {ep e : Nat} {c : EpCtx} (frags : List Nat) (data : List Byte) (hc : d.ep ep = some c)
    (hf : d.fetches c) (hl : entLap e = c.cmd.cons.lap) (hr : entryReason e c.tcMask (d.collTc ep e) = none) :
    d.acceptEntry ep e frags data false = d.admitEntry ep c e frags data := by
  have hlap : ¬ (entLap e != c.cmd.cons.lap) = true := by simp [hl]
  simp only [Dev.acceptEntry, hc, if_neg (Dev.fetches_judges hf), if_neg hlap, hr]
  rfl

/-- A search in which nothing passes finds nothing. -/
theorem firstThat_eq_none {β : Type} {p : β → Bool} : ∀ {l : List β}, (∀ x ∈ l, p x = false) → firstThat l p = none
  | [], _ => rfl
  | a :: l, h => by
    rw [firstThat, h a List.mem_cons_self, if_neg Bool.false_ne_true]
    exact firstThat_eq_none fun x hx => h x (List.mem_cons_of_mem a hx)

/-- The commands of a ring whose only open command is the one just fetched. -/
theorem Dev.openCmds_fetched {d x : Dev} {cmd : Cmd} (hx : x.tp.cmds = d.tp.cmds ++ [cmd]) (ho : d.openCmds cmd.ep = []) :
    x.openCmds cmd.ep = [cmd] ∧ x.findCmd cmd.ep cmd.index cmd.lap = some cmd := by
  have hother : ∀ c ∈ d.tp.cmds, ¬ (c.ep == cmd.ep) = true := List.filter_eq_nil_iff.1 ho
  refine ⟨?_, ?_⟩
  · simp [Dev.openCmds, hx, List.filter_append, List.filter_eq_nil_iff.2 hother]
  · rw [Dev.findCmd, hx]
    exact firstThat_append_one (by simp) (firstThat_eq_none fun c hc => by simp [hother c hc])

/-- The only open command of a ring starts, if it is held. -/
theorem Dev.startNext_only {x : Dev} {cmd : Cmd} (ho : x.openCmds cmd.ep = [cmd])
    (hf : x.findCmd cmd.ep cmd.index cmd.lap = some cmd) (hp : cmd.phase = .held) :
    x.startNext cmd.ep = (x.startCmd cmd).owe (.startCmds cmd.ep) := by
  simp [Dev.startNext, ho, forEach, hf, hp, nextStart, mayStart]

/-- A good entry is consumed, its command joins those of the endpoint, and the ring is looked at for commands that may start. -/
theorem Dev.acceptEntry_admits {d x : Dev} {ep e : Nat} {frags : List Nat} {data : List Byte} {c : EpCtx} {cmd : Cmd}
    (hc : d.ep ep = some c) (hf : d.fetches c) (hl : entLap e = c.cmd.cons.lap)
    (hr : entryReason e c.tcMask (d.collTc ep e) = none)
    (hcmd : cmd = {
      ep := ep, index := c.cmd.cons.index, lap := c.cmd.cons.lap, entry := e, frags := frags, fetched := d.st.boundaries,
      data := data })
    (hx : ({ (d.setEp ep (some { c with cmd := { c.cmd with
          cons := c.cmd.cons.advance c.cmd.size 1, issued := c.cmd.issued - 1, retries := 0,
          shownAt := c.cmd.shownAt.filter (fun s => s.1 ≠ c.cmd.cons.advance c.cmd.size 1) } })).sampleFetch
        { ep := ep, index := c.cmd.cons.index, lap := c.cmd.cons.lap, desc := e, ringAddr := c.cmd.base + 64 * c.cmd.cons.index,
          fn := c.fn, t0 := (firstThat c.cmd.shownAt (fun s => s.1 ≠ c.cmd.cons)).elim d.st.ns (fun s => s.2),
          fetched := d.st.ns }
      with tp := { d.tp with cmds := d.tp.cmds ++ [cmd] } } : Dev) = x) :
    d.acceptEntry ep e frags data false = x.owe (.startCmds ep) := by
  rw [Dev.acceptEntry_good frags data hc hf hl hr, ← hx, hcmd]
  simp only [Dev.admitEntry, Dev.sampleFetch_tp]
  rfl

/-- Settles O20: a good entry comes to `Dev.acceptEntry_admits` and its command, alone in its ring, starts as its opcode says;
any other is judged by `Dev.acceptEntry_bus`, by its lap bit, or by its form. -/
theorem entriesAreChecked : Obligations.EntriesAreChecked := by
  refine ⟨?accepted, ?rejected⟩
  case rejected =>
    intro s d ep e frags c hd hc hi hs hstop hen hfence hfn
    have hf : d.fetches c := ⟨hi, hs, hstop, hen, hfence, hfn⟩
    have hrun {err : Bool} {E : Dev} (h : d.acceptEntry ep e frags [] err = E) :
        exec (.put ep e frags err) s = .next (s.after E) :=
      runDev_next (f := fun d => d.acceptEntry ep e frags [] err) hd h
    refine ⟨hrun (Dev.acceptEntry_bus frags [] hc hf), fun hl hr => hrun (Dev.acceptEntry_stale frags [] hc hf hl hr),
      fun hl hr => hrun (Dev.acceptEntry_lapStale frags [] hc hf hl hr),
      fun r hl hr => hrun (Dev.acceptEntry_malformed frags [] hc hf hl hr)⟩
  case accepted =>
    intro s d x ep e frags data c cmd alone hd hc hi hs hstop hen hfence hfn hl hr hcmd hx halone
    have hf : d.fetches c := ⟨hi, hs, hstop, hen, hfence, hfn⟩
    have hcmds : x.tp.cmds = d.tp.cmds ++ [cmd] := by rw [← hx]
    have hmsgs : x.tp.msgs = d.tp.msgs := by rw [← hx]
    have hrun (taken : List Byte) (ht : (if 0x18 ≤ entOpcode e then data else []) = taken) :
        runDev s (fun d => d.acceptEntry ep e frags taken false) = .next (s.after (x.owe (.startCmds ep))) :=
      runDev_next hd (Dev.acceptEntry_admits hc hf hl hr (by rw [hcmd, ht]) hx)
    have hplain (h : entOpcode e < 0x18) := hrun [] (if_neg (Nat.not_le.2 h))
    have hcoll (h : 0x18 ≤ entOpcode e) := hrun data (if_pos h)
    obtain ⟨hentry, hep, hphase, hmade, houts⟩ :
        cmd.entry = e ∧ cmd.ep = ep ∧ cmd.phase = .held ∧ cmd.made = 0 ∧ cmd.outcomes = [] := by
      rw [hcmd]; exact ⟨rfl, rfl, rfl, rfl, rfl⟩
    clear hcmd hx hc hr hrun
    subst hentry hep
    have hnext (h : alone) : x.startNext cmd.ep = (x.startCmd cmd).owe (.startCmds cmd.ep) := by
      obtain ⟨hopen, hfind⟩ := Dev.openCmds_fetched hcmds (halone.1 h).1
      exact Dev.startNext_only hopen hfind hphase
    have hfree (h : alone) : x.tp.msgs.all (fun m => !(m.ofCmd cmd)) = true := by rw [hmsgs]; exact (halone.1 h).2
    refine ⟨fun ho => ⟨hplain (by omega), fun h => ⟨hnext h, ?nop⟩⟩,
      fun ho => ⟨hplain (by omega), fun h => ⟨hnext h, fun c' hc' => ?put⟩⟩,
      fun ho => ⟨hplain (by omega), fun h => ⟨hnext h, fun c' hc' => ?get⟩⟩,
      fun ho => ⟨hplain (by omega), fun h => ⟨hnext h, fun hlen c' hc' => ?eager, fun hlen hi => ?indirect,
        fun hlen hi hk hr => ?rdv⟩⟩,
      fun ho => ⟨hplain (by omega), fun h => ⟨hnext h, fun c' hc' => ?atomic⟩⟩,
      fun ho => ⟨hplain (by omega), fun h => ⟨hnext h, fun c' hc' => ?putSignal⟩⟩,
      fun ho => ⟨hplain (by omega), fun h => ⟨hnext h, ?acquire⟩⟩,
      fun ho => ⟨hplain (by omega), fun h => ⟨hnext h, ?release⟩⟩,
      fun ho => ⟨hplain (by omega), fun h => ⟨hnext h, ?renew⟩⟩,
      fun ho => ⟨hplain (by omega), fun h => ⟨hnext h, ?cancel⟩⟩,
      fun ho => ⟨hplain (by omega), fun h => ⟨hnext h, fun r y hr hy hu hscan hq hroom => ?post⟩⟩,
      fun ho => ⟨hplain (by omega), fun h => ⟨hnext h, fun p hp => ?hit, fun hp => ?miss⟩⟩,
      fun ho => ⟨hplain (by omega), fun h => ⟨hnext h, fun hlen hal hempty => ?removed, fun n hlen h16 h30 hal hempty => ?set,
        fun hal => ?unaligned⟩⟩,
      fun ho => ⟨hplain (by omega), fun h => ⟨hnext h, ?cancelAll⟩⟩,
      fun ho => ⟨hcoll (by omega), fun h => ⟨hnext h, ?allreduce⟩⟩,
      fun ho => ⟨hcoll (by omega), fun h => ⟨hnext h, ?reduce⟩⟩,
      fun ho => ⟨hcoll (by omega), fun h => ⟨hnext h, ?barrier⟩⟩,
      fun ho => ⟨hcoll (by omega), fun h => ⟨hnext h, fun y ht hr hy => ?abort⟩⟩⟩
    case nop => simp only [Dev.startCmd, ho, Dev.startNop, stOk]
    case put => exact Dev.startCmd_split (.inl ho) hmade houts (hfree h) hc'
    case get => exact Dev.startCmd_split (.inr (.inl ho)) hmade houts (hfree h) hc'
    case eager => exact Dev.startCmd_single (.inr ⟨ho, hlen⟩) hmade houts (hfree h) hc'
    case indirect => rw [Dev.startCmd_long ho hlen, Dev.startRdv, if_pos hi]
    case rdv => exact (Dev.startCmd_long ho hlen).trans (Dev.startRdv_enters hi hk hr)
    case atomic => exact Dev.startCmd_single (.inl ho) hmade houts (hfree h) hc'
    case putSignal => exact Dev.startCmd_split (.inr (.inr ho)) hmade houts (hfree h) hc'
    case acquire | release | renew | cancel =>
      rw [Dev.startCmd_lock (by omega) (by omega)]
      exact ⟨Dev.startLock_served, Dev.startLock_forwarded, Dev.startLock_sent⟩
    case post => simp only [Dev.startCmd, ho, Dev.postRecv_inserted hr hy hu hscan hq hroom]
    case hit => simp only [Dev.startCmd, ho, Dev.cancelRecv_hit hp]
    case miss => simp only [Dev.startCmd, ho, Dev.cancelRecv_miss hp]
    case removed => simp only [Dev.startCmd, ho, Dev.setUbuf_removed hlen hal hempty]
    case set => simp only [Dev.startCmd, ho, Dev.setUbuf_set hlen h16 h30 hal hempty]
    case unaligned => simp only [Dev.startCmd, ho, Dev.setUbuf_unaligned hal]
    case cancelAll => simp only [Dev.startCmd, ho, Dev.cancelAll, stOk]
    case allreduce | reduce | barrier =>
      rw [Dev.startCmd_coll (by omega) (by omega)]
      exact ⟨fun y i k => Dev.startColl_joins, fun r => Dev.collStart_refused _⟩
    case abort => simp only [Dev.startCmd, ho, Dev.startCollAbort_acts ht hr hy]

end Sys2Proof.Machine

/-! SUPPORT. Address translation (R91 to R112): the reads of walks, the ageing sweep, and page requests. -/

namespace Sys2Proof.Machine

/-! ### Reads of walks (R91 to R102) -/

/-- What an access has found when a read of its walk returns. -/
def Walk.found (w : Walk) : Found := ⟨w.leaves, w.desc, w.keyRaws, w.tables⟩

/-- A walk leaves the list of those that wait. -/
def Dev.endWalk (d : Dev) (n : Nat) : Dev := { d with xl := { d.xl with walks := d.xl.walks.filter (fun x => x.num != n) } }

/-- A read of a discarded walk is forgotten, and the access is looked at anew. -/
theorem Dev.walkReadDone_discarded {d : Dev} {n : Nat} {w : Walk} (err : Bool) (data mem : Nat)
    (hw : firstThat d.xl.walks (fun x => x.num == n) = some w) (hd : w.discard = true) :
    d.walkReadDone n err data mem = ((d.endWalk n).lookAgain w mem {}).freeResumed := by
  simp only [Dev.walkReadDone, hw, hd, if_true, Dev.endWalk]

/-- A bus error on a read of a walk ends the access. -/
theorem Dev.walkReadDone_bus {d : Dev} {n : Nat} {w : Walk} (data mem : Nat)
    (hw : firstThat d.xl.walks (fun x => x.num == n) = some w) (hd : w.discard = false) :
    d.walkReadDone n true data mem = ((d.endWalk n).ownerEnds w.owner w.access stLocalFault fkWalkBus).freeResumed := by
  simp only [Dev.walkReadDone, hw, hd, Bool.false_eq_true, if_false, if_true, Dev.endWalk]

/-- A read that lets the access be looked at again. -/
theorem Dev.walkReadDone_goOn {d d2 : Dev} {n data : Nat} {w : Walk} {f : Found} (mem : Nat)
    (hw : firstThat d.xl.walks (fun x => x.num == n) = some w) (hd : w.discard = false)
    (hr : (d.endWalk n).walkRead w data = (d2, .goOn f)) :
    d.walkReadDone n false data mem = (d2.lookAgain w mem f).freeResumed := by
  rw [Dev.endWalk] at hr
  simp only [Dev.walkReadDone, hw, hd, Bool.false_eq_true, if_false, hr]

/-- A read that leads to the next read of the walk. -/
theorem Dev.walkReadDone_next {d d2 : Dev} {n data : Nat} {w : Walk} {f : Found} {st : WalkStage} (mem : Nat)
    (hw : firstThat d.xl.walks (fun x => x.num == n) = some w) (hd : w.discard = false)
    (hr : (d.endWalk n).walkRead w data = (d2, .next f st)) :
    d.walkReadDone n false data mem = (d2.contWalk w f st).freeResumed := by
  rw [Dev.endWalk] at hr
  simp only [Dev.walkReadDone, hw, hd, Bool.false_eq_true, if_false, hr]

/-- A read that finds no page. -/
theorem Dev.walkReadDone_missing {d d2 : Dev} {n data : Nat} {w : Walk} {f : Found} (mem : Nat)
    (hw : firstThat d.xl.walks (fun x => x.num == n) = some w) (hd : w.discard = false)
    (hr : (d.endWalk n).walkRead w data = (d2, .fault f fkNotPresent)) :
    d.walkReadDone n false data mem = ((d2.cacheFound w.tag f).ownerMissing w.owner w.access
      ((d2.cacheFound w.tag f).missingPage w.access f)).freeResumed := by
  rw [Dev.endWalk] at hr
  simp only [Dev.walkReadDone, hw, hd, Bool.false_eq_true, if_false, hr, if_true]

/-- A read of an entry that breaks its format ends the access. -/
theorem Dev.walkReadDone_format {d d2 : Dev} {n data : Nat} {w : Walk} {f : Found} (mem : Nat)
    (hw : firstThat d.xl.walks (fun x => x.num == n) = some w) (hd : w.discard = false)
    (hr : (d.endWalk n).walkRead w data = (d2, .fault f fkWalkFormat)) :
    d.walkReadDone n false data mem =
      ((d2.cacheFound w.tag f).ownerEnds w.owner w.access stLocalFault fkWalkFormat).freeResumed := by
  rw [Dev.endWalk] at hr
  simp only [Dev.walkReadDone, hw, hd, Bool.false_eq_true, if_false, hr]
  rfl

/-- A descriptor joins what has been found. -/
theorem Dev.walkRead_desc {d : Dev} {w : Walk} (data : Nat) (hs : w.stage = .desc) :
    d.walkRead w data = (d, .goOn { w.found with desc := some (data % 2 ^ 256) }) := by
  simp only [Dev.walkRead, hs, Walk.found]

/-- A key entry joins what has been found. -/
theorem Dev.walkRead_key {d : Dev} {w : Walk} {i : Nat} (data : Nat) (hs : w.stage = .key i) :
    d.walkRead w data = (d, .goOn { w.found with keyRaws := (i, data % 2 ^ 128) :: w.keyRaws }) := by
  simp only [Dev.walkRead, hs, Walk.found]

/-- A group of 16 entries that agree fills the cache. -/
theorem Dev.walkRead_group {d d2 : Dev} {w : Walk} {data va at_ e : Nat} {l : Leaf} (hs : w.stage = .group va at_ e)
    (hg : groupOk data e va = true)
    (hl : (d.cacheFound w.tag w.found).fillLeaf w.tag va 16 (field e 12 40 * 4096 - 4096 * field va 12 4) e = (l, d2)) :
    d.walkRead w data = (d2, .goOn { w.found with leaves := l :: w.leaves, tables := [] }) := by
  rw [Walk.found] at hl
  simp only [Dev.walkRead, hs, hg, if_true, hl, Walk.found]

/-- A group of 16 entries that do not agree breaks its format. -/
theorem Dev.walkRead_groupBad {d : Dev} {w : Walk} {data va at_ e : Nat} (hs : w.stage = .group va at_ e)
    (hg : groupOk data e va = false) : d.walkRead w data = (d, .fault w.found fkWalkFormat) := by
  simp only [Dev.walkRead, hs, hg, Bool.false_eq_true, if_false, Walk.found]

section
variable {d : Dev} {w : Walk} {data level va addr : Nat}

/-- An absent table entry. -/
theorem Dev.walkRead_absent (hs : w.stage = .table level va addr) (hd : data < 2 ^ 64) (hp : flag data 0 = false) :
    d.walkRead w data = (d, .fault w.found fkNotPresent) := by
  simp only [Dev.walkRead, hs, Nat.mod_eq_of_lt hd, hp, Bool.not_false, if_true, Walk.found]

/-- A table entry that breaks its format. -/
theorem Dev.walkRead_bad (hs : w.stage = .table level va addr) (hd : data < 2 ^ 64) (hp : flag data 0 = true)
    (hb : entryBad data level va = true) : d.walkRead w data = (d, .fault w.found fkWalkFormat) := by
  simp only [Dev.walkRead, hs, Nat.mod_eq_of_lt hd, hp, Bool.not_true, Bool.false_eq_true, if_false, hb, if_true, Walk.found]

/-- A leaf of one page fills the cache. -/
theorem Dev.walkRead_leaf {d2 : Dev} {l : Leaf} (hs : w.stage = .table level va addr) (hd : data < 2 ^ 64)
    (hp : flag data 0 = true) (hb : entryBad data level va = false) (hleaf : flag data 1 = true) (hone : flag data 6 = false)
    (hl : (d.cacheFound w.tag w.found).fillLeaf w.tag va (12 + 9 * level) (field data 12 40 * 4096) data = (l, d2)) :
    d.walkRead w data = (d2, .goOn { w.found with leaves := l :: w.leaves, tables := [] }) := by
  rw [Walk.found] at hl
  simp only [Dev.walkRead, hs, Nat.mod_eq_of_lt hd, hp, hb, hleaf, hone, Bool.not_true, Bool.false_eq_true, if_false, hl,
    Walk.found]

/-- A leaf of a group of 16 leads to the read of the group. -/
theorem Dev.walkRead_contig (hs : w.stage = .table level va addr) (hd : data < 2 ^ 64) (hp : flag data 0 = true)
    (hb : entryBad data level va = false) (hleaf : flag data 1 = true) (hgroup : flag data 6 = true) :
    d.walkRead w data = (d, .next w.found (.group va (addr / 128 * 128) data)) := by
  simp only [Dev.walkRead, hs, Nat.mod_eq_of_lt hd, hp, hb, hleaf, hgroup, Bool.not_true, Bool.false_eq_true, if_false, if_true,
    Walk.found]

/-- An entry that is no leaf leads one level down. -/
theorem Dev.walkRead_down (hs : w.stage = .table level va addr) (hd : data < 2 ^ 64) (hp : flag data 0 = true)
    (hb : entryBad data level va = false) (hleaf : flag data 1 = false)
    (hr : d.refusedAddr w.fn (field data 12 40 * 4096 + 8 * field va (12 + 9 * (level - 1)) 9) = false) :
    d.walkRead w data = (d, .next
      { w.found with tables := ⟨w.tag, level, va / 2 ^ (12 + 9 * level), field data 12 40 * 4096⟩ :: w.tables }
      (.table (level - 1) va (field data 12 40 * 4096 + 8 * field va (12 + 9 * (level - 1)) 9))) := by
  simp only [Dev.walkRead, hs, Nat.mod_eq_of_lt hd, hp, hb, hleaf, hr, Bool.not_true, Bool.not_false, Bool.false_eq_true,
    if_false, if_true, Walk.found]

end

/-! ### The ageing sweep (R104) -/

/-- The sweep removes an old entry that it visits. -/
theorem Dev.ageOut_old {d : Dev} {place : Nat} {l : Leaf} (hl : d.xl.leaves[place]? = some l) (hp : l.pinned = false)
    (ha : d.xlAgeLimit ≤ d.waited l.fill) (hv : d.sweepVisits l = true) :
    d.ageOut place = { d with xl := { d.xl with leaves := d.xl.leaves.eraseIdx place } } := by
  simp [Dev.ageOut, hl, Dev.leafOld, hp, ha, hv]

/-! ### Page requests (R73, R110 to R112) -/

/-- A host's write of EP_PAGE_DB is an answer to a page request. -/
theorem Dev.epWrite_pageDb {d : Dev} {h ep v : Nat} (hp : d.pageExists h ep = true) (hv : v < 2 ^ 64) :
    d.epWrite h ep rEpPageDb v = d.pageDoor ep v :=
  Dev.epWrite_exists pageReg_epPageDb hp hv

/-- A pending record of the endpoint whose event has been posted is answered. -/
theorem Dev.answered_pending {d : Dev} {ep v : Nat} {r : PrqRecord} (hv : v < 2 ^ 13)
    (hr : Tbl.get none d.xl.prq (field v 0 12) = some r) (hep : r.ep = ep) (hs : r.state = .pending)
    (hw : d.requestWaits ep (field v 0 12) = false) : d.answered ep v = some r := by
  simpa [Dev.answered, hr, hep, hs, hw] using hv

/-- A record held for its time without an answer ends what waits for it, and is freed. -/
theorem Dev.prqTimeout_due {d : Dev} {id : Nat} {r : PrqRecord} (hr : Tbl.get none d.xl.prq id = some r)
    (hs : r.state ≠ .failed) (ht : d.prqLimit ≤ d.since r.since) : d.prqTimeout id =
      (forEach r.waiters (fun (w : PrqWaiter) d => d.ownerEnds w.1 w.2 stLocalFault fkNotPresent)
        (d.raise evXlPrqTimeout (d.fnOf r.ep))).freeRec id := by
  simp only [Dev.prqTimeout, hr]
  exact if_neg (not_or.2 ⟨hs, Nat.not_lt.2 ht⟩)

/-- A failed record kept for its time is freed. -/
theorem Dev.failedExpiry_due {d : Dev} {id : Nat} {r : PrqRecord} (hr : Tbl.get none d.xl.prq id = some r)
    (hs : r.state = .failed) (ht : d.ageLimit ≤ d.since r.failedAt) : d.failedExpiry id = d.freeRec id := by
  simp only [Dev.failedExpiry, hr]
  exact if_pos ⟨hs, ht⟩

/-- Settles O23: each read of a walk comes to the outcome of its stage, and each answer or end of a page request to the
branch of its side. -/
theorem walksAndPageRequests : Obligations.WalksAndPageRequests := by
  refine ⟨?read, ?discarded, ?aged, ?answers, ?stray, ?timeout, ?expiry, ?freed⟩
  case read =>
    intro s d d1 n data mem w f hd hw hkept hf h1
    have hrun {err : Bool} {E : Dev} (h : d.walkReadDone n err data mem = E) :
        exec (.tableWalkRead n err data mem) s = .next (s.after E) :=
      runDev_next (f := fun d => d.walkReadDone n err data mem) hd h
    subst hf h1
    refine ⟨hrun (Dev.walkReadDone_bus data mem hw hkept), fun hs => ?desc, fun i hs => ?key,
      fun va at_ e l d2 hs hg hl => ?group, fun va at_ e hs hg => ?groupBad, fun level va addr hs hdata => ⟨fun hp => ?absent, fun hp hb => ?bad,
        fun l d2 hp hb hleaf hone hl => ?leaf, fun hp hb hleaf hgroup => ?contig, fun hp hb hleaf hr => ?down⟩⟩
    case desc => exact hrun (Dev.walkReadDone_goOn mem hw hkept (Dev.walkRead_desc data hs))
    case key => exact hrun (Dev.walkReadDone_goOn mem hw hkept (Dev.walkRead_key data hs))
    case group => exact hrun (Dev.walkReadDone_goOn mem hw hkept (Dev.walkRead_group hs hg hl))
    case groupBad => exact hrun (Dev.walkReadDone_format mem hw hkept (Dev.walkRead_groupBad hs hg))
    case absent => exact hrun (Dev.walkReadDone_missing mem hw hkept (Dev.walkRead_absent hs hdata hp))
    case bad => exact hrun (Dev.walkReadDone_format mem hw hkept (Dev.walkRead_bad hs hdata hp hb))
    case leaf => exact hrun (Dev.walkReadDone_goOn mem hw hkept (Dev.walkRead_leaf hs hdata hp hb hleaf hone hl))
    case contig => exact hrun (Dev.walkReadDone_next mem hw hkept (Dev.walkRead_contig hs hdata hp hb hleaf hgroup))
    case down => exact hrun (Dev.walkReadDone_next mem hw hkept (Dev.walkRead_down hs hdata hp hb hleaf hr))
  case discarded =>
    intro s d n data mem err w hd hw hdis
    exact runDev_next (f := fun d => d.walkReadDone n err data mem) hd (Dev.walkReadDone_discarded err data mem hw hdis)
  case aged =>
    intro s d place l hd hl hp ha hv
    exact runDev_next (f := fun d => d.ageOut place) hd (Dev.ageOut_old hl hp ha hv)
  case answers =>
    intro s d h ep v r hd hp hv hr hep hs hw
    have hanswer := Dev.answered_pending hv hr hep hs hw
    have hrun {E : Dev} (h1 : d.pageDoor ep v = E) : runDev s (fun d => d.epWrite h ep rEpPageDb v) = .next (s.after E) :=
      runDev_next hd ((Dev.epWrite_pageDb hp (Nat.lt_trans hv (by decide))).trans h1)
    refine ⟨fun hf ht => hrun ?_, fun hf ht => hrun ?_, fun hf ht => hrun ?_, fun hf ht => hrun ?_⟩ <;>
      simp only [Dev.pageDoor, hanswer, hf, ht, Bool.false_eq_true, if_false, if_true]
  case stray =>
    intro s d h ep v hd hp hv hnone
    have hdoor : d.epWrite h ep rEpPageDb v = d.raise evXlPrqStray (d.fnOf ep) := by
      simp only [Dev.epWrite_pageDb hp hv, Dev.pageDoor, hnone]
    exact ⟨runDev_next (f := fun d => d.epWrite h ep rEpPageDb v) hd hdoor,
      runDev_next (f := fun d => d.epWrite h ep rEpPageDb v) hd hdoor⟩
  case timeout =>
    intro s d id r hd hr hs ht
    exact runDev_next (f := fun d => d.prqTimeout id) hd (Dev.prqTimeout_due hr hs ht)
  case expiry =>
    intro s d id r hd hr hs ht
    exact runDev_next (f := fun d => d.failedExpiry id) hd (Dev.failedExpiry_due hr hs ht)
  case freed =>
    intro d id r hr
    simp only [Dev.freeRec, hr, Option.elim]

end Sys2Proof.Machine

/-! SUPPORT. Message matching and rendezvous (R131, R154, R159, R160): the copy of an unexpected message, the arrival of a
FIN, and the ends of a rendezvous. -/

namespace Sys2Proof.Machine

/-! ### Unexpected copies (R154) -/

/-- A copy that waits is that of its header to the receive bound to it. -/
theorem Dev.copyNow_bound {d : Dev} {num : Nat} {u : UnexpHdr} {b : Binding} (hm : num ∈ d.mx.copies) (hu : d.hdr num = some u)
    (hb : u.bound = some b) : d.copyNow num = d.copyRun u b {} := by
  simp [Dev.copyNow, hm, hu, hb]

/-- A copy whose area and buffer translate is made, unless a bus error is met. -/
theorem Dev.copyRun_translated {d : Dev} {u : UnexpHdr} {b : Binding} {f : Found} {src dst : Access}
    {from_ dest : List (Nat × Nat)} (hn : 0 < min u.len b.len) (hsrc : src = d.copyRead u (min u.len b.len))
    (hdst : dst = ⟨u.ep, b.bufAddr, min u.len b.len, .write, false, some b.key, false⟩) (hfrom : d.evalAccess src f = .ok from_)
    (hdest : d.evalAccess dst f = .ok dest) :
    d.copyRun u b f = if d.busMet (.copy u.num) then (d.busTaken (.copy u.num)).copyEnd u b stLocalBus 0
      else (((d.useLeaves src).useLeaves dst).emit (.hostCopy (d.fnOf u.ep) from_ dest)).copyEnd u b
        (if b.len < u.len then stTruncated else stOk) 0 := by
  subst hsrc hdst
  simp only [Dev.copyRun, if_neg (Nat.ne_of_gt hn), hfrom, hdest]

/-! ### The arrival of a FIN (R131, R159) -/

/-- A FIN is of no other type. -/
theorem fin_types {p : Packet} (ht : hType p.hdr = tyFin) :
    hType p.hdr ≠ tyPut ∧ hType p.hdr ≠ tyGetReq ∧ hType p.hdr ≠ tySend ∧ hType p.hdr ≠ tyAtomic ∧ hType p.hdr ≠ tyPutSignal
      ∧ hType p.hdr ≠ tyRts ∧ hType p.hdr ≠ tyLsReq ∧ hType p.hdr ≠ tyLsGrant ∧ hType p.hdr ≠ tyWnFill
      ∧ hType p.hdr ≠ tyWnWrite := by
  rw [ht]; decide

/-- A FIN that passes its checks goes on to the steps behind them. -/
theorem Dev.arrive_fin {d : Dev} {p : Packet} (ht : hType p.hdr = tyFin) (hcrc : p.crcOk = true) (hok : requestOk p = true)
    (hform : rtsBad p = false) (hs : d.tp.service.isSome = true) (hage : d.ageOf (hFst p.hdr) ≤ d.ageLimit) :
    d.arrive p = d.arriveFrom4 p := by
  obtain ⟨-, -, -, -, -, -, hask, hgrant, -, -⟩ := fin_types ht
  have hrelay : ¬ (0x17 ≤ hType p.hdr ∧ hType p.hdr ≤ 0x1F) := by rw [ht]; decide
  have hlock : lockBad p = false := by simp [lockBad, hask, hgrant]
  simp [Dev.arrive, hcrc, hrelay, hform, hok, hlock, Option.isSome_iff_ne_none.1 hs, Nat.not_lt.2 hage]

/-- The first packet of a FIN's message goes to its context. -/
theorem Dev.arriveFrom4_fin {d : Dev} {p : Packet} (ht : hType p.hdr = tyFin) (hnew : d.recFor p.hdr = none)
    (hoff : hOffset p.hdr = 0) : d.arriveFrom4 p = d.contextThen p (fun d => d.admitArrival p) := by
  obtain ⟨-, hget, -, -, -, -, -, -, hfill, -⟩ := fin_types ht
  simp [Dev.arriveFrom4, hget, hfill, hnew, hoff]

/-- A FIN whose endpoint is gone, or has its context on die, waits for no context. -/
theorem Dev.contextThen_fin {d d1 : Dev} {p : Packet} (go : Dev → Dev) (ht : hType p.hdr = tyFin)
    (hep : (d.ep (hDstEp p.hdr) = none ∧ d1 = d) ∨
      (∃ c, d.ep (hDstEp p.hdr) = some c ∧ c.onDie = true ∧ d1 = d.touch (hDstEp p.hdr))) : d.contextThen p go = go d1 := by
  obtain ⟨-, -, -, -, -, -, hask, -, -, -⟩ := fin_types ht
  rcases hep with ⟨hnone, rfl⟩ | ⟨c, hc, hdie, rfl⟩
  · simp only [Dev.contextThen, if_neg hask, hnone]
  · simp only [Dev.contextThen, if_neg hask, hc, hdie, if_true]

/-- A FIN in its order takes a record, whatever has become of its endpoint, and is performed. -/
theorem Dev.admitArrival_fin {d : Dev} {p : Packet} (ht : hType p.hdr = tyFin) (hearly : d.early p.hdr = false)
    (hprev : d.prevOk p.hdr = true) (hfree : d.recFree = true) :
    d.admitArrival p = (d.putRec (d.newRec p.hdr p.tc)).performRec none (d.newRec p.hdr p.tc) p {} := by
  obtain ⟨-, hget, hsend, -, hsignal, hrts, hask, hgrant, hfill, -⟩ := fin_types ht
  have hserves : d.epServes p.hdr = true := by simp [Dev.epServes, ht]
  have hrecord : recordless p.hdr = false := by simp [recordless, hget, hfill]
  have hslot : needsSlot p.hdr = false := by simp [needsSlot, hsend, hrts, hgrant, hsignal]
  simp only [Dev.admitArrival, hget, hsend, hrts, hask, hserves, hearly, hprev, hrecord, hfree, hslot, decide_false,
    Bool.false_and, Bool.not_true, Bool.or_self, or_self, Bool.false_eq_true, if_false]
  rfl

/-- A packet that is new to its record and has no access counts at once; with the last one the record goes on to its signal. -/
theorem Dev.performRec_counts {d : Dev} {slot : Option Nat} {r r' : TgtRec} {p : Packet} (f : Found)
    (hnew : flag r.bitmap (packetBit p.hdr) = false) (haccess : d.packetAccess r p = none)
    (hr' : r' = { r with
      bitmap := r.bitmap ||| 2 ^ packetBit p.hdr, baton := r.baton + hPayLen p.hdr,
      firstDone := r.firstDone || decide (hOffset p.hdr = 0) })
    (hall : r'.baton = r'.msgLen) : d.performRec slot r p f = (d.putRec r').signalRec slot r' p f := by
  subst hr'
  simp only [Dev.performRec, hnew, Bool.false_eq_true, if_false, haccess]
  exact if_pos hall

/-- The bytes of a FIN's record that is complete end the rendezvous they name, and the FIN is acknowledged. -/
theorem Dev.signalRec_fin {d : Dev} {r : TgtRec} {p : Packet} (f : Found) (hs : r.sig = false) (ht : r.type = tyFin) :
    d.signalRec none r p f = (d.finDone r.srcNode r.dstEp (ofBytes p.payload)).endRec r p stOk 0 := by
  have hsend : ¬ r.type = tySend := by rw [ht]; decide
  have hrts : ¬ r.type = tyRts := by rw [ht]; decide
  rw [Dev.signalRec, if_pos (by simp [hs]), Dev.unpark, Dev.finishRec, if_neg hsend, if_neg hrts, if_pos ht]

/-- The one packet of a FIN completes its record. -/
theorem Dev.performRec_fin {d e : Dev} {p : Packet} {r r' : TgtRec} (f : Found) (ht : hType p.hdr = tyFin)
    (hoff : hOffset p.hdr = 0) (hlen : hPayLen p.hdr = hMsgLen p.hdr) (hr : r = d.newRec p.hdr p.tc)
    (hr' : r' = { r with bitmap := 1, baton := hMsgLen p.hdr, firstDone := true }) :
    e.performRec none r p f =
      ((e.putRec r').finDone (hSrcNode p.hdr) (hDstEp p.hdr) (ofBytes p.payload)).endRec r' p stOk 0 := by
  obtain ⟨hput, -, hsend, hatomic, hsignal, hrts, -, -, -, hwrite⟩ := fin_types ht
  have haccess : e.packetAccess r p = none := by simp [Dev.packetAccess, hput, hsend, hatomic, hsignal, hwrite]
  have hnew : flag r.bitmap (packetBit p.hdr) = false := by rw [hr]; exact Nat.zero_testBit _
  have hcounted : r' = { r with
      bitmap := r.bitmap ||| 2 ^ packetBit p.hdr, baton := r.baton + hPayLen p.hdr,
      firstDone := r.firstDone || decide (hOffset p.hdr = 0) } := by
    rw [hr', hr, packetBit, hoff, hlen]
    simp [Dev.newRec]
  subst hr
  rw [Dev.performRec_counts f hnew haccess hcounted (by rw [hr']; rfl),
    Dev.signalRec_fin f (by simp [hr', Dev.newRec, hsignal]) (by rw [hr']; exact ht), hr']
  rfl

/-! ### The end of a rendezvous (R159, R160) -/

/-- A FIN ends the open SEND that it names, with the status it brings. -/
theorem Dev.finDone_open {d : Dev} {node ep w : Nat} {c : Cmd}
    (hc : d.openSend node ep (field w 0 32) (field w 32 16) = some c) :
    d.finDone node ep w = ((d.leaveRts c).cmdDone c (if field w 48 8 = stTruncated then stOk else field w 48 8)
      (faultInfo (field w 56 8) (field w 64 32)) 0 0).rdvFreed := by
  simp only [Dev.finDone, hc]

/-- A FIN that names no open SEND is reported. -/
theorem Dev.finDone_stray {d : Dev} {node ep w : Nat} (hc : d.openSend node ep (field w 0 32) (field w 32 16) = none) :
    d.finDone node ep w = d.raise evMxFinStray 0 := by
  simp only [Dev.finDone, hc]

/-- A SEND open for the time limit ends RDV_EXPIRED. -/
theorem Dev.rdvExpire_due {d : Dev} {c : Cmd} {i f acked : Nat} (hp : c.phase = .rdvOpen i f acked)
    (hl : d.fld rMxRdvLimit 0 24 ≠ 0) (ht : d.fld rMxRdvLimit 0 24 ≤ d.since acked) :
    d.rdvExpire c = ((d.raise evMxRdvExpired c.ep).cmdDone c stRdvExpired 0 0 0).rdvFreed := by
  simp only [Dev.rdvExpire, hp]
  exact if_pos ⟨hl, ht⟩

/-- Settles O27: a copy comes to `Dev.copyRun_translated`, a FIN runs through the steps of R131 to `Dev.performRec_fin`, and the
ends of a rendezvous are those of `Dev.finDone` and `Dev.rdvExpire`. -/
theorem matchingEnds : Obligations.MatchingEnds := by
  refine ⟨?copy, ?fin, fun d node ep w c => Dev.finDone_open, fun d node ep w => Dev.finDone_stray, ?expired⟩
  case copy =>
    intro s d num u b src dst from_ dest hd hm hu hb hn hsrc hdst hfrom hdest
    have hrun {E : Dev} (h : d.copyRun u b {} = E) : exec (.unexpCopyDone num) s = .next (s.after E) :=
      runDev_next (f := fun d => d.copyNow num) hd ((Dev.copyNow_bound hm hu hb).trans h)
    have hcopy := Dev.copyRun_translated hn hsrc hdst hfrom hdest
    exact ⟨fun hbus => hrun (hcopy.trans (if_neg (by simp [hbus]))), fun hbus => hrun (hcopy.trans (if_pos hbus))⟩
  case fin =>
    intro s d d1 p r r' hd ht hcrc hok hform hs hage hnew hoff hlen hep hearly hprev hfree hr hr'
    refine runDev_next (f := fun d => d.ofType p tyFin (fun d => d.arrive p)) hd ?_
    calc d.ofType p tyFin (fun d => d.arrive p)
        = d.arrive p := if_pos ht
      _ = d.arriveFrom4 p := Dev.arrive_fin ht hcrc hok hform hs hage
      _ = d.contextThen p (fun d => d.admitArrival p) := Dev.arriveFrom4_fin ht hnew hoff
      _ = d1.admitArrival p := Dev.contextThen_fin _ ht hep
      _ = (d1.putRec r).performRec none r p {} := by rw [Dev.admitArrival_fin ht hearly hprev hfree, hr]
      _ = _ := Dev.performRec_fin {} ht hoff hlen hr hr'
  case expired =>
    intro s d ep index i f acked lap c hd hc hp hl ht
    refine runDev_next (f := fun d => d.onCmd ep index lap (fun d c => d.rdvExpire c)) hd ?_
    simp only [Dev.onCmd, hc, Dev.rdvExpire_due hp hl ht]

end Sys2Proof.Machine

/-! SUPPORT. Invalidate commands (R105 to R108): what a scope removes and marks, which writes are accepted, and how an invalidate
ends. -/

namespace Sys2Proof.Machine

/-! ### What an accepted invalidate does (R106, R108) -/

/-- A walk as an invalidate of a scope leaves it. -/
def InvScope.mark (sc : InvScope) (w : Walk) : Walk := if sc.coversWalk w then { w with discard := true } else w

/-- A mark leaves the number and the tag of a walk. -/
@[simp] theorem InvScope.mark_num (sc : InvScope) (w : Walk) : (sc.mark w).num = w.num := by
  unfold InvScope.mark; split <;> rfl
@[simp] theorem InvScope.mark_tag (sc : InvScope) (w : Walk) : (sc.mark w).tag = w.tag := by
  unfold InvScope.mark; split <;> rfl

/-- A scope covers a marked walk as it covers the walk. -/
theorem InvScope.coversWalk_mark (sc : InvScope) (w : Walk) : sc.coversWalk (sc.mark w) = sc.coversWalk w := by
  simp only [InvScope.coversWalk, InvScope.mark_tag]

/-- The mark of a covered walk discards its result. -/
theorem InvScope.mark_discard {sc : InvScope} {w : Walk} (h : sc.coversWalk w = true) : (sc.mark w).discard = true := by
  rw [InvScope.mark, if_pos h]

/-- The walks that a scope has been dropped from are the marked ones. -/
theorem Dev.dropScope_walks (d : Dev) (sc : InvScope) : (d.dropScope sc).xl.walks = d.xl.walks.map sc.mark := rfl

/-- Marks leave the numbers of the walks in progress. -/
theorem Dev.dropScope_walkNums (d : Dev) (sc : InvScope) :
    (d.dropScope sc).xl.walks.map (fun w => w.num) = d.xl.walks.map (fun w => w.num) := by
  simp [Dev.dropScope_walks]

/-- An interface while an invalidate that begins on it runs: BUSY, with the walks then in progress. -/
def Dev.begunInv (d : Dev) (st : InvState) (seq : Nat) : InvState :=
  { st with busy := true, seq := seq, since := d.now, slow := false, walks := d.xl.walks.map (fun w => w.num) }

/-- An interface that runs an invalidate is not one at reset. -/
theorem Dev.begunInv_ne_default (d : Dev) (st : InvState) (seq : Nat) : d.begunInv st seq ≠ {} := fun h =>
  Bool.noConfusion (show true = false from congrArg InvState.busy h)

/-- An invalidate begins: what the scope covers goes, and the interface runs. -/
theorem Dev.startInv_eq (d : Dev) (i seq : Nat) (sc : InvScope) : d.startInv i seq sc =
    { d.dropScope sc with xl := { (d.dropScope sc).xl with
      inv := Tbl.put {} i (d.begunInv (Tbl.get {} d.xl.inv i) seq) d.xl.inv } } := by
  simp only [Dev.startInv, Dev.dropScope_walkNums, Dev.begunInv]
  rfl

/-- The interface of an invalidate that has begun runs it. -/
theorem Dev.startInv_state (d : Dev) (i seq : Nat) (sc : InvScope) :
    Tbl.get {} (d.startInv i seq sc).xl.inv i = d.begunInv (Tbl.get {} d.xl.inv i) seq := by
  rw [Dev.startInv_eq]
  exact Tbl.get_put_of_ne (Dev.begunInv_ne_default d _ seq) _ _

/-- A leaf stays through the begin of an invalidate exactly where the scope does not drop it. -/
theorem Dev.mem_startInv_leaves (d : Dev) (i seq : Nat) (sc : InvScope) (l : Leaf) :
    l ∈ (d.startInv i seq sc).xl.leaves ↔ l ∈ d.xl.leaves ∧ sc.dropsLeaf l = false := by
  show l ∈ d.xl.leaves.filter (fun l => !(sc.dropsLeaf l)) ↔ _
  rw [List.mem_filter, Bool.not_eq_true']

/-- A key entry stays through the begin of an invalidate exactly where the scope does not drop it. -/
theorem Dev.mem_startInv_keys (d : Dev) (i seq : Nat) (sc : InvScope) (k : KeyEntry) :
    k ∈ (d.startInv i seq sc).xl.keys ↔ k ∈ d.xl.keys ∧ sc.dropsKey k = false := by
  show k ∈ d.xl.keys.filter (fun k => !(sc.dropsKey k)) ↔ _
  rw [List.mem_filter, Bool.not_eq_true']

/-- Every walk that the scope covers is discarded once the invalidate has begun. -/
theorem Dev.startInv_discards {d : Dev} {i seq : Nat} {sc : InvScope} {w : Walk} (hw : w ∈ (d.startInv i seq sc).xl.walks)
    (hc : sc.coversWalk w = true) : w.discard = true := by
  obtain ⟨w', -, rfl⟩ : ∃ w', w' ∈ d.xl.walks ∧ sc.mark w' = w := List.mem_map.1 hw
  exact InvScope.mark_discard ((InvScope.coversWalk_mark sc w').symm.trans hc)

/-! ### Which writes are accepted (R105, R106) -/

section
variable {d : Dev} {h v : Nat}

/-- A busy interface accepts no command. -/
theorem Dev.fnInvScope_busy (hb : (Tbl.get {} d.xl.inv h).busy = true) : d.fnInvScope h v = none := by
  simp only [Dev.fnInvScope, hb, if_true]

/-- SCOPE 0 with a tag of the function names the range in its registers. -/
theorem Dev.fnInvScope_range (hb : (Tbl.get {} d.xl.inv h).busy = false) (hlo : d.fld rXlFnTags 0 16 h ≤ field v 16 16)
    (hhi : field v 16 16 < d.fld rXlFnTags 0 16 h + d.fld rXlFnTags 16 17 h) (hs : field v 0 2 = 0) :
    d.fnInvScope h v = some (.range (field v 16 16) (d.rd rFnXlInvStart 0 h) (d.rd rFnXlInvLen 0 h)) := by
  simp [Dev.fnInvScope, hb, hs, hlo, hhi]

/-- SCOPE 1 with a tag of the function names the tag. -/
theorem Dev.fnInvScope_tag (hb : (Tbl.get {} d.xl.inv h).busy = false) (hlo : d.fld rXlFnTags 0 16 h ≤ field v 16 16)
    (hhi : field v 16 16 < d.fld rXlFnTags 0 16 h + d.fld rXlFnTags 16 17 h) (hs : field v 0 2 = 1) :
    d.fnInvScope h v = some (.tag (field v 16 16)) := by
  simp [Dev.fnInvScope, hb, hs, hlo, hhi]

/-- SCOPE 2 names every tag of the function, whatever TAG holds. -/
theorem Dev.fnInvScope_tags (hb : (Tbl.get {} d.xl.inv h).busy = false) (hs : field v 0 2 = 2) :
    d.fnInvScope h v = some (.tags (d.fld rXlFnTags 0 16 h) (d.fld rXlFnTags 16 17 h)) := by
  simp [Dev.fnInvScope, hb, hs]

/-- SCOPE 3 of the device's own interface names the whole device. -/
theorem Dev.devInvScope_all (hb : (Tbl.get {} d.xl.inv 32).busy = false) (hs : field v 0 2 = 3) :
    d.devInvScope v = some .all := by
  simp [Dev.devInvScope, hb, hs]

/-- A command of a function that names a scope begins its invalidate. -/
theorem Dev.invalidate_fn {sc : InvScope} (hh : h < 32) (hsc : d.fnInvScope h v = some sc) :
    d.invalidate h v = d.startInv h (field v 32 16) sc := by
  simp only [Dev.invalidate, if_pos hh, hsc]

/-- A command of a function that names no scope is reported. -/
theorem Dev.invalidate_fnDropped (hh : h < 32) (hsc : d.fnInvScope h v = none) :
    d.invalidate h v = d.raise evXlInvDropped h := by
  simp only [Dev.invalidate, if_pos hh, hsc]

/-- A command of the device that names a scope begins its invalidate. -/
theorem Dev.invalidate_dev {sc : InvScope} (hsc : d.devInvScope v = some sc) :
    d.invalidate 32 v = d.startInv 32 (field v 32 16) sc := by
  simp only [Dev.invalidate, if_neg (Nat.lt_irrefl 32), hsc]

/-- A host's write of FN_XL_INV_CMD is a command of its function. -/
theorem Dev.fnWrite_xlInvCmd (hv : v < 2 ^ 64) : d.fnWrite h rFnXlInvCmd 0 v = d.invalidate h v :=
  Dev.fnWrite_does (i := 0) (r := rFnXlInvCmd) pageReg_fnXlInvCmd hv

/-- A core's write of XL_INV_CMD is a command of the device. -/
theorem Dev.coreWrite_xlInvCmd (hp : 9 ≤ d.bt.phase) (hv : v < 2 ^ 64) : d.coreWrite rXlInvCmd 0 v = d.invalidate 32 v :=
  Dev.coreWrite_does hp rXlInvCmd (by decide) hv (by decide) rfl

end

/-! ### The end of an invalidate (R107) -/

/-- An invalidate whose walks have all ended is done: DONE_SEQ takes SEQ. -/
theorem Dev.invDone_ended {d : Dev} {i : Nat} {st : InvState} (hst : Tbl.get {} d.xl.inv i = st) (hb : st.busy = true)
    (hw : ∀ n ∈ st.walks, ∀ w ∈ d.xl.walks, w.num ≠ n) : d.invDone i = ({ d with xl := { d.xl with
      inv := Tbl.put {} i { st with busy := false, done := st.seq } d.xl.inv } }).raise evXlInvDone 0 := by
  subst hst
  exact if_pos (by simpa [hb] using hw)

/-- An invalidate that runs for 64 ticks and has not been reported is reported. -/
theorem Dev.invSlow_due {d : Dev} {i : Nat} {st : InvState} (hst : Tbl.get {} d.xl.inv i = st) (hb : st.busy = true)
    (hs : st.slow = false) (ht : 64 ≤ d.since st.since) : d.invSlow i = ({ d with xl := { d.xl with
      inv := Tbl.put {} i { st with slow := true } d.xl.inv } }).raise evXlInvSlow (if i < 32 then i else 0) := by
  subst hst
  exact if_pos (by simp [hb, hs, ht])

/-- Settles O22: each accepted command comes to `Dev.startInv` of its scope, one written while BUSY to its report, and the ends
are those of `Dev.invDone` and `Dev.invSlow`. -/
theorem invalidates : Obligations.Invalidates := by
  refine ⟨?accepted, ?busy, ?begun, ?done, ?slow⟩
  case accepted =>
    rintro s d x i v sc st hd hv rfl hb hx
    have hx : d.startInv i (field v 32 16) sc = x := (Dev.startInv_eq d i _ sc).trans hx.symm
    have hfn (hi : i < 32) (hsc : d.fnInvScope i v = some sc) :
        runDev s (fun d => d.fnWrite i rFnXlInvCmd 0 v) = .next (s.after x) :=
      runDev_next hd ((Dev.fnWrite_xlInvCmd hv).trans ((Dev.invalidate_fn hi hsc).trans hx))
    refine ⟨fun hi hlo hhi => ⟨fun hs hsc => ?range, fun hs hsc => ?tag⟩, fun hi hs hsc => ?function,
      fun hi hp hs hsc => ?device⟩
    case range => exact hfn hi (hsc ▸ Dev.fnInvScope_range hb hlo hhi hs)
    case tag => exact hfn hi (hsc ▸ Dev.fnInvScope_tag hb hlo hhi hs)
    case function => exact hfn hi (hsc ▸ Dev.fnInvScope_tags hb hs)
    case device =>
      subst hi
      have hall : d.devInvScope v = some sc := hsc ▸ Dev.devInvScope_all hb hs
      exact runDev_next (f := fun d => d.coreWrite rXlInvCmd 0 v) hd
        ((Dev.coreWrite_xlInvCmd hp hv).trans ((Dev.invalidate_dev hall).trans hx))
  case busy =>
    intro s d h v hd hh hv hb
    exact runDev_next (f := fun d => d.fnWrite h rFnXlInvCmd 0 v) hd
      ((Dev.fnWrite_xlInvCmd hv).trans (Dev.invalidate_fnDropped hh (Dev.fnInvScope_busy hb)))
  case begun =>
    intro d i seq sc
    have hst := Dev.startInv_state d i seq sc
    exact ⟨Dev.mem_startInv_leaves d i seq sc, Dev.mem_startInv_keys d i seq sc, fun w => Dev.startInv_discards,
      congrArg InvState.busy hst, congrArg InvState.seq hst, rfl, rfl⟩
  case done =>
    intro s d i st hd hst hb hw
    exact runDev_next (f := fun d => d.invDone i) hd (Dev.invDone_ended hst hb hw)
  case slow =>
    intro s d i st hd hst hb hs ht
    exact runDev_next (f := fun d => d.invSlow i) hd (Dev.invSlow_due hst hb hs ht)

end Sys2Proof.Machine

/-! SUPPORT. Reliable transport at the initiator (R121, R122, R128, R136, R138): the checks of a response, the window it brings,
and what ACK, NACK and GET_RESP do to the message they name. -/

namespace Sys2Proof.Machine

/-! ### Checks, window and the message named (R121, R122, R128, R138 rule 5) -/

/-- A command that brings a packet of its own type runs the operation of that type. -/
theorem runDev_ofType {s : State} {d E : Dev} {p : Packet} {type : Nat} {f : Dev → Dev} (hd : s.begun = d)
    (ht : hType p.hdr = type) (h : f d = E) : runDev s (fun d => d.ofType p type f) = .next (s.after E) :=
  runDev_next (f := fun d => d.ofType p type f) hd ((if_pos ht).trans h)

section
variable {d : Dev} {p : Packet}

/-- A response with a bad E2E_CRC is dropped and reported. -/
theorem Dev.response_badCrc (act : Dev → Msg → Dev) (hcrc : p.crcOk = false) :
    d.response p act = (d.latchTp p.hdr 1).raise evTpE2eCrcError p.port := by
  simp only [Dev.response, hcrc, Bool.not_false, if_true]

/-- A response of bad form is dropped and reported. -/
theorem Dev.response_malformed (act : Dev → Msg → Dev) (hcrc : p.crcOk = true) (hok : respOk p.hdr p.payload = false) :
    d.response p act = (d.latchTp p.hdr 2).raise evTpPktMalformed p.port := by
  simp only [Dev.response, hcrc, hok, Bool.not_true, Bool.not_false, Bool.false_eq_true, if_false, if_true]

/-- A response that names no message is late. -/
theorem Dev.response_late (act : Dev → Msg → Dev) (hcrc : p.crcOk = true) (hok : respOk p.hdr p.payload = true)
    (hm : (d.setAdv (hSrcNode p.hdr) (hWin p.hdr)).msgById (hMsgId p.hdr) (hFst p.hdr) = none) :
    d.response p act = (d.setAdv (hSrcNode p.hdr) (hWin p.hdr)).raise evTpLateResponse (hDstEp p.hdr) := by
  simp only [Dev.response, hcrc, hok, hm, Bool.not_true, Bool.false_eq_true, if_false]

/-- A response acts on the message it names, with the window taken. -/
theorem Dev.response_named {m : Msg} (act : Dev → Msg → Dev) (hcrc : p.crcOk = true) (hok : respOk p.hdr p.payload = true)
    (hm : (d.setAdv (hSrcNode p.hdr) (hWin p.hdr)).msgById (hMsgId p.hdr) (hFst p.hdr) = some m) :
    d.response p act = act (d.setAdv (hSrcNode p.hdr) (hWin p.hdr)) m := by
  simp only [Dev.response, hcrc, hok, hm, Bool.not_true, Bool.false_eq_true, if_false]

end

/-! ### What taking a window and using leaves keep (R102, R128) -/

/-- A window taken changes the transport unit only. -/
theorem Dev.setAdv_st (d : Dev) (node win : Nat) : (d.setAdv node win).st = d.st := by
  unfold Dev.setAdv; split <;> rfl
theorem Dev.setAdv_hq (d : Dev) (node win : Nat) : (d.setAdv node win).hq = d.hq := by
  unfold Dev.setAdv; split <;> rfl

/-- Time does not pass as a window is taken. -/
theorem Dev.setAdv_now (d : Dev) (node win : Nat) : (d.setAdv node win).now = d.now :=
  congrArg StUnit.tick (Dev.setAdv_st d node win)

/-- Leaves used change the translation unit only. -/
theorem Dev.useLeaves_hq (d : Dev) (a : Access) : (d.useLeaves a).hq = d.hq := by
  unfold Dev.useLeaves; split <;> rfl
theorem Dev.forEach_useLeaves_hq (accs : List Access) (d : Dev) :
    (forEach accs (fun a (d : Dev) => d.useLeaves a) d).hq = d.hq := by
  induction accs generalizing d with
  | nil => rfl
  | cons a rest ih => exact (ih (d.useLeaves a)).trans (Dev.useLeaves_hq d a)

/-- The function of an endpoint stands in its context. -/
theorem Dev.fnOf_congr {d e : Dev} (h : e.hq = d.hq) (ep : Nat) : e.fnOf ep = d.fnOf ep := by
  simp only [Dev.fnOf, Dev.ep, h]

/-! ### ACK and NACK (R136, R138 rules 2 and 4) -/

section
variable {d : Dev} {p : Packet} {m : Msg}

/-- An ACK of another status than a refusal ends a message that is no GET. -/
theorem Dev.ackMsg_ends (hacc : hSub p.hdr ≠ stRemoteAccess) (hdis : hSub p.hdr ≠ stRemoteDisabled) (hg : m.isGet = false) :
    Dev.ackMsg p d m = d.endMsg m (hSub p.hdr) (hKind p.hdr) 0 p.payload := by
  simp only [Dev.ackMsg, if_neg (not_or.2 ⟨hacc, hdis⟩), hg, Bool.false_eq_true, if_false]

/-- An ACK of a refusal ends any message, and is reported. -/
theorem Dev.ackMsg_refused (h : hSub p.hdr = stRemoteAccess ∨ hSub p.hdr = stRemoteDisabled) :
    Dev.ackMsg p d m = (d.raise evTpRemoteFault m.srcEp).endMsg m (hSub p.hdr) (hKind p.hdr) 0 [] :=
  if_pos h

/-! ### GET data (R133, R136) -/

/-- A message as it stands once a GET packet of a header is counted at `now`. -/
def Msg.counted (m : Msg) (h now : Nat) : Msg :=
  { m with bitmap := m.bitmap ||| 2 ^ (hOffset h / 4096), baton := m.baton + hPayLen h, rtoFrom := now, lastNack := none }

/-- A packet that leaves the Baton counter short of MSG_LEN is counted. -/
theorem Dev.countGet_more {h : Nat} (data : List Byte) (hb : (m.counted h d.now).baton ≠ m.len) :
    d.countGet m h data = d.setMsg (m.counted h d.now) :=
  if_neg hb

/-- The packet that brings the Baton counter to MSG_LEN ends the message. -/
theorem Dev.countGet_last {h : Nat} (data : List Byte) (hb : (m.counted h d.now).baton = m.len) :
    d.countGet m h data = (d.setMsg (m.counted h d.now)).endMsg (m.counted h d.now) stOk 0 0 data :=
  if_pos hb

/-- New data of a window fill is counted, and stays with the fill. -/
theorem Dev.getRespRun_fill (f : Found) (hnew : flag m.bitmap (hOffset p.hdr / 4096) = false) (hlen : hMsgLen p.hdr = m.len)
    (ht : m.type = tyWnFill) : d.getRespRun none p m f = d.countGet m p.hdr p.payload := by
  simp [Dev.getRespRun, hnew, hlen, ht, Dev.unpark]

/-- New data of a GET whose buffer translates is written there, then counted. -/
theorem Dev.getRespRun_written {f : Found} {pieces : List (Nat × Nat)} (hnew : flag m.bitmap (hOffset p.hdr / 4096) = false)
    (hlen : hMsgLen p.hdr = m.len) (ht : m.type = tyGetReq) (hpay : p.payload ≠ [])
    (hok : d.evalAll f (m.landing (hOffset p.hdr) (hPayLen p.hdr)) [] = .ok pieces) :
    d.getRespRun none p m f = ((forEach (m.landing (hOffset p.hdr) (hPayLen p.hdr)) (fun a (d : Dev) => d.useLeaves a)
      d).writeFrom p (d.fnOf m.srcEp) pieces p.payload).countGet m p.hdr [] := by
  have hfill : m.type ≠ tyWnFill := by rw [ht]; decide
  have hfn := Dev.fnOf_congr (Dev.forEach_useLeaves_hq (m.landing (hOffset p.hdr) (hPayLen p.hdr)) d) m.srcEp
  simp [Dev.getRespRun, hnew, hlen, hfill, hok, hpay, Dev.unpark, hfn]

/-- A GET_RESP for a message fetched by GET packets is its data. -/
theorem Dev.getRespArrive_named {d1 : Dev} (hcrc : p.crcOk = true) (hok : respOk p.hdr p.payload = true)
    (h1 : d1 = d.setAdv (hSrcNode p.hdr) (hWin p.hdr)) (hm : d1.msgById (hMsgId p.hdr) (hFst p.hdr) = some m)
    (ht : m.type = tyGetReq ∨ m.type = tyWnFill) : d.getRespArrive p = d1.getRespRun none p m {} := by
  subst h1
  exact (Dev.response_named _ hcrc hok hm).trans (if_pos (decide_eq_true ht))

end

/-- Settles O25: each response comes to its branch of `Dev.response`, and one that names a message to what ACK, NACK or GET data
do to it. -/
theorem responsesArrive : Obligations.ResponsesArrive := by
  intro s d d1 p hd h1
  have hack {E : Dev} (ht : hType p.hdr = tyAck) (h : d.ackArrive p = E) : exec (.ackArrival p) s = .next (s.after E) :=
    runDev_ofType hd ht h
  have hnack {E : Dev} (ht : hType p.hdr = tyNack) (h : d.nackArrive p = E) : exec (.nackArrival p) s = .next (s.after E) :=
    runDev_ofType hd ht h
  have hget {E : Dev} (ht : hType p.hdr = tyGetResp) (h : d.getRespArrive p = E) :
      exec (.getRespArrival p) s = .next (s.after E) := runDev_ofType hd ht h
  have hnow : d1.now = d.now := h1 ▸ Dev.setAdv_now d _ _
  refine ⟨fun ht hcrc => hack ht (Dev.response_badCrc _ hcrc), fun ht hcrc hok => hack ht (Dev.response_malformed _ hcrc hok),
    fun hcrc hok hm => ?late, fun m hcrc hok hm => ?named⟩
  case late =>
    subst h1
    exact ⟨fun ht => hack ht (Dev.response_late _ hcrc hok hm), fun ht => hnack ht (Dev.response_late _ hcrc hok hm),
      fun ht => hget ht (Dev.response_late _ hcrc hok hm)⟩
  case named =>
    have hact (act : Dev → Msg → Dev) : d.response p act = act d1 m := by subst h1; exact Dev.response_named act hcrc hok hm
    refine ⟨fun ht hacc hdis hg => ?ends, fun ht href => ?refused, fun ht => ?backoff, fun m' hm' ht hnew hlen => ?data⟩
    case ends => exact hack ht ((hact _).trans (Dev.ackMsg_ends hacc hdis hg))
    case refused => exact hack ht ((hact _).trans (Dev.ackMsg_refused href))
    case backoff => exact hnack ht ((hact _).trans (by rw [Dev.nackMsg, hnow]))
    case data =>
      have hcounted {e : Dev} (he : e.now = d.now) : m' = m.counted p.hdr e.now := by rw [hm', he]; rfl
      have hrun (hty : m.type = tyGetReq ∨ m.type = tyWnFill) := Dev.getRespArrive_named hcrc hok h1 hm hty
      refine ⟨fun hty hb => ?fillMore, fun hty hb => ?fillLast, fun pieces e hty hpay heval he hen => ?written⟩
      case fillMore =>
        rw [hcounted hnow] at hb ⊢
        exact hget ht ((hrun (.inr hty)).trans
          ((Dev.getRespRun_fill {} hnew hlen hty).trans (Dev.countGet_more _ hb)))
      case fillLast =>
        rw [hcounted hnow] at hb ⊢
        exact hget ht ((hrun (.inr hty)).trans
          ((Dev.getRespRun_fill {} hnew hlen hty).trans (Dev.countGet_last _ hb)))
      case written =>
        have hfn : d1.fnOf m.srcEp = d.fnOf m.srcEp := Dev.fnOf_congr (h1 ▸ Dev.setAdv_hq d _ _) _
        have hcount : d.getRespArrive p = e.countGet m p.hdr [] := by
          rw [hrun (.inl hty), Dev.getRespRun_written hnew hlen hty hpay heval, hfn, he]
        rw [hcounted hen]
        exact ⟨fun hb => hget ht (hcount.trans (Dev.countGet_more _ hb)),
          fun hb => hget ht (hcount.trans (Dev.countGet_last _ hb))⟩

end Sys2Proof.Machine

/-! SUPPORT. Reliable transport at the target (R121, R123, R131, R133, R134, R139): the checks of a request, a packet of a
completed record, a PUT or WN_WRITE of one packet from its arrival to its ACK, and the end of a record's retention. -/

namespace Sys2Proof.Machine

/-! ### Steps 1 to 3 (R121, R123, R131, R156, R187) -/

section
variable {d : Dev} {p : Packet}

/-- A request with a bad E2E_CRC is dropped and reported. -/
theorem Dev.arrive_badCrc (hcrc : p.crcOk = false) : d.arrive p = (d.latchTp p.hdr 1).raise evTpE2eCrcError p.port := by
  simp only [Dev.arrive, hcrc, Bool.not_false, if_true]

/-- A Relay type that no rule gives is a malformed Relay message. -/
theorem Dev.arrive_relayType (hcrc : p.crcOk = true) (hlo : 0x17 ≤ hType p.hdr) (hhi : hType p.hdr ≤ 0x1F) :
    d.arrive p = d.raise evRlRlMalformed (field p.hdr 224 12) := by
  simp only [Dev.arrive, hcrc, hlo, hhi, and_self, Bool.not_true, Bool.false_eq_true, if_false, if_true]

/-- Only an RTS or a FIN breaks the form of R156. -/
theorem rtsBad_type (h : rtsBad p = true) : hType p.hdr = tyRts ∨ hType p.hdr = tyFin := by
  simp only [rtsBad, Bool.or_eq_true, Bool.and_eq_true, decide_eq_true_eq] at h
  exact h.imp And.left And.left

/-- An RTS or FIN of bad form is dropped, latched and reported twice. -/
theorem Dev.arrive_rtsBad (hcrc : p.crcOk = true) (hbad : rtsBad p = true) : d.arrive p =
    (((d.latchTp p.hdr 2).latch rMxErrLatch (pack [(16, hDstEp p.hdr), (18, hSrcNode p.hdr), (4, 1)])).raise
      evTpPktMalformed p.port).raise evMxRtsForm 0 := by
  have hrelay : ¬ (0x17 ≤ hType p.hdr ∧ hType p.hdr ≤ 0x1F) := by
    rcases rtsBad_type hbad with ht | ht <;> rw [ht] <;> decide
  simp only [Dev.arrive, hcrc, if_neg hrelay, hbad, Bool.not_true, Bool.false_eq_true, if_false, if_true]

/-- Any other request of bad form is dropped and reported. -/
theorem Dev.arrive_malformed (hcrc : p.crcOk = true) (hform : rtsBad p = false)
    (hrelay : ¬ (0x17 ≤ hType p.hdr ∧ hType p.hdr ≤ 0x1F)) (hok : requestOk p = false) :
    d.arrive p = (d.latchTp p.hdr 2).raise evTpPktMalformed p.port := by
  simp only [Dev.arrive, hcrc, if_neg hrelay, hform, hok, Bool.not_true, Bool.not_false, Bool.false_eq_true, if_false, if_true]

end

/-! ### A PUT or WN_WRITE on its way to its record (R131) -/

/-- What a type that writes at the target is not. -/
theorem write_types {t : Nat} (h : t = tyPut ∨ t = tyWnWrite) :
    t ≠ tyGetReq ∧ t ≠ tySend ∧ t ≠ tyAtomic ∧ t ≠ tyPutSignal ∧ t ≠ tyRts ∧ t ≠ tyFin ∧ t ≠ tyLsReq ∧ t ≠ tyLsGrant
      ∧ t ≠ tyWnFill ∧ ¬ (0x17 ≤ t ∧ t ≤ 0x1F) := by
  rcases h with rfl | rfl <;> decide

section
variable {d : Dev} {p : Packet} (hw : hType p.hdr = tyPut ∨ hType p.hdr = tyWnWrite)
include hw

/-- A write of good form is dropped when it is too old, and goes on otherwise. -/
theorem Dev.arrive_write (hcrc : p.crcOk = true) (hok : requestOk p = true) (hs : d.tp.service.isSome = true) :
    d.arrive p = if d.ageLimit < d.ageOf (hFst p.hdr) then (d.latchTp p.hdr 3).raise evTpStaleDrop p.port
      else d.arriveFrom4 p := by
  obtain ⟨-, -, -, -, hrts, hfin, hask, hgrant, -, hrelay⟩ := write_types hw
  have hform : rtsBad p = false := by simp [rtsBad, hrts, hfin]
  have hlock : lockBad p = false := by simp [lockBad, hask, hgrant]
  simp only [Dev.arrive, hcrc, if_neg hrelay, hform, hok, hlock, Option.isNone_eq_false_iff.2 hs, Bool.not_true,
    Bool.false_eq_true, if_false]

/-- A write looks for the record of its message. -/
theorem Dev.arriveFrom4_write_known {r : TgtRec} (hr : d.recFor p.hdr = some r) : d.arriveFrom4 p = d.knownArrival r p := by
  obtain ⟨hget, -, -, -, -, -, -, -, hfill, -⟩ := write_types hw
  simp only [Dev.arriveFrom4, if_neg (not_or.2 ⟨hget, hfill⟩), hr]

/-- The first packet of a write's message goes to its context. -/
theorem Dev.arriveFrom4_write_new (hr : d.recFor p.hdr = none) (hoff : hOffset p.hdr = 0) :
    d.arriveFrom4 p = d.contextThen p (fun d => d.admitArrival p) := by
  obtain ⟨hget, -, -, -, -, -, -, -, hfill, -⟩ := write_types hw
  simp [Dev.arriveFrom4, hget, hfill, hr, hoff]

/-- A write whose context is on die goes on at once. -/
theorem Dev.contextThen_write {c : EpCtx} (go : Dev → Dev) (hc : d.ep (hDstEp p.hdr) = some c) (hdie : c.onDie = true) :
    d.contextThen p go = go (d.touch (hDstEp p.hdr)) := by
  obtain ⟨-, -, -, -, -, -, hask, -, -, -⟩ := write_types hw
  simp only [Dev.contextThen, if_neg hask, hc, hdie, if_true]

/-- A write that its endpoint serves, in its order, takes a record and is performed. -/
theorem Dev.admitArrival_write (hserves : d.epServes p.hdr = true) (hearly : d.early p.hdr = false)
    (hprev : d.prevOk p.hdr = true) (hfree : d.recFree = true) :
    d.admitArrival p = (d.putRec (d.newRec p.hdr p.tc)).performRec none (d.newRec p.hdr p.tc) p {} := by
  obtain ⟨hget, hsend, -, hsignal, hrts, -, hask, hgrant, hfill, -⟩ := write_types hw
  have hrecord : recordless p.hdr = false := by simp [recordless, hget, hfill]
  have hslot : needsSlot p.hdr = false := by simp [needsSlot, hsend, hrts, hgrant, hsignal]
  simp only [Dev.admitArrival, if_neg hget, if_neg (not_or.2 ⟨hsend, hrts⟩), decide_eq_false hask, hserves, hearly, hprev,
    hrecord, hfree, hslot, Bool.false_and, Bool.not_true, Bool.or_self, Bool.false_eq_true, if_false]
  rfl

/-- A write's access is that of its payload at its place. -/
theorem Dev.packetAccess_write (r : TgtRec) : d.packetAccess r p =
    some ⟨r.dstEp, hAddr p.hdr + hOffset p.hdr, p.payload.length, .write, true, some (hKey p.hdr), false⟩ :=
  if_pos (hw.imp id .inr)

/-- Performing a write stores its whole payload. -/
theorem Dev.performAccess_write {r : TgtRec} {a : Access} (pieces : List (Nat × Nat)) (hlen : a.len = p.payload.length)
    (hpay : 0 < p.payload.length) : d.performAccess r p a pieces =
      (r, (d.useLeaves a).writeFrom p (d.fnOf r.dstEp) pieces p.payload) := by
  obtain ⟨-, -, hatomic, -, -, -, -, -, -, -⟩ := write_types hw
  have hfn := Dev.fnOf_congr (Dev.useLeaves_hq d a) r.dstEp
  simp only [Dev.performAccess, if_neg hatomic, hlen, if_neg (Nat.ne_of_gt hpay), List.take_length, hfn]

end

/-! ### Steps 4, 9 and 10, and completion (R131, R133, R134) -/

/-- A packet of a completed record is discarded and answered again. -/
theorem Dev.knownArrival_completed {d : Dev} {r : TgtRec} {p : Packet} {status kind : Nat}
    (hr : r.state = .completed status kind) :
    d.knownArrival r p = (d.raise evTpDupDiscard p.port).sendAck p.tc p.hdr status kind r.result := by
  simp only [Dev.knownArrival, hr]

/-- A record of bytes alone that is complete is acknowledged. -/
theorem Dev.signalRec_write {d : Dev} {r : TgtRec} {p : Packet} (f : Found) (hs : r.sig = false)
    (hw : r.type = tyPut ∨ r.type = tyWnWrite) : d.signalRec none r p f = d.endRec r p stOk 0 := by
  obtain ⟨-, hsend, -, -, hrts, hfin, hask, hgrant, -, -⟩ := write_types hw
  simp [Dev.signalRec, Dev.finishRec, Dev.unpark, hs, hsend, hrts, hfin, hask, hgrant]

/-- A record as it stands once the packet of a header is performed (R133, R137). -/
def TgtRec.counted (r : TgtRec) (h : Nat) : TgtRec :=
  { r with
    bitmap := r.bitmap ||| 2 ^ packetBit h, baton := r.baton + hPayLen h,
    firstDone := r.firstDone || decide (hOffset h = 0) }

/-- A packet that carries its whole message fills a fresh record. -/
theorem Dev.newRec_counted {d : Dev} {h tc : Nat} (hoff : hOffset h = 0) (hlen : hPayLen h = hMsgLen h) :
    (d.newRec h tc).counted h = { d.newRec h tc with bitmap := 1, baton := hMsgLen h, firstDone := true } := by
  simp [TgtRec.counted, Dev.newRec, packetBit, hoff, hlen]

/-- A packet that is new to its record and whose access translates is performed and counted; with the last one the record goes
on to its signal. -/
theorem Dev.performRec_accessed {d e : Dev} {slot : Option Nat} {r : TgtRec} {p : Packet} {f : Found} {a : Access}
    {pieces : List (Nat × Nat)} (hnew : flag r.bitmap (packetBit p.hdr) = false) (ha : d.packetAccess r p = some a)
    (hok : d.evalTarget a f = .ok pieces) (hp : d.performAccess r p a pieces = (r, e))
    (hall : (r.counted p.hdr).baton = r.msgLen) :
    d.performRec slot r p f = (e.putRec (r.counted p.hdr)).signalRec slot (r.counted p.hdr) p f := by
  simp only [Dev.performRec, hnew, Bool.false_eq_true, if_false, ha, hok, hp]
  exact if_pos hall

/-- The one packet of a write completes its record. -/
theorem Dev.performRec_write {d e : Dev} {p : Packet} {r r' : TgtRec} {a : Access} {pieces : List (Nat × Nat)} {f : Found}
    (hw : hType p.hdr = tyPut ∨ hType p.hdr = tyWnWrite) (hoff : hOffset p.hdr = 0) (hlen : hPayLen p.hdr = hMsgLen p.hdr)
    (hpay : 0 < p.payload.length) (hr : r = d.newRec p.hdr p.tc)
    (ha : a = ⟨hDstEp p.hdr, hAddr p.hdr + 0, p.payload.length, .write, true, some (hKey p.hdr), false⟩)
    (hok : e.evalTarget a f = .ok pieces) (hr' : r' = { r with bitmap := 1, baton := hMsgLen p.hdr, firstDone := true }) :
    e.performRec none r p f =
      (((e.useLeaves a).writeFrom p (e.fnOf r.dstEp) pieces p.payload).putRec r').endRec r' p stOk 0 := by
  obtain ⟨-, -, -, hsignal, -, -, -, -, -, -⟩ := write_types hw
  have haccess : e.packetAccess r p = some a := by rw [Dev.packetAccess_write hw, ha, hoff, hr]; rfl
  have hnew : flag r.bitmap (packetBit p.hdr) = false := by rw [hr]; exact Nat.zero_testBit _
  have hcounted : r.counted p.hdr = r' := by rw [hr', hr]; exact Dev.newRec_counted hoff hlen
  have hall : r'.baton = r.msgLen := by rw [hr', hr]; rfl
  have hsig : r'.sig = false := by simp [hr', hr, Dev.newRec, hsignal]
  have htype : r'.type = tyPut ∨ r'.type = tyWnWrite := by rw [hr', hr]; exact hw
  rw [Dev.performRec_accessed hnew haccess hok (Dev.performAccess_write hw pieces (by rw [ha]) hpay) (hcounted ▸ hall), hcounted,
    Dev.signalRec_write f hsig htype]

/-! ### The end of a record (R139) -/

/-- A record whose retention has ended is freed in its turn, where the quota of the tick allows. -/
theorem Dev.expireRec_due {d : Dev} {r : TgtRec} (hdue : d.recDue r = true) (hfirst : d.recFirst r = true)
    (hq : d.quotaLeft actExpiry = true) : d.expireRec r = (d.useQuota actExpiry).dropRec r := by
  simp only [Dev.expireRec, hdue, hfirst, Bool.and_self, if_true, Dev.within, hq]

/-- Settles O26: the drops are the branches of `Dev.arrive`, a packet of a completed record comes to `Dev.knownArrival`, and a
write of one packet runs through the steps of R131 to `Dev.performRec_write`. -/
theorem requestsArrive : Obligations.RequestsArrive := by
  have hrun {s : State} {d E : Dev} {p : Packet} (hd : s.begun = d) (h : d.arrive p = E) :
      exec (.requestArrival p) s = .next (s.after E) := runDev_next (f := fun d => d.arrive p) hd h
  refine ⟨fun s d p hd hcrc => hrun hd (Dev.arrive_badCrc hcrc),
    fun s d p hd hcrc hlo hhi => hrun hd (Dev.arrive_relayType hcrc hlo hhi),
    fun s d p hd hcrc hbad => hrun hd (Dev.arrive_rtsBad hcrc hbad),
    fun s d p hd hcrc hform hrelay hok => hrun hd (Dev.arrive_malformed hcrc hform (by omega) hok), ?stale, ?answered,
    ?written, ?expired⟩
  case stale =>
    intro s d p hd hcrc hok ht hs hage
    exact hrun hd ((Dev.arrive_write (.inl ht) hcrc hok hs).trans (if_pos hage))
  case answered =>
    intro s d p r status kind hd hcrc hok ht hs hage hr hstate
    refine hrun hd ?_
    rw [Dev.arrive_write (.inl ht) hcrc hok hs, if_neg (Nat.not_lt.2 hage), Dev.arriveFrom4_write_known (.inl ht) hr,
      Dev.knownArrival_completed hstate]
  case written =>
    intro s d d1 p c r r' a pieces hd hcrc hok hw hs hage hnew hoff hlen hpay hc hdie h1 hserves hearly hprev hfree hr ha heval
      hr' e he
    have harrive : d.arrive p = e := calc
      d.arrive p = d.arriveFrom4 p := (Dev.arrive_write hw hcrc hok hs).trans (if_neg (Nat.not_lt.2 hage))
      _ = d.contextThen p (fun d => d.admitArrival p) := Dev.arriveFrom4_write_new hw hnew hoff
      _ = d1.admitArrival p := (Dev.contextThen_write hw _ hc hdie).trans (by rw [h1])
      _ = (d1.putRec r).performRec none r p {} := by rw [Dev.admitArrival_write hw hserves hearly hprev hfree, hr]
      _ = e := (Dev.performRec_write hw hoff hlen hpay hr ha heval hr').trans he.symm
    exact ⟨fun _ => hrun hd harrive, fun ht => runDev_ofType hd ht harrive⟩
  case expired =>
    intro s d node id fst r hd hr hdue hfirst hq
    refine runDev_next (f := fun d => d.onRec node id fst (fun d r => d.expireRec r)) hd ?_
    simp only [Dev.onRec, hr, Dev.expireRec_due hdue hfirst hq]

end Sys2Proof.Machine

/-! SUPPORT. Relay groups (R170, R171): ENABLE, DISABLE and ABORT as a write of RL_GRP_CMD gives them. -/

namespace Sys2Proof.Machine

/-! ### RL_GRP_CMD (R170, R171) -/

section
variable {d : Dev} {v g : Nat}

/-- A core's write of RL_GRP_CMD is a command of the selected group. -/
theorem Dev.coreWrite_rlGrpCmd (hp : 9 ≤ d.bt.phase) (hv : v < 2 ^ 32) : d.coreWrite rRlGrpCmd 0 v = d.rlCmdWrite v :=
  Dev.coreWrite_does hp rRlGrpCmd (by decide) hv (by decide) rfl

/-- The value 1 is ENABLE. -/
theorem Dev.rlCmdWrite_enable (h : field v 0 2 = 1) : d.rlCmdWrite v = d.rlEnable (d.fld rRlGrpSel 0 12) := by
  simp only [Dev.rlCmdWrite, h]

/-- The value 2 is DISABLE. -/
theorem Dev.rlCmdWrite_disable (h : field v 0 2 = 2) : d.rlCmdWrite v = d.rlDisable (d.fld rRlGrpSel 0 12) := by
  simp only [Dev.rlCmdWrite, h]

/-- The value 3 is ABORT. -/
theorem Dev.rlCmdWrite_abort (h : field v 0 2 = 3) : d.rlCmdWrite v = d.rlAbortCmd (d.fld rRlGrpSel 0 12) := by
  simp only [Dev.rlCmdWrite, h]

/-- ENABLE that no check refuses makes the group READY. -/
theorem Dev.rlEnable_accepted (h : d.rlEnableCode g = 0) : d.rlEnable g = d.setRlGroup g { state := .ready } :=
  if_pos h

/-- ENABLE that a check refuses leaves its code and the event. -/
theorem Dev.rlEnable_refused (h : d.rlEnableCode g ≠ 0) : d.rlEnable g = d.rlRefuse g (d.rlEnableCode g) :=
  if_neg h

/-- DISABLE of a group that is READY or ABORTED turns it OFF, and its waiting commands complete. -/
theorem Dev.rlDisable_accepted (h : (d.rlGroup g).state = .ready ∨ (d.rlGroup g).state = .aborted) {d' : Dev}
    (hd' : d' = { d.setRlGroup g {} with rl := { (d.setRlGroup g {}).rl with
      msgs := d.rl.msgs.filter (fun m => m.group != g || m.type == tyRlAbort) } }) :
    d.rlDisable g = (forEach (d.rlGroup g).waits (fun (w : RlMember × Nat) d => match d.findCmd w.1.ep w.1.index w.1.lap with
      | some c => d.cmdDone c stGroupOff 0 0 0
      | none => d) d').clearFence .rlGroup g := by
  subst hd'
  exact if_pos h

/-- DISABLE of a group that is OFF or RUNNING is refused. -/
theorem Dev.rlDisable_refused (h : (d.rlGroup g).state = .off ∨ (d.rlGroup g).state = .running) :
    d.rlDisable g = d.rlRefuse g 1 := by
  refine if_neg ?_
  rcases h with h | h <;> rw [h] <;> decide

/-- ABORT of a group in service is a cause of an abort with reason MGMT. -/
theorem Dev.rlAbortCmd_accepted (h : (d.rlGroup g).active = true) :
    d.rlAbortCmd g = (d.setRlGroup g { d.rlGroup g with refuse := 0 }).rlCause g raMgmt d.node 0 false none :=
  if_pos h

/-- ABORT of a group out of service is refused. -/
theorem Dev.rlAbortCmd_refused (h : (d.rlGroup g).active = false) : d.rlAbortCmd g = d.rlRefuse g 1 :=
  if_neg (Bool.eq_false_iff.1 h)

end

/-- Settles O28: a write of RL_GRP_CMD comes to the command its value names, and that to its effect or to `Dev.rlRefuse`. -/
theorem relayGroupCommands : Obligations.RelayGroupCommands := by
  intro s d v g hd hp hv hg
  subst hg
  have hrun {E : Dev} (h : d.rlCmdWrite v = E) : runDev s (fun d => d.coreWrite rRlGrpCmd 0 v) = .next (s.after E) :=
    runDev_next hd ((Dev.coreWrite_rlGrpCmd hp hv).trans h)
  refine ⟨fun hc hok => ?enabled, fun hc hbad => ?enableRefused, fun d' hc hstate hd' => ?disabled,
    fun hc hstate => ?disableRefused, fun hc hactive => ?aborted, fun hc hactive => ?abortRefused⟩
  case enabled => exact hrun ((Dev.rlCmdWrite_enable hc).trans (Dev.rlEnable_accepted hok))
  case enableRefused => exact hrun ((Dev.rlCmdWrite_enable hc).trans (Dev.rlEnable_refused hbad))
  case disabled => exact hrun ((Dev.rlCmdWrite_disable hc).trans (Dev.rlDisable_accepted hstate hd'))
  case disableRefused => exact hrun ((Dev.rlCmdWrite_disable hc).trans (Dev.rlDisable_refused hstate))
  case aborted => exact hrun ((Dev.rlCmdWrite_abort hc).trans (Dev.rlAbortCmd_accepted hactive))
  case abortRefused => exact hrun ((Dev.rlCmdWrite_abort hc).trans (Dev.rlAbortCmd_refused hactive))

end Sys2Proof.Machine

/-! SUPPORT. What Relay does in time (R183, R184, R191, R192, R195): a due step closes, a wait sends a probe, a detected failure
aborts its group, a message is reissued or its peer is lost. -/

namespace Sys2Proof.Machine

/-! ### The close of a step (R183, R184) -/

section
variable {d : Dev} {g : Nat} {x : RlStep}

/-- A step may close that is due since another tick, at a boundary of the mode, and that no abort of an earlier tick
overrides. -/
theorem Dev.rlMayClose_iff : d.rlMayClose g x = true ↔ x.phase = .due ∧ x.since ≠ d.now ∧
    (d.st.conserv = true → d.now % 2 = 0) ∧ ∀ c, (d.rlGroup g).cause = some c → c.at_ = d.now := by
  have hmode : (!d.st.conserv || decide (d.now % 2 = 0)) = true ↔ (d.st.conserv = true → d.now % 2 = 0) := by
    cases d.st.conserv <;> simp
  have hcause : (match (d.rlGroup g).cause with | some c => decide (c.at_ = d.now) | none => true) = true ↔
      ∀ c, (d.rlGroup g).cause = some c → c.at_ = d.now := by
    cases (d.rlGroup g).cause <;> simp
  unfold Dev.rlMayClose
  rw [Bool.and_eq_true, Bool.and_eq_true, Bool.and_eq_true, decide_eq_true_iff, decide_eq_true_iff, hmode]
  exact ⟨fun ⟨⟨⟨hdue, hsince⟩, hm⟩, hc⟩ => ⟨hdue, hsince, hm, hcause.1 hc⟩,
    fun ⟨hdue, hsince, hm, hc⟩ => ⟨⟨⟨hdue, hsince⟩, hm⟩, hcause.2 hc⟩⟩

/-- An entry of the list of due steps is ready where its step is open and may close. -/
theorem Dev.rlReady_iff {e : Nat × Nat} :
    d.rlReady e = true ↔ ∃ x, (d.rlGroup e.1).step e.2 = some x ∧ d.rlMayClose e.1 x = true := by
  unfold Dev.rlReady
  cases (d.rlGroup e.1).step e.2 <;> simp

/-- The first step that may close does, where the quota of the tick allows. -/
theorem Dev.stepClose_ready {e : Nat × Nat} (he : firstThat d.rl.due d.rlReady = some e)
    (hx : (d.rlGroup e.1).step e.2 = some x) (hq : d.quotaLeft actRelay = true) : d.stepClose =
      ({ d.useQuota actRelay with rl := { d.rl with due := d.rl.due.filter (fun y => y != e) } }).rlClose e.1 x := by
  simp only [Dev.stepClose, he, hx, Dev.within, hq, if_true]
  rfl

/-- With no step that may close, or no quota left, none does. -/
theorem Dev.stepClose_nothing (h : firstThat d.rl.due d.rlReady = none ∨ d.quotaLeft actRelay = false) : d.stepClose = d := by
  unfold Dev.stepClose
  split
  · rfl
  · next e he =>
    split
    · rfl
    · rcases h with hnone | hq
      · rw [hnone] at he; cases he
      · exact if_neg (Bool.eq_false_iff.1 hq)

/-- The root finishes the result of a step and delivers it. -/
theorem Dev.rlClose_root {r : Nat} {o : Bool} (hr : d.rlRoot g = true)
    (hf : finishAll x.dtype x.op (d.rlCombined g x) = (r, o)) :
    d.rlClose g x = (d.raiseIf o evRlOverflow g).rlDeliver g x (if x.kind = 2 then 0 else r) o := by
  simp only [Dev.rlClose, hr, if_true, hf]

/-- Below the root the partial of a step goes to the parent. -/
theorem Dev.rlClose_below (hr : d.rlRoot g = false) :
    d.rlClose g x = (d.setRlStep g { x with phase := .waitDown, since := d.now }).rlNew
      { d.rlTo g 256 tyRlUp with
        step := x.num, childIndex := d.rlIndexUp g, dtype := x.dtype, op := x.op, kind := x.kind, count := x.count,
        elem := partialBytes x.dtype x.op, data := vector (partialBytes x.dtype x.op) (d.rlCombined g x) } :=
  if_neg (Bool.eq_false_iff.1 hr)

end

/-! ### Probes and aborts (R192, R195) -/

/-- A wait of PROBE ticks, and none sent to the peer within as many, sends a probe. -/
theorem Dev.rlProbe_due {d : Dev} {g peer t : Nat} (hw : d.rlWaitsOn g peer = some t) (ht : d.rlProbeTicks ≤ d.since t)
    (hlast : ∀ u, Tbl.get none (d.rlGroup g).probed peer = some u → d.rlProbeTicks ≤ d.since u)
    (ha : (d.rlGroup g).active = true) :
    d.rlProbe g peer = (d.setRlGroup g { d.rlGroup g with
      probed := Tbl.put none peer (some d.now) (d.rlGroup g).probed }).rlNew (d.rlTo g peer tyRlProbe) := by
  unfold Dev.rlProbe
  rw [hw]
  refine if_pos ?_
  cases hu : Tbl.get none (d.rlGroup g).probed peer with
  | none => simp [ht, ha]
  | some u => simp [ht, hlast u hu, ha]

/-- A group in service with a cause of an earlier tick aborts. -/
theorem Dev.rlAbortBoundary_due {d : Dev} {g : Nat} {c : RlCause} (hc : (d.rlGroup g).cause = some c)
    (ha : (d.rlGroup g).active = true) (ht : c.at_ ≠ d.now) : d.rlAbortBoundary g = d.rlAbort g c := by
  simp only [Dev.rlAbortBoundary, hc, ha, decide_eq_true ht, Bool.and_self, if_true]

/-! ### The messages of Relay (R191) -/

section
variable {d : Dev} {m : RlMsg}

/-- A message that has its MSG_ID leaves again as it is, and its timeout starts anew. -/
theorem Dev.rlSend_again {t : Nat} (hid : m.id = some t) :
    d.rlSend m = (d.setRlMsg { m with lastSend := d.now, rtoFrom := d.now, backoff := none }).rlEmit
      { m with lastSend := d.now, rtoFrom := d.now, backoff := none } := by
  simp only [Dev.rlSend, hid]

/-- What acts on the message of a number acts on the one that is found. -/
theorem Dev.onRlMsg_found {num : Nat} (h : firstThat d.rl.msgs (fun m => m.num == num) = some m) (f : Dev → RlMsg → Dev) :
    d.onRlMsg num f = f d m := by
  simp only [Dev.onRlMsg, h]

/-- A timeout within the retry budget and the age reissues the message with the next ATTEMPT. -/
theorem Dev.rlTimeout_reissues {t : Nat} (hid : m.id = some t) (hb : m.backoff = none) (ht : d.rlRto ≤ d.since m.rtoFrom)
    (hn : m.attempt < d.rlRetryMax) (ha : d.since m.fst < d.lmax) :
    d.rlTimeout m = (d.raise evRlRlRetransmit m.group).rlSend { m with attempt := m.attempt + 1 } := by
  have hyoung : ¬ d.rlAgeLimit ≤ d.since m.fst := by unfold Dev.rlAgeLimit; omega
  have hdue : ¬ (m.backoff.isSome = true ∨ d.since m.rtoFrom < d.rlRto) := by simp [hb, ht]
  unfold Dev.rlTimeout
  rw [if_neg (by simp [hid]), if_neg hyoung, if_neg hdue, if_neg (Nat.not_le.2 hn), if_neg (Nat.not_le.2 ha)]

/-- At the age limit, or at a timeout with the retry budget spent, the peer is lost. -/
theorem Dev.rlTimeout_lost {t : Nat} (hid : m.id = some t) (h : d.rlAgeLimit ≤ d.since m.fst ∨
      (m.backoff = none ∧ d.rlRto ≤ d.since m.rtoFrom ∧ d.rlRetryMax ≤ m.attempt)) : d.rlTimeout m = d.rlLost m := by
  unfold Dev.rlTimeout
  rw [if_neg (by simp [hid])]
  split
  · rfl
  · next hyoung =>
    obtain ⟨hb, ht, hn⟩ := h.resolve_left hyoung
    rw [if_neg (by simp [hb, ht]), if_pos hn]

/-- An RL_ABORT that is given up makes no cause. -/
theorem Dev.rlLost_abort (h : m.type = tyRlAbort) : d.rlLost m = d.dropRlMsg m.num :=
  if_pos h

/-- Any other message that is given up makes its peer lost. -/
theorem Dev.rlLost_peer (h : m.type ≠ tyRlAbort) : d.rlLost m =
    (d.dropRlMsg m.num).rlCause m.group (if m.peer = 256 then raParentLost else raChildLost) d.node m.node false
      (some m.peer) :=
  if_neg h

end

/-- Settles O29: a due step comes to `Dev.rlClose` and `Dev.rlDeliver`, a wait to its probe, a cause to `Dev.rlAbort`, and the
timeout of a message to another copy or to `Dev.rlLost`. -/
theorem relaySteps : Obligations.RelaySteps := by
  have htimeout {s : State} {d E : Dev} {num : Nat} {m : RlMsg} (hd : s.begun = d)
      (hm : firstThat d.rl.msgs (fun m => m.num == num) = some m) (h : d.rlTimeout m = E) :
      exec (.rlRetransmit num) s = .next (s.after E) :=
    runDev_next (f := fun d => d.onRlMsg num (fun d m => d.rlTimeout m)) hd ((Dev.onRlMsg_found hm _).trans h)
  refine ⟨?closes, ?nothing, ?ready, fun d g r o x => Dev.rlClose_root, fun d g x => Dev.rlClose_below, ?delivers, ?probe,
    ?boundary, ?abort, ?reissue, ?lost, fun d m t => Dev.rlSend_again⟩
  case closes =>
    intro s d e x hd he hx hq
    exact runDev_next (f := fun d => d.stepClose) hd (Dev.stepClose_ready he hx hq)
  case nothing =>
    intro s d hd h
    exact runDev_next (f := fun d => d.stepClose) hd (Dev.stepClose_nothing h)
  case ready =>
    intro d e
    simp only [Dev.rlReady_iff, Dev.rlMayClose_iff]
  case delivers =>
    rintro d d1 d2 g r o x remote rfl rfl rfl
    rfl
  case probe =>
    rintro s d g peer t x hd rfl hw ht hlast ha
    exact runDev_next (f := fun d => d.rlProbe g peer) hd (Dev.rlProbe_due hw ht hlast ha)
  case boundary =>
    intro s d g c hd hc ha ht
    exact runDev_next (f := fun d => d.rlAbortBoundary g) hd (Dev.rlAbortBoundary_due hc ha ht)
  case abort =>
    rintro d d1 d2 d3 d4 d5 d6 g c x peers rfl rfl rfl rfl rfl rfl rfl rfl
    rfl
  case reissue =>
    intro s d num t m hd hm hid hb ht hn ha
    exact htimeout hd hm (Dev.rlTimeout_reissues hid hb ht hn ha)
  case lost =>
    intro s d num t m hd hm hid h
    have hlost := Dev.rlTimeout_lost hid h
    exact ⟨fun ht => htimeout hd hm (hlost.trans (Dev.rlLost_abort ht)),
      fun ht => htimeout hd hm (hlost.trans (Dev.rlLost_peer ht))⟩

end Sys2Proof.Machine

/-! SUPPORT. Relay messages that arrive (R187, R190 to R195): the checks every one passes, the rows of R190, a packet that is
combined or delivered, and what replies, probes and RL_ABORTs do. -/

namespace Sys2Proof.Machine

/-! ### The checks and the rows of R190 (R187, R190) -/

section
variable {d : Dev} {p : Packet}

/-- A Relay message that passes its checks acts as its type says. -/
theorem Dev.rlArrive_checked {type : Nat} {act : Dev → Dev} (hcrc : p.crcOk = true) (hform : rlFormOk p = true)
    (hage : d.ageOf (hFst p.hdr) ≤ d.ageLimit) (ht : hType p.hdr = type) : d.rlArrive p type act = act d := by
  simp only [Dev.rlArrive, hcrc, hform, if_neg (Nat.not_lt.2 hage), if_pos ht, Bool.not_true, Bool.false_eq_true, if_false]

/-- A message of another GEN is not ready, and reported as stale. -/
theorem Dev.rlRows_stale {rest : Dev → Dev} (h : rGen p.hdr ≠ d.rlGen (rGroup p.hdr)) :
    d.rlRows p rest = (d.raise evRlGenStale (rGroup p.hdr)).rlNotReady p := by
  simp [Dev.rlRows, Dev.rlUnready, Dev.raiseIf, h]

/-- A message of this GEN for a group that is OFF, or for a step beyond the window, is not ready. -/
theorem Dev.rlRows_unready {rest : Dev → Dev} (hg : rGen p.hdr = d.rlGen (rGroup p.hdr)) (h : d.rlUnready p.hdr = true) :
    d.rlRows p rest = d.rlNotReady p := by
  simp [Dev.rlRows, Dev.raiseIf, hg, h]

/-- An aborted group acknowledges. -/
theorem Dev.rlRows_aborted {rest : Dev → Dev} (h : d.rlUnready p.hdr = false)
    (ha : (d.rlGroup (rGroup p.hdr)).state = .aborted) : d.rlRows p rest = d.rlAckTo p := by
  simp [Dev.rlRows, h, ha]

/-- Any other group takes the message. -/
theorem Dev.rlRows_taken {rest : Dev → Dev} (h : d.rlUnready p.hdr = false)
    (ha : (d.rlGroup (rGroup p.hdr)).state ≠ .aborted) : d.rlRows p rest = rest d := by
  simp [Dev.rlRows, h, ha]

end

/-! ### A packet of an RL_UP (R182, R189, R190) -/

/-- The packet comes from the node of a remote child of its group. -/
def Dev.rlFromChild (d : Dev) (h : Nat) : Prop :=
  rChild h < d.rlCount (rGroup h) ∧ d.rlIsLocal (rGroup h) (rChild h) = false ∧
    d.rlChildNode (rGroup h) (rChild h) = hSrcNode h

/-- A child's part with the packet counted in. -/
def RlPart.counted (q : RlPart) (p : Packet) : RlPart :=
  { q with
    bitmap := q.bitmap ||| 2 ^ rlPacketNo p.hdr, baton := q.baton + hPayLen p.hdr,
    data := q.data + ofBytes p.payload * 2 ^ (8 * hOffset p.hdr),
    full := decide (q.baton + hPayLen p.hdr = hMsgLen p.hdr) }

/-- A packet combined into a step of its group, or found to disagree with it. -/
def Dev.rlCombine (d : Dev) (p : Packet) (st : RlStep) : Dev :=
  let h := p.hdr
  if st.agrees (rKind h) (rDtype h) (rOp h) (rCount h) then
    let q := (st.part (rChild h)).counted p
    if q.full then (d.rlAddPart (rGroup h) st q).rlAckTo p else d.rlAddPart (rGroup h) st q
  else d.rlCause (rGroup h) raMismatch d.node 0 false none

/-- The step that the packet of a header opens. -/
def Dev.rlOpened (d : Dev) (h : Nat) : RlStep :=
  { num := rStep h, kind := rKind h, dtype := rDtype h, op := rOp h, count := rCount h, openedAt := d.now }

/-- The reserve has room for what a packet needs. -/
def Dev.rlRoomFor (d : Dev) (h : Nat) : Bool :=
  d.rlRoom ((d.rlGroup (rGroup h)).needs (rStep h) (rDtype h) (rOp h) (rCount h) (rChild h) (hPayLen h))

/-- A group stored in a state other than OFF is read back. -/
theorem Dev.rlGroup_setRlGroup_on (d : Dev) (g : Nat) {x : RlGroup} (h : x.state ≠ .off) : (d.setRlGroup g x).rlGroup g = x :=
  Tbl.get_put_of_ne (mt (congrArg RlGroup.state) h) _ _

/-- A step just opened is found in its group. -/
theorem Dev.step_rlOpen (d : Dev) {g k : Nat} (kind dtype op count : Nat) (h : (d.rlGroup g).step k = none) :
    ((d.rlOpen g k kind dtype op count).rlGroup g).step k =
      some { num := k, kind := kind, dtype := dtype, op := op, count := count, openedAt := d.now } := by
  have hstored : (d.rlOpen g k kind dtype op count).rlGroup g = { d.rlGroup g with
      state := .running, steps := (d.rlGroup g).steps ++
        [{ num := k, kind := kind, dtype := dtype, op := op, count := count, openedAt := d.now }] } :=
    Dev.rlGroup_setRlGroup_on d g (by simp)
  rw [hstored]
  exact firstThat_append_one (p := fun s : RlStep => s.num == k) (beq_self_eq_true k) h

section
variable {d : Dev} {p : Packet} {st : RlStep}

/-- A packet that agrees with its step joins its child's part; the last one is acknowledged. -/
theorem Dev.rlCombine_agrees (h : st.agrees (rKind p.hdr) (rDtype p.hdr) (rOp p.hdr) (rCount p.hdr) = true) {q : RlPart}
    (hq : q = (st.part (rChild p.hdr)).counted p) :
    d.rlCombine p st = if q.full then (d.rlAddPart (rGroup p.hdr) st q).rlAckTo p else d.rlAddPart (rGroup p.hdr) st q := by
  subst hq
  exact if_pos h

/-- A packet that disagrees with its step is a cause of an abort. -/
theorem Dev.rlCombine_disagrees (h : st.agrees (rKind p.hdr) (rDtype p.hdr) (rOp p.hdr) (rCount p.hdr) = false) :
    d.rlCombine p st = d.rlCause (rGroup p.hdr) raMismatch d.node 0 false none :=
  if_neg (Bool.eq_false_iff.1 h)

/-- A packet from a remote child passes the check of its source. -/
theorem Dev.rlFromChild_passes {h : Nat} (hfrom : d.rlFromChild h) : ¬ (d.rlCount (rGroup h) ≤ rChild h ∨
    d.rlIsLocal (rGroup h) (rChild h) = true ∨ d.rlChildNode (rGroup h) (rChild h) ≠ hSrcNode h) := by
  obtain ⟨hcount, hremote, hnode⟩ := hfrom
  simp [hcount, hremote, hnode]

/-- A packet of a finished step is acknowledged again. -/
theorem Dev.rlTakeUp_finished (hfrom : d.rlFromChild p.hdr) (hf : (d.rlGroup (rGroup p.hdr)).isFinished (rStep p.hdr) = true) :
    d.rlTakeUp p = (d.raise evRlDupDiscard (rGroup p.hdr)).rlAckTo p := by
  simp only [Dev.rlTakeUp, if_neg (Dev.rlFromChild_passes hfrom), hf, Bool.true_or, if_true]

/-- A packet of a new step that the reserve has no room for is refused. -/
theorem Dev.rlTakeUp_noRoom (hfrom : d.rlFromChild p.hdr)
    (hf : (d.rlGroup (rGroup p.hdr)).isFinished (rStep p.hdr) = false)
    (hst : (d.rlGroup (rGroup p.hdr)).step (rStep p.hdr) = none) (hroom : d.rlRoomFor p.hdr = false) :
    d.rlTakeUp p = d.rlNoRoom p := by
  unfold Dev.rlRoomFor at hroom
  simp only [Dev.rlTakeUp, if_neg (Dev.rlFromChild_passes hfrom), hf, hst, hroom, Bool.or_self, Bool.not_false,
    Bool.false_eq_true, if_false, if_true]

/-- A new packet of an open step, with room, is combined there. -/
theorem Dev.rlTakeUp_joins (hfrom : d.rlFromChild p.hdr)
    (hf : (d.rlGroup (rGroup p.hdr)).isFinished (rStep p.hdr) = false) (hroom : d.rlRoomFor p.hdr = true)
    (hst : (d.rlGroup (rGroup p.hdr)).step (rStep p.hdr) = some st)
    (hnew : flag (st.part (rChild p.hdr)).bitmap (rlPacketNo p.hdr) = false) : d.rlTakeUp p = d.rlCombine p st := by
  unfold Dev.rlRoomFor at hroom
  simp only [Dev.rlTakeUp, if_neg (Dev.rlFromChild_passes hfrom), hf, hst, hnew, hroom, Bool.or_self, Bool.not_true,
    Bool.false_eq_true, if_false, Option.isNone_some]
  rfl

/-- A packet of a new step, with room, opens it and is combined there. -/
theorem Dev.rlTakeUp_opens (hfrom : d.rlFromChild p.hdr)
    (hf : (d.rlGroup (rGroup p.hdr)).isFinished (rStep p.hdr) = false) (hroom : d.rlRoomFor p.hdr = true)
    (hst : (d.rlGroup (rGroup p.hdr)).step (rStep p.hdr) = none) :
    d.rlTakeUp p = (d.rlOpen (rGroup p.hdr) (rStep p.hdr) (rKind p.hdr) (rDtype p.hdr) (rOp p.hdr) (rCount p.hdr)).rlCombine p
      (d.rlOpened p.hdr) := by
  unfold Dev.rlRoomFor at hroom
  simp only [Dev.rlTakeUp, if_neg (Dev.rlFromChild_passes hfrom), hf, hst, hroom, Bool.or_self, Bool.not_true,
    Bool.false_eq_true, if_false, Option.isNone_none, if_true, d.step_rlOpen _ _ _ _ hst]
  rfl

end

/-! ### A packet of an RL_DOWN (R184, R189, R190) -/

/-- A step with the packet of its result counted in. -/
def RlStep.countedDown (st : RlStep) (p : Packet) : RlStep :=
  { st with
    downBitmap := st.downBitmap ||| 2 ^ rlPacketNo p.hdr, downBaton := st.downBaton + hPayLen p.hdr,
    result := st.result + ofBytes p.payload * 2 ^ (8 * hOffset p.hdr) }

section
variable {d : Dev} {p : Packet} (hroot : d.rlRoot (rGroup p.hdr) = false) (hparent : d.rlParent (rGroup p.hdr) = hSrcNode p.hdr)
  (hindex : d.rlIndexUp (rGroup p.hdr) = rChild p.hdr)
include hroot hparent hindex

/-- A packet from the parent of a finished step is acknowledged again. -/
theorem Dev.rlTakeDown_finished (hf : (d.rlGroup (rGroup p.hdr)).isFinished (rStep p.hdr) = true) :
    d.rlTakeDown p = (d.raise evRlDupDiscard (rGroup p.hdr)).rlAckTo p := by
  simp [Dev.rlTakeDown, hroot, hparent, hindex, hf]

/-- A new packet from the parent of a step that waits for it and agrees is taken; the last one is acknowledged and the result
delivered. -/
theorem Dev.rlTakeDown_taken {st : RlStep} (hf : (d.rlGroup (rGroup p.hdr)).isFinished (rStep p.hdr) = false)
    (hst : (d.rlGroup (rGroup p.hdr)).step (rStep p.hdr) = some st)
    (hnew : flag st.downBitmap (rlPacketNo p.hdr) = false) (hphase : st.phase = .waitDown)
    (hagrees : st.agrees (rKind p.hdr) (rDtype p.hdr) (rOp p.hdr) (rCount p.hdr) = true) :
    d.rlTakeDown p = if (st.countedDown p).downBaton = hMsgLen p.hdr then
      ((d.setRlStep (rGroup p.hdr) (st.countedDown p)).rlAckTo p).rlDeliver (rGroup p.hdr) (st.countedDown p)
        (st.countedDown p).result (rOverflow p.hdr)
    else d.setRlStep (rGroup p.hdr) (st.countedDown p) := by
  have hwaits : ¬ st.phase ≠ .waitDown := not_not_intro hphase
  simp only [Dev.rlTakeDown, hroot, hparent, hindex, hf, hst, hnew, if_neg hwaits, hagrees, ne_eq, not_true_eq_false,
    Bool.false_eq_true, or_self, Bool.not_true, if_false]
  rfl

end

/-! ### Replies, probes and aborts (R184, R190 to R195) -/

section
variable {d : Dev} {p : Packet} (hcrc : p.crcOk = true) (hform : rlFormOk p = true) (hage : d.ageOf (hFst p.hdr) ≤ d.ageLimit)
include hcrc hform hage

section
variable {m : RlMsg} (hm : d.rlNamed p.hdr = some m)
include hm

/-- An RL_ACK of a message that is no RL_DOWN ends it. -/
theorem Dev.rlAckArrive_other (ht : hType p.hdr = tyRlAck) (hty : m.type ≠ tyRlDown) : d.rlAckArrive p = d.dropRlMsg m.num := by
  refine (Dev.rlArrive_checked hcrc hform hage ht).trans ?_
  simp only [hm, if_neg hty]

/-- An RL_ACK of an RL_DOWN ends it and counts for its step, where that is open. -/
theorem Dev.rlAckArrive_down {st : RlStep} (ht : hType p.hdr = tyRlAck) (hty : m.type = tyRlDown)
    (hst : (d.rlGroup m.group).step m.step = some st) : d.rlAckArrive p =
      ((d.dropRlMsg m.num).setRlStep m.group { st with acks := st.acks.filter (· != m.peer) }).rlFree m.group m.step := by
  have hst' : ((d.dropRlMsg m.num).rlGroup m.group).step m.step = some st := hst
  refine (Dev.rlArrive_checked hcrc hform hage ht).trans ?_
  simp only [hm, if_pos hty, hst']

/-- An RL_ACK whose step is no longer open ends its message. -/
theorem Dev.rlAckArrive_closed (ht : hType p.hdr = tyRlAck) (hst : (d.rlGroup m.group).step m.step = none) :
    d.rlAckArrive p = d.dropRlMsg m.num := by
  have hst' : ((d.dropRlMsg m.num).rlGroup m.group).step m.step = none := hst
  refine (Dev.rlArrive_checked hcrc hform hage ht).trans ?_
  simp only [hm, hst', ite_self]

/-- An RL_NACK delays its message. -/
theorem Dev.rlNackArrive_named (ht : hType p.hdr = tyRlNack) : d.rlNackArrive p = d.setRlMsg { m with
    backoff := some ((m.lastSend + rHint p.hdr) % 2 ^ 48), rtoFrom := d.now,
    attempt := m.attempt + (if hSub p.hdr = 1 then 1 else 0) } := by
  refine (Dev.rlArrive_checked hcrc hform hage ht).trans ?_
  simp only [hm]

/-- What an RL_PROBE_ACK does once its message has ended: a peer that is OFF or of another GEN, or aborted, is a cause. -/
theorem Dev.rlProbeAckArrive_named (ht : hType p.hdr = tyRlProbeAck) : d.rlProbeAckArrive p =
    if rState p.hdr = 0 ∨ rGen p.hdr ≠ m.gen then (d.dropRlMsg m.num).rlCause m.group raPeerOff d.node 0 false none
    else if rState p.hdr = 3 then (d.dropRlMsg m.num).rlCause m.group (hSub p.hdr) (rOrigin p.hdr) 0 false none
    else d.dropRlMsg m.num := by
  refine (Dev.rlArrive_checked hcrc hform hage ht).trans ?_
  simp only [hm]
  rfl

end

/-- An RL_PROBE is answered with the state of its group, whatever that is. -/
theorem Dev.rlProbeArrive_checked (ht : hType p.hdr = tyRlProbe) {x : RlGroup} (hx : d.rlGroup (rGroup p.hdr) = x) :
    d.rlProbeArrive p = (d.raiseIf (decide (rGen p.hdr ≠ d.rlGen (rGroup p.hdr))) evRlGenStale (rGroup p.hdr)).rlReply p
      tyRlProbeAck x.reason (if x.state = .aborted then x.abortStep else x.oldest) x.origin 0 x.state.code := by
  subst hx
  exact Dev.rlArrive_checked hcrc hform hage ht

/-- An RL_ABORT is acknowledged; one of another GEN is stale, any other a cause. -/
theorem Dev.rlAbortArrive_checked (ht : hType p.hdr = tyRlAbort) : d.rlAbortArrive p =
    if rGen p.hdr ≠ d.rlGen (rGroup p.hdr) then (d.rlAckTo p).raise evRlGenStale (rGroup p.hdr)
    else (d.rlAckTo p).rlCause (rGroup p.hdr) (hSub p.hdr) (rOrigin p.hdr) (rFailed p.hdr)
      (hSub p.hdr == raMemberGone || hSub p.hdr == raMemberFault) none :=
  Dev.rlArrive_checked hcrc hform hage ht

end

/-- Settles O30: every message passes `Dev.rlArrive`; an RL_UP or RL_DOWN goes through the rows of R190 to its step, and a reply
to the message it names. -/
theorem relayArrivals : Obligations.RelayArrivals := by
  rintro s d p g x hd hcrc hform hage rfl rfl
  have hup {E : Dev} (ht : hType p.hdr = tyRlUp) (h : d.rlRows p (fun d => d.rlTakeUp p) = E) :
      exec (.rlUp p) s = .next (s.after E) :=
    runDev_next (f := fun d => d.rlUp p) hd ((Dev.rlArrive_checked hcrc hform hage ht).trans h)
  have hdown {E : Dev} (ht : hType p.hdr = tyRlDown) (h : d.rlRows p (fun d => d.rlTakeDown p) = E) :
      exec (.rlDown p) s = .next (s.after E) :=
    runDev_next (f := fun d => d.rlDown p) hd ((Dev.rlArrive_checked hcrc hform hage ht).trans h)
  refine ⟨fun ht hgen => hup ht (Dev.rlRows_stale hgen), fun ht hready ha => hup ht (Dev.rlRows_aborted hready ha),
    fun ht hgen hun => hup ht (Dev.rlRows_unready hgen hun), ?up, ?down, ?downFinished, fun m hm => ?reply, ?probe,
    ?abortStale, ?abort⟩
  case up =>
    intro ht hready ha hcount hremote hnode
    have hfrom : d.rlFromChild p.hdr := ⟨hcount, hremote, hnode⟩
    have htake {E : Dev} (h : d.rlTakeUp p = E) : exec (.rlUp p) s = .next (s.after E) :=
      hup ht ((Dev.rlRows_taken hready ha).trans h)
    refine ⟨fun hf => htake (Dev.rlTakeUp_finished hfrom hf),
      fun hf hst hroom => htake (Dev.rlTakeUp_noRoom hfrom hf hst hroom), fun d' st q hf hroom hstep => ?_⟩
    have hcombine : d.rlTakeUp p = d'.rlCombine p st := by
      rcases hstep with ⟨hst, hnew, rfl⟩ | ⟨hst, rfl, rfl⟩
      · exact Dev.rlTakeUp_joins hfrom hf hroom hst hnew
      · exact Dev.rlTakeUp_opens hfrom hf hroom hst
    exact ⟨fun hagrees hq => htake (hcombine.trans (Dev.rlCombine_agrees hagrees hq)),
      fun hagrees => htake (hcombine.trans (Dev.rlCombine_disagrees hagrees))⟩
  case down =>
    rintro st st' ht hready ha hroot hparent hindex hf hst hnew hphase hagrees rfl
    exact hdown ht ((Dev.rlRows_taken hready ha).trans
      (Dev.rlTakeDown_taken hroot hparent hindex hf hst hnew hphase hagrees))
  case downFinished =>
    intro ht hready ha hroot hparent hindex hf
    exact hdown ht ((Dev.rlRows_taken hready ha).trans (Dev.rlTakeDown_finished hroot hparent hindex hf))
  case reply =>
    have hack {E : Dev} (h : d.rlAckArrive p = E) : exec (.rlAck p) s = .next (s.after E) :=
      runDev_next (f := fun d => d.rlAckArrive p) hd h
    have hprobeAck {E : Dev} (ht : hType p.hdr = tyRlProbeAck) (h : _ = E) : exec (.rlProbeAck p) s = .next (s.after E) :=
      runDev_next (f := fun d => d.rlProbeAckArrive p) hd ((Dev.rlProbeAckArrive_named hcrc hform hage hm ht).trans h)
    refine ⟨fun ht hty => hack (Dev.rlAckArrive_other hcrc hform hage hm ht hty),
      fun st ht hty hst => hack (Dev.rlAckArrive_down hcrc hform hage hm ht hty hst),
      fun ht hst => hack (Dev.rlAckArrive_closed hcrc hform hage hm ht hst),
      fun ht => runDev_next (f := fun d => d.rlNackArrive p) hd (Dev.rlNackArrive_named hcrc hform hage hm ht),
      fun ht hoff => hprobeAck ht (if_pos hoff), fun ht hstate hgen => hprobeAck ht ?serves,
      fun ht hstate hgen => hprobeAck ht ?aborted⟩
    case serves =>
      rcases hstate with hstate | hstate <;> simp [hstate, hgen]
    case aborted => simp [hstate, hgen]
  case probe =>
    intro ht
    refine runDev_next (f := fun d => d.rlProbeArrive p) hd ((Dev.rlProbeArrive_checked hcrc hform hage ht rfl).trans ?_)
    simp only [Dev.raiseIf, decide_eq_true_eq]
  case abortStale =>
    intro ht hgen
    exact runDev_next (f := fun d => d.rlAbortArrive p) hd
      ((Dev.rlAbortArrive_checked hcrc hform hage ht).trans (if_pos hgen))
  case abort =>
    intro ht hgen
    exact runDev_next (f := fun d => d.rlAbortArrive p) hd
      ((Dev.rlAbortArrive_checked hcrc hform hage ht).trans (if_neg (not_not_intro hgen)))

end Sys2Proof.Machine

/-! SUPPORT. The check bits of table entries (R202, R517): syndrome and overall parity of a word, both linear over XOR, and what
turning over one bit of an entry does to them. -/

namespace Sys2Proof.Machine

/-! ### Check bits are linear over XOR (R517) -/

/-- The lowest bit of an XOR is that of the sum. -/
theorem xor_low_bit (a b : Nat) : (a ^^^ b) % 2 = (a + b) % 2 := by
  have hlow : (a ^^^ b) % 2 = a % 2 ^^^ b % 2 := Nat.xor_mod_two_pow (n := 1)
  rw [hlow, Nat.add_mod]
  rcases Nat.mod_two_eq_zero_or_one a with ha | ha <;> rcases Nat.mod_two_eq_zero_or_one b with hb | hb <;> rw [ha, hb] <;> rfl

/-- The positions of the data bits of an XOR are those of one word or the other. -/
theorem hamming_xor : ∀ (ps : List Nat) (a b : Nat), hamming ps (a ^^^ b) = hamming ps a ^^^ hamming ps b
  | [], _, _ => (Nat.xor_self 0).symm
  | p :: ps, a, b => by
    have hbit : (if (a ^^^ b) % 2 = 1 then p else 0) = (if a % 2 = 1 then p else 0) ^^^ (if b % 2 = 1 then p else 0) := by
      rw [xor_low_bit, Nat.add_mod]
      rcases Nat.mod_two_eq_zero_or_one a with ha | ha <;> rcases Nat.mod_two_eq_zero_or_one b with hb | hb <;>
        simp only [ha, hb, Nat.reduceAdd, Nat.reduceMod, Nat.reduceEqDiff, if_true, if_false, Nat.xor_self, Nat.xor_zero,
          Nat.zero_xor]
    simp only [hamming, Nat.xor_div_two, hamming_xor ps, hbit]
    ac_rfl

/-- The parity of an XOR is the sum of the parities. -/
theorem parity_xor : ∀ n a b : Nat, parity n (a ^^^ b) = (parity n a + parity n b) % 2
  | 0, _, _ => rfl
  | n + 1, a, b => by
    simp only [parity, Nat.xor_div_two, parity_xor n, xor_low_bit]
    omega

/-- A field of an XOR is the XOR of the fields. -/
theorem field_xor (a b lo len : Nat) : field (a ^^^ b) lo len = field a lo len ^^^ field b lo len := by
  rw [field, Nat.shiftRight_xor_distrib, Nat.xor_mod_two_pow]
  rfl

/-- The check bits stay as narrow as the positions. -/
theorem hamming_lt {n : Nat} : ∀ {ps : List Nat} (w : Nat), (∀ p ∈ ps, p < 2 ^ n) → hamming ps w < 2 ^ n
  | [], _, _ => Nat.two_pow_pos n
  | p :: ps, w, h => by
    have hp : (if w % 2 = 1 then p else 0) < 2 ^ n := by
      split
      · exact h p List.mem_cons_self
      · exact Nat.two_pow_pos n
    exact Nat.xor_lt_two_pow hp (hamming_lt _ fun q hq => h q (List.mem_cons_of_mem p hq))

theorem parity_lt_two (n w : Nat) : parity n w < 2 := by
  cases n with
  | zero => exact Nat.two_pos
  | succ n => exact Nat.mod_lt _ Nat.two_pos

/-- The highest bit of a parity can be counted apart. -/
theorem parity_succ_high : ∀ n w : Nat, parity (n + 1) w = (parity n (w % 2 ^ n) + w / 2 ^ n) % 2
  | 0, w => by simp only [parity, Nat.pow_zero, Nat.div_one, Nat.add_zero, Nat.zero_add, Nat.mod_mod]
  | n + 1, w => by
    have hlow : w % 2 ^ (n + 1) % 2 = w % 2 := Nat.mod_mod_of_dvd w ⟨2 ^ n, Nat.pow_succ'⟩
    have hrest : w % 2 ^ (n + 1) / 2 = w / 2 % 2 ^ n := by rw [Nat.pow_succ', Nat.mod_mul_right_div_self]
    have hhigh : w / 2 ^ (n + 1) = w / 2 / 2 ^ n := by rw [Nat.pow_succ', Nat.div_div_eq_div_mul]
    rw [parity, parity_succ_high n, parity, hlow, hrest, hhigh]
    omega

/-! ### Syndrome and overall parity of an entry (R517) -/

/-- The syndrome of a stored entry. -/
def entrySyndrome (w : Nat) : Nat := hamming dataPositions (w % 2 ^ 39) ^^^ (field w 40 7 % 64)

/-- The overall parity of a stored entry. -/
def entryParity (w : Nat) : Nat := (parity 39 (w % 2 ^ 39) + parity 7 (field w 40 7)) % 2

/-- The data bit that a syndrome names, as a word; 0 where it names none. -/
def namedBit (s : Nat) : Nat :=
  match firstThat (upFrom 0 39) (fun i => (dataPositions.getD i 0) == s) with
  | some i => 2 ^ i
  | none => 0

/-- Even parity means no error or one that is not corrected; odd parity means one bit, which the syndrome names. -/
theorem readEntry_eq (w : Nat) : readEntry w =
    if entryParity w = 0 then (if entrySyndrome w = 0 then .good (w % 2 ^ 39) else .bad)
    else if 45 < entrySyndrome w then .bad
    else .corrected (w % 2 ^ 39 ^^^ namedBit (entrySyndrome w)) := by
  have hnamed : (match firstThat (upFrom 0 39) (fun i => (dataPositions.getD i 0) == entrySyndrome w) with
      | some i => EntryRead.corrected (w % 2 ^ 39 ^^^ 2 ^ i)
      | none => .corrected (w % 2 ^ 39)) = .corrected (w % 2 ^ 39 ^^^ namedBit (entrySyndrome w)) := by
    unfold namedBit
    cases firstThat (upFrom 0 39) (fun i => (dataPositions.getD i 0) == entrySyndrome w) with
    | some i => rfl
    | none => rw [Nat.xor_zero]
  rw [← hnamed]
  rfl

theorem entrySyndrome_xor (a b : Nat) : entrySyndrome (a ^^^ b) = entrySyndrome a ^^^ entrySyndrome b := by
  have hecc : (field a 40 7 ^^^ field b 40 7) % 64 = field a 40 7 % 64 ^^^ field b 40 7 % 64 := Nat.xor_mod_two_pow (n := 6)
  simp only [entrySyndrome, Nat.xor_mod_two_pow, hamming_xor, field_xor, hecc]
  ac_rfl

theorem entryParity_xor (a b : Nat) : entryParity (a ^^^ b) = (entryParity a + entryParity b) % 2 := by
  simp only [entryParity, Nat.xor_mod_two_pow, parity_xor, field_xor]
  omega

/-! ### An entry as it is written, and with one bit turned over (R202, R517) -/

/-- The seven check bits are the XOR of the positions, with the parity of everything above it. -/
theorem entryEcc_parts (data : Nat) : entryEcc data % 64 = hamming dataPositions data ∧ entryEcc data < 2 ^ 7 ∧
    parity 7 (entryEcc data) = parity 39 data := by
  have hs : hamming dataPositions data < 2 ^ 6 := hamming_lt data (by decide)
  have hp := parity_lt_two 39 data
  have hecc : entryEcc data =
      hamming dataPositions data + 64 * ((parity 39 data + parity 6 (hamming dataPositions data)) % 2) := rfl
  have hmod : entryEcc data % 2 ^ 6 = hamming dataPositions data := by omega
  have hdiv : entryEcc data / 2 ^ 6 = (parity 39 data + parity 6 (hamming dataPositions data)) % 2 := by omega
  refine ⟨hmod, by omega, ?_⟩
  rw [parity_succ_high, hmod, hdiv]
  omega

theorem withEcc_data {data : Nat} (h : data < 2 ^ 39) : withEcc data % 2 ^ 39 = data := by
  unfold withEcc; omega

theorem withEcc_checkBits {data : Nat} (h : data < 2 ^ 39) : field (withEcc data) 40 7 = entryEcc data := by
  obtain ⟨-, hlt, -⟩ := entryEcc_parts data
  rw [field, withEcc, Nat.mod_eq_of_lt h, Nat.shiftRight_eq_div_pow]
  omega

theorem entrySyndrome_withEcc {data : Nat} (h : data < 2 ^ 39) : entrySyndrome (withEcc data) = 0 := by
  obtain ⟨hmod, -, -⟩ := entryEcc_parts data
  rw [entrySyndrome, withEcc_data h, withEcc_checkBits h, hmod, Nat.xor_self]

theorem entryParity_withEcc {data : Nat} (h : data < 2 ^ 39) : entryParity (withEcc data) = 0 := by
  obtain ⟨-, -, hparity⟩ := entryEcc_parts data
  rw [entryParity, withEcc_data h, withEcc_checkBits h, hparity]
  omega

/-- Each of the 46 bits alone has odd parity and a syndrome in range, which names it if it is a data bit and no bit otherwise. -/
theorem oneBit_named : ∀ i < 47, i ≠ 39 →
    entryParity (2 ^ i) = 1 ∧ entrySyndrome (2 ^ i) ≤ 45 ∧ namedBit (entrySyndrome (2 ^ i)) = 2 ^ i % 2 ^ 39 := by
  decide

/-- An entry as it is written reads back good. -/
theorem readEntry_withEcc {data : Nat} (h : data < 2 ^ 39) : readEntry (withEcc data) = .good data := by
  rw [readEntry_eq, if_pos (entryParity_withEcc h), if_pos (entrySyndrome_withEcc h), withEcc_data h]

/-- An entry with one bit turned over is corrected to what was written. -/
theorem readEntry_withEcc_flipped {data i : Nat} (h : data < 2 ^ 39) (hi : i < 47) (hi' : i ≠ 39) :
    readEntry (withEcc data ^^^ 2 ^ i) = .corrected data := by
  obtain ⟨hparity, hrange, hnamed⟩ := oneBit_named i hi hi'
  have hp : entryParity (withEcc data ^^^ 2 ^ i) = 1 := by rw [entryParity_xor, entryParity_withEcc h, hparity]
  have hs : entrySyndrome (withEcc data ^^^ 2 ^ i) = entrySyndrome (2 ^ i) := by
    rw [entrySyndrome_xor, entrySyndrome_withEcc h, Nat.zero_xor]
  rw [readEntry_eq, hp, hs, if_neg Nat.one_ne_zero, if_neg (Nat.not_lt.2 hrange), hnamed, Nat.xor_mod_two_pow, withEcc_data h,
    Nat.xor_assoc, Nat.xor_self, Nat.xor_zero]

/-- Settles O33: syndrome and parity of a written entry are zero, so those of the entry with one bit turned over are that
bit's own. -/
theorem tableEntriesAreCorrected : Obligations.TableEntriesAreCorrected :=
  fun _ _ h hi hi' => ⟨readEntry_withEcc h, readEntry_withEcc_flipped h hi hi'⟩

end Sys2Proof.Machine

/-! SUPPORT. The routing table through its registers, and table epochs (R202, R203, R218 to R222, R224). -/

namespace Sys2Proof.Machine

/-! ### RT_EPOCH_NEXT (R218, R220) -/

/-- An occurrence leaves the pair as it is, so whether changes are mirrored. -/
theorem Dev.raise_mirroring (d : Dev) {src : Nat} (h : src < 320) (inst : Nat) :
    (d.raise src inst).mirroring = d.mirroring := by
  have hcfg : (d.raise src inst).rd rTwCfg = d.rd rTwCfg := Dev.raise_rd d h inst rTwCfg 0 0 (not_raisedKey h (by decide))
  simp only [Dev.mirroring, Dev.pairEn, hcfg, Dev.raise_tw d h]

section
variable {d : Dev} {n : Nat}

/-- A core's write of RT_EPOCH_NEXT is judged by its tick, ARM and CANCEL. -/
theorem Dev.coreWrite_rtEpochNext {v : Nat} (hp : 9 ≤ d.bt.phase) (hv : v < 2 ^ 64) :
    d.coreWrite rRtEpochNext 0 v = d.epochWrite (field v 0 48) (flag v 63) (flag v 62) :=
  Dev.coreWrite_does hp rRtEpochNext (by decide) hv (by decide) rfl

/-- A write that a rule refuses leaves its code. -/
theorem Dev.epochWrite_refused {arm cancel : Bool} (h : d.epochCode n arm cancel ≠ 0) :
    d.epochWrite n arm cancel = d.epochRefuse (d.epochCode n arm cancel) :=
  if_pos h

/-- An accepted write acts, and goes to the twin while changes are mirrored. -/
theorem Dev.epochWrite_accepted {arm cancel : Bool} (h : d.epochCode n arm cancel = 0) (hacts : (arm || cancel) = true) :
    d.epochWrite n arm cancel = if (d.epochApply n arm cancel).mirroring then
      (d.epochApply n arm cancel).mirror 4 8 0 (pack [(48, n), (14, 0), (1, bit cancel), (1, bit arm)])
    else d.epochApply n arm cancel := by
  unfold Dev.epochWrite
  simp only [h, ne_eq, not_true_eq_false, if_false, hacts, Bool.and_true]

/-- Arming a switch changes nothing that mirroring depends on. -/
theorem Dev.epochApply_mirroring (arm cancel : Bool) : (d.epochApply n arm cancel).mirroring = d.mirroring := by
  unfold Dev.epochApply
  split
  · exact Dev.raise_mirroring _ (by decide) 0
  · split <;> rfl

/-- The tick of an accepted arming lies from 2 to 2^20 ticks ahead, the table is idle, and the mode is not conservative. -/
theorem Dev.epochCode_arm_iff : d.epochCode n true false = 0 ↔
    d.now + 2 ≤ n ∧ n ≤ d.now + 2 ^ 20 ∧ d.rtIdle = true ∧ d.st.conserv = false := by
  unfold Dev.epochCode
  rw [if_pos rfl]
  refine ⟨fun h => ?_, fun ⟨hsoon, hfar, hidle, hmode⟩ => ?_⟩
  · have hsoon : ¬ n < d.now + 2 := fun hc => absurd h (by rw [if_pos hc]; decide)
    rw [if_neg hsoon] at h
    have hidle : ¬ (!d.rtIdle) = true := fun hc => absurd h (by rw [if_pos hc]; decide)
    rw [if_neg hidle] at h
    have hmode : ¬ d.st.conserv = true := fun hc => absurd h (by rw [if_pos hc]; decide)
    rw [if_neg hmode] at h
    have hfar : ¬ d.now + 2 ^ 20 < n := fun hc => absurd h (by rw [if_pos hc]; decide)
    exact ⟨Nat.not_lt.1 hsoon, Nat.not_lt.1 hfar, by simpa only [Bool.not_eq_true', Bool.not_eq_false] using hidle,
      Bool.eq_false_iff.2 hmode⟩
  · rw [if_neg (Nat.not_lt.2 hsoon), hidle, hmode, if_neg (Nat.not_lt.2 hfar)]
    rfl

/-- A switch can be disarmed until 2 ticks before it. -/
theorem Dev.epochCode_cancel_iff : d.epochCode n false true = 0 ↔ ∃ a, d.rt.armed = some a ∧ d.now + 2 ≤ a := by
  unfold Dev.epochCode
  rw [if_neg Bool.false_ne_true, if_pos rfl]
  cases d.rt.armed with
  | none => simp only [reduceCtorEq, false_and, exists_false]
  | some a => simp only [Option.some.injEq, exists_eq_left', ite_eq_right_iff, Nat.one_ne_zero, imp_false, Nat.not_lt]

/-! ### The switch and the grace (R221) -/

/-- At the armed tick the copies change places. -/
theorem Dev.epochSwitch_due (ha : d.rt.armed = some n) (hn : n ≤ d.now) : d.epochSwitch =
    ({ d with rt := { d.rt with
      active := d.rt.shadow, shadow := d.rt.active, epoch := 1 - d.rt.epoch, armed := none, grace := some n,
      long := d.st.conserv, lastSwitch := n } }).raise evRtEpochSwitch 0 := by
  simp only [Dev.epochSwitch, ha, if_pos hn]

/-- A grace that has lasted its ticks ends. -/
theorem Dev.graceEnd_due (hg : d.rt.grace = some n) (hn : d.graceLen ≤ d.since n) :
    d.graceEnd = { d with rt := { d.rt with grace := none, long := false } } := by
  simp only [Dev.graceEnd, hg, if_pos hn]

end

/-- Settles O31: a write comes to `Dev.epochRefuse` or `Dev.epochApply` by `Dev.epochCode`, and the ticks of the switch and of the
end of the grace are the guards of their commands. -/
theorem tableEpochs : Obligations.TableEpochs := by
  refine ⟨fun s d v hd hp hv => ?writes, fun d n => Dev.epochCode_arm_iff, fun d n => Dev.epochCode_cancel_iff,
    fun s d n hd ha hn => runDev_next (f := fun d => d.epochSwitch) hd (Dev.epochSwitch_due ha hn),
    fun s d n hd hg hn => runDev_next (f := fun d => d.graceEnd) hd (Dev.graceEnd_due hg hn)⟩
  case writes =>
    have hrun {E : Dev} (h : d.epochWrite (field v 0 48) (flag v 63) (flag v 62) = E) :
        runDev s (fun d => d.coreWrite rRtEpochNext 0 v) = .next (s.after E) :=
      runDev_next hd ((Dev.coreWrite_rtEpochNext hp hv).trans h)
    refine ⟨fun hcode => hrun (Dev.epochWrite_refused hcode), fun d' hcode harm hd' => ?arms,
      fun d' hcode harm hcancel hd' => ?cancels⟩
    case arms =>
      have happly : d.epochApply (field v 0 48) true (flag v 62) = d' := hd'.symm
      refine hrun ((Dev.epochWrite_accepted hcode (by rw [harm]; rfl)).trans ?_)
      rw [Dev.epochApply_mirroring, harm, happly]
      rfl
    case cancels =>
      have happly : d.epochApply (field v 0 48) false true = d' := hd'.symm
      refine hrun ((Dev.epochWrite_accepted hcode (by rw [hcancel, Bool.or_true])).trans ?_)
      rw [Dev.epochApply_mirroring, harm, hcancel, happly]
      rfl

/-! ### RT_TBL_DATA (R202, R203, R219, R224) -/

section
variable {d : Dev} {v : Nat}

/-- A core's write of RT_TBL_DATA writes the entry that the index names. -/
theorem Dev.coreWrite_rtTblData (hp : 9 ≤ d.bt.phase) (hv : v < 2 ^ 64) : d.coreWrite rRtTblData 0 v = d.tableWrite v :=
  Dev.coreWrite_idle hp rRtTblData (by decide) hv rfl (by decide) rfl

/-- An entry is stored that changes nothing, or that names usable ports while the table is idle. -/
theorem Dev.tableWrite_stored (h : v % 2 ^ 39 = Tbl.get 0 d.rt.shadow d.tblNode % 2 ^ 39 ∨
      (d.rtIdle = true ∧ d.entryOk (v % 2 ^ 39) = true)) : d.tableWrite v =
    ({ d with rt := { d.rt with shadow := Tbl.put 0 d.tblNode (withEcc (v % 2 ^ 39)) d.rt.shadow } }).tblNext := by
  refine if_neg ?_
  rcases h with hsame | ⟨hidle, hok⟩
  · simp only [hsame, ne_eq, not_true_eq_false, decide_false, Bool.false_and, Bool.false_eq_true, not_false_eq_true]
  · simp only [hidle, hok, Bool.not_true, Bool.or_self, Bool.and_false, Bool.false_eq_true, not_false_eq_true]

/-- A change is refused while the table is not idle, or where the entry names a port that cannot be used. -/
theorem Dev.tableWrite_refused (h : d.rtIdle = false ∨ d.entryOk (v % 2 ^ 39) = false)
    (hnew : v % 2 ^ 39 ≠ Tbl.get 0 d.rt.shadow d.tblNode % 2 ^ 39) : d.tableWrite v = d.emit .applyRefused := by
  refine if_pos ?_
  have hchange : decide (v % 2 ^ 39 ≠ Tbl.get 0 d.rt.shadow d.tblNode % 2 ^ 39) = true := decide_eq_true hnew
  rcases h with h | h <;> simp only [h, hchange, Bool.not_false, Bool.true_or, Bool.or_true, Bool.and_self]

/-- A good entry is shown as it is stored. -/
theorem Dev.tableRead_good {x : Nat} (h : readEntry d.tblEntry = .good x) :
    d.tableRead = (d.emit (.regValue d.tblEntry)).tblNext := by
  simp only [Dev.tableRead, Dev.tblChecked, Dev.tblData, h]
  rfl

/-- An entry with one bit turned over is reported and shown corrected. -/
theorem Dev.tableRead_corrected {x : Nat} (h : readEntry d.tblEntry = .corrected x) :
    d.tableRead = ((d.raise evRtTableEcc 0).emit (.regValue (withEcc x))).tblNext := by
  simp only [Dev.tableRead, Dev.tblChecked, Dev.tblData, h]
  rfl

/-- An entry that cannot be corrected is reported and shown as it is stored. -/
theorem Dev.tableRead_bad (h : readEntry d.tblEntry = .bad) :
    d.tableRead = ((d.raise evRtTableEccUncorr 0).emit (.regValue d.tblEntry)).tblNext := by
  simp only [Dev.tableRead, Dev.tblChecked, Dev.tblData, h]
  rfl

/-! ### RT_SHADOW_CMD (R219) -/

/-- A core's write of RT_SHADOW_CMD names a command. -/
theorem Dev.coreWrite_rtShadowCmd (hp : 9 ≤ d.bt.phase) (hv : v < 2 ^ 32) :
    d.coreWrite rRtShadowCmd 0 v = d.shadowWrite v :=
  Dev.coreWrite_does hp rRtShadowCmd (by decide) hv (by decide) rfl

/-- The value 1 is CLEAR. -/
theorem Dev.shadowWrite_clear (h : field v 0 2 = 1) : d.shadowWrite v = d.shadowCmd 1 := by
  simp only [Dev.shadowWrite, h]

/-- The value 2 is COPY. -/
theorem Dev.shadowWrite_copy (h : field v 0 2 = 2) : d.shadowWrite v = d.shadowCmd 2 := by
  simp only [Dev.shadowWrite, h]

/-- A shadow command begins while the table is idle. -/
theorem Dev.shadowCmd_idle (cmd : Nat) (h : d.rtIdle = true) :
    d.shadowCmd cmd = { d with rt := { d.rt with cmd := some cmd } } := by
  simp only [Dev.shadowCmd, h, Bool.not_true, Bool.false_eq_true, if_false]

/-- A shadow command is refused while the table is not idle. -/
theorem Dev.shadowCmd_busy (cmd : Nat) (h : d.rtIdle = false) : d.shadowCmd cmd = d.emit .applyRefused := by
  simp only [Dev.shadowCmd, h, Bool.not_false, if_true]
  rfl

/-- CLEAR ends with every entry of the shadow invalid. -/
theorem Dev.shadowDone_clear (h : d.rt.cmd = some 1) : d.shadowDone = { d with rt := { d.rt with
    cmd := none,
    shadow := forEach (Tbl.keys d.rt.shadow) (fun n (t : Tbl Nat) => Tbl.upd 0 n clearedEntry t) d.rt.shadow } } := by
  simp only [Dev.shadowDone, h]

/-- COPY ends with the shadow equal to the active copy. -/
theorem Dev.shadowDone_copy (h : d.rt.cmd = some 2) :
    d.shadowDone = { d with rt := { d.rt with cmd := none, shadow := d.rt.active } } := by
  simp only [Dev.shadowDone, h]

end

/-- Settles O32: a write of the table comes to `Dev.tableWrite`, a read to `Dev.tableRead` by what the check bits show, and a
shadow command to its start, its refusal or its end. -/
theorem tableAccess : Obligations.TableAccess := by
  refine ⟨fun s d v hd hp hv => ?write, fun s d w hd hp hw => ?read, fun d => rfl, fun s d v hd hp hv => ?command,
    fun s d hd => ?done⟩
  case write =>
    have hrun {E : Dev} (h : d.tableWrite v = E) : exec (.tableWrite v) s = .next (s.after E) :=
      runDev_next (f := fun d => d.coreWrite rRtTblData 0 v) hd ((Dev.coreWrite_rtTblData hp hv).trans h)
    exact ⟨fun h => hrun (Dev.tableWrite_stored h), fun h hnew => hrun (Dev.tableWrite_refused h hnew)⟩
  case read =>
    obtain rfl : w = d.tblEntry := hw
    have hrun {E : Dev} (h : d.tableRead = E) : exec .tableRead s = .next (s.after E) :=
      runDev_next (f := fun d => d.coreDo (fun d => d.tableRead)) hd ((if_pos hp).trans h)
    exact ⟨fun x h => hrun (Dev.tableRead_good h), fun x h => hrun (Dev.tableRead_corrected h),
      fun h => hrun (Dev.tableRead_bad h)⟩
  case command =>
    have hrun {E : Dev} (h : d.shadowWrite v = E) :
        runDev s (fun d => d.coreWrite rRtShadowCmd 0 v) = .next (s.after E) :=
      runDev_next hd ((Dev.coreWrite_rtShadowCmd hp hv).trans h)
    exact ⟨fun hc hidle => hrun ((Dev.shadowWrite_clear hc).trans (Dev.shadowCmd_idle 1 hidle)),
      fun hc hidle => hrun ((Dev.shadowWrite_copy hc).trans (Dev.shadowCmd_idle 2 hidle)),
      fun hc hbusy => hrun ((Dev.shadowWrite_clear hc).trans (Dev.shadowCmd_busy 1 hbusy)),
      fun hc hbusy => hrun ((Dev.shadowWrite_copy hc).trans (Dev.shadowCmd_busy 2 hbusy))⟩
  case done =>
    exact ⟨fun hc => runDev_next (f := fun d => d.shadowDone) hd (Dev.shadowDone_clear hc),
      fun hc => runDev_next (f := fun d => d.shadowDone) hd (Dev.shadowDone_copy hc)⟩

end Sys2Proof.Machine

/-! SUPPORT. Scores of neighbours, and packets that wait too long for an output or for admission (R210, R214, R215, R236). -/

namespace Sys2Proof.Machine

section
variable {d : Dev}

/-! ### Scores (R210) -/

/-- A good score message is noted with its port: the link is heard, the scores are fresh, and another neighbour is reported. -/
theorem Dev.bypScore_good (p : Nat) {w : Nat} (h : smOk w = true) : d.bypScore p w =
    ((d.setLk p { d.lkPort p with heard := true }).setRt p { d.rtPort p with
      scores := (upFrom 0 8).map (fun c => field w (32 + 8 * c) 8), since := d.st.boundaries, stale := false,
      node := some (field w 96 18) }).raiseIf
        (match (d.rtPort p).node with | some n => n != field w 96 18 | none => false) evRtNeighbourChange p := by
  simp only [Dev.bypScore, Dev.noteHeard, Dev.scoreArrive, h, if_true]
  rfl

/-- A malformed score message is passed over. -/
theorem Dev.bypScore_malformed (p : Nat) {w : Nat} (h : smOk w = false) : d.bypScore p w = d := by
  simp only [Dev.bypScore, Dev.noteHeard, Dev.scoreArrive, h, Bool.false_eq_true, if_false]

/-- The scores of a port in UP that has brought none for 4 local ticks go stale. -/
theorem Dev.scoreStale_due {p : Nat} (hup : d.portUp p = true) (hfresh : (d.rtPort p).stale = false)
    (hw : 4 ≤ d.waited (d.rtPort p).since) :
    d.scoreStale p = (d.setRt p { d.rtPort p with stale := true }).raise evRtScoreStale p :=
  if_pos (by simp only [hup, hfresh, decide_eq_true hw, Bool.not_false, Bool.and_self])

/-! ### Packets that wait too long (R214, R215, R236) -/

/-- A packet at the head of an escape channel is dropped after ESC_TIMEOUT ticks. -/
theorem Dev.escTimeout_due {p c t : Nat} {f : Frame} (hf : d.head p (2 * c + 1) = some f) (ht : f.headAt = some t)
    (hw : orOne (d.fld rRtCtl 16 8) ≤ d.since t) :
    d.escTimeout p c = (d.leave f).rtDrop f.hdr (if f.input < 256 then some f.input else none) 6 := by
  simp only [Dev.escTimeout, hf, ht, if_pos hw]

/-- The oldest response that waits for admission is dropped after RESP_WAIT ticks. -/
theorem Dev.respDiscard_due {w : WaitPacket} {rest : List WaitPacket} (hl : d.waitsAt 305 = w :: rest)
    (hw : orOne (d.fld rRtCtl 24 8) ≤ d.since w.since) :
    d.respDiscard = (d.setWaits 305 rest).rtDrop (d.sourceHeader w.p) none 7 := by
  simp only [Dev.respDiscard, hl, if_pos hw]

/-- Any other packet at the head of an internal input is reported once after more than 1 tick. -/
theorem Dev.admitWait_due {i : Nat} {w : WaitPacket} {rest : List WaitPacket} (hl : d.waitsAt i = w :: rest) (hi : i ≠ 305)
    (hr : w.raised = false) (hw : 1 < d.since w.since) :
    d.admitWait i = (d.setWaits i ({ w with raised := true } :: rest)).raise evTnAdmitWait 0 := by
  simp only [Dev.admitWait, hl]
  exact if_pos ⟨hi, hr, hw⟩

end

/-- Settles O34: a score message on a port in UP comes to `Dev.bypScore`, and each wait is the guard of its command. -/
theorem scoresAndWaits : Obligations.ScoresAndWaits := by
  refine ⟨fun s d p w hd hup => ?message, fun s d p hd hup hfresh hw => ?stale, fun s d p c t f hd hf ht hw => ?escape,
    fun d f => rfl, fun d w port reason => rfl, fun s d w rest hd hl hw => ?response,
    fun s d i w rest hd hl hi hr hw => ?admission⟩
  case message =>
    have hrun {E : Dev} (h : d.bypScore p w = E) : exec (.scoreMessage p w) s = .next (s.after E) :=
      runDev_next (f := fun d => d.bypAlone p (fun d => d.bypScore p w)) hd ((if_pos hup).trans h)
    exact ⟨fun hok => hrun (Dev.bypScore_good p hok), fun hbad => hrun (Dev.bypScore_malformed p hbad)⟩
  case stale => exact runDev_next (f := fun d => d.scoreStale p) hd (Dev.scoreStale_due hup hfresh hw)
  case escape => exact runDev_next (f := fun d => d.escTimeout p c) hd (Dev.escTimeout_due hf ht hw)
  case response => exact runDev_next (f := fun d => d.respDiscard) hd (Dev.respDiscard_due hl hw)
  case admission => exact runDev_next (f := fun d => d.admitWait i) hd (Dev.admitWait_due hl hi hr hw)

end Sys2Proof.Machine

/-! SUPPORT. Capture sessions: the write of a copy into the ring, its end at the host's port, the consumer of the owning function,
and the end of a session (R241 to R244, R248). -/

namespace Sys2Proof.Machine

/-! ### A pending copy takes its turn (R241, R242) -/

section
variable {d : Dev} {k q : Nat} {c : MirrorCopy} {rest : List MirrorCopy} {f : Frame}
  (hpend : (d.ses k).pending = c :: rest) (hf : d.frame c.frame = some f) (hq : d.hostPort (d.fld rTnSesCtl 1 5 k) = some q)
  (hwhole : f.whole = true) (hidle : d.sesBusy k = false)
include hpend hf hq hwhole hidle

/-- Where the ring has a free slot, the write of the copy joins the queue of the host's port and the lost count of the header
starts anew. -/
theorem Dev.captureCopy_written (bus : Bool) (hfree : ringCount (d.capSlots k) (d.ses k).cons (d.ses k).prod ≠ d.capSlots k) :
    d.captureCopy k bus = ((d.setSes k { d.ses k with pending := rest, lostNext := 0 }).place
      { num := d.tn.nextNum, input := toSelf, output := 256 + q, chan := d.fld rTnSesCtl 15 3 k, tc := d.fld rTnSesCtl 15 3 k,
        bytes := 32 + min f.bytes (d.capSlot k - 32), of := some f.num,
        body := .capture k (d.fld rTnSesCtl 1 5 k) (d.rd rTnSesBase k + d.capSlot k * (d.ses k).prod.index)
          (capHeader f c (d.capSlot k) (d.ses k).lostNext (d.ses k).prod.lap) f.hdr f.body (min f.bytes (d.capSlot k - 32))
          bus }).queueChanged (256 + q) := by
  simp only [Dev.captureCopy, hpend, hf, hq, hwhole, hidle, hfree, Bool.not_true, Bool.or_self, Bool.false_eq_true, if_false]

/-- Where the ring is full, the copy is lost and reported. -/
theorem Dev.captureCopy_full (bus : Bool) (hfull : ringCount (d.capSlots k) (d.ses k).cons (d.ses k).prod = d.capSlots k) :
    d.captureCopy k bus =
      (((d.setSes k { d.ses k with pending := rest }).copyLost k 1).raise evTnCaptureFull 0).freeFrames := by
  simp only [Dev.captureCopy, hpend, hf, hq, hwhole, hidle, hfull, Bool.not_true, Bool.or_self, Bool.false_eq_true, if_false,
    if_true]

end

section
variable {d : Dev}

/-! ### A capture write leaves (R241, R243) -/

/-- A write without a bus error fills the slot at the producer, which goes on by one. -/
theorem Dev.captureLeaves_written {f : Frame} {k fn addr hdr len : Nat} {header : List Nat} {body : FrameBody}
    (h : f.body = .capture k fn addr header hdr body len false) : d.captureLeaves f =
      ((d.emit (.capture k fn addr header hdr body len)).setSes k
        { d.ses k with prod := (d.ses k).prod.advance (d.capSlots k) 1 }).leave f := by
  simp only [Dev.captureLeaves, h, Bool.false_eq_true, if_false]

/-- A bus error loses the copy and stops the session. -/
theorem Dev.captureLeaves_busError {f : Frame} {k fn addr hdr len : Nat} {header : List Nat} {body : FrameBody}
    (h : f.body = .capture k fn addr header hdr body len true) :
    d.captureLeaves f = (((d.leave f).copyLost k 1).sesStop k).raise evTnCaptureBus 0 := by
  simp only [Dev.captureLeaves, h, if_true]

/-! ### FN_CAP_CI (R244) -/

/-- A host's write of FN_CAP_CI offers a consumer position. -/
theorem Dev.fnWrite_fnCapCi (h : Nat) {k v : Nat} (hk : k < 4) (hv : v < 2 ^ 64) :
    d.fnWrite h rFnCapCi k v = d.captureConsumer h k v :=
  Dev.fnWrite_does (pageReg_fnCapCi hk) hv

/-- What becomes of a position that lies on the consumer's lap or the next: the session of the owning function takes it up to
the producer, and any other write is reported. -/
theorem Dev.captureConsumer_ahead (h : Nat) {k v a b : Nat}
    (ha : ringDist (d.capSlots k) (d.ses k).cons ⟨field v 0 24, flag v 24⟩ = some a)
    (hb : ringDist (d.capSlots k) (d.ses k).cons (d.ses k).prod = some b) : d.captureConsumer h k v =
      if v < 2 ^ 25 ∧ d.fld rTnSesCtl 1 5 k = h ∧ a ≤ b then d.setSes k { d.ses k with cons := ⟨field v 0 24, flag v 24⟩ }
      else d.raise evTnConfigRefused 0 := by
  simp only [Dev.captureConsumer, ha, hb]

/-! ### TN_SES_CTL (R243, R248) -/

/-- An accepted write that brings EN from 1 to 0 ends the session. -/
theorem Dev.coreWrite_tnSesCtl_ends {k v : Nat} (hp : 9 ≤ d.bt.phase) (hk : k < 4) (hv : v < 2 ^ 64) (hen : d.sesEn k = true)
    (hoff : flag v 0 = false) (hheld : d.heldField rTnSesCtl k 0 v = false)
    (hok : d.sameHeld rTnSesCtl k v = true ∨ d.sesOk v = true) :
    d.coreWrite rTnSesCtl k v = (d.take rTnSesCtl k 0 false v).sesStop k := by
  have haccept : d.valueOk rTnSesCtl k v = true := Bool.or_eq_true_iff.2 hok
  have hends : (d.sesEn k && !(flag v 0)) = true := by rw [hen, hoff]; rfl
  rw [Dev.coreWrite_running hp rTnSesCtl hk hv, Dev.regWrite_accepted hheld haccept]
  exact if_pos hends

end

/-- Settles O35: a copy comes to `Dev.captureCopy_written` or `Dev.captureCopy_full`, its write to the two ends of
`Dev.captureLeaves`, a consumer write to `Dev.captureConsumer_ahead`, EN 0 to `Dev.sesStop`. -/
theorem captureSessions : Obligations.CaptureSessions := by
  refine ⟨fun s d k q bus x c rest f hd hx hpend hf hq hwhole hidle => ?copy,
    fun d f k fn addr hdr len header body bus hbody => ?leaves, fun d k n => rfl, fun d d1 d2 k hd1 hd2 => ?stop,
    fun s d h k v a b c hd hk hv hc ha hb => ?consumer,
    fun s d k v hd hp hk hv hen hoff hheld hok => ?disable, fun s d hd hp => ?reads⟩
  case copy =>
    subst hx
    refine ⟨fun n slot tc hn hfree hslot htc => ?_, fun hfull => ?_⟩
    · subst hn hslot htc
      exact runDev_next (f := fun d => d.captureCopy k bus) hd (Dev.captureCopy_written hpend hf hq hwhole hidle bus hfree)
    · exact runDev_next (f := fun d => d.captureCopy k bus) hd (Dev.captureCopy_full hpend hf hq hwhole hidle bus hfull)
  case leaves =>
    exact ⟨fun hbus => Dev.captureLeaves_written (hbus ▸ hbody), fun hbus => Dev.captureLeaves_busError (hbus ▸ hbody)⟩
  case stop => subst hd1 hd2; rfl
  case consumer =>
    subst hc
    have hrun {E : Dev} (he : d.captureConsumer h k v = E) : exec (.captureConsumerWrite h k v) s = .next (s.after E) :=
      runDev_next (f := fun d => d.fnWrite h rFnCapCi k v) hd ((Dev.fnWrite_fnCapCi h hk hv).trans he)
    refine ⟨fun hlow hown hle => hrun ?_, fun hbad => hrun ?_⟩
    · rw [Dev.captureConsumer_ahead h ha hb, if_pos ⟨hlow, hown, hle⟩]
    · rw [Dev.captureConsumer_ahead h ha hb, if_neg]
      rintro ⟨hlow, hown, hle⟩
      rcases hbad with hhigh | hother | hpast
      · exact absurd hlow (Nat.not_lt.2 hhigh)
      · exact hother hown
      · exact absurd hle (Nat.not_le.2 hpast)
  case disable =>
    exact runDev_next (f := fun d => d.coreWrite rTnSesCtl k v) hd (Dev.coreWrite_tnSesCtl_ends hp hk hv hen hoff hheld hok)
  case reads =>
    exact ⟨runDev_next (f := fun d => d.coreDo (fun d => d.peakRead)) hd (if_pos hp),
      fun k => runDev_next (f := fun d => d.coreDo (fun d => d.sesLostRead k)) hd (if_pos hp)⟩

end Sys2Proof.Machine

/-! SUPPORT. Flits that arrive on a fabric port: which row of R259 takes a data flit, what ends the frames open on a port, and what
control, bypass and audit flits do to the accounts (R250, R251, R254 to R259, R262). -/

namespace Sys2Proof.Machine

section
variable {d : Dev} {p w : Nat}

/-! ### Where a flit goes by its channel (R250, R259) -/

section
variable (t : Nat) (ok : Bool)

/-- A bypass flit comes at its time in 1/65,536 ns. -/
theorem Dev.flitReceive_bypass (h : flChan w = 16) :
    d.flitReceive p t w false ok = (d.at_ t).bypassFlit p (65536 * t) w false ok :=
  if_pos h

/-- Channel 0x1E carries control flits. -/
theorem Dev.flitReceive_control (h : flChan w = 0x1E) : d.flitReceive p t w false ok = (d.at_ t).controlArrive p w := by
  simp only [Dev.flitReceive, h, Bool.false_eq_true, Nat.reduceEqDiff, if_false, if_true]

/-- Channel 0x1F carries the idle flit and no other. -/
theorem Dev.flitReceive_idleChan (h : flChan w = 0x1F) :
    d.flitReceive p t w false ok = if w = 0x1F then d.at_ t else (d.at_ t).badFlit p := by
  simp only [Dev.flitReceive, h, Bool.false_eq_true, Nat.reduceEqDiff, if_false, if_true]

/-- Every other channel is one of data flits, or names none. -/
theorem Dev.flitReceive_data (hle : flChan w ≤ 0x1D) (hbyp : flChan w ≠ 16) :
    d.flitReceive p t w false ok = (d.at_ t).dataFlit p w false := by
  have hctl : flChan w ≠ 0x1E := by omega
  have hidle : flChan w ≠ 0x1F := by omega
  simp only [Dev.flitReceive, hbyp, hctl, hidle, Bool.false_eq_true, if_false]

end

/-! ### Data flits (R259) -/

/-- A flit of no data channel or with a malformed header is bad. -/
theorem Dev.dataFlit_malformed (h : 16 ≤ flChan w ∨ flitOk w = false) : d.dataFlit p w false = d.badFlit p := by
  refine if_pos ?_
  rcases h with hchan | hform
  · simp only [decide_eq_true hchan, Bool.or_true, Bool.true_or]
  · simp only [hform, Bool.not_false, Bool.or_true]

section
variable (hchan : flChan w < 16) (hform : flitOk w = true)
include hchan hform

/-- A data flit with a good header is none of the bad ones. -/
theorem dataFlit_wellFormed : (false || decide (16 ≤ flChan w) || !(flitOk w)) = false := by
  simp only [Nat.not_le.2 hchan, hform, decide_false, Bool.not_true, Bool.or_self]

/-- A port that is not in UP takes no frames. -/
theorem Dev.dataFlit_notUp (hstate : (d.lkPort p).state ≠ .up) : d.dataFlit p w false = d :=
  (if_neg (Bool.eq_false_iff.1 (dataFlit_wellFormed hchan hform))).trans (if_pos hstate)

variable (hup : (d.lkPort p).state = .up)
include hup

/-- The flit goes on with the frame open on its channel. -/
theorem Dev.dataFlit_continues {o : OpenRx} (hcont : flCont w = true) (hopen : d.openRx p (flChan w) = some o) :
    d.dataFlit p w false = (d.setLk p { d.lkPort p with orphan := false }).dataPieces p w o := by
  simp only [Dev.dataFlit, dataFlit_wellFormed hchan hform, hup, hcont, hopen, Bool.false_eq_true, ne_eq, not_true_eq_false,
    if_false, if_true]

/-- A run of flits without an open frame is reported with its first flit. -/
theorem Dev.dataFlit_orphan (hcont : flCont w = true) (hopen : d.openRx p (flChan w) = none) :
    d.dataFlit p w false = if (d.lkPort p).orphan = true then d
      else (d.setLk p { d.lkPort p with orphan := true }).raise evLkOrphanFlit p := by
  simp only [Dev.dataFlit, dataFlit_wellFormed hchan hform, hup, hcont, hopen, Bool.false_eq_true, ne_eq, not_true_eq_false,
    if_false, if_true]

/-- The flit starts a frame: one still open on the channel is cut, and a piece behind the end of the new frame starts the next. -/
theorem Dev.dataFlit_starts {d1 d2 d3 : Dev} {payload : List Byte} (hcont : flCont w = false)
    (h1 : d1 = d.setLk p { d.lkPort p with orphan := false })
    (h2 : d2 = if (d1.openRx p (flChan w)).isSome then (d1.dropRx p (flChan w)).raise evLkFrameCut p else d1)
    (hpay : payload = (toBytes 128 w).drop 2)
    (h3 : d3 = if flEnd w then
        (if flBad w then d2.startBad p (flChan w) (payload.take (flSplit w))
          else d2.startRx p (flChan w) (payload.take (flSplit w)) true)
      else d2.startRx p (flChan w) payload false) :
    d.dataFlit p w false =
      if flEnd w && flNext w then d3.startRx p (flChan w) (payload.drop (flSplit w)) false else d3 := by
  subst h1 h2 hpay h3
  refine (if_neg (Bool.eq_false_iff.1 (dataFlit_wellFormed hchan hform))).trans
    ((if_neg (not_not_intro hup)).trans ((if_neg (Bool.eq_false_iff.1 hcont)).trans ?_))
  generalize d.setLk p { d.lkPort p with orphan := false } = d1
  dsimp only
  cases d1.openRx p (flChan w) <;> cases flEnd w <;> rfl

end

/-! ### Frames in reception (R246, R259) -/

section
variable {ch : Nat} {o : OpenRx}

/-- A dropped frame that routing has stored is spoiled in the Tun. -/
theorem Dev.dropRx_stored {num : Nat} {f : Frame} (hopen : d.openRx p ch = some o)
    (hstage : o.stage = .stored num ∨ o.stage = .here num) (hf : ((d.setRx p ch none).countRx p o).frame num = some f) :
    d.dropRx p ch = ((d.setRx p ch none).countRx p o).spoil f := by
  rcases hstage with h | h <;> simp only [Dev.dropRx, hopen, h, hf]

/-- A dropped frame that is not stored leaves nothing behind. -/
theorem Dev.dropRx_unstored (hopen : d.openRx p ch = some o) (hstage : o.stage = .fresh ∨ o.stage = .dropped) :
    d.dropRx p ch = (d.setRx p ch none).countRx p o := by
  rcases hstage with h | h <;> simp only [Dev.dropRx, hopen, h]

variable {q : OpenRx} {bytes : List Byte} {ended : Bool} (hq : q = { o with bytes := o.bytes ++ bytes })
include hq

/-- A frame that runs past PKT_LEN, or ends short of it, is dropped and reported. -/
theorem Dev.piece_mismatch (h : (q.len = none ∧ ended = true) ∨ (∃ len, q.len = some len ∧
      (len < q.bytes.length ∨ (ended = true ∧ q.bytes.length ≠ len)))) :
    d.piece p ch o bytes ended = ((((d.setRx p ch (some q)).dropRx p ch).latchLk p 8 ch).raise evLkLenMismatch p) := by
  subst hq
  rcases h with ⟨hlen, hend⟩ | ⟨len, hlen, hpast | ⟨hend, hshort⟩⟩
  · simp only [Dev.piece, hlen, hend, if_true]
  · simp only [Dev.piece, hlen, decide_eq_true hpast, Bool.true_or, if_true]
  · simp only [Dev.piece, hlen, hend, decide_eq_true hshort, Bool.and_self, Bool.or_true, if_true]

/-- A piece within PKT_LEN is routed, and the frame grows with it; a whole one goes to the engines where it is for this node. -/
theorem Dev.piece_fits {len : Nat} {r : OpenRx} (hlen : q.len = some len) (hin : q.bytes.length ≤ len)
    (hwhole : ended = true → q.bytes.length = len) (hr : (d.routeRx p ch q ended).openRx p ch = some r) :
    d.piece p ch o bytes ended =
      if ended then ((((d.routeRx p ch q ended).growRx r true).setRx p ch none).countRx p r).takeHere p ch r
      else (d.routeRx p ch q ended).growRx r false := by
  subst hq
  cases ended with
  | false =>
    simp only [Dev.piece, hlen, hr, decide_eq_false (Nat.not_lt.2 hin), Bool.false_and, Bool.or_self, Bool.false_eq_true, if_false]
  | true =>
    have hsame : (o.bytes ++ bytes).length = len := hwhole rfl
    simp only [Dev.piece, hlen, hr, hsame, Nat.lt_irrefl, ne_eq, not_true_eq_false, decide_false, Bool.and_false, Bool.or_self,
      Bool.false_eq_true, if_false, if_true]

end

/-! ### Control flits (R254 to R256) -/

/-- A control flit that is malformed, or whose limits go back or too far, is reported. -/
theorem Dev.controlArrive_bad (hup : (d.lkPort p).state = .up)
    (h : controlOk w = false ∨
      (controlLimits w).all (fun (l : Nat × Nat) => (d.lkPort p).limitOk l.1 l.2) = false) :
    d.controlArrive p w = (d.latchLk p 7 0x1E).raise evLkCtlBad p := by
  refine (if_neg (not_not_intro hup)).trans (if_pos ?_)
  rcases h with h | h <;> simp only [h, Bool.not_false, Bool.true_or, Bool.or_true]

/-- The limits of any other replace those held; the first ones tell the reserves of the peer too. -/
theorem Dev.controlArrive_taken (hup : (d.lkPort p).state = .up) (hform : controlOk w = true)
    (hlims : (controlLimits w).all (fun (l : Nat × Nat) => (d.lkPort p).limitOk l.1 l.2) = true) {lims : Tbl Nat}
    (heq : lims = forEach (controlLimits w) (fun (l : Nat × Nat) (t : Tbl Nat) => Tbl.put 0 l.1 l.2 t) (d.lkPort p).limRx) :
    d.controlArrive p w = (d.setLk p { d.lkPort p with
      limRx := lims, peerRsv := (if (d.lkPort p).limSeen then (d.lkPort p).peerRsv else lims), limSeen := true,
      holdRx := field w 176 8 }).noteDryAll p := by
  subst heq
  refine (if_neg (not_not_intro hup)).trans (if_neg ?_)
  simp only [hform, hlims, Bool.not_true, Bool.or_self, Bool.false_eq_true, not_false_eq_true]

/-! ### Bypass flits (R254, R257) -/

section
variable {rx : Nat} {ok : Bool}

/-- A bypass flit with a wrong header is bad. -/
theorem Dev.bypassFlit_malformed (rx : Nat) (ok : Bool)
    (h : flChan w ≠ 16 ∨ flCont w = true ∨ flEnd w = false ∨ flBad w = true ∨ flNext w = true ∨ 126 < flSplit w) :
    d.bypassFlit p rx w false ok = (d.at_ (rx / 65536)).badFlit p := by
  refine if_pos ?_
  simp only [Bool.false_or, Bool.or_eq_true, Bool.not_eq_true', bne_iff_ne, decide_eq_true_eq, or_assoc]
  exact h

variable (hchan : flChan w = 16) (hcont : flCont w = false) (hend : flEnd w = true) (hbad : flBad w = false)
  (hnext : flNext w = false) (hsplit : flSplit w ≤ 126)
include hchan hcont hend hbad hnext hsplit

/-- A flit with the header of R257 is none of the bad ones. -/
theorem bypassFlit_wellFormed :
    (false || flChan w != 16 || flCont w || !(flEnd w) || flBad w || flNext w || decide (126 < flSplit w)) = false := by
  simp only [hchan, hcont, hend, hbad, hnext, Nat.not_lt.2 hsplit, bne_self_eq_false, Bool.not_true, decide_false, Bool.or_self]

variable {e : Dev} (he : d.at_ (rx / 65536) = e)
include he

/-- Outside HELLO and UP nothing is taken. -/
theorem Dev.bypassFlit_ignored (hup : (e.lkPort p).state ≠ .up) (hhello : (e.lkPort p).state ≠ .hello) :
    d.bypassFlit p rx w false ok = e := by
  subst he
  exact (if_neg (Bool.eq_false_iff.1 (bypassFlit_wellFormed hchan hcont hend hbad hnext hsplit))).trans (if_pos ⟨hup, hhello⟩)

/-- In HELLO its messages are taken without an account. -/
theorem Dev.bypassFlit_hello (hhello : (e.lkPort p).state = .hello) :
    d.bypassFlit p rx w false ok = e.bypTakeAll p rx ok (((toBytes 128 w).drop 2).take (flSplit w)) 9 := by
  subst he
  exact (if_neg (Bool.eq_false_iff.1 (bypassFlit_wellFormed hchan hcont hend hbad hnext hsplit))).trans
    ((if_neg fun h => h.2 hhello).trans (if_pos hhello))

/-- In UP what it does turns on the units of the buffer in use: with none free it is counted and lost; else it takes one, its
messages are taken, and it is counted where they leave the port in UP. -/
theorem Dev.bypassFlit_up {e1 : Dev} (hup : (e.lkPort p).state = .up)
    (h1 : e1 = (e.setLk p { e.lkPort p with bypBusy := e.st.ns :: (e.lkPort p).bypUsed e.st.ns }).bypTakeAll p rx ok
      (((toBytes 128 w).drop 2).take (flSplit w)) 9) :
    d.bypassFlit p rx w false ok =
      if 8 ≤ ((e.lkPort p).bypUsed e.st.ns).length then
        ((e.setLk p { e.lkPort p with
          rcvd := Tbl.put 0 bypChan (add16 (Tbl.get 0 (e.lkPort p).rcvd bypChan) 1) (e.lkPort p).rcvd }).latchLk p 9
            bypChan).raise evLkBypOverrun p
      else if (e1.lkPort p).state = .up then e1.setLk p { e1.lkPort p with
        rcvd := Tbl.put 0 bypChan (add16 (Tbl.get 0 (e1.lkPort p).rcvd bypChan) 1) (e1.lkPort p).rcvd }
      else e1 := by
  subst he h1
  have hnot : ((d.at_ (rx / 65536)).lkPort p).state ≠ .hello := by rw [hup]; decide
  refine (if_neg (Bool.eq_false_iff.1 (bypassFlit_wellFormed hchan hcont hend hbad hnext hsplit))).trans
    ((if_neg fun h => h.1 hup).trans ((if_neg hnot).trans ?_))
  dsimp only
  rw [if_pos hup]

end

/-! ### Audits (R262) -/

/-- A good audit on a port in UP: differences of at most 2^15 are absorbed and reported, and any difference counts as a
disagreement. -/
theorem Dev.auditArrive_up {differs absorbs : Bool} (hup : (d.lkPort p).state = .up) (hform : auditOk w = true)
    (hdiffers : differs =
      (upFrom 0 17).any (fun c => decide (field w (32 + 16 * c) 16 ≠ Tbl.get 0 (d.lkPort p).rcvd c)))
    (habsorbs : absorbs = (upFrom 0 17).any (fun c => decide (field w (32 + 16 * c) 16 ≠ Tbl.get 0 (d.lkPort p).rcvd c)
      && decide (diff16 (field w (32 + 16 * c) 16) (Tbl.get 0 (d.lkPort p).rcvd c) ≤ 32768))) :
    d.auditArrive p w = (d.setLk p { d.lkPort p with
      rcvd := forEach (upFrom 0 17) (fun c t =>
        if diff16 (field w (32 + 16 * c) 16) (Tbl.get 0 (d.lkPort p).rcvd c) ≤ 32768 then
          Tbl.put 0 c (field w (32 + 16 * c) 16) t
        else t) (d.lkPort p).rcvd,
      auditRun := if differs then min 7 ((d.lkPort p).auditRun + 1) else 0, heard := true }).raiseIf absorbs
        evLkAuditMismatch p := by
  subst hdiffers habsorbs
  exact if_neg (not_or.2 ⟨not_not_intro hup, by rw [hform]; decide⟩)

end

/-- Settles O37: a flit goes by its channel to `Dev.dataFlit`, `Dev.controlArrive`, `Dev.bypassFlit` or none, and the lemmas above
say what each does in each case of R254 to R262. -/
theorem flitsArrive : Obligations.FlitsArrive := by
  refine ⟨fun s d p t w ok hd => ?receive, fun d p => rfl, fun d d1 p ch o hopen hd1 => ?drop,
    fun d p ch o q bytes ended hq => ?piece, fun s d p w x hd hx hup => ?control, fun s d p rx w ok hd => ?bypass,
    fun s d p w x differs absorbs hd hx hup hform hdiffers habsorbs => ?audit⟩
  case receive =>
    subst hd
    have hrun {failed : Bool} {E : Dev} (h : s.begun.flitReceive p t w failed ok = E) :
        exec (.flitReceive p t w failed ok) s = .next (s.after E) :=
      runDev_next (f := fun d => d.flitReceive p t w failed ok) rfl h
    refine ⟨hrun rfl, fun h => hrun (Dev.flitReceive_bypass t ok h), fun h => hrun (Dev.flitReceive_control t ok h),
      fun h => ?idle, fun h hne => hrun ((Dev.flitReceive_idleChan t ok h).trans (if_neg hne)),
      fun hle hbyp hbad => ?malformed, fun hchan hform => ?data⟩
    case idle => exact hrun ((Dev.flitReceive_idleChan t ok (by rw [h]; decide)).trans (if_pos h))
    case malformed =>
      exact hrun ((Dev.flitReceive_data t ok hle hbyp).trans (Dev.dataFlit_malformed (hbad.imp_left Nat.le_of_lt)))
    case data =>
      have hdata {E : Dev} (h : (s.begun.at_ t).dataFlit p w false = E) :
          exec (.flitReceive p t w false ok) s = .next (s.after E) :=
        hrun ((Dev.flitReceive_data t ok (by omega) (Nat.ne_of_lt hchan)).trans h)
      exact ⟨fun hstate => hdata (Dev.dataFlit_notUp hchan hform hstate),
        fun o hup hcont hopen => hdata (Dev.dataFlit_continues hchan hform hup hcont hopen),
        fun hup hcont hopen hfirst =>
          hdata ((Dev.dataFlit_orphan hchan hform hup hcont hopen).trans (if_neg (Bool.eq_false_iff.1 hfirst))),
        fun hup hcont hopen hagain => hdata ((Dev.dataFlit_orphan hchan hform hup hcont hopen).trans (if_pos hagain)),
        fun d1 d2 d3 payload hup hcont h1 h2 hpay h3 =>
          hdata (Dev.dataFlit_starts hchan hform hup hcont h1 h2 hpay h3)⟩
  case drop =>
    subst hd1
    exact ⟨fun num f hstage hf => Dev.dropRx_stored hopen hstage hf, fun hstage => Dev.dropRx_unstored hopen hstage⟩
  case piece =>
    refine ⟨fun h => Dev.piece_mismatch hq h, fun len r d1 hlen hin hwhole hd1 hr => ?_⟩
    subst hd1
    exact Dev.piece_fits hq hlen hin hwhole hr
  case control =>
    subst hx
    have hrun {E : Dev} (h : d.controlArrive p w = E) : exec (.controlFlit p w) s = .next (s.after E) :=
      runDev_next (f := fun d => d.controlArrive p w) hd h
    exact ⟨fun hbad => hrun (Dev.controlArrive_bad hup hbad),
      fun lims hform hlims heq => hrun (Dev.controlArrive_taken hup hform hlims heq)⟩
  case bypass =>
    subst hd
    have hrun {failed : Bool} {E : Dev} (h : s.begun.bypassFlit p rx w failed ok = E) :
        exec (.bypassFlit p rx w failed ok) s = .next (s.after E) :=
      runDev_next (f := fun d => d.bypassFlit p rx w failed ok) rfl h
    refine ⟨hrun rfl, fun h => hrun (Dev.bypassFlit_malformed rx ok h), fun hchan hcont hend hbad hnext hsplit => ?_⟩
    exact ⟨fun hup hhello => hrun (Dev.bypassFlit_ignored hchan hcont hend hbad hnext hsplit rfl hup hhello),
      fun hhello => hrun (Dev.bypassFlit_hello hchan hcont hend hbad hnext hsplit rfl hhello),
      fun hup hfull => hrun ((Dev.bypassFlit_up hchan hcont hend hbad hnext hsplit rfl hup rfl).trans (if_pos hfull)),
      fun d1 hup hroom h1 => hrun
        ((Dev.bypassFlit_up hchan hcont hend hbad hnext hsplit rfl hup h1).trans (if_neg (Nat.not_le.2 hroom)))⟩
  case audit =>
    subst hx
    exact runDev_next (f := fun d => d.bypAlone p (fun d => d.auditArrive p w)) hd
      ((if_pos hup).trans (Dev.auditArrive_up hup hform hdiffers habsorbs))

end Sys2Proof.Machine

/-! SUPPORT. The life of a port: the causes that break it, what breaking it does, its holddown, LK_PORT_CTL, and the HELLOs that bring
it UP (R263 to R266). -/

namespace Sys2Proof.Machine

section
variable {d : Dev} {p : Nat}

/-! ### Causes (R263) -/

/-- A class starved for its ticks while the peer is alive. -/
theorem Dev.starvedLong_of {c : Nat} (hc : c < 8) (halive : (d.lkPort p).alive = true)
    (hrun : d.creditTo ≤ Tbl.get 0 (d.lkPort p).starveRun c) : d.starvedLong p = true := by
  have hmem : ∀ c < 8, c ∈ upFrom 0 8 := by decide
  exact Bool.and_eq_true_iff.2 ⟨halive, List.any_eq_true.2 ⟨c, hmem c hc, decide_eq_true hrun⟩⟩

/-- In UP the lowest rank that holds gives the reason. -/
theorem Dev.rankOf_eq (reason : Nat) : d.rankOf p reason = if (d.lkPort p).state = .up then
    min reason (if 4 ≤ (d.lkPort p).silent then 3 else if 4 ≤ (d.lkPort p).auditRun then 4
      else if d.starvedLong p then 5 else 6) else reason :=
  ite_not ..

/-! ### A broken port (R264) -/

/-- The event of a cause, where it has one, is raised. -/
theorem Dev.raise_breakEvent (e : Dev) (rank : Nat) :
    (breakEvent rank).elim e (fun src => e.raise src p) =
      if rank = 3 then e.raise evLkPeerSilent p else if rank = 4 then e.raise evLkAuditPersist p
        else if rank = 5 then e.raise evLkCreditTimeout p else e := by
  by_cases h3 : rank = 3
  · subst h3; rfl
  by_cases h4 : rank = 4
  · subst h4; rfl
  by_cases h5 : rank = 5
  · subst h5; rfl
  simp only [breakEvent, h3, h4, h5, if_false, Option.elim_none]

/-- A port that trains, exchanges HELLOs or is UP stops, latches and raises its reason, and starts its holddown, which has doubled
where the link broke soon after it came UP. -/
theorem Dev.breakPort_live {e e1 e2 : Dev} {reason rank cur : Nat} {flap : Bool} {x : LkPort} (hx : d.lkPort p = x)
    (hstate : x.state = .training ∨ x.state = .hello ∨ x.state = .up)
    (hflap : flap = (decide (x.state = .up) && decide (d.waited x.upAt ≤ 1024))) (hrank : rank = d.rankOf p reason)
    (hcur : cur = (if x.holddown = 0 then d.holddownBase else x.holddown)) (he : d.stopPort p = e)
    (h1 : e1 = ((e.setLk p { e.lkPort p with
      state := .broken, reason := rank, brokenAt := e.st.boundaries, holddown := if flap then min 1024 (2 * cur) else cur,
      held := x.held || reason == 1 }).latchLk p rank 0).raise evLkLinkBroken p)
    (h2 : e2 = (if rank = 3 then e1.raise evLkPeerSilent p else if rank = 4 then e1.raise evLkAuditPersist p
      else if rank = 5 then e1.raise evLkCreditTimeout p else e1).raiseIf flap evLkLinkFlap p) :
    d.breakPort p reason = if e2.isTwin p then { e2 with tw := { e2.tw with broken := true } } else e2 := by
  rw [← Dev.raise_breakEvent] at h2
  subst hx hflap hrank hcur he h1 h2
  have hlive : (d.lkPort p).state ≠ .disabled ∧ (d.lkPort p).state ≠ .broken := by
    rcases hstate with h | h | h <;> rw [h] <;> decide
  obtain ⟨henabled, hwhole⟩ := hlive
  refine (if_neg henabled).trans ((if_neg fun h => hwhole h.1).trans ?_)
  dsimp only
  cases breakEvent (d.rankOf p reason) <;> rfl

/-- RETRAIN and the other causes of that kind break a port that trains, exchanges HELLOs or is UP, and no other. -/
theorem Dev.breakLive_eq (reason : Nat) : d.breakLive p reason =
    if (d.lkPort p).state = .training ∨ (d.lkPort p).state = .hello ∨ (d.lkPort p).state = .up then d.breakPort p reason
    else d := by
  unfold Dev.breakLive
  cases (d.lkPort p).state <;> rfl

/-- A port that is not fenced trains again once its holddown has passed. -/
theorem Dev.holddownEnd_due (hstate : (d.lkPort p).state = .broken) (hheld : (d.lkPort p).held = false)
    (hpast : d.holddownNow p ≤ d.waited (d.lkPort p).brokenAt) : d.holddownEnd p = d.enterTraining p :=
  if_pos ⟨hstate, hheld, hpast⟩

/-! ### LK_PORT_CTL (R265, R267) -/

/-- A core's write for the start of a configured port acts. -/
theorem Dev.coreWrite_lkPortCtl {v : Nat} (hp : 9 ≤ d.bt.phase) (hi : p < 256) (hv : v < 2 ^ 32) (hport : d.isPort p = true) :
    d.coreWrite rLkPortCtl p v = d.lkCtlWrite p v :=
  Dev.coreWrite_does hp rLkPortCtl hi hv (by decide) hport

/-- A core's write for any other number is refused. -/
theorem Dev.coreWrite_lkPortCtl_noPort {v : Nat} (hp : 9 ≤ d.bt.phase) (hi : p < 256) (hv : v < 2 ^ 32)
    (hport : d.isPort p = false) : d.coreWrite rLkPortCtl p v = d.emit .applyRefused :=
  (Dev.coreWrite_running hp rLkPortCtl hi hv).trans (Dev.regWrite_refused (.inr hport))

/-- The lowest bit of a word, as a number. -/
theorem bit_flag_zero (v : Nat) : bit (flag v 0) = field v 0 1 := by
  rcases Nat.mod_two_eq_zero_or_one v with h | h <;> simp [bit, flag, field, Nat.testBit_zero, h]

/-- After RETRAIN, ENABLE and HOLD stand as written, and they say whether the port may train. -/
theorem Dev.lkCtlWrite_eq {d1 : Dev} {v : Nat} (hport : d.isPort p = true)
    (h1 : d1 = ((if flag v 1 then d.breakLive p 6 else d).wrFld rLkPortCtl 2 1 (field v 2 1) p).wrFld rLkPortCtl 0 1
      (field v 0 1) p) (hport1 : d1.isPort p = true) :
    d.lkCtlWrite p v = if !(flag (d1.rd rLkPortCtl p) 0) || flag (d1.rd rLkPortCtl p) 2 then d1.enterDisabled p
      else d1.leaveDisabled p := by
  have hretrain : d.portRetrain p = d.breakLive p 6 := if_pos hport
  subst h1
  refine (if_neg ?_).trans ?_
  · rw [hretrain, Bool.not_eq_true', Bool.not_eq_false]
    exact hport1
  · rw [hretrain, bit_flag_zero]

/-- A port that may train leaves DISABLED; a fenced one stays broken. -/
theorem Dev.leaveDisabled_eq (henable : flag (d.rd rLkPortCtl p) 0 = true) (hhold : flag (d.rd rLkPortCtl p) 2 = false)
    (hport : d.isPort p = true) : d.leaveDisabled p = if (d.lkPort p).state = .disabled then
      (if (d.lkPort p).held then d.setLk p { d.lkPort p with state := .broken } else (d.sendFiller p).enterTraining p)
    else d := by
  simp only [Dev.leaveDisabled, henable, hhold, hport, and_true]

/-- A port that has been stopped goes to DISABLED with its lanes off, or in the PRBS that a checker or a generator selects. -/
theorem Dev.enterDisabled_live {d1 d2 d3 : Dev} (hstate : (d.lkPort p).state ≠ .disabled) (h1 : d1 = d.stopPort p)
    (h2 : d2 = { d1 with ln := { d1.ln with
      lanes := forEach (upFrom p (d1.portWidth p)) (fun l (t : Tbl LnLane) =>
        Tbl.put {} l ({ state := if prbsOn (field (d1.rd rLnPrbsCtl l) 0 2) || prbsOn (field (d1.rd rLnPrbsCtl l) 2 2)
          then .prbs else .off } : LnLane) t) d1.ln.lanes,
      ports := Tbl.put {} p {} d1.ln.ports } })
    (h3 : d3 = ((d2.setLk p { d2.lkPort p with state := .disabled, seen := false }).latchLk p 0 0).raise evLkLinkBroken p) :
    d.enterDisabled p = if d3.isTwin p then { d3 with tw := { d3.tw with broken := true } } else d3 := by
  have hprbs : ∀ a b : Nat, (a == 1 || a == 2 || b == 1 || b == 2) = (prbsOn a || prbsOn b) :=
    fun a b => Bool.or_assoc ..
  subst h1 h2 h3
  refine (if_neg hstate).trans ?_
  simp only [hprbs]

/-! ### HELLOs (R265, R266) -/

section
variable {w : Nat} (hstate : (d.lkPort p).state = .hello) (hform : helloOk w = true)
include hstate hform

/-- A HELLO of another width, or from this node, is reported. -/
theorem Dev.helloArrive_mismatch (h : field w 24 8 ≠ d.portWidth p ∨ field w 32 18 = d.node) :
    d.helloArrive p w = d.raise evLkHelloMismatch p :=
  (if_neg (not_or.2 ⟨not_not_intro hstate, by rw [hform]; decide⟩)).trans (if_pos h)

/-- A valid HELLO tells the peer: it brings the port UP where the peer has seen a HELLO of its own, and is answered else. -/
theorem Dev.helloArrive_valid {d1 : Dev} (hwidth : field w 24 8 = d.portWidth p) (hnode : field w 32 18 ≠ d.node)
    (h1 : d1 = d.setLk p { d.lkPort p with
      seen := true, heard := true, peerNode := field w 32 18, peerPort := field w 64 8 }) :
    d.helloArrive p w = if flag w 8 then d1.enterUp p else d1.sendHello p := by
  subst h1
  exact (if_neg (not_or.2 ⟨not_not_intro hstate, by rw [hform]; decide⟩)).trans
    (if_neg (not_or.2 ⟨not_not_intro hwidth, hnode⟩))

end

end

/-- Settles O38: each cause comes to `Dev.breakPort`, a write of LK_PORT_CTL to `Dev.enterDisabled` or `Dev.leaveDisabled`, and a
HELLO to its report, its answer or `Dev.enterUp`. -/
theorem portsLive : Obligations.PortsLive := by
  refine ⟨fun s d p hd hup => ?causes, fun d e e1 e2 p reason rank cur flap x => Dev.breakPort_live,
    fun d p reason => Dev.rankOf_eq reason, fun d d1 d2 p h1 h2 => ?stop, fun s d p hd hstate hheld hpast => ?holddown,
    fun d d1 p y hy h1 => ?training, fun s d d1 p v hd hp hi hv hport h1 hport1 henable hhold => ?control,
    fun d p reason => Dev.breakLive_eq reason, fun d p => Dev.leaveDisabled_eq,
    fun d d1 d2 d3 p => ⟨fun hstate => if_pos hstate, Dev.enterDisabled_live⟩,
    fun s d p v hd hp hi hv hport => ?noPort, fun s d p w x hd hx hstate hform => ?hello, fun d d1 d2 p h1 h2 => ?up⟩
  case causes =>
    exact ⟨fun hrun => runDev_next (f := fun d => d.auditPersist p) hd (if_pos ⟨hup, hrun⟩),
      fun hrun => runDev_next (f := fun d => d.peerSilent p) hd (if_pos ⟨hup, hrun⟩),
      fun c hc halive hrun =>
        runDev_next (f := fun d => d.creditTimeout p) hd (if_pos ⟨hup, Dev.starvedLong_of hc halive hrun⟩)⟩
  case stop => subst h1 h2; rfl
  case holddown => exact runDev_next (f := fun d => d.holddownEnd p) hd (Dev.holddownEnd_due hstate hheld hpast)
  case training => subst hy h1; rfl
  case control =>
    have hrun {E : Dev} (h : (if !(flag v 0) || flag v 2 then d1.enterDisabled p else d1.leaveDisabled p) = E) :
        runDev s (fun d => d.coreWrite rLkPortCtl p v) = .next (s.after E) := by
      refine runDev_next hd ((Dev.coreWrite_lkPortCtl hp hi (by omega) hport).trans ?_)
      rw [Dev.lkCtlWrite_eq hport h1 hport1, henable, hhold, h]
    refine ⟨fun hon hfree => ?_, fun hoff => ?_⟩
    · have h := hrun (if_neg (by simp only [hon, hfree, Bool.not_true, Bool.or_self, Bool.false_eq_true, not_false_eq_true]))
      exact ⟨fun _ => h, h, h⟩
    · have h := hrun (if_pos (by rcases hoff with h | h <;> simp only [h, Bool.not_false, Bool.true_or, Bool.or_true]))
      exact ⟨fun _ => h, h, h⟩
  case noPort =>
    have h : runDev s (fun d => d.coreWrite rLkPortCtl p v) = .next (s.after (d.emit .applyRefused)) :=
      runDev_next hd (Dev.coreWrite_lkPortCtl_noPort hp hi (by omega) hport)
    exact ⟨h, h, h⟩
  case hello =>
    subst hx
    have hrun {E : Dev} (h : d.helloArrive p w = E) : exec (.hello p w) s = .next (s.after E) :=
      runDev_next (f := fun d => d.helloArrive p w) hd h
    exact ⟨fun hbad => hrun (Dev.helloArrive_mismatch hstate hform hbad), fun d1 hwidth hnode h1 =>
      ⟨fun hseen => hrun ((Dev.helloArrive_valid hstate hform hwidth hnode h1).trans (if_pos hseen)),
        fun hunseen => hrun ((Dev.helloArrive_valid hstate hform hwidth hnode h1).trans
          (if_neg (Bool.eq_false_iff.1 hunseen)))⟩⟩
  case up => subst h1 h2; rfl

end Sys2Proof.Machine

/-! SUPPORT. What a lane receives, from its levels to its port's blocks: filler blocks and commas, loss of alignment, and codewords
(R270 to R273, R276 to R280). -/

namespace Sys2Proof.Machine

section
variable {d : Dev} {l p : Nat}

/-! ### Filler blocks (R274 to R277, R280) -/

section
variable {pos arrived fill : Nat} {levels : List Nat} (href : d.refPresent p = true)
  (hstate : (d.lane l).state = .hunt ∨ (d.lane l).state = .aligned)
include href hstate

/-- A lane that hunts or is aligned, on a present reference, takes its levels. -/
theorem Dev.fillerBlock_takes :
    ¬(((d.lane l).state ≠ .hunt ∧ (d.lane l).state ≠ .aligned) ∨ d.refPresent p = false) :=
  not_or.2 ⟨fun h => hstate.elim h.1 h.2, ne_false_of_eq_true href⟩

variable (hport : d.portOfLane l = some p)
include hport

/-- An elastic buffer that has overflowed or run empty loses the lane. -/
theorem Dev.fillerBlock_slip (hfill : fill = 0 ∨ 256 < fill) :
    d.fillerBlock l pos arrived fill levels = ((d.latchLn l 4).raise evLnElasticSlip p).loseLane l := by
  unfold Dev.fillerBlock
  rw [hport]
  exact (if_neg (Dev.fillerBlock_takes href hstate)).trans (if_pos hfill)

variable {raw flipped : List Nat} {inv missed : Bool} {d1 : Dev} (hlow : 0 < fill) (hhigh : fill ≤ 256)
  (hraw : raw = levels.map (· % 4)) (hflipped : flipped = raw.map (fun v => 3 - v))
  (hinv : inv = (if (findComma flipped).isSome then true else if (findComma raw).isSome then false else (d.lane l).inv))
  (h1 : d1 = (d.setLane l { d.lane l with inv := inv }).raiseIf (inv && !(d.lane l).inv) evLnPolarityInv p)
include hlow hhigh hraw hflipped hinv h1

/-- A correct comma where the lane hunts, or at the place it expects one, is its filler block. -/
theorem Dev.fillerBlock_comma {i lane seq : Nat}
    (hfind : findComma (if inv then flipped else raw) = some (i, some (lane, seq)))
    (hdue : (d.lane l).state = .hunt ∨ (d.lane l).comma.map (· + fillerPeriod) = some (pos + i)) :
    d.fillerBlock l pos arrived fill levels = d1.fillerSeen l p (pos + i) arrived lane seq fill := by
  subst h1 hinv hflipped hraw
  unfold Dev.fillerBlock
  rw [hport]
  refine (if_neg (Dev.fillerBlock_takes href hstate)).trans ((if_neg (by omega)).trans ?_)
  dsimp only
  rw [hfind]
  exact if_pos (by simpa only [Bool.or_eq_true, decide_eq_true_eq] using hdue)

/-- Levels without a comma of a correct CHECK are a miss where they reach over the place the lane expects one. -/
theorem Dev.fillerBlock_noComma
    (hmissed : missed = (decide ((d.lane l).state = .aligned) && (match (d.lane l).comma with
      | some c => decide (pos ≤ c + fillerPeriod) && decide (c + fillerPeriod < pos + levels.length)
      | none => false)))
    (hfind : findComma (if inv then flipped else raw) = none ∨
      ∃ i, findComma (if inv then flipped else raw) = some (i, none)) :
    d.fillerBlock l pos arrived fill levels = if missed then d1.commaMiss l p else d1 := by
  subst h1 hinv hflipped hraw hmissed
  unfold Dev.fillerBlock
  rw [hport]
  refine (if_neg (Dev.fillerBlock_takes href hstate)).trans ((if_neg (by omega)).trans ?_)
  dsimp only
  rcases hfind with hfind | ⟨i, hfind⟩ <;> rewrite [hfind] <;> rfl

end

/-! ### Loss of alignment (R263, R276, R277) -/

/-- An aligned lane goes back to hunting, with its report, and its port is no longer aligned. -/
theorem Dev.loseLane_aligned {d1 : Dev} (hstate : (d.lane l).state = .aligned)
    (h1 : d1 = (((d.setLane l { d.lane l with state := .hunt, comma := none, missed := 0, syms := [], blocks := [] }).latchLn l
      1).raise evLnAlignLost (d.lanePort l))) (hport : d1.portOfLane l = d.portOfLane l) :
    d.loseLane l = match d.portOfLane l with | some p => d1.portUnaligned p | none => d1 := by
  rw [← hport]
  subst h1
  exact if_pos hstate

section
variable {d1 : Dev} (haligned : (d.lnPort p).aligned = true) (h1 : d1 = d.setLnPort p { d.lnPort p with aligned := false })
include haligned h1

/-- A port in HELLO or UP that is no longer aligned breaks with reason LANES. -/
theorem Dev.portUnaligned_breaks (hstate : (d1.lkPort p).state = .hello ∨ (d1.lkPort p).state = .up) :
    d.portUnaligned p = d1.breakPort p 2 := by
  subst h1
  refine (if_pos haligned).trans ?_
  dsimp only
  rcases hstate with h | h <;> rw [h]

/-- A port that trains or is disabled only ceases to be aligned. -/
theorem Dev.portUnaligned_idle (hstate : (d1.lkPort p).state = .training ∨ (d1.lkPort p).state = .disabled) :
    d.portUnaligned p = d1 := by
  subst h1
  refine (if_pos haligned).trans ?_
  dsimp only
  rcases hstate with h | h <;> rw [h]

end

/-! ### Codewords (R270 to R273, R276, R278) -/

/-- An aligned lane loses its stuffed pairs, reports those that are absent, decodes its whole codewords and passes its blocks on. -/
theorem Dev.codeword_aligned {d1 : Dev} {levels : List Nat} {y : LnLane} {u : Destuffed} (hstate : (d.lane l).state = .aligned)
    (hu : u = destuff (d.lane l).runLevel (d.lane l).runLen
      (levels.map (fun v => if (d.lane l).inv then 3 - v % 4 else v % 4)))
    (hy : y = { d.lane l with
      runLevel := u.level, runLen := u.run, syms := (d.lane l).syms ++ u.symbols,
      stuffTick := satAdd 0xFFFF (d.lane l).stuffTick u.pairs })
    (h1 : d1 = forEach (upFrom 0 u.missing) (fun _ e => e.raise evLnStuffErr (d.lanePort l)) (d.setLane l y)) :
    d.codeword l levels = (d1.decodeWords l (y.syms.length / 1360)).joinPort (d.lanePort l) := by
  subst h1 hy hu
  exact if_neg (not_not_intro hstate)

/-- An aligned lane with 1,360 symbols, not yet 64 codewords past its filler block, decodes the first of them and goes on. -/
theorem Dev.decodeWords_succ (n : Nat) : d.decodeWords l (n + 1) =
    if (d.lane l).state = .aligned ∧ (d.lane l).words < 64 ∧ 1360 ≤ (d.lane l).syms.length then
      (((d.setLane l { d.lane l with syms := (d.lane l).syms.drop 1360 }).decodeWord l
        ((d.lane l).syms.take 1360)).decodeWords l n)
    else d := by
  have hstop : ((d.lane l).state ≠ .aligned ∨ 64 ≤ (d.lane l).words ∨ (d.lane l).syms.length < 1360) ↔
      ¬((d.lane l).state = .aligned ∧ (d.lane l).words < 64 ∧ 1360 ≤ (d.lane l).syms.length) := by
    rw [Decidable.not_and_iff_or_not, Decidable.not_and_iff_or_not, Nat.not_lt, Nat.not_le]
  exact (ite_congr (propext hstop) (fun _ => rfl) (fun _ => rfl)).trans (ite_not ..)

/-! The scrambler is taken as any function in the next two proofs, so that nothing runs through its 2,560 steps. -/

section
variable {bits scram : Nat} {word : List Nat} {x : LnLane} (hx : d.lane l = x)
include hx

/-- A codeword that the code corrects gives its block, counts what it corrected, and reports the symbol that passes CORR_WARN. -/
theorem Dev.decodeWord_corrected {fixed : List Nat} {n : Nat} {d1 d2 : Dev}
    (hdecode : rsDecode (codeSymbols word) = some (fixed, n))
    (hscramble : scramble 2560 x.scram (dataBits fixed) = (bits, scram))
    (h1 : d1 = d.setLane l { x with
      scram := scram, words := x.words + 1, blocks := x.blocks ++ [(toBytes 320 bits, false)], corrTick := x.corrTick + n })
    (h2 : d2 = (if 0 < n then (d1.addLane rLnFecSym l n).addLane rLnFecCw l 1 else d1)) :
    d.decodeWord l word = d2.raiseIf (decide (x.corrTick ≤ d2.corrWarn) && decide (d2.corrWarn < x.corrTick + n))
      evLnFecCorrHigh (d.lanePort l) := by
  subst h2 h1 hx
  unfold Dev.decodeWord
  generalize scramble 2560 = scrambled at hscramble ⊢
  obtain ⟨rfl, rfl⟩ := Prod.ext_iff.1 hscramble
  dsimp only
  rw [hdecode]
  rfl

/-- A codeword that the code cannot correct gives its block marked, and is counted and reported; at UNCORR_LIMIT in a tick the lane
loses its alignment. -/
theorem Dev.decodeWord_failed {d1 : Dev} (hdecode : rsDecode (codeSymbols word) = none)
    (hscramble : scramble 2560 x.scram (dataBits (codeSymbols word)) = (bits, scram))
    (h1 : d1 = ((d.setLane l { x with
      scram := scram, words := x.words + 1, blocks := x.blocks ++ [(toBytes 320 bits, true)],
      uncorrTick := x.uncorrTick + 1 }).addLane rLnFecUncorr l 1).raise evLnFecUncorr (d.lanePort l)) :
    d.decodeWord l word = if d1.uncorrLimit ≤ x.uncorrTick + 1 then d1.loseLane l else d1 := by
  subst h1 hx
  unfold Dev.decodeWord
  generalize scramble 2560 = scrambled at hscramble ⊢
  obtain ⟨rfl, rfl⟩ := Prod.ext_iff.1 hscramble
  dsimp only
  rw [hdecode]
  rfl

end

end

/-- Settles O39: levels with a comma come to `Dev.fillerSeen`, levels without one to `Dev.commaMiss` where one was due, a loss to
`Dev.portUnaligned`, and the line symbols of an aligned lane to `Dev.decodeWord`, one codeword at a time. -/
theorem lanesReceive : Obligations.LanesReceive := by
  refine ⟨fun s d l pos arrived fill p levels hd hport href hstate => ?filler,
    fun d d1 d2 l p pos arrived lane seq fill found h1 hfound h2 => ?seen, fun d d1 l p x hx h1 => ?miss,
    fun d d1 l => Dev.loseLane_aligned, fun d d1 p haligned h1 =>
      ⟨Dev.portUnaligned_breaks haligned h1, Dev.portUnaligned_idle haligned h1⟩,
    fun s d d1 l levels x y u hd hx hstate hu hy h1 => ?codeword, fun d l n => Dev.decodeWords_succ n,
    fun d l bits scram word x hx =>
      ⟨fun fixed n d1 d2 => Dev.decodeWord_corrected hx, fun d1 => Dev.decodeWord_failed hx⟩,
    fun s d l levels hd hstate => runDev_next (f := fun d => d.codeword l levels) hd (if_pos hstate)⟩
  case filler =>
    have hrun {E : Dev} (h : d.fillerBlock l pos arrived fill levels = E) :
        exec (.fillerBlock l pos arrived fill levels) s = .next (s.after E) :=
      runDev_next (f := fun d => d.fillerBlock l pos arrived fill levels) hd h
    exact ⟨fun hfill => hrun (Dev.fillerBlock_slip href hstate hport hfill),
      fun raw flipped inv missed d1 hlow hhigh hraw hflipped hinv h1 hmissed =>
        ⟨fun i lane seq hfind hdue => hrun
            (Dev.fillerBlock_comma href hstate hport hlow hhigh hraw hflipped hinv h1 hfind hdue),
          fun hfind => hrun
            (Dev.fillerBlock_noComma href hstate hport hlow hhigh hraw hflipped hinv h1 hmissed hfind)⟩⟩
  case seen => subst h2 hfound h1; rfl
  case miss => subst h1 hx; rfl
  case codeword =>
    subst hx
    exact runDev_next (f := fun d => d.codeword l levels) hd (Dev.codeword_aligned hstate hu hy h1)

end Sys2Proof.Machine

/-! SUPPORT. Events of lanes and what software reads of them: references, training, PRBS checkers and counters that a read clears
(R279, R282, R283, R285). -/

namespace Sys2Proof.Machine

section
variable {d : Dev}

/-! ### References and training (R279, R282) -/

/-- A present reference that stops is latched and reported, and every lane of the ports on it loses its alignment. -/
theorem Dev.refLost_present {d1 : Dev} {r : Nat} {ports : List Nat} (hflag : flag d.ln.refOk r = true)
    (hports : ports = (Tbl.keys d.map).filter (fun p => d.fld rLnPortRef 0 2 p == r))
    (h1 : d1 = (({ d with ln := { d.ln with refOk := setField d.ln.refOk r 1 0 } }).latchLn (ports.headD 0) 5).raise
      evLnRefLost 0) :
    d.refLost r = forEach (ports.flatMap d1.portLanes) (fun l d => d.loseLane l) d1 := by
  subst h1 hports
  exact if_pos hflag

/-! ### Counters that a read clears (R283, R285) -/

/-- A register of the lane block shows the lane that LN_LANE_SEL names. -/
theorem Dev.bankOf_lnLaneSel {r : Reg} (h : r.sel = some .lnLaneSel) : d.bankOf r = d.fld rLnLaneSel 0 8 := by
  unfold Dev.bankOf
  rw [h]

/-- A core's read of a counter of the lane shown answers its count and clears it. -/
theorem Dev.laneRead_core {r : Reg} {l : Nat} (hp : 9 ≤ d.bt.phase) (hr : r.sel = some .lnLaneSel)
    (hl : l = d.fld rLnLaneSel 0 8) :
    d.coreDo (fun d => d.laneRead r (d.bankOf r)) = (d.emit (.regValue (d.rd r 0 l))).wr r 0 0 l := by
  rw [hl, ← Dev.bankOf_lnLaneSel hr]
  exact if_pos hp

end

/-- Settles O40: each event comes to the guarded branch of its command, and each read of a counter to `Dev.laneRead_core`. -/
theorem laneEvents : Obligations.LaneEvents := by
  refine ⟨fun s d d1 r ports hd hflag hports h1 => ?lost,
    fun s d r hd => runDev_next (f := fun d => d.refPresentNow r) hd rfl,
    fun s d p y hd hy hstate honce hdue => ?train, fun s d l x hd hx => ?prbs, fun s d l hd hp hl => ?counters,
    fun s d tile hd => runDev_next (f := fun d => d.fabricD2d tile) hd rfl⟩
  case lost => exact runDev_next (f := fun d => d.refLost r) hd (Dev.refLost_present hflag hports h1)
  case train =>
    subst hy
    exact runDev_next (f := fun d => d.trainTimeout p) hd (if_pos ⟨hstate, honce, hdue⟩)
  case prbs =>
    subst hx
    exact ⟨fun hstate hon => runDev_next (f := fun d => d.prbsLock l) hd (if_pos ⟨hstate, hon⟩),
      fun hlock => runDev_next (f := fun d => d.prbsLost l) hd (if_pos hlock)⟩
  case counters =>
    have hrun {r : Reg} (hr : r.sel = some .lnLaneSel) :
        runDev s (fun d => d.coreDo (fun d => d.laneRead r (d.bankOf r))) =
          .next (s.after ((d.emit (.regValue (d.rd r 0 l))).wr r 0 0 l)) :=
      runDev_next hd (Dev.laneRead_core hp hr hl)
    exact ⟨hrun rfl, hrun rfl, hrun rfl, hrun rfl⟩

end Sys2Proof.Machine

/-! SUPPORT. The schedulers of the outputs: what a decision serves, how a started frame leaves, the code of a gate switch, gates
that stay closed, flows whose slot passes, guaranteed bursts and held escape frames (R287 to R301). -/

namespace Sys2Proof.Machine

/-! ### Decisions (R287 to R291) -/

/-- What a decision that serves frame `f` of class `c` leaves, before the frame itself starts: the scheduler has served the class,
and the flow of its queue, where it has one, is charged (R290, R298, R301). -/
def Dev.serveClass (d : Dev) (o c tier : Nat) (cxl : Bool) (x : ScOut) (f : Frame) : Dev :=
  let served := d.setSc o (d.afterServe o c tier f.bytes ((upFrom 0 8).filter (d.classOk o cxl)) x)
  match served.queueFlow o c with
  | some fl => served.flowCharge fl f.bytes
  | none => served

section
variable {d E : Dev} {o t : Nat} {cxl : Bool} (hE : ((d.at_ t).noteHeld o).endBursts o cxl = E)
include hE

/-- While a frame is leaving, a decision notes held flows and ended bursts and does nothing else. -/
theorem Dev.decide_sending (hs : E.sending o = true) : d.decide_ o t cxl = E := by
  subst hE
  exact if_pos hs

/-- A decision that names no class does nothing else either. -/
theorem Dev.decide_none {x : ScOut} (hpick : E.pick o cxl = (none, x)) : d.decide_ o t cxl = E := by
  subst hE
  simp only [Dev.decide_, hpick, ite_self]

/-- A decision of an output that is not sending starts the eligible head of the class that the tiers name. -/
theorem Dev.decide_serves {c tier : Nat} {x : ScOut} {f : Frame} (hs : E.sending o = false)
    (hpick : E.pick o cxl = (some (c, tier), x)) (hhead : E.eligibleHead o c cxl = some f) :
    d.decide_ o t cxl =
      ((E.serveClass o c tier cxl x f).startFrame f).raiseIf (E.overruns o c f.bytes) evScGateOverrun o := by
  subst hE
  simp only [Dev.decide_, hs, hpick, hhead, Bool.false_eq_true, if_false]
  rfl

end

section
variable {d : Dev} {f : Frame}

/-- A frame of a link that starts is counted and its flits go out; a whole frame leaves, any other goes on as cut-through. -/
theorem Dev.startFrame_linked (hcxl : ∀ c, f.body ≠ .cxl c)
    (hcap : ∀ a b c x e g h i, f.body ≠ .capture a b c x e g h i) : d.startFrame f =
      if f.whole then (((d.countSent f).sendFlits f).countTx f.output f.bytes).leave f
      else ((d.countSent f).sendFlits f).queueChanged f.output := by
  unfold Dev.startFrame
  split
  · exact absurd ‹_› (hcxl _)
  · exact absurd ‹_› (hcap _ _ _ _ _ _ _ _)
  · rfl

/-- A CXL frame that starts leaves by its port. -/
theorem Dev.startFrame_cxl {c : CxlFrame} (h : f.body = .cxl c) :
    d.startFrame f = ((d.emit (.cxl c)).countTx f.output f.bytes).leave f := by
  simp only [Dev.startFrame, h]

end

/-! ### SC_GATE_SWITCH and the armed switch (R293) -/

/-- The first code of R293 that applies to a switch of an output at a tick; 0 where none does. -/
def Dev.gateCode (d : Dev) (o tick : Nat) : Nat :=
  if tick < d.now + 2 then 1 else if (d.scOut o).armed.isSome then 2
  else if (d.gateEntries o (1 - (d.scOut o).bank)).any (fun e => e.2 == 0) then 3 else 0

section
variable {d : Dev} {o n : Nat}

/-- A tick less than 2 ticks ahead is TICK_PAST. -/
theorem Dev.gateCode_tickPast (h : n < d.now + 2) : d.gateCode o n = 1 := if_pos h

/-- Any other tick is BUSY while a switch is armed. -/
theorem Dev.gateCode_busy (hn : d.now + 2 ≤ n) (ha : (d.scOut o).armed ≠ none) : d.gateCode o n = 2 :=
  (if_neg (Nat.not_lt.2 hn)).trans (if_pos (Option.isSome_iff_ne_none.2 ha))

/-- Where neither applies, the entries of the inactive bank decide. -/
theorem Dev.gateCode_form (hn : d.now + 2 ≤ n) (ha : (d.scOut o).armed = none) : d.gateCode o n =
    if (d.gateEntries o (1 - (d.scOut o).bank)).any (fun e => e.2 == 0) then 3 else 0 := by
  simp only [Dev.gateCode, if_neg (Nat.not_lt.2 hn), ha, Option.isSome_none, Bool.false_eq_true, if_false]

/-- A switch that no code applies to is armed. -/
theorem Dev.gateArm_armed (h : d.gateCode o n = 0) :
    d.gateArm o n = d.setSc o { d.scOut o with armed := some n, refuse := 0 } :=
  if_pos h

/-- Any other is refused with its code. -/
theorem Dev.gateArm_refused (h : d.gateCode o n ≠ 0) : d.gateArm o n =
    ((d.setSc o { d.scOut o with refuse := d.gateCode o n }).raise evScGateRefused o).emit .applyRefused :=
  if_neg h

/-- A core's write of SC_GATE_SWITCH with ARM 1 asks for a switch of the selected output. -/
theorem Dev.coreWrite_scGateSwitch {v : Nat} (hp : 9 ≤ d.bt.phase) (hv : v < 2 ^ 64) (harm : flag v 63 = true) :
    d.coreWrite rScGateSwitch 0 v = d.gateArm (d.fld rScPortSel 0 9) (field v 0 48) :=
  (Dev.coreWrite_does hp rScGateSwitch (by decide) hv (by decide) rfl).trans (if_pos harm)

/-- At the armed tick the inactive bank becomes active. -/
theorem Dev.gateSwitch_due (ha : (d.scOut o).armed = some n) (hn : n ≤ d.now) : d.gateSwitch o =
    (d.setSc o { d.scOut o with bank := 1 - (d.scOut o).bank, armed := none }).raise evScGateSwitch o := by
  simp only [Dev.gateSwitch, ha, if_pos hn]

/-! ### Gates that stay closed (R295) -/

/-- A class without a frame queued, or whose gate is open, is closed since no time. -/
theorem Dev.closedCycle_open {c : Nat} (h : d.queued o c = false ∨ flag (d.gatesOpen o) c = true) :
    d.closedCycle o c = d.setSc o { d.scOut o with closedAt := Tbl.put none c none (d.scOut o).closedAt } := by
  refine if_neg ?_
  rcases h with h | h <;> simp only [h, Bool.false_and, Bool.not_true, Bool.and_false, Bool.false_eq_true, not_false_eq_true]

section
variable {c : Nat} (hq : d.queued o c = true) (hshut : flag (d.gatesOpen o) c = false)
include hq hshut

/-- The time is noted at which a queued class first finds its gate closed. -/
theorem Dev.closedCycle_begins (h : Tbl.get none (d.scOut o).closedAt c = none) :
    d.closedCycle o c = d.setSc o { d.scOut o with closedAt := Tbl.put none c (some d.st.ns) (d.scOut o).closedAt } := by
  simp only [Dev.closedCycle, hq, hshut, h, Bool.not_false, Bool.and_self, if_true]

/-- A gate closed since a time is reported once a whole cycle has passed, and the next cycle counts from there. -/
theorem Dev.closedCycle_since {t : Nat} (h : Tbl.get none (d.scOut o).closedAt c = some t) :
    d.closedCycle o c = if cycleOf (d.gateEntries o (d.scOut o).bank) ≤ d.st.ns - t then
      (d.setSc o { d.scOut o with closedAt := Tbl.put none c (some d.st.ns) (d.scOut o).closedAt }).raise evScGateClosedCycle o
    else d := by
  simp only [Dev.closedCycle, hq, hshut, h, Bool.not_false, Bool.and_self, if_true]

end

end

/-! ### Slots that pass (R299) -/

section
variable {d d1 : Dev} {f : Nat} (h1 : d1 = d.setFlow f { d.flow f with slot := none, parked := false })
include h1

/-- A flow whose slot passes before its TE is entered again. -/
theorem Dev.passFlow_held (hno : d1.flowOk f = false) : d.passFlow f = d1.enterWheel f := by
  subst h1
  exact if_neg (Bool.eq_false_iff.1 hno)

/-- A flow that is eligible as its slot passes is released: reported when late, and the packets it paced go on. -/
theorem Dev.passFlow_released {d2 : Dev} (hok : d1.flowOk f = true)
    (h2 : d2 = d1.raiseIf (decide ((d.flow f).due + 1 < (d.st.ns / 8 : Nat)) && !(d.flow f).parked) evScPaceLate 0) :
    d.passFlow f = forEach (d2.tp.msgs.filter (fun m => decide (d2.msgFlow m = some f)
        && (decide (m.phase = .paced) || (decide (m.phase = .waiting) && m.id.isNone))))
      (fun m d => if m.phase = .paced then (d.setMsg { m with phase := .sending }).pump m.num {} pumpFuel
        else d.firstSend m.dstNode) d2 := by
  subst h2 h1
  exact if_pos hok

end

/-! ### Bursts and held escape frames (R301) -/

section
variable {d : Dev} {o c : Nat}

/-- A class whose count has reached AGE_LIMIT and that has no burst is granted one, among the others by descending number. -/
theorem Dev.ageBurst_granted (hage : d.ageLimitSc ≤ Tbl.get 0 (d.scOut o).age c)
    (hnew : (d.scOut o).burst.all (fun b => b.1 != c) = true) : d.ageBurst o c =
      (d.setSc o { d.scOut o with burst := (d.scOut o).burst.filter (fun e => decide (c < e.1))
        ++ [(c, d.burstBytes o, false)] ++ (d.scOut o).burst.filter (fun e => decide (e.1 < c)) }).raise evScAgeBurst o :=
  if_pos ⟨hage, hnew⟩

/-- An escape frame that a gate or a flow has held at the head for half of ESC_TIMEOUT is reported once. -/
theorem Dev.escHeld_due {p t : Nat} {f : Frame} (hf : d.head p (2 * c + 1) = some f) (ht : f.headAt = some t)
    (hfresh : f.heldRaised = false) (hw : orOne (d.fld rRtCtl 16 8) ≤ 2 * d.waited f.headLocal)
    (hheld : d.gatePass p c f = false ∨ d.flowPass p c = false) :
    d.escHeld p c = (d.setFrame { f with heldRaised := true }).raise evScEscHeld p := by
  simp only [Dev.escHeld, hf, ht]
  exact if_pos ⟨hfresh, hw, hheld⟩

end

/-- Settles O36: a decision comes to `Dev.decide_serves` or does nothing more, a write of SC_GATE_SWITCH to `Dev.gateArm` by
`Dev.gateCode`, a flow whose slot passes to `Dev.passFlow_held` or `Dev.passFlow_released`, and each report is the guard of its
command. -/
theorem schedulersAct : Obligations.SchedulersAct := by
  refine ⟨fun s d o t cxl x hd hpick => runDev_next (f := fun d => d.decide_ o t cxl) rfl (Dev.decide_none hd hpick),
    fun s d d1 d2 o t c tier cxl x f hd hs hpick hhead h1 h2 => ?serves,
    fun s d o t cxl hd hs => runDev_next (f := fun d => d.decide_ o t cxl) rfl (Dev.decide_sending hd hs),
    fun d d1 f hcxl hcap h1 => h1 ▸ Dev.startFrame_linked hcxl hcap, fun d f c hf => Dev.startFrame_cxl hf,
    fun s d v o x hd hp hv harm ho hx hn hfree hform => ?arms,
    fun s d v o code x hd hp hv harm ho hx hcode => ?refused,
    fun s d o n hd ha hn => runDev_next (f := fun d => d.gateSwitch o) hd (Dev.gateSwitch_due ha hn),
    fun s o t => rfl, fun d o c x hx => ?closed, fun s d t hd => ?slot,
    fun d d1 f h1 => ⟨Dev.passFlow_held h1, fun d2 => Dev.passFlow_released h1⟩,
    fun s d o c x hd hx hage hnew => ?burst, fun s d p c t f hd hf ht hfresh hw hheld => ?escape⟩
  case serves =>
    have hclass : d2 = d.serveClass o c tier cxl x f := by subst h2 h1; rfl
    subst hclass
    exact runDev_next (f := fun d => d.decide_ o t cxl) rfl (Dev.decide_serves hd hs hpick hhead)
  case arms =>
    subst ho hx
    have hzero : d.gateCode (d.fld rScPortSel 0 9) (field v 0 48) = 0 := by
      rw [Dev.gateCode_form hn hfree, hform]
      rfl
    exact runDev_next (f := fun d => d.coreWrite rScGateSwitch 0 v) hd
      ((Dev.coreWrite_scGateSwitch hp hv harm).trans (Dev.gateArm_armed hzero))
  case refused =>
    subst ho hx
    have hfirst : d.gateCode (d.fld rScPortSel 0 9) (field v 0 48) = code ∧ code ≠ 0 := by
      rcases hcode with ⟨rfl, hpast⟩ | ⟨rfl, hn, ha⟩ | ⟨rfl, hn, ha, hform⟩
      · exact ⟨Dev.gateCode_tickPast hpast, by decide⟩
      · exact ⟨Dev.gateCode_busy hn ha, by decide⟩
      · exact ⟨(Dev.gateCode_form hn ha).trans (if_pos hform), by decide⟩
    obtain ⟨rfl, hne⟩ := hfirst
    exact runDev_next (f := fun d => d.coreWrite rScGateSwitch 0 v) hd
      ((Dev.coreWrite_scGateSwitch hp hv harm).trans (Dev.gateArm_refused hne))
  case closed =>
    subst hx
    exact ⟨Dev.closedCycle_open, fun hq hshut => Dev.closedCycle_begins hq hshut,
      fun t hq hshut => Dev.closedCycle_since hq hshut⟩
  case slot =>
    subst hd
    rfl
  case burst =>
    subst hx
    exact runDev_next (f := fun d => d.ageBurst o c) hd (Dev.ageBurst_granted hage hnew)
  case escape => exact runDev_next (f := fun d => d.escHeld p c) hd (Dev.escHeld_due hf ht hfresh hw hheld)

end Sys2Proof.Machine

/-! SUPPORT. The machine as a whole: a step takes the front of the queue, every command completes, and fuses only burn (R441, R444,
R445, R448). -/

namespace Sys2Proof.Machine

/-- From one chip to another whose fuses burn, the lifecycle state does not go back. -/
theorem Chip.burns_state {c e : Chip} (h : c.burns e) (w : c.nv.fuses.wordsFit) :
    e.nv.fuses.wordsFit ∧ c.nv.fuses.burnsTo e.nv.fuses ∧ c.nv.fuses.state ≤ e.nv.fuses.state := by
  obtain ⟨hfit, hburns⟩ := h w
  exact ⟨hfit, hburns, Fuses.state_mono hburns⟩

/-- A step burns: it runs one command, or idles. -/
theorem step_burns {s t : State} (h : step s = .next t) : s.chip.burns t.chip := by
  unfold step at h
  split at h
  · cases h
    exact Chip.burns_refl _
  · next c rest _ => exact exec_burns c { s with pending := rest } t h

/-- Settles O3: `exec_burns` says of every command that fuses only burn, and the state is read from the words. -/
theorem fusesOnlyBurn : Obligations.FusesOnlyBurn := fun _ _ w h => Chip.burns_state (step_burns h) w

/-- Settles O1: the two branches of `step`. -/
theorem stepTakesTheFront : Obligations.StepTakesTheFront := by
  refine ⟨fun s c rest h => ?_, fun s h => ?_⟩ <;> simp only [step, h]

/-- Settles O2: every meaning runs an operation of the device or of the chip, and neither touches the queue. -/
theorem everyCommandCompletes : Obligations.EveryCommandCompletes := by
  intro c s
  cases c <;> exact ⟨_, rfl, rfl⟩

end Sys2Proof.Machine

/-! SUPPORT. What an occurrence of a source records: its counter, its pending bit, and the latch of its severity (R402 to R405,
R418). -/

namespace Sys2Proof.Machine

/-- A word packed from fields is below the power of their widths. -/
theorem pack_lt : ∀ l : List (Nat × Nat), pack l < 2 ^ (l.map Prod.fst).sum
  | [] => Nat.one_pos
  | (len, v) :: rest => by
    have hlow : v % 2 ^ len < 2 ^ len := Nat.mod_lt _ (Nat.two_pow_pos len)
    calc pack ((len, v) :: rest) < 2 ^ len + 2 ^ len * pack rest := Nat.add_lt_add_right hlow _
      _ = 2 ^ len * (pack rest + 1) := by rw [Nat.mul_add_one, Nat.add_comm]
      _ ≤ 2 ^ len * 2 ^ (rest.map Prod.fst).sum := Nat.mul_le_mul_left _ (pack_lt rest)
      _ = 2 ^ (((len, v) :: rest).map Prod.fst).sum := (Nat.pow_add ..).symm

section
variable {d : Dev} {src : Nat}

/-- A source that is not enabled is only counted. -/
theorem Dev.occur_disabled {inst : Nat} {forced : Bool} (h : flag (d.srcCfg src) 0 = false) :
    d.occur src inst forced = d.count src 1 := by
  simp only [Dev.occur, h, Bool.not_false, if_true]

section
variable (hrise : Tbl.rising 0 d.regs = true)
include hrise

/-- A counter that counts reads its sum, with WRAP where the sum left its 48 bits. -/
theorem Dev.rd_count_self (n k : Nat) : (d.count n k).rd rPcCtr n = (field (d.rd rPcCtr n) 0 48 + k) % 2 ^ 48
    + 2 ^ 63 * bit (flag (d.rd rPcCtr n) 63 || decide (2 ^ 48 ≤ field (d.rd rPcCtr n) 0 48 + k)) := by
  refine (Dev.rd_wr_mod hrise rPcCtr _ n 0).trans (Nat.mod_eq_of_lt ?_)
  have hsum : (field (d.rd rPcCtr n) 0 48 + k) % 2 ^ 48 < 2 ^ 48 := Nat.mod_lt _ (by decide)
  have hbit : ∀ b, bit b ≤ 1 := by decide
  have := hbit (flag (d.rd rPcCtr n) 63 || decide (2 ^ 48 ≤ field (d.rd rPcCtr n) 0 48 + k))
  show _ < 2 ^ 64
  omega

/-- A latch that holds an occurrence counts the next as lost and keeps its tick. -/
theorem Dev.rd_takeLatch_full {inst sev : Nat} {forced : Bool} (hfull : flag (d.rd rFeLatch sev) 63 = true) :
    (d.takeLatch src inst sev forced).rd rFeLatch sev =
        setField (setField (d.rd rFeLatch sev) 37 1 1) 40 8 (satInc 255 (field (d.rd rFeLatch sev) 40 8)) % 2 ^ 64 ∧
      (d.takeLatch src inst sev forced).rd rFeLatchTick sev = d.rd rFeLatchTick sev := by
  simp only [Dev.takeLatch, hfull, if_true]
  refine ⟨Dev.rd_wr_mod hrise rFeLatch _ sev 0, Dev.rd_wr_ne d ?_⟩
  rw [rFeLatch_key, rFeLatchTick_key]
  omega

/-- An empty latch takes the occurrence and its tick. -/
theorem Dev.rd_takeLatch_empty {inst sev : Nat} {forced : Bool} (hempty : flag (d.rd rFeLatch sev) 63 = false) :
    (d.takeLatch src inst sev forced).rd rFeLatchTick sev = d.now % 2 ^ 64 ∧
      (d.takeLatch src inst sev forced).rd rFeLatch sev =
        pack [(9, src), (3, 0), (4, (sourceRow src).unit.code), (20, inst), (1, bit forced), (26, 0), (1, 1)] := by
  simp only [Dev.takeLatch, hempty, Bool.false_eq_true, if_false]
  refine ⟨Dev.rd_wr_mod (Dev.rising_wr hrise _ _ _ _) rFeLatchTick _ sev 0, (Dev.rd_wr_ne _ ?_).trans ?_⟩
  · rw [rFeLatch_key, rFeLatchTick_key]
    omega
  · exact (Dev.rd_wr_mod hrise rFeLatch _ sev 0).trans (Nat.mod_eq_of_lt (pack_lt _))

end

/-- The latches of the other severities, and every register that is not a latch, keep their values. -/
theorem Dev.rd_takeLatch_ne {inst sev : Nat} {forced : Bool} {r : Reg} {i b : Nat}
    (hlatch : r.key i b ≠ 0x1100040 + 16 * sev) (htick : r.key i b ≠ 0x1100048 + 16 * sev) :
    (d.takeLatch src inst sev forced).rd r i b = d.rd r i b := by
  rw [← rFeLatch_key sev 0] at hlatch
  rw [← rFeLatchTick_key sev 0] at htick
  simp only [Dev.takeLatch]
  split
  · exact Dev.rd_wr_ne d hlatch
  · exact (Dev.rd_wr_ne _ htick).trans (Dev.rd_wr_ne d hlatch)

/-- A latch keeps the places of the register file rising. -/
theorem Dev.rising_takeLatch {inst sev : Nat} {forced : Bool} (hrise : Tbl.rising 0 d.regs = true) :
    Tbl.rising 0 (d.takeLatch src inst sev forced).regs = true := by
  simp only [Dev.takeLatch]
  split
  · exact Dev.rising_wr hrise _ _ _ _
  · exact Dev.rising_wr (Dev.rising_wr hrise _ _ _ _) _ _ _ _

/-- Counting writes the counter alone. -/
theorem Dev.rd_count_ne {n k : Nat} {r : Reg} {i b : Nat} (h : r.key i b ≠ 0x1210000 + 8 * n) :
    (d.count n k).rd r i b = d.rd r i b :=
  Dev.rd_wr_ne d (by rwa [rPcCtr_key])

section
variable {inst : Nat} {forced : Bool} (hs : src < 320) (hen : flag (d.srcCfg src) 0 = true)
include hen

/-- A register that is neither FE_PEND nor FE_HIST_STATUS reads, after an enabled occurrence, as the latch left it. -/
theorem Dev.rd_occur_enabled {r : Reg} {i b : Nat} (hhist : r.key i b ≠ 0x1100108)
    (hpend : r.key i b ≠ 0x1100080 + 8 * (src / 64)) : (d.occur src inst forced).rd r i b =
      ((d.count src 1).takeLatch src (occInstance src inst) (field (d.srcCfg src) 1 2) forced).rd r i b := by
  rw [← rFePend_key (src / 64) 0] at hpend
  exact (Dev.feOnly_rd (Dev.occur_recorded d inst forced hen) r i b hhist).trans (Dev.rd_wr_ne _ hpend)

include hs in
/-- The pending bit of an enabled occurrence is set. -/
theorem Dev.rd_occur_pending (hrise : Tbl.rising 0 d.regs = true) : (d.occur src inst forced).rd rFePend (src / 64) =
    (d.rd rFePend (src / 64) ||| 2 ^ (src % 64)) % 2 ^ 64 := by
  have hsev := field_lt (d.srcCfg src) 1 2
  rw [Dev.feOnly_rd (Dev.occur_recorded d inst forced hen) _ _ _ (by rw [rFePend_key]; omega)]
  have hcount : Tbl.rising 0 (d.count src 1).regs = true := Dev.rising_wr hrise _ _ _ _
  refine (Dev.rd_wr_mod (Dev.rising_takeLatch hcount) rFePend _ (src / 64) 0).trans ?_
  rw [Dev.rd_takeLatch_ne (by rw [rFePend_key]; omega) (by rw [rFePend_key]; omega),
    Dev.rd_count_ne (by rw [rFePend_key]; omega)]
  rfl

include hs in
/-- What the latch of its severity, and those of the others, read after an enabled occurrence. -/
theorem Dev.rd_occur_latches (hrise : Tbl.rising 0 d.regs = true) {e : Dev} {sev w : Nat} (he : d.occur src inst forced = e)
    (hsev : sev = field (d.srcCfg src) 1 2) (hw : w = d.rd rFeLatch sev) :
    (flag w 63 = true → e.rd rFeLatch sev = setField (setField w 37 1 1) 40 8 (satInc 255 (field w 40 8)) % 2 ^ 64 ∧
      e.rd rFeLatchTick sev = d.rd rFeLatchTick sev) ∧
    (flag w 63 = false → e.rd rFeLatchTick sev = d.now % 2 ^ 64 ∧
      e.rd rFeLatch sev = pack [(9, src), (3, 0), (4, (sourceRow src).unit.code), (20, occInstance src inst),
        (1, bit forced), (26, 0), (1, 1)]) ∧
    (∀ v, v ≠ sev → v < 4 → e.rd rFeLatch v = d.rd rFeLatch v ∧ e.rd rFeLatchTick v = d.rd rFeLatchTick v) := by
  have hlt : sev < 4 := hsev ▸ field_lt (d.srcCfg src) 1 2
  have hread {r : Reg} {v : Nat} (hk : r.key v 0 < 0x1100080) : e.rd r v =
      ((d.count src 1).takeLatch src (occInstance src inst) sev forced).rd r v := by
    rw [← he, hsev]
    exact Dev.rd_occur_enabled hen (by omega) (by omega)
  have hlatch {v : Nat} (hv : v < 4) := hread (r := rFeLatch) (v := v) (by rw [rFeLatch_key]; omega)
  have htick {v : Nat} (hv : v < 4) := hread (r := rFeLatchTick) (v := v) (by rw [rFeLatchTick_key]; omega)
  have hcount : Tbl.rising 0 (d.count src 1).regs = true := Dev.rising_wr hrise _ _ _ _
  have hkeep {v : Nat} (hv : v < 4) : (d.count src 1).rd rFeLatch v = d.rd rFeLatch v :=
    Dev.rd_count_ne (by rw [rFeLatch_key]; omega)
  have hkeepTick {v : Nat} (hv : v < 4) : (d.count src 1).rd rFeLatchTick v = d.rd rFeLatchTick v :=
    Dev.rd_count_ne (by rw [rFeLatchTick_key]; omega)
  rw [hw, ← hkeep hlt, hlatch hlt, htick hlt, ← hkeepTick hlt]
  refine ⟨Dev.rd_takeLatch_full hcount, Dev.rd_takeLatch_empty hcount, fun v hne hv => ?_⟩
  rw [hlatch hv, htick hv, ← hkeep hv, ← hkeepTick hv]
  exact ⟨Dev.rd_takeLatch_ne (by rw [rFeLatch_key]; omega) (by rw [rFeLatch_key]; omega),
    Dev.rd_takeLatch_ne (by rw [rFeLatchTick_key]; omega) (by rw [rFeLatchTick_key]; omega)⟩

end

/-- An occurrence counts once, enabled or not. -/
theorem Dev.rd_occur_counter (hs : src < 320) (inst : Nat) (forced : Bool) :
    (d.occur src inst forced).rd rPcCtr src = (d.count src 1).rd rPcCtr src := by
  have hsev := field_lt (d.srcCfg src) 1 2
  cases hen : flag (d.srcCfg src) 0
  case false => rw [Dev.occur_disabled hen]
  case true =>
    rw [Dev.rd_occur_enabled hen (by rw [rPcCtr_key]; omega) (by rw [rPcCtr_key]; omega)]
    exact Dev.rd_takeLatch_ne (by rw [rPcCtr_key]; omega) (by rw [rPcCtr_key]; omega)

end

/-- Settles O8: the counter by `Dev.rd_occur_counter`, pending bit and latches by what the record reads, and the rest by
`Dev.occur_feOnly`. -/
theorem occurrencesAreRecorded : Obligations.OccurrencesAreRecorded := by
  intro d e src inst sev w forced hs hrise he hsev hw
  have honly : d.feOnly (raisedKey src) e := he ▸ Dev.occur_feOnly d hs inst forced
  refine ⟨fun hoff => he ▸ Dev.occur_disabled hoff, ?counter, fun hen => ⟨?pending, ?latches⟩, fun hf => ?forced, ?units,
    fun q j b hplace hhist hctr => Dev.feOnly_rd honly q j b ?place⟩
  case counter => rw [← he, Dev.rd_occur_counter hs, Dev.rd_count_self hrise]
  case pending => exact he ▸ Dev.rd_occur_pending hs hen hrise
  case latches => exact Dev.rd_occur_latches hs hen hrise he hsev hw
  case forced =>
    subst hf he
    exact Dev.occur_forced d src inst
  case units =>
    obtain ⟨regs, fe, fns, out, todo, rfl, -⟩ := honly
    rfl
  case place =>
    rw [rPcCtr_key] at hctr
    unfold raisedKey
    omega

end Sys2Proof.Machine

/-! SUPPORT. The registers of the fault collector and of the sampler (R399 to R416, R425, R428). -/

namespace Sys2Proof.Machine

section
variable {d : Dev}

/-! ### Accesses of cores (R4) -/

/-- Before the end of start a core's access has no effect. -/
theorem Dev.coreDo_early (hp : d.bt.phase < 9) (f : Dev → Dev) : d.coreDo f = d := if_neg (Nat.not_le.2 hp)

/-- From then on it acts. -/
theorem Dev.coreDo_running (hp : 9 ≤ d.bt.phase) (f : Dev → Dev) : d.coreDo f = f d := if_pos hp

/-! ### FE_SRC_CFG, FE_LATCH and FE_PEND (R399, R402 to R405) -/

/-- A value for FE_SRC_CFG is accepted unless it asks a source without a unit to fence. -/
theorem Dev.valueOk_feSrcCfg {n v : Nat} :
    d.valueOk rFeSrcCfg n v = !(field v 1 2 == 2 && decide ((sourceRow n).unit = .none)) := rfl

/-- An accepted write of FE_SRC_CFG raises the source where FORCE asks for it and takes the value. -/
theorem Dev.coreWrite_feSrcCfg {n v : Nat} (hp : 9 ≤ d.bt.phase) (hn : n < 320) (hv : v < 2 ^ 32)
    (hok : ¬(field v 1 2 = 2 ∧ (sourceRow n).unit = .none)) : d.coreWrite rFeSrcCfg n v =
      (if flag v 3 = true then d.occur n 0 true else d).wr rFeSrcCfg (srcCfgValue (d.srcCfg n) v) n := by
  have hvalue : d.valueOk rFeSrcCfg n v = true := by
    rw [Dev.valueOk_feSrcCfg]
    simp only [Bool.not_eq_true', Bool.and_eq_false_iff, beq_eq_false_iff_ne, decide_eq_false_iff_not]
    exact Decidable.not_and_iff_not_or_not.1 hok
  exact (Dev.coreWrite_does hp rFeSrcCfg (by exact hn) hv (by decide) hvalue).trans (if_neg hok)

/-- A write that asks a source without a unit to fence is refused. -/
theorem Dev.coreWrite_feSrcCfg_refused {n v : Nat} (hp : 9 ≤ d.bt.phase) (hn : n < 320) (hv : v < 2 ^ 32)
    (hsev : field v 1 2 = 2) (hunit : (sourceRow n).unit = .none) (hout : d.out = []) :
    d.coreWrite rFeSrcCfg n v = { d with out := [.applyRefused] } := by
  have hvalue : d.valueOk rFeSrcCfg n v = false := by
    rw [Dev.valueOk_feSrcCfg]
    simp only [hsev, hunit, beq_self_eq_true, decide_true, Bool.and_self, Bool.not_true]
  rw [Dev.coreWrite_running hp rFeSrcCfg (by exact hn) hv, Dev.regWrite_refused (Or.inr hvalue)]
  rw [Dev.refuseWrite_silent d rfl, hout]

/-- A core's write of FE_LATCH clears the latch where VALID is written 1. -/
theorem Dev.coreWrite_feLatch {sev v : Nat} (hp : 9 ≤ d.bt.phase) (hsev : sev < 4) (hv : v < 2 ^ 64) :
    d.coreWrite rFeLatch sev v = if flag v 63 = true then d.latchClear sev else d :=
  Dev.coreWrite_does hp rFeLatch (by exact hsev) hv (by decide) rfl

/-- A core's write of FE_PEND clears the bits written 1. -/
theorem Dev.coreWrite_fePend {k v : Nat} (hp : 9 ≤ d.bt.phase) (hk : k < 5) (hv : v < 2 ^ 64) : d.coreWrite rFePend k v =
    d.wr rFePend (setField (d.rd rFePend k) 0 64 (clearBits (field (d.rd rFePend k) 0 64) (field v 0 64))) k :=
  Dev.coreWrite_does hp rFePend (by exact hk) hv (by decide) rfl

/-! ### ERR_N (R412, R413) -/

/-- A core's write of FE_ERR sets HOLD and, with ASSERT, asks for a pulse. -/
theorem Dev.coreWrite_feErr {v : Nat} (hp : 9 ≤ d.bt.phase) (hv : v < 2 ^ 32) : d.coreWrite rFeErr 0 v =
    if flag v 1 = true then d.errAssert (flag v 0) else d.errHold (flag v 0) :=
  Dev.coreWrite_does hp rFeErr (by decide) hv (by decide) rfl

/-- The device whose FE_ERR.HOLD a write has set. -/
def Dev.withHold (d : Dev) (hold : Bool) : Dev := { d with fe := { d.fe with hold := hold } }

/-- A HOLD that leaves a held pin held, or meets a pin that is not held, moves nothing else. -/
theorem Dev.errHold_keeps {hold : Bool} (h : d.fe.pin ≠ .held ∨ hold = true) : d.errHold hold = d.withHold hold := by
  unfold Dev.errHold Dev.withHold
  dsimp only
  split
  · next hpin => exact if_pos (h.resolve_left (not_not_intro hpin))
  · rfl

/-- HOLD 0 releases a held pin. -/
theorem Dev.errHold_releases (hpin : d.fe.pin = .held) : d.errHold false = (d.withHold false).releasePin := by
  simp only [Dev.errHold, Dev.withHold, hpin, Bool.false_eq_true, if_false]

/-- A released pin is high where no pulse is owed. -/
theorem Dev.releasePin_high (h : d.fe.repeatOwed = false) : d.releasePin = { d with fe := { d.fe with pin := .high } } := by
  simp only [Dev.releasePin, h, Bool.false_eq_true, if_false]

/-- A released pin waits out the gap before a pulse that is owed. -/
theorem Dev.releasePin_gap (h : d.fe.repeatOwed = true) : d.releasePin = { d with fe := { d.fe with pin := .gap } } := by
  simp only [Dev.releasePin, h, if_true]

/-- A reaction starts a pulse from high. -/
theorem Dev.errN_high (h : d.fe.pin = .high) : d.errN = d.startPulse := by simp only [Dev.errN, h]

/-- At any other level of the pin it owes one. -/
theorem Dev.errN_owes (h : d.fe.pin ≠ .high) : d.errN = { d with fe := { d.fe with repeatOwed := true } } := by
  unfold Dev.errN
  split
  · next hpin => exact absurd hpin h
  · rfl

/-- The end of a pulse, by HOLD: the pin stays low or is released. -/
theorem Dev.errPulseEnd_pulse (h : d.fe.pin = .pulse) :
    d.errPulseEnd = if d.fe.hold = true then { d with fe := { d.fe with pin := .held } } else d.releasePin := by
  simp only [Dev.errPulseEnd, h]

/-- No pulse ends where none runs. -/
theorem Dev.errPulseEnd_other (h : d.fe.pin ≠ .pulse) : d.errPulseEnd = d := by
  unfold Dev.errPulseEnd
  split
  · next hpin => exact absurd hpin h
  · rfl

/-- The end of the gap gives the pulse that is owed. -/
theorem Dev.errRepeat_gap (h : d.fe.pin = .gap) :
    d.errRepeat = ({ d with fe := { d.fe with repeatOwed := false } }).startPulse := by
  simp only [Dev.errRepeat, h]

/-- No gap ends where none runs. -/
theorem Dev.errRepeat_other (h : d.fe.pin ≠ .gap) : d.errRepeat = d := by
  unfold Dev.errRepeat
  split
  · next hpin => exact absurd hpin h
  · rfl

/-! ### Records, the history queue and the restart (R407, R411, R414) -/

/-- A read of the history queue answers 0 where it is empty or COMPAT is 0. -/
theorem Dev.histPop_none (hout : d.out = []) (h : d.fe.hist = [] ∨ flag (d.rd rFeCtl) 7 = false) :
    d.histPop = { d with out := [.regValue 0] } := by
  have hanswer : d.answer 0 = { d with out := [.regValue 0] } := by simp only [Dev.answer, Dev.emit, hout]
  rw [← hanswer]
  unfold Dev.histPop
  split
  · next e rest hhist =>
      have hoff : flag (d.rd rFeCtl) 7 = false := h.resolve_left (by rw [hhist]; exact List.cons_ne_nil e rest)
      exact if_neg (Bool.eq_false_iff.1 hoff)
  · rfl

/-- Otherwise it answers the oldest entry and removes it. -/
theorem Dev.histPop_some {e : HistEntry} {rest : List HistEntry} (hout : d.out = []) (hhist : d.fe.hist = e :: rest)
    (hon : flag (d.rd rFeCtl) 7 = true) :
    d.histPop = { d with out := [.regValue e.word], fe := { d.fe with hist := rest } } := by
  simp only [Dev.histPop, hhist, hon, if_true, Dev.answer, Dev.emit, hout]

/-- No restart without one that is owed, asked for by FATAL_RESTART, and with power. -/
theorem Dev.fatalRestart_not (h : d.fe.restartOwed = false ∨ flag (d.rd rFeCtl) 8 = false ∨ d.bt.pwrok = false ∨
    d.bt.supplyBad = true) : d.fatalRestart = d := by
  unfold Dev.fatalRestart Dev.warmStart
  rcases h with h | h | h | h <;> simp only [h, Bool.false_and, Bool.and_false, Bool.not_true, Bool.false_eq_true, if_false, ite_self]

/-- The restart that is owed is a warm start. -/
theorem Dev.fatalRestart_begins (howed : d.fe.restartOwed = true) (hon : flag (d.rd rFeCtl) 8 = true)
    (hpower : d.bt.pwrok = true) (hgood : d.bt.supplyBad = false) : d.fatalRestart = d.beginStart true := by
  simp only [Dev.fatalRestart, Dev.warmStart, howed, hon, hpower, hgood, Bool.not_false, Bool.and_self, if_true]

end

/-- Settles O9: a write comes to the operation of its register, and ERR_N, the history queue and the restart to the branches of
theirs. -/
theorem collectorRegistersAct : Obligations.CollectorRegistersAct := by
  refine ⟨fun s d n v hd hp hn hv hforce hok => ?forces, fun s d n v hd hp hn hv hforce hok => ?takes,
    fun s d n v hd hp hn hv hsev hunit => runDev_next (f := fun d => d.coreWrite rFeSrcCfg n v) hd
      (Dev.coreWrite_feSrcCfg_refused hp hn hv hsev hunit (State.begun_out hd)),
    fun s d sev v hd hp hsev hv hvalid => ?clears,
    fun s d k v hd hp hk hv => runDev_next (f := fun d => d.coreWrite rFePend k v) hd (Dev.coreWrite_fePend hp hk hv),
    fun s d sev v hd hp hsev hv hvalid => ?keeps, fun s d d1 v hd hp hv h1 => ?pin, fun s d n v hd hp => ?early,
    fun s d hd hpin hhold howed => ?high, fun s d hd hpin hhold => ?held, fun s d hd => ?others, fun s d hd hpin => ?gap,
    fun s d hd hp => ?pulses, fun s d h rest hd hp hhist hon => ?pops,
    fun s d k r rest hd hdue => runDev_next (f := fun d => d.followUp) hd (by simp only [Dev.followUp, hdue]),
    fun s d hd howed hon hpower hgood => runDev_next (f := fun d => d.fatalRestart) hd
      (Dev.fatalRestart_begins howed hon hpower hgood)⟩
  case forces =>
    exact runDev_next (f := fun d => d.coreWrite rFeSrcCfg n v) hd
      ((Dev.coreWrite_feSrcCfg hp hn hv hok).trans (by rw [if_pos hforce]))
  case takes =>
    exact runDev_next (f := fun d => d.coreWrite rFeSrcCfg n v) hd
      ((Dev.coreWrite_feSrcCfg hp hn hv hok).trans (by rw [hforce]; rfl))
  case clears =>
    exact runDev_next (f := fun d => d.coreWrite rFeLatch sev v) hd ((Dev.coreWrite_feLatch hp hsev hv).trans (if_pos hvalid))
  case keeps =>
    exact runDev_next (f := fun d => d.coreWrite rFeLatch sev v) hd
      ((Dev.coreWrite_feLatch hp hsev hv).trans (if_neg (Bool.eq_false_iff.1 hvalid)))
  case pin =>
    have hd1 : d1 = d.withHold (flag v 0) := h1
    have hrun {E : Dev} (h : (if flag v 1 = true then d.errAssert (flag v 0) else d.errHold (flag v 0)) = E) :
        runDev s (fun d => d.coreWrite rFeErr 0 v) = .next (s.after E) :=
      runDev_next hd ((Dev.coreWrite_feErr hp hv).trans h)
    have hhigh (hpin : d.fe.pin = .held) (hoff : flag v 0 = false) (howed : d.fe.repeatOwed = false) :
        d.errHold (flag v 0) = { d1 with fe := { d1.fe with pin := .high } } := by
      rw [hd1, hoff, Dev.errHold_releases hpin]
      exact Dev.releasePin_high howed
    have hgap (hpin : d.fe.pin = .held) (hoff : flag v 0 = false) (howed : d.fe.repeatOwed = true) :
        d.errHold (flag v 0) = { d1 with fe := { d1.fe with pin := .gap } } := by
      rw [hd1, hoff, Dev.errHold_releases hpin]
      exact Dev.releasePin_gap howed
    refine ⟨fun hno => ?_, fun hyes => ⟨fun hwas => hrun ?_, fun hpin hoff howed => hrun ?_, fun hwas => hrun ?_⟩⟩
    · rw [hno] at hrun
      exact ⟨fun h => hrun (hd1 ▸ Dev.errHold_keeps h), fun hpin hoff howed => hrun (hhigh hpin hoff howed),
        fun hpin hoff howed => hrun (hgap hpin hoff howed)⟩
    · rw [if_pos hyes]
      rcases hwas with hpin | ⟨hpin, hoff, howed⟩
      · rw [Dev.errAssert, Dev.errHold_keeps (Or.inl (by rw [hpin]; decide)), hd1]
        exact Dev.errN_high hpin
      · rw [Dev.errAssert, hhigh hpin hoff howed, Dev.errN_high rfl, hd1]
        rfl
    · rw [if_pos hyes, Dev.errAssert, hgap hpin hoff howed, Dev.errN_owes ErrPin.noConfusion]
    · have hkeeps : d.fe.pin ≠ .held ∨ flag v 0 = true := by
        rcases hwas with hpin | hpin | ⟨-, hon⟩
        · exact Or.inl (by rw [hpin]; decide)
        · exact Or.inl (by rw [hpin]; decide)
        · exact Or.inr hon
      have hlow : d.fe.pin ≠ .high := by
        rcases hwas with hpin | hpin | ⟨hpin, -⟩ <;> rw [hpin] <;> decide
      rw [if_pos hyes, Dev.errAssert, Dev.errHold_keeps hkeeps, hd1]
      exact Dev.errN_owes hlow
  case early =>
    have hrun (f : Dev → Dev) : runDev s (fun d => d.coreDo f) = .next (s.after d) := runDev_next hd (Dev.coreDo_early hp f)
    exact ⟨hrun _, hrun _, hrun _, hrun _, hrun _, hrun _, hrun _, hrun _, hrun _, hrun _⟩
  case high =>
    exact runDev_next (f := fun d => d.errPulseEnd) hd
      ((Dev.errPulseEnd_pulse hpin).trans ((if_neg (Bool.eq_false_iff.1 hhold)).trans (Dev.releasePin_high howed)))
  case held => exact runDev_next (f := fun d => d.errPulseEnd) hd ((Dev.errPulseEnd_pulse hpin).trans (if_pos hhold))
  case others =>
    exact ⟨fun hpin hhold howed => runDev_next (f := fun d => d.errPulseEnd) hd
        ((Dev.errPulseEnd_pulse hpin).trans ((if_neg (Bool.eq_false_iff.1 hhold)).trans (Dev.releasePin_gap howed))),
      fun hpin => runDev_next (f := fun d => d.errPulseEnd) hd (Dev.errPulseEnd_other hpin),
      fun hpin => runDev_next (f := fun d => d.errRepeat) hd (Dev.errRepeat_other hpin),
      fun hdue => runDev_next (f := fun d => d.followUp) hd (by simp only [Dev.followUp, hdue]),
      fun hp hhist => runDev_next (f := fun d => d.coreDo (fun d => d.histPop)) hd
        ((Dev.coreDo_running hp _).trans (Dev.histPop_none (State.begun_out hd) hhist)),
      fun hno => runDev_next (f := fun d => d.fatalRestart) hd (Dev.fatalRestart_not hno)⟩
  case gap => exact runDev_next (f := fun d => d.errRepeat) hd (Dev.errRepeat_gap hpin)
  case pulses =>
    refine runDev_next (f := fun d => d.coreDo (fun d => d.errPulsesRead)) hd ((Dev.coreDo_running hp _).trans ?_)
    simp only [Dev.errPulsesRead, Dev.answer, Dev.emit, Dev.feErr, State.begun_out hd]
  case pops =>
    exact runDev_next (f := fun d => d.coreDo (fun d => d.histPop)) hd
      ((Dev.coreDo_running hp _).trans (Dev.histPop_some (State.begun_out hd) hhist hon))

end Sys2Proof.Machine

/-! SUPPORT. FE_FENCE_CMD, and the registers of the sampler (R410, R425, R428). -/

namespace Sys2Proof.Machine

section
variable {d : Dev}

/-- A core's write of FE_FENCE_CMD releases the entry it names where RELEASE is 1. -/
theorem Dev.coreWrite_feFenceCmd {v : Nat} (hp : 9 ≤ d.bt.phase) (hv : v < 2 ^ 32) : d.coreWrite rFeFenceCmd 0 v =
    if flag v 31 = true then d.fenceRelease (field v 0 6) else d :=
  Dev.coreWrite_does hp rFeFenceCmd (by decide) hv (by decide) rfl

/-- An entry of a kind that is released goes, and its unit with it. -/
theorem Dev.fenceRelease_released {E : Dev} {i : Nat} {e : FenceEntry} (he : Tbl.get none d.fe.fence i = some e)
    (h : (d.clearFence e.kind e.inst).releaseUnit e.kind e.inst = some E) : d.fenceRelease i = E := by
  simp only [Dev.fenceRelease, he, h]

/-- An entry of any other kind is refused. -/
theorem Dev.fenceRelease_kept {i : Nat} {e : FenceEntry} (he : Tbl.get none d.fe.fence i = some e)
    (h : (d.clearFence e.kind e.inst).releaseUnit e.kind e.inst = none) : d.fenceRelease i = d.refuse := by
  simp only [Dev.fenceRelease, he, h]

/-- A place without an entry is refused. -/
theorem Dev.fenceRelease_empty {i : Nat} (he : Tbl.get none d.fe.fence i = none) : d.fenceRelease i = d.refuse := by
  simp only [Dev.fenceRelease, he]

/-- The kinds that a write releases are 1, 9, 10 and 11. -/
theorem Dev.releaseUnit_none {k : UnitKind} {i : Nat} (h1 : k.code ≠ 1) (h9 : k.code ≠ 9) (h10 : k.code ≠ 10)
    (h11 : k.code ≠ 11) : d.releaseUnit k i = none := by
  cases k
  case port => exact absurd rfl h1
  case lockGroup => exact absurd rfl h9
  case fabricTile => exact absurd rfl h10
  case cxlTile => exact absurd rfl h11
  all_goals rfl

/-- No two kinds have one code. -/
theorem UnitKind.code_inj {k j : UnitKind} (h : k.code = j.code) : k = j := by
  revert h
  cases k <;> cases j <;> decide

/-- A refusal is all that goes out. -/
theorem Dev.refuse_alone (hout : d.out = []) : d.refuse = { d with out := [.applyRefused] } := by
  simp only [Dev.refuse, Dev.emit, hout]

/-- A core's write of PC_SAMP_CONS moves the consumer position. -/
theorem Dev.coreWrite_pcSampCons {v : Nat} (hp : 9 ≤ d.bt.phase) (hv : v < 2 ^ 32) :
    d.coreWrite rPcSampCons 0 v = d.sampleConsWrite v :=
  Dev.coreWrite_does hp rPcSampCons (by decide) hv (by decide) rfl

/-- A position on the ring is taken where the producer has reached it. -/
theorem Dev.sampleConsWrite_placed {v n m : Nat} (hn : ringDist 4096 d.sampleCons ⟨field v 0 12, flag v 12⟩ = some n)
    (hm : ringDist 4096 d.sampleCons d.sampleProd = some m) :
    d.sampleConsWrite v = if n ≤ m then d.wr rPcSampCons (field v 0 13) else d := by
  have hring : sampleRing = 4096 := rfl
  simp only [Dev.sampleConsWrite, hring, hn, hm]

/-- Any other position has no effect. -/
theorem Dev.sampleConsWrite_unplaced {v : Nat} (h : ringDist 4096 d.sampleCons ⟨field v 0 12, flag v 12⟩ = none ∨
    ringDist 4096 d.sampleCons d.sampleProd = none) : d.sampleConsWrite v = d := by
  have hring : sampleRing = 4096 := rfl
  simp only [Dev.sampleConsWrite, hring]
  rcases h with h | h
  · simp only [h]
  · rw [h]
    split
    · next hm => cases hm
    · rfl

end

/-- Settles O10: the entry that the write names decides, by its kind. -/
theorem fenceReleaseNamesOneEntry : Obligations.FenceReleaseNamesOneEntry := by
  refine ⟨fun s d v e hd hp hv hrel he => ?entry, fun s d v hd hp hv hrel he => ?empty, fun s d v hd hp hv hrel =>
    runDev_next (f := fun d => d.coreWrite rFeFenceCmd 0 v) hd
      ((Dev.coreWrite_feFenceCmd hp hv).trans (if_neg (Bool.eq_false_iff.1 hrel))), fun d k i => rfl⟩
  case entry =>
    have hrun {E : Dev} (h : d.fenceRelease (field v 0 6) = E) : exec (.fenceRelease v) s = .next (s.after E) :=
      runDev_next (f := fun d => d.coreWrite rFeFenceCmd 0 v) hd
        ((Dev.coreWrite_feFenceCmd hp hv).trans ((if_pos hrel).trans h))
    have hreleased {E : Dev} (h : (d.clearFence e.kind e.inst).releaseUnit e.kind e.inst = some E) :
        exec (.fenceRelease v) s = .next (s.after E) := hrun (Dev.fenceRelease_released he h)
    refine ⟨fun hk => hreleased ?_, fun hk => hreleased ?_, fun hk => hreleased ?_, fun hk => hreleased ?_,
      fun h1 h9 h10 h11 => hrun ?_⟩
    · rw [UnitKind.code_inj (j := .port) hk]
      rfl
    · rw [UnitKind.code_inj (j := .lockGroup) hk]
      rfl
    · rw [UnitKind.code_inj (j := .fabricTile) hk]
      rfl
    · rw [UnitKind.code_inj (j := .cxlTile) hk]
      rfl
    · exact (Dev.fenceRelease_kept he (Dev.releaseUnit_none h1 h9 h10 h11)).trans (Dev.refuse_alone (State.begun_out hd))
  case empty =>
    exact runDev_next (f := fun d => d.coreWrite rFeFenceCmd 0 v) hd ((Dev.coreWrite_feFenceCmd hp hv).trans
      ((if_pos hrel).trans ((Dev.fenceRelease_empty he).trans (Dev.refuse_alone (State.begun_out hd)))))

/-- Settles O11: the consumer position moves where both positions lie on the ring, and the status is answered and cleared. -/
theorem samplerRegisters : Obligations.SamplerRegisters := by
  refine ⟨fun s d v n m hd hp hv hn hm => runDev_next (f := fun d => d.coreWrite rPcSampCons 0 v) hd
      ((Dev.coreWrite_pcSampCons hp hv).trans (Dev.sampleConsWrite_placed hn hm)),
    fun s d v hd hp hv h => runDev_next (f := fun d => d.coreWrite rPcSampCons 0 v) hd
      ((Dev.coreWrite_pcSampCons hp hv).trans (Dev.sampleConsWrite_unplaced h)), fun s d hd hp => ?_⟩
  refine runDev_next (f := fun d => d.coreDo (fun d => d.sampStatusRead)) hd ((Dev.coreDo_running hp _).trans ?_)
  simp only [Dev.sampStatusRead, Dev.sampleStatus, Dev.answer, Dev.emit, State.begun_out hd]

end Sys2Proof.Machine

/-! SUPPORT. CXL.mem and CXL.io of a host in service: where a request goes, its response, its timeout, and the training of the host's
port (R307, R311, R313, R322, R323, R325). -/

namespace Sys2Proof.Machine

section
variable {d : Dev}

/-! ### Requests (R313, R322) -/

section
variable {k tc len : Nat} {m : MemOp} {read : Bool} (hrole : d.cxRole k = 1) (hup : (d.cxPort k).link = .up)
  (hhost : d.cxPortHost k = m.host) (hread : read = (m.write.isNone && !m.other))
include hrole hup hhost hread

/-- A request that no decoder claims is a decode miss. -/
theorem Dev.memRequest_unclaimed (hroute : d.hdmRoute m.host m.hpa = none) :
    d.memRequest k tc len m = d.decodeMiss k m.host m.tag read := by
  simp [Dev.memRequest, hrole, hup, hhost, hroute, hread]

/-- So is one that reaches an unbound vPPB. -/
theorem Dev.memRequest_unbound {v : Nat} (hroute : d.hdmRoute m.host m.hpa = some v) (htarget : (d.vppb m.host v).target = none) :
    d.memRequest k tc len m = d.decodeMiss k m.host m.tag read := by
  simp [Dev.memRequest, hrole, hup, hhost, hroute, htarget, hread]

/-- A request to the window device is answered, or goes to its window by the decoder of the window device. -/
theorem Dev.memRequest_window {v ld : Nat} (hroute : d.hdmRoute m.host m.hpa = some v)
    (htarget : (d.vppb m.host v).target = some (0xFF, ld)) : d.memRequest k tc len m =
      if m.other then d.cxlAnswer m.host m.tag false none
      else match d.winDpa m.host m.hpa, m.write with
        | some dpa, none => d.windowRead m.host m.tag dpa
        | some dpa, some (mask, data) => d.windowWrite m.host m.tag dpa mask data
        | none, _ => d.decodeMiss k m.host m.tag read := by
  simp only [Dev.memRequest, hrole, hup, hhost, hroute, htarget, hread, ne_eq, not_true_eq_false, or_self, if_true, if_false]
    <;> rfl

/-- A request to a port is answered at once where the port is out of service, and else held there and forwarded. -/
theorem Dev.memRequest_port {v q ld : Nat} (hroute : d.hdmRoute m.host m.hpa = some v)
    (htarget : (d.vppb m.host v).target = some (q, ld)) (hq : q ≠ 0xFF) : d.memRequest k tc len m =
      if (d.cxPort q).link ≠ .up then (d.poisonAnswer m.host m.tag read).poisonLate q read
      else (d.setCx q { d.cxPort q with
          reqs := (d.cxPort q).reqs ++ [MemReq.mk m.host m.tag ld read d.now false] }).cxlFrame (256 + k) (256 + q)
        tc len (.req q ld m.tag (bit (!read)) m.hpa m.write false) := by
  simp only [Dev.memRequest, hrole, hup, hhost, hroute, htarget, hq, hread, ne_eq, not_true_eq_false, or_self, if_false]

end

/-- POISON_SENT is raised once for the reads of a port that has been removed. -/
theorem Dev.poisonLate_told {q : Nat} {read : Bool} (h : read = false ∨ (d.cxPort q).poisonTold = true) :
    d.poisonLate q read = d := by
  unfold Dev.poisonLate
  rcases h with h | h <;> simp only [h, Bool.false_and, Bool.not_true, Bool.and_false, Bool.false_eq_true, if_false]

/-- The first such read raises it. -/
theorem Dev.poisonLate_first {q : Nat} {read : Bool} (hr : read = true) (ht : (d.cxPort q).poisonTold = false) :
    d.poisonLate q read = (d.setCx q { d.cxPort q with poisonTold := true }).raise evCxPoisonSent (256 + q) := by
  simp only [Dev.poisonLate, hr, ht, Bool.not_false, Bool.and_self, if_true]

/-! ### Frames across the switch (R230, R235, R310) -/

/-- A frame that no promise covers is an overrun. -/
theorem Dev.cxlFrame_overrun {d1 : Dev} {input output tc len : Nat} {f : CxlFrame}
    (h1 : d1 = (d.count (1344 + 4 * (input - 256) + 2) 1).count (1344 + 4 * (input - 256) + 3) len)
    (hcharge : d1.charge input tc (cellsOf len) false = none) :
    d.cxlFrame input output tc len f = (d1.latchTn input 2 tc).raise evTnCreditOverrun input := by
  subst h1
  simp only [Dev.cxlFrame, hcharge]

/-- A frame whose cells are charged is stored. -/
theorem Dev.cxlFrame_stored {d1 : Dev} {input output tc len : Nat} {f : CxlFrame} {c : Charge}
    (h1 : d1 = (d.count (1344 + 4 * (input - 256) + 2) 1).count (1344 + 4 * (input - 256) + 3) len)
    (hcharge : d1.charge input tc (cellsOf len) false = some c) :
    d.cxlFrame input output tc len f = (d1.usePromise input tc c.shared).store
      { num := 0, input := input, output := output, chan := tc, tc := tc, bytes := len, body := .cxl f, rsv := c.rsv,
        shared := c.shared, floor := c.floor } := by
  subst h1
  simp only [Dev.cxlFrame, hcharge]

/-! ### Responses and timeouts (R323, R325) -/

section
variable {q host tag tc len : Nat} {poison : Bool} {data : Option Nat} {r : MemReq}

/-- A response that answers no request has no effect. -/
theorem Dev.memResponse_unasked (h : firstThat (d.cxPort q).reqs (fun r => r.is host tag) = none) :
    d.memResponse q host tag tc len poison data = d := by
  simp only [Dev.memResponse, h]

section
variable {x : CxPort} {d1 : Dev} (hx : d.cxPort q = x) (hr : firstThat x.reqs (fun r => r.is host tag) = some r)
include hx hr

/-- A response goes to the port of its host. -/
theorem Dev.memResponse_forwarded {k : Nat} (h1 : d1 = d.setCx q { x with reqs := removeFirst x.reqs (fun r => r.is host tag) })
    (horphan : r.orphan = false) (hk : d1.hostPort host = some k) : d.memResponse q host tag tc len poison data =
      d1.cxlFrame (256 + q) (256 + k) tc len (.rsp host tag poison data) := by
  subst hx h1
  simp only [Dev.memResponse, hr, horphan, hk, Bool.false_eq_true, if_false]

/-- A response to an orphan, or for a host without a port, is discarded. -/
theorem Dev.memResponse_discarded (h1 : d1 = d.setCx q { x with reqs := removeFirst x.reqs (fun r => r.is host tag) })
    (h : r.orphan = true ∨ d1.hostPort host = none) : d.memResponse q host tag tc len poison data = d1 := by
  subst hx h1
  simp only [Dev.memResponse, hr]
  rcases h with h | h <;> simp only [h, if_true, ite_self]

/-- A request that has waited MEM_TO is answered and reported, and the third of a tick removes its port. -/
theorem Dev.memTimeout_due {d2 : Dev} (hdue : orOne (d.fld rCxCtl 0 8) ≤ d.since r.since)
    (h1 : d1 = d.setCx q { x with reqs := removeFirst x.reqs (fun r => r.is host tag), timeouts := x.timeouts + 1 })
    (h2 : d2 = ((if r.orphan then d1 else d1.poisonAnswer host tag r.read).latchCx q 2 host r.ld).raise evCxMemTimeout
      (256 + q)) :
    d.memTimeout q host tag = if 3 ≤ x.timeouts + 1 then d2.surprise q false else d2 := by
  subst hx h2 h1
  simp only [Dev.memTimeout, hr, if_pos hdue]

end

end

/-! ### CXL.io (R30, R81, R311) -/

section
variable {k h : Nat} (hrole : d.cxRole k = 1) (hup : (d.cxPort k).link = .up) (hhost : d.cxPortHost k = h)
include hrole hup hhost

/-- A function reset resets the function of the host. -/
theorem Dev.ioRequest_functionReset : d.ioRequest k .functionReset = d.resetFn h := by
  simp [Dev.ioRequest, hrole, hup, hhost]

/-- A host programs its 32 decoders. -/
theorem Dev.ioRequest_setDecoder {n : Nat} {x : Option Hdm} (hn : n < 32) : d.ioRequest k (.setDecoder n x) =
    { d with cx := { d.cx with
      hosts := Tbl.put {} h { d.cxHost h with decoders := Tbl.put none n x (d.cxHost h).decoders } d.cx.hosts } } := by
  simp [Dev.ioRequest, hrole, hup, hhost, hn]

/-- It programs those of the window device. -/
theorem Dev.ioRequest_setWinDecoder {n : Nat} {x : Option Hdm} : d.ioRequest k (.setWinDecoder n x) =
    { d with cx := { d.cx with
      hosts := Tbl.put {} h { d.cxHost h with winDecoders := Tbl.put none n x (d.cxHost h).winDecoders } d.cx.hosts } } := by
  simp [Dev.ioRequest, hrole, hup, hhost]

/-- It places its windows. -/
theorem Dev.ioRequest_setBars {l : List (Nat × Nat)} : d.ioRequest k (.setBars l) =
    { d with cx := { d.cx with hosts := Tbl.put {} h { d.cxHost h with bars := l } d.cx.hosts } } := by
  simp [Dev.ioRequest, hrole, hup, hhost]

/-- A transaction for a vPPB without a target in service is not supported. -/
theorem Dev.ioRequest_unsupported {v id tc len : Nat} (htarget : (d.vppb h v).target = none ∨
    ∃ q ld, (d.vppb h v).target = some (q, ld) ∧ q ≠ 0xFF ∧ (d.cxPort q).link ≠ .up) :
    d.ioRequest k (.forVppb v id tc len) = d.emit (.cxl (.unsupported h id)) := by
  rcases htarget with ht | ⟨q, ld, ht, hq, hdown⟩
  · simp [Dev.ioRequest, hrole, hup, hhost, ht]
  · simp [Dev.ioRequest, hrole, hup, hhost, ht, hq, hdown]

/-- Any other goes to the port of its target. -/
theorem Dev.ioRequest_forwarded {v id tc len q ld : Nat} (htarget : (d.vppb h v).target = some (q, ld)) (hq : q ≠ 0xFF)
    (hin : (d.cxPort q).link = .up) :
    d.ioRequest k (.forVppb v id tc len) = d.cxlFrame (256 + k) (256 + q) tc len (.io q h id) := by
  simp [Dev.ioRequest, hrole, hup, hhost, htarget, hq, hin]

end

end

/-- Settles O41: a request by where its decoder and vPPB lead, a response and a timeout by the request they end, and CXL.io by the
kind of transaction. -/
theorem cxlMemory : Obligations.CxlMemory := by
  refine ⟨fun s d k tc len m read hd hrole hup hhost hread => ?request,
    fun d d1 input output tc len f h1 => ⟨Dev.cxlFrame_overrun h1, fun c => Dev.cxlFrame_stored h1⟩,
    fun s d d1 q host tag tc len poison data x r hd hx hr h1 => ?response,
    fun s d q host tag tc len poison data hd hnone =>
      runDev_next (f := fun d => d.memResponse q host tag tc len poison data) hd (Dev.memResponse_unasked hnone),
    fun s d d1 d2 k host tag x r hd hx hr hdue h1 h2 => ?timeout,
    fun s d k h hd hrole hup hhost => ?io, fun s d k rate width hd hrole htraining => ?trained⟩
  case request =>
    have hrun {E : Dev} (h : d.memRequest k tc len m = E) : exec (.cxlMemRequest k tc len m) s = .next (s.after E) :=
      runDev_next (f := fun d => d.memRequest k tc len m) hd h
    refine ⟨fun hmiss => hrun ?_, fun v ld hroute htarget => ⟨fun ho => hrun ?_, fun dpa ho hw hdpa => hrun ?_,
      fun dpa mask data ho hw hdpa => hrun ?_⟩, fun v q ld hroute htarget hq => ⟨fun hdown htold => hrun ?_,
      fun hdown hr htold => hrun ?_, fun hin => hrun ?_⟩⟩
    · rcases hmiss with hroute | ⟨v, hroute, htarget⟩ | ⟨v, ld, hroute, htarget, ho, hdpa⟩
      · exact Dev.memRequest_unclaimed hrole hup hhost hread hroute
      · exact Dev.memRequest_unbound hrole hup hhost hread hroute htarget
      · rw [Dev.memRequest_window hrole hup hhost hread hroute htarget, ho, hdpa]
        rfl
    · rw [Dev.memRequest_window hrole hup hhost hread hroute htarget, ho]
      rfl
    · rw [Dev.memRequest_window hrole hup hhost hread hroute htarget, ho, hdpa, hw]
      rfl
    · rw [Dev.memRequest_window hrole hup hhost hread hroute htarget, ho, hdpa, hw]
      rfl
    · rw [Dev.memRequest_port hrole hup hhost hread hroute htarget hq, if_pos hdown]
      exact Dev.poisonLate_told htold
    · rw [Dev.memRequest_port hrole hup hhost hread hroute htarget hq, if_pos hdown, hr]
      exact Dev.poisonLate_first rfl htold
    · rw [Dev.memRequest_port hrole hup hhost hread hroute htarget hq, if_neg (not_not_intro hin)]
  case response =>
    exact ⟨fun k horphan hk => runDev_next (f := fun d => d.memResponse q host tag tc len poison data) hd
        (Dev.memResponse_forwarded hx hr h1 horphan hk),
      fun h => runDev_next (f := fun d => d.memResponse q host tag tc len poison data) hd
        (Dev.memResponse_discarded hx hr h1 h)⟩
  case timeout =>
    have hdo := Dev.memTimeout_due hx hr hdue h1 h2
    exact ⟨fun hfew => runDev_next (f := fun d => d.memTimeout k host tag) hd (hdo.trans (if_neg (by omega))),
      fun hmany => runDev_next (f := fun d => d.memTimeout k host tag) hd (hdo.trans (if_pos (by omega)))⟩
  case io =>
    have hrun {r : IoReq} {E : Dev} (h : d.ioRequest k r = E) : exec (.cxlIoRequest k r) s = .next (s.after E) :=
      runDev_next (f := fun d => d.ioRequest k r) hd h
    exact ⟨hrun (Dev.ioRequest_functionReset hrole hup hhost),
      fun n x hn => hrun (Dev.ioRequest_setDecoder hrole hup hhost hn),
      fun n x => hrun (Dev.ioRequest_setWinDecoder hrole hup hhost),
      fun l => hrun (Dev.ioRequest_setBars hrole hup hhost),
      fun v id tc len ht => hrun (Dev.ioRequest_unsupported hrole hup hhost ht),
      fun v id tc len q ld ht hq hin => hrun (Dev.ioRequest_forwarded hrole hup hhost ht hq hin)⟩
  case trained =>
    exact ⟨runDev_next (f := fun d => d.hostTrained k (some rate) width) hd (if_pos ⟨hrole, htraining⟩),
      runDev_next (f := fun d => d.hostTrained k none width) hd (if_pos ⟨hrole, htraining⟩)⟩

end Sys2Proof.Machine

/-! SUPPORT. Malthouse requests: their statuses, how each begins, when its change applies, and the answers of hosts (R314 to R321,
R324). -/

namespace Sys2Proof.Machine

section
variable {d : Dev} {q w : Nat}

/-! ### Requests that are answered or forwarded (R314, R316, R367) -/

/-- FORM is the first check. -/
theorem Dev.mhStatus_form (h : mhFormOk w = false) : d.mhStatus q w = 1 := by
  simp only [Dev.mhStatus, h, Bool.not_false, if_true]

/-- Where Malthouse runs, a request that a status applies to is answered with it. -/
theorem Dev.mhRequest_refused {st : Nat} (hruns : d.runsMalthouse = true) (hst : d.mhStatus q w = st) (hne : st ≠ 0) :
    d.mhRequest q w = d.mhRespond q w st d.now := by
  simp only [Dev.mhRequest, hruns, hst, hne, if_true, if_false]

section
variable (hruns : d.runsMalthouse = false) (hform : mhFormOk w = true) (hsource : d.mhSource q = true)
include hruns hform hsource

/-- The standby forwards a request while mirroring runs and has room. -/
theorem Dev.mhRequest_forwarded {d1 : Dev} (hmirror : d.mirroring = true) (hroom : d.mirrorFull = false)
    (h1 : d1 = d.mirror 6 33 0 (w + 2 ^ 256 * q)) : d.mhRequest q w = { d1 with cx := { d1.cx with
      work := d1.cx.work ++ [MhWork.mk q w none (.forwarded d1.tw.seqTx)] } } := by
  subst h1
  simp only [Dev.mhRequest, hruns, hform, hsource, hmirror, hroom, Bool.not_true, Bool.not_false, Bool.and_self,
    Bool.false_eq_true, if_true, if_false]

/-- Otherwise it answers BUSY. -/
theorem Dev.mhRequest_busy (h : d.mirroring = false ∨ d.mirrorFull = true) : d.mhRequest q w = d.mhRespond q w 3 d.now := by
  have hno : (d.mirroring && !d.mirrorFull) = false := by
    rcases h with h | h <;> simp only [h, Bool.false_and, Bool.not_true, Bool.and_false]
  simp only [Dev.mhRequest, hruns, hform, hsource, hno, Bool.not_true, Bool.false_eq_true, if_false]

end

/-! ### Requests that begin (R317 to R320, R324) -/

section
variable {d1 : Dev} {t : Nat} {x : MhWork} (ht : t = (if mhAtTick w then mhTick w else d.now + 1)) (hx : x = ⟨q, w, none, .staged t⟩)
  (h1 : d1 = { d with cx := { d.cx with work := d.cx.work ++ [x] } })
include ht hx h1

/-- A BIND marks its vPPB and is staged. -/
theorem Dev.mhBegin_bind (hop : mhOp w = 1) : d.mhBegin q w = (d1.vppbUse (mhHost w) (mhVppb w) .binding).stageWork x t := by
  subst h1 hx ht
  simp only [Dev.mhBegin, hop]

/-- An UNBIND marks its vPPB; its option, and what host software has done, say what it waits for. -/
theorem Dev.mhBegin_unbind {d2 : Dev} (hop : mhOp w = 2) (h2 : d2 = d1.vppbUse (mhHost w) (mhVppb w) .unbinding) :
    d.mhBegin q w =
      if mhOpt w = 2 ∨ (d1.vppb (mhHost w) (mhVppb w)).hostOff = true then d2.stageWork x t
      else if mhOpt w = 1 then d2.setWork x { x with phase := .attention t }
      else d2.setWork x { x with phase := .hostWait d2.now } := by
  subst h2 h1 hx ht
  simp only [Dev.mhBegin, hop]

/-- An LD_ALLOC is staged. -/
theorem Dev.mhBegin_ldAlloc (hop : mhOp w = 3) : d.mhBegin q w = d1.stageWork x t := by
  subst h1 hx ht
  simp only [Dev.mhBegin, hop]

/-- A DC_ADD waits for its tick or goes to its host. -/
theorem Dev.mhBegin_dcAdd (hop : mhOp w = 4) : d.mhBegin q w = if mhAtTick w then d1 else d1.offerExtent x := by
  subst h1 hx ht
  simp only [Dev.mhBegin, hop]

/-- A DC_RELEASE with FORCE is staged; any other waits for its tick or goes to its host. -/
theorem Dev.mhBegin_dcRelease (hop : mhOp w = 5) : d.mhBegin q w =
    if mhForce w then d1.stageWork x t else if mhAtTick w then d1 else d1.offerExtent x := by
  subst h1 hx ht
  simp only [Dev.mhBegin, hop]

end

section
variable {x : MhWork} {t t' : Nat} {d1 : Dev}

/-- Without a pair that mirrors, a change is staged at its tick. -/
theorem Dev.stageWork_alone (hmirror : d.mirroring = false) : d.stageWork x t = d.setWork x { x with phase := .staged t } := by
  simp only [Dev.stageWork, hmirror, Bool.false_eq_true, if_false]

/-- On a pair that mirrors it is mirrored, and its tick lies past the lead. -/
theorem Dev.stageWork_mirrored (hmirror : d.mirroring = true) (ht : t' = max t (d.now + d.mirrorLead))
    (h1 : d1 = d.mirror 1 32 t' x.raw) : d.stageWork x t = d1.setWork x { x with mirror := some d1.tw.seqTx, phase := .staged t' } := by
  subst h1 ht
  simp only [Dev.stageWork, hmirror, if_true]

end

/-! ### Changes that apply (R317, R319 to R321, R324) -/

/-- A request of a queue with a TAG whose boundary has come. -/
def MhWork.dueAt (x : MhWork) (now q tag : Nat) : Bool :=
  x.queue == q && mhTag x.raw == tag && (match x.phase with
    | .staged t => decide (t ≤ now) | .attention t => decide (t ≤ now) | _ => false)

/-- What its boundary does to a due request. -/
def Dev.applyDue (d : Dev) (x : MhWork) : Dev :=
  if d.targetGone x.raw then d.mhRemoved x
  else match x.phase with
  | .attention _ =>
    ((d.setVppb (mhHost x.raw) (mhVppb x.raw)
      { d.vppb (mhHost x.raw) (mhVppb x.raw) with attention := true, since := d.now }).emit
        (.hotPlug (mhHost x.raw) (mhVppb x.raw) hpAttention)).setWork x { x with phase := .hostWait d.now }
  | _ =>
    if (mhOp x.raw = 4 ∨ mhOp x.raw = 5) ∧ mhForce x.raw = false ∧ x.mirror.isNone then d.offerExtent x
    else (d.applyChange x.raw).mhComplete x 0

/-- BINDING_APPLY means the first due request. -/
theorem Dev.bindingApply_due {tag : Nat} {x : MhWork} (h : firstThat d.cx.work (fun x => x.dueAt d.now q tag) = some x) :
    d.bindingApply q tag = d.applyDue x := by
  have hfirst : d.bindingApply q tag =
      match firstThat d.cx.work (fun x => x.dueAt d.now q tag) with | none => d | some x => d.applyDue x := rfl
  rw [hfirst, h]

section
variable {x : MhWork} {t : Nat}

/-- A request whose target has been removed completes with REMOVED, and a BIND leaves its vPPB unbound. -/
theorem Dev.applyDue_removed (hgone : d.targetGone x.raw = true) : d.applyDue x =
    (if mhOp x.raw = 1 then d.setVppb (mhHost x.raw) (mhVppb x.raw) { since := d.now } else d).mhComplete x 12 := if_pos hgone

/-- A managed removal asks for attention and waits for host software. -/
theorem Dev.applyDue_attention (hstays : d.targetGone x.raw = false) (hphase : x.phase = .attention t) : d.applyDue x =
    ((d.setVppb (mhHost x.raw) (mhVppb x.raw)
      { d.vppb (mhHost x.raw) (mhVppb x.raw) with attention := true, since := d.now }).emit
        (.hotPlug (mhHost x.raw) (mhVppb x.raw) hpAttention)).setWork x { x with phase := .hostWait d.now } := by
  simp only [Dev.applyDue, hstays, hphase, Bool.false_eq_true, if_false]

/-- Any other change is offered to its host, where it still needs one, or applies. -/
theorem Dev.applyDue_staged (hstays : d.targetGone x.raw = false) (hphase : x.phase = .staged t) : d.applyDue x =
    if (mhOp x.raw = 4 ∨ mhOp x.raw = 5) ∧ mhForce x.raw = false ∧ x.mirror.isNone then d.offerExtent x
    else (d.applyChange x.raw).mhComplete x 0 := by
  simp only [Dev.applyDue, hstays, hphase, Bool.false_eq_true, if_false]

end

/-! ### Hosts that act, or do not (R319, R324) -/

section
variable {h v : Nat} {x : MhWork} {t : Nat} {d1 : Dev}

/-- Host software that has not acted in time is reported, and the vPPB stays bound. -/
theorem Dev.unbindTimeout_due (hx : firstThat d.cx.work (fun x => x.waitsHost h v) = some x) (hphase : x.phase = .hostWait t)
    (hdue : 1024 * orOne (d.fld rCxCtl 8 12) ≤ d.since t)
    (h1 : d1 = (d.setVppb h v { d.vppb h v with use := .bound, attention := false, since := d.now }).mhComplete x 10) :
    d.unbindTimeout h v = d1.raise evCxUnbindTimeout (256 + (d1.hostPort h).getD 0) := by
  subst h1
  simp only [Dev.unbindTimeout, hx, hphase, if_pos hdue]

/-- Host software that acts lets the removal that waits for it go on. -/
theorem Dev.unbindAction_waited (h1 : d1 = d.setVppb h v { d.vppb h v with hostOff := true })
    (hx : firstThat d1.cx.work (fun x => x.waitsHost h v) = some x) :
    d.unbindAction h v = d1.stageWork x (d1.actedTick x.raw) := by
  subst h1
  simp only [Dev.unbindAction, hx]

/-- Without one it is only noted. -/
theorem Dev.unbindAction_early (h1 : d1 = d.setVppb h v { d.vppb h v with hostOff := true })
    (hx : firstThat d1.cx.work (fun x => x.waitsHost h v) = none) : d.unbindAction h v = d1 := by
  subst h1
  simp only [Dev.unbindAction, hx]

section
variable {port ld dpa len : Nat}

section
variable (hx : d.dcWork h = some x)
include hx

/-- A host that accepts an extent, and one that declines it. -/
theorem Dev.dcResponse_offered (hop : mhOp x.raw = 4) :
    d.dcResponse h 0 port ld dpa len = d.extentChange x ∧
      d.dcResponse h 1 port ld dpa len = (d.raise evCxDcChange 0).mhComplete x 11 := by
  simp only [Dev.dcResponse, hx, hop, if_true, and_self]

/-- A host that releases an extent it is asked for. -/
theorem Dev.dcResponse_released (hop : mhOp x.raw = 5) : d.dcResponse h 2 port ld dpa len = d.extentChange x := by
  simp only [Dev.dcResponse, hx, hop, if_true]

/-- A host that has not answered in time. -/
theorem Dev.dcTimeout_due (hphase : x.phase = .dcWait t) (hdue : 1024 * orOne (d.fld rCxCtl 20 12) ≤ d.since t) :
    d.dcTimeout h = (d.raiseIf (mhOp x.raw == 4) evCxDcChange 0).mhComplete x 10 := by
  simp only [Dev.dcTimeout, hx, hphase, if_pos hdue]

end

/-- A host that releases an extent it holds, of its own accord. -/
theorem Dev.dcResponse_returned {e : Extent} {b : Nat × Nat} (hnone : d.dcWork h = none)
    (he : firstThat d.cx.extents (fun e => e.port == port && e.ld == ld && e.dpa == dpa && e.len == len) = some e)
    (hb : (d.ldOf port ld).bound = some b) (hh : b.1 = h) (h1 : d1 = d.dropExtent (releaseOf h e)) :
    d.dcResponse h 2 port ld dpa len = if d1.mirroring then d1.mirror 1 32 0 (releaseOf h e) else d1 := by
  subst h1 hh
  simp only [Dev.dcResponse, hnone, he, hb, Option.elim_some, beq_self_eq_true, if_true]

end

end

end

/-- Settles O42: a request by its status, a change by the phase of its request, and a host's answer by the request that waits. -/
theorem bindingChanges : Obligations.BindingChanges := by
  have hrun {s : State} {d E : Dev} {q w : Nat} (hd : s.begun = d) (h : d.mhRequest q w = E) :
      runChip s (fun c => c.malthouse (.queue q w)) = .next (s.after E) :=
    (runChip_malthouse_queue s q w).trans (runDev_next (f := fun d => d.mhRequest q w) hd h)
  refine ⟨fun s d q w hd hruns => ⟨fun hform => hrun hd (Dev.mhRequest_refused hruns (Dev.mhStatus_form hform) Nat.one_ne_zero),
      fun st hst hne => hrun hd (Dev.mhRequest_refused hruns hst hne)⟩,
    fun s d d1 q w hd hruns hform hsource =>
      ⟨fun hmirror hroom h1 => hrun hd (Dev.mhRequest_forwarded hruns hform hsource hmirror hroom h1),
        fun h => hrun hd (Dev.mhRequest_busy hruns hform hsource h)⟩,
    fun d d1 q w st tick word hword h1 => ?responds, fun s d d1 q w t x hd hruns hst ht hx h1 => ?begins,
    fun d d1 x t t' => ⟨Dev.stageWork_alone, Dev.stageWork_mirrored, fun h1 => ?offers⟩,
    fun s d x q tag w h v hd hraw hh hv hdue => ?applies, fun d d1 w h v k ld hh hv hk hld => ?changes,
    fun d d1 h v dpc h1 => ?unbinds, fun s d d1 h v hd => ⟨fun t x hx hphase hdue h1 =>
        runDev_next (f := fun d => d.unbindTimeout h v) hd (Dev.unbindTimeout_due hx hphase hdue h1), fun h1 => ?acts⟩,
    fun s d h port ld dpa len t x hd hx hphase => ⟨fun hop => ?offered, fun hop => ?released, fun hdue =>
      runDev_next (f := fun d => d.dcTimeout h) hd (Dev.dcTimeout_due hx hphase hdue)⟩,
    fun s d d1 h port ld dpa len e b hd hnone he hb hbh h1 =>
      runDev_next (f := fun d => d.dcResponse h 2 port ld dpa len) hd (Dev.dcResponse_returned hnone he hb hbh h1)⟩
  case responds =>
    subst h1 hword
    rfl
  case begins =>
    have hbegin {E : Dev} (h : d.mhBegin q w = E) : runChip s (fun c => c.malthouse (.queue q w)) = .next (s.after E) :=
      h ▸ runChip_malthouse_begins hd hruns hst
    refine ⟨fun hop => hbegin (Dev.mhBegin_bind ht hx h1 hop), fun d2 hop h2 => ?_,
      fun hop => hbegin (Dev.mhBegin_ldAlloc ht hx h1 hop),
      fun hop hnow => hbegin ((Dev.mhBegin_dcAdd ht hx h1 hop).trans (by rw [hnow]; rfl)),
      fun hop htick => hbegin ((Dev.mhBegin_dcAdd ht hx h1 hop).trans (if_pos htick)),
      fun hop hforce => hbegin ((Dev.mhBegin_dcRelease ht hx h1 hop).trans (if_pos hforce)),
      fun hop hforce htick => hbegin ((Dev.mhBegin_dcRelease ht hx h1 hop).trans (by rw [hforce, htick]; rfl)),
      fun hop hforce hnow => hbegin ((Dev.mhBegin_dcRelease ht hx h1 hop).trans (by rw [hforce, hnow]; rfl))⟩
    have hunbind := Dev.mhBegin_unbind ht hx h1 hop h2
    exact ⟨fun h => hbegin (hunbind.trans (if_pos h)),
      fun hopt hon => hbegin (hunbind.trans (by rw [hopt, hon]; rfl)),
      fun hopt hon => hbegin (hunbind.trans (by rw [hopt, hon]; rfl))⟩
  case offers =>
    subst h1
    rfl
  case applies =>
    subst hraw hh hv
    have happly {E : Dev} (h : d.applyDue x = E) : exec (.bindingApply q tag) s = .next (s.after E) :=
      runDev_next (f := fun d => d.bindingApply q tag) hd ((Dev.bindingApply_due hdue).trans h)
    refine ⟨fun hgone hop => happly ((Dev.applyDue_removed hgone).trans (by rw [if_pos hop])),
      fun hgone hop => happly ((Dev.applyDue_removed hgone).trans (by rw [if_neg hop])),
      fun t d1 hstays hphase h1 => happly (h1 ▸ Dev.applyDue_attention hstays hphase),
      fun t hstays hphase => ⟨fun hop hforce hnew => happly ((Dev.applyDue_staged hstays hphase).trans (if_pos ?_)),
        fun h => happly ((Dev.applyDue_staged hstays hphase).trans (if_neg ?_))⟩⟩
    · exact ⟨hop, hforce, by rw [hnew]; rfl⟩
    · rintro ⟨hop, hforce, hnew⟩
      rcases h with ⟨h4, h5⟩ | h | h
      · exact hop.elim h4 h5
      · exact absurd h (by rw [hforce]; decide)
      · exact h (Option.isNone_iff_eq_none.1 hnew)
  case changes =>
    subst hh hv hk hld
    refine ⟨fun hop h1 => ?_, fun hop h1 => ?_, fun hop => ?_, fun hop => ?_, fun hop => ?_⟩
    · simp only [Dev.applyChange, hop, h1]
      rfl
    · simp only [Dev.applyChange, hop, h1]
      rfl
    · simp only [Dev.applyChange, hop]
    · simp only [Dev.applyChange, hop, Dev.addExtent]
    · simp only [Dev.applyChange, hop, Dev.dropExtent]
  case unbinds =>
    subst h1
    rfl
  case acts =>
    exact ⟨fun x hx => runDev_next (f := fun d => d.unbindAction h v) hd (Dev.unbindAction_waited h1 (h1 ▸ hx)),
      fun hx => runDev_next (f := fun d => d.unbindAction h v) hd (Dev.unbindAction_early h1 (h1 ▸ hx))⟩
  case offered =>
    obtain ⟨haccept, hdecline⟩ := Dev.dcResponse_offered (port := port) (ld := ld) (dpa := dpa) (len := len) hx hop
    exact ⟨runDev_next (f := fun d => d.dcResponse h 0 port ld dpa len) hd haccept,
      runDev_next (f := fun d => d.dcResponse h 1 port ld dpa len) hd hdecline⟩
  case released => exact runDev_next (f := fun d => d.dcResponse h 2 port ld dpa len) hd (Dev.dcResponse_released hx hop)

end Sys2Proof.Machine

/-! SUPPORT. CXL ports that come and go: removal and what follows at its boundary, training, CX_PORT_CTL, and ports taken out of
service (R322, R324 to R327). -/

namespace Sys2Proof.Machine

section
variable {d : Dev} {k : Nat}

/-! ### Removal and training (R322, R324) -/

/-- A request in progress names a logical device of a port, and is this device's own. -/
def Dev.worksOn (d : Dev) (k : Nat) (x : MhWork) : Bool :=
  match d.mhLdOf x.raw, x.phase with
  | _, .forwarded _ => false
  | some l, _ => l.1 == k
  | none, _ => false

/-- What the boundary after a removal leaves: requests of the port complete with REMOVED, its bindings go with DPC triggered, and it
names no device any more. -/
def Dev.unbindRemoved (d : Dev) (k : Nat) : Dev :=
  let d1 := forEach (d.cx.work.filter (d.worksOn k)) (fun x d => d.mhRemoved x) d
  let d2 := forEach (d1.boundTo k) (fun (b : Nat × Nat × Nat) (d : Dev) => d.unbindNow b.1 b.2.1 true) d1
  ({ d2 with cx := { d2.cx with extents := d2.cx.extents.filter (fun e => e.port != k) } }).setCx k
    { d2.cxPort k with lds := [], ldCount := 0, kind := 0, dcd := false, regions := [], removeAfter := none }

/-- The bindings of a contained port go once the tick of its removal has passed. -/
theorem Dev.containUnbind_due {t : Nat} (hafter : (d.cxPort k).removeAfter = some t) (ht : d.since t ≠ 0) :
    d.containUnbind k = d.unbindRemoved k := by
  have hform : d.containUnbind k = match (d.cxPort k).removeAfter with
    | none => d
    | some t => if d.since t = 0 then d else d.unbindRemoved k := rfl
  rw [hform, hafter]
  exact if_neg ht

section
variable {x : CxPort} {p : CxPartner} (hx : d.cxPort k = x) (hrole : d.cxRole k = 2)
  (hlink : x.link = .training ∨ x.link = .contained) (hafter : x.removeAfter = none)
include hx hrole hlink hafter

/-- A port that may train does. -/
theorem Dev.cxTrained_waiting : ¬(d.cxRole k ≠ 2 ∨ ((d.cxPort k).link ≠ .training ∧ (d.cxPort k).link ≠ .contained)
    ∨ (d.cxPort k).removeAfter.isSome = true) := by
  rintro (h | ⟨h1, h2⟩ | h)
  · exact h hrole
  · rw [hx] at h1 h2
    exact hlink.elim h1 h2
  · rw [hx, hafter] at h
    cases h

/-- A device that R306 does not support is refused. -/
theorem Dev.cxTrained_refused (hno : p.accepted = false) : d.cxTrained k p =
    ((d.setCx k { x with link := .training, kind := 3 }).latchCx k 4 0 0).raise evCxDeviceRefused (256 + k) := by
  refine (if_neg (Dev.cxTrained_waiting hx hrole hlink hafter)).trans ?_
  rw [hno, hx]
  rfl

/-- Any other is identified, and the policy of its port runs. -/
theorem Dev.cxTrained_accepted {d1 : Dev} (hyes : p.accepted = true) (h1 : d1 = ((d.setCx k { x with
        link := .up, rate := p.rate, width := p.width, kind := if p.mld then 2 else 1, dcd := p.dcd, ldCount := p.lds.length,
        total := p.total, block := p.block, regions := p.regions,
        lds := forEach (upFrom 0 p.lds.length) (fun i (t : Tbl LdState) =>
          Tbl.put {} i (LdState.mk true none (p.lds.getD i 0)) t) [],
        reqs := [], timeouts := 0, poisonTold := false }).degraded k p.rate p.width).raise evCxDevAdded (256 + k)) :
    d.cxTrained k p = if d1.mhSource 6 then d1.queuePolicy k else d1 := by
  refine (if_neg (Dev.cxTrained_waiting hx hrole hlink hafter)).trans ?_
  rw [hyes, h1, hx]
  rfl

end

/-! ### CX_PORT_CTL (R322, R327) -/

/-- CX_PORT_CTL with ENABLE and HOLD as a write gives them. -/
def Dev.cxCtlSet (d : Dev) (k v : Nat) : Dev := d.wr rCxPortCtl (pack [(1, field v 0 1), (1, 0), (1, field v 2 1)]) k

section
variable {v : Nat} (hp : 9 ≤ d.bt.phase) (hk : k < 48) (hv : v < 8)
include hp hk hv

/-- A core's write for a port without a role is refused. -/
theorem Dev.coreWrite_cxPortCtl_noRole (hrole : d.cxRole k = 0) : d.coreWrite rCxPortCtl k v = d.emit .applyRefused := by
  have hvalue : d.valueOk rCxPortCtl k v = false := decide_eq_false (not_not_intro hrole)
  exact (Dev.coreWrite_running hp rCxPortCtl (by exact hk) (Nat.lt_trans hv (by decide))).trans
    (Dev.regWrite_refused (.inr hvalue))

/-- A core's write for any other port acts: CONTAIN_CLEAR first, then ENABLE and HOLD. -/
theorem Dev.coreWrite_cxPortCtl (hrole : d.cxRole k ≠ 0) : d.coreWrite rCxPortCtl k v =
    (if flag v 1 then (d.cxCtlSet k v).containClear k else d.cxCtlSet k v).cxPortCtl k :=
  Dev.coreWrite_does hp rCxPortCtl (by exact hk) (Nat.lt_trans hv (by decide)) (by decide) (decide_eq_true hrole)

end

/-- CONTAIN_CLEAR lets a contained port train. -/
theorem Dev.containClear_contained (hrole : d.cxRole k ≠ 0) (hlink : (d.cxPort k).link = .contained) :
    d.containClear k = d.setCx k { d.cxPort k with link := .training } :=
  (if_neg hrole).trans (if_pos hlink)

/-- It leaves any other port alone. -/
theorem Dev.containClear_other (hrole : d.cxRole k ≠ 0) (hlink : (d.cxPort k).link ≠ .contained) : d.containClear k = d :=
  (if_neg hrole).trans (if_neg hlink)

/-- ENABLE and HOLD say whether a port trains or is disabled; a fenced one waits for its release. -/
theorem Dev.cxPortCtl_eq {may : Bool}
    (hmay : may = (flag (d.rd rCxPortCtl k) 0 && !(flag (d.rd rCxPortCtl k) 2) && decide (d.cxRole k ≠ 0))) :
    d.cxPortCtl k = if (d.cxPort k).link = .disabled then
        (if may then d.setCx k { d.cxPort k with link := .training } else d)
      else if (d.cxPort k).link = .fenced ∨ may = true then d else d.stopCx k .disabled := by
  subst hmay
  unfold Dev.cxPortCtl
  cases hlink : (d.cxPort k).link
  case disabled => rfl
  case fenced => rfl
  all_goals simp only [reduceCtorEq, if_false, false_or]

/-- A port in service that stops is contained, or its host goes down; any other only takes its state. -/
theorem Dev.stopCx_eq {link : CxLink} : d.stopCx k link =
    if (d.cxPort k).link = .up ∧ d.cxRole k = 2 then d.contain k link
    else if (d.cxPort k).link = .up ∧ d.cxRole k = 1 then d.hostDown k link
    else d.setCx k { d.cxPort k with link := link } := by
  unfold Dev.stopCx
  by_cases hup : (d.cxPort k).link = .up
  · simp only [hup, if_true, true_and]
  · simp only [hup, if_false, false_and]

end

/-- Settles O43: each operation where its port's role and link let it act. -/
theorem cxlPortsComeAndGo : Obligations.CxlPortsComeAndGo := by
  refine ⟨fun s d d0 d1 d2 k link hd hrole hup h0 h1 h2 => ?removed, fun d k p live hlive => ?poisoned,
    fun s d d1 d2 k t hd hafter ht h1 h2 => ?unbound, fun s d k x p hd hx hrole hlink hafter => ?trained,
    fun s d k hd hrole hup => runDev_next (f := fun d => d.hostLinkDown k) hd (if_pos ⟨hrole, hup⟩),
    fun d d1 d2 d3 k h link hh h1 h2 h3 => ?down, fun s d d1 k v hd hp hk hv => ?control,
    fun d k may hmay => Dev.cxPortCtl_eq hmay, fun d k link => Dev.stopCx_eq, fun s d d1 tile hd h1 => ?tile⟩
  case removed =>
    subst h2 h1 h0
    exact runDev_next (f := fun d => d.surprise k link) hd (if_pos ⟨hrole, hup⟩)
  case poisoned =>
    subst hlive
    rfl
  case unbound =>
    subst h2 h1
    exact runDev_next (f := fun d => d.containUnbind k) hd (Dev.containUnbind_due hafter ht)
  case trained =>
    exact ⟨fun hno => runDev_next (f := fun d => d.cxTrained k p) hd (Dev.cxTrained_refused hx hrole hlink hafter hno),
      fun d1 hyes h1 => runDev_next (f := fun d => d.cxTrained k p) hd
        (Dev.cxTrained_accepted hx hrole hlink hafter hyes h1)⟩
  case down =>
    subst h3 h2 h1 hh
    rfl
  case control =>
    have hrun {E : Dev} (h : d.coreWrite rCxPortCtl k v = E) : exec (.containClear k v) s = .next (s.after E) :=
      runDev_next (f := fun d => d.coreWrite rCxPortCtl k v) hd h
    refine ⟨fun hrole => hrun (Dev.coreWrite_cxPortCtl_noRole hp hk hv hrole), fun hrole h1 => ?_⟩
    have hset : d.cxCtlSet k v = d1 := h1.symm
    have hrole1 : d1.cxRole k ≠ 0 := by
      rw [h1, Dev.wr_cxPortCtl_cxRole d _ k hk]
      exact hrole
    have hwrite := Dev.coreWrite_cxPortCtl hp hk hv hrole
    rw [hset] at hwrite
    refine ⟨fun hclear hlink => hrun (hwrite.trans ?_), fun h => hrun (hwrite.trans ?_)⟩
    · rw [if_pos hclear, Dev.containClear_contained hrole1 hlink]
    · rcases h with hno | hlink
      · rw [hno]
        rfl
      · rw [Dev.containClear_other hrole1 hlink, ite_self]
  case tile =>
    subst h1
    exact runDev_next (f := fun d => d.cxlD2d tile) hd rfl

end Sys2Proof.Machine

/-! SUPPORT. Remote memory windows: requests of hosts, places for lines, fills, write-backs, and what the home answers (R330, R332 to
R340). -/

namespace Sys2Proof.Machine

section
variable {d : Dev}

/-! ### Requests (R330, R333 to R335) -/

section
variable {x : WnWait}

/-- A request that no window serves is refused and reported. -/
theorem Dev.wnRequest_noWindow (hw : d.winAt x.host x.dpa = none) : d.wnRequest x =
    ((d.latchWn 0 2 x.host 0 x.dpa).raise evWnNoWindow x.host).cxlAnswer x.host x.tag x.write.isNone none := by
  simp only [Dev.wnRequest, hw]

section
variable {w : Nat} (hw : d.winAt x.host x.dpa = some w)
include hw

/-- One whose window is not ACTIVE is refused. -/
theorem Dev.wnRequest_inactive (huse : (d.win w).use ≠ .active) :
    d.wnRequest x = d.cxlAnswer x.host x.tag x.write.isNone none := by
  simp only [Dev.wnRequest, hw, if_pos huse]

section
variable (huse : (d.win w).use = .active)
include huse

/-- One behind a waiting request of its host and line waits too. -/
theorem Dev.wnRequest_behind (hb : d.wn.blocked.any (fun y => y.host == x.host && y.dpa / 128 == x.dpa / 128) = true) :
    d.wnRequest x = d.blockReq x := by
  simp only [Dev.wnRequest, hw, if_neg (not_not_intro huse), hb, if_true]

section
variable (hb : d.wn.blocked.any (fun y => y.host == x.host && y.dpa / 128 == x.dpa / 128) = false)
include hb

/-- Any other read goes to the lines of its window. -/
theorem Dev.wnRequest_read (hread : x.write = none) : d.wnRequest x = d.readIn w x := by
  simp only [Dev.wnRequest, hw, if_neg (not_not_intro huse), hb, hread, Bool.false_eq_true, if_false]

/-- Any other write is refused and reported where the window is read-only, and goes to its lines otherwise. -/
theorem Dev.wnRequest_write {mask data : Nat} (hwrite : x.write = some (mask, data)) : d.wnRequest x =
    if d.winMode w = 1 then
      (((d.latchWn w 1 x.host 0 x.dpa).emit (.mediaEvent x.host x.dpa 64)).raise evWnRoWrite w).cxlAnswer x.host x.tag false none
    else d.writeIn w x mask data := by
  simp only [Dev.wnRequest, hw, if_neg (not_not_intro huse), hb, hwrite, Bool.false_eq_true, if_false, Option.isNone_some]

end

end

end

section
variable {w : Nat} {l : WnLine}

/-- A read that hits returns its sector. -/
theorem Dev.readIn_hit (hl : d.wnLine w (x.dpa / 128) = some l) (hold : d.lineOld l = false)
    (hvalid : l.valid (x.dpa / 64 % 2) = true) :
    d.readIn w x = (d.useLine l).cxlAnswer x.host x.tag false (some (l.data (x.dpa / 64 % 2))) := by
  simp only [Dev.readIn, hl, hold, hvalid, Bool.false_eq_true, if_false, if_true]

/-- A read of a sector that is not valid misses. -/
theorem Dev.readIn_invalid (hl : d.wnLine w (x.dpa / 128) = some l) (hold : d.lineOld l = false)
    (hvalid : l.valid (x.dpa / 64 % 2) = false) : d.readIn w x = d.missWait w x := by
  simp only [Dev.readIn, hl, hold, hvalid, Bool.false_eq_true, if_false]

/-- An old line is dropped, and the read misses. -/
theorem Dev.readIn_old (hl : d.wnLine w (x.dpa / 128) = some l) (hold : d.lineOld l = true) :
    d.readIn w x = (d.dropLine w l.line).missWait w x := by
  simp only [Dev.readIn, hl, hold, if_true]

/-- A read of a line that is not cached misses. -/
theorem Dev.readIn_absent (hl : d.wnLine w (x.dpa / 128) = none) : d.readIn w x = d.missWait w x := by
  simp only [Dev.readIn, hl]

/-- A write of a cached line completes where it brings the whole sector or the sector is valid, and misses otherwise. -/
theorem Dev.writeIn_cached {mask data : Nat} (hl : d.wnLine w (x.dpa / 128) = some l) : d.writeIn w x mask data =
    if mask = 2 ^ 64 - 1 then d.writeLine l x data
    else if l.valid (x.dpa / 64 % 2) then d.writeLine l x (mergeBytes (l.data (x.dpa / 64 % 2)) data mask)
    else d.missWait w x := by
  simp only [Dev.writeIn, hl]

/-- A write of part of a sector that is not cached misses. -/
theorem Dev.writeIn_part {mask data : Nat} (hl : d.wnLine w (x.dpa / 128) = none) (hmask : mask ≠ 2 ^ 64 - 1) :
    d.writeIn w x mask data = d.missWait w x := by
  simp only [Dev.writeIn, hl, if_neg hmask]

section
variable {mask data : Nat} (hl : d.wnLine w (x.dpa / 128) = none) (hmask : mask = 2 ^ 64 - 1)
  (hnew : l = { window := w, line := x.dpa / 128, stamp := d.st.boundaries })
include hl hmask hnew

/-- A whole sector takes a place for its line. -/
theorem Dev.writeIn_placed {d1 : Dev} (h1 : d.allocLine l = some d1) : d.writeIn w x mask data = d1.writeLine l x data := by
  subst hnew
  simp only [Dev.writeIn, hl, if_pos hmask, h1]

/-- Where none is free, it waits. -/
theorem Dev.writeIn_waits (h1 : d.allocLine l = none) : d.writeIn w x mask data = d.blockReq x := by
  subst hnew
  simp only [Dev.writeIn, hl, if_pos hmask, h1]

end

end

end

/-! ### Places for lines (R332) -/

section
variable {l : WnLine} {d1 : Dev}

/-- A window below its quota gives up no line. -/
theorem Dev.quotaRoom_below {w : Nat} (h : d.winMax w = 0 ∨ countWhere d.wn.lines (fun x => x.window == w) < d.winMax w) :
    d.quotaRoom w = some d := if_pos h

/-- A window at its quota gives up a line of its own. -/
theorem Dev.quotaRoom_full {w : Nat} (hmax : d.winMax w ≠ 0) (hfull : d.winMax w ≤ countWhere d.wn.lines (fun x => x.window == w)) :
    d.quotaRoom w = (d.victim (fun x => x.window == w)).map (fun v => (d.evict v).raise evWnLineQuota w) :=
  if_neg (not_or.2 ⟨hmax, Nat.not_lt.2 hfull⟩)

/-- A set with a free place gives up no line. -/
theorem Dev.setRoom_free (h : countWhere d.wn.lines (fun x => decide (x.set = l.set)) < 16) : d.setRoom l = some d := by
  simp only [Dev.setRoom, if_pos h, ite_self]

/-- A full set gives up a line. -/
theorem Dev.setRoom_full (h : 16 ≤ countWhere d.wn.lines (fun x => decide (x.set = l.set))) :
    d.setRoom l = (d.victim (fun x => decide (x.set = l.set))).map (fun v => d.evict v) := by
  have hlen := countWhere_le_length (fun x => decide (x.set = l.set)) d.wn.lines
  simp only [Dev.setRoom, if_neg (Nat.not_lt.2 (Nat.le_trans h hlen)), if_neg (Nat.not_lt.2 h)]

/-- A line takes a place once its window's quota and its set have one. -/
theorem Dev.allocLine_quota (h : d.quotaRoom l.window = some d1) :
    d.allocLine l = (d1.setRoom l).map (fun d => d.useLine l) := by
  simp only [Dev.allocLine, h]

/-- No place where the quota has none. -/
theorem Dev.allocLine_noQuota (h : d.quotaRoom l.window = none) : d.allocLine l = none := by
  simp only [Dev.allocLine, h]

end

/-! ### Misses and fills (R334, R335) -/

section
variable {w : Nat} {x : WnWait}

/-- A miss whose line finds no place waits for one. -/
theorem Dev.missWait_full (hl : d.wnLine w (x.dpa / 128) = none)
    (halloc : d.allocLine { window := w, line := x.dpa / 128, use := .filling } = none) : d.missWait w x = d.blockReq x := by
  simp only [Dev.missWait, hl, halloc]

/-- The device in which the line of a miss has its place. -/
def Dev.missPlaced (d : Dev) (w : Nat) (x : WnWait) (d1 : Dev) : Prop :=
  (d.wnLine w (x.dpa / 128) = none ∧ d.allocLine { window := w, line := x.dpa / 128, use := .filling } = some d1) ∨
    (∃ l, d.wnLine w (x.dpa / 128) = some l ∧ d1 = if l.use = .clean then d.setLine { l with use := .filling } else d)

section
variable {d1 : Dev} (hplaced : d.missPlaced w x d1)
include hplaced

/-- A miss joins the running fill of its block. -/
theorem Dev.missWait_joins {f : WnFill} (hf : firstThat d1.wn.fills (fun f => f.of w (d.blockOf w x.dpa)) = some f) :
    d.missWait w x = { d1 with wn := { d1.wn with
      fills := mapFirst d1.wn.fills (fun f => f.of w (d.blockOf w x.dpa)) (fun f => { f with waits := f.waits ++ [x] }) } } := by
  rcases hplaced with ⟨hl, halloc⟩ | ⟨l, hl, rfl⟩
  · simp only [Dev.missWait, hl, halloc, hf]
  · simp only [Dev.missWait, Dev.fillLine, hl, hf]

/-- Without one it starts a fill, for which the lines of the block take their places. -/
theorem Dev.missWait_starts {d2 : Dev}
    (h2 : d2 = forEach (upFrom (d.blockOf w x.dpa / 128) (d1.winBlock w / 128)) (Dev.fillLine w) d1)
    (hf : firstThat d1.wn.fills (fun f => f.of w (d.blockOf w x.dpa)) = none) :
    d.missWait w x = ({ d2 with wn := { d2.wn with
      fills := d2.wn.fills ++ [WnFill.mk d2.wn.nextFill w (d.blockOf w x.dpa) (d2.winBlock w) false d2.now [x] false],
      nextFill := d2.wn.nextFill + 1 } }).sendFills := by
  subst h2
  rcases hplaced with ⟨hl, halloc⟩ | ⟨l, hl, rfl⟩
  · simp only [Dev.missWait, hl, halloc, hf]
  · have hfill : Dev.fillLine w (x.dpa / 128) d = if l.use = .clean then d.setLine { l with use := .filling } else d := by
      simp only [Dev.fillLine, hl]
    rw [← hfill] at hf ⊢
    simp only [Dev.missWait, hl, hf]

end

end

/-- A fill that has not been sent goes once no write-back of its home range is in flight. -/
theorem Dev.sendFill_unsent {f : WnFill} (hs : f.sent = false) : Dev.sendFill f d = if d.fillHeld f then d
    else ({ d with wn := { d.wn with
        fills := mapFirst d.wn.fills (fun x => x.num == f.num) (fun x => { x with sent := true }) } }).addMsg
      { num := 0, owner := .fill f.window f.num, type := tyWnFill, srcEp := f.window,
        dstNode := d.fld rWnWinHome 0 18 0 f.window, dstEp := d.fld rWnWinHome 18 16 0 f.window, tc := d.winTc f.window,
        len := f.len, addr := d.winHome f.window f.block, key := d.fld rWnWinHome 34 24 0 f.window } := by
  simp only [Dev.sendFill, hs, Bool.false_or]

section
variable {w num status : Nat} {data : List Byte} {f : WnFill} {d1 : Dev}
  (hf : firstThat d.wn.fills (fun f => f.num == num) = some f)
  (h1 : d1 = { d with wn := { d.wn with fills := d.wn.fills.filter (fun x => x.num != num) } })
include hf h1

/-- The end of a fill of an earlier use of its window only answers what waits, and is reported where it brings data. -/
theorem Dev.fillEnd_stale (hs : f.stale = true) : d.fillEnd w num status data =
    (Dev.poisonWaits f.waits d1).raiseIf (decide (status = stOk)) evWnLateFill w := by
  subst h1
  simp only [Dev.fillEnd, hf, hs, if_true]

/-- The end of any other fill fills its sectors or fails its reads, and its lines leave FILLING. -/
theorem Dev.fillEnd_current (hs : f.stale = false) : d.fillEnd w num status data =
    ((forEach (upFrom (f.block / 128) (f.len / 128)) (Dev.endFilling w)
      (if status = stOk then forEach (upFrom 0 (f.len / 64)) (Dev.fillSector f (ofBytes data)) d1
        else Dev.poisonWaits f.waits ((d1.latchWn w 3 0 status f.block).raise evWnFillFail w))).dirtyCheck).wnUnblock := by
  subst h1
  simp only [Dev.fillEnd, hf, hs, Bool.false_eq_true, if_false]

end

/-! ### Reads and messages that wait too long (R335, R339) -/

section
variable {host tag : Nat} {x : WnWait} {late : WnWait → Bool}
  (hlate : late = (fun x => x.host == host && x.tag == tag && x.write.isNone && decide (d.readTo ≤ d.since x.since)))
include hlate

/-- A late read that waits for a fill ends with poison, and the fill goes on. -/
theorem Dev.readTimeout_filling {f : WnFill} (hf : firstThat d.wn.fills (fun f => f.waits.any late) = some f)
    (hx : firstThat f.waits late = some x) : d.readTimeout host tag =
      ((({ d with wn := { d.wn with
        fills := mapFirst d.wn.fills (fun g => g.num == f.num)
          (fun g => { g with waits := removeFirst g.waits late }) } }).cxlAnswer host tag true none).latchWn
            f.window 4 host 0 x.dpa).raise evWnReadTimeout f.window := by
  subst hlate
  simp only [Dev.readTimeout, hf, hx, Option.map_some, Option.getD_some]

/-- So does one that waits for a place. -/
theorem Dev.readTimeout_blocked {w : Nat} (hf : firstThat d.wn.fills (fun f => f.waits.any late) = none)
    (hx : firstThat d.wn.blocked late = some x) (hw : d.winAt host x.dpa = some w) : d.readTimeout host tag =
      ((({ d with wn := { d.wn with blocked := removeFirst d.wn.blocked late } }).cxlAnswer host tag true none).latchWn w 4
        host 0 x.dpa).raise evWnReadTimeout w := by
  subst hlate
  simp only [Dev.readTimeout, hf, hx, hw, Option.getD_some]

end

/-- A window message that waits too long is reported once. -/
theorem Dev.msgWait_due {num : Nat} {m : Msg} (hm : d.msg num = some m) (ht : m.type = tyWnFill ∨ m.type = tyWnWrite)
    (hid : m.id = none) (hphase : m.phase = .waiting) (honce : m.waitRaised = false) (hdue : 1 < d.waited m.since) :
    d.msgWait num = (d.setMsg { m with waitRaised := true }).raise evWnMsgWait m.srcEp := by
  simp only [Dev.msgWait, hm, ht, hid, hphase, honce, hdue, decide_true, Option.isNone_none, Bool.not_false, Bool.and_self,
    if_true]

/-! ### Write-backs (R336 to R338, R340) -/

section
variable {w line : Nat} {l : WnLine}

/-- A dirty line is written back, or once more after the write-back that is in flight. -/
theorem Dev.startWb_dirty (hl : d.wnLine w line = some l) (hdirty : l.dirty = true) : d.startWb w line =
    if d.wbRuns w line then d.setLine { l with again := true }
    else (d.setLine { l with dirty0 := false, dirty1 := false, use := .wb, again := false }).sendWb l := by
  simp only [Dev.startWb, hl, hdirty, Bool.not_true, Bool.false_eq_true, if_false]

/-- A line that has been dirty long enough is written back. -/
theorem Dev.wbExpiry_due (hl : d.wnLine w line = some l) (hdirty : l.dirty = true) (hdue : d.wbDelay w ≤ d.since l.dirtySince) :
    d.wbExpiry w line = d.startWb w line := by
  simp only [Dev.wbExpiry, hl, hdirty, hdue, decide_true, Bool.and_self, if_true]

/-- A write-back carries the dirty sectors of its line to their place at the home. -/
theorem Dev.sendWb_sectors {home len : Nat} {data : List Byte}
    (h : (l.dirty0 = true ∧ l.dirty1 = true ∧ home = d.winHome l.window (128 * l.line) ∧ len = 128 ∧
        data = toBytes 64 l.data0 ++ toBytes 64 l.data1) ∨
      (l.dirty0 = true ∧ l.dirty1 = false ∧ home = d.winHome l.window (128 * l.line) ∧ len = 64 ∧ data = toBytes 64 l.data0) ∨
      (l.dirty0 = false ∧ home = d.winHome l.window (128 * l.line) + 64 ∧ len = 64 ∧ data = toBytes 64 l.data1)) :
    d.sendWb l = ({ d with wn := { d.wn with wbs := d.wn.wbs ++ [WnWb.mk l.window l.line home len] } }).addMsg
      { num := 0, owner := .writeBack l.window l.line, type := tyWnWrite, srcEp := l.window,
        dstNode := d.fld rWnWinHome 0 18 0 l.window, dstEp := d.fld rWnWinHome 18 16 0 l.window, tc := d.winTc l.window,
        len := len, addr := home, key := d.fld rWnWinHome 34 24 0 l.window, inline_ := data } := by
  rcases h with ⟨h0, h1, rfl, rfl, rfl⟩ | ⟨h0, h1, rfl, rfl, rfl⟩ | ⟨h0, rfl, rfl, rfl⟩
  · simp only [Dev.sendWb, h0, h1, Bool.and_self, Bool.or_self, if_true]
    rw [Nat.add_zero]
  · simp only [Dev.sendWb, h0, h1, Bool.and_false, Bool.false_or, Bool.false_eq_true, if_false, if_true]
    rw [Nat.add_zero]
  · simp only [Dev.sendWb, h0, Bool.false_and, Bool.or_self, Bool.false_eq_true, if_false]

section
variable {status : Nat} {d1 d2 : Dev}
  (h1 : d1 = { d with wn := { d.wn with wbs := removeFirst d.wn.wbs (fun b => b.window == w && b.line == line) } })
include h1

/-- A write-back that is done leaves its line clean, and goes out again where the line has been written meanwhile. -/
theorem Dev.wbEnd_ok_cached {l' : WnLine} (hst : status = stOk) (hl : d1.wnLine w line = some l)
    (hl' : l' = { l with use := if l.use = .wb then .clean else l.use, stamp := d.st.boundaries, again := false }) :
    d.wbEnd w line status = (((((if (l.again && l.dirty) = true then (d1.setLine l').startWb w line
      else d1.setLine l').mapFlush (fun x => x.count w line)).sendFills).dirtyCheck).wnUnblock) := by
  subst hl' h1
  simp only [Dev.wbEnd, hst, if_true, hl]

/-- A line whose place has gone only counts for the flushes. -/
theorem Dev.wbEnd_ok_gone (hst : status = stOk) (hl : d1.wnLine w line = none) :
    d.wbEnd w line status = (((d1.mapFlush (fun x => x.count w line)).sendFills).dirtyCheck).wnUnblock := by
  subst h1
  simp only [Dev.wbEnd, hst, if_true, hl]

section
variable (h2 : d2 = (d1.latchWn w 5 0 status (128 * line)).raise evWnWbFail w) (hst : status ≠ stOk)
include h2 hst

/-- A write-back that fails fences an ACTIVE window. -/
theorem Dev.wbEnd_failed_active (huse : (d.win w).use = .active) :
    d.wbEnd w line status = (d2.fenceWindow w 5).sendFills := by
  have huse1 : (d1.win w).use = .active := h1 ▸ huse
  subst h2 h1
  simp only [Dev.wbEnd, if_neg hst, huse1]

/-- A DRAINING window only notes it, for itself and its flushes. -/
theorem Dev.wbEnd_failed_draining (huse : (d.win w).use = .draining) : d.wbEnd w line status =
    ((d2.setWin w { d.win w with failed := true }).mapFlush
      (fun x => ({ x with failNow := x.failNow || x.owed.any (fun o => o.1 == w && o.2.1 == line) }).count w line)).sendFills := by
  have huse1 : (d1.win w).use = .draining := h1 ▸ huse
  have hwin : d1.win w = d.win w := by rw [h1]; rfl
  rw [← hwin]
  subst h2 h1
  simp only [Dev.wbEnd, if_neg hst, huse1]

/-- A FENCED window has nothing more to lose. -/
theorem Dev.wbEnd_failed_fenced (huse : (d.win w).use = .fenced) : d.wbEnd w line status = d2.sendFills := by
  have huse1 : (d1.win w).use = .fenced := h1 ▸ huse
  subst h2 h1
  simp only [Dev.wbEnd, if_neg hst, huse1]

end

end

end

/-! ### Flushes and drains that end (R338, R340) -/

/-- A flush that owes nothing any more answers, and drops the covered lines that INV names. -/
theorem Dev.flushDone_due {h : Nat} {x : WnFlush} {gone : WnLine → Bool} (hx : Tbl.get {} d.wn.flush h = x)
    (hbusy : x.busy = true) (howed : x.owed = [])
    (hgone : gone = (fun l => x.inv && !l.dirty && d.lineIdle l && x.covered.any (fun c => c.1 == l.window && c.2 == l.line))) :
    d.flushDone h = (({ d with wn := { d.wn with
        flush := Tbl.put {} h { x with busy := false, done := x.seq, fail := x.failNow, failNow := false, covered := [] }
          d.wn.flush, lines := d.wn.lines.filter (fun l => !(gone l)) } }).raise evWnFlushDone h).wnUnblock := by
  subst hgone hx
  simp only [Dev.flushDone, hbusy, howed, List.isEmpty_nil, Bool.and_self, if_true]

/-- A drained window is OFF, or FENCED where a write-back has failed. -/
theorem Dev.drainDone_due {w : Nat} {d1 : Dev} (huse : (d.win w).use = .draining)
    (hwbs : d.wn.wbs.all (fun b => b.window != w) = true) (hlines : d.wn.lines.all (fun l => l.window != w || !l.dirty) = true)
    (h1 : d1 = { d with wn := { d.wn with lines := d.wn.lines.filter (fun l => l.window != w) } }) : d.drainDone w =
      (if (d.win w).failed then (d1.setWin w { use := .fenced, fenceReason := 5 }).emit
          (.mediaEvent (d1.winWriter w) (d1.winBase w) (d1.winSize w))
        else d1.setWin w {}).wnUnblock := by
  subst h1
  simp only [Dev.drainDone, huse, hwbs, hlines, decide_true, Bool.and_self, if_true]

/-! ### What the home answers (R131, R132, R339) -/

section
variable {p : Packet}

/-- What a type that reads at the target is not. -/
theorem read_types {t : Nat} (h : t = tyWnFill ∨ t = tyGetReq) :
    t ≠ tyRts ∧ t ≠ tyFin ∧ t ≠ tyLsReq ∧ t ≠ tyLsGrant ∧ ¬ (0x17 ≤ t ∧ t ≤ 0x1F) := by
  rcases h with rfl | rfl <;> decide

section
variable (hr : hType p.hdr = tyWnFill ∨ hType p.hdr = tyGetReq)
include hr

/-- A read of good form that is not too old goes to its context. -/
theorem Dev.arrive_read (hcrc : p.crcOk = true) (hok : requestOk p = true) (hs : d.tp.service.isSome = true)
    (hage : d.ageOf (hFst p.hdr) ≤ d.ageLimit) : d.arrive p = d.contextThen p (fun d => d.admitArrival p) := by
  obtain ⟨hrts, hfin, hask, hgrant, hrelay⟩ := read_types hr
  have hform : rtsBad p = false := by simp [rtsBad, hrts, hfin]
  have hlock : lockBad p = false := by simp [lockBad, hask, hgrant]
  simp only [Dev.arrive, hcrc, if_neg hrelay, hform, hok, hlock, Option.isNone_eq_false_iff.2 hs, Bool.not_true,
    Bool.false_eq_true, if_false, if_neg (Nat.not_lt.2 hage), Dev.arriveFrom4, if_pos hr.symm]

/-- A read whose context is on die goes on at once. -/
theorem Dev.contextThen_read {c : EpCtx} (go : Dev → Dev) (hc : d.ep (hDstEp p.hdr) = some c) (hdie : c.onDie = true) :
    d.contextThen p go = go (d.touch (hDstEp p.hdr)) := by
  obtain ⟨-, -, hask, -, -⟩ := read_types hr
  simp only [Dev.contextThen, if_neg hask, hc, hdie, if_true]

end

/-- A read without a record that its endpoint serves, in its order, is performed. -/
theorem Dev.admitArrival_read (hserves : d.epServes p.hdr = true) (hearly : d.early p.hdr = false)
    (hprev : d.prevOk p.hdr = true) (hrecordless : recordless p.hdr = true) (hnone : d.recFor p.hdr = none) :
    d.admitArrival p = d.performGet none p {} := by
  have hlook : (if hType p.hdr = tyGetReq then d.recFor p.hdr else none) = none := by rw [hnone, ite_self]
  simp only [Dev.admitArrival, hlook, hserves, hearly, hprev, hrecordless, Bool.not_true, Bool.or_self, Bool.false_eq_true,
    if_false, if_true]

/-- A read whose access translates sends its data. -/
theorem Dev.performGet_sends {d2 : Dev} {a : Access} {pieces : List (Nat × Nat)} {read : Nat} (ha : a = getAccess p.hdr)
    (hok : d.evalTarget a {} = .ok pieces) (hnone : d.recFor p.hdr = none)
    (h2 : (hReqLen p.hdr = 0 ∧ read = 0 ∧ d2 = d.useLeaves a) ∨ (hReqLen p.hdr ≠ 0 ∧ (d.useLeaves a).fresh = (read, d2))) :
    d.performGet none p {} = forEach (upFrom 0 (packetsOf (hReqLen p.hdr))) (Dev.sendGetResp p.hdr p.tc read pieces) d2 := by
  have hrec : (d.useLeaves a).recFor p.hdr = none := by
    rw [← hnone]
    unfold Dev.useLeaves
    split <;> rfl
  subst ha
  simp only [Dev.performGet, hok, Dev.unpark, hrec]
  rcases h2 with ⟨hlen, rfl, rfl⟩ | ⟨hlen, hfresh⟩
  · rw [if_pos hlen]
  · rw [if_neg hlen, hfresh]

end

end

end Sys2Proof.Machine

/-! SUPPORT. The accesses of remote windows put together (R330, R332 to R340). -/

namespace Sys2Proof.Machine

section
variable {d : Dev} {host tag dpa : Nat}

/-- What a request does to an ACTIVE window in which nothing of its host and line waits: a read, and then a write. -/
theorem windowRequest_active {s : State} (hd : s.begun = d) {mask data w : Nat} {x y : WnWait} (hw : d.winAt host dpa = some w)
    (huse : (d.win w).use = .active) (hb : d.wn.blocked.any (fun y => y.host == host && y.dpa / 128 == dpa / 128) = false)
    (hx : x = ⟨host, tag, dpa, none, d.now⟩) (hy : y = ⟨host, tag, dpa, some (mask, data), d.now⟩) :
    (∀ {E : Dev}, d.readIn w x = E → exec (.windowRead host tag dpa) s = .next (s.after E)) ∧
    (∀ {E : Dev}, (if d.winMode w = 1 then
        (((d.latchWn w 1 host 0 dpa).emit (.mediaEvent host dpa 64)).raise evWnRoWrite w).cxlAnswer host tag false none
      else d.writeIn w y mask data) = E → exec (.windowWrite host tag dpa mask data) s = .next (s.after E)) := by
  subst hx hy
  exact ⟨fun h => runDev_next (f := fun d => d.windowRead host tag dpa) hd
      ((Dev.wnRequest_read hw huse hb rfl).trans h),
    fun h => runDev_next (f := fun d => d.windowWrite host tag dpa mask data) hd
      ((Dev.wnRequest_write hw huse hb rfl).trans h)⟩

end

/-- Settles O44: a request by its window and line, a place by quota and set, fills and write-backs by how they end, and a read at the
home through the steps of R131. -/
theorem windowAccesses : Obligations.WindowAccesses := by
  refine ⟨fun s d host tag dpa mask data hd => ⟨fun hw => ?noWindow, fun w hw huse => ?inactive, fun w hw huse hb => ?behind,
      fun w x y hw huse hb hx hy => ?served⟩,
    fun d l x data => rfl, fun d l => ?places, fun d w x block hblock => ?misses, fun s d host tag late hd hlate => ?late,
    fun s d num m hd hm ht hid hphase honce hdue => runDev_next (f := fun d => d.msgWait num) hd
      (Dev.msgWait_due hm ht hid hphase honce hdue),
    fun s d w line l hd hl hdirty hdue => ?expires, fun d l home len data => Dev.sendWb_sectors, fun d f hs => ?sends,
    fun s d d1 p m m' hd ht hcrc hok h1 hm hty hnew hlen hm' => ?arrives, fun d d1 w num status data f hf h1 => ?fillEnds,
    fun d d1 d2 w line status h1 h2 => ?wbEnds, fun s d h x gone hd hx hbusy howed hgone =>
      runDev_next (f := fun d => d.flushDone h) hd (Dev.flushDone_due hx hbusy howed hgone),
    fun s d d1 w hd huse hwbs hlines h1 => ?drained,
    fun s d d1 d2 p c a pieces read hd hcrc hok ht hs hage hc hdie h1 hserves hearly hprev hless hnone ha heval h2 => ?home⟩
  case noWindow =>
    exact ⟨runDev_next (f := fun d => d.windowRead host tag dpa) hd (Dev.wnRequest_noWindow hw),
      runDev_next (f := fun d => d.windowWrite host tag dpa mask data) hd (Dev.wnRequest_noWindow hw)⟩
  case inactive =>
    exact ⟨runDev_next (f := fun d => d.windowRead host tag dpa) hd (Dev.wnRequest_inactive hw huse),
      runDev_next (f := fun d => d.windowWrite host tag dpa mask data) hd (Dev.wnRequest_inactive hw huse)⟩
  case behind =>
    exact ⟨runDev_next (f := fun d => d.windowRead host tag dpa) hd (Dev.wnRequest_behind hw huse hb),
      runDev_next (f := fun d => d.windowWrite host tag dpa mask data) hd (Dev.wnRequest_behind hw huse hb)⟩
  case served =>
    obtain ⟨hread, hwrite⟩ := windowRequest_active hd hw huse hb hx hy
    subst hx hy
    refine ⟨fun l hl => ⟨fun hold hvalid => hread (Dev.readIn_hit hl hold hvalid),
        fun hold hvalid => hread (Dev.readIn_invalid hl hold hvalid), fun hold => hread (Dev.readIn_old hl hold)⟩,
      fun hl => hread (Dev.readIn_absent hl), fun hro => hwrite (if_pos hro), fun hsw => ?_⟩
    have hwriteIn {E : Dev} (h : d.writeIn w ⟨host, tag, dpa, some (mask, data), d.now⟩ mask data = E) :
        exec (.windowWrite host tag dpa mask data) s = .next (s.after E) := hwrite ((if_neg hsw).trans h)
    exact ⟨fun l hl => ⟨fun hmask => hwriteIn (Eq.trans (Dev.writeIn_cached hl) (if_pos hmask)),
        fun hmask hvalid => hwriteIn (Eq.trans (Dev.writeIn_cached hl) ((if_neg hmask).trans (if_pos hvalid))),
        fun hmask hvalid => hwriteIn (Eq.trans (Dev.writeIn_cached hl)
          ((if_neg hmask).trans (if_neg (Bool.eq_false_iff.1 hvalid))))⟩,
      fun hl => ⟨fun hmask => hwriteIn (Dev.writeIn_part hl hmask), fun l hnew hmask =>
        ⟨fun d1 h1 => hwriteIn (Dev.writeIn_placed hl hmask hnew h1), fun h1 => hwriteIn (Dev.writeIn_waits hl hmask hnew h1)⟩⟩⟩
  case places =>
    refine ⟨fun d1 hroom => ?_, fun hmax hfull hno => Dev.allocLine_noQuota ?_, fun hdirty => if_pos hdirty,
      fun hclean => if_neg (Bool.eq_false_iff.1 hclean)⟩
    · have hquota : d.quotaRoom l.window = some d1 := by
        rcases hroom with ⟨hbelow, rfl⟩ | ⟨v, hmax, hfull, hv, rfl⟩
        · exact Dev.quotaRoom_below hbelow
        · rw [Dev.quotaRoom_full hmax hfull, hv]
          rfl
      refine ⟨fun hfree => ?_, fun hfull => ⟨fun v hv => ?_, fun hv => ?_⟩⟩
      · rw [Dev.allocLine_quota hquota, Dev.setRoom_free hfree]
        rfl
      · rw [Dev.allocLine_quota hquota, Dev.setRoom_full hfull, hv]
        rfl
      · rw [Dev.allocLine_quota hquota, Dev.setRoom_full hfull, hv]
        rfl
    · rw [Dev.quotaRoom_full hmax hfull, hno]
      rfl
  case misses =>
    subst hblock
    exact ⟨Dev.missWait_full, fun d1 hplaced => ⟨fun f hf => Dev.missWait_joins hplaced hf,
      fun d2 h2 hf => Dev.missWait_starts hplaced h2 hf⟩⟩
  case late =>
    exact ⟨fun f x hf hx => runDev_next (f := fun d => d.readTimeout host tag) hd (Dev.readTimeout_filling hlate hf hx),
      fun w x hf hx hw => runDev_next (f := fun d => d.readTimeout host tag) hd (Dev.readTimeout_blocked hlate hf hx hw)⟩
  case expires =>
    have hwb := (Dev.wbExpiry_due hl hdirty hdue).trans (Dev.startWb_dirty hl hdirty)
    exact ⟨fun hruns => runDev_next (f := fun d => d.wbExpiry w line) hd (hwb.trans (if_pos hruns)),
      fun hruns => runDev_next (f := fun d => d.wbExpiry w line) hd (hwb.trans (if_neg (Bool.eq_false_iff.1 hruns)))⟩
  case sends =>
    exact ⟨fun hheld => (Dev.sendFill_unsent hs).trans (if_pos hheld),
      fun hfree => (Dev.sendFill_unsent hs).trans (if_neg (Bool.eq_false_iff.1 hfree))⟩
  case arrives =>
    have hnow : d1.now = d.now := h1 ▸ Dev.setAdv_now d _ _
    have hcounted : m' = m.counted p.hdr d1.now := by
      rw [hm', hnow]
      rfl
    have hrun := (Dev.getRespArrive_named hcrc hok h1 hm (.inr hty)).trans (Dev.getRespRun_fill {} hnew hlen hty)
    rw [hcounted]
    exact ⟨fun hb => runDev_ofType hd ht (hrun.trans (Dev.countGet_more _ hb)),
      fun hb => runDev_ofType hd ht (hrun.trans (Dev.countGet_last _ hb))⟩
  case fillEnds =>
    refine ⟨fun hs hst => (Dev.fillEnd_stale hf h1 hs).trans ?_, fun hs hst => (Dev.fillEnd_stale hf h1 hs).trans ?_,
      fun hs hst => (Dev.fillEnd_current hf h1 hs).trans ?_, fun hs hst => (Dev.fillEnd_current hf h1 hs).trans ?_⟩
    · exact if_pos (decide_eq_true hst)
    · exact if_neg (Bool.eq_false_iff.1 (decide_eq_false hst))
    · rw [if_pos hst]
    · rw [if_neg hst]
  case wbEnds =>
    refine ⟨fun l l' d3 hst hl hl' h3 => (Dev.wbEnd_ok_cached h1 hst hl hl').trans ?_,
      Dev.wbEnd_ok_gone h1, Dev.wbEnd_failed_active h1 h2, Dev.wbEnd_failed_draining h1 h2, Dev.wbEnd_failed_fenced h1 h2⟩
    rcases h3 with ⟨hno, rfl⟩ | ⟨hagain, rfl⟩
    · rw [hno]
      rfl
    · rw [if_pos hagain]
  case drained =>
    have hdone := Dev.drainDone_due huse hwbs hlines h1
    refine ⟨fun hok => runDev_next (f := fun d => d.drainDone w) hd (hdone.trans ?_),
      fun hfailed => runDev_next (f := fun d => d.drainDone w) hd (hdone.trans ?_)⟩
    · rw [hok]
      rfl
    · rw [hfailed, h1]
      rfl
  case home =>
    have harrive : d.arrive p = forEach (upFrom 0 (packetsOf (hReqLen p.hdr))) (Dev.sendGetResp p.hdr p.tc read pieces) d2 := calc
      d.arrive p = d.contextThen p (fun d => d.admitArrival p) := Dev.arrive_read ht hcrc hok hs hage
      _ = d1.admitArrival p := (Dev.contextThen_read ht _ hc hdie).trans (by rw [h1])
      _ = d1.performGet none p {} := Dev.admitArrival_read hserves hearly hprev hless hnone
      _ = _ := Dev.performGet_sends ha heval hnone h2
    exact ⟨fun htype => runDev_ofType hd htype harrive, fun _ => runDev_next (f := fun d => d.arrive p) hd harrive⟩

end Sys2Proof.Machine

/-! SUPPORT. Software commands of remote windows: FN_WN_CMD and WN_WIN_CMD (R338, R340). -/

namespace Sys2Proof.Machine

section
variable {d : Dev}

/-! ### FN_WN_CMD (R338) -/

/-- A host's write of FN_WN_CMD is a flush command. -/
theorem Dev.fnWrite_wnCmd {h v : Nat} (hv : v < 2 ^ 64) : d.fnWrite h rFnWnCmd 0 v = d.wnCommand h v :=
  Dev.fnWrite_does pageReg_fnWnCmd hv

section
variable {h v : Nat}

/-- A flush command while one runs is dropped. -/
theorem Dev.wnCommand_busy (hbusy : (Tbl.get {} d.wn.flush h).busy = true) : d.wnCommand h v = d.raise evWnCmdDropped h := by
  simp only [Dev.wnCommand, hbusy, if_true]

section
variable (hidle : (Tbl.get {} d.wn.flush h).busy = false)
include hidle

/-- SCOPE 0 flushes the range of FN_WN_START and FN_WN_LEN. -/
theorem Dev.wnCommand_range (hscope : field v 0 2 = 0) : d.wnCommand h v = d.startFlush h (field v 32 16) (flag v 2)
    (fun l => d.winServes l.window h && d.inHostRange h (d.rd rFnWnStart 0 h) (d.rd rFnWnLen 0 h) l) := by
  simp only [Dev.wnCommand, hidle, hscope, Bool.false_eq_true, if_false]

/-- SCOPE 1 flushes one window, of those that serve the host. -/
theorem Dev.wnCommand_window (hscope : field v 0 2 = 1) : d.wnCommand h v =
    if d.winServes (field v 8 8) h then d.startFlush h (field v 32 16) (flag v 2) (fun l => l.window == field v 8 8)
    else d.raise evWnCmdDropped h := by
  simp only [Dev.wnCommand, hidle, hscope, Bool.false_eq_true, if_false]

/-- SCOPE 2 flushes every window that serves the host. -/
theorem Dev.wnCommand_function (hscope : field v 0 2 = 2) : d.wnCommand h v =
    d.startFlush h (field v 32 16) (flag v 2) (fun l => d.winServes l.window h) := by
  simp only [Dev.wnCommand, hidle, hscope, Bool.false_eq_true, if_false]

end

end

/-! ### WN_WIN_CMD (R340) -/

/-- A core's write of WN_WIN_CMD acts on the selected window. -/
theorem Dev.coreWrite_wnWinCmd {v : Nat} (hp : 9 ≤ d.bt.phase) (hv : v < 2 ^ 32) : d.coreWrite rWnWinCmd 0 v = d.wnCmdWrite v :=
  Dev.coreWrite_does hp rWnWinCmd (by decide) hv (by decide) rfl

section
variable {v : Nat}

/-- Its actions, by their number. -/
theorem Dev.wnCmdWrite_enable (h : field v 0 2 = 1) : d.wnCmdWrite v = d.winEnable (d.fld rWnWinSel 0 8) := by
  simp only [Dev.wnCmdWrite, h]
theorem Dev.wnCmdWrite_disable (h : field v 0 2 = 2) : d.wnCmdWrite v = d.winDisable (d.fld rWnWinSel 0 8) := by
  simp only [Dev.wnCmdWrite, h]
theorem Dev.wnCmdWrite_flush (h : field v 0 2 = 3) : d.wnCmdWrite v = d.winFlush (d.fld rWnWinSel 0 8) := by
  simp only [Dev.wnCmdWrite, h]

end

section
variable {w : Nat}

/-- DISABLE drains an ACTIVE window. -/
theorem Dev.winDisable_active (h : (d.win w).use = .active) : d.winDisable w =
    (((d.setWin w { use := .draining }).endWaits w).flushLines (fun l => l.window == w)).wnUnblock := by
  simp only [Dev.winDisable, h]

/-- It turns a FENCED one OFF. -/
theorem Dev.winDisable_fenced (h : (d.win w).use = .fenced) : d.winDisable w = (d.setWin w {}).clearFence .window w := by
  simp only [Dev.winDisable, h]

/-- It refuses any other. -/
theorem Dev.winDisable_refused (h : (d.win w).use = .off ∨ (d.win w).use = .draining) : d.winDisable w = d.winRefuse w 1 := by
  rcases h with h | h <;> simp only [Dev.winDisable, h]

end

end

/-- Settles O45: a flush command by its scope, and a window command by its action and the state of the window. -/
theorem windowCommands : Obligations.WindowCommands := by
  refine ⟨fun s d h v hd hv => ?flush, fun s d v w hd hp hv hw => ?window,
    fun d d1 h seq inv p lines hlines h1 => by subst h1 hlines; rfl, fun d p => rfl, fun d w line l hl hdirty => ?writeBack,
    fun d w => rfl⟩
  case flush =>
    have hrun {E : Dev} (h1 : d.wnCommand h v = E) : runDev s (fun d => d.fnWrite h rFnWnCmd 0 v) = .next (s.after E) :=
      runDev_next hd ((Dev.fnWrite_wnCmd hv).trans h1)
    exact ⟨fun hbusy => ⟨hrun (Dev.wnCommand_busy hbusy), hrun (Dev.wnCommand_busy hbusy), hrun (Dev.wnCommand_busy hbusy)⟩,
      fun hidle => ⟨fun hscope => hrun (Dev.wnCommand_range hidle hscope),
        fun hscope hserves => hrun ((Dev.wnCommand_window hidle hscope).trans (if_pos hserves)),
        fun hscope hno => hrun ((Dev.wnCommand_window hidle hscope).trans (if_neg (Bool.eq_false_iff.1 hno))),
        fun hscope => hrun (Dev.wnCommand_function hidle hscope)⟩⟩
  case window =>
    subst hw
    have hrun {E : Dev} (h1 : d.wnCmdWrite v = E) : runDev s (fun d => d.coreWrite rWnWinCmd 0 v) = .next (s.after E) :=
      runDev_next hd ((Dev.coreWrite_wnWinCmd hp hv).trans h1)
    refine ⟨fun hop => ⟨fun hok => hrun ((Dev.wnCmdWrite_enable hop).trans (if_pos hok)),
        fun c hc hne => hrun ((Dev.wnCmdWrite_enable hop).trans ?_)⟩,
      fun hop => ⟨fun huse => hrun ((Dev.wnCmdWrite_disable hop).trans (Dev.winDisable_active huse)),
        fun huse => hrun ((Dev.wnCmdWrite_disable hop).trans (Dev.winDisable_fenced huse)),
        fun huse => hrun ((Dev.wnCmdWrite_disable hop).trans (Dev.winDisable_refused huse))⟩,
      fun hop => ⟨fun huse => hrun ((Dev.wnCmdWrite_flush hop).trans (if_pos huse)),
        fun huse => hrun ((Dev.wnCmdWrite_flush hop).trans (if_neg huse))⟩⟩
    subst hc
    exact if_neg hne
  case writeBack =>
    exact ⟨fun hruns => (Dev.startWb_dirty hl hdirty).trans (if_pos hruns),
      fun hno => (Dev.startWb_dirty hl hdirty).trans (if_neg (Bool.eq_false_iff.1 hno))⟩

end Sys2Proof.Machine

/-! SUPPORT. Slots and feed groups: trips, power-good, commands and the pin, feeds, and the group's trip and its clearing (R346 to R359). -/

namespace Sys2Proof.Machine

section
variable {d : Dev} {k : Nat}

/-! ### Trips and power-good (R347 to R352, R354) -/

/-- The gates of a slot that this device owns are its own, unless the slot stands by or the pumps are released. -/
theorem Dev.drives_owned (howned : (d.slot k).owned = true) (hpumps : d.sp.released = false) (huse : (d.slot k).use ≠ .standby) :
    d.drives k = true := by
  simp only [Dev.drives, howned, hpumps, huse, ne_eq, not_false_eq_true, decide_true, Bool.not_false, Bool.and_self]

/-- Otherwise it does not drive them. -/
theorem Dev.drives_not (h : (d.slot k).owned = false ∨ (d.slot k).use = .standby ∨ d.sp.released = true) :
    d.drives k = false := by
  unfold Dev.drives
  rcases h with h | h | h <;> simp only [h, Bool.false_and, Bool.and_false, ne_eq, not_true_eq_false, decide_false, Bool.not_true]

section
variable (hdrives : d.drives k = true)
include hdrives

/-- An overcurrent trips a slot whose gate is on. -/
theorem Dev.overcurrent_trips (huse : (d.slot k).use = .ramp ∨ (d.slot k).use = .on ∨ (d.slot k).use = .warnWait) :
    d.overcurrent k = d.slotTrip k 1 := by
  unfold Dev.overcurrent
  rcases huse with h | h | h <;> simp only [h, hdrives, if_true]

/-- Current with the gate off trips a slot. -/
theorem Dev.gateFault_trips (huse : (d.slot k).use = .off ∨ (d.slot k).use = .latched) : d.gateFault k = d.slotTrip k 4 := by
  unfold Dev.gateFault
  rcases huse with h | h <;> simp only [h, hdrives, if_true]

/-- The output of a slot reaches power-good, unless a fault of the same cycle wins. -/
theorem Dev.slotOn_reached {fault : Nat} (huse : (d.slot k).use = .ramp ∨ ((d.slot k).use = .on ∧ (d.slot k).pg = false)) :
    d.slotOn k fault = if fault = 0 then
      (if (d.slot k).use = .on then d.setSlot k { d.slot k with pg := true }
        else (d.setSlot k { d.slot k with pg := true }).slotTo k .on).raise evSpSlotOn k
    else (d.slotTrip k fault).raise evSpPgRefused k :=
  if_pos ⟨huse, hdrives⟩

end

/-- Power-good that stands is retracted. -/
theorem Dev.retractPg_pg (h : (d.slot k).pg = true) : d.retractPg k =
    ((d.setSlot k { d.slot k with pg := false, pulseEnd := d.st.boundaries + 99 }).raise evSpPgRetracted k).slotLost k :=
  if_pos h

/-- A slot without it is left alone. -/
theorem Dev.retractPg_none (h : (d.slot k).pg = false) : d.retractPg k = d := if_neg (Bool.eq_false_iff.1 h)

/-! ### Wanted slots (R346, R352, R353) -/

/-- A slot that is not OFF, not owned, not wanted or held does not ramp. -/
theorem Dev.tryRamp_not (h : (d.slot k).use ≠ .off ∨ (d.slot k).owned = false ∨ d.slotWanted k = false ∨ d.bt.slotsHeld = true) :
    d.tryRamp k = d := by
  refine if_neg ?_
  rintro ⟨huse, howned, hwanted, hheld⟩
  rcases h with h | h | h | h
  · exact h huse
  · exact absurd howned (by rw [h]; decide)
  · exact absurd hwanted (by rw [h]; decide)
  · exact absurd hheld (by rw [h]; decide)

/-- A slot that is on and no longer wanted turns off, or warns first. -/
theorem Dev.slotUnwanted_leaves (huse : (d.slot k).use = .ramp ∨ (d.slot k).use = .on) (hwanted : d.slotWanted k = false)
    (hheld : d.bt.slotsHeld = false) :
    d.slotUnwanted k = if d.fld rSpCtl 0 8 = 0 then d.slotToOff k else (d.retractPg k).slotTo k .warnWait :=
  if_pos ⟨huse, hwanted, hheld⟩

/-- Any other is left alone. -/
theorem Dev.slotUnwanted_not (h : ((d.slot k).use ≠ .ramp ∧ (d.slot k).use ≠ .on) ∨ d.slotWanted k = true ∨
    d.bt.slotsHeld = true) : d.slotUnwanted k = d := by
  refine if_neg ?_
  rintro ⟨huse, hwanted, hheld⟩
  rcases h with ⟨hramp, hon⟩ | h | h
  · exact huse.elim hramp hon
  · exact absurd hwanted (by rw [h]; decide)
  · exact absurd hheld (by rw [h]; decide)

/-- The release of the pin toggles the enable of a slot in PIN_MODE. -/
theorem Dev.slotPin_high {d1 : Dev} (h1 : d1 = d.setSlot k { d.slot k with pinEn := false }) :
    d.slotPin k false = if d1.slotPinMode k = true then (d1.slotToggle k).slotUnwanted k else d1 := by
  subst h1
  simp only [Dev.slotPin, Bool.false_eq_true, if_false]

/-! ### SP_SLOT_CTL (R346, R352, R353, R361) -/

section
variable {v : Nat} (hp : 9 ≤ d.bt.phase) (hk : k < 32) (hv : v < 2 ^ 32)
include hp hk hv

/-- A core's write for a slot of the twin is refused. -/
theorem Dev.coreWrite_spSlotCtl_refused (howned : (d.slot k).owned = false) :
    d.coreWrite rSpSlotCtl k v = d.emit .applyRefused :=
  (Dev.coreWrite_running hp rSpSlotCtl (by exact hk) hv).trans (Dev.regWrite_refused (.inr howned))

/-- A core's write for an own slot acts. -/
theorem Dev.coreWrite_spSlotCtl (howned : (d.slot k).owned = true) : d.coreWrite rSpSlotCtl k v =
    if flag v 1 then d.slotOffNow k (flag v 0) else d.slotCmd k (flag v 0) :=
  Dev.coreWrite_does hp rSpSlotCtl (by exact hk) hv (by decide) howned

end

section
variable (howned : (d.slot k).owned = true)
include howned

/-- CMD_EN 1 lets a wanted slot ramp. -/
theorem Dev.slotCmd_on : d.slotCmd k true = ((d.wrFld rSpSlotCtl 0 1 1 k).tryRamp k).mirrorSp (0x1010 + 64 * k) 1 :=
  if_pos howned

/-- CMD_EN 0 toggles the enable where it was 1. -/
theorem Dev.slotCmd_off : d.slotCmd k false =
    (if d.slotCmdEn k = true then ((d.wrFld rSpSlotCtl 0 1 0 k).slotToggle k).slotUnwanted k
      else d.wrFld rSpSlotCtl 0 1 0 k).mirrorSp (0x1010 + 64 * k) 0 :=
  if_pos howned

/-- OFF_NOW pulls the gate off, and toggles the enable where CMD_EN falls with it. -/
theorem Dev.slotOffNow_owned {en : Bool} : d.slotOffNow k en =
    (if (d.slotCmdEn k && !en) = true then (d.offNow k).slotToggle k else d.offNow k).mirrorSp (0x1010 + 64 * k) (2 + bit en) :=
  if_pos howned

end

/-- OFF_NOW turns a slot off whose gate is on. -/
theorem Dev.offNow_gateOn (huse : (d.slot k).use = .ramp ∨ (d.slot k).use = .on ∨ (d.slot k).use = .warnWait) :
    d.offNow k = (d.wrFld rSpSlotCtl 0 1 0 k).slotToOff k := by
  have hslot : (d.wrFld rSpSlotCtl 0 1 0 k).slot k = d.slot k := rfl
  rcases huse with h | h | h <;> simp only [Dev.offNow, hslot, h]

/-- It only clears CMD_EN of any other. -/
theorem Dev.offNow_gateOff (huse : (d.slot k).use = .off ∨ (d.slot k).use = .latched ∨ (d.slot k).use = .standby) :
    d.offNow k = d.wrFld rSpSlotCtl 0 1 0 k := by
  have hslot : (d.wrFld rSpSlotCtl 0 1 0 k).slot k = d.slot k := rfl
  rcases huse with h | h | h <;> simp only [Dev.offNow, hslot, h]

end

/-- Settles O46: a trip where the slot is driven in the state that its protection watches, and a command by CMD_EN and OFF_NOW. -/
theorem slotsSwitch : Obligations.SlotsSwitch := by
  refine ⟨fun s d d1 k reason x hd howned hpumps h1 hx e he => ?trips,
    fun s d k hd h => runDev_next (f := fun d => d.shortTrip k) hd (if_neg (Bool.eq_false_iff.1 (Dev.drives_not h))),
    fun s d k x hd hx howned hpumps => ?on, fun s d d1 k x hd hx hpg h1 => ?uv,
    fun s d k hd huse hheld => runDev_next (f := fun d => d.warnExpiry k) hd (if_pos ⟨huse, hheld⟩),
    fun s d d1 k hd => ⟨fun h1 => by subst h1; exact runDev_next (f := fun d => d.slotPin k true) hd rfl, fun h1 => ?pin⟩,
    fun s d d1 k v hd hp hk hv => ?control, fun d k => ?parts⟩
  case trips =>
    have htrip : d.slotTrip k reason = e := by
      subst he hx h1
      rfl
    have hdrives (h : (d.slot k).use ≠ .standby) : d.drives k = true := Dev.drives_owned howned hpumps h
    refine ⟨fun hr huse => ?_, fun hr huse => ?_, fun hr huse => ?_, fun hr huse => ?_, fun huse hr => ?_⟩
    · have hno : (d.slot k).use ≠ .standby := by rcases huse with h | h | h <;> rw [h] <;> decide
      exact runDev_next (f := fun d => d.overcurrent k) hd ((Dev.overcurrent_trips (hdrives hno) huse).trans (hr ▸ htrip))
    · exact runDev_next (f := fun d => d.shortTrip k) hd ((if_pos (hdrives huse)).trans (hr ▸ htrip))
    · have hno : (d.slot k).use ≠ .standby := by rw [huse]; decide
      exact runDev_next (f := fun d => d.rampTimeout k) hd ((if_pos ⟨huse, hdrives hno⟩).trans (hr ▸ htrip))
    · have hno : (d.slot k).use ≠ .standby := by rcases huse with h | h <;> rw [h] <;> decide
      exact runDev_next (f := fun d => d.gateFault k) hd ((Dev.gateFault_trips (hdrives hno) huse).trans (hr ▸ htrip))
    · have hno : (d.slot k).use ≠ .standby := by rcases huse with h | ⟨h, -⟩ <;> rw [h] <;> decide
      refine runDev_next (f := fun d => d.slotOn k reason) hd ((Dev.slotOn_reached (hdrives hno) huse).trans ?_)
      rw [if_neg hr, htrip]
  case on =>
    subst hx
    refine ⟨fun huse => ?_, fun huse hpg => ?_⟩
    · have hdrives := Dev.drives_owned howned hpumps (by rw [huse]; decide)
      refine runDev_next (f := fun d => d.slotOn k 0) hd ((Dev.slotOn_reached hdrives (.inl huse)).trans ?_)
      rw [if_pos rfl, if_neg (by rw [huse]; decide)]
    · have hdrives := Dev.drives_owned howned hpumps (by rw [huse]; decide)
      refine runDev_next (f := fun d => d.slotOn k 0) hd ((Dev.slotOn_reached hdrives (.inr ⟨huse, hpg⟩)).trans ?_)
      rw [if_pos rfl, if_pos huse]
  case uv =>
    subst hx h1
    exact runDev_next (f := fun d => d.outputUv k) hd ((if_pos hpg).trans (by rw [Dev.retractPg_pg hpg]))
  case pin =>
    exact ⟨fun hmode => runDev_next (f := fun d => d.slotPin k false) hd ((Dev.slotPin_high h1).trans (if_pos hmode)),
      fun hmode => runDev_next (f := fun d => d.slotPin k false) hd
        ((Dev.slotPin_high h1).trans (if_neg (Bool.eq_false_iff.1 hmode)))⟩
  case control =>
    have hrun {E : Dev} (h : d.coreWrite rSpSlotCtl k v = E) :
        runDev s (fun d => d.coreWrite rSpSlotCtl k v) = .next (s.after E) := runDev_next hd h
    have hcmd (howned : (d.slot k).owned = true) (hoff : flag v 1 = false) :
        d.coreWrite rSpSlotCtl k v = d.slotCmd k (flag v 0) :=
      (Dev.coreWrite_spSlotCtl hp hk hv howned).trans (if_neg (Bool.eq_false_iff.1 hoff))
    refine ⟨fun hno => ⟨hrun (Dev.coreWrite_spSlotCtl_refused hp hk hv hno), hrun (Dev.coreWrite_spSlotCtl_refused hp hk hv hno)⟩,
      fun howned hoff hen h1 => hrun ?_, fun howned hoff hen hwas h1 => hrun ?_, fun howned hoff hen hwas => hrun ?_,
      fun howned hoff huse => ?_⟩
    · rw [hcmd howned hoff, hen, Dev.slotCmd_on howned, h1]
    · rw [hcmd howned hoff, hen, Dev.slotCmd_off howned, if_pos hwas, h1]
    · rw [hcmd howned hoff, hen, Dev.slotCmd_off howned, if_neg (Bool.eq_false_iff.1 hwas)]
    · have hd1 : d.offNow k = d1 := by
        rcases huse with ⟨huse, rfl⟩ | ⟨huse, rfl⟩
        · exact Dev.offNow_gateOn huse
        · exact Dev.offNow_gateOff huse
      have hwrite : d.coreWrite rSpSlotCtl k v =
          (if (d.slotCmdEn k && !flag v 0) = true then d1.slotToggle k else d1).mirrorSp (0x1010 + 64 * k) (2 + bit (flag v 0)) := by
        rw [Dev.coreWrite_spSlotCtl hp hk hv howned, if_pos hoff, Dev.slotOffNow_owned howned, hd1]
      refine ⟨fun hkeeps => hrun ?_, fun hfalls => hrun ?_⟩
      · rw [hwrite, if_neg (Bool.eq_false_iff.1 hkeeps)]
      · have hen : flag v 0 = false := by
          simpa using (Bool.and_eq_true_iff.1 hfalls).2
        rw [hwrite, if_pos hfalls, hen]
        rfl
  case parts =>
    exact ⟨Dev.retractPg_pg, Dev.retractPg_none, fun huse howned hwanted hheld => if_pos ⟨huse, howned, hwanted, hheld⟩,
      Dev.tryRamp_not, rfl, fun huse hwanted hheld =>
        ⟨fun hlead => (Dev.slotUnwanted_leaves huse hwanted hheld).trans (if_pos hlead),
          fun hlead => (Dev.slotUnwanted_leaves huse hwanted hheld).trans (if_neg hlead)⟩,
      Dev.slotUnwanted_not, fun huse => if_pos huse, fun huse => if_neg huse,
      fun offset value => ⟨fun hon => if_pos hon, fun hoff => if_neg (Bool.eq_false_iff.1 hoff)⟩⟩

section
variable {d : Dev}

/-! ### Feeds and groups (R355, R356, R358, R359) -/

/-- A measurement with a feed off, of the twin's group, or near the share, sets no trim. -/
theorem Dev.feedTrim_keeps {g iA iB : Nat} {x : SpGroup}
    (hx : x = { d.group g with iA := iA, iB := iB, share := shareNow iA iB })
    (h : d.bulkA g = false ∨ d.bulkB g = false ∨ x.owned = false ∨ points (shareNow iA iB) (d.shareA g) ≤ 5) :
    d.feedTrim g iA iB = d.setGroup g x := by
  have hno : (d.bulkA g && d.bulkB g && x.owned && decide (5 < points (shareNow iA iB) (d.shareA g))) = false := by
    rcases h with h | h | h | h
    · rw [h, Bool.false_and, Bool.false_and, Bool.false_and]
    · rw [h, Bool.and_false, Bool.false_and, Bool.false_and]
    · rw [h, Bool.and_false, Bool.false_and]
    · rw [decide_eq_false (Nat.not_lt.2 h), Bool.and_false]
  subst hx
  exact if_neg (Bool.eq_false_iff.1 hno)

/-- Any other trims the feed above its share. -/
theorem Dev.feedTrim_trims {g iA iB : Nat} {x : SpGroup}
    (hx : x = { d.group g with iA := iA, iB := iB, share := shareNow iA iB }) (hA : d.bulkA g = true) (hB : d.bulkB g = true)
    (howned : x.owned = true) (hfar : 5 < points (shareNow iA iB) (d.shareA g)) : d.feedTrim g iA iB =
      if d.shareA g < shareNow iA iB then
        d.setGroup g { x with trimA := min 250 (x.trimA + Config.feedTrim iA iB (d.shareA g)), trimB := 0 }
      else d.setGroup g { x with trimB := min 250 (x.trimB + Config.feedTrim iA iB (d.shareA g)), trimA := 0 } := by
  have hyes : (d.bulkA g && d.bulkB g && x.owned && decide (5 < points (shareNow iA iB) (d.shareA g))) = true := by
    rw [hA, hB, howned, decide_eq_true hfar]
    rfl
  subst hx
  exact if_pos hyes

/-- The group trips once, where it is enabled and owned. -/
theorem Dev.groupTrip_trips {g : Nat} (hen : flag (d.rd rSpFgCfg g) 38 = true) (howned : (d.group g).owned = true)
    (hnew : (d.group g).latched = false) :
    d.groupTrip g = ((d.setGroup g { d.group g with latched := true }).latchSp g true 5).raise evSpFeedGroupTrip g := by
  refine if_pos ?_
  rw [hen, howned, hnew]
  rfl

section
variable {g v : Nat} (hp : 9 ≤ d.bt.phase) (hg : g < 4) (hv : v < 2 ^ 32)
include hp hg hv

/-- A core's write of SP_FG_CTL for a group of the twin is refused. -/
theorem Dev.coreWrite_spFgCtl_refused (howned : (d.group g).owned = false) : d.coreWrite rSpFgCtl g v = d.emit .applyRefused :=
  (Dev.coreWrite_running hp rSpFgCtl (by exact hg) hv).trans (Dev.regWrite_refused (.inr howned))

/-- A core's write for an own group clears its latch where CLEAR is 1. -/
theorem Dev.coreWrite_spFgCtl (howned : (d.group g).owned = true) :
    d.coreWrite rSpFgCtl g v = if flag v 0 then d.groupClear g else d :=
  Dev.coreWrite_does hp rSpFgCtl (by exact hg) hv (by decide) howned

end

end

/-- Settles O47: each operation by the feed, and by the state of the slot or group. -/
theorem feedsAndGroups : Obligations.FeedsAndGroups := by
  refine ⟨fun s d g x hd hx => ?feeds, fun s d k x hd hx => ?slots, fun s d g iA iB x hd hx => ?trim,
    fun iA iB h => if_neg h, fun s d g x hd hx => ?group, fun s d g v hd hp hg hv => ?clear⟩
  case feeds =>
    subst hx
    refine ⟨fun hA => runDev_next (f := fun d => d.feedLost g false) hd ?_,
      fun hB => runDev_next (f := fun d => d.feedLost g true) hd ?_,
      fun hA => runDev_next (f := fun d => d.feedLost g false) hd ?_,
      fun hB => runDev_next (f := fun d => d.feedLost g true) hd ?_,
      runDev_next (f := fun d => d.oringReverse true g false) hd rfl,
      runDev_next (f := fun d => d.oringReverse true g true) hd rfl,
      runDev_next (f := fun d => d.feedRestored g false) hd rfl,
      runDev_next (f := fun d => d.feedRestored g true) hd rfl⟩
    · simp only [Dev.feedLost, hA, Bool.false_eq_true, if_false, Bool.not_false, Dev.raiseIf, if_true]
    · simp only [Dev.feedLost, hB, if_true, Bool.not_false, Dev.raiseIf]
    · simp only [Dev.feedLost, hA, Bool.false_eq_true, if_false, Bool.not_true, Dev.raiseIf]
    · simp only [Dev.feedLost, hB, if_true, Bool.not_true, Bool.false_eq_true, if_false, Dev.raiseIf]
  case slots =>
    subst hx
    exact ⟨runDev_next (f := fun d => d.oringReverse false k false) hd rfl,
      runDev_next (f := fun d => d.oringReverse false k true) hd rfl,
      fun hwarned => runDev_next (f := fun d => d.inputWarn k) hd (if_pos hwarned),
      fun hnew => runDev_next (f := fun d => d.inputWarn k) hd (if_neg (Bool.eq_false_iff.1 hnew))⟩
  case trim =>
    exact ⟨fun h => runDev_next (f := fun d => d.feedTrim g iA iB) hd (Dev.feedTrim_keeps hx h), fun hA hB howned hfar =>
      ⟨fun hover => runDev_next (f := fun d => d.feedTrim g iA iB) hd
          ((Dev.feedTrim_trims hx hA hB howned hfar).trans (if_pos hover)),
        fun hunder => runDev_next (f := fun d => d.feedTrim g iA iB) hd
          ((Dev.feedTrim_trims hx hA hB howned hfar).trans (if_neg (Nat.not_lt.2 hunder)))⟩⟩
  case group =>
    subst hx
    exact ⟨fun hrun => runDev_next (f := fun d => d.feedImbalance g) hd (if_pos hrun),
      fun hen howned hnew => runDev_next (f := fun d => d.groupTrip g) hd (Dev.groupTrip_trips hen howned hnew)⟩
  case clear =>
    have hrun {E : Dev} (h : d.coreWrite rSpFgCtl g v = E) : exec (.feedGroupClear g v) s = .next (s.after E) :=
      runDev_next (f := fun d => d.coreWrite rSpFgCtl g v) hd h
    exact ⟨fun hno => hrun (Dev.coreWrite_spFgCtl_refused hp hg hv hno),
      fun howned hoff => hrun ((Dev.coreWrite_spFgCtl hp hg hv howned).trans (if_neg (Bool.eq_false_iff.1 hoff))),
      fun howned hon => hrun ((Dev.coreWrite_spFgCtl hp hg hv howned).trans ((if_pos hon).trans (if_pos howned)))⟩

end Sys2Proof.Machine
/-! SUPPORT. Messages of a twin pair: heartbeats, mirror records and probes (R368 to R379). -/

namespace Sys2Proof.Machine

section
variable {d : Dev}

/-! ### Heartbeats (R368 to R372) -/

section
variable {p w : Nat} {ok : Bool}

/-- A heartbeat on a port that is not the twin port only shows the peer alive. -/
theorem Dev.bypHeartbeat_elsewhere {d1 : Dev} (h1 : d1 = d.noteHeard p (heartbeatOk w)) (hport : d1.isTwin p = false) :
    d.bypHeartbeat p w ok = d1 := by
  subst h1; simp only [Dev.bypHeartbeat, hport, Bool.false_eq_true, if_false]

/-- The twin port is the port of a pair. -/
theorem Dev.pairEn_of_isTwin (hport : d.isTwin p = true) : d.pairEn = true := (Bool.and_eq_true_iff.1 hport).1

section
variable {d1 : Dev} (h1 : d1 = d.noteHeard p (heartbeatOk w)) (hport : d1.isTwin p = true)
include h1 hport

/-- On the twin port a heartbeat is read. -/
theorem Dev.bypHeartbeat_twin : d.bypHeartbeat p w ok = d1.heartbeatArrive w ok := by
  subst h1; simp only [Dev.bypHeartbeat, hport, if_true]

/-- A heartbeat with a bad form is reported. -/
theorem Dev.bypHeartbeat_malformed (hform : heartbeatOk w = false) :
    d.bypHeartbeat p w ok = d1.raise evTwHbMalformed d1.twinPort := by
  rw [Dev.bypHeartbeat_twin h1 hport]
  simp only [Dev.heartbeatArrive, Dev.pairEn_of_isTwin hport, hform, Bool.not_true, Bool.not_false, Bool.false_eq_true, if_false,
    if_true]

/-- A heartbeat of another device is latched and reported. -/
theorem Dev.bypHeartbeat_mismatch (hform : heartbeatOk w = true) (hpeer : field w 32 18 ≠ d1.peerNode ∨ field w 24 1 = d1.twinId) :
    d.bypHeartbeat p w ok = (d1.latchTw 1).raise evTwPeerMismatch d1.twinPort := by
  rw [Dev.bypHeartbeat_twin h1 hport]
  simp only [Dev.heartbeatArrive, Dev.pairEn_of_isTwin hport, hform, Bool.not_true, Bool.false_eq_true, if_false, if_pos hpeer]

/-- A good heartbeat clears the miss count and is read. -/
theorem Dev.bypHeartbeat_good (hform : heartbeatOk w = true) (hnode : field w 32 18 = d1.peerNode)
    (hid : field w 24 1 ≠ d1.twinId) : d.bypHeartbeat p w ok =
      ((({ d1 with tw := { d1.tw with heard := true, misses := 0, broken := false, peer := w } }).mirrorSlots
        w).takeAck (field w 416 32) |>.pairStep w ok) := by
  have hgood : ¬(field w 32 18 ≠ d1.peerNode ∨ field w 24 1 = d1.twinId) := fun h => h.elim (· hnode) hid
  rw [Dev.bypHeartbeat_twin h1 hport]
  simp only [Dev.heartbeatArrive, Dev.pairEn_of_isTwin hport, hform, Bool.not_true, Bool.false_eq_true, if_false, if_neg hgood]

end

/-- MIRROR_ACK is taken where it acknowledges more than before. -/
theorem Dev.takeAck_taken {ack : Nat} (hsent : seqLe ack d.tw.seqTx = true) (hnew : seqLe ack d.tw.ackRx = false) :
    d.takeAck ack = ({ d with tw := { d.tw with
      ackRx := ack, unacked := d.tw.unacked.filter (fun m => !(seqLe m.seq ack)) } }).owe .mirrorAcked := by
  simp only [Dev.takeAck, hsent, hnew, Bool.not_false, Bool.and_true, if_true]
theorem Dev.takeAck_old {ack : Nat} (h : seqLe ack d.tw.seqTx = false ∨ seqLe ack d.tw.ackRx = true) : d.takeAck ack = d := by
  rcases h with h | h <;> simp [Dev.takeAck, h]

end

/-! ### What a heartbeat does to the pair's state (R368, R369, R376, R379) -/

/-- The lease as a heartbeat with the peer's lease leaves it. -/
def Dev.leaseRead (d : Dev) (peer : Lease) : Dev :=
  if d.tw.primary && decide (primaryOf d.tw.lease peer ≠ d.twinId) then
    ((d.giveUpLease).latchTw 4).raise evTwLeaseLost 0 else d

/-- A heartbeat brings PROBING, SPLIT and SOLE back to FORMING. -/
def Dev.backToForming (d : Dev) : Dev :=
  match d.tw.state with
  | .probing => d.enterForming
  | .split => d.enterForming
  | .sole => d.enterForming
  | _ => d

theorem Dev.backToForming_eq : d.backToForming =
    if d.tw.state = .probing ∨ d.tw.state = .split ∨ d.tw.state = .sole then d.enterForming else d := by
  unfold Dev.backToForming
  cases h : d.tw.state <;> simp

/-- A heartbeat in PAIRED. -/
def Dev.pairedStep (d : Dev) (w : Nat) (peer : Lease) (ok : Bool) : Dev :=
  let d := d.takeGiven w
  if d.tw.primary = false ∧ d.tw.lease.term < peer.term ∧ peer.holder = d.twinId then
    ({ d.writeLease peer.term peer.holder ok with
      tw := { (d.writeLease peer.term peer.holder ok).tw with primary := true } }).raise evTwHandover 0
  else d

/-- The twins compare what SP_OWN gives them, once. -/
def Dev.compareOnce (d : Dev) (w : Nat) (peer : Lease) : Dev :=
  if d.tw.compared then d else
    let d := if d.tw.lease.term = peer.term then d.compareOwn (field w 320 32) (field w 352 4) (d.twinId == 0) else d
    { d with tw := { d.tw with compared := true } }

/-- The pair forms once a heartbeat has passed both ways. -/
def Dev.formOnce (d : Dev) (peer : Lease) (ok : Bool) : Dev := if d.tw.formed || !d.tw.issued then d else d.form peer ok

/-- A formed pair enters PAIRED: the primary as its twin has acknowledged its state, the standby as its twin shows PAIRED. -/
def Dev.pairOnce (d : Dev) (w : Nat) : Dev :=
  if !d.tw.formed then d
  else if d.tw.primary then
    (match d.tw.resyncSeq with
     | some seq => if seqLe seq d.tw.ackRx then
         (({ d with tw := { d.tw with resyncSeq := none } }).raise evTwResyncDone 0).enterPaired else d
     | none => d)
  else if field w 8 3 = 2 then d.enterPaired else d

/-- Which of these a heartbeat runs, by the state. -/
def Dev.stateStep (d : Dev) (w : Nat) (peer : Lease) (ok : Bool) : Dev :=
  match d.tw.state with
  | .forming => ((d.compareOnce w peer).formOnce peer ok).pairOnce w
  | .paired => d.pairedStep w peer ok
  | _ => d

theorem Dev.pairStep_eq {w : Nat} {ok : Bool} {peer : Lease} (hpeer : peer = ⟨field w 64 32, field w 96 1, true⟩) :
    d.pairStep w ok = ((d.leaseRead peer).backToForming).stateStep w peer ok := by
  subst hpeer; rfl

section
variable {w : Nat} {ok : Bool} {peer : Lease}

theorem Dev.stateStep_alone (h : d.tw.state = .alone) : d.stateStep w peer ok = d := by simp only [Dev.stateStep, h]
theorem Dev.stateStep_paired (h : d.tw.state = .paired) : d.stateStep w peer ok = d.pairedStep w peer ok := by
  simp only [Dev.stateStep, h]
theorem Dev.stateStep_forming (h : d.tw.state = .forming) :
    d.stateStep w peer ok = ((d.compareOnce w peer).formOnce peer ok).pairOnce w := by
  simp only [Dev.stateStep, h]

/-- A lease of a higher TERM that names this twin hands the primary role over. -/
theorem Dev.pairedStep_handover {d3 : Dev} (h3 : d3 = d.takeGiven w) (hnot : d3.tw.primary = false)
    (hterm : d3.tw.lease.term < peer.term) (hholder : peer.holder = d3.twinId) : d.pairedStep w peer ok =
      ({ d3.writeLease peer.term peer.holder ok with
        tw := { (d3.writeLease peer.term peer.holder ok).tw with primary := true } }).raise evTwHandover 0 := by
  subst h3; exact if_pos ⟨hnot, hterm, hholder⟩
theorem Dev.pairedStep_kept {d3 : Dev} (h3 : d3 = d.takeGiven w)
    (h : d3.tw.primary = true ∨ peer.term ≤ d3.tw.lease.term ∨ peer.holder ≠ d3.twinId) : d.pairedStep w peer ok = d3 := by
  subst h3
  refine if_neg fun ⟨hnot, hterm, hholder⟩ => ?_
  rcases h with h | h | h
  · exact Bool.false_ne_true (hnot.symm.trans h)
  · exact absurd hterm (Nat.not_lt.2 h)
  · exact h hholder

/-- What ends FORMING. -/
theorem Dev.pairOnce_unformed (h : d.tw.formed = false) : d.pairOnce w = d := by
  simp only [Dev.pairOnce, h, Bool.not_false, if_true]
theorem Dev.pairOnce_primary {seq : Nat} (hformed : d.tw.formed = true) (hprimary : d.tw.primary = true)
    (hseq : d.tw.resyncSeq = some seq) : d.pairOnce w = if seqLe seq d.tw.ackRx then
      (({ d with tw := { d.tw with resyncSeq := none } }).raise evTwResyncDone 0).enterPaired else d := by
  simp only [Dev.pairOnce, hformed, hprimary, hseq, Bool.not_true, Bool.false_eq_true, if_false, if_true]
theorem Dev.pairOnce_standby (hformed : d.tw.formed = true) (hstandby : d.tw.primary = false) :
    d.pairOnce w = if field w 8 3 = 2 then d.enterPaired else d := by
  simp only [Dev.pairOnce, hformed, hstandby, Bool.not_true, Bool.false_eq_true, if_false]

end

/-- The twins form a pair: the winner of the leases is primary and sends its state. -/
theorem Dev.form_eq {d1 d2 d3 : Dev} {peer : Lease} {ok : Bool} {win term : Nat} (hwin : win = primaryOf d.tw.lease peer)
    (hterm : term = if d.tw.lease.term = peer.term then d.tw.lease.term + 1 else max d.tw.lease.term peer.term)
    (h1 : d1 = if !decide (win = d.twinId) && decide (d.tw.lease.term < peer.term) then d.allStandby else d)
    (h2 : d2 = if d.tw.lease.valid && d.tw.lease.term == term && d.tw.lease.holder == win then d1 else d1.writeLease term win ok)
    (h3 : d3 = (({ d2 with tw := { d2.tw with
      primary := decide (win = d.twinId), formed := true, seqTx := 0, seqRx := 0, ackRx := 0, unacked := [], heldRecs := [],
      applied := [], undo := [], resync := [] } }).reforward).owe .mirrorAcked) :
    d.form peer ok = if decide (win = d.twinId) then d3.sendResync else d3 := by
  subst h3 h2 h1 hterm hwin; rfl

/-- A state of the pair that it is not in is entered. -/
theorem Dev.twTo_new {t : TwState} (h : d.tw.state ≠ t) :
    d.twTo t = { d with tw := { d.tw with state := t, since := d.now, entered := d.st.boundaries } } := if_neg h

/-! ### Mirror records (R373 to R376) -/

section
variable {p w : Nat} {d1 : Dev} (h1 : d1 = d.noteHeard p true)
include h1

/-- A mirror record on a port that is not the twin port only shows the peer alive. -/
theorem Dev.bypMirror_elsewhere (hport : d1.isTwin p = false) : d.bypMirror p w = d1 := by
  subst h1; simp only [Dev.bypMirror, hport, Bool.false_eq_true, if_false]

section
variable (hport : d1.isTwin p = true) {m : Mirror} (hm : m = mirrorOf w)
include hport hm

/-- A record out of order is discarded. -/
theorem Dev.bypMirror_gap (hseq : m.seq ≠ (d1.tw.seqRx + 1) % 2 ^ 32) :
    d.bypMirror p w = d1.raise evTwMirrorGap d1.twinPort := by
  subst h1 hm
  simp only [Dev.bypMirror, hport, Dev.mirrorArrive, Dev.pairEn_of_isTwin hport, Bool.not_true, Bool.false_eq_true, if_false,
    if_true, if_pos hseq]

/-- The next one is taken: KIND 8 cancels, another is held until its tick, or applies. -/
theorem Dev.bypMirror_next {d2 : Dev} (hseq : m.seq = (d1.tw.seqRx + 1) % 2 ^ 32)
    (h2 : d2 = { d1 with tw := { d1.tw with seqRx := m.seq } }) : d.bypMirror p w =
      if m.kind = 8 then d2.mirrorUndo (field m.payload 0 32)
      else if d1.tw.state = .probing ∨ d1.now < m.tick then { d2 with tw := { d2.tw with heldRecs := d2.tw.heldRecs ++ [m] } }
      else d2.mirrorDo m := by
  subst h2 h1 hm
  simp only [Dev.bypMirror, hport, Dev.mirrorArrive, Dev.pairEn_of_isTwin hport, Bool.not_true, Bool.false_eq_true, if_false,
    if_true, if_neg (not_not_intro hseq)]
  rfl

end

end

section
variable {m : Mirror}

/-- How a record applies, by its KIND. -/
theorem Dev.mirrorDo_binding (h : m.kind = 1) : d.mirrorDo m = { d.applyChange m.payload with tw := { (d.applyChange m.payload).tw with
    applied := ((m.seq, d.undoChange m.payload) :: (d.applyChange m.payload).tw.applied).take 4096 } } := by
  simp only [Dev.mirrorDo, h]
theorem Dev.mirrorDo_register {r : Reg} {i v : Nat} (h : m.kind = 2)
    (hreg : regAt .blk (0xE00000 + field m.payload 0 32) allRegs = some (r, i)) (hv : v = field m.payload 32 64) :
    d.mirrorDo m = d.take r i 0 false (d.keepS r i 0 (if r.name = .spSlotCtl ∧ flag v 1 then 0 else v)) := by
  subst hv; simp only [Dev.mirrorDo, h, hreg]
theorem Dev.mirrorDo_lock (h : m.kind = 3) : d.mirrorDo m = d.lockRecord m.payload := by simp only [Dev.mirrorDo, h]
theorem Dev.mirrorDo_epoch {tick : Nat} {cancel arm : Bool} (h : m.kind = 4) (htick : tick = field m.payload 0 48)
    (hcancel : cancel = flag m.payload 62) (harm : arm = flag m.payload 63) : d.mirrorDo m =
      if d.epochCode tick arm cancel = 0 then d.epochApply tick arm cancel
      else ((d.latchTw 2).raise evTwMirrorRefused 0).mirror 7 4 0 (field m.seq 0 32) := by
  subst htick hcancel harm; simp only [Dev.mirrorDo, h]
theorem Dev.mirrorDo_state (h : m.kind = 5) :
    d.mirrorDo m = { d with tw := { d.tw with resync := d.tw.resync ++ [m.payload] } } := by simp only [Dev.mirrorDo, h]
theorem Dev.mirrorDo_request (h : m.kind = 6) : d.mirrorDo m =
    if m.len = 20 then d.lockTwinReq m.seq m.payload
    else if m.len = 24 then d.lockTwinRemote m.seq m.payload
    else d.mhRequest (16 + m.seq) (field m.payload 0 256) := by simp only [Dev.mirrorDo, h]
theorem Dev.mirrorDo_answer (h : m.kind = 7) : d.mirrorDo m =
    if m.len = 21 then (if flag m.payload 41 then d else d.lockAnswered m.payload).lockTwinAnswer m.payload
    else if m.len = 12 then d.mhAnswered (field m.payload 0 32) (field m.payload 32 64)
    else (d.latchTw 2).raise evTwMirrorRefused 0 := by simp only [Dev.mirrorDo, h]

end

/-! ### Probes (R376, R377, R379) -/

section
variable {p w : Nat}

/-- A probe for this device is answered. -/
theorem Dev.twinProbe_asked (htarget : field w 64 18 = d.node) (hask : flag w 8 = false) : d.twinProbe p w =
    d.twinSend p 6 (probeBody true false true (field w 16 8) d.node (field w 32 18) d.tw.lease.term) := by
  simp only [Dev.twinProbe, if_pos htarget, hask, Bool.not_false, if_true]

section
variable (htarget : field w 64 18 = d.node) (hreply : flag w 8 = true) (hen : d.pairEn = true)
  (hpeer : field w 32 18 = d.peerNode)
include htarget hreply hen hpeer

/-- A reply of the twin ends PROBING in SPLIT, answers the probes of ALONE_WAIT, and does nothing in another state. -/
theorem Dev.twinProbe_split (hstate : d.tw.state = .probing) : d.twinProbe p w = d.enterSplit := by
  simp only [Dev.twinProbe, if_pos htarget, hreply, hen, hpeer, hstate, Bool.not_true, Bool.false_eq_true, if_false, beq_self_eq_true,
    Bool.and_self, if_true]
theorem Dev.twinProbe_answered (hstate : d.tw.state = .forming) :
    d.twinProbe p w = { d with tw := { d.tw with answered := true } } := by
  simp only [Dev.twinProbe, if_pos htarget, hreply, hen, hpeer, hstate, Bool.not_true, Bool.false_eq_true, if_false, beq_self_eq_true,
    Bool.and_self, if_true]
theorem Dev.twinProbe_ignored (hprobing : d.tw.state ≠ .probing) (hforming : d.tw.state ≠ .forming) : d.twinProbe p w = d := by
  simp only [Dev.twinProbe, if_pos htarget, hreply, hen, hpeer, Bool.not_true, Bool.false_eq_true, if_false, beq_self_eq_true,
    Bool.and_self, if_true]

end

section
variable (htarget : field w 64 18 ≠ d.node)
include htarget

/-- A probe for another device is forwarded once, where a port leads to it. -/
theorem Dev.twinProbe_forwarded {q : Nat} (hfresh : flag w 9 = false) (hport : d.portTo (field w 64 18) = some q) :
    d.twinProbe p w = (d.twinSend q 6 (setField w 9 1 1)).raise evTwRelayFwd q := by
  simp only [Dev.twinProbe, if_neg htarget, hfresh, hport, Bool.not_false, if_true]
theorem Dev.twinProbe_unreached (hfresh : flag w 9 = false) (hport : d.portTo (field w 64 18) = none) : d.twinProbe p w = d := by
  simp only [Dev.twinProbe, if_neg htarget, hfresh, hport, Bool.not_false, if_true]
theorem Dev.twinProbe_spent (hspent : flag w 9 = true) : d.twinProbe p w = d := by
  simp only [Dev.twinProbe, if_neg htarget, hspent, Bool.not_true, Bool.false_eq_true, if_false]

end

end

end

/-- Settles O48: a heartbeat is read step by step, a mirror record by its order and its KIND, a probe by its target. -/
theorem pairMessages : Obligations.PairMessages := by
  refine ⟨fun s d d1 p w ok hd hup h1 => ?heartbeat,
    fun _ _ => ⟨Dev.takeAck_taken, Dev.takeAck_old⟩, fun d d1 d2 w ok peer hpeer h1 h2 => ?state, fun _ _ => rfl,
    fun d d1 d2 d3 peer ok win term hwin hterm h1 h2 h3 =>
      ⟨fun hme => (Dev.form_eq hwin hterm h1 h2 h3).trans (if_pos (decide_eq_true hme)),
        fun hother => (Dev.form_eq hwin hterm h1 h2 h3).trans (if_neg (by simpa using hother))⟩,
    fun _ => ⟨rfl, rfl, fun _ => Dev.twTo_new⟩, fun s d d1 d2 p w m hd hup h1 hm => ?record, fun d m => ?kinds,
    fun d seq => ⟨fun h => if_pos h, fun hheld happlied => (if_neg (Bool.eq_false_iff.1 hheld)).trans (if_pos happlied)⟩,
    fun s d d1 p w hd hup h1 => ?probe⟩
  case heartbeat =>
    have hrun {E : Dev} (h : d.bypHeartbeat p w ok = E) : exec (.twinHeartbeat p w ok) s = .next (s.after E) :=
      runDev_next (f := fun d => d.bypAlone p (fun d => d.bypHeartbeat p w ok)) hd ((if_pos hup).trans h)
    exact ⟨fun hport => hrun (Dev.bypHeartbeat_elsewhere h1 hport),
      fun hport hform => hrun (Dev.bypHeartbeat_malformed h1 hport hform),
      fun hport hform hpeer => hrun (Dev.bypHeartbeat_mismatch h1 hport hform hpeer),
      fun hport hform hnode hid => hrun (Dev.bypHeartbeat_good h1 hport hform hnode hid)⟩
  case state =>
    have hread : d.pairStep w ok = d2.stateStep w peer ok := by
      rw [Dev.pairStep_eq hpeer, Dev.backToForming_eq, h2, h1]; rfl
    refine ⟨fun h => hread.trans (Dev.stateStep_alone h), fun d3 h h3 => ?_, fun d3 d4 d5 h h3 h4 h5 => ?_⟩
    · have hpaired : d.pairStep w ok = d2.pairedStep w peer ok := hread.trans (Dev.stateStep_paired h)
      exact ⟨fun hnot hterm hholder => hpaired.trans (Dev.pairedStep_handover h3 hnot hterm hholder),
        fun hkept => hpaired.trans (Dev.pairedStep_kept h3 hkept)⟩
    · have hforming : d.pairStep w ok = d5.pairOnce w := by
        rw [hread, Dev.stateStep_forming h, h5, h4, h3]; rfl
      refine ⟨fun hun => hforming.trans (Dev.pairOnce_unformed hun), fun seq hformed hprimary hseq => ?_,
        fun hformed hstandby hcode => (hforming.trans (Dev.pairOnce_standby hformed hstandby)).trans (if_pos hcode),
        fun hformed hstandby hcode => (hforming.trans (Dev.pairOnce_standby hformed hstandby)).trans (if_neg hcode)⟩
      have hsent := hforming.trans (Dev.pairOnce_primary hformed hprimary hseq)
      exact ⟨fun hack => hsent.trans (if_pos hack), fun hnot => hsent.trans (if_neg (Bool.eq_false_iff.1 hnot))⟩
  case record =>
    have hrun {E : Dev} (h : d.bypMirror p w = E) : exec (.mirrorRecord p w) s = .next (s.after E) :=
      runDev_next (f := fun d => d.bypAlone p (fun d => d.bypMirror p w)) hd ((if_pos hup).trans h)
    refine ⟨fun hport => hrun (Dev.bypMirror_elsewhere h1 hport), fun hport hseq => hrun (Dev.bypMirror_gap h1 hport hm hseq),
      fun hport hseq h2 => ?_⟩
    have htaken := Dev.bypMirror_next h1 hport hm hseq h2
    exact ⟨fun hkind => hrun (htaken.trans (if_pos hkind)),
      fun hkind hlater => hrun ((htaken.trans (if_neg hkind)).trans (if_pos hlater)),
      fun hkind hstate htick => hrun ((htaken.trans (if_neg hkind)).trans
        (if_neg (not_or_intro hstate (Nat.not_lt.2 htick))))⟩
  case kinds =>
    exact ⟨Dev.mirrorDo_binding, fun r i v => Dev.mirrorDo_register, Dev.mirrorDo_lock,
      fun tick cancel arm h htick hcancel harm =>
        ⟨fun hok => (Dev.mirrorDo_epoch h htick hcancel harm).trans (if_pos hok),
          fun hno => (Dev.mirrorDo_epoch h htick hcancel harm).trans (if_neg hno)⟩,
      Dev.mirrorDo_state, fun h h20 => (Dev.mirrorDo_request h).trans (if_pos h20),
      fun h h24 => (Dev.mirrorDo_request h).trans ((if_neg (by omega)).trans (if_pos h24)),
      fun h h20 h24 => (Dev.mirrorDo_request h).trans ((if_neg h20).trans (if_neg h24)),
      fun h h21 hfirst => (Dev.mirrorDo_answer h).trans ((if_pos h21).trans (by rw [if_neg (Bool.eq_false_iff.1 hfirst)])),
      fun h h21 hlate => (Dev.mirrorDo_answer h).trans ((if_pos h21).trans (by rw [if_pos hlate])),
      fun h h12 => (Dev.mirrorDo_answer h).trans ((if_neg (by omega)).trans (if_pos h12)),
      fun h h21 h12 => (Dev.mirrorDo_answer h).trans ((if_neg h21).trans (if_neg h12))⟩
  case probe =>
    have hrun {E : Dev} (h : d1.twinProbe p w = E) : exec (.twinProbe p w) s = .next (s.after E) :=
      runDev_next (f := fun d => d.bypAlone p (fun d => d.bypProbe p w)) hd
        ((if_pos hup).trans (by rw [← h, h1]; rfl))
    refine ⟨fun htarget hask => hrun (Dev.twinProbe_asked htarget hask), fun htarget hreply hen hpeer => ?_,
      fun q htarget hfresh hport => hrun (Dev.twinProbe_forwarded htarget hfresh hport),
      fun htarget hfresh hport => hrun (Dev.twinProbe_unreached htarget hfresh hport),
      fun htarget hspent => hrun (Dev.twinProbe_spent htarget hspent)⟩
    refine ⟨fun d2 hstate h2 => ?_, fun hstate => hrun (Dev.twinProbe_answered htarget hreply hen hpeer hstate),
      fun hprobing hforming => hrun (Dev.twinProbe_ignored htarget hreply hen hpeer hprobing hforming)⟩
    have hsplit := Dev.twinProbe_split (p := p) htarget hreply hen hpeer hstate
    exact ⟨fun hprimary => hrun (by rw [hsplit, Dev.enterSplit, ← h2]; simp only [hprimary, if_true]),
      fun hstandby => hrun (by rw [hsplit, Dev.enterSplit, ← h2]; simp only [hstandby, Bool.false_eq_true, if_false])⟩

end Sys2Proof.Machine
/-! SUPPORT. The steps a twin takes by itself: self-fence, probing, takeover, held and cancelled records, TW_CMD (R369, R375,
R376, R378 to R381). -/

namespace Sys2Proof.Machine

section
variable {d : Dev}

/-! ### Losing the twin (R369, R376, R378, R379) -/

/-- A device that has sent no heartbeat at two boundaries fences itself, where it is PAIRED or owes the fence. -/
theorem Dev.selfFence_due (hnot : d.tw.selfFenced = false) (hsilent : 2 ≤ d.tw.silent)
    (hwhy : (d.pairEn = true ∧ d.tw.state = .paired) ∨ d.tw.fenceOwed = true) : d.selfFence =
      ({ d.giveUpLease with tw := { d.giveUpLease.tw with selfFenced := true } }).raise evTwSelfFence 0 := by
  have hdue : (!d.tw.selfFenced && decide (2 ≤ d.tw.silent)
      && ((d.pairEn && decide (d.tw.state = .paired)) || d.tw.fenceOwed)) = true := by
    rcases hwhy with ⟨hen, hpaired⟩ | howed
    · simp only [hnot, hsilent, hen, hpaired, Bool.not_false, decide_true, Bool.and_self, Bool.true_or]
    · simp only [hnot, hsilent, howed, Bool.not_false, decide_true, Bool.and_self, Bool.or_true]
  exact if_pos hdue

/-- Four misses in PAIRED begin PROBING. -/
theorem Dev.missLimit_reached (hpaired : d.tw.state = .paired) (hmisses : 4 ≤ d.tw.misses) :
    d.missLimit = ((d.twTo .probing).raise evTwProbing 0).sendProbes := if_pos ⟨hpaired, hmisses⟩

/-- PROBE_WAIT that has passed in PROBING takes over. -/
theorem Dev.probeExpiry_due {ok : Bool} (hprobing : d.tw.state = .probing) (hdue : d.probeWait ≤ d.waited d.tw.entered) :
    d.probeExpiry ok = d.takeOver ok := if_pos ⟨hprobing, hdue⟩

/-- ALONE_WAIT that has passed in FORMING takes over, or waits again where a probe was answered. -/
theorem Dev.aloneExpiry_due {ok : Bool} (hforming : d.tw.state = .forming) (hdue : d.aloneWait ≤ d.waited d.tw.formSince) :
    d.aloneExpiry ok =
      if d.tw.answered then { d with tw := { d.tw with formSince := d.st.boundaries, answered := false } } else d.takeOver ok :=
  if_pos ⟨hforming, hdue⟩

/-! ### Held records and unacknowledged changes (R375) -/

section
variable {seq : Nat} {m : Mirror} (hm : firstThat d.tw.heldRecs (fun m => m.seq == seq) = some m)
include hm

/-- A held record applies at its tick, in PAIRED and SOLE only. -/
theorem Dev.mirrorApply_due (hstate : d.tw.state = .paired ∨ d.tw.state = .sole) (htick : m.tick ≤ d.now) : d.mirrorApply seq =
    ({ d with tw := { d.tw with heldRecs := removeFirst d.tw.heldRecs (fun m => m.seq == seq) } }).mirrorDo m := by
  simp only [Dev.mirrorApply, hm, if_pos (And.intro hstate htick)]
theorem Dev.mirrorApply_waits (hpaired : d.tw.state ≠ .paired) (hsole : d.tw.state ≠ .sole) : d.mirrorApply seq = d := by
  simp only [Dev.mirrorApply, hm, hpaired, hsole, or_self, false_and, if_false]

end

/-- What MIRROR_CANCEL gives back before it answers: the vPPB of a bind is free again, that of an unbind bound. -/
def Dev.mhUndone (d : Dev) (x : MhWork) : Dev :=
  if mhOp x.raw = 1 then d.setVppb (mhHost x.raw) (mhVppb x.raw) { since := d.now }
  else if mhOp x.raw = 2 then d.vppbUse (mhHost x.raw) (mhVppb x.raw) .bound else d

section
variable {seq t : Nat} {x : MhWork} (hx : firstThat d.cx.work (fun x => x.mirror == some seq) = some x)
  (hphase : x.phase = .staged t)
include hx hphase

/-- A staged change is cancelled where its record stands unacknowledged at the boundary before its tick. -/
theorem Dev.mirrorCancel_staged : d.mirrorCancel seq =
    if t ≤ d.now + 1 ∧ d.mirrorCovered seq = false then
      (((d.mhUndone x).mhComplete x 3).raise evTwMirrorCancel 0).mirror 8 4 0 (field seq 0 32)
    else d := by
  simp only [Dev.mirrorCancel, hx, hphase, Dev.mhUndone]
theorem Dev.mirrorCancel_kept (h : d.now + 1 < t ∨ d.mirrorCovered seq = true) : d.mirrorCancel seq = d := by
  rw [Dev.mirrorCancel_staged hx hphase]
  refine if_neg fun ⟨htick, hopen⟩ => ?_
  exact h.elim (fun hlater => absurd htick (by omega)) (fun hack => Bool.false_ne_true (hopen.symm.trans hack))

end

/-! ### TW_CMD (R379, R381) -/

/-- A core's write of TW_CMD asks for its actions. -/
theorem Dev.coreWrite_twCmd {v : Nat} (hp : 9 ≤ d.bt.phase) (hv : v < 2 ^ 64) :
    d.coreWrite rTwCmd 0 v = d.twCmd (field v 0 48) (flag v 62) (flag v 63) :=
  Dev.coreWrite_does hp rTwCmd (by decide) hv (by decide) rfl

section
variable {tick : Nat} {giveBack handover : Bool}

/-- It is refused outside of PAIRED and by a standby. -/
theorem Dev.twCmd_refused (h : d.tw.state ≠ .paired ∨ d.tw.primary = false) :
    d.twCmd tick giveBack handover = d.emit .applyRefused := if_pos h

section
variable (hpaired : d.tw.state = .paired) (hprimary : d.tw.primary = true)
include hpaired hprimary

/-- A primary in PAIRED does not refuse it for its state. -/
theorem Dev.twCmd_taken : ¬(d.tw.state ≠ .paired ∨ d.tw.primary = false) :=
  not_or_intro (not_not_intro hpaired) (fun h => Bool.false_ne_true (h.symm.trans hprimary))

/-- It is refused for a tick that is too early, does nothing more than keep the tick without an action, and else is armed. -/
theorem Dev.twCmd_late (hact : (giveBack || handover) = true) (hlate : tick < d.now + 2) :
    d.twCmd tick giveBack handover = (d.emit .tickPast).emit .applyRefused := by
  rw [Dev.twCmd, if_neg (Dev.twCmd_taken hpaired hprimary), hact, decide_eq_true hlate]; rfl
theorem Dev.twCmd_idle : d.twCmd tick false false = d.wr rTwCmd (field tick 0 48) := by
  rw [Dev.twCmd, if_neg (Dev.twCmd_taken hpaired hprimary)]; rfl
theorem Dev.twCmd_armed (hact : (giveBack || handover) = true) (htick : d.now + 2 ≤ tick) :
    d.twCmd tick giveBack handover = { d.wr rTwCmd (field tick 0 48) with
      tw := { d.tw with armed := some (tick, giveBack, handover) } } := by
  rw [Dev.twCmd, if_neg (Dev.twCmd_taken hpaired hprimary), hact, decide_eq_false (Nat.not_lt.2 htick)]; rfl

end

section
variable {ok : Bool} {d1 : Dev} (harmed : d.tw.armed = some (tick, giveBack, handover)) (htick : tick ≤ d.now)
  (h1 : d1 = { d with tw := { d.tw with armed := none } })
include harmed htick h1

/-- At its tick the command is dropped where the device is no longer the primary of a pair, and else acts. -/
theorem Dev.twCmdApply_dropped (h : d.tw.state ≠ .paired ∨ d.tw.primary = false) : d.twCmdApply ok = d1 := by
  subst h1; simp only [Dev.twCmdApply, harmed, if_pos htick, if_pos h]
theorem Dev.twCmdApply_acts {d2 : Dev} (hpaired : d.tw.state = .paired) (hprimary : d.tw.primary = true)
    (h2 : d2 = if giveBack then d1.giveBack else d1) : d.twCmdApply ok =
      if handover then
        ({ d2.writeLease (d2.tw.lease.term + 1) (1 - d2.twinId) ok with
          tw := { (d2.writeLease (d2.tw.lease.term + 1) (1 - d2.twinId) ok).tw with primary := false } }).raise evTwHandover 0
      else d2 := by
  subst h2 h1; simp only [Dev.twCmdApply, harmed, if_pos htick, if_neg (Dev.twCmd_taken hpaired hprimary)]

end

end

end

/-- Settles O49: each step of a twin comes to the lemma of its condition, TW_CMD to `Dev.twCmd` and `Dev.twCmdApply`. -/
theorem pairSteps : Obligations.PairSteps := by
  refine ⟨fun s d hd hnot hsilent hwhy =>
      runDev_next (f := fun d => d.selfFence) hd (Dev.selfFence_due hnot hsilent hwhy),
    fun _ => rfl, fun s d hd hpaired hmisses =>
      runDev_next (f := fun d => d.missLimit) hd (Dev.missLimit_reached hpaired hmisses),
    fun d d1 seq hseq h1 => by subst h1 hseq; rfl, fun s d ok hd => ?waits,
    fun d d1 d2 d3 d4 ok h1 h2 h3 h4 => by subst h4 h3 h2 h1; rfl, fun _ _ _ => ⟨rfl, rfl⟩,
    fun s d seq m hd hm => ?held, fun s d d1 seq t x hd hx hphase => ?cancel, fun s d v hd hp hv => ?command,
    fun s d d1 tick ok hd htick h1 => ?apply, fun d d1 h1 => by subst h1; rfl⟩
  case waits =>
    refine ⟨fun hprobing hdue => runDev_next (f := fun d => d.probeExpiry ok) hd (Dev.probeExpiry_due hprobing hdue),
      fun hforming hdue => ?_⟩
    have hwait := Dev.aloneExpiry_due (ok := ok) hforming hdue
    exact ⟨fun hanswered => runDev_next (f := fun d => d.aloneExpiry ok) hd (hwait.trans (if_pos hanswered)),
      fun hsilent => runDev_next (f := fun d => d.aloneExpiry ok) hd (hwait.trans (if_neg (Bool.eq_false_iff.1 hsilent)))⟩
  case held =>
    exact ⟨fun hstate htick => runDev_next (f := fun d => d.mirrorApply seq) hd (Dev.mirrorApply_due hm hstate htick),
      fun hpaired hsole => runDev_next (f := fun d => d.mirrorApply seq) hd (Dev.mirrorApply_waits hm hpaired hsole)⟩
  case cancel =>
    have hrun {E : Dev} (h : d.mirrorCancel seq = E) : exec (.mirrorCancel seq) s = .next (s.after E) :=
      runDev_next (f := fun d => d.mirrorCancel seq) hd h
    refine ⟨fun htick hopen hundo => hrun ?_, fun hkept => hrun (Dev.mirrorCancel_kept hx hphase hkept)⟩
    have hback : d.mhUndone x = d1 := by
      rcases hundo with ⟨hop, h1⟩ | ⟨hop, h1⟩ | ⟨hop, h1⟩
      · exact (if_pos hop).trans h1.symm
      · exact (if_neg (by omega)).trans ((if_pos hop).trans h1.symm)
      · exact (if_neg (by omega)).trans ((if_neg (by omega)).trans h1.symm)
    rw [Dev.mirrorCancel_staged hx hphase, if_pos ⟨htick, hopen⟩, hback]
  case command =>
    have hgive {E : Dev} (h : d.twCmd (field v 0 48) (flag v 62) (flag v 63) = E) :
        exec (.giveBack v) s = .next (s.after E) :=
      runDev_next (f := fun d => d.coreWrite rTwCmd 0 v) hd ((Dev.coreWrite_twCmd hp hv).trans h)
    have hhand {E : Dev} (h : d.twCmd (field v 0 48) (flag v 62) (flag v 63) = E) :
        exec (.handover v) s = .next (s.after E) :=
      runDev_next (f := fun d => d.coreWrite rTwCmd 0 v) hd ((Dev.coreWrite_twCmd hp hv).trans h)
    refine ⟨fun h => ⟨hgive (Dev.twCmd_refused h), hhand (Dev.twCmd_refused h)⟩, fun hpaired hprimary hact hlate => ?_,
      fun hpaired hprimary hgive0 hhand0 => ?_, fun hpaired hprimary htick => ⟨fun h62 => hgive ?_, fun h63 => hhand ?_⟩⟩
    · have hrefused := Dev.twCmd_late hpaired hprimary (Bool.or_eq_true_iff.2 hact) hlate
      exact ⟨hgive hrefused, hhand hrefused⟩
    · have hidle : d.twCmd (field v 0 48) (flag v 62) (flag v 63) = d.wr rTwCmd (field (field v 0 48) 0 48) := by
        rw [hgive0, hhand0]; exact Dev.twCmd_idle hpaired hprimary
      exact ⟨hgive hidle, hhand hidle⟩
    · rw [h62]; exact Dev.twCmd_armed hpaired hprimary rfl htick
    · rw [h63]; exact Dev.twCmd_armed hpaired hprimary (Bool.or_true _) htick
  case apply =>
    have hrun {E : Dev} (h : d.twCmdApply ok = E) : exec (.twinCmdApply ok) s = .next (s.after E) :=
      runDev_next (f := fun d => d.twCmdApply ok) hd h
    exact ⟨fun give hand hgone harmed => hrun (Dev.twCmdApply_dropped harmed htick h1 hgone),
      fun hpaired hprimary harmed => hrun (Dev.twCmdApply_acts harmed htick h1 hpaired hprimary rfl),
      fun give d2 d3 hpaired hprimary harmed h2 h3 =>
        hrun (by rw [h3]; exact Dev.twCmdApply_acts harmed htick h1 hpaired hprimary h2)⟩

end Sys2Proof.Machine
/-! SUPPORT. Lock requests and grants (R383 to R394). -/

namespace Sys2Proof.Machine

section
variable {d : Dev} {k : Nat} {p : Party} {tc : Nat}

/-! ### Requests (R384, R386, R387, R393) -/

/-- A fenced group is told so. -/
theorem Dev.lockServe_fenced {op : LockOp} (h : flag d.ls.fenced (lockGroup k) = true) :
    d.lockServe k p tc op = (stLockFenced, false, d) := if_pos h

section
variable (hopen : flag d.ls.fenced (lockGroup k) = false)
include hopen

/-- A party that is not admitted is latched and told so. -/
theorem Dev.lockServe_denied {op : LockOp} (h : d.lockAdmits (lockGroup k) p = false) :
    d.lockServe k p tc op = (stDenied, false, (d.latchLs k 1 p).raise evLsAccessDenied (lockGroup k)) := by
  simp only [Dev.lockServe, hopen, h, Bool.not_false, Bool.false_eq_true, if_false, if_true]

section
variable (hadmit : d.lockAdmits (lockGroup k) p = true)
include hadmit

/-- An admitted request is served by its operation. -/
theorem Dev.lockServe_acquire {t : Bool} {cookie : Nat} :
    d.lockServe k p tc (.acquire t cookie) = d.lockAcquire k p t cookie tc := by
  simp only [Dev.lockServe, hopen, hadmit, Bool.not_true, Bool.false_eq_true, if_false]
theorem Dev.lockServe_release : d.lockServe k p tc .release =
    if (d.lock k).holder = some p then (stOk, false, (d.mirrorLock k mlRelease p).freeLock k false)
    else (stNotHolder, false, d.raise evLsNotHolder (lockGroup k)) := by
  simp only [Dev.lockServe, hopen, hadmit, Bool.not_true, Bool.false_eq_true, if_false]
theorem Dev.lockServe_renew : d.lockServe k p tc .renew =
    if (d.lock k).holder = some p then (stOk, false,
      (if p.cls = .remote then d.setLock k { d.lock k with lease := d.now } else d).mirrorLock k mlRenew p)
    else (stNotHolder, false, d.raise evLsNotHolder (lockGroup k)) := by
  simp only [Dev.lockServe, hopen, hadmit, Bool.not_true, Bool.false_eq_true, if_false]
theorem Dev.lockServe_cancel : d.lockServe k p tc .cancel =
    if (d.lock k).waiters.any (fun w => decide (w.who = p)) then (stOk, false,
      (d.setLock k { d.lock k with waiters := removeFirst (d.lock k).waiters (fun w => decide (w.who = p)) }).mirrorLock k mlCancel p)
    else (stLockCancelMiss, false, d.raise evLsCancelMiss (lockGroup k)) := by
  simp only [Dev.lockServe, hopen, hadmit, Bool.not_true, Bool.false_eq_true, if_false]

end

end

/-! ### ACQUIRE (R386, R387) -/

section
variable {t : Bool} {cookie : Nat}

/-- The party holds the lock or waits for it already. -/
theorem Dev.lockAcquire_owned (h : (d.lock k).holder = some p ∨ (d.lock k).waiters.any (fun w => decide (w.who = p)) = true) :
    d.lockAcquire k p t cookie tc = (stOwned, false, d) := if_pos h

/-- A free lock is held at once. -/
theorem Dev.lockAcquire_free (hnew : (d.lock k).holder ≠ some p) (hfree : (d.lock k).use = .free) (hnone : (d.lock k).waiters = []) :
    d.lockAcquire k p t cookie tc = (stOk, (d.lock k).abandonNext, (d.setLock k { d.lock k with
      use := .held, holder := some p, lease := d.now, abandonNext := false, abandoned := (d.lock k).abandonNext }).mirrorLock k
        mlGrant p) := by
  simp only [Dev.lockAcquire, hnew, hfree, hnone, List.any_nil, Bool.false_eq_true, or_self, and_self, if_false, if_true]

section
variable (hnew : (d.lock k).holder ≠ some p) (hout : (d.lock k).waiters.any (fun w => decide (w.who = p)) = false)
  (htaken : (d.lock k).use ≠ .free ∨ (d.lock k).waiters ≠ [])
include hnew hout htaken

/-- A taken lock is reported, meets a full table, or is waited for. -/
theorem Dev.lockAcquire_taken : d.lockAcquire k p t cookie tc =
    if t then (stTaken, false, d)
    else if 16384 ≤ d.lockWaiters then (stWaitersFull, false, d.raise evLsWaitersFull (lockGroup k))
    else (stQueued, false, ((d.setLock k { d.lock k with waiters := (d.lock k).waiters ++ [⟨p, cookie, tc⟩] }).mirrorLock k mlEnqueue
      p).raiseIf (decide (((d.setLock k { d.lock k with waiters := (d.lock k).waiters ++ [⟨p, cookie, tc⟩] }).mirrorLock k mlEnqueue
        p).queueWarn < (d.lock k).waiters.length + 1)) evLsQueueLong (lockGroup k)) := by
  have hfree : ¬((d.lock k).use = .free ∧ (d.lock k).waiters = []) := fun ⟨hfree, hnone⟩ =>
    htaken.elim (· hfree) (· hnone)
  simp only [Dev.lockAcquire, hnew, hout, Bool.false_eq_true, or_self, if_false, if_neg hfree]

/-- A party that waits for a taken lock joins its queue; a long queue is reported. -/
theorem Dev.lockAcquire_queued {d1 : Dev} (hroom : d.lockWaiters < 16384)
    (h1 : d1 = (d.setLock k { d.lock k with waiters := (d.lock k).waiters ++ [⟨p, cookie, tc⟩] }).mirrorLock k mlEnqueue p) :
    d.lockAcquire k p false cookie tc =
      (stQueued, false, if d1.queueWarn < (d.lock k).waiters.length + 1 then d1.raise evLsQueueLong (lockGroup k) else d1) := by
  subst h1
  rw [Dev.lockAcquire_taken hnew hout htaken, if_neg Bool.false_ne_true, if_neg (Nat.not_le.2 hroom)]
  simp only [Dev.raiseIf, decide_eq_true_eq]

end

end

/-! ### Grants (R389 to R391) -/

/-- A freed lock with no waiter is free. -/
theorem Dev.freeLock_idle {abandoned : Bool} (h : (d.lock k).waiters = []) :
    d.freeLock k abandoned = d.setLock k { abandonNext := abandoned, abandoned := (d.lock k).abandoned } := by
  simp only [Dev.freeLock, h]

section
variable {w : Waiter} {rest : List Waiter} {abandoned : Bool} {d1 : Dev} {g : LockUse} (hw : (d.lock k).waiters = w :: rest)
  (h1 : d1 = d.mirrorLock k mlGrant w.who) (hg : g = if w.who.cls = .remote then LockUse.granting else LockUse.held)
include hw h1 hg

/-- A freed lock goes to its head waiter: the grant leaves at once, or waits until the twin has acknowledged its record. -/
theorem Dev.freeLock_granted (hmirror : (d1.mirroring && d1.tw.primary) = false) : d.freeLock k abandoned =
    (d1.setLock k { use := g, holder := some w.who, lease := d1.now, abandoned := abandoned, waiters := rest }).sendGrant k w
      abandoned := by
  subst hg h1
  simp only [Dev.freeLock, hw, Dev.grantTo, hmirror, Bool.false_eq_true, if_false]
theorem Dev.freeLock_mirrored (hmirror : (d1.mirroring && d1.tw.primary) = true) : d.freeLock k abandoned =
    d1.setLock k { use := g, holder := some w.who, lease := d1.now, abandoned := abandoned, waiters := rest,
                   grantWait := some (d1.tw.seqTx, d1.now, false, w, abandoned) } := by
  subst hg h1
  simp only [Dev.freeLock, hw, Dev.grantTo, hmirror, if_true]

end

section
variable {w : Waiter} {ab : Bool}

/-- How a grant leaves, by the class of its party. -/
theorem Dev.sendGrant_host (hcls : w.who.cls = .host) (hown : w.who.ofTwin = false) : d.sendGrant k w ab =
    d.postEvent w.who.ep (lockGrantWords k w.cookie d.node d.now ab false) ((d.ep w.who.ep).elim false (fun c => c.irqEn)) false := by
  simp only [Dev.sendGrant, hcls, hown, Bool.false_eq_true, if_false]
theorem Dev.sendGrant_twin (hcls : w.who.cls = .host) (htwin : w.who.ofTwin = true) :
    d.sendGrant k w ab = d.answerTwin 0 stOk k w.cookie ab true w.who := by
  simp only [Dev.sendGrant, hcls, htwin, if_true]
theorem Dev.sendGrant_remote (hcls : w.who.cls = .remote) : d.sendGrant k w ab = d.addMsg
    { num := 0, owner := .lockGrant k w.cookie, type := tyLsGrant, srcEp := 0, dstNode := w.who.node,
      dstEp := w.who.ep, tc := w.tc, len := 16, addr := 0, key := 0,
      inline_ := toBytes 1 (bit ab) ++ toBytes 1 0 ++ toBytes 2 k ++ toBytes 4 w.cookie ++ toBytes 8 d.now } := by
  simp only [Dev.sendGrant, hcls]

end

end

/-- Settles O50: a request comes to `Dev.lockServe` of its operation, ACQUIRE to `Dev.lockAcquire`, a freed lock to its head
waiter. -/
theorem lockRequests : Obligations.LockRequests := by
  refine ⟨fun d k p tc c hc => ⟨fun op => Dev.lockServe_fenced, fun op hopen hno => Dev.lockServe_denied hopen hno, fun hopen hadmit => ?served⟩,
    fun d k abandoned c hc => ?freed, fun d k w ab => ⟨Dev.sendGrant_host, Dev.sendGrant_twin, Dev.sendGrant_remote⟩,
    fun d k op p => ⟨fun h => if_pos h, rfl, fun h => if_neg (Bool.eq_false_iff.1 h)⟩⟩
  case served =>
    subst hc
    have hacq {t : Bool} {cookie : Nat} := Dev.lockServe_acquire (tc := tc) (t := t) (cookie := cookie) hopen hadmit
    have hrelease := Dev.lockServe_release (tc := tc) hopen hadmit
    have hrenew := Dev.lockServe_renew (tc := tc) hopen hadmit
    have hcancel := Dev.lockServe_cancel (tc := tc) hopen hadmit
    refine ⟨fun t cookie howned => hacq.trans (Dev.lockAcquire_owned howned),
      fun t cookie hfree hnone hnew => hacq.trans (Dev.lockAcquire_free hnew hfree hnone),
      fun cookie htaken hnew hout => ⟨?_, fun hfull => ?_, fun d1 hroom h1 => ?_⟩,
      fun h => hrelease.trans (if_pos h), fun h => hrelease.trans (if_neg h),
      fun h hremote => (hrenew.trans (if_pos h)).trans (by rw [if_pos hremote]),
      fun h hlocal => (hrenew.trans (if_pos h)).trans (by rw [if_neg hlocal]), fun h => hrenew.trans (if_neg h),
      fun h => hcancel.trans (if_pos h), fun h => hcancel.trans (if_neg (Bool.eq_false_iff.1 h))⟩
    · exact hacq.trans ((Dev.lockAcquire_taken hnew hout htaken).trans (if_pos rfl))
    · exact hacq.trans ((Dev.lockAcquire_taken hnew hout htaken).trans ((if_neg Bool.false_ne_true).trans (if_pos hfull)))
    · have hqueued := hacq.trans (Dev.lockAcquire_queued hnew hout htaken hroom h1)
      exact ⟨fun hshort => hqueued.trans (by rw [if_neg (Nat.not_lt.2 hshort)]),
        fun hlong => hqueued.trans (by rw [if_pos hlong])⟩
  case freed =>
    subst hc
    exact ⟨Dev.freeLock_idle, fun w rest d1 g hw h1 hg =>
      ⟨Dev.freeLock_granted hw h1 hg, Dev.freeLock_mirrored hw h1 hg⟩⟩

end Sys2Proof.Machine
/-! SUPPORT. How an LS_REQ or LS_GRANT arrives: its checks, its record, and the lock service behind it (R131, R385, R388, R389,
R396). -/

namespace Sys2Proof.Machine

/-- What a lock message is not. -/
theorem lockMsg_types {t : Nat} (h : t = tyLsReq ∨ t = tyLsGrant) :
    t ≠ tyPut ∧ t ≠ tyGetReq ∧ t ≠ tySend ∧ t ≠ tyAtomic ∧ t ≠ tyPutSignal ∧ t ≠ tyRts ∧ t ≠ tyFin ∧ t ≠ tyWnFill
      ∧ t ≠ tyWnWrite ∧ ¬(0x17 ≤ t ∧ t ≤ 0x1F) := by
  rcases h with rfl | rfl <;> decide

section
variable {d : Dev} {p : Packet}

/-! ### The checks (R131, R388, R396) -/

section
variable (hlock : hType p.hdr = tyLsReq ∨ hType p.hdr = tyLsGrant)
include hlock

/-- The checks that a lock message of good form has behind it as its payload is read. -/
theorem Dev.arrive_lock (hcrc : p.crcOk = true) (hok : requestOk p = true) : d.arrive p =
    if lockBad p then
      (d.latchLs (field (ofBytes p.payload) 16 12) 2 ⟨.remote, hSrcNode p.hdr, hSrcEp p.hdr, false⟩).raise evLsLockMalformed
        (lockGroup (field (ofBytes p.payload) 16 12))
    else if d.tp.service.isNone then d.refuseDisabled p
    else if d.ageLimit < d.ageOf (hFst p.hdr) then (d.latchTp p.hdr 3).raise evTpStaleDrop p.port
    else d.arriveFrom4 p := by
  obtain ⟨-, -, -, -, -, hrts, hfin, -, -, hrelay⟩ := lockMsg_types hlock
  have hform : rtsBad p = false := by simp [rtsBad, hrts, hfin]
  simp only [Dev.arrive, hcrc, if_neg hrelay, hform, hok, Bool.not_true, Bool.false_eq_true, if_false]

/-- A lock message of good form that is not too old takes the steps of its record. -/
theorem Dev.arrive_lockGood (hcrc : p.crcOk = true) (hok : requestOk p = true) (hgood : lockBad p = false)
    (hs : d.tp.service.isSome = true) (hage : d.ageOf (hFst p.hdr) ≤ d.ageLimit) (hnew : d.recFor p.hdr = none)
    (hoff : hOffset p.hdr = 0) : d.arrive p = d.contextThen p (fun d => d.admitArrival p) := by
  obtain ⟨-, hget, hsend, -, -, -, -, hfill, -, -⟩ := lockMsg_types hlock
  rw [Dev.arrive_lock hlock hcrc hok, if_neg (Bool.eq_false_iff.1 hgood),
    if_neg (Bool.eq_false_iff.1 (Option.isNone_eq_false_iff.2 hs)), if_neg (Nat.not_lt.2 hage)]
  simp [Dev.arriveFrom4, hget, hfill, hnew, hoff]

/-- It is no access to host memory. -/
theorem Dev.packetAccess_lock (r : TgtRec) : d.packetAccess r p = none := by
  obtain ⟨hput, -, hsend, hatomic, hsignal, -, -, -, hwrite, -⟩ := lockMsg_types hlock
  simp only [Dev.packetAccess, hput, hsignal, hwrite, hatomic, hsend, or_self, if_false]

/-- Its one packet completes its record. -/
theorem Dev.performRec_lock {r r' : TgtRec} (hoff : hOffset p.hdr = 0) (hlen : hPayLen p.hdr = hMsgLen p.hdr)
    (hbits : r.bitmap = 0) (hbaton : r.baton = 0) (hmsg : r.msgLen = hMsgLen p.hdr) (hsig : r.sig = false)
    (hr' : r' = { r with bitmap := 1, baton := hMsgLen p.hdr, firstDone := true }) :
    d.performRec none r p {} = (d.putRec r').finishRec r' p 0 := by
  have hfresh : flag r.bitmap (packetBit p.hdr) = false := by rw [hbits]; exact Nat.zero_testBit _
  have hcounted : r' = { r with
      bitmap := r.bitmap ||| 2 ^ packetBit p.hdr, baton := r.baton + hPayLen p.hdr,
      firstDone := r.firstDone || decide (hOffset p.hdr = 0) } := by
    rw [hr', packetBit, hoff, hlen, hbits, hbaton]; simp
  rw [Dev.performRec_counts {} hfresh (Dev.packetAccess_lock hlock r) hcounted (by rw [hr', hmsg]), Dev.signalRec,
    if_pos (by rw [hr', hsig]; rfl)]
  rfl

end

/-- What the record of a lock message is as it begins. -/
theorem Dev.newRec_lock (hlock : hType p.hdr = tyLsReq ∨ hType p.hdr = tyLsGrant) : (d.newRec p.hdr p.tc).sig = false := by
  obtain ⟨-, -, -, -, hsignal, -, -, -, -, -⟩ := lockMsg_types hlock
  simp only [Dev.newRec, hsignal, decide_false, Bool.false_and]

/-! ### What a complete one does (R385, R388, R389) -/

/-- A complete LS_REQ is served, or asked of the primary. -/
theorem Dev.finishRec_lsReq {r : TgtRec} {op : LockOp} (hr : r.type = tyLsReq) (hop : lockReqOp (ofBytes p.payload) = some op) :
    d.finishRec r p 0 = if !d.runsLocks then d.lockAsk r p
      else (d.lockServe (field (ofBytes p.payload) 16 12) ⟨.remote, r.srcNode, r.srcEp, false⟩ r.tc op).2.2.endRec r p
        (d.lockServe (field (ofBytes p.payload) 16 12) ⟨.remote, r.srcNode, r.srcEp, false⟩ r.tc op).1 0 := by
  obtain ⟨-, -, hsend, -, -, hrts, hfin, -, -, -⟩ := lockMsg_types (.inl hr)
  simp only [Dev.finishRec, hsend, hrts, hfin, if_false, if_pos hr, hop]

/-- A complete LS_GRANT posts LOCK_GRANT. -/
theorem Dev.finishRec_lsGrant {r : TgtRec} {w : Nat} (hr : r.type = tyLsGrant) (hw : w = ofBytes p.payload) : d.finishRec r p 0 =
    ((d.postEvent r.dstEp (lockGrantWords (field w 16 16) (field w 32 32) r.srcNode (field w 64 48) (flag w 0) true)
      ((d.ep r.dstEp).elim false (fun c => c.irqEn)) true).endRec r p stOk 0) := by
  obtain ⟨-, -, hsend, -, -, hrts, hfin, -, -, -⟩ := lockMsg_types (.inr hr)
  have hask : r.type ≠ tyLsReq := by rw [hr]; decide
  subst hw
  simp only [Dev.finishRec, hsend, hrts, hfin, hask, if_false, if_pos hr]

/-! ### LS_REQ (R385, R388) -/

section
variable (ht : hType p.hdr = tyLsReq)
include ht

/-- An LS_REQ whose bytes name an operation is of good form. -/
theorem lockBad_request {op : LockOp} (hop : lockReqOp (ofBytes p.payload) = some op) : lockBad p = false := by
  simp [lockBad, ht, hop, tyLsReq, tyLsGrant]

/-- An LS_REQ needs no endpoint: in its order it takes a record and is performed. -/
theorem Dev.admitArrival_lsReq (hearly : d.early p.hdr = false) (hprev : d.prevOk p.hdr = true) (hfree : d.recFree = true)
    (hroom : d.mirrorFull = false) :
    d.admitArrival p = (d.putRec (d.newRec p.hdr p.tc)).performRec none (d.newRec p.hdr p.tc) p {} := by
  obtain ⟨-, hget, hsend, -, hsignal, hrts, -, hfill, -, -⟩ := lockMsg_types (.inl ht)
  have hgrant : hType p.hdr ≠ tyLsGrant := by rw [ht]; decide
  have hserves : d.epServes p.hdr = true := by simp [Dev.epServes, ht]
  have hrecord : recordless p.hdr = false := by simp [recordless, hget, hfill]
  have hslot : needsSlot p.hdr = false := by simp [needsSlot, hsend, hrts, hgrant, hsignal]
  simp only [Dev.admitArrival, hget, hsend, hrts, hserves, hearly, hprev, hrecord, hfree, hroom, hslot, Bool.and_false,
    Bool.not_true, Bool.or_self, or_self, Bool.false_eq_true, if_false]
  rfl

/-- A good LS_REQ that is new comes to the lock service. -/
theorem Dev.arrive_lsReq {op : LockOp} {r r' : TgtRec} (hcrc : p.crcOk = true) (hok : requestOk p = true)
    (hop : lockReqOp (ofBytes p.payload) = some op) (hs : d.tp.service.isSome = true) (hage : d.ageOf (hFst p.hdr) ≤ d.ageLimit)
    (hnew : d.recFor p.hdr = none) (hoff : hOffset p.hdr = 0) (hlen : hPayLen p.hdr = hMsgLen p.hdr)
    (hearly : d.early p.hdr = false) (hprev : d.prevOk p.hdr = true) (hfree : d.recFree = true) (hroom : d.mirrorFull = false)
    (hr : r = d.newRec p.hdr p.tc) (hr' : r' = { r with bitmap := 1, baton := hMsgLen p.hdr, firstDone := true }) :
    d.arrive p = ((d.putRec r).putRec r').finishRec r' p 0 := by
  rw [Dev.arrive_lockGood (.inl ht) hcrc hok (lockBad_request ht hop) hs hage hnew hoff, Dev.contextThen, if_pos ht,
    Dev.admitArrival_lsReq ht hearly hprev hfree hroom, ← hr]
  exact Dev.performRec_lock (.inl ht) hoff hlen (by rw [hr]; rfl) (by rw [hr]; rfl) (by rw [hr]; rfl)
    (by rw [hr]; exact Dev.newRec_lock (.inl ht)) hr'

end

/-! ### LS_GRANT (R388, R389) -/

section
variable (ht : hType p.hdr = tyLsGrant)
include ht

/-- An LS_GRANT of the format is of good form. -/
theorem lockBad_grant (hform : lockGrantOk (ofBytes p.payload) = true) : lockBad p = false := by
  simp [lockBad, ht, hform, tyLsReq, tyLsGrant]

/-- An LS_GRANT in its order reserves a place for its event, takes a record and is performed. -/
theorem Dev.admitArrival_lsGrant {d2 : Dev} (hserves : d.epServes p.hdr = true) (hearly : d.early p.hdr = false)
    (hprev : d.prevOk p.hdr = true) (hfree : d.recFree = true) (h2 : d.reserve (hDstEp p.hdr) = some d2) :
    d.admitArrival p = (d2.putRec { d.newRec p.hdr p.tc with rsv := true }).performRec none
      { d.newRec p.hdr p.tc with rsv := true } p {} := by
  obtain ⟨-, hget, hsend, -, -, hrts, -, hfill, -, -⟩ := lockMsg_types (.inr ht)
  have hask : hType p.hdr ≠ tyLsReq := by rw [ht]; decide
  have hrecord : recordless p.hdr = false := by simp [recordless, hget, hfill]
  have hslot : needsSlot p.hdr = true := by simp [needsSlot, ht]
  simp only [Dev.admitArrival, hget, hsend, hrts, hask, hserves, hearly, hprev, hrecord, hfree, hslot, h2, decide_false,
    Bool.false_and, Bool.not_true, Bool.or_self, or_self, Bool.false_eq_true, if_false, if_true]

/-- A good LS_GRANT that is new comes to its event. -/
theorem Dev.arrive_lsGrant {d1 d2 : Dev} {c : EpCtx} {r r' : TgtRec} (hcrc : p.crcOk = true) (hok : requestOk p = true)
    (hform : lockGrantOk (ofBytes p.payload) = true) (hs : d.tp.service.isSome = true) (hage : d.ageOf (hFst p.hdr) ≤ d.ageLimit)
    (hnew : d.recFor p.hdr = none) (hoff : hOffset p.hdr = 0) (hlen : hPayLen p.hdr = hMsgLen p.hdr)
    (hc : d.ep (hDstEp p.hdr) = some c) (hdie : c.onDie = true) (h1 : d1 = d.touch (hDstEp p.hdr))
    (hserves : d1.epServes p.hdr = true) (hearly : d1.early p.hdr = false) (hprev : d1.prevOk p.hdr = true)
    (hfree : d1.recFree = true) (h2 : d1.reserve (hDstEp p.hdr) = some d2) (hr : r = { d1.newRec p.hdr p.tc with rsv := true })
    (hr' : r' = { r with bitmap := 1, baton := hMsgLen p.hdr, firstDone := true }) :
    d.arrive p = ((d2.putRec r).putRec r').finishRec r' p 0 := by
  have hask : hType p.hdr ≠ tyLsReq := by rw [ht]; decide
  have hcontext : d.contextThen p (fun d => d.admitArrival p) = d1.admitArrival p := by
    simp only [Dev.contextThen, if_neg hask, hc, hdie, if_true, h1]
  rw [Dev.arrive_lockGood (.inr ht) hcrc hok (lockBad_grant ht hform) hs hage hnew hoff, hcontext,
    Dev.admitArrival_lsGrant ht hserves hearly hprev hfree h2, ← hr]
  exact Dev.performRec_lock (.inr ht) hoff hlen (by rw [hr]; rfl) (by rw [hr]; rfl) (by rw [hr]; rfl)
    (by rw [hr]; exact Dev.newRec_lock (d := d1) (.inr ht)) hr'

end

end

end Sys2Proof.Machine
/-! SUPPORT. Locks across nodes and locks that are lost (R385, R388, R389, R392, R393). -/

namespace Sys2Proof.Machine

section
variable {d : Dev} {k : Nat} {p : Party}

/-! ### Answers and ends (R385, R389) -/

/-- The primary's answer ends the record of the LS_REQ that waits for it. -/
theorem Dev.lockAnswered_open {d1 : Dev} {w seq : Nat} {q : Packet} {r : TgtRec}
    (hasked : firstThat d.ls.asked (fun x => x.1 == field w 0 32) = some (seq, q))
    (h1 : d1 = { d with ls := { d.ls with asked := d.ls.asked.filter (fun x => x.1 != seq) } })
    (hr : d1.recFor q.hdr = some r) (hopen : r.state = .inProgress) : d.lockAnswered w = d1.endRec r q (field w 32 8) 0 := by
  subst h1
  simp only [Dev.lockAnswered, hasked, hr, if_pos hopen]

/-- The end of an LS_GRANT: the waiter holds the lock, or is lost. -/
theorem Dev.lockGrantEnd_granting {status : Nat} {m : Msg} (hp : p = Party.mk .remote m.dstNode m.dstEp false)
    (huse : (d.lock k).use = .granting) (hholder : (d.lock k).holder = some p) : d.lockGrantEnd k m status =
      if status = stOk then d.setLock k { d.lock k with use := .held }
      else (((d.latchLs k 4 p).raise evLsGrantUndelivered (lockGroup k)).mirrorLock k mlAbandon p).freeLock k true := by
  subst hp
  exact if_pos ⟨huse, hholder⟩

/-- A grant that has waited more than a tick for MIRROR_ACK is reported once. -/
theorem Dev.mirrorWait_late {seq t : Nat} {w : Waiter} {ab : Bool} (hwait : (d.lock k).grantWait = some (seq, t, false, w, ab))
    (hopen : d.mirrorCovered seq = false) (hlate : 1 < d.since t) : d.mirrorWait k =
      (d.setLock k { d.lock k with grantWait := some (seq, t, true, w, ab) }).raise evLsMirrorWait (lockGroup k) := by
  simp only [Dev.mirrorWait, hwait, hopen, decide_eq_true hlate, Bool.not_false, Bool.and_self, if_true]

/-- A grant that waits for MIRROR_ACK goes out once its record is covered. -/
theorem Dev.releaseGrant_waiting {seq t : Nat} {raised : Bool} {w : Waiter} {ab : Bool}
    (hwait : (d.lock k).grantWait = some (seq, t, raised, w, ab)) : d.releaseGrant k =
      if d.mirrorCovered seq then (d.setLock k { d.lock k with grantWait := none }).sendGrant k w ab else d := by
  simp only [Dev.releaseGrant, hwait]

/-- A request of the twin's that names an operation is served and answered. -/
theorem Dev.lockTwinServe_named {d1 : Dev} {seq w tc status : Nat} {op : LockOp} {ab : Bool}
    (hop : lockReqOp (field w 0 128) = some op) (hserved : d.lockServe (field w 16 12) p tc op = (status, ab, d1)) :
    d.lockTwinServe seq w tc p = d1.answerTwin seq status (field w 16 12) (field w 32 32) ab false p := by
  simp only [Dev.lockTwinServe, hop, hserved]

/-! ### Lost parties (R392) -/

/-- A lock whose waiting requests of lost parties have gone. -/
def Dev.waitersGone (d : Dev) (gone : Party → Bool) (cause k : Nat) : Dev :=
  forEach ((d.lock k).waiters.filter (fun w => gone w.who)) (fun (w : Waiter) d => d.mirrorLock k mlCancel w.who)
    ((d.setLock k { d.lock k with waiters := (d.lock k).waiters.filter (fun w => !(gone w.who)) }).raise cause (lockGroup k))

/-- The holder of a lock is lost. -/
def LockCell.holderGone (c : LockCell) (gone : Party → Bool) : Bool :=
  match c.holder with
  | some p => gone p
  | none => false

section
variable {gone : Party → Bool} {cause : Nat}

/-- A lock of which some party is lost loses them; a lost holder abandons it. -/
theorem Dev.loseLock_eq : Dev.loseLock gone cause k d =
    if (d.lock k).holderGone gone || (d.lock k).waiters.any (fun w => gone w.who) then
      if (d.lock k).holderGone gone then
        (((d.waitersGone gone cause k).raise evLsLockAbandoned (lockGroup k)).mirrorLock k mlAbandon
          ((d.lock k).holder.getD ⟨.core, 0, 0, false⟩)).freeLock k true
      else d.waitersGone gone cause k
    else d := rfl

/-- A lost holder abandons the lock. -/
theorem Dev.loseLock_held (hholder : (d.lock k).holder = some p) (hgone : gone p = true) : Dev.loseLock gone cause k d =
    (((d.waitersGone gone cause k).raise evLsLockAbandoned (lockGroup k)).mirrorLock k mlAbandon p).freeLock k true := by
  have hlost : (d.lock k).holderGone gone = true := by rw [LockCell.holderGone, hholder]; exact hgone
  rw [Dev.loseLock_eq, hlost, hholder]; rfl

/-- A holder that is not lost keeps the lock. -/
theorem Dev.loseLock_kept (h : (d.lock k).holder = none ∨ ∃ p, (d.lock k).holder = some p ∧ gone p = false) :
    Dev.loseLock gone cause k d =
      if (d.lock k).waiters.any (fun w => gone w.who) then d.waitersGone gone cause k else d := by
  have hstays : (d.lock k).holderGone gone = false := by
    rcases h with hnone | ⟨p, hsome, hstays⟩
    · rw [LockCell.holderGone, hnone]
    · rw [LockCell.holderGone, hsome]; exact hstays
  rw [Dev.loseLock_eq, hstays]; rfl

end

/-! ### Leases and FORCE_RELEASE (R392, R393) -/

/-- A lease is due as a remote holder's has reached its limit. -/
theorem Dev.leaseDue_iff {c : LockCell} : d.leaseDue c = true ↔ ∃ p, c.holder = some p ∧ p.cls = .remote ∧
    d.leaseLimit ≤ d.since c.lease := by
  cases h : c.holder with
  | none => simp [Dev.leaseDue, h]
  | some p => simp [Dev.leaseDue, h]

/-- A lapsed lease abandons the lock. -/
theorem Dev.leaseLapse_due (hholder : (d.lock k).holder = some p) (hruns : d.runsLocks = true)
    (hdue : d.leaseDue (d.lock k) = true) (hfirst : d.leaseFirst (d.lock k) = true) (hq : d.quotaLeft actLease = true) :
    d.leaseLapse k = (((((((d.useQuota actLease).latchLs k 3 p).raise evLsLeaseLapse (lockGroup k)).raise evLsLockAbandoned
      (lockGroup k)).dropWaits p).mirrorLock k mlAbandon p).freeLock k true) := by
  simp only [Dev.leaseLapse, hholder, hruns, hdue, hfirst, Bool.and_self, if_true, Dev.within, hq]

/-- A core's write of LS_LOCK_CMD acts on the selected lock. -/
theorem Dev.coreWrite_lsLockCmd {v : Nat} (hp : 9 ≤ d.bt.phase) (hv : v < 2 ^ 32) :
    d.coreWrite rLsLockCmd 0 v = d.lockCmdWrite v :=
  Dev.coreWrite_does hp rLsLockCmd (by decide) hv (by decide) rfl

/-- FORCE_RELEASE of a held lock abandons it, or asks the primary to. -/
theorem Dev.forceFree_held {d1 : Dev} (hholder : (d.lock k).holder = some p) (h1 : d1 = d.raise evLsForceRelease (lockGroup k)) :
    d.forceFree k = if d1.runsLocks then
        (((d1.raise evLsLockAbandoned (lockGroup k)).dropWaits p).mirrorLock k mlAbandon p).freeLock k true
      else d1.mirror 3 12 0 (lockPayload k mlAbandon p) := by
  subst h1
  simp only [Dev.forceFree, hholder]

end

/-- Settles O51: an LS_REQ and an LS_GRANT arrive by `Dev.arrive_lock`, `Dev.arrive_lsReq` and `Dev.arrive_lsGrant`; every loss of a
lock comes to `Dev.loseLock`, `Dev.leaseLapse` or `Dev.forceFree`. -/
theorem locksAcrossNodes : Obligations.LocksAcrossNodes := by
  refine ⟨fun s d d1 p hd hcrc hok hbad h1 => ?malformed,
    fun s d d1 p op r r' status ab hd hcrc hok ht hop hs hage hnew hoff hlen hearly hprev hfree hroom hr hr' => ?request,
    fun d d1 r p => ⟨fun h => if_pos h, fun h h1 => by subst h1; exact if_neg (Bool.eq_false_iff.1 h)⟩,
    fun d d1 w seq p r hasked h1 hr hopen => Dev.lockAnswered_open hasked h1 hr hopen,
    fun s d d1 d2 d3 p c r r' w hd hcrc hok ht hform hs hage hnew hoff hlen hc hdie h1 hserves hearly hprev hfree h2 hr hr' h3 hw =>
      ?grant,
    fun d k status m p hp huse hholder =>
      ⟨fun hdone => (Dev.lockGrantEnd_granting hp huse hholder).trans (if_pos hdone),
        fun hlost => (Dev.lockGrantEnd_granting hp huse hholder).trans (if_neg hlost)⟩,
    fun d d1 k cause gone h1 => ?lost,
    fun s d k p hd hholder hruns hdue hfirst hq =>
      runDev_next (f := fun d => d.leaseLapse k) hd (Dev.leaseLapse_due hholder hruns hdue hfirst hq),
    fun _ _ => rfl, fun _ _ => Dev.leaseDue_iff, fun s d v k hd hp hv hk => ?force,
    fun s d k seq t w ab hd hwait hopen hlate =>
      runDev_next (f := fun d => d.mirrorWait k) hd (Dev.mirrorWait_late hwait hopen hlate),
    fun d k seq t raised w ab hwait => ⟨fun hcovered => (Dev.releaseGrant_waiting hwait).trans (if_pos hcovered),
      fun hopen => (Dev.releaseGrant_waiting hwait).trans (if_neg (Bool.eq_false_iff.1 hopen))⟩,
    fun d d1 seq w status op ab p hop => ⟨fun hp hserved => by subst hp; exact Dev.lockTwinServe_named hop hserved,
      fun hp hserved => by subst hp; exact Dev.lockTwinServe_named hop hserved⟩,
    fun d gone cause => ⟨fun h => by rw [Dev.loseParties, if_pos h],
      fun h => by rw [Dev.loseParties, if_neg (Bool.eq_false_iff.1 h)]⟩,
    fun d w hruns => if_pos hruns⟩
  case malformed =>
    exact ⟨fun ht => runDev_ofType hd ht (((Dev.arrive_lock (.inl ht) hcrc hok).trans (if_pos hbad)).trans h1.symm),
      fun ht => runDev_ofType hd ht (((Dev.arrive_lock (.inr ht) hcrc hok).trans (if_pos hbad)).trans h1.symm)⟩
  case request =>
    have htype : r'.type = tyLsReq := by rw [hr', hr]; exact ht
    have hsrc : r'.srcNode = r.srcNode ∧ r'.srcEp = r.srcEp ∧ r'.tc = r.tc := by rw [hr']; exact ⟨rfl, rfl, rfl⟩
    obtain ⟨hnode, hep, htc⟩ := hsrc
    have hcome := (Dev.arrive_lsReq ht hcrc hok hop hs hage hnew hoff hlen hearly hprev hfree hroom hr hr').trans
      (Dev.finishRec_lsReq htype hop)
    rw [hnode, hep, htc] at hcome
    refine ⟨fun hruns hserved => runDev_ofType hd ht ?_, fun hstandby => runDev_ofType hd ht ?_⟩
    · rw [hcome, hruns, hserved]; rfl
    · rw [hcome, hstandby]; rfl
  case grant =>
    have htype : r'.type = tyLsGrant := by rw [hr', hr]; exact ht
    have hsrc : r'.srcNode = r.srcNode ∧ r'.dstEp = r.dstEp := by rw [hr']; exact ⟨rfl, rfl⟩
    obtain ⟨hnode, hep⟩ := hsrc
    have hcome := (Dev.arrive_lsGrant ht hcrc hok hform hs hage hnew hoff hlen hc hdie h1 hserves hearly hprev hfree h2 hr
      hr').trans (Dev.finishRec_lsGrant htype hw)
    rw [hnode, hep, ← h3] at hcome
    exact runDev_ofType hd ht hcome
  case lost =>
    subst h1
    refine ⟨fun p hholder hgone => Dev.loseLock_held hholder hgone, fun hkept => ?_⟩
    have hstays := Dev.loseLock_kept (cause := cause) hkept
    exact ⟨fun hwaits => hstays.trans (if_pos hwaits), fun hnone => hstays.trans (if_neg (Bool.eq_false_iff.1 hnone))⟩
  case force =>
    subst hk
    have hrun {E : Dev} (h : d.lockCmdWrite v = E) : exec (.forceRelease v) s = .next (s.after E) :=
      runDev_next (f := fun d => d.coreWrite rLsLockCmd 0 v) hd ((Dev.coreWrite_lsLockCmd hp hv).trans h)
    refine ⟨fun hno => hrun (if_neg (Bool.eq_false_iff.1 hno)), fun hset hidle => hrun ((if_pos hset).trans (if_pos hidle)),
      fun p d1 hset huse hholder h1 => ?_⟩
    have hheld := Dev.forceFree_held hholder h1
    exact ⟨fun hruns => hrun ((if_pos hset).trans ((if_neg huse).trans (hheld.trans (if_pos hruns)))),
      fun hstandby => hrun ((if_pos hset).trans ((if_neg huse).trans
        (hheld.trans (if_neg (Bool.eq_false_iff.1 hstandby)))))⟩

end Sys2Proof.Machine
/-! SUPPORT. Power domains: entry, wakes and reports by the state of the domain (R429 to R439). -/

namespace Sys2Proof.Machine

section
variable {d : Dev} {k : Nat} {x : PdDom} (hx : d.dom k = x)
include hx

/-! ### Sleep (R431, R434) -/

/-- A domain that is ON, idle and not wanted enters its floor; another stays. -/
theorem Dev.idleExpiry_enters (hon : x.use = .on) (hidle : x.idle = true) (hfree : d.domWanted k = false) :
    d.idleExpiry k = d.setDom k { x with use := .entering (d.domFloor k), idle := false, late := false } := by
  subst hx; exact if_pos ⟨hon, hidle, hfree⟩
theorem Dev.idleExpiry_stays (h : x.use ≠ .on ∨ x.idle = false ∨ d.domWanted k = true) : d.idleExpiry k = d := by
  subst hx
  refine if_neg fun ⟨hon, hidle, hfree⟩ => ?_
  rcases h with h | h | h
  · exact h hon
  · exact Bool.false_ne_true (h.symm.trans hidle)
  · exact Bool.false_ne_true (hfree.symm.trans h)

/-- An entry ends in the floor, or in a wake where a vote came late. -/
theorem Dev.entryDone_entering {f : Nat} (huse : x.use = .entering f) : d.entryDone k = (d.setDom k { x with
    use := if x.late then .waking f else if f = 1 then .gated else .retain, late := false }).raise evPdDomEnter 0 := by
  subst hx; simp only [Dev.entryDone, huse]

/-! ### Wake (R433, R435) -/

/-- The domain as a wake leaves it ON, measured and reported. -/
def Dev.domOn (d : Dev) (k f ns : Nat) (x : PdDom) (recent : List Nat) : Dev :=
  ((d.setDom k { x with
    use := .on, idle := false, wakes := if f = 2 then satInc (2 ^ 32 - 1) x.wakes else x.wakes,
    recent := if 64 < recent.length then [] else recent }).wr rPdWakeLast (min ns (2 ^ 32 - 1))).raise evPdDomWake 0

/-- A wake ends ON; lost retention, a slow wake and a storm of wakes are reported. -/
theorem Dev.domWake_waking {f ns : Nat} {good : Bool} {recent : List Nat} {d1 d2 d3 : Dev} (huse : x.use = .waking f)
    (hrecent : recent = (d.st.boundaries :: x.recent).filter (fun t => decide (d.waited t * d.period < 1024000)))
    (h1 : d1 = d.domOn k f ns x recent)
    (h2 : d2 = if f = 2 ∧ good = false then (d1.latchPd k 1).raise evPdRetainLost 0 else d1)
    (h3 : d3 = if 3 * wakeDelay k f < 2 * ns then (d2.latchPd k 2).raise evPdWakeSlow 0 else d2) :
    d.domWake k ns good = if 64 < recent.length then d3.raise evPdWakeStorm 0 else d3 := by
  subst h3 h2 h1 hrecent hx
  simp only [Dev.domWake, huse, Dev.domOn, Dev.raiseIf, decide_eq_true_eq]

/-! ### States in which a step of a transition does nothing (log entry 16) -/

/-- A domain at rest has no transition to end and none to report. -/
theorem Dev.dom_resting (h : x.use = .on ∨ x.use = .gated ∨ x.use = .retain) :
    d.entryDone k = d ∧ (∀ ns good, d.domWake k ns good = d) ∧ d.domStuck k = d := by
  subst hx
  rcases h with h | h | h <;> exact ⟨by simp only [Dev.entryDone, h], fun _ _ => by simp only [Dev.domWake, h],
    by simp only [Dev.domStuck, h]⟩

/-- A domain stuck in transition is reported. -/
theorem Dev.domStuck_moving {f : Nat} (h : x.use = .entering f ∨ x.use = .waking f) : d.domStuck k = d.raise evPdDomStuck 0 := by
  subst hx
  rcases h with h | h <;> simp only [Dev.domStuck, h]

end

/-- Settles O52: a vote is `Dev.voteWrite`; a domain sleeps by `Dev.idleExpiry` and `Dev.entryDone` and wakes by `Dev.domWake`. -/
theorem domainsSleepAndWake : Obligations.DomainsSleepAndWake := by
  refine ⟨fun s d d1 v hd hp hv h1 => ?vote, fun s d k x hd hx =>
    ⟨fun hon hidle hfree => runDev_next (f := fun d => d.idleExpiry k) hd (Dev.idleExpiry_enters hx hon hidle hfree),
      fun f huse => ?entry, fun f ns good recent d1 d2 d3 huse hrecent h1 hlost hkept hslow hquick => ?wake,
      fun h => runDev_next (f := fun d => d.idleExpiry k) hd (Dev.idleExpiry_stays hx h), fun h => ?rest,
      fun h => runDev_next (f := fun d => d.holdLong k) hd (if_pos h),
      fun h => runDev_next (f := fun d => d.holdLong k) hd (if_neg (Bool.eq_false_iff.1 h)),
      fun f h => runDev_next (f := fun d => d.domStuck k) hd (Dev.domStuck_moving hx h),
      runDev_next (f := fun d => d.biasFault k) hd rfl, runDev_next (f := fun d => d.assistFault k) hd rfl,
      runDev_next (f := fun d => d.railUv k) hd rfl,
      runDev_next (f := fun d => d.pdParity k) hd (by rw [Dev.pdParity, hx])⟩⟩
  case vote =>
    subst h1
    exact runDev_next (f := fun d => d.coreWrite rPdVote 0 v) hd (Dev.coreWrite_does hp rPdVote (by decide) hv (by decide) rfl)
  case entry =>
    have hrun {E : Dev} (h : d.entryDone k = E) : exec (.domainEntryDone k) s = .next (s.after E) :=
      runDev_next (f := fun d => d.entryDone k) hd h
    have hends := Dev.entryDone_entering hx huse
    refine ⟨fun hlate hf => hrun ?_, fun hlate hf => hrun ?_, fun hlate => hrun ?_⟩
    · rw [hends, if_neg (Bool.eq_false_iff.1 hlate), if_pos hf]
    · rw [hends, if_neg (Bool.eq_false_iff.1 hlate), if_neg hf]
    · rw [hends, if_pos hlate]
  case wake =>
    have h2 : d2 = if f = 2 ∧ good = false then (d1.latchPd k 1).raise evPdRetainLost 0 else d1 := by
      split
      case isTrue h => exact hlost h.symm
      case isFalse h =>
        refine hkept ?_
        cases good with
        | true => exact .inl rfl
        | false => exact .inr fun hf => h ⟨hf, rfl⟩
    have h3 : d3 = if 3 * wakeDelay k f < 2 * ns then (d2.latchPd k 2).raise evPdWakeSlow 0 else d2 := by
      split
      case isTrue h => exact hslow h
      case isFalse h => exact hquick (Nat.not_lt.1 h)
    have hwoken := Dev.domWake_waking hx huse hrecent h1 h2 h3
    exact ⟨fun hstorm => runDev_next (f := fun d => d.domWake k ns good) hd (hwoken.trans (if_pos hstorm)),
      fun hcalm => runDev_next (f := fun d => d.domWake k ns good) hd (hwoken.trans (if_neg (Nat.not_lt.2 hcalm)))⟩
  case rest =>
    obtain ⟨hentry, hwake, hstuck⟩ := Dev.dom_resting hx h
    exact ⟨runDev_next (f := fun d => d.entryDone k) hd hentry,
      fun ns good => runDev_next (f := fun d => d.domWake k ns good) hd (hwake ns good),
      runDev_next (f := fun d => d.domStuck k) hd hstuck⟩

end Sys2Proof.Machine
/-! SUPPORT. Security commands: statements and their ends, the sparge, the alarm (R446 to R454). -/

namespace Sys2Proof.Machine

section
variable {c : Chip} {w sig : Nat}

/-! ### Statements (R446 to R450) -/

/-- A statement that fails a check before its signature is refused with the status of the check. -/
theorem Chip.statement_refused {st : Nat} (hst : c.statementStatus w = st) (hne : st ≠ ebOk) :
    c.statement w sig = (st, c.map (fun d => d.raise evSeLcRefused 0)) := by
  subst hst; exact if_neg hne

/-- What the signature of a statement decides, once its nonce is spent. -/
def Chip.statementSigned (c : Chip) (w sig : Nat) : Nat × Chip :=
  if stCmd w = 5 then
    match debugSigner c.dev.se.life with
    | none => (ebRefused, c.map (fun d => d.raise evSeLcRefused 0))
    | some who =>
      if c.nv.fuses.signed who (toBytes 96 w) sig then (ebOk, c.map (fun d => d.unlock (stScope w) (1024 * stDuration w)))
      else (ebRefused, (c.violationBy 4).map (fun d => d.raise evSeDebugDenied 0))
  else if stCmd w = 4 then
    if c.nv.fuses.signed .owner (toBytes 96 w) sig then c.rotate (stArg w) else c.badTransition
  else
    match lcSigner c.dev.se.life (stCmd w) with
    | none => c.badTransition
    | some who =>
      if c.nv.fuses.signed who (toBytes 96 w) sig then (ebOk, c.map (fun d => d.startSparge (.transition (stCmd w + 1) none)))
      else c.badTransition

/-- A statement that passes the checks spends the nonce and comes to its signature. -/
theorem Chip.statement_checked {c1 : Chip} (hst : c.statementStatus w = ebOk)
    (h1 : c1 = { c with dev := { c.dev with se := { c.dev.se with nonce := none } } }) :
    c.statement w sig = c1.statementSigned w sig := by
  subst h1
  exact if_pos hst

/-- A debug unlock that no signer can ask for is refused. -/
theorem Chip.statementSigned_noUnlock (hcmd : stCmd w = 5) (hwho : debugSigner c.dev.se.life = none) :
    c.statementSigned w sig = (ebRefused, c.map (fun d => d.raise evSeLcRefused 0)) := by
  simp only [Chip.statementSigned, if_pos hcmd, hwho]

/-- A debug unlock opens debug where its signer has signed it, and is a violation otherwise. -/
theorem Chip.statementSigned_unlock {who : Signer} (hcmd : stCmd w = 5) (hwho : debugSigner c.dev.se.life = some who) :
    c.statementSigned w sig = if c.nv.fuses.signed who (toBytes 96 w) sig then
        (ebOk, c.map (fun d => d.unlock (stScope w) (1024 * stDuration w)))
      else (ebRefused, (c.violationBy 4).map (fun d => d.raise evSeDebugDenied 0)) := by
  simp only [Chip.statementSigned, if_pos hcmd, hwho]

/-- A rotation of the owner key is done where the owner has signed it, and is a violation otherwise. -/
theorem Chip.statementSigned_rotate (hcmd : stCmd w = 4) : c.statementSigned w sig =
    if c.nv.fuses.signed .owner (toBytes 96 w) sig then c.rotate (stArg w) else c.badTransition := by
  simp only [Chip.statementSigned, if_neg (show ¬stCmd w = 5 by omega), if_pos hcmd]

section
variable (h4 : stCmd w ≠ 4) (h5 : stCmd w ≠ 5)
include h4 h5

/-- A transition that no signer can ask for in this state is a violation. -/
theorem Chip.statementSigned_noTransition (hwho : lcSigner c.dev.se.life (stCmd w) = none) :
    c.statementSigned w sig = c.badTransition := by
  simp only [Chip.statementSigned, if_neg h5, if_neg h4, hwho]

/-- A transition begins the sparge where its signer has signed it, and is a violation otherwise. -/
theorem Chip.statementSigned_transition {who : Signer} (hwho : lcSigner c.dev.se.life (stCmd w) = some who) :
    c.statementSigned w sig = if c.nv.fuses.signed who (toBytes 96 w) sig then
        (ebOk, c.map (fun d => d.startSparge (.transition (stCmd w + 1) none)))
      else c.badTransition := by
  simp only [Chip.statementSigned, if_neg h5, if_neg h4, hwho]

end

/-- A rotation without a free slot changes nothing; with one it burns the slot and revokes the one before it. -/
theorem Chip.rotate_full {key : Nat} (h : c.nv.fuses.freeOwner = none) : c.rotate key = (ebExhausted, c) := by
  simp only [Chip.rotate, h]
theorem Chip.rotate_free {key slot old : Nat} {g : Fuses} (hslot : c.nv.fuses.freeOwner = some slot)
    (hold : c.nv.fuses.activeOwner = some old) (hg : g = c.nv.fuses.burnOwner slot (keyDigest key)) : c.rotate key =
      (ebOk, { dev := c.dev.raise evSeOwnerRotate 0,
               nv := { c.nv with fuses := { g with ownerRevoked := g.ownerRevoked ||| 2 ^ old } } }) := by
  subst hg; simp only [Chip.rotate, hslot, hold]

/-- LC_ENROLL begins the sparge in BLANK, is a violation in another state, and waits for a sparge that runs. -/
theorem Chip.enroll_blank {key : Nat} (hidle : c.dev.se.sparge = none) (hlife : c.dev.se.life = 0) : c.enroll key =
    (ebOk, c.map (fun d => { d with se := { d.se with sparge := some (.transition 1 (some (keyDigest key))) } })) := by
  simp only [Chip.enroll, hidle, hlife, Option.isSome_none, Bool.false_eq_true, if_false, if_true, Chip.map, Dev.startSparge]
theorem Chip.enroll_later {key : Nat} (hidle : c.dev.se.sparge = none) (hlife : c.dev.se.life ≠ 0) :
    c.enroll key = c.badTransition := by
  simp only [Chip.enroll, hidle, hlife, Option.isSome_none, Bool.false_eq_true, if_false]
theorem Chip.enroll_busy {key : Nat} (hruns : c.dev.se.sparge.isSome = true) :
    c.enroll key = (ebBusy, c.map (fun d => d.raise evSeLcRefused 0)) := if_pos hruns

/-! ### Frames (R443, R450, R454) -/

section
variable {f : EbFrame}

/-- A frame of the right length is served, and one of another length answered LENGTH. -/
theorem Chip.serveChallenge_short (h : f.takes 0 = false) : c.serveChallenge f = c.reply f ebLength [] :=
  if_neg (Bool.eq_false_iff.1 h)
theorem Chip.serveAttest_short (h : f.takes 32 = false) : c.serveAttest f = c.reply f ebLength [] := by
  rw [Chip.serveAttest, h]; rfl
theorem Chip.serveCert_short (h : f.takes 0 = false) : c.serveCert f = c.reply f ebLength [] := if_neg (Bool.eq_false_iff.1 h)
theorem Chip.serveEnroll_short (h : f.takes 32 = false) : c.serveEnroll f = c.reply f ebLength [] :=
  if_neg (Bool.eq_false_iff.1 h)
theorem Chip.serveStatement_short (h : f.takes 160 = false) : c.serveStatement f = c.reply f ebLength [] :=
  if_neg (Bool.eq_false_iff.1 h)
theorem Chip.serveAttest_noIdentity (h : f.takes 32 = true) (hid : c.dev.se.idReady = false) :
    c.serveAttest f = c.reply f ebNoIdentity [] := by
  simp only [Chip.serveAttest, h, hid, Bool.not_true, Bool.not_false, Bool.false_eq_true, if_false, if_true]
theorem Chip.serveAttest_report (h : f.takes 32 = true) (hid : c.dev.se.idReady = true) : c.serveAttest f =
    (c.map (fun d => ({ d with se := { d.se with attests := satInc (2 ^ 32 - 1) d.se.attests } }).raise evSeAttest 0)).reply f
      ebOk (c.report (f.num 0 32)) := by
  simp only [Chip.serveAttest, h, hid, Bool.not_true, Bool.false_eq_true, if_false, Chip.map]
theorem Chip.serveEnroll_answer (h : f.takes 32 = true) :
    c.serveEnroll f = (c.enroll (f.num 0 32)).2.reply f (c.enroll (f.num 0 32)).1 [] := if_pos h
theorem Chip.serveStatement_answer {st : Nat} (h : f.takes 160 = true)
    {c1 : Chip} (hst : c.statement (f.num 0 96) (f.num 96 64) = (st, c1)) : c.serveStatement f = c1.reply f st [] := by
  rw [Chip.serveStatement, if_pos h, hst]

end

/-! ### The sparge (R447, R453) -/

/-- The chip as a clean read-back leaves it, before what waited for it goes on. -/
def Chip.spargeOver (c : Chip) : Chip :=
  { c with dev := ({ c.dev with se := { c.dev.se with sparge := none, kiln := [] } }).raise evSeSpargeDone 0 }

/-- What waits for a clean read-back goes on. -/
theorem Chip.spargeClean_command {tag : Nat} : c.spargeClean (.command tag) =
    (c.spargeOver.map (fun d => d.ebAnswer (fun w => w.opcode == 5 && w.tag == tag) true ebOk (toBytes 1 0))).map
      (fun d => d.resetDue) := rfl
theorem Chip.spargeClean_transition {state : Nat} {owner : Option Nat} : c.spargeClean (.transition state owner) =
    ((c.spargeOver.burnTransition state owner).map (fun d => d.warmStart)).map (fun d => d.resetDue) := rfl
theorem Chip.spargeClean_alone {why : SpargeFor} (h : why = .alarm ∨ why = .repair) :
    c.spargeClean why = c.spargeOver.map (fun d => d.resetDue) := by
  rcases h with h | h <;> subst h <;> rfl

/-- A read-back that is not clean answers its command, and writes the zeros again. -/
theorem Chip.spargeAgain_command {tag : Nat} {d1 : Dev} (h1 : d1 = ((c.dev.latchSe 7).raise evSeSpargeFail 0).ebAnswer
      (fun w => w.opcode == 5 && w.tag == tag) true ebOk (toBytes 1 1)) :
    c.spargeAgain (.command tag) = { c with dev := { d1 with se := { d1.se with sparge := some .alarm } } } := by
  subst h1; rfl
theorem Chip.spargeAgain_alone {why : SpargeFor} (h : ∀ tag, why ≠ .command tag) :
    c.spargeAgain why = c.map (fun d => (d.latchSe 7).raise evSeSpargeFail 0) := by
  cases why with
  | command tag => exact absurd rfl (h tag)
  | alarm => rfl
  | repair => rfl
  | transition => rfl

end

/-! ### Ends (R450, R452) -/

section
variable {d : Dev}

/-- A nonce and an unlock end at the end of their life. -/
theorem Dev.nonceExpiry_due {n t : Nat} (h : d.se.nonce = some (n, t)) (hdue : d.nonceLife ≤ d.since t) :
    d.nonceExpiry = { d with se := { d.se with nonce := none } } := by
  simp only [Dev.nonceExpiry, h, if_pos hdue]
theorem Dev.unlockEnd_due {u : Unlock} (h : d.se.unlock = some u) (hdue : u.ticks ≤ d.since u.since) :
    d.unlockEnd = { d with se := { d.se with unlock := none } } := by
  simp only [Dev.unlockEnd, h, if_pos hdue]

/-- A core's write of SE_ALARM with CLEAR set asks for the alarm's end. -/
theorem Dev.coreWrite_seAlarm {v : Nat} (hp : 9 ≤ d.bt.phase) (hv : v < 2 ^ 32) :
    d.coreWrite rSeAlarm 0 v = if flag v 0 then d.alarmClear else d :=
  Dev.coreWrite_does hp rSeAlarm (by decide) hv (by decide) rfl

end

/-- Settles O53: a frame is served at its length by `Chip.serveChallenge` to `Chip.serveStatement`, a statement comes to
`Chip.statementSigned`, and a sparge to `Chip.spargeClean` or `Chip.spargeAgain`. -/
theorem securityCommands : Obligations.SecurityCommands := by
  refine ⟨fun s bytes f c htake hlen => runChip_serves htake rfl (if_pos hlen), fun s bytes f c htake hlen =>
      ⟨fun hid => runChip_serves htake rfl (Chip.serveAttest_noIdentity hlen hid),
        fun hid => runChip_serves htake rfl (Chip.serveAttest_report hlen hid)⟩,
    fun s bytes f c htake hlen => runChip_serves htake rfl (if_pos hlen),
    fun s bytes f c => ⟨fun htake h => runChip_serves htake rfl (Chip.serveChallenge_short h),
      fun htake h => runChip_serves htake rfl (Chip.serveAttest_short h),
      fun htake h => runChip_serves htake rfl (Chip.serveCert_short h),
      fun htake h => runChip_serves htake rfl (Chip.serveEnroll_short h),
      fun htake h => runChip_serves htake rfl (Chip.serveStatement_short h)⟩,
    fun s bytes f c htake hlen => ?enroll, fun s bytes f c c1 st htake hlen hst => ?answered,
    fun c c1 w sig hst h1 => ?signed, fun s bytes f c c1 w sig st htake hlen hw hsig => ?served,
    fun s c why hc hwhy => ?sparge, fun s d n t u hd =>
      ⟨fun h hdue => runDev_next (f := fun d => d.nonceExpiry) hd (Dev.nonceExpiry_due h hdue),
        fun h hdue => runDev_next (f := fun d => d.unlockEnd) hd (Dev.unlockEnd_due h hdue)⟩,
    fun s d v hd hp hv => ?alarm⟩
  case enroll =>
    have hrun {st : Nat} {e : Chip} (h : c.enroll (f.num 0 32) = (st, e)) :
        exec (.lcEnroll bytes) s = .next (s.afterChip (e.reply f st [])) :=
      runChip_serves htake rfl (by rw [Chip.serveEnroll_answer hlen, h])
    exact ⟨fun hidle hlife => hrun (Chip.enroll_blank hidle hlife), fun hidle hlife => hrun (Chip.enroll_later hidle hlife),
      fun hruns => hrun (Chip.enroll_busy hruns)⟩
  case answered =>
    have hserve : c.serveStatement f = c1.reply f st [] := Chip.serveStatement_answer hlen hst
    exact ⟨runChip_serves htake rfl hserve, runChip_serves htake rfl hserve, runChip_serves htake rfl hserve,
      runChip_serves htake rfl hserve, runChip_serves htake rfl hserve⟩
  case signed =>
    have hcheck := Chip.statement_checked (sig := sig) hst h1
    have hlife : c1.dev.se.life = c.dev.se.life := by rw [h1]
    have hnv : c1.nv = c.nv := by rw [h1]
    rw [hcheck, ← hlife, ← hnv]
    refine ⟨fun who h4 h5 hwho => ?_, fun h4 h5 hwho => Chip.statementSigned_noTransition h4 h5 hwho, fun hcmd hbad => ?_,
      fun hcmd hgood hfull => ?_, fun hcmd hwho => Chip.statementSigned_noUnlock hcmd hwho⟩
    · have hdone := Chip.statementSigned_transition (sig := sig) h4 h5 hwho
      exact ⟨fun hgood => hdone.trans (if_pos hgood), fun hbad => hdone.trans (if_neg (Bool.eq_false_iff.1 hbad))⟩
    · exact (Chip.statementSigned_rotate hcmd).trans (if_neg (Bool.eq_false_iff.1 hbad))
    · exact (Chip.statementSigned_rotate hcmd).trans ((if_pos hgood).trans (Chip.rotate_full hfull))
  case served =>
    subst hw hsig
    have hserve {st : Nat} {e : Chip} (h : c.statement (f.num 0 96) (f.num 96 64) = (st, e)) :
        c.serveStatement f = e.reply f st [] := Chip.serveStatement_answer hlen h
    refine ⟨fun hst hne => ?_, fun hst h1 => ?_⟩
    · have hrefused := hserve (Chip.statement_refused hst hne)
      exact ⟨runChip_serves htake rfl hrefused, runChip_serves htake rfl hrefused⟩
    · have hcheck := Chip.statement_checked (sig := f.num 96 64) hst h1
      have hlife : c1.dev.se.life = c.dev.se.life := by rw [h1]
      have hnv : c1.nv = c.nv := by rw [h1]
      rw [← hlife, ← hnv]
      refine ⟨fun who hwho hgood => ?_, fun hwho hcmd => ?_, fun slot old hcmd hgood hslot hold g hg => ?_,
        fun who hcmd hwho => ?_⟩
      · have hbegin (h4 : stCmd (f.num 0 96) ≠ 4) (h5 : stCmd (f.num 0 96) ≠ 5) := hserve (hcheck.trans
          ((Chip.statementSigned_transition h4 h5 hwho).trans (if_pos hgood)))
        refine ⟨fun hcmd => runChip_serves htake rfl ?_, fun hcmd => runChip_serves htake rfl ?_,
          fun hcmd => runChip_serves htake rfl ?_⟩
        all_goals rw [hbegin (by omega) (by omega), hcmd]
      · exact runChip_serves htake rfl (hserve (hcheck.trans (Chip.statementSigned_noTransition (by omega) (by omega) hwho)))
      · exact runChip_serves htake rfl (hserve (hcheck.trans ((Chip.statementSigned_rotate hcmd).trans
          ((if_pos hgood).trans (Chip.rotate_free hslot hold hg)))))
      · have hunlock := hcheck.trans (Chip.statementSigned_unlock hcmd hwho)
        exact ⟨fun hgood => runChip_serves htake rfl (hserve (hunlock.trans (if_pos hgood))),
          fun hbad => runChip_serves htake rfl (hserve (hunlock.trans (if_neg (Bool.eq_false_iff.1 hbad))))⟩
  case sparge =>
    have hends (clean : Bool) : c.spargeDone clean = if clean then c.spargeClean why else c.spargeAgain why := by
      simp only [Chip.spargeDone, hwhy]
    exact ⟨runChip_next (f := fun c => c.spargeDone false) hc (hends false),
      runChip_next (f := fun c => c.spargeDone true) hc (hends true),
      fun state owner h => by rw [h]; exact Chip.spargeClean_transition, fun tag h => by rw [h]; exact Chip.spargeClean_command,
      Chip.spargeClean_alone, fun tag d1 h h1 => by rw [h]; exact Chip.spargeAgain_command h1, Chip.spargeAgain_alone⟩
  case alarm =>
    have hrun {E : Dev} (h : (if flag v 0 then d.alarmClear else d) = E) : exec (.alarmClear v) s = .next (s.after E) :=
      runDev_next (f := fun d => d.coreWrite rSeAlarm 0 v) hd ((Dev.coreWrite_seAlarm hp hv).trans h)
    exact ⟨fun hno => hrun (if_neg (Bool.eq_false_iff.1 hno)),
      fun hclear hstands => hrun ((if_pos hclear).trans (if_pos hstands)),
      fun hclear hclassB => hrun ((if_pos hclear).trans (if_neg (Bool.eq_false_iff.1 hclassB)))⟩

end Sys2Proof.Machine
/-! SUPPORT. What begins a start and what holds it (R457 to R463, R496, R497, R501). -/

namespace Sys2Proof.Machine

section
variable {d : Dev}

/-! ### The beginning of a start (R457, R459, R460) -/

/-- The device as a start leaves it in step 1, before what the start reports. -/
def Dev.stepOne (d : Dev) (stays : Bool) : Dev :=
  { d.cleared stays with bt := { (d.cleared stays).bt with
    phase := 1, kind := if stays then 2 else 1, part := 3, slotsHeld := stays && !(d.cleared stays).sp.released } }

/-- A start that ends another, or turns a warm trigger into a cold start, reports it. -/
theorem Dev.beginStart_eq {warm stays : Bool}
    (h : stays = (warm && d.bt.calDone && !d.bt.retainBad && !(d.starting && decide (d.bt.phase ≤ 5)))) :
    d.beginStart warm = ((d.stepOne stays).raiseIf d.starting evBtStartInterrupted 0).raiseIf (warm && !stays) evBtWarmToCold 0 := by
  subst h; rfl

/-- A warm trigger is a cold start only where it does not keep the state. -/
theorem warmToCold_no {warm stays : Bool} (h : warm = false ∨ stays = true) : (warm && !stays) = false := by
  rcases h with h | h <;> subst h
  · exact Bool.false_and _
  · exact Bool.and_false _

/-- A warm start begins where there is power. -/
theorem Dev.warmStart_powered (hpower : d.bt.pwrok = true) (hsupply : d.bt.supplyBad = false) :
    d.warmStart = d.beginStart true := by
  simp only [Dev.warmStart, hpower, hsupply, Bool.not_false, Bool.and_self, if_true]
theorem Dev.warmStart_unpowered (h : d.bt.pwrok = false ∨ d.bt.supplyBad = true) : d.warmStart = d := by
  rcases h with h | h <;> simp only [Dev.warmStart, h, Bool.false_and, Bool.not_true, Bool.and_false, Bool.false_eq_true, if_false]

/-! ### RESET_N (R363, R457, R497) -/

/-- The rise of RESET_N begins a start where it was low, and does nothing else. -/
theorem Dev.resetN_rise {d1 : Dev} (hlow : d.bt.resetLow = true) (h1 : d1 = { d with bt := { d.bt with resetLow := false } }) :
    d.resetN false = if d1.bt.pwrok && decide (d1.bt.phase = 0) then d1.beginStart false else d1.warmStart := by
  subst h1; simp only [Dev.resetN, hlow, Bool.false_eq_true, if_false, if_true]
theorem Dev.resetN_high (hhigh : d.bt.resetLow = false) : d.resetN false = d := by
  simp only [Dev.resetN, hhigh, Bool.false_eq_true, if_false]

/-! ### Power (R460, R496, R497) -/

/-- A loss of power clears everything, and reports a start that it ends. -/
theorem Dev.powerDown_eq {e e1 : Dev} (he : e = { d.cleared false with
      bt := { (d.cleared false).bt with calDone := false }, sp := { (d.cleared false).sp with released := true } })
    (he1 : d.starting = false ∧ e1 = e ∨ d.starting = true ∧ e1 = e.raise evBtStartInterrupted 0) : d.powerDown = e1 := by
  have hdown : d.powerDown = e.raiseIf d.starting evBtStartInterrupted 0 := by subst he; rfl
  rcases he1 with ⟨hidle, h⟩ | ⟨hcut, h⟩
  · rw [hdown, hidle, h]; rfl
  · rw [hdown, hcut, h]; rfl

/-- Power that comes back begins a cold start where PWROK is high. -/
theorem Dev.supplyRestored_bad {d1 : Dev} (hbad : d.bt.supplyBad = true)
    (h1 : d1 = { d with bt := { d.bt with supplyBad := false } }) : d.supplyRestored =
      if d1.bt.pwrok then d1.beginStart false else { d1 with bt := { d1.bt with phase := 0, kind := 0 } } := by
  subst h1; exact if_pos hbad

/-! ### Heat and the watchdog (R462, R501) -/

/-- Heat holds a device that has power and is not held already. -/
theorem Dev.thermalHold_begins {d1 : Dev} (hcool : d.bt.hot = false) (hpower : d.bt.pwrok = true) (hsupply : d.bt.supplyBad = false)
    (h1 : d1 = { d with bt := { d.bt with hot := true }, sp := { d.sp with released := true } }) :
    d.thermalHold = d1.beginStart true := by
  have hwarm : d1.warmStart = d1.beginStart true :=
    Dev.warmStart_powered (by rw [h1]; exact hpower) (by rw [h1]; exact hsupply)
  rw [← hwarm, Dev.thermalHold, hcool, hpower, hsupply, h1]; rfl
theorem Dev.thermalHold_held (h : d.bt.hot = true ∨ d.bt.pwrok = false ∨ d.bt.supplyBad = true) : d.thermalHold = d := by
  refine if_pos ?_
  rcases h with h | h | h
  · rw [h]; rfl
  · rw [h]; simp
  · rw [h]; simp

/-- The watchdog begins the start again. -/
theorem Dev.startTimeout_due (hstarts : d.starting = true) (hcool : d.bt.hot = false) (hhigh : d.bt.resetLow = false)
    (hsupply : d.bt.supplyBad = false) :
    d.startTimeout = (((d.beginStart true).latchBt 2 d.bt.part 0).raise evBtStartTimeout 0) := by
  simp only [Dev.startTimeout, hstarts, hcool, hhigh, hsupply, Bool.not_false, Bool.and_self, if_true]

/-! ### Requested warm starts (R487) -/

section
variable {kind : Nat} (hreq : d.bt.resetReq = some kind)
include hreq

/-- A requested start begins, for KIND 2 with the charge pumps released; a sparge holds it. -/
theorem Dev.resetDue_held (hsparge : d.se.sparge.isSome = true) : d.resetDue = d := by
  simp only [Dev.resetDue, hreq, if_pos hsparge]
theorem Dev.resetDue_begins (hidle : d.se.sparge = none) : d.resetDue =
    (if kind = 2 then ({ d with bt := { d.bt with resetReq := none } }).releasePumps
      else { d with bt := { d.bt with resetReq := none } }).warmStart := by
  simp only [Dev.resetDue, hreq, hidle, Option.isSome_none, Bool.false_eq_true, if_false]

end

end

/-- Settles O54: every trigger comes to `Dev.beginStart`, read by `Dev.beginStart_eq`, or is held. -/
theorem startsBegin : Obligations.StartsBegin := by
  refine ⟨fun d e warm stays hstays he => ?begin, fun _ _ => rfl, fun s d d1 straps id hd h1 => ?cold, fun s d d1 hd => ?reset,
    fun s d e e1 hd he he1 => ?lost, fun s d d1 hd => ⟨fun hbad h1 => ?restored, fun hgood => ?unbroken,
      fun hcool hpower hsupply h1 =>
        runDev_next (f := fun d => d.thermalHold) hd (Dev.thermalHold_begins hcool hpower hsupply h1),
      fun h => runDev_next (f := fun d => d.thermalHold) hd (Dev.thermalHold_held h),
      runDev_next (f := fun d => d.thermalRelease) hd rfl,
      fun hstarts hcool hhigh hsupply =>
        runDev_next (f := fun d => d.startTimeout) hd (Dev.startTimeout_due hstarts hcool hhigh hsupply),
      fun kind hreq hidle hpower hsupply => ?asked,
      fun kind hreq hsparge => runDev_next (f := fun d => d.resetDue) hd (Dev.resetDue_held hreq hsparge)⟩⟩
  case begin =>
    have hbegins : d.beginStart warm = (e.raiseIf d.starting evBtStartInterrupted 0).raiseIf (warm && !stays) evBtWarmToCold 0 :=
      (Dev.beginStart_eq hstays).trans (by rw [he]; rfl)
    refine ⟨fun hidle hkept => ?_, fun hidle hwarm hcold => ?_, fun hcut hkept => ?_, fun hcut hwarm hcold => ?_⟩
    · rw [hbegins, hidle, warmToCold_no hkept]; rfl
    · rw [hbegins, hidle, hwarm, hcold]; rfl
    · rw [hbegins, hcut, warmToCold_no hkept]; rfl
    · rw [hbegins, hcut, hwarm, hcold]; rfl
  case cold =>
    subst h1
    exact ⟨fun hhigh => runDev_next (f := fun d => d.coldStart straps id) hd (if_neg (Bool.eq_false_iff.1 hhigh)),
      fun hlow => runDev_next (f := fun d => d.coldStart straps id) hd (if_pos hlow)⟩
  case reset =>
    have hrun {E : Dev} (h : d.resetN false = E) : exec (.resetN false) s = .next (s.after E) :=
      runDev_next (f := fun d => d.resetN false) hd h
    refine ⟨runDev_next (f := fun d => d.resetN true) hd rfl, fun hlow h1 => ?_, fun hhigh => hrun (Dev.resetN_high hhigh)⟩
    have hrise := Dev.resetN_rise hlow h1
    have hbt : d1.bt.pwrok = d.bt.pwrok ∧ d1.bt.phase = d.bt.phase ∧ d1.bt.supplyBad = d.bt.supplyBad := by
      rw [h1]; exact ⟨rfl, rfl, rfl⟩
    obtain ⟨hpwrok, hphase, hsupply⟩ := hbt
    have hwarm (hno : (d.bt.pwrok && decide (d.bt.phase = 0)) = false) : d.resetN false = d1.warmStart := by
      rw [hrise, hpwrok, hphase, hno]; rfl
    refine ⟨fun hpower hzero => hrun ?_, fun hpower hstep hgood => hrun ?_, fun hstep hbad => hrun ?_, fun hoff => hrun ?_⟩
    · rw [hrise, hpwrok, hphase, hpower, hzero]; rfl
    · rw [hwarm (by rw [decide_eq_false hstep, Bool.and_false])]
      exact Dev.warmStart_powered (hpwrok.trans hpower) (hsupply.trans hgood)
    · rw [hwarm (by rw [decide_eq_false hstep, Bool.and_false])]
      exact Dev.warmStart_unpowered (.inr (hsupply.trans hbad))
    · rw [hwarm (by rw [hoff, Bool.false_and])]
      exact Dev.warmStart_unpowered (.inl (hpwrok.trans hoff))
  case lost =>
    have hdown := Dev.powerDown_eq he he1
    exact ⟨runDev_next (f := fun d => d.pwrokFall) hd (by rw [Dev.pwrokFall, hdown]),
      runDev_next (f := fun d => d.supplyFault) hd (by rw [Dev.supplyFault, hdown])⟩
  case restored =>
    have hback := Dev.supplyRestored_bad hbad h1
    have hpwrok : d1.bt.pwrok = d.bt.pwrok := by rw [h1]
    rw [hpwrok] at hback
    exact ⟨fun hpower => runDev_next (f := fun d => d.supplyRestored) hd (hback.trans (if_pos hpower)),
      fun hoff => runDev_next (f := fun d => d.supplyRestored) hd (hback.trans (if_neg (Bool.eq_false_iff.1 hoff)))⟩
  case unbroken =>
    exact runDev_next (f := fun d => d.supplyRestored) hd (if_neg (Bool.eq_false_iff.1 hgood))
  case asked =>
    have hbegins := Dev.resetDue_begins hreq hidle
    refine ⟨fun hkind h1 => runDev_next (f := fun d => d.resetDue) hd ?_,
      fun hkind h1 => runDev_next (f := fun d => d.resetDue) hd ?_⟩
    · rw [hbegins, if_neg hkind, ← h1]
      exact Dev.warmStart_powered (by rw [h1]; exact hpower) (by rw [h1]; exact hsupply)
    · have hpumps : ({ d with bt := { d.bt with resetReq := none } }).releasePumps = d1 := h1.symm
      rw [hbegins, if_pos hkind, hpumps]
      exact Dev.warmStart_powered (by rw [h1]; exact hpower) (by rw [h1]; exact hsupply)

end Sys2Proof.Machine
/-! SUPPORT. The steps of a start, the boot record and the settings store (R443 to R451, R458 to R476). -/

namespace Sys2Proof.Machine

/-! ### Steps 2 and 3 (R444, R445, R451, R462, R475) -/

section
variable {c : Chip}

/-- Step 2 reads the lifecycle state, and takes a state that contradicts the other fuses for a violation. -/
theorem Chip.lifeStep_eq {c1 c2 : Chip} (h1 : c1 = Chip.mk { c.dev with se := { c.dev.se with life := c.nv.fuses.repair.state } }
      { c.nv with fuses := c.nv.fuses.repair })
    (h2 : [1, 2, 3, 4].any (fun s => c.nv.fuses.torn s) = false ∧ c2 = c1 ∨ [1, 2, 3, 4].any (fun s => c.nv.fuses.torn s) = true ∧
      c2 = c1.map (fun d => (d.startSparge .repair).raise evSeFuseRepair 0)) : c.lifeStep =
    (if c.nv.fuses.repair.contradicts then c2.violation true 5 else c2).map (fun d => d.phaseTo 3) := by
  subst h1
  rcases h2 with ⟨hwhole, h2⟩ | ⟨htorn, h2⟩
  · subst h2; simp only [Chip.lifeStep, hwhole, Bool.false_eq_true, if_false]
  · subst h2; simp only [Chip.lifeStep, htorn, if_true]

/-- The device as step 3 finds the boot record: a missing one is latched and reported. -/
theorem Chip.bootStep_dev {d1 : Dev} (h1 : c.nv.boot ≠ none ∧ d1 = c.dev ∨ c.nv.boot = none ∧
      d1 = (c.dev.latchBt 8 0 0).raise evBtNvmError 0) :
    d1 = if c.nv.boot.isNone then (c.dev.latchBt 8 0 0).raise evBtNvmError 0 else c.dev := by
  rcases h1 with ⟨hsome, h1⟩ | ⟨hnone, h1⟩
  · rw [h1, if_neg (by simpa using hsome)]
  · rw [h1, hnone]; rfl

/-- A chip whose memory may change, in one place or the other. -/
theorem Chip.ite_nv (b : Bool) (n : NvUnit) : (if b then { c with nv := n } else c) = { c with nv := if b then n else c.nv } := by
  cases b <;> rfl

end

section
variable {n : NvUnit} {b : BootRec}

/-- The two copies of the boot record take turns, and the one written last is read. -/
theorem NvUnit.putBoot_read : (n.putBoot b).boot = some b := by
  cases h : n.bootLast1 <;> simp [NvUnit.putBoot, NvUnit.boot, h]
theorem NvUnit.putBoot_first (h : n.bootLast1 = true) : (n.putBoot b).boot1 = n.boot1 ∧ (n.putBoot b).bootLast1 = false := by
  rw [NvUnit.putBoot, if_pos h]; exact ⟨rfl, rfl⟩
theorem NvUnit.putBoot_second (h : n.bootLast1 = false) : (n.putBoot b).boot0 = n.boot0 ∧ (n.putBoot b).bootLast1 = true := by
  rw [NvUnit.putBoot, if_neg (Bool.eq_false_iff.1 h)]; exact ⟨rfl, rfl⟩

/-- A boot record is missing as neither copy is valid; the other copy is read where the last one is not. -/
theorem NvUnit.boot_none_iff : n.boot = none ↔ n.boot0 = none ∧ n.boot1 = none := by
  cases h : n.bootLast1 with
  | true => cases h1 : n.boot1 <;> simp [NvUnit.boot, h, h1]
  | false => cases h0 : n.boot0 <;> simp [NvUnit.boot, h, h0]
theorem NvUnit.boot_fallback0 (h : n.bootLast1 = true) (hnone : n.boot1 = none) : n.boot = n.boot0 := by
  simp only [NvUnit.boot, h, hnone, if_true]
theorem NvUnit.boot_fallback1 (h : n.bootLast1 = false) (hnone : n.boot0 = none) : n.boot = n.boot1 := by
  simp only [NvUnit.boot, h, hnone, Bool.false_eq_true, if_false]

end

/-! ### Step 5 and the chain (R462, R463) -/

section
variable {d : Dev}

/-- Step 5 calibrates in a cold start. -/
theorem Dev.calStep_cold {lanes : List Nat} {d1 : Dev} (hcold : d.bt.kind = 1)
    (h1 : d1 = { d with bt := { d.bt with calDone := true, badLanes := lanes } }) :
    d.calStep lanes = (forEach lanes (fun l (d : Dev) => (d.latchBt 5 0 l).raise evBtCalFail l) d1).nextPart := by
  subst h1; simp only [Dev.calStep, if_pos hcold]
theorem Dev.calStep_warm {lanes : List Nat} (hwarm : d.bt.kind ≠ 1) : d.calStep lanes = d.nextPart := by
  simp only [Dev.calStep, if_neg hwarm]

/-- The next partition of the chain is tried; behind the last one stands safe mode. -/
theorem Dev.nextPart_end (h : d.bt.chain = []) : d.nextPart = d.safeMode := by simp only [Dev.nextPart, h]
theorem Dev.nextPart_part {p : Nat} {rest : List Nat} (h : d.bt.chain = p :: rest) : d.nextPart =
    { d with bt := { d.bt with phase := 6, part := p, tryFw := none, tryCfg := none, image := [] } } := by
  simp only [Dev.nextPart, h]

end

/-! ### Steps 6 and 7 (R443, R451, R467, R469) -/

section
variable {c : Chip} {fail : Bool} {code : Nat}

section
variable (hcode : c.nv.imageCode c.dev.se.life c.dev.bt.part 1 (c.dev.retainedOf 1 false) fail = code)
include hcode

/-- Step 6 takes a good firmware image, and refuses the partition of a bad one. -/
theorem Chip.fwStep_good {d1 : Dev} (hgood : code = 0)
    (h1 : d1 = if c.dev.se.alarmA || c.dev.se.life == 4 then c.dev else c.dev.deriveId c.nv.fuses.secret) :
    c.fwStep fail = Chip.mk { d1 with bt := { d1.bt with tryFw := some (c.nv.headRec d1.bt.part 1), phase := 7 } } c.nv := by
  subst h1; simp only [Chip.fwStep, hcode, if_pos hgood, Chip.map]
theorem Chip.fwStep_bad (hbad : code ≠ 0) : c.fwStep fail =
    (if code = 5 ∨ code = 6 ∨ code = 8 then (c.map (fun d => d.raise evSeSigFailFw 0)).violation false 1
      else if code = 7 then (c.map (fun d => d.raise evSeRollback 0)).violation false 3
      else c).map (fun d => d.refusePart code) := by
  simp only [Chip.fwStep, hcode, if_neg hbad]

end

section
variable {bad : Bool} {kept : Option Nat} (hkept : kept = c.dev.retainedOf 2 bad)
  (hcode : c.nv.imageCode c.dev.se.life c.dev.bt.part 2 kept fail = code)
include hkept hcode

/-- Step 7 takes a good configuration image, and refuses the partition of a bad one. -/
theorem Chip.cfgStep_good {r : Retained} {image : List Byte} (hgood : code = 0) (hr : r = c.nv.headRec c.dev.bt.part 2)
    (himage : image = if kept = some r.digest then c.dev.bt.copy else c.nv.wholeImage c.dev.bt.part 2) : c.cfgStep fail bad =
      c.map (fun d => { d with bt := { d.bt with tryCfg := some r, image := image, phase := 8 } }) := by
  subst himage hr hkept; simp only [Chip.cfgStep, hcode, if_pos hgood]
theorem Chip.cfgStep_bad (hbad : code ≠ 0) : c.cfgStep fail bad =
    (if code = 5 ∨ code = 6 ∨ code = 8 then (c.map (fun d => d.raise evSeSigFailCfg 0)).violationBy 2
      else if code = 7 then (c.map (fun d => d.raise evSeRollback 0)).violationBy 3
      else c).map (fun d => d.refusePart code) := by
  subst hkept; simp only [Chip.cfgStep, hcode, if_neg hbad]

end

end

/-! ### Step 8 and RUNNING (R463, R468, R470) -/

section
variable {c : Chip}

/-- Step 8 runs what it can apply, and refuses the partition otherwise. -/
theorem Chip.applyStep_runs {d1 : Dev} (h : c.dev.apply c.nv (decide (c.dev.bt.kind = 2)) c.dev.bt.image = some d1) :
    c.applyStep = (Chip.mk d1 c.nv).running := by
  simp only [Chip.applyStep, h]
theorem Chip.applyStep_refuses (h : c.dev.apply c.nv (decide (c.dev.bt.kind = 2)) c.dev.bt.image = none) :
    c.applyStep = c.map (fun d => d.refusePart 10) := by
  simp only [Chip.applyStep, h]

/-- The steps of a start, each by its number; a start that is held goes on with none. -/
theorem Chip.stepDone_held {e : StepEnd} (h : c.dev.stepHeld = true) : c.stepDone e = c := by
  simp only [Chip.stepDone, h, if_true]

section
variable {t : Chip} {e : StepEnd} (ht : t = c.map (fun d => d.stepTimed e.ms)) (hfree : c.dev.stepHeld = false)
include ht hfree

theorem Chip.stepDone_power (h : c.dev.bt.phase = 1) : c.stepDone e = t.map (fun d => d.phaseTo 2) := by
  subst ht; simp only [Chip.stepDone, hfree, h, Bool.false_eq_true, if_false]
theorem Chip.stepDone_life (h : c.dev.bt.phase = 2) : c.stepDone e = t.lifeStep := by
  subst ht; simp only [Chip.stepDone, hfree, h, Bool.false_eq_true, if_false]
theorem Chip.stepDone_boot (h : c.dev.bt.phase = 3) : c.stepDone e = t.bootStep := by
  subst ht; simp only [Chip.stepDone, hfree, h, Bool.false_eq_true, if_false]
theorem Chip.stepDone_bist (h : c.dev.bt.phase = 4) : c.stepDone e = t.map (fun d => d.bistStep e.bistFail) := by
  subst ht; simp only [Chip.stepDone, hfree, h, Bool.false_eq_true, if_false]
theorem Chip.stepDone_cal (h : c.dev.bt.phase = 5) : c.stepDone e = t.map (fun d => d.calStep e.calFail) := by
  subst ht; simp only [Chip.stepDone, hfree, h, Bool.false_eq_true, if_false]
theorem Chip.stepDone_fw (h : c.dev.bt.phase = 6) : c.stepDone e = t.fwStep e.fwFail := by
  subst ht; simp only [Chip.stepDone, hfree, h, Bool.false_eq_true, if_false]
theorem Chip.stepDone_cfg (h : c.dev.bt.phase = 7) : c.stepDone e = t.cfgStep e.cfgFail e.copyBad := by
  subst ht; simp only [Chip.stepDone, hfree, h, Bool.false_eq_true, if_false]
theorem Chip.stepDone_apply (h : c.dev.bt.phase = 8) : c.stepDone e = t.applyStep := by
  subst ht; simp only [Chip.stepDone, hfree, h, Bool.false_eq_true, if_false]

end

/-- STABLE in RUNNING with MC_ALIVE takes the failures off the boot record. -/
theorem Chip.stableReached_running (hphase : c.dev.bt.phase = 9) (hnew : c.dev.bt.stable = false) (halive : c.dev.mg.alive = true) :
    c.stableReached = { dev := { c.dev with bt := { c.dev.bt with stable := true } },
                        nv := c.nv.setFails (if c.dev.bt.part = 2 then 3 else 0) } := if_pos ⟨hphase, hnew, halive⟩

/-- The window of early arrivals ends once the age limit has passed. -/
theorem Dev.startWindowEnd_due {d : Dev} {t : Nat} (ht : d.tp.service = some t) (hdue : d.ageLimit ≤ d.since t) :
    d.startWindowEnd = { d with bt := { d.bt with window := false } } := by
  simp only [Dev.startWindowEnd, ht, if_pos hdue]

/-! ### BT_CMD and the store (R473, R476) -/

/-- BT_CMD: the boot record first, then the store, the erasure, and last the warm start. -/
theorem Chip.btCmd_eq {c1 c2 c3 c4 : Chip} {v : Nat}
    (h1 : c1 = if flag v 1 then { c with nv := c.nv.setPrefer (field v 0 1) } else c)
    (h2 : c2 = if flag v 2 then { c1 with nv := c1.nv.setFails 0 } else c1)
    (h3 : c3 = if flag v 4 then c2.storeSettings.2 else c2)
    (h4 : c4 = if flag v 5 then { c3 with nv := c3.nv.eraseSettings } else c3) :
    (c.btCmd v).2 = if flag v 3 then c4.map (fun d => d.warmStart) else c4 := by
  rw [Chip.ite_nv] at h1 h2
  subst h4 h3 h2 h1
  simp only [Chip.btCmd]
  cases flag v 4 <;> rfl

/-- A core's write of BT_CMD is the command, whatever it asks for. -/
theorem exec_btCmd {s : State} {v : Nat} (hc : s.begunChip = c) (hp : 9 ≤ c.dev.bt.phase) (hv : v < 2 ^ 32) :
    runChip s (fun c => c.btCommand (.core v)) = .next (s.afterChip (c.btCmd v).2) := runChip_btCmd hc hp v hv rfl

section
variable {s : State} {bytes : List Byte} {f : EbFrame}

/-- A frame of BOOT_CTL, and one of STORE_SETTINGS. -/
theorem runChip_bootCtl {E : Chip} (h : s.takesFrame bytes 0x48 f c) (hE : c.serveBootCtl f = E) :
    runChip s (fun c => c.btCommand (.frame bytes)) = .next (s.afterChip E) := by
  obtain ⟨-, hop, -⟩ := id h
  exact runChip_serves h rfl ((if_pos hop).trans hE)
theorem runChip_store {E : Chip} (h : s.takesFrame bytes 0x49 f c) (hE : c.serveStore f = E) :
    runChip s (fun c => c.btCommand (.frame bytes)) = .next (s.afterChip E) := by
  obtain ⟨-, hop, -⟩ := id h
  exact runChip_serves h rfl ((if_neg (by rw [hop]; decide)).trans hE)

/-- BOOT_CTL acts as BT_CMD, but not for the store. -/
theorem Chip.serveBootCtl_acts (hlen : f.takes 1 = true) (hno : flag (f.num 0 1) 4 = false) :
    c.serveBootCtl f = ((c.reply f ebOk []).btCmd (f.num 0 1)).2 := by
  simp only [Chip.serveBootCtl, hlen, hno, Bool.not_true, Bool.false_eq_true, if_false]
theorem Chip.serveBootCtl_store (hlen : f.takes 1 = true) (hset : flag (f.num 0 1) 4 = true) :
    c.serveBootCtl f = c.reply f ebRefused [] := by
  simp only [Chip.serveBootCtl, hlen, hset, Bool.not_true, Bool.false_eq_true, if_false, if_true]

end

/-- A store that no check refuses makes its page invalid and writes it later; one that is refused says so. -/
theorem Chip.storeSettings_begins {k gen : Nat} (hok : c.storeStatus = ebOk) (hpage : c.nv.storePage = (k, gen)) : c.storeSettings =
    (ebOk, { dev := { c.dev with bt := { c.dev.bt with
        store := some (k, .valid (gen % 2 ^ 32) (match c.dev.bt.runCfg with | some r => r.digest | none => 0)
          (c.dev.storeRecs c.nv)) } }, nv := c.nv.putPage k .invalid }) := by
  simp only [Chip.storeSettings, hok, hpage, if_true]
    <;> rfl
theorem Chip.storeSettings_refused (hno : c.storeStatus = ebRefused) :
    c.storeSettings = (ebRefused, c.map (fun d => { d with bt := { d.bt with storeResult := 3 } })) := by
  simp only [Chip.storeSettings, hno, if_neg (show ebRefused ≠ ebOk by decide), if_true]
theorem Chip.storeSettings_busy (hbusy : c.storeStatus = ebBusy) :
    c.storeSettings = (ebBusy, c.map (fun d => { d with bt := { d.bt with storeResult := d.bt.storeResult } })) := by
  simp only [Chip.storeSettings, hbusy, if_neg (show ebBusy ≠ ebOk by decide), if_neg (show ebBusy ≠ ebRefused by decide)]

section
variable {k : Nat} {page : SetPage} (h : c.dev.bt.store = some (k, page))
include h

/-- The end of a store: the page is good, or stays invalid. -/
theorem Chip.storeDone_good : c.storeDone true =
    { dev := ({ c.dev with bt := { c.dev.bt with store := none, storeResult := 1, page := k } }).raise evBtStoreDone 0,
      nv := if k = 0 then { c.nv with page0 := page } else { c.nv with page1 := page } } := by
  simp only [Chip.storeDone, h, if_true, NvUnit.putPage]
theorem Chip.storeDone_bad : c.storeDone false =
    { dev := (({ c.dev with bt := { c.dev.bt with store := none, storeResult := 2 } }).latchBt 7 0 0).raise evBtStoreFail 0,
      nv := if k = 0 then { c.nv with page0 := .invalid } else { c.nv with page1 := .invalid } } := by
  simp only [Chip.storeDone, h, Bool.false_eq_true, if_false, NvUnit.putPage]

end

end

/-- Settles O55: `Chip.stepDone` runs each step by its number; steps, boot record, BT_CMD and store come to the lemmas of their
outcomes. -/
theorem startSteps : Obligations.StartSteps := by
  refine ⟨fun s c t e hc ht => ?steps, fun c c1 c2 h1 h2 => ?life, fun c d1 nv nv1 chain h1 hnv hnv1 hchain => ?boot,
    fun n b => ⟨NvUnit.putBoot_read, NvUnit.putBoot_first, NvUnit.putBoot_second, NvUnit.boot_none_iff, NvUnit.boot_fallback0,
      NvUnit.boot_fallback1⟩,
    fun _ _ => rfl, fun d d1 lanes h1 => ⟨fun hcold => Dev.calStep_cold hcold h1, Dev.calStep_warm⟩,
    fun d p rest => ⟨Dev.nextPart_end, Dev.nextPart_part⟩, fun _ => rfl,
    fun d d1 d2 code h1 h2 => by subst h2 h1; rfl, fun c fail code hcode => ?firmware,
    fun c fail bad kept code hkept hcode => ?config, fun c => ⟨fun d1 h => Chip.applyStep_runs h, Chip.applyStep_refuses⟩,
    fun c d1 d2 f fw cfg m3 hfw hcfg hf hm3 h1 h2 d3 d4 d5 h3 h4 h5 => by subst h5 h4 h3 h2 h1 hm3 hf hcfg hfw; rfl,
    fun s c hc hphase hnew halive =>
      runChip_next (f := fun c => c.stableReached) hc (Chip.stableReached_running hphase hnew halive),
    fun s d t hd ht hdue => runDev_next (f := fun d => d.startWindowEnd) hd (Dev.startWindowEnd_due ht hdue),
    fun s c v hc hp hv => ⟨fun _ => exec_btCmd hc hp hv, fun _ => exec_btCmd hc hp hv, fun _ => exec_btCmd hc hp hv,
      fun _ => exec_btCmd hc hp hv, fun _ => exec_btCmd hc hp hv⟩,
    fun c c1 c2 c3 c4 c5 v h1 h2 h3 h4 h5 => (Chip.btCmd_eq h1 h2 h3 h4).trans h5.symm, fun s bytes f c htake hlen => ?frame,
    fun s bytes f c c1 st htake hlen hst => runChip_store htake (by rw [Chip.serveStore, if_pos hlen, hst]),
    fun c k gen => ?store, fun s c k page hc h =>
      ⟨runChip_next (f := fun c => c.storeDone true) hc (Chip.storeDone_good h),
        runChip_next (f := fun c => c.storeDone false) hc (Chip.storeDone_bad h)⟩⟩
  case steps =>
    have hrun {E : Chip} (h : c.stepDone e = E) : exec (.startStepDone e) s = .next (s.afterChip E) :=
      runChip_next (f := fun c => c.stepDone e) hc h
    exact ⟨fun hheld => hrun (Chip.stepDone_held hheld), fun hfree =>
      ⟨fun h => hrun (Chip.stepDone_power ht hfree h), fun h => hrun (Chip.stepDone_life ht hfree h),
        fun h => hrun (Chip.stepDone_boot ht hfree h), fun h => hrun (Chip.stepDone_bist ht hfree h),
        fun h => hrun (Chip.stepDone_cal ht hfree h), fun h => hrun (Chip.stepDone_fw ht hfree h),
        fun h => hrun (Chip.stepDone_cfg ht hfree h), fun h => hrun (Chip.stepDone_apply ht hfree h)⟩⟩
  case life =>
    have hstep := Chip.lifeStep_eq h1 h2
    exact ⟨fun hgood => hstep.trans (by rw [hgood]; rfl), fun hbad => hstep.trans (by rw [hbad]; rfl)⟩
  case boot =>
    rw [Chip.bootStep_dev h1, hchain, hnv1, hnv]; rfl
  case firmware =>
    refine ⟨fun d1 hgood h1 => Chip.fwStep_good hcode hgood ?_, fun hsig => ?_, fun hback => ?_, fun h0 h5 h6 h7 h8 => ?_⟩
    · rcases h1 with ⟨hno, h1⟩ | ⟨hyes, h1⟩
      · rw [h1, hno]; rfl
      · rw [h1, hyes]; rfl
    · rw [Chip.fwStep_bad hcode (by omega), if_pos hsig]
    · rw [Chip.fwStep_bad hcode (by omega), if_neg (by omega), if_pos hback]
    · rw [Chip.fwStep_bad hcode h0, if_neg (by omega), if_neg h7]
  case config =>
    refine ⟨fun r image hgood hr himage => Chip.cfgStep_good hkept hcode hgood hr himage, fun hsig => ?_, fun hback => ?_,
      fun h0 h5 h6 h7 h8 => ?_⟩
    · rw [Chip.cfgStep_bad hkept hcode (by omega), if_pos hsig]
    · rw [Chip.cfgStep_bad hkept hcode (by omega), if_neg (by omega), if_pos hback]
    · rw [Chip.cfgStep_bad hkept hcode h0, if_neg (by omega), if_neg h7]
  case frame =>
    refine ⟨fun hno => ?_, fun hset => runChip_bootCtl htake (Chip.serveBootCtl_store hlen hset)⟩
    have hacts := Chip.serveBootCtl_acts (c := c) hlen hno
    exact ⟨runChip_bootCtl htake hacts, runChip_bootCtl htake hacts, runChip_bootCtl htake hacts,
      runChip_bootCtl htake hacts⟩
  case store =>
    refine ⟨fun hok hpage => ?_, Chip.storeSettings_refused, fun hbusy => ?_⟩
    · rw [Chip.storeSettings_begins hok hpage]; exact ⟨rfl, rfl, rfl⟩
    · rw [Chip.storeSettings_busy hbusy]; exact ⟨rfl, rfl, rfl, rfl⟩

end Sys2Proof.Machine
/-! SUPPORT. Request frames and the commands of the safety island (R482, R483, R485, R487). -/

namespace Sys2Proof.Machine

/-! ### Checks of a frame (R482, R488) -/

section
variable {d : Dev} {bytes : List Byte} {f : EbFrame}
  (hf : f = ⟨field (ebHead bytes) 0 8, field (ebHead bytes) 16 16, (bytes.drop 8).take (field (ebHead bytes) 32 16)⟩)
  (hup : d.islandUp f.opcode = true)
include hf hup

/-- A frame that arrives while 8 are in flight is NACKed. -/
theorem Dev.ebCheck_full (hfull : 8 ≤ d.inflight) : d.ebCheck bytes = (none, d.emit .i3cNack) := by
  subst hf
  simp only [Dev.ebCheck, hup, Bool.not_true, Bool.false_eq_true, if_false, if_pos hfull]

section
variable (hroom : d.inflight < 8)
include hroom

/-- A frame of the wrong size, with a bad CRC, or with zero bytes that are not zero is answered by its check. -/
theorem Dev.ebCheck_size (hsize : ebSizeOk d.mg.mwl bytes = false) : d.ebCheck bytes =
    (none, (((d.countFrame true).latchMg 5 0 0).raise evMgFrameForm 0).ebReply f (islandOp f.opcode) ebLength []) := by
  subst hf
  simp only [Dev.ebCheck, hup, hsize, if_neg (Nat.not_le.2 hroom), Bool.not_true, Bool.not_false, Bool.false_eq_true, if_false,
    if_true]
theorem Dev.ebCheck_crc (hsize : ebSizeOk d.mg.mwl bytes = true) (hcrc : ebCrcOk bytes = false) : d.ebCheck bytes =
    (none, (((d.countFrame true).latchMg 4 0 0).raise evMgFrameCrc 0).ebReply f (islandOp f.opcode) ebFrameCrc []) := by
  subst hf
  simp only [Dev.ebCheck, hup, hsize, hcrc, if_neg (Nat.not_le.2 hroom), Bool.not_true, Bool.not_false, Bool.false_eq_true,
    if_false, if_true]
theorem Dev.ebCheck_zero (hsize : ebSizeOk d.mg.mwl bytes = true) (hcrc : ebCrcOk bytes = true) (hzero : ebZeroOk bytes = false) :
    d.ebCheck bytes =
      (none, (((d.countFrame true).latchMg 5 0 0).raise evMgFrameForm 0).ebReply f (islandOp f.opcode) ebLength []) := by
  subst hf
  simp only [Dev.ebCheck, hup, hsize, hcrc, hzero, if_neg (Nat.not_le.2 hroom), Bool.not_true, Bool.not_false,
    Bool.false_eq_true, if_false, if_true]

/-- A good frame for a silent management complex is answered NOT_SERVED, but for a store during a start. -/
theorem Dev.ebCheck_silent (hsize : ebSizeOk d.mg.mwl bytes = true) (hcrc : ebCrcOk bytes = true) (hzero : ebZeroOk bytes = true)
    (hcomplex : islandOp f.opcode = false) (hsilent : d.mg.alive = false) (hstore : d.starting = false ∨ f.opcode ≠ 0x49) :
    d.ebCheck bytes = (none, ((d.countFrame false).raise evMgNotServed 0).ebReply f true ebNotServed []) := by
  have halive : (d.countFrame false).mg.alive = false := hsilent
  have hno : ((d.countFrame false).starting && f.opcode == 0x49) = false := by
    rcases hstore with h | h
    · exact Bool.and_eq_false_imp.2 fun hstarts => absurd (h.symm.trans hstarts) Bool.false_ne_true
    · rw [beq_eq_false_iff_ne.2 h, Bool.and_false]
  subst hf
  simp only [Dev.ebCheck, hup, hsize, hcrc, hzero, hcomplex, halive, hno, if_neg (Nat.not_le.2 hroom), Bool.not_true, Bool.not_false,
    Bool.and_self, Bool.false_eq_true, if_false, if_true]

end

end

/-! ### The commands (R487) -/

section
variable {c : Chip} {f : EbFrame}

/-- STATUS and TEMP of the right length answer with fresh readings. -/
theorem Chip.serveStatus_answer {ms : Nat} {temps : List Int} (h : f.takes 0 = true) : c.serveStatus ms temps f =
    (c.map (fun d => d.takeTemps temps)).islandReply f ebOk ((c.dev.takeTemps temps).statusBytes ms) := if_pos h
theorem Chip.serveTemp_answer {temps l : List Int} (h : f.takes 0 = true) (hl : l = (upFrom 0 8).map (fun k => temps.getD k 0)) :
    c.serveTemp temps f = (c.map (fun d => d.takeTemps temps)).islandReply f ebOk
      (l.foldr (fun t b => toBytes 2 (unsigned t 16) ++ b) [] ++ toBytes 2 (unsigned (hottest l).1 16)
        ++ toBytes 1 (hottest l).2 ++ toBytes 1 0) := by
  subst hl; exact if_pos h

/-- FAULT_READ returns its part, and clears it where it is asked to. -/
theorem Chip.serveFaultRead_answer (h : f.takes 2 = true) (hpart : f.num 0 1 ≤ 3) : c.serveFaultRead f =
    (if flag (f.num 1 1) 0 then c.map (fun d => d.faultClear (f.num 0 1)) else c).islandReply f ebOk
      (c.dev.faultBytes (f.num 0 1)) := by
  simp only [Chip.serveFaultRead, h, decide_eq_true hpart, Bool.and_self, if_true]
theorem Chip.serveFaultRead_short (h : f.takes 2 = false ∨ 3 < f.num 0 1) : c.serveFaultRead f = c.islandReply f ebLength [] := by
  refine if_neg fun hok => ?_
  obtain ⟨hlen, hpart⟩ := Bool.and_eq_true_iff.1 hok
  exact h.elim (fun hno => Bool.false_ne_true (hno.symm.trans hlen)) (fun hno => absurd (of_decide_eq_true hpart) (by omega))

/-- SLOT_OFF switches off the named slots that may be, and says which. -/
theorem Chip.serveSlotOff_answer {off standby : List Nat} {d1 : Dev} (h : f.takes 4 = true)
    (hoff : off = (upFrom 0 32).filter (fun k => flag (f.num 0 4) k && c.dev.islandMayOff k))
    (hstandby : standby = (upFrom 0 32).filter (fun k => flag (f.num 0 4) k && decide ((c.dev.slot k).use = .standby)))
    (h1 : d1 = forEach off (fun k (d : Dev) => d.offNow k) c.dev) : c.serveSlotOff f =
      Chip.islandReply { c with dev := d1.raiseIf (!off.isEmpty) evMgIslandSlotOff 0 } f ebOk
        (toBytes 4 (off.foldl (fun w k => w + 2 ^ k) 0) ++ toBytes 4 (standby.foldl (fun w k => w + 2 ^ k) 0)) := by
  subst h1 hstandby hoff
  exact if_pos h

/-- SPARGE of the right form begins a sparge; a wrong word and a sparge that runs are told so. -/
theorem Chip.serveSparge_word (h : f.takes 4 = true) (hword : f.num 0 4 ≠ 0x47525053) :
    c.serveSparge f = c.islandReply f ebRefused [] := by
  simp only [Chip.serveSparge, h, Bool.not_true, Bool.false_eq_true, if_false, if_pos hword]
theorem Chip.serveSparge_busy (h : f.takes 4 = true) (hword : f.num 0 4 = 0x47525053) (hruns : c.dev.se.sparge.isSome = true) :
    c.serveSparge f = c.islandReply f ebBusy [] := by
  simp only [Chip.serveSparge, h, Bool.not_true, Bool.false_eq_true, if_false, if_neg (not_not_intro hword), if_pos hruns]
theorem Chip.serveSparge_begins (h : f.takes 4 = true) (hword : f.num 0 4 = 0x47525053) (hidle : c.dev.se.sparge = none) :
    c.serveSparge f = c.map (fun d =>
      ({ d with se := { d.se with keys := [], idReady := false, sparge := some (.command f.tag) } }).ebWait f 0) := by
  simp only [Chip.serveSparge, h, Bool.not_true, Bool.false_eq_true, if_false, if_neg (not_not_intro hword), hidle,
    Option.isSome_none, Chip.map, Dev.spargeKeys, Dev.startSparge]

/-- RESET_REQ of a KIND is answered before the start begins; another KIND or length is answered LENGTH. -/
theorem Chip.serveResetReq_asked (h : f.takes 1 = true) (hkind : f.num 0 1 = 1 ∨ f.num 0 1 = 2) : c.serveResetReq f =
    (c.islandReply f ebOk []).map (fun d => d.resetAsk (f.num 0 1)) := by
  refine if_pos ?_
  rcases hkind with hkind | hkind <;> rw [h, hkind] <;> rfl
theorem Chip.serveResetReq_short (h : f.takes 1 = false ∨ (f.num 0 1 ≠ 1 ∧ f.num 0 1 ≠ 2)) :
    c.serveResetReq f = c.islandReply f ebLength [] := by
  refine if_neg fun hok => ?_
  obtain ⟨hlen, hkind⟩ := Bool.and_eq_true_iff.1 hok
  rcases h with hno | ⟨hone, htwo⟩
  · exact Bool.false_ne_true (hno.symm.trans hlen)
  · exact (Bool.or_eq_true_iff.1 hkind).elim (fun heq => hone (eq_of_beq heq)) (fun heq => htwo (eq_of_beq heq))

/-- SPARGE of another length is answered LENGTH. -/
theorem Chip.serveSparge_short (h : f.takes 4 = false) : c.serveSparge f = c.islandReply f ebLength [] := by
  simp only [Chip.serveSparge, h, Bool.not_false, if_true]

end

/-- A FAULT_READ clears parts 0 and 1 only. -/
theorem Dev.faultClear_other {d : Dev} : ∀ {part : Nat}, 2 ≤ part → d.faultClear part = d
  | _ + 2, _ => rfl

/-- Settles O56: a frame that does not come out right is answered by `Dev.ebCheck`, one of the island's by the operation of its
opcode. -/
theorem islandCommands : Obligations.IslandCommands := by
  refine ⟨fun s d bytes h f ms temps hd hh hf hup => ?checks, fun s bytes ms temps f c htake =>
      ⟨fun hlen => runChip_serves htake rfl (Chip.serveStatus_answer hlen),
        fun hlen => runChip_serves htake rfl (if_neg (Bool.eq_false_iff.1 hlen))⟩,
    fun s bytes f c htake hlen hpart => ?faults,
    fun s bytes temps f c l htake hlen hl => runChip_serves htake rfl (Chip.serveTemp_answer hlen hl),
    fun s bytes f c off standby d1 htake hlen hoff hstandby h1 =>
      runChip_serves htake rfl (Chip.serveSlotOff_answer hlen hoff hstandby h1),
    fun s bytes f c htake hlen => ⟨fun hword => runChip_serves htake rfl (Chip.serveSparge_word hlen hword),
      fun hword hidle => runChip_serves htake rfl (Chip.serveSparge_begins hlen hword hidle)⟩,
    fun s bytes f c htake hlen hkind => runChip_serves htake rfl (Chip.serveResetReq_asked hlen hkind),
    fun s bytes temps f c => ⟨fun htake h => runChip_serves htake rfl (Chip.serveFaultRead_short h),
      fun htake h => runChip_serves htake rfl (if_neg (Bool.eq_false_iff.1 h)),
      fun htake h => runChip_serves htake rfl (if_neg (Bool.eq_false_iff.1 h)),
      fun htake h => runChip_serves htake rfl (Chip.serveSparge_short h),
      fun htake hlen hword hruns => runChip_serves htake rfl (Chip.serveSparge_busy hlen hword hruns),
      fun htake h => runChip_serves htake rfl (Chip.serveResetReq_short h)⟩,
    fun _ _ _ _ _ _ => ⟨rfl, rfl, rfl, rfl, rfl, rfl, rfl, Dev.faultClear_other⟩⟩
  case checks =>
    subst hd hh
    exact ⟨fun hfull => runChip_checks (Dev.ebCheck_full hf hup hfull),
      fun hroom hsize => runChip_checks (Dev.ebCheck_size hf hup hroom hsize),
      fun hroom hsize hcrc => runChip_checks (Dev.ebCheck_crc hf hup hroom hsize hcrc),
      fun hroom hsize hcrc hzero => runChip_checks (Dev.ebCheck_zero hf hup hroom hsize hcrc hzero),
      fun hroom hsize hcrc hzero hcomplex hsilent hstore =>
        runChip_checks (Dev.ebCheck_silent hf hup hroom hsize hcrc hzero hcomplex hsilent hstore)⟩
  case faults =>
    have hread := Chip.serveFaultRead_answer (c := c) hlen hpart
    exact ⟨fun hkeep => runChip_serves htake rfl (hread.trans (by rw [if_neg (Bool.eq_false_iff.1 hkeep)])),
      fun hclear => runChip_serves htake rfl (hread.trans (by rw [if_pos hclear]))⟩

end Sys2Proof.Machine
/-! SUPPORT. The commands of the management complex: registers, flash and debug (R485, R486). -/

namespace Sys2Proof.Machine

section
variable {c : Chip} {f : EbFrame}

/-! ### Registers (R486) -/

/-- A width of a register command. -/
theorem regWidth_ok {w : Nat} (h : w = 4 ∨ w = 8) : (w == 4 || w == 8) = true := by rcases h with rfl | rfl <;> rfl
theorem regWidth_bad {w : Nat} (h4 : w ≠ 4) (h8 : w ≠ 8) : (w == 4 || w == 8) = false := by
  rw [beq_eq_false_iff_ne.2 h4, beq_eq_false_iff_ne.2 h8]; rfl

/-- REG_READ of the right form reads its run; another form is answered LENGTH. -/
theorem Chip.serveRegRead_run {data : List Byte} {ok : Bool} {d1 : Dev} (h : f.takes 6 = true) (hw : f.num 4 1 = 4 ∨ f.num 4 1 = 8)
    (hcount : 1 ≤ f.num 5 1) (hread : c.dev.readRun c.nv (f.num 0 4) (f.num 4 1) (f.num 5 1) = (data, ok, d1)) :
    c.serveRegRead f = Chip.reply { c with dev := d1 } f (if ok then ebOk else ebUnmapped) data := by
  simp only [Chip.serveRegRead, h, regWidth_ok hw, decide_eq_true hcount, Bool.and_self, if_true, hread]
theorem Chip.serveRegRead_short (h : f.takes 6 = false ∨ f.num 5 1 = 0 ∨ (f.num 4 1 ≠ 4 ∧ f.num 4 1 ≠ 8)) :
    c.serveRegRead f = c.reply f ebLength [] := by
  rcases h with h | h | ⟨h4, h8⟩
  · simp only [Chip.serveRegRead, h, Bool.false_and, Bool.false_eq_true, if_false]
  · simp only [Chip.serveRegRead, h, show ¬1 ≤ 0 by omega, decide_false, Bool.and_false, Bool.false_eq_true, if_false]
  · simp only [Chip.serveRegRead, regWidth_bad h4 h8, Bool.and_false, Bool.false_and, Bool.false_eq_true, if_false]

/-- REG_WRITE of the right form writes one register; another form is answered LENGTH. -/
theorem Chip.serveRegWrite_answer {st : Nat} {e : Chip} (h : f.takes 16 = true) (hw : f.num 4 1 = 4 ∨ f.num 4 1 = 8)
    (hst : c.ctlWrite 0 (f.num 0 4) (f.num 4 1) (f.num 8 (f.num 4 1)) = (st, e)) : c.serveRegWrite f = e.reply f st [] := by
  simp only [Chip.serveRegWrite, h, regWidth_ok hw, Bool.and_self, if_true, hst]
theorem Chip.serveRegWrite_short (h : f.takes 16 = false ∨ (f.num 4 1 ≠ 4 ∧ f.num 4 1 ≠ 8)) :
    c.serveRegWrite f = c.reply f ebLength [] := by
  rcases h with h | ⟨h4, h8⟩
  · simp only [Chip.serveRegWrite, h, Bool.false_and, Bool.false_eq_true, if_false]
  · simp only [Chip.serveRegWrite, regWidth_bad h4 h8, Bool.and_false, Bool.false_eq_true, if_false]

section
variable {path addr bytes value : Nat}

/-- The status of a write of the control space: of no register, of BT_CMD, and of any other. -/
theorem Chip.ctlWrite_status_unmapped (h : ctlReg addr bytes = none) :
    c.ctlWrite path addr bytes value = (ebUnmapped, c.map (fun d => d.unmapped path addr)) := by
  simp only [Chip.ctlWrite, h]
theorem Chip.ctlWrite_status_btCmd {r : Reg} {i st : Nat} {e : Chip} (h : ctlReg addr bytes = some (r, i)) (hr : r.name = .btCmd)
    (hst : c.btCmd value = (st, e)) :
    c.ctlWrite path addr bytes value = (if st = ebOk then ebOk else ebApplyRefused, e) := by
  simp only [Chip.ctlWrite, h, if_pos hr, hst]
theorem Chip.ctlWrite_status_mapped {r : Reg} {i : Nat} {d1 : Dev} (h : ctlReg addr bytes = some (r, i)) (hr : r.name ≠ .btCmd)
    (h1 : d1 = c.dev.regWrite r i value) : c.ctlWrite path addr bytes value =
      (if d1.out.any (fun o => decide (o = .applyRefused)) then ebApplyRefused else ebOk, { c with dev := d1 }) := by
  subst h1; simp only [Chip.ctlWrite, h, if_neg hr]

end

/-! ### Flash (R486) -/

/-- FLASH_READ of the right form returns the bytes, or reports the flash; another form is answered LENGTH. -/
theorem Chip.serveFlashRead_answer {fail : Bool} (h : f.takes 6 = true) (hlen : 0 < f.num 4 2) (hmax : f.num 4 2 ≤ 4096) :
    c.serveFlashRead fail f =
      if fail then (c.map (fun d => (d.latchBt 3 0 0).raise evBtFlashError 0)).reply f ebFlash []
      else c.reply f ebOk (c.nv.flashBytes (f.num 0 4) (f.num 4 2)) := by
  simp only [Chip.serveFlashRead, h, decide_eq_false (Nat.ne_of_gt hlen), decide_eq_false (Nat.not_lt.2 hmax), Bool.not_true,
    Bool.or_self, Bool.false_eq_true, if_false]
theorem Chip.serveFlashRead_short {fail : Bool} (h : f.takes 6 = false ∨ f.num 4 2 = 0 ∨ 4096 < f.num 4 2) :
    c.serveFlashRead fail f = c.reply f ebLength [] := by
  refine if_pos ?_
  rcases h with h | h | h
  · rw [h]; rfl
  · rw [h, decide_eq_true rfl, Bool.or_true, Bool.true_or]
  · rw [decide_eq_true h, Bool.or_true]

/-- FLASH_ERASE and FLASH_WRITE of the right form start, or are answered with the status that refuses them. -/
theorem Chip.serveFlashErase_answer {st : Nat} (h : f.takes 4 = true) (hst : c.dev.flashStatus (f.num 0 4) 65536 65536 = st) :
    c.serveFlashErase f = if st = ebOk then c.startFlash f (f.num 0 4) 65536 [] else c.reply f st [] := by
  simp only [Chip.serveFlashErase, h, Bool.not_true, Bool.false_eq_true, if_false, hst]
theorem Chip.serveFlashErase_short (h : f.takes 4 = false) : c.serveFlashErase f = c.reply f ebLength [] := by
  simp only [Chip.serveFlashErase, h, Bool.not_false, if_true]
theorem Chip.serveFlashWrite_answer {st : Nat} {data : List Byte} (hdata : data = f.payload.drop 4) (hsome : data ≠ [])
    (hmax : data.length ≤ 4096) (hst : c.dev.flashStatus (f.num 0 4) data.length 256 = st) :
    c.serveFlashWrite f = if st = ebOk then c.startFlash f (f.num 0 4) data.length data else c.reply f st [] := by
  have hform : (data.isEmpty || decide (4096 < data.length)) = false := by
    rw [decide_eq_false (Nat.not_lt.2 hmax), Bool.or_false]
    exact Bool.eq_false_iff.2 fun hempty => hsome (List.isEmpty_iff.1 hempty)
  subst hdata
  simp only [Chip.serveFlashWrite, hform, Bool.false_eq_true, if_false, hst]
theorem Chip.serveFlashWrite_short (h : f.payload.drop 4 = [] ∨ 4096 < (f.payload.drop 4).length) :
    c.serveFlashWrite f = c.reply f ebLength [] := by
  refine if_pos ?_
  rcases h with h | h
  · rw [h]; rfl
  · rw [decide_eq_true h, Bool.or_true]

/-- An accepted flash command runs, and drops the retained digests where it meets the images of the running partition. -/
theorem Chip.startFlash_eq {d1 : Dev} {addr len : Nat} {data : List Byte}
    (hmeets : c.dev.bt.phase = 9 → meetsImages c.dev.bt.part addr len = true →
      d1 = { c.dev with bt := { c.dev.bt with fw := none, cfg := none, copy := [] } })
    (hnot : c.dev.bt.phase ≠ 9 ∨ meetsImages c.dev.bt.part addr len = false → d1 = c.dev) : c.startFlash f addr len data =
      { c with dev := { d1 with mg := { d1.mg with
        waits := d1.mg.waits ++ [⟨f.opcode, f.tag, 0⟩], flash := some (f.opcode, f.tag, addr, data) } } } := by
  have h1 : d1 = if c.dev.bt.phase = 9 ∧ meetsImages c.dev.bt.part addr len = true then c.dev.dropRetained else c.dev := by
    split
    case isTrue h => exact hmeets h.1 h.2
    case isFalse h =>
      by_cases h9 : c.dev.bt.phase = 9
      · exact hnot (.inr (Bool.eq_false_iff.2 fun hm => h ⟨h9, hm⟩))
      · exact hnot (.inl h9)
  rw [h1]; rfl

/-- The status of a flash command: refused for its alignment or the golden partition, then busy. -/
theorem Dev.flashStatus_unaligned {d : Dev} {addr len align : Nat} (h : addr % align ≠ 0) :
    d.flashStatus addr len align = ebRefused := by
  refine if_pos ?_
  rw [decide_eq_true h, Bool.true_or]
theorem Dev.flashStatus_golden {d : Dev} {addr len align : Nat} (hlife : d.se.life = 2 ∨ d.se.life = 4) (hlo : addr < 0x1900000)
    (hhi : 0x1100000 < addr + len) : d.flashStatus addr len align = ebRefused := by
  have hgold : ((d.se.life == 2 || d.se.life == 4) && meetsGolden addr len) = true := by
    rw [meetsGolden, decide_eq_true hlo, decide_eq_true hhi]
    rcases hlife with h | h <;> rw [h] <;> rfl
  refine if_pos ?_
  rw [hgold, Bool.or_true]
theorem Dev.flashStatus_free {d : Dev} {addr len align : Nat} (halign : addr % align = 0)
    (h : d.se.life ≠ 2 ∧ d.se.life ≠ 4 ∨ 0x1900000 ≤ addr ∨ addr + len ≤ 0x1100000) :
    d.flashStatus addr len align = if d.mg.flash.isSome then ebBusy else ebOk := by
  have hgold : ((d.se.life == 2 || d.se.life == 4) && meetsGolden addr len) = false := by
    rcases h with ⟨h2, h4⟩ | h | h
    · rw [beq_eq_false_iff_ne.2 h2, beq_eq_false_iff_ne.2 h4]; rfl
    · rw [meetsGolden, decide_eq_false (Nat.not_lt.2 h), Bool.false_and, Bool.and_false]
    · rw [meetsGolden, decide_eq_false (Nat.not_lt.2 h), Bool.and_false, Bool.and_false]
  refine if_neg ?_
  rw [hgold, decide_eq_false (not_not_intro halign)]
  exact Bool.false_ne_true

/-- A flash command ends: its work is done unless the flash failed, and its request is answered. -/
theorem Chip.flashDone_eq {fail : Bool} {op tag addr : Nat} {data : List Byte} {d1 : Dev}
    (h : c.dev.mg.flash = some (op, tag, addr, data)) (h1 : d1 = { c.dev with mg := { c.dev.mg with flash := none } }) :
    c.flashDone fail = { dev := d1.ebAnswer (fun w => w.opcode == op && w.tag == tag) false (if fail then ebFlash else ebOk) [],
                         nv := if fail then c.nv else if op = 0x41 then c.nv.erase addr 65536 else c.nv.program addr data } := by
  subst h1; simp only [Chip.flashDone, h]

/-! ### Debug (R450, R486) -/

section
variable {scope : Nat} {serve : Chip → Chip}

/-- A debug command is refused in SCRAPPED, LOCKED without an unlock in scope, and else served and reported. -/
theorem Chip.debug_scrapped (h : c.dev.se.life = 4) : c.debug scope f serve = c.reply f ebRefused [] := if_pos h
theorem Chip.debug_locked (h : c.dev.se.life ≠ 4) (hshut : c.dev.debugOpen scope = false) :
    c.debug scope f serve = c.reply f ebLocked [] := by
  rw [Chip.debug, if_neg h, hshut]; rfl
theorem Chip.debug_open (h : c.dev.se.life ≠ 4) (hopen : c.dev.debugOpen scope = true) :
    c.debug scope f serve = (serve c).map (fun d => d.raise evMgDebugCmd 0) := by
  rw [Chip.debug, if_neg h, hopen]; rfl

end

/-- DBG_READ of the right form: what it reads in the Kiln and elsewhere. -/
def Chip.dbgData (f : EbFrame) (kiln : Bool) (c : Chip) : Chip :=
  if kiln then c.kilnAccess.reply f ebOk (toBytes (f.num 8 2) 0)
  else Chip.reply { c with dev := { c.dev with free := c.dev.free + 1 } } f ebOk
    ((upFrom 0 (f.num 8 2)).map (fun i => Config.debugData c.dev.free i))

theorem Chip.serveDbgRead_debug {kiln : Bool} (h : f.takes 10 = true) (hmax : f.num 8 2 ≤ 4096) :
    c.serveDbgRead kiln f = c.debug 0 f (Chip.dbgData f kiln) := by
  rw [Chip.serveDbgRead, h, decide_eq_false (Nat.not_lt.2 hmax)]; rfl
theorem Chip.serveDbgRead_short {kiln : Bool} (h : f.takes 10 = false ∨ 4096 < f.num 8 2) :
    c.serveDbgRead kiln f = c.reply f ebLength [] := by
  refine if_pos ?_
  rcases h with h | h
  · rw [h]; rfl
  · rw [decide_eq_true h, Bool.or_true]

/-- DBG_WRITE and DBG_CORE of the right form are debug commands; another form is answered LENGTH. -/
theorem Chip.serveDbgWrite_debug {kiln : Bool} (h : 8 ≤ f.payload.length) : c.serveDbgWrite kiln f =
    c.debug 1 f (fun c => (if kiln then c.kilnAccess else c).reply f ebOk []) := if_neg (Nat.not_lt.2 h)
theorem Chip.serveDbgWrite_short {kiln : Bool} (h : f.payload.length < 8) : c.serveDbgWrite kiln f = c.reply f ebLength [] :=
  if_pos h

/-- The state in which an action of DBG_CORE leaves its core. -/
def Chip.dbgCoreDone (f : EbFrame) (core action : Nat) (c : Chip) : Chip :=
  (c.map (fun d => { d with mg := { d.mg with
    cores := Tbl.put .running core (if action = 3 then .running else .halted) d.mg.cores } })).reply f ebOk []

theorem Chip.serveDbgCore_debug {core : Nat} (h : f.takes 2 = true) (hcore : core = f.num 0 1) (hmax : core ≤ 3)
    (hlo : 1 ≤ f.num 1 1) (hhi : f.num 1 1 ≤ 3) :
    c.serveDbgCore (f.num 1 1) f = c.debug 2 f (Chip.dbgCoreDone f core (f.num 1 1)) := by
  subst hcore
  simp only [Chip.serveDbgCore, h, decide_eq_false (Nat.not_lt.2 hmax), decide_eq_false (show ¬f.num 1 1 = 0 by omega),
    decide_eq_false (Nat.not_lt.2 hhi), Bool.not_true, Bool.or_self, Bool.false_eq_true, if_false, ne_eq, not_true_eq_false]
  rfl
theorem Chip.serveDbgCore_short {action : Nat} (h : f.takes 2 = false ∨ 3 < f.num 0 1 ∨ f.num 1 1 = 0 ∨ 3 < f.num 1 1) :
    c.serveDbgCore action f = c.reply f ebLength [] := by
  refine if_pos ?_
  rcases h with h | h | h | h
  · rw [h]; rfl
  · rw [decide_eq_true h]; simp
  · rw [decide_eq_true h]; simp
  · rw [decide_eq_true h, Bool.or_true]

end

/-- Settles O57: a frame of the complex is served by the operation of its opcode, at the right form and else with LENGTH; flash
commands by `Chip.startFlash` and `Chip.flashDone`, debug commands by `Chip.debug`. -/
theorem complexCommands : Obligations.ComplexCommands := by
  refine ⟨fun s bytes f c htake hlen => ⟨fun hw hcount data ok d1 hread =>
        runChip_serves htake rfl (Chip.serveRegRead_run hlen hw hcount hread),
      fun h => runChip_serves htake rfl (Chip.serveRegRead_short (.inr h))⟩,
    fun d d1 d2 n a w k v ok ok2 rest => ?run, fun s bytes f c htake hlen hw => ?write, fun s bytes fail kiln f c => ?short,
    fun s bytes op f c htake hop => ?unknown, fun s bytes f c htake h hlen hmax => ?flashRead,
    fun s bytes f c htake h st hst => ?erase, fun s bytes f c data st htake hdata hsome hmax hst => ?program,
    fun c d1 f addr len align data hmeets hnot => ⟨Chip.startFlash_eq hmeets hnot, Dev.flashStatus_unaligned,
      Dev.flashStatus_golden, Dev.flashStatus_free⟩,
    fun s c op tag addr data hc h d1 h1 => ⟨runChip_next (f := fun c => c.flashDone true) hc (Chip.flashDone_eq h h1),
      runChip_next (f := fun c => c.flashDone false) hc (Chip.flashDone_eq h h1)⟩,
    fun s bytes f c htake h hmax => ?dbgRead, fun s bytes f c htake h hmax => ?dbgKiln, fun s bytes f c htake h => ?dbgWrite,
    fun s bytes f c st htake h hcore hlo hhi hst => ?dbgRefused, fun s bytes f c core htake h hcore hmax hlife hopen => ?dbgCore⟩
  case run =>
    refine ⟨rfl, fun hread hrest => ?_, fun hno => ?_, fun r i hreg => ?_⟩
    · simp only [Dev.readRun, hread, hrest]
    · simp only [Dev.ctlReadAt, hno, Dev.unmapped]
    · simp only [Dev.ctlReadAt, hreg]
  case write =>
    have hrun {st : Nat} {e : Chip} (h : c.ctlWrite 0 (f.num 0 4) (f.num 4 1) (f.num 8 (f.num 4 1)) = (st, e)) :
        exec (.regWrite bytes) s = .next (s.afterChip (e.reply f st [])) :=
      runChip_serves htake rfl (Chip.serveRegWrite_answer hlen hw h)
    exact ⟨fun hno => hrun (Chip.ctlWrite_status_unmapped hno),
      fun r i d1 hreg hname h1 => hrun (Chip.ctlWrite_status_mapped hreg hname h1),
      fun r i st c1 hreg hname hst => hrun (Chip.ctlWrite_status_btCmd hreg hname hst)⟩
  case short =>
    refine ⟨fun htake h => runChip_serves htake rfl (Chip.serveRegRead_short (.inl h)),
      fun htake h => runChip_serves htake rfl (Chip.serveRegWrite_short h),
      fun htake h => runChip_serves htake rfl (Chip.serveFlashRead_short h),
      fun htake h => runChip_serves htake rfl (Chip.serveFlashErase_short h),
      fun htake h => runChip_serves htake rfl (Chip.serveFlashWrite_short h),
      fun htake h => runChip_serves htake rfl (Chip.serveDbgRead_short h),
      fun htake h => runChip_serves htake rfl (Chip.serveDbgWrite_short h), fun htake h => ?_,
      fun htake h => runChip_serves htake rfl (if_neg (Bool.eq_false_iff.1 h)), fun htake h c1 h1 => ?_⟩
    · have hcore (action : Nat) : c.serveDbgCore action f = c.reply f ebLength [] := Chip.serveDbgCore_short h
      exact ⟨runChip_serves htake rfl (hcore _), runChip_serves htake rfl (hcore _), runChip_serves htake rfl (hcore _)⟩
    · have hserve : c.serveMh f = c1 := (if_pos h).trans h1.symm
      exact ⟨runChip_serves htake rfl hserve, runChip_serves htake rfl hserve, runChip_serves htake rfl hserve,
        runChip_serves htake rfl hserve, runChip_serves htake rfl hserve⟩
  case unknown =>
    exact runChip_serves htake (by rw [hop]; rfl) rfl
  case flashRead =>
    exact ⟨runChip_serves htake rfl (Chip.serveFlashRead_answer h hlen hmax),
      runChip_serves htake rfl (Chip.serveFlashRead_answer h hlen hmax)⟩
  case erase =>
    exact ⟨fun hok => runChip_serves htake rfl ((Chip.serveFlashErase_answer h hst).trans (if_pos hok)),
      fun hno => runChip_serves htake rfl ((Chip.serveFlashErase_answer h hst).trans (if_neg hno))⟩
  case program =>
    have hserve := Chip.serveFlashWrite_answer (c := c) hdata hsome hmax hst
    exact ⟨fun hok => runChip_serves htake rfl (hserve.trans (if_pos hok)),
      fun hno => runChip_serves htake rfl (hserve.trans (if_neg hno))⟩
  case dbgRead =>
    have hdebug := Chip.serveDbgRead_debug (c := c) (kiln := false) h hmax
    exact ⟨fun hlife hshut => runChip_serves htake rfl (hdebug.trans (Chip.debug_locked hlife hshut)),
      fun hlife hopen => runChip_serves htake rfl (hdebug.trans (Chip.debug_open hlife hopen))⟩
  case dbgKiln =>
    have hdebug (kiln : Bool) := Chip.serveDbgRead_debug (c := c) (kiln := kiln) h hmax
    exact ⟨fun hlife hopen => runChip_serves htake rfl ((hdebug true).trans (Chip.debug_open hlife hopen)),
      fun kiln hlife => runChip_serves htake rfl ((hdebug kiln).trans (Chip.debug_scrapped hlife)),
      fun hlife hshut => runChip_serves htake rfl ((hdebug true).trans (Chip.debug_locked hlife hshut))⟩
  case dbgWrite =>
    have hdebug (kiln : Bool) := Chip.serveDbgWrite_debug (c := c) (kiln := kiln) h
    exact ⟨fun hlife hopen => ⟨runChip_serves htake rfl ((hdebug false).trans (Chip.debug_open hlife hopen)),
        runChip_serves htake rfl ((hdebug true).trans (Chip.debug_open hlife hopen))⟩,
      fun kiln hlife => runChip_serves htake rfl ((hdebug kiln).trans (Chip.debug_scrapped hlife)),
      fun kiln hlife hshut => runChip_serves htake rfl ((hdebug kiln).trans (Chip.debug_locked hlife hshut))⟩
  case dbgRefused =>
    have hserve : c.serveDbgCore (f.num 1 1) f = c.reply f st [] := by
      rw [Chip.serveDbgCore_debug h rfl hcore hlo hhi]
      rcases hst with ⟨hlife, hst⟩ | ⟨hlife, hshut, hst⟩
      · rw [hst]; exact Chip.debug_scrapped hlife
      · rw [hst]; exact Chip.debug_locked hlife hshut
    exact ⟨runChip_serves htake rfl hserve, runChip_serves htake rfl hserve, runChip_serves htake rfl hserve⟩
  case dbgCore =>
    have hserve (hlo : 1 ≤ f.num 1 1) (hhi : f.num 1 1 ≤ 3) : c.serveDbgCore (f.num 1 1) f =
        (Chip.dbgCoreDone f core (f.num 1 1) c).map (fun d => d.raise evMgDebugCmd 0) :=
      (Chip.serveDbgCore_debug h hcore hmax hlo hhi).trans (Chip.debug_open hlife hopen)
    refine ⟨fun haction => runChip_serves htake rfl ?_, fun haction => runChip_serves htake rfl ?_,
      fun haction => runChip_serves htake rfl ?_⟩
    all_goals rw [hserve (by omega) (by omega), haction]; rfl

end Sys2Proof.Machine
/-! SUPPORT. The I3C target: responses, in-band interrupts, CCCs, the legacy fallback and MC_ALIVE (R478 to R492). -/

namespace Sys2Proof.Machine

section
variable {d : Dev}

/-! ### Responses and in-band interrupts (R483, R484, R492) -/

/-- A read returns the oldest ready response; read whole, it is gone. -/
theorem Dev.responseRead_part {d1 : Dev} {x : EbResp} {rest : List EbResp} (hup : d.i3cUp = true) (hready : d.mg.ready = x :: rest)
    (h1 : d1 = d.emit (.i3c (x.bytes.take d.mg.mrl))) : d.responseRead false = d1 := by
  subst h1
  simp only [Dev.responseRead, hup, hready, Bool.not_true, Bool.not_false, Bool.false_eq_true, if_false, if_true]
theorem Dev.responseRead_whole {d1 d2 d3 : Dev} {x : EbResp} {rest : List EbResp} (hup : d.i3cUp = true)
    (hready : d.mg.ready = x :: rest) (h1 : d1 = d.emit (.i3c (x.bytes.take d.mg.mrl)))
    (h2 : d2 = { d1 with mg := { d1.mg with ready := rest, told := d.mg.told - 1 } })
    (h3 : d3 = if d.mg.mrl < x.bytes.length then (d2.latchMg 5 0 0).raise evMgFrameForm 0 else d2) :
    d.responseRead true = if x.opcode = 6 then d3.resetDue else d3 := by
  subst h3 h2 h1
  simp only [Dev.responseRead, hup, hready, Bool.not_true, Bool.false_eq_true, if_false]
  rfl

/-- Without a ready response a read is NACKed; a target that is down answers nothing. -/
theorem Dev.responseRead_empty {whole : Bool} (hup : d.i3cUp = true) (hnone : d.mg.ready = []) :
    d.responseRead whole = d.emit .i3cNack := by
  simp only [Dev.responseRead, hup, hnone, Bool.not_true, Bool.false_eq_true, if_false]
theorem Dev.responseRead_down {whole : Bool} (hdown : d.i3cUp = false) : d.responseRead whole = d := by
  simp only [Dev.responseRead, hdown, Bool.not_false, if_true]

/-- An outcome of an IBI that none asked for does nothing. -/
theorem Dev.ibi_none (h : d.mg.ibiAsked = none) : d.ibiAck = d ∧ d.ibiRetry = d :=
  ⟨by simp only [Dev.ibiAck, h], by simp only [Dev.ibiRetry, h]⟩

section
variable {b : Nat} (h : d.mg.ibiAsked = some b)
include h

/-- An acknowledged IBI takes its record or tells of the responses; a NACKed one is asked again, and the sixteenth reported. -/
theorem Dev.ibiAck_asked : d.ibiAck = if b = 2 then
      { d with mg := { d.mg with ibiAsked := none, nacks := 0 }, fe := { d.fe with i3c := d.fe.i3c.drop 1 } }
    else { d with mg := { d.mg with ibiAsked := none, nacks := 0, told := d.mg.ready.length } } := by
  simp only [Dev.ibiAck, h]
theorem Dev.ibiRetry_asked : d.ibiRetry = if d.mg.nacks + 1 = 16 then
      ({ d with mg := { d.mg with ibiAsked := none, nacks := 0 } }).raise evMgIbiNacked 0
    else { d with mg := { d.mg with ibiAsked := none, nacks := d.mg.nacks + 1 } } := by
  simp only [Dev.ibiRetry, h]

end

/-! ### CCCs (R478, R479) -/

section
variable (hup : d.i3cUp = true)
include hup

/-- Hot-Join asks for an address where the target has none and may ask. -/
theorem Dev.hotJoin_asks (hnone : d.mg.addr = none) (hon : d.mg.hotJoinOff = false) : d.hotJoin = d.emit .hotJoin := by
  simp only [Dev.hotJoin, hup, hnone, hon, Option.isNone_none, Bool.not_false, Bool.and_self, if_true]

/-- A CCC acts on a target that is up. -/
theorem Dev.ccc_up (f : Dev → Dev) : d.ccc f = f d := if_pos hup

/-- A directed CCC needs a dynamic address. -/
theorem Dev.direct_none (hnone : d.mg.addr = none) (f : Dev → Dev) : d.direct f = d.emit .i3cNack := by
  simp only [Dev.direct, Dev.ccc, hup, hnone, Option.isSome_none, Bool.false_eq_true, if_false, if_true]
theorem Dev.direct_some {a : Nat} (haddr : d.mg.addr = some a) (f : Dev → Dev) : d.direct f = f d := by
  simp only [Dev.direct, Dev.ccc, hup, haddr, Option.isSome_some, if_true]

/-- ENTDAA assigns an address to a target without one. -/
theorem Dev.entdaa_none {a : Nat} (hnone : d.mg.addr = none) : d.entdaa a = d.assign a := by
  rw [Dev.entdaa, Dev.ccc_up hup, hnone]; rfl
theorem Dev.entdaa_some {a old : Nat} (haddr : d.mg.addr = some old) : d.entdaa a = d := by
  rw [Dev.entdaa, Dev.ccc_up hup, haddr]; rfl

/-- SETDASA assigns an address at the static address of a target without one. -/
theorem Dev.setdasa_own {own a : Nat} (hnone : d.mg.addr = none) (hown : own = 0x2C + d.bt.straps % 4) :
    d.setdasa own a = d.assign a := by
  rw [Dev.setdasa, Dev.ccc_up hup]
  exact if_pos ⟨hown, by rw [hnone]; rfl⟩
theorem Dev.setdasa_other {own a : Nat} (h : own ≠ 0x2C + d.bt.straps % 4 ∨ d.mg.addr.isSome = true) :
    d.setdasa own a = d.emit .i3cNack := by
  rw [Dev.setdasa, Dev.ccc_up hup]
  refine if_neg fun ⟨hown, hnone⟩ => ?_
  rcases h with hother | hsome
  · exact hother hown
  · rw [Option.isNone_iff_eq_none.1 hnone] at hsome
    exact Bool.false_ne_true hsome

end

/-- A Hot-Join that has an address, or is switched off, asks for none. -/
theorem Dev.hotJoin_silent (h : d.mg.addr.isSome = true ∨ d.mg.hotJoinOff = true) : d.hotJoin = d := by
  rcases h with h | h
  · obtain ⟨a, ha⟩ := Option.isSome_iff_exists.1 h
    simp only [Dev.hotJoin, ha, Option.isNone_some, Bool.and_false, Bool.false_and, Bool.false_eq_true, if_false]
  · simp only [Dev.hotJoin, h, Bool.not_true, Bool.and_false, Bool.false_eq_true, if_false]

/-- An address of 7 bits is assigned as it is. -/
theorem Dev.assign_small {a : Nat} (ha : a < 128) :
    d.assign a = ({ d with mg := { d.mg with addr := some a, legacy := false } }).raise evMgAddrAssigned 0 := by
  rw [Dev.assign, Nat.mod_eq_of_lt ha]

/-- RSTACT beyond 0x01 is NACKed. -/
theorem Dev.rstact_other {old : Nat} (hup : d.i3cUp = true) (haddr : d.mg.addr = some old) :
    ∀ {a : Nat}, 2 ≤ a → d.rstact a = d.emit .i3cNack
  | _ + 2, _ => Dev.direct_some hup haddr _

/-! ### MC_ALIVE (R463, R488) -/

/-- A management complex that falls silent drops what was forwarded to it, and may fail the start. -/
theorem Dev.mcWedged_alive {d1 : Dev} (halive : d.mg.alive = true)
    (h1 : d1 = ({ d with mg := { d.mg with alive := false } }).raise evMgMcWedged 0) :
    d.mcWedged = (d1.dropForwarded d1.mg.waits.length).startFailed := by
  subst h1; exact if_pos halive

/-- Forwarded requests are dropped one by one. -/
theorem Dev.dropForwarded_none (h : d.mg.waits.any (fun w => !(islandOp w.opcode)) = false) :
    ∀ n, d.dropForwarded n = d
  | 0 => rfl
  | _ + 1 => if_neg (Bool.eq_false_iff.1 h)

end

/-! ### The legacy fallback (R480) -/

section
variable {c c1 : Chip} {x : EbInputs}

/-- The fallback is open without a dynamic address, where the strap allows it. -/
theorem Dev.legacyOpen_closed {d : Dev} (h : d.i3cUp = false ∨ flag d.bt.straps 2 = false ∨ d.mg.addr.isSome = true) :
    d.legacyOpen = false := by
  rcases h with h | h | h
  · simp only [Dev.legacyOpen, h, Bool.false_and]
  · simp only [Dev.legacyOpen, h, Bool.and_false, Bool.false_and]
  · obtain ⟨a, ha⟩ := Option.isSome_iff_exists.1 h
    simp only [Dev.legacyOpen, ha, Option.isNone_some, Bool.and_false]

section
variable (hup : c.dev.i3cUp = true) (hnone : c.dev.mg.addr = none) (hstrap : flag c.dev.bt.straps 2 = true)
  (hfirst : c1 = if c.dev.mg.legacy then c
    else c.map (fun d => ({ d with mg := { d.mg with legacy := true } }).raise evMgLegacyI2c 0))
include hup hnone hstrap hfirst

/-- The first transfer is reported; a read returns a response, and a write carries a frame. -/
theorem Chip.legacyI2c_read : c.legacyI2c none x = c1.map (fun d => d.responseRead true) := by
  subst hfirst
  simp only [Chip.legacyI2c, Dev.legacyOpen, hup, hstrap, hnone, Option.isNone_none, Bool.and_self, Bool.not_true,
    Bool.false_eq_true, if_false]
theorem Chip.legacyI2c_write {bytes : List Byte} :
    c.legacyI2c (some bytes) x = c1.eboury bytes (fun _ => true) (fun f c => c.serve x f) := by
  subst hfirst
  simp only [Chip.legacyI2c, Dev.legacyOpen, hup, hstrap, hnone, Option.isNone_none, Bool.and_self, Bool.not_true,
    Bool.false_eq_true, if_false]

end

/-- A frame comes to what its check leaves. -/
theorem Chip.eboury_served {c2 : Chip} {bytes : List Byte} {f : EbFrame} {serve : EbFrame → Chip → Chip}
    (h : c.dev.ebCheck bytes = (some f, c2.dev)) (hnv : c2.nv = c.nv) : c.eboury bytes (fun _ => true) serve = serve f c2 := by
  cases c2; cases hnv
  simp only [Chip.eboury, h, if_true]
theorem Chip.eboury_checked {c2 : Chip} {bytes : List Byte} {ops : Nat → Bool} {serve : EbFrame → Chip → Chip}
    (h : c.dev.ebCheck bytes = (none, c2.dev)) (hnv : c2.nv = c.nv) : c.eboury bytes ops serve = c2 := by
  cases c2; cases hnv
  simp only [Chip.eboury, h]

end

/-- GETPID is an operation of the device. -/
theorem runChip_getpid (s : State) :
    runChip s (fun c => c.map (fun d => d.getpid c.nv)) = runDev s (fun d => d.getpid s.chip.nv) := rfl

/-- Settles O58: a read is `Dev.responseRead`, an IBI `Dev.ibiAck` and `Dev.ibiRetry`, a CCC `Dev.ccc` or `Dev.direct`, and the
fallback `Chip.legacyI2c`. -/
theorem i3cTarget : Obligations.I3cTarget := by
  refine ⟨fun s d d1 x rest hd hup hready h1 => ?response, fun s d whole hd => ?nothing, fun s d b hd hasked => ?ibi,
    fun s d hd hup hnone => ?unaddressed, fun s c c1 c2 x hc hup hnone hstrap hold hnew => ?legacy,
    fun s d write x hd h => ?closed, fun s d bits hd hup => ?settings, fun s d old hd hup haddr => ?addressed,
    fun s d hd => ?faults, fun d n => ⟨rfl, fun h => Dev.dropForwarded_none h n, fun h => if_pos h⟩⟩
  case response =>
    refine ⟨runDev_next (f := fun d => d.responseRead false) hd (Dev.responseRead_part hup hready h1),
      fun d2 d3 h2 hshort hlong => ?_⟩
    have h3 : d3 = if d.mg.mrl < x.bytes.length then (d2.latchMg 5 0 0).raise evMgFrameForm 0 else d2 := by
      split
      case isTrue h => exact hlong h
      case isFalse h => exact hshort (Nat.not_lt.1 h)
    have hread := Dev.responseRead_whole hup hready h1 h2 h3
    exact ⟨fun hop => runDev_next (f := fun d => d.responseRead true) hd (hread.trans (if_neg hop)),
      fun hop => runDev_next (f := fun d => d.responseRead true) hd (hread.trans (if_pos hop))⟩
  case nothing =>
    exact ⟨fun hup hnone => runDev_next (f := fun d => d.responseRead whole) hd (Dev.responseRead_empty hup hnone),
      fun hdown => runDev_next (f := fun d => d.responseRead whole) hd (Dev.responseRead_down hdown),
      fun h => ⟨runDev_next (f := fun d => d.ibiAck) hd (Dev.ibi_none h).1,
        runDev_next (f := fun d => d.ibiRetry) hd (Dev.ibi_none h).2⟩⟩
  case ibi =>
    have hack := Dev.ibiAck_asked hasked
    have hretry := Dev.ibiRetry_asked hasked
    exact ⟨fun hb => runDev_next (f := fun d => d.ibiAck) hd (hack.trans (if_pos hb)),
      fun hb => runDev_next (f := fun d => d.ibiAck) hd (hack.trans (if_neg (by omega))),
      fun hn => runDev_next (f := fun d => d.ibiRetry) hd (hretry.trans (if_neg (by omega))),
      fun hn => runDev_next (f := fun d => d.ibiRetry) hd (hretry.trans (if_pos (by omega)))⟩
  case unaddressed =>
    have hnack (f : Dev → Dev) : runDev s (fun d => d.direct f) = .next (s.after (d.emit .i3cNack)) :=
      runDev_next (f := fun d => d.direct f) hd (Dev.direct_none hup hnone f)
    refine ⟨fun hon => runDev_next (f := fun d => d.hotJoin) hd (Dev.hotJoin_asks hup hnone hon),
      fun a ha => runDev_next (f := fun d => d.entdaa a) hd ((Dev.entdaa_none hup hnone).trans (Dev.assign_small ha)),
      fun a ha own hown => runDev_next (f := fun d => d.setdasa own a) hd
        ((Dev.setdasa_own hup hnone hown).trans (Dev.assign_small ha)),
      fun a own hother => runDev_next (f := fun d => d.setdasa own a) hd (Dev.setdasa_other hup (.inl hother)),
      fun hoff => runDev_next (f := fun d => d.hotJoin) hd (Dev.hotJoin_silent (.inr hoff)), hnack _, hnack _, ?_, hnack _,
      hnack _, hnack _, hnack _, fun a => ⟨hnack _, hnack _⟩⟩
    exact (runChip_getpid s).trans <| runDev_next (f := fun d => d.getpid s.chip.nv) hd (Dev.direct_none hup hnone _)
  case legacy =>
    have hfirst : c1 = if c.dev.mg.legacy then c
        else c.map (fun d => ({ d with mg := { d.mg with legacy := true } }).raise evMgLegacyI2c 0) := by
      cases h : c.dev.mg.legacy with
      | true => exact hold h
      | false => exact hnew h
    have hwrite {bytes : List Byte} := Chip.legacyI2c_write (x := x) (bytes := bytes) hup hnone hstrap hfirst
    exact ⟨runChip_next (f := fun c => c.legacyI2c none x) hc (Chip.legacyI2c_read hup hnone hstrap hfirst),
      fun bytes f hcheck hnv => runChip_next (f := fun c => c.legacyI2c (some bytes) x) hc
        (hwrite.trans (Chip.eboury_served hcheck hnv)),
      fun bytes hcheck hnv => runChip_next (f := fun c => c.legacyI2c (some bytes) x) hc
        (hwrite.trans (Chip.eboury_checked hcheck hnv))⟩
  case closed =>
    refine runChip_dev (f := fun c => c.legacyI2c write x) hd fun c hc => ?_
    subst hc
    rw [Chip.legacyI2c, Dev.legacyOpen_closed h]; rfl
  case settings =>
    refine ⟨runDev_next (f := fun d => d.events bits false) hd (Dev.ccc_up hup _),
      runDev_next (f := fun d => d.events bits true) hd (Dev.ccc_up hup _), runDev_next (f := fun d => d.rstdaa) hd (Dev.ccc_up hup _),
      fun v hv => runDev_next (f := fun d => d.setmwl v) hd ?_, fun v hv => runDev_next (f := fun d => d.setmrl v) hd ?_⟩
    · rw [Dev.setmwl, Dev.ccc_up hup, Nat.mod_eq_of_lt hv]
    · rw [Dev.setmrl, Dev.ccc_up hup, Nat.mod_eq_of_lt hv]
  case addressed =>
    have hsome : d.mg.addr.isSome = true := by rw [haddr]; rfl
    have hdirect (f : Dev → Dev) : runDev s (fun d => d.direct f) = .next (s.after (f d)) :=
      runDev_next (f := fun d => d.direct f) hd (Dev.direct_some hup haddr f)
    refine ⟨fun a ha => runDev_next (f := fun d => d.setnewda a) hd ((Dev.direct_some hup haddr _).trans (Dev.assign_small ha)),
      fun a => runDev_next (f := fun d => d.entdaa a) hd (Dev.entdaa_some hup haddr),
      runDev_next (f := fun d => d.hotJoin) hd (Dev.hotJoin_silent (.inl hsome)),
      fun own a => runDev_next (f := fun d => d.setdasa own a) hd (Dev.setdasa_other hup (.inr hsome)), ?_, hdirect _, hdirect _,
      hdirect _, hdirect _, hdirect _, hdirect _, hdirect _, hdirect _,
      fun a ha => runDev_next (f := fun d => d.rstact a) hd (Dev.rstact_other hup haddr ha)⟩
    exact (runChip_getpid s).trans <| runDev_next (f := fun d => d.getpid s.chip.nv) hd (Dev.direct_some hup haddr _)
  case faults =>
    exact ⟨runDev_next (f := fun d => d.busError) hd rfl, runDev_next (f := fun d => d.islandParity) hd rfl,
      fun d1 halive h1 => runDev_next (f := fun d => d.mcWedged) hd (Dev.mcWedged_alive halive h1),
      fun hsilent => runDev_next (f := fun d => d.mcWedged) hd (if_neg (Bool.eq_false_iff.1 hsilent)),
      fun hp => runDev_next (f := fun d => d.mcReturn) hd (if_pos hp),
      fun hp => runDev_next (f := fun d => d.mcReturn) hd (if_neg (Nat.not_le.2 hp))⟩

end Sys2Proof.Machine
